-- ==== Sys2Proof/Word.lean ====
section
/-! DEFINITION. The word types of the K48 and the numberings the spec fixes for its units (R14, R88, R258). -/

namespace Sys2Proof

/-- A byte, the smallest addressable unit of scratchpad and of module memory. -/
abbrev Byte := BitVec 8

/-- A 32-bit word of the tile core. -/
abbrev Word := BitVec 32

/-- A vector register, 512 bytes, lane 0 in the low bits (R83, R594). -/
abbrev Vec := BitVec 4096

/-- Slot number t of a tile on the die (R258). -/
abbrev Slot := Fin 624

/-- A strand (R140). -/
abbrev StrandId := Fin 48

/-- A channel of the channel table (R325, R329). -/
abbrev Chan := Fin 4096

/-- A Wazel port W0 to W7 (R394). -/
abbrev Port := Fin 8

/-- A sub-channel of the memory (R251). -/
abbrev SubCh := Fin 96

end Sys2Proof
end

