-- ==== Sys2Proof/Machine/OperandTypes.lean ====
section
/-! DEFINITION. The types of the operands that commands carry: the tile instruction with its encoded
fields (R87 to R103, R594), the message source, memory requests, sealed inputs, Berjor requests, fabric
packets. Every type is plain data. -/

namespace Sys2Proof.Machine

/-- Scalar functions of OP 0x00 and 0x01 (R88), in the order of FN. -/
inductive AluFn where
  | add | sub | and | or | xor | shl | shr | sra | mul | slt | sltu | min | max | minu | maxu
  deriving DecidableEq, Repr

/-- Loads of OP 0x02 (R88). -/
inductive LoadFn where
  | lb | lh | lw | lbu | lhu
  deriving DecidableEq, Repr

/-- Stores of OP 0x03 (R88). -/
inductive StoreFn where
  | sb | sh | sw
  deriving DecidableEq, Repr

/-- Branches of OP 0x04 (R88). -/
inductive BranchFn where
  | beq | bne | blt | bge | bltu | bgeu
  deriving DecidableEq, Repr

/-- Vector functions of VFN (R83, R595 to R598). -/
inductive VecFn where
  | vadd | vsub | vmul | vfma | vmin | vmax | vabs | vneg | vcmplt | vcmpeq | vsel | vbcast
  | viadd | vimul | vshift | vlogic | vpopc
  | vcvt | vqb | vdqb
  | vexp | vexp2 | vlog | vlog2 | vrsqrt | vrecip | vsqrt
  | vsigm | vtanh | vgelu | vsilu | vsoftplus
  | vrsum | vrmax | vrmin | vrargmax | vrargmin
  | vld | vst | vperm
  deriving DecidableEq, Repr

/-- The fields of a vector instruction (the encoding table after R598). -/
structure VecOp where
  vd : BitVec 3
  va : BitVec 3
  vb : BitVec 3
  vc : BitVec 3
  ty : BitVec 2
  rsv : BitVec 6
  h : BitVec 6
  offset : BitVec 26
  deriving DecidableEq, Repr

/-- The fields of an MMB instruction (R89). -/
structure MmbOp where
  ha : BitVec 6
  hb : BitVec 6
  hc : BitVec 6
  rsv75 : BitVec 3
  g : BitVec 2
  rsv20 : BitVec 3
  fmtA : BitVec 4
  fmtB : BitVec 4
  cfmt : BitVec 2
  ta : Bool
  tb : Bool
  acc : Bool
  gmode : Bool
  hmode : Bool
  rsv1 : BitVec 17
  deriving DecidableEq, Repr

/-- The fields of SEND (R95). -/
structure SendOp where
  rds : BitVec 5
  rdst : BitVec 5
  rlen : BitVec 5
  h : BitVec 6
  cnet : Bool
  reply : Bool
  pri : Bool
  rsv : BitVec 2
  deriving DecidableEq, Repr

/-- The fields of the receive class (R98). -/
structure RecvOp where
  rd : BitVec 5
  rm : BitVec 5
  rotate : Bool
  nb : Bool
  rsv : BitVec 8
  qimm : BitVec 4
  deriving DecidableEq, Repr

/-- The fields of the token class (R100). -/
structure TokOp where
  su : BitVec 2
  ra : BitVec 5
  tval : BitVec 8
  rb : BitVec 5
  rsv : BitVec 4
  deriving DecidableEq, Repr

/-- The fields of the handle class (R103). -/
structure HandleOp where
  h : BitVec 6
  h2 : BitVec 6
  ra : BitVec 5
  rb : BitVec 5
  rsv : BitVec 1
  deriving DecidableEq, Repr

/-- A tile instruction with every field of its encoding, reserved bits included (R87). -/
inductive Tis where
  | alu (f : AluFn) (rd ra rb : BitVec 5) (rsv : BitVec 7)
  | alui (f : AluFn) (rd ra : BitVec 5) (imm : BitVec 12)
  | load (f : LoadFn) (rd base : BitVec 5) (imm : BitVec 12)
  | store (f : StoreFn) (rd base : BitVec 5) (imm : BitVec 12)
  | branch (f : BranchFn) (ra rb : BitVec 5) (off : BitVec 13)
  | jal (rd : BitVec 5) (off : BitVec 20)
  | jr (rd ra : BitVec 5) (rsv : BitVec 15)
  | lui (rd : BitVec 5) (rsv : BitVec 1) (imm : BitVec 20)
  | lseti (lc : BitVec 4) (opnd : BitVec 19)
  | lsetr (lc : BitVec 4) (r : BitVec 5) (rsv : BitVec 14)
  | loop (lc : BitVec 4) (off : BitVec 19)
  | linc (lc : BitVec 4) (imm : BitVec 19)
  | lget (lc : BitVec 4) (r : BitVec 5) (rsv : BitVec 14)
  | lbz (lc : BitVec 4) (off : BitVec 19)
  | toki (o : TokOp)
  | tokr (o : TokOp)
  | tokl (o : TokOp)
  | tstat (o : TokOp)
  | send (o : SendOp)
  | recvsel (o : RecvOp)
  | qrel (o : RecvOp)
  | mmb (o : MmbOp)
  | vec (f : VecFn) (o : VecOp)
  | hset (o : HandleOp)
  | hget (o : HandleOp)
  | hswap (o : HandleOp)
  | hfill (o : HandleOp)
  | hunfill (o : HandleOp)
  | hinv (o : HandleOp)
  | fence (remote mem net scratch : Bool) (rsv : BitVec 22)
  | bar (bid : BitVec 6) (rsv : BitVec 20)
  | halt (rd ra : BitVec 5) (csr : BitVec 12)
  | csrr (rd ra : BitVec 5) (csr : BitVec 12)
  | csrw (rd ra : BitVec 5) (csr : BitVec 12)
  | trap (rd ra : BitVec 5) (csr : BitVec 12)
  deriving DecidableEq, Repr

/-- Which outstanding message an event is about: entry `i` of a tile's message unit, a tile's
forwarding slot (R161), message `i` of the senders that are not tiles (R232), or a steering unit's message to a
local queue (R161). -/
inductive MsgSrc where
  | tile (t : Slot) (i : Nat)
  | fwd (t : Slot)
  | node (i : Nat)
  | steer (t : Slot) (u : Fin 4)
  deriving DecidableEq, Repr

/-- Who made a memory read, as the outcome table of R267 divides readers. -/
inductive Reader where
  | tileVld (t : Slot)
  | spill (t : Slot)
  | primer (s : StrandId) (k : Fin 24)
  | checkpoint (s : StrandId)
  | service (c : Chan) (i : BitVec 16)
  | abano
  | scrub
  | plain
  deriving DecidableEq, Repr

/-- A line request at a memory node (R269): a line number (module address ÷ 64), for a write its 64
bytes, for a read the number of 8-bit symbols found in error (R266) and who reads. -/
structure MemReq where
  write : Bool
  line : BitVec 34
  data : List Byte
  errs : Nat
  reader : Reader
  deriving DecidableEq, Repr

/-- What the channel engine got when it read 128 bytes of a channel entry from host memory (R330, R331). -/
structure EntryRead where
  bytes : List Byte
  error : Bool
  deriving DecidableEq, Repr

/-- A sealed object as it reached an ingest engine (R300): its header bytes, the bytes after it, and whether the host
read ended in an error (R341). -/
structure Sealed where
  hdr : List Byte
  body : List Byte
  dmaError : Bool
  deriving DecidableEq, Repr

/-- A sealed envelope given back to the module (R382, R388): its header bytes, then ciphertext and tag. -/
structure Envelope where
  hdr : List Byte
  body : List Byte
  deriving DecidableEq, Repr

/-- What the vault's SM2 engines found of a wrapped key (R294, R295): OWNER_SIG verifies over bytes 0 to 143 with the Z
of the owner key (`sm2Digest`), and EPH_PUB is a point of the curve. Log 12 (DESIGN CHOICE). -/
structure KeyCheck where
  ownerSigOk : Bool
  pointOk : Bool
  deriving DecidableEq, Repr

/-- One embedded passage of a job (R371, R376). Log 132 (DEDUCED). -/
structure Passage where
  part : BitVec 16
  passage : BitVec 16
  modality : Byte
  language : BitVec 16
  scale : Word
  elems : List Byte
  deriving DecidableEq, Repr

/-- A label score of a classifier over one run (R363, R372). Log 132 (DEDUCED). -/
structure LabelHit where
  classifier : Byte
  label : BitVec 16
  score : Word
  deriving DecidableEq, Repr

/-- A part that extraction yields (R366): the code points of a text, the width and height of an image, or the frames of
audio. -/
inductive Part where
  | text (points : List Nat)
  | image (width height : Nat)
  | audio (frames : Nat)
  deriving DecidableEq, Repr

/-- What extraction and the sequences of a job yielded (R366 to R372): the parts, numbered as the list stands, and what
the output blocks hold. `malformed` says that a part was malformed (R367, R378), `limit` that a limit of R367 was met.
Log 132 (DEDUCED). -/
structure Extract where
  mediaType : Nat
  suits : Bool
  malformed : Bool
  limit : Bool
  parts : List Part
  vectors : List Passage
  labels : List LabelHit
  languages : List (BitVec 16)
  neardup : List Byte
  deriving DecidableEq, Repr

/-- A Berjor request or notification acknowledgement as received (R540), with what the boot node's
checks found: the address it came from, whether it came on the console, whether the header is well
formed, whether the TAG verifies, and, for a WRITE_END, whether the value's SM3 digest matches. The operation `op` is
WRITE_END (R541) or, in a write that carries the whole value, WRITE; other rows name their operation.
Log 12 (DESIGN CHOICE). -/
structure BjReq where
  ip : BitVec 32
  console : Bool
  wellFormed : Bool
  tagOk : Bool
  digestOk : Bool
  op : BitVec 7
  session : Nat
  seq : BitVec 32
  index : BitVec 16
  sub : BitVec 8
  offset : Nat
  len : Nat
  payload : List Byte
  deriving DecidableEq, Repr

/-- Where a wrapped key comes from (R295): a key-install descriptor of a channel, or a write of key_install. -/
inductive KeySource where
  | channel (c : Chan) (i : BitVec 16) (blob : List Byte)
  | entry (r : BjReq)
  deriving DecidableEq, Repr

/-- The level asked for by SESSION_OPEN (R538). -/
inductive Level where
  | observer | operator | owner | factory
  deriving DecidableEq, Repr

/-- Packet types of R402. -/
inductive PType where
  | msg | wwrite | ack | nack | status | wclose | wcloseAck | disc | raw
  deriving DecidableEq, Repr

/-- The vector that a text query's sequence put into its output block (R385). -/
structure Embedded where
  scale : Word
  elems : List Byte
  deriving DecidableEq, Repr

/-- Readings of a tile's two replica monitors in percent: beside the matrix engine and beside the banks (R27). -/
structure Margins where
  matrix : Nat
  banks : Nat
  deriving DecidableEq, Repr

/-- The margin: the lower of the two. -/
def Margins.least (m : Margins) : Nat := min m.matrix m.banks

/-- A fabric packet (R402): its header fields, its payload and its tag. On a wire and in a retransmit store the payload is
ciphertext; in a reorder store it is decrypted and the tag is gone. -/
structure Packet where
  dst : BitVec 16
  src : BitVec 16
  ptype : PType
  first : Bool
  last : Bool
  mcast : Bool
  plane : Bool
  dclass : Bool
  rsp : Bool
  hops : Nat
  flow : BitVec 16
  seq : BitVec 16
  span : Nat
  pktCounter : BitVec 64
  egress : Nat
  age : Nat
  arg : Word
  inner : List Byte
  targets : BitVec 64
  payload : List Byte
  tag : List Byte
  deriving DecidableEq, Repr

/-- What a neighbour exchange brings (R405 step 2) and what training found (R398). -/
structure Neighbour where
  serial : BitVec 48
  port : Nat
  coldStarts : BitVec 32
  keyActive : BitVec 64
  keyPending : BitVec 64
  lanes : BitVec 4
  laneMap : BitVec 3
  deriving DecidableEq, Repr

/-- One endpoint of the directory (R406). -/
structure DirEntry where
  id : BitVec 16
  serial : BitVec 48
  coldStarts : BitVec 32
  keyId : BitVec 64
  deriving DecidableEq, Repr

/-- A route table with its control word and directory, as the leader sends it (R405 step 6, R412). -/
structure Tables where
  routes : List (Nat × Word)
  control : Word
  directory : List DirEntry
  deriving DecidableEq, Repr

/-- The contents of a DISC packet (R405): an offer of the lowest serial known with its distance, a
neighbour report on its way up the tree, or the tables on their way down. -/
inductive DiscMsg where
  | offer (port : Port) (serial : BitVec 48) (dist : Nat)
  | report (serial : BitVec 48) (ports : List Neighbour)
  | tables (endpoint : BitVec 16) (leader : BitVec 48) (tab : Tables)
  deriving DecidableEq, Repr

/-- A copy of a flash block as read at boot (R516, R518). -/
structure FlashCopy where
  intact : Bool
  seq : Nat
  body : List (Nat × Nat)
  deriving DecidableEq, Repr

/-- A flash block: its two copies (R515, R517). -/
structure FlashBlock where
  a : FlashCopy
  b : FlashCopy
  deriving DecidableEq, Repr

/-- What the boot sequence meets outside the boot node (R492, R493, R276, R312, R516, R9): copies of flash blocks that are
damaged, as block and whether it is copy A, or whose image fails a signature or its digest; serial numbers of stored
licences that fail verification or their binding; the reads of scratchpad banks in error, by number of the read in the
cold-start tests with the 64 bytes read; which tiles failed the tests of their other arrays, whether an array
outside the tiles failed, which sub-channels did not train. Log 12 (DESIGN CHOICE). -/
structure BootIn where
  damaged : List (Nat × Bool)
  licFails : List Nat
  bankErrs : List ((Slot × Fin 24) × List (Nat × List Byte))
  tileFails : List Slot
  otherArrayFail : Bool
  trainFails : List SubCh
  readyMs : Nat
  deriving DecidableEq, Repr

/-- A rail of R510 and R585. -/
inductive Rail where
  | vsoc | vio | lpddr6 | vopt | vstby | vcore (row : Fin 24)
  deriving DecidableEq, Repr

/-- Where a request for quiesce came from (R591). -/
inductive QSource where
  | button | svcReq | dictionary
  deriving DecidableEq, Repr

/-- A row of the step signature exchange (R467): tile, role and chunk with its signature. -/
structure SigPost where
  tile : Slot
  role : Nat
  chunk : BitVec 24
  working : Slot
  sig : BitVec 64
  deriving DecidableEq, Repr

/-- What the signature checks and the read-backs of a firmware image found (R312, R520): SIGNER_ENDORSE over "SKFK" and
SIGNER_KEY under the root key, SIGNATURE over bytes 0 to 183 under SIGNER_KEY, each over its `sm2Digest`.
Log 12 (DESIGN CHOICE). -/
structure FwCheck where
  endorseOk : Bool
  sigOk : Bool
  readBackOk : Bool
  deriving DecidableEq, Repr

/-- A bucket part on its way round a ring (R443, R444). Dense: `phase` 0 and 1 are partial sums of the reduce-scatter
along the X and the Y ring, 2 and 3 final sums of the all-gather along the Y and the X ring; `half`, `seg` and `sub` name
the half, its X segment and the part of that segment. Sparse: `phase` 0 and 1 are the all-gathers along the X and the Y
ring of the compressed bucket of `fromRank`: `bits`, and the scale as the one value. -/
structure BucketPart where
  sparse : Bool
  bucket : Nat
  phase : Nat
  half : Nat
  seg : Nat
  sub : Nat
  fromRank : Nat
  values : List Word
  bits : List Byte
  deriving DecidableEq, Repr

end Sys2Proof.Machine
end

