-- ==== Sys2Proof/Syntax.lean ====
section
/-! DEFINITION. The commands of the K48: one constructor per row of spec/opcode_table.json, in the table's
order, with the operands the rows' rules give them. A tile instruction carries the slot of the tile that issues
it and every field of its encoding. An event carries what the part outside the model measured or supplied. -/

namespace Sys2Proof

open Machine

/-- The commands, one per row of the table of operations and events. -/
inductive Instr where
  /-- ADD (R88): Tile core adds two registers into rd. -/
  | add (t : Slot) (rd ra rb : BitVec 5) (rsv : BitVec 7)
  /-- SUB (R88): Tile core subtracts rb from ra into rd. -/
  | sub (t : Slot) (rd ra rb : BitVec 5) (rsv : BitVec 7)
  /-- AND (R88): Tile core forms the bitwise AND of two registers. -/
  | andR (t : Slot) (rd ra rb : BitVec 5) (rsv : BitVec 7)
  /-- OR (R88): Tile core forms the bitwise OR of two registers. -/
  | orR (t : Slot) (rd ra rb : BitVec 5) (rsv : BitVec 7)
  /-- XOR (R88): Tile core forms the bitwise XOR of two registers. -/
  | xorR (t : Slot) (rd ra rb : BitVec 5) (rsv : BitVec 7)
  /-- SHL (R88): Tile core shifts a register left by a register amount. -/
  | shl (t : Slot) (rd ra rb : BitVec 5) (rsv : BitVec 7)
  /-- SHR (R88): Tile core shifts a register right logically by a register amount. -/
  | shr (t : Slot) (rd ra rb : BitVec 5) (rsv : BitVec 7)
  /-- SRA (R88): Tile core shifts a register right arithmetically by a register amount. -/
  | sra (t : Slot) (rd ra rb : BitVec 5) (rsv : BitVec 7)
  /-- MUL (R88): Tile core writes the low 32 bits of the product of two registers. -/
  | mul (t : Slot) (rd ra rb : BitVec 5) (rsv : BitVec 7)
  /-- SLT (R88): Tile core sets rd to 1 if ra is less than rb, signed. -/
  | slt (t : Slot) (rd ra rb : BitVec 5) (rsv : BitVec 7)
  /-- SLTU (R88): Tile core sets rd to 1 if ra is less than rb, unsigned. -/
  | sltu (t : Slot) (rd ra rb : BitVec 5) (rsv : BitVec 7)
  /-- MIN (R88): Tile core writes the signed minimum of two registers. -/
  | minR (t : Slot) (rd ra rb : BitVec 5) (rsv : BitVec 7)
  /-- MAX (R88): Tile core writes the signed maximum of two registers. -/
  | maxR (t : Slot) (rd ra rb : BitVec 5) (rsv : BitVec 7)
  /-- MINU (R88): Tile core writes the unsigned minimum of two registers. -/
  | minu (t : Slot) (rd ra rb : BitVec 5) (rsv : BitVec 7)
  /-- MAXU (R88): Tile core writes the unsigned maximum of two registers. -/
  | maxu (t : Slot) (rd ra rb : BitVec 5) (rsv : BitVec 7)
  /-- ADDI (R88): Tile core adds a sign-extended IMM12 to a register. -/
  | addi (t : Slot) (rd ra : BitVec 5) (imm : BitVec 12)
  /-- ANDI (R88): Tile core ANDs a register with a zero-extended IMM12. -/
  | andi (t : Slot) (rd ra : BitVec 5) (imm : BitVec 12)
  /-- ORI (R88): Tile core ORs a register with a zero-extended IMM12. -/
  | ori (t : Slot) (rd ra : BitVec 5) (imm : BitVec 12)
  /-- XORI (R88): Tile core XORs a register with a zero-extended IMM12. -/
  | xori (t : Slot) (rd ra : BitVec 5) (imm : BitVec 12)
  /-- SHLI (R88): Tile core shifts a register left by IMM12[4:0]. -/
  | shli (t : Slot) (rd ra : BitVec 5) (imm : BitVec 12)
  /-- SHRI (R88): Tile core shifts a register right logically by IMM12[4:0]. -/
  | shri (t : Slot) (rd ra : BitVec 5) (imm : BitVec 12)
  /-- SRAI (R88): Tile core shifts a register right arithmetically by IMM12[4:0]. -/
  | srai (t : Slot) (rd ra : BitVec 5) (imm : BitVec 12)
  /-- MULI (R88): Tile core multiplies a register by a sign-extended IMM12, low 32 bits. -/
  | muli (t : Slot) (rd ra : BitVec 5) (imm : BitVec 12)
  /-- SLTI (R88): Tile core compares a register with a sign-extended IMM12, signed. -/
  | slti (t : Slot) (rd ra : BitVec 5) (imm : BitVec 12)
  /-- SLTUI (R88): Tile core compares a register with a zero-extended IMM12, unsigned. -/
  | sltui (t : Slot) (rd ra : BitVec 5) (imm : BitVec 12)
  /-- MINI (R88): Tile core writes the signed minimum of a register and IMM12. -/
  | mini (t : Slot) (rd ra : BitVec 5) (imm : BitVec 12)
  /-- MAXI (R88): Tile core writes the signed maximum of a register and IMM12. -/
  | maxi (t : Slot) (rd ra : BitVec 5) (imm : BitVec 12)
  /-- MINUI (R88): Tile core writes the unsigned minimum of a register and IMM12. -/
  | minui (t : Slot) (rd ra : BitVec 5) (imm : BitVec 12)
  /-- MAXUI (R88): Tile core writes the unsigned maximum of a register and IMM12. -/
  | maxui (t : Slot) (rd ra : BitVec 5) (imm : BitVec 12)
  /-- LB (R61): Tile core loads a sign-extended byte from its local address space. -/
  | lb (t : Slot) (rd base : BitVec 5) (imm : BitVec 12)
  /-- LH (R61): Tile core loads a sign-extended halfword. -/
  | lh (t : Slot) (rd base : BitVec 5) (imm : BitVec 12)
  /-- LW (R61): Tile core loads a word. -/
  | lw (t : Slot) (rd base : BitVec 5) (imm : BitVec 12)
  /-- LBU (R61): Tile core loads a zero-extended byte. -/
  | lbu (t : Slot) (rd base : BitVec 5) (imm : BitVec 12)
  /-- LHU (R61): Tile core loads a zero-extended halfword. -/
  | lhu (t : Slot) (rd base : BitVec 5) (imm : BitVec 12)
  /-- SB (R124): Tile core stores a byte and marks its line filled. -/
  | sb (t : Slot) (data base : BitVec 5) (imm : BitVec 12)
  /-- SH (R124): Tile core stores a halfword and marks its line filled. -/
  | sh (t : Slot) (data base : BitVec 5) (imm : BitVec 12)
  /-- SW (R124): Tile core stores a word and marks its line filled. -/
  | sw (t : Slot) (data base : BitVec 5) (imm : BitVec 12)
  /-- BEQ (R88): Tile core branches if two registers are equal. -/
  | beq (t : Slot) (ra rb : BitVec 5) (off : BitVec 13)
  /-- BNE (R88): Tile core branches if two registers differ. -/
  | bne (t : Slot) (ra rb : BitVec 5) (off : BitVec 13)
  /-- BLT (R88): Tile core branches if ra is less than rb, signed. -/
  | blt (t : Slot) (ra rb : BitVec 5) (off : BitVec 13)
  /-- BGE (R88): Tile core branches if ra is at least rb, signed. -/
  | bge (t : Slot) (ra rb : BitVec 5) (off : BitVec 13)
  /-- BLTU (R88): Tile core branches if ra is less than rb, unsigned. -/
  | bltu (t : Slot) (ra rb : BitVec 5) (off : BitVec 13)
  /-- BGEU (R88): Tile core branches if ra is at least rb, unsigned. -/
  | bgeu (t : Slot) (ra rb : BitVec 5) (off : BitVec 13)
  /-- JAL (R88): Tile core jumps by a word offset and writes the link register. -/
  | jal (t : Slot) (rd : BitVec 5) (off : BitVec 20)
  /-- JR (R88): Tile core jumps to the address in a register and writes the link. -/
  | jr (t : Slot) (rd ra : BitVec 5) (rsv : BitVec 15)
  /-- LUI (R88): Tile core places IMM20 in the upper bits of rd. -/
  | lui (t : Slot) (rd : BitVec 5) (rsv : BitVec 1) (imm : BitVec 20)
  /-- LSETI (R101): Loads a loop counter with an immediate. -/
  | lseti (t : Slot) (lc : BitVec 4) (opnd : BitVec 19)
  /-- LSETR (R101): Loads a loop counter from a register. -/
  | lsetr (t : Slot) (lc : BitVec 4) (r : BitVec 5) (rsv : BitVec 14)
  /-- LOOP (R101): Decrements a non-zero loop counter and branches while it stays non-zero. -/
  | loopC (t : Slot) (lc : BitVec 4) (off : BitVec 19)
  /-- LINC (R101): Adds a signed immediate to a loop counter, saturating. -/
  | linc (t : Slot) (lc : BitVec 4) (imm : BitVec 19)
  /-- LGET (R101): Copies a loop counter into a register. -/
  | lget (t : Slot) (lc : BitVec 4) (r : BitVec 5) (rsv : BitVec 14)
  /-- LBZ (R101): Branches if a loop counter is zero. -/
  | lbz (t : Slot) (lc : BitVec 4) (off : BitVec 19)
  /-- TOKI (R100): Sends an immediate control token to a steering unit of another tile. -/
  | toki (t : Slot) (o : TokOp)
  /-- TOKR (R100): Sends a register-valued control token to a steering unit of another tile. -/
  | tokr (t : Slot) (o : TokOp)
  /-- TOKL (R100): Sends an immediate control token to a steering unit of this tile. -/
  | tokl (t : Slot) (o : TokOp)
  /-- TSTAT (R100): Returns tokens and data messages held by a local steering unit. -/
  | tstat (t : Slot) (o : TokOp)
  /-- SEND (R97): Issues a message from a handle payload to a queue on the die or a fabric endpoint. -/
  | send (t : Slot) (o : SendOp)
  /-- RECVSEL (R99): Waits for and selects a ready receive queue from a mask. -/
  | recvsel (t : Slot) (o : RecvOp)
  /-- QREL (R99): Releases the selected head of a receive queue. -/
  | qrel (t : Slot) (o : RecvOp)
  /-- MMB (R91): Issues a batched matrix multiply after the checks of R93 and scoreboard registration. -/
  | mmb (t : Slot) (o : MmbOp)
  /-- VADD (R595): Vector lane-wise addition. -/
  | vadd (t : Slot) (o : VecOp)
  /-- VSUB (R595): Vector lane-wise subtraction. -/
  | vsub (t : Slot) (o : VecOp)
  /-- VMUL (R595): Vector lane-wise multiplication. -/
  | vmul (t : Slot) (o : VecOp)
  /-- VFMA (R595): Vector lane-wise fused multiply-add. -/
  | vfma (t : Slot) (o : VecOp)
  /-- VMIN (R595): Vector lane-wise minimum. -/
  | vmin (t : Slot) (o : VecOp)
  /-- VMAX (R595): Vector lane-wise maximum. -/
  | vmax (t : Slot) (o : VecOp)
  /-- VABS (R595): Vector lane-wise magnitude. -/
  | vabs (t : Slot) (o : VecOp)
  /-- VNEG (R595): Vector lane-wise sign inversion. -/
  | vneg (t : Slot) (o : VecOp)
  /-- VCMPLT (R595): Vector lane-wise less-than comparison. -/
  | vcmplt (t : Slot) (o : VecOp)
  /-- VCMPEQ (R595): Vector lane-wise equality comparison. -/
  | vcmpeq (t : Slot) (o : VecOp)
  /-- VSEL (R595): Vector lane-wise select by mask. -/
  | vsel (t : Slot) (o : VecOp)
  /-- VBCAST (R595): Broadcasts lane 0 of a vector to every lane. -/
  | vbcast (t : Slot) (o : VecOp)
  /-- VIADD (R596): I32 lane-wise addition modulo 2^32. -/
  | viadd (t : Slot) (o : VecOp)
  /-- VIMUL (R596): I32 lane-wise multiplication, low 32 bits. -/
  | vimul (t : Slot) (o : VecOp)
  /-- VSHIFT (R596): I32 lane-wise shift selected by VC. -/
  | vshift (t : Slot) (o : VecOp)
  /-- VLOGIC (R596): I32 lane-wise logic operation selected by VC. -/
  | vlogic (t : Slot) (o : VecOp)
  /-- VPOPC (R596): I32 lane-wise population count. -/
  | vpopc (t : Slot) (o : VecOp)
  /-- VCVT (R597): Converts 128 lanes to the target format named by VC. -/
  | vcvt (t : Slot) (o : VecOp)
  /-- VQB (R597): Quantises 128 FP32 lanes into four I4B or F4B blocks. -/
  | vqb (t : Slot) (o : VecOp)
  /-- VDQB (R597): Dequantises four 4-bit blocks to FP32 lanes. -/
  | vdqb (t : Slot) (o : VecOp)
  /-- VEXP (R595): Table-unit exponential. -/
  | vexp (t : Slot) (o : VecOp)
  /-- VEXP2 (R595): Table-unit base-2 exponential. -/
  | vexp2 (t : Slot) (o : VecOp)
  /-- VLOG (R595): Table-unit natural logarithm. -/
  | vlog (t : Slot) (o : VecOp)
  /-- VLOG2 (R595): Table-unit base-2 logarithm. -/
  | vlog2 (t : Slot) (o : VecOp)
  /-- VRSQRT (R595): Table-unit reciprocal square root. -/
  | vrsqrt (t : Slot) (o : VecOp)
  /-- VRECIP (R595): Table-unit reciprocal. -/
  | vrecip (t : Slot) (o : VecOp)
  /-- VSQRT (R595): Table-unit correctly rounded square root. -/
  | vsqrt (t : Slot) (o : VecOp)
  /-- VSIGM (R595): Table-unit sigmoid. -/
  | vsigm (t : Slot) (o : VecOp)
  /-- VTANH (R595): Table-unit hyperbolic tangent. -/
  | vtanh (t : Slot) (o : VecOp)
  /-- VGELU (R595): Table-unit GELU, erf form. -/
  | vgelu (t : Slot) (o : VecOp)
  /-- VSILU (R595): Table-unit SiLU. -/
  | vsilu (t : Slot) (o : VecOp)
  /-- VSOFTPLUS (R595): Table-unit softplus. -/
  | vsoftplus (t : Slot) (o : VecOp)
  /-- VRSUM (R598): Reduces 128 FP32 lanes by pairwise sum. -/
  | vrsum (t : Slot) (o : VecOp)
  /-- VRMAX (R598): Reduces 128 FP32 lanes to their maximum. -/
  | vrmax (t : Slot) (o : VecOp)
  /-- VRMIN (R598): Reduces 128 FP32 lanes to their minimum. -/
  | vrmin (t : Slot) (o : VecOp)
  /-- VRARGMAX (R598): Returns the lowest lane index of the maximum. -/
  | vrargmax (t : Slot) (o : VecOp)
  /-- VRARGMIN (R598): Returns the lowest lane index of the minimum. -/
  | vrargmin (t : Slot) (o : VecOp)
  /-- VLD (R598): Loads 512 bytes through a handle into a vector register. -/
  | vld (t : Slot) (o : VecOp)
  /-- VST (R598): Stores a vector register through a handle to scratchpad, memory tier or window. -/
  | vst (t : Slot) (o : VecOp)
  /-- VPERM (R598): Permutes lanes of a vector by an index vector. -/
  | vperm (t : Slot) (o : VecOp)
  /-- HSET (R120): Checks and writes a handle entry from three registers. -/
  | hset (t : Slot) (o : HandleOp)
  /-- HGET (R103): Copies a handle entry into three registers. -/
  | hget (t : Slot) (o : HandleOp)
  /-- HSWAP (R104): Exchanges two handle entries atomically once users have retired. -/
  | hswap (t : Slot) (o : HandleOp)
  /-- HFILL (R124): Marks a byte range of a handle as filled. -/
  | hfill (t : Slot) (o : HandleOp)
  /-- HUNFILL (R125): Clears every fill mark of a handle's range. -/
  | hunfill (t : Slot) (o : HandleOp)
  /-- HINV (R104): Invalidates a handle once users have retired. -/
  | hinv (t : Slot) (o : HandleOp)
  /-- FENCE (R102): Stops issue until the selected kinds of earlier operation complete. -/
  | fence (t : Slot) (remote mem net scratch : Bool) (rsv : BitVec 22)
  /-- BAR (R243): Waits as a full FENCE then signals arrival at an S-net barrier. -/
  | bar (t : Slot) (bid : BitVec 6) (rsv : BitVec 20)
  /-- HALT (R199): Ends the stage's job; Abano restarts the stage. -/
  | halt (t : Slot) (rd ra : BitVec 5) (csr : BitVec 12)
  /-- CSRR (R88): Reads a control and status register into rd. -/
  | csrr (t : Slot) (rd ra : BitVec 5) (csr : BitVec 12)
  /-- CSRW (R88): Writes a register to a control and status register. -/
  | csrw (t : Slot) (rd ra : BitVec 5) (csr : BitVec 12)
  /-- TRAP (R105): Reports fault code TRAP with the CSR field as argument. -/
  | trap (t : Slot) (rd ra : BitVec 5) (csr : BitVec 12)
  /-- MMB_RETIRE (R78): Matrix engine finishes an MMB, writes C, sets fill bits and releases entries. -/
  | mmbRetire (t : Slot) (residueBad : Bool)
  /-- VECTOR_RETIRE (R83): Vector unit writes the last lane of its destination and releases entries. -/
  | vectorRetire (t : Slot)
  /-- MEM_READ_RETURN (R122): Memory-tier data of a VLD arrive and release the held register. -/
  | memReadReturn (t : Slot) (errs : Nat)
  /-- STALLED_ISSUE_RETRY (R127): On release of an entry or a window close a stalled instruction repeats steps 3 to 5. -/
  | stalledIssueRetry (t : Slot)
  /-- SCOREBOARD_TIMEOUT (R129): A stall reaches scoreboard_wait_limit and the instruction faults. -/
  | scoreboardTimeout (t : Slot) (elapsedNs : Nat)
  /-- FENCE_COMPLETE (R102): Every selected earlier operation has completed and issue resumes. -/
  | fenceComplete (t : Slot)
  /-- BAR_COMPLETE (R243): Last member arrives and the barrier releases every member. -/
  | barComplete (b : Fin 64)
  /-- RECVSEL_COMPLETE (R99): A waiting RECVSEL finds a ready queue and writes its result pair. -/
  | recvselComplete (t : Slot)
  /-- SEND_RETIRE (R97): A SEND's placement status returns and the status register is written. -/
  | sendRetire (t : Slot)
  /-- MSTAT_CLEAR (R106): Writing 1 clears sticky arithmetic flags. -/
  | mstatClear (t : Slot) (v : Word)
  /-- CONFLICT_CLEAR (R114): Any write sets a bank conflict counter to 0. -/
  | conflictClear (t : Slot) (b : Fin 24) (v : Word)
  /-- SBFAULT_CLEAR (R132): Writing 1 to VALID clears the captured scoreboard fault. -/
  | sbfaultClear (t : Slot) (v : Word)
  /-- FXFAIL_CLEAR (R419): Writing 1 to VALID clears the captured fabric failure and count. -/
  | fxfailClear (t : Slot) (v : Word)
  /-- SKFAIL_CLEAR (R508): Writing 1 to VALID clears the captured self-test failure. -/
  | skfailClear (t : Slot) (v : Word)
  /-- SNFSET (R246): Writes a value to an S-net global flag. -/
  | snfset (t : Slot) (v : Word)
  /-- SNCOUNT_ADD (R246): Adds the written value to an S-net counter. -/
  | sncountAdd (t : Slot) (c : Fin 16) (v : Word)
  /-- CKPT_EPOCH_WRITE (R170): Stage reports a checkpoint epoch to Abano. -/
  | ckptEpochWrite (t : Slot) (v : Word)
  /-- SUCFG_WRITE (R156): Enables or disables a steering unit and captures its LAND outputs. -/
  | sucfgWrite (t : Slot) (u : Fin 4) (v : Word)
  /-- QCTL_WRITE (R228): Opens, closes or configures a receive queue, advancing GEN on reopen. -/
  | qctlWrite (t : Slot) (q : Fin 16) (v : Word)
  /-- TUNEREP (R440): Stage reports a tuning bucket full. -/
  | tunerep (t : Slot) (v : Word)
  /-- CHKSTEP (R467): Closes the open step, posts its signature and opens the step of a chunk. -/
  | chkstep (t : Slot) (v : Word)
  /-- TILE_REG_WRITE (R61): A store to a tile control register with no row of its own. -/
  | tileRegWrite (t : Slot) (addr : Word) (v : Word)
  /-- TOKEN_ARRIVE (R162): A control token reaches a steering unit and is held, discarded or refused. -/
  | tokenArrive (src : MsgSrc)
  /-- TOKEN_RETRY (R160): A refused token is re-offered after 64 beats. -/
  | tokenRetry (src : MsgSrc)
  /-- SU_FIRE (R161): A steering unit joins a token with data and delivers to its outputs. -/
  | suFire (t : Slot) (u : Fin 4)
  /-- MSG_DELIVER (R230): A message arrives at its destination node and is checked, placed, spilled or refused. -/
  | msgDeliver (src : MsgSrc)
  /-- SEND_REOFFER (R232): A message refused for retry is offered again after 1,024 beats. -/
  | sendReoffer (src : MsgSrc)
  /-- SEND_STALL_TIMEOUT (R232): Retry reaches send_stall_limit and the SEND retires with SPILL_EXHAUSTED. -/
  | sendStallTimeout (src : MsgSrc) (elapsedNs : Nat)
  /-- REPLY_CREDIT_TIMEOUT (R224): A request waiting for reply-queue room retires with REPLY_NO_ROOM. -/
  | replyCreditTimeout (src : MsgSrc) (elapsedNs : Nat)
  /-- SPILL_RETURN (R237): Room appears and the oldest spilled message returns to its queue. -/
  | spillReturn (t : Slot) (q : Fin 16) (errs : Nat)
  /-- TOKEN_INJECT_WAIT (R218): A P message waiting for its budget is injected. -/
  | tokenInjectWait (src : MsgSrc)
  /-- PCLASS_CLOSED (R220): Earlier P messages have drained and PRI 1 traffic moves to O classes. -/
  | pclassClosed
  /-- PCLASS_REOPEN (R220): Tables are written and message units resume P classes. -/
  | pclassReopen
  /-- MEM_REQUEST (R269): A memory node serves a line read or write with XTS and ECC. -/
  | memRequest (q : MemReq)
  /-- MEM_WRITE_ACK (R269): A memory node acknowledges a write once it is visible. -/
  | memWriteAck (i : Nat)
  /-- PATROL_SCRUB (R268): Scrubber reads the next line in its period. -/
  | patrolScrub (errs : Nat)
  /-- DRAM_TEMP_READOUT (R274): Controllers read package temperature every 32 ms and set refresh. -/
  | dramTempReadout (temps : List Int)
  /-- REFRESH (R275): A per-bank refresh is issued. -/
  | refresh (sub : SubCh)
  /-- RETRAIN (R276): A sub-channel is retrained on temperature drift or 10 s. -/
  | retrain (sub : SubCh) (ok : Bool)
  /-- WINDOW_WRITE_LAND (R135): An inbound window write lands and sets fill bits. -/
  | windowWriteLand (w : Fin 256) (src : BitVec 16) (offset : Nat) (data : List Byte)
  /-- WINDOW_CLOSE_COMPLETE (R137): Close-complete removes the standing producer and frees the slot. -/
  | windowCloseComplete (w : Fin 256)
  /-- STRAND_STALL (R175): A strand without progress for strand_stall_limit is reset and its sequence ended. -/
  | strandStall (st : StrandId) (elapsedUs : Nat)
  /-- STRAND_RESUME (R172): Abano resets a strand and restarts it from its last complete checkpoint. -/
  | strandResume (st : StrandId)
  /-- STRAND_FUSE (R149): Abano fuses the two idle strands of a row. -/
  | strandFuse (row : Fin 24)
  /-- PRIME_STAGE (R200): A stage's primer segment starts streaming after restart. -/
  | primeStage (st : StrandId) (k : Fin 24)
  /-- PRIMER_SEGMENT_DONE (R200): Last record lands, CRC is compared and START begins issue. -/
  | primerSegmentDone (st : StrandId) (k : Fin 24) (flips : Word)
  /-- RESIDENT_SWITCH (R206): Stages swap to the other resident set by HSWAP. -/
  | residentSwitch (st : StrandId)
  /-- SECTION_ADVANCE (R208): All stages of a section have halted and the next section is primed. -/
  | sectionAdvance (st : StrandId)
  /-- SUBMIT (R337): Doorbell gives a new descriptor tail. -/
  | submit (c : Chan) (tail : BitVec 16) (rsv : BitVec 44) (e : EntryRead)
  /-- INVALIDATE (R333): Doorbell drops and rereads the channel entry. -/
  | invalidate (c : Chan) (rsv : BitVec 44) (e : EntryRead)
  /-- ABORT (R349): Doorbell asks the commit arbiter to abort a descriptor. -/
  | abortD (c : Chan) (i : BitVec 16) (rsv : BitVec 44) (e : EntryRead)
  /-- CACK (R345): Doorbell returns completion slots to the engine. -/
  | cack (c : Chan) (head : BitVec 16) (rsv : BitVec 44) (e : EntryRead)
  /-- DESC_FETCH (R339): Engine fetches and checks a descriptor. -/
  | descFetch (c : Chan) (bytes : List Byte) (error : Bool)
  /-- JOB_ADMIT (R362): A service job passes its checks and waits for buffers and keys, then is admitted. -/
  | jobAdmit (c : Chan) (i : BitVec 16) (inp : Sealed) (st : StrandId) (role : Byte) (shape : List Nat) (part passage : BitVec 16)
  /-- COMPLETION_COMMIT (R347): The engine issues the completion record write, committing the answer. -/
  | completionCommit (c : Chan) (i : BitVec 16) (ringError : Bool)
  /-- COAL_TIMEOUT (R346): COAL_US passes since the first unsignalled record. -/
  | coalTimeout (c : Chan) (elapsedUs : Nat)
  /-- CHTBL_BASE_WRITE (R326): Host sets the channel table address. -/
  | chtblBaseWrite (v : BitVec 64)
  /-- CHTBL_COUNT_WRITE (R326): Host sets the channel count. -/
  | chtblCountWrite (v : Word)
  /-- D3HOT_ENTER (R321): Function moves to D3hot and stops link activity. -/
  | d3hotEnter
  /-- D0_RESTORE (R321): Function returns to D0 and writes waiting outputs. -/
  | d0Restore
  /-- FUNCTION_LEVEL_RESET (R320): PCIe FLR starts a thaw. -/
  | functionLevelReset
  /-- HOT_RESET (R320): PCIe Hot Reset starts a module reset. -/
  | hotReset
  /-- FUNDAMENTAL_RESET (R320): PERST# starts a module reset. -/
  | fundamentalReset
  /-- PLAN_LOAD (R185): Admin operation loads a sealed plan file after the loader checks. -/
  | planLoad (c : Chan) (i : BitVec 16) (inp : Sealed)
  /-- PLAN_UNLOAD (R192): Admin operation unloads a plan. -/
  | planUnload (c : Chan) (i : BitVec 16)
  /-- KEY_INSTALL (R295): Admin operation installs a wrapped key. -/
  | keyInstall (src : KeySource) (chk : KeyCheck)
  /-- QUOTE (R310): Admin operation returns a signed attestation quote. -/
  | quote (c : Chan) (i : BitVec 16) (challenge : List Byte)
  /-- LOADED_PLANS (R342): Admin operation lists plan numbers and digests. -/
  | loadedPlans (c : Chan) (i : BitVec 16)
  /-- TILE_LOAD (R600): Raw operation checks and applies a primer segment to a claimed tile. -/
  | tileLoad (c : Chan) (i : BitVec 16) (inp : Sealed)
  /-- INJECT (R352): Raw operation sends a decrypted payload as a one-way request. -/
  | inject (c : Chan) (i : BitVec 16) (inp : Sealed)
  /-- WINDOW_OPEN (R426): Raw operation opens a window on this module. -/
  | windowOpen (c : Chan) (i : BitVec 16)
  /-- WINDOW_CLOSE (R428): Raw operation begins a two-phase window close. -/
  | windowClose (c : Chan) (i : BitVec 16)
  /-- WINDOW_READ (R353): Raw operation seals window bytes into an envelope. -/
  | windowRead (c : Chan) (i : BitVec 16)
  /-- WINDOW_WRITE (R353): Raw operation writes decrypted input into a window. -/
  | windowWrite (c : Chan) (i : BitVec 16) (inp : Sealed)
  /-- FABRIC_PACKET (R352): Raw operation sends one raw fabric packet. -/
  | fabricPacket (c : Chan) (i : BitVec 16) (inp : Sealed)
  /-- INGEST_INDEX (R371): Service job builds and seals an index record for an object. -/
  | ingestIndex (c : Chan) (i : BitVec 16) (x : Extract)
  /-- EMBED (R377): Service job embeds an object of one modality. -/
  | embed (c : Chan) (i : BitVec 16) (x : Extract)
  /-- CLASSIFY (R377): Service job classifies a text object. -/
  | classify (c : Chan) (i : BitVec 16) (x : Extract)
  /-- NEAR_DUP (R378): Service job computes a near-duplicate sketch and matches. -/
  | nearDup (c : Chan) (i : BitVec 16) (x : Extract)
  /-- SEARCH (R385): QUERY mode 0 searches shards for a sealed query. -/
  | search (c : Chan) (i : BitVec 16) (embedded : Embedded)
  /-- SHARD_APPEND (R382): QUERY mode 1 appends sealed records to a shard. -/
  | shardAppend (c : Chan) (i : BitVec 16) (envs : List Envelope)
  /-- SHARD_DROP (R383): QUERY mode 2 drops a shard. -/
  | shardDrop (c : Chan) (i : BitVec 16)
  /-- QUERY_BATCH_WINDOW (R386): Batch gathering time expires and the batch scan starts. -/
  | queryBatchWindow (shard : BitVec 8) (elapsedUs : Nat)
  /-- REKEY (R388): Service job reseals envelopes under the channel's INDEX key. -/
  | rekey (c : Chan) (i : BitVec 16) (envs : List Envelope)
  /-- TUNE_OPEN (R435): TUNE_STEP mode OPEN opens a tuning session. -/
  | tuneOpen (c : Chan) (i : BitVec 16)
  /-- TUNE_STEP (R449): TUNE_STEP mode STEP runs one collective step. -/
  | tuneStep (c : Chan) (i : BitVec 16)
  /-- TUNE_READ (R436): TUNE_STEP mode READ returns committed weights. -/
  | tuneRead (c : Chan) (i : BitVec 16)
  /-- TUNE_CLOSE (R436): TUNE_STEP mode CLOSE frees the session at this member. -/
  | tuneClose (c : Chan) (i : BitVec 16)
  /-- TUNE_OPEN_DIGEST (R435): Rank 0 receives a member's OPEN digest and answers once all match. -/
  | tuneOpenDigest (ses : Fin 4) (rank : Nat) (digest : BitVec 256)
  /-- TUNE_OPEN_TIMEOUT (R435): No answer within tune_open_timeout frees the session. -/
  | tuneOpenTimeout (ses : Fin 4) (elapsedMs : Nat)
  /-- BUCKET_PART_ARRIVE (R443): A neighbour's bucket part arrives and reduction proceeds. -/
  | bucketPartArrive (ses : Fin 4) (p : BucketPart)
  /-- STEP_DONE (R449): Rank 0 receives a member's STEP_DONE and CRC list. -/
  | stepDone (ses : Fin 4) (rank : Nat) (step : Nat) (attempt : Nat) (crcs : List (BitVec 64))
  /-- TUNE_DEADLINE (R449): Step deadline at rank 0 sends REPEAT or FAIL. -/
  | tuneDeadline (ses : Fin 4) (elapsedUs : Nat)
  /-- COMMIT (R451): Member receives COMMIT, swaps buffers and commits its completion. -/
  | tuneCommit (ses : Fin 4) (step : Nat)
  /-- REPEAT (R450): Member receives REPEAT and reruns from the committed state. -/
  | tuneRepeat (ses : Fin 4) (step : Nat) (attempt : Nat)
  /-- FAIL (R450): Member receives FAIL and ends its job with TUNE_STEP_FAILED. -/
  | tuneFail (ses : Fin 4) (step : Nat) (missing : Nat)
  /-- TUNE_OUTCOME_QUERY (R452): A member without outcome asks rank 0 again after DEADLINE_US. -/
  | tuneOutcomeQuery (ses : Fin 4) (elapsedUs : Nat) (reached : Bool)
  /-- TUNE_COORD_LOST (R452): A member that has heard nothing for 2 × DEADLINE_US ends its job. -/
  | tuneCoordLost (ses : Fin 4) (elapsedUs : Nat)
  /-- RETRACT (R474): Rank 0 receives a RETRACT and repeats the step. -/
  | retract (msg : List Byte)
  /-- INGEST_SEGMENT (R303): An ingest engine decrypts and verifies one object segment. -/
  | ingestSegment (c : Chan) (i : BitVec 16) (seg : Nat) (body : List Byte) (tag : BitVec 128) (error : Bool)
  /-- SEAL_ENVELOPE (R304): A sealing engine seals a record under an INDEX key. -/
  | sealEnvelope (c : Chan) (i : BitVec 16)
  /-- FABRIC_PACKET_ARRIVE (R410): A packet arrives at a module and is forwarded or passed to its home node. -/
  | fabricPacketArrive (port : Port) (p : Packet) (tag : BitVec 128)
  /-- PACKET_LIFETIME_DISCARD (R400): A packet exceeding hop, queue-wait or age limits is discarded. -/
  | packetLifetimeDiscard (p : Packet) (waitUs : Nat)
  /-- ACK_TIMER (R415): Destination sends an ACK within 2 µs of the oldest unacknowledged arrival. -/
  | ackTimer (src : BitVec 16) (flow : BitVec 16)
  /-- ACK (R415): Source receives an ACK and releases its store. -/
  | fabAck (src : BitVec 16) (flow : BitVec 16) (seq : BitVec 16)
  /-- NACK (R417): Source receives a NACK and resends the named packets. -/
  | fabNack (src : BitVec 16) (flow : BitVec 16) (seq : BitVec 16) (count : Nat)
  /-- STATUS (R418): Source receives a STATUS and ends the transfer. -/
  | fabStatus (src : BitVec 16) (flow : BitVec 16) (seq : BitVec 16) (code : Byte)
  /-- REORDER_TIMEOUT (R417): A gap lasts reorder_timeout and a NACK or FABRIC_LOSS follows. -/
  | reorderTimeout (src : BitVec 16) (flow : BitVec 16) (elapsedUs : Nat)
  /-- RETRANSMIT_TIMEOUT (R417): No ACK for 2 × reorder_timeout resends the highest unacknowledged packet. -/
  | retransmitTimeout (dst : BitVec 16) (flow : BitVec 16) (elapsedUs : Nat)
  /-- TRANSFER_LOSS_TIMEOUT (R417): A transfer unacknowledged for 6 × reorder_timeout ends with FABRIC_LOSS. -/
  | transferLossTimeout (dst : BitVec 16) (flow : BitVec 16) (elapsedUs : Nat)
  /-- LINK_REPLAY (R396): A failed link frame is replayed. -/
  | linkReplay (port : Port)
  /-- LANE_LOSS (R397): A lane losing signal is dropped. -/
  | laneLoss (port : Port) (lane : Fin 4)
  /-- LIGHT_DETECT (R398): Light reaching a receiver starts port training. -/
  | lightDetect (port : Port)
  /-- PORT_TRAINED (R398): Port training completes and the neighbour exchange runs. -/
  | portTrained (port : Port) (nb : Neighbour)
  /-- DISCOVERY_OFFER (R405): Every 100 µs a module offers the lowest serial it knows. -/
  | discoveryOffer
  /-- ELECTION_SETTLED (R405): No offer has changed for 10 ms and the leader proceeds. -/
  | electionSettled (quietUs : Nat)
  /-- DISC (R405): A DISC packet is received along the discovery tree. -/
  | disc (d : DiscMsg)
  /-- LEADER_LOST (R405): Path to the leader lost for 10 ms restarts discovery. -/
  | leaderLost (lostUs : Nat)
  /-- PREPARE (R412): Module receives PREPARE and holds new transfers. -/
  | prepare
  /-- READY (R412): Leader receives READY from a module. -/
  | fabReady (serial : BitVec 48)
  /-- SWAP (R412): Module receives SWAP and swaps tables, directory and fabric key. -/
  | fabSwap
  /-- FABRIC_EPOCH_REQUEST (R412): Write asks the leader for an epoch barrier. -/
  | fabricEpochRequest (r : BjReq)
  /-- MULTICAST_RETRY (R423): After multicast_retry_interval the message is resent to refused targets. -/
  | multicastRetry (i : Nat) (elapsedUs : Nat)
  /-- WCLOSE (R428): Peer receives WCLOSE and answers once its writes end. -/
  | wclose (owner : BitVec 16) (w : Fin 256)
  /-- WCLOSE_ACK (R428): Owner receives a WCLOSE_ACK; the last one completes the close. -/
  | wcloseAck (peer : BitVec 16) (w : Fin 256)
  /-- WINDOW_REUSE_HOLD (R429): window_reuse_hold expires and the window number is free. -/
  | windowReuseHold (w : Fin 256) (elapsedMs : Nat)
  /-- SHADOW_COMPARE (R467): Supervisor compares working and shadow signatures of a step. -/
  | shadowCompare (st : StrandId) (work shadow : SigPost)
  /-- MAJORITY_SETTLE (R469): Third tile's signature settles the majority. -/
  | majoritySettle (i : Nat) (third : BitVec 64)
  /-- CHECK_CLOSE (R472): The check covering a job closes and its completion may commit. -/
  | checkClose (c : Chan) (i : BitVec 16)
  /-- SUSPECT_CLEAR (R481): A suspect without criteria for suspect_clear_hours returns to NORMAL. -/
  | suspectClear (t : Slot) (elapsedH : Nat)
  /-- SUSPECT_PACE_LOWER (R481): Abano lowers a raised pace one step per further period. -/
  | suspectPaceLower (t : Slot) (elapsedH : Nat)
  /-- REPLACEMENT (R484): Stages of a strand move to a spare and resume from checkpoint. -/
  | replacement (st : StrandId) (durationUs : Nat)
  /-- FROST_TILE (R483): Owner write fences the named tile. -/
  | frostTile (r : BjReq)
  /-- UNFROST_TILE (R483): Owner write returns a fenced tile as a spare. -/
  | unfrostTile (r : BjReq)
  /-- SKIM_SLICE_START (R500): Scheduler starts a skim slice on the next target. -/
  | skimSliceStart (t : Slot) (target : Fin 26)
  /-- SKIM_SAVE_DONE (R495): Target contents saved; march begins. -/
  | skimSaveDone (t : Slot)
  /-- SKIM_RETENTION_PAUSE (R495): Retention pause expires and the pattern is read. -/
  | skimRetentionPause (t : Slot) (elapsedUs : Nat) (errs : List (Nat × List Byte))
  /-- SKIM_RESTORE_DONE (R495): Target contents restored and the slice ends. -/
  | skimRestoreDone (t : Slot) (uncorrectable : Bool)
  /-- REDIRECTED_ACCESS (R497): A tile access to a borrowed target completes through the save slot. -/
  | redirectedAccess (t : Slot) (line : Fin 2048) (write : Bool) (data : List Byte)
  /-- BANK_RESTORE (R494): Owner names a bank for retest at the next cold start. -/
  | bankRestore (r : BjReq)
  /-- VCORE_SETPOINT (R37): Write sets the VCORE ceiling. -/
  | vcoreSetpoint (r : BjReq)
  /-- FORCE_SAFE_PACING (R31): Owner write holds or releases die-wide safe pacing. -/
  | forceSafePacing (r : BjReq)
  /-- POWER_LIMIT (R38): Write sets the input power limit. -/
  | powerLimit (r : BjReq)
  /-- TILE_TRIM (R33): Write sets a tile's trim step, applied within 50 µs. -/
  | tileTrim (t : Slot) (r : BjReq)
  /-- TILE_PACE (R35): Write sets a tile's pace. -/
  | tilePace (t : Slot) (r : BjReq)
  /-- GOVERNOR_LOOP (R42): Every 1 ms the governor steps VCORE, pace and admission. -/
  | governorLoop (avgW : Nat) (tj : Int)
  /-- GOVERNOR_RELEASE (R43): Every 10 ms under limit the governor lifts one measure. -/
  | governorRelease (maxAvgW : Nat)
  /-- POWER_SAMPLE (R39): Power stages measure input power every 100 µs. -/
  | powerSample (watts : Nat)
  /-- FAST_THROTTLE (R45): Input over 1,050 W for 50 µs forces pace 4. -/
  | fastThrottle (watts : Nat) (us : Nat)
  /-- THERMAL_LIMIT (R44): Hottest junction crosses 95 °C or 100 °C. -/
  | thermalLimit (tj : Int)
  /-- THERMAL_SHUTDOWN (R44): Junction at 105 °C switches off every rail but standby. -/
  | thermalShutdown (tj : Int)
  /-- WARNING_LEVEL_FALL (R29): VCORE below 0.62 V puts the die in safe pacing. -/
  | warningLevelFall (row : Fin 24) (mv : Nat)
  /-- SAFE_PACING_EXIT (R29): VCORE holds 200 µs at or above 0.62 V and normal pacing returns. -/
  | safePacingExit (heldUs : Nat) (durationUs : Nat)
  /-- MARGIN_LOW (R30): Tile margin below 8 % puts the tile in safe pacing. -/
  | marginLow (t : Slot) (m : Margins)
  /-- MARGIN_RECOVER (R30): Tile margin holds 12 % for 200 µs and normal pacing returns. -/
  | marginRecover (t : Slot) (m : Margins) (heldUs : Nat)
  /-- DIP_RESET (R529): A row rail below 0.55 V starts a module reset. -/
  | dipReset (row : Fin 24) (mv : Nat) (ns : Nat)
  /-- POWER_UP (R510): Input above 39 V for 100 ms brings the rails up in order. -/
  | powerUp (mv : Nat) (ms : Nat) (badRail : Bool)
  /-- INPUT_LOW (R511): Input between 37 V and 40 V raises an alarm. -/
  | inputLow (mv : Nat)
  /-- INPUT_HIGH (R511): Input between 60 V and 62 V raises an alarm. -/
  | inputHigh (mv : Nat)
  /-- INPUT_LOST (R512): Input loss signals POWER_FAIL and the rails fall. -/
  | inputLost (mv : Nat)
  /-- RAIL_SHORT (R585): A shorted rail stops and the module retries once. -/
  | railShort (rail : Rail)
  /-- VSOC_LOW (R513): VSOC below 0.72 V for 1 µs starts a module reset. -/
  | vsocLow (mv : Nat) (ns : Nat)
  /-- BOOT_WATCHDOG (R513): Boot-node watchdog expiry starts a module reset. -/
  | bootWatchdog (ms : Nat)
  /-- SERVICE_CORE_WATCHDOG (R513): Abano silent for 500 ms starts a thaw. -/
  | serviceCoreWatchdog (ms : Nat)
  /-- COLD_START (R522): Boot sequence from firmware read to READY. -/
  | coldStart (b : BootIn)
  /-- MODULE_RESET (R522): Cold start sequence with rails kept. -/
  | moduleReset (b : BootIn)
  /-- THAW (R525): Warm reset keeping links, memory and keys. -/
  | thaw (digestOk : Bool) (readyMs : Nat)
  /-- RESET_REQUEST_THAW (R513): reset_request 1 starts a thaw. -/
  | resetRequestThaw (r : BjReq)
  /-- RESET_REQUEST_MODULE (R513): reset_request 2 starts a module reset. -/
  | resetRequestModule (r : BjReq)
  /-- PWR_EN_LOW (R574): PWR_EN low for 10 ms switches off the rails. -/
  | pwrEnLow (ms : Nat)
  /-- PWR_EN_RISE (R574): PWR_EN rising while off starts a cold start. -/
  | pwrEnRise (tj : Int)
  /-- FLASH_BLOCK_WRITE (R517): Boot node writes a block to B, verifies, then to A. -/
  | flashBlockWrite (readBackB readBackA : Bool)
  /-- PERSIST_FLUSH (R517): Persisted counters are written every 60 s. -/
  | persistFlush
  /-- COPY_RESOLVE_A (R519): copy_resolve 1 takes copy A's values. -/
  | copyResolveA (r : BjReq)
  /-- COPY_RESOLVE_B (R519): copy_resolve 2 takes copy B's values. -/
  | copyResolveB (r : BjReq)
  /-- COPY_RESOLVE_KEEP (R519): copy_resolve 3 keeps the values in force. -/
  | copyResolveKeep (r : BjReq)
  /-- FIRMWARE_INSTALL (R520): An image is checked and written to both flash copies. -/
  | firmwareInstall (r : BjReq) (chk : FwCheck)
  /-- OWNER_CLAIM (R289): A signed claim makes the module owned. -/
  | ownerClaim (r : BjReq) (sigOk : Bool)
  /-- OWNER_RELEASE (R290): A signed release clears owner state and memory. -/
  | ownerRelease (r : BjReq) (sigOk : Bool)
  /-- KEY_REMOVE (R299): Owner removes an installed key. -/
  | keyRemove (r : BjReq)
  /-- LICENCE_INSTALL (R314): A licence is verified and stored. -/
  | licenceInstall (r : BjReq) (endorseOk sigOk : Bool)
  /-- COMMIT_SVN (R312): Owner raises min_svn. -/
  | commitSvn (r : BjReq)
  /-- QUOTE_REQUEST (R310): A challenge written to the quote entry is signed. -/
  | quoteRequest (r : BjReq)
  /-- SCAN_CLEAR (R316): Factory write clears all secrets and revokes identity. -/
  | scanClear (r : BjReq) (readBackOk : Bool)
  /-- VECTOR_DIM (R365): Write sets vector_dim while the shard store is empty. -/
  | vectorDim (r : BjReq)
  /-- ROLE_PLAN (R364): Write binds a plan to a role. -/
  | rolePlan (role : Fin 24) (r : BjReq)
  /-- DEFAULTS_RESTORE (R536): Owner restores persisted operator entries to defaults. -/
  | defaultsRestore (r : BjReq)
  /-- RECORDER_CLEAR_FAR (R568): recorder_clear 1 clears the far ring. -/
  | recorderClearFar (r : BjReq)
  /-- RECORDER_CLEAR_ALL (R568): recorder_clear 2 clears the far and flash rings. -/
  | recorderClearAll (r : BjReq)
  /-- RECORDER_INTERVAL_END (R563): Interval ends and histogram and count records are written. -/
  | recorderIntervalEnd
  /-- RECORDER_FLASH_PAGE (R565): Buffered records are written to both flash rings. -/
  | recorderFlashPage
  /-- EXTEST (R315): Test-port instruction drives pins from the boundary register. -/
  | extest
  /-- IDCODE (R315): Test-port instruction returns the IDCODE. -/
  | idcode
  /-- SAMPLE_PRELOAD (R315): Test-port instruction samples the pins. -/
  | samplePreload
  /-- CLAMP (R315): Test-port instruction clamps outputs. -/
  | clamp
  /-- HIGHZ (R315): Test-port instruction floats outputs. -/
  | highz
  /-- INSCAN (R315): Test-port instruction connects internal scan after clearing. -/
  | inscan
  /-- BYPASS (R315): Test-port instruction selects the bypass register. -/
  | bypass
  /-- READ (R541): Berjor request reads an entry. -/
  | bjRead (r : BjReq)
  /-- WRITE (R544): Berjor request writes an entry with no row of its own. -/
  | bjWrite (r : BjReq)
  /-- READ_SEG (R541): Berjor request reads a segment of a DOMAIN value. -/
  | readSeg (r : BjReq)
  /-- WRITE_SEG (R543): Berjor request uploads a segment of a DOMAIN value. -/
  | writeSeg (r : BjReq)
  /-- WRITE_END (R543): Berjor request checks and applies an uploaded DOMAIN value. -/
  | writeEnd (r : BjReq)
  /-- SESSION_OPEN (R538): Berjor request starts a session handshake. -/
  | sessionOpen (r : BjReq) (level : Level) (key : List Byte) (endorsed : Bool)
  /-- SESSION_PROVE (R538): Berjor request proves the key and opens the session. -/
  | sessionProve (r : BjReq) (sigOk : Bool)
  /-- SESSION_CLOSE (R539): Berjor request closes a session. -/
  | sessionClose (r : BjReq)
  /-- SESSION_OPEN_LAPSE (R538): No SESSION_PROVE within 10 s lapses the open. -/
  | sessionOpenLapse (n : Nat) (elapsedMs : Nat)
  /-- SESSION_IDLE (R539): A session idle for session_idle_s is closed. -/
  | sessionIdle (n : Nat) (idleS : Nat)
  /-- UPLOAD_ABANDON (R543): An upload without a segment for 60 s is discarded. -/
  | uploadAbandon (entry : Nat) (idleS : Nat)
  /-- NOTIFY_ACK (R551): A manager acknowledges an alarm. -/
  | notifyAck (r : BjReq)
  /-- ALARM_RESEND (R551): An unacknowledged alarm is resent after 1 s. -/
  | alarmResend (nseq : Nat) (elapsedMs : Nat)
  /-- NOTIFY_TOKEN_REFILL (R550): A rate bucket gains a token and sends a folded message. -/
  | notifyTokenRefill (code : Nat)
  /-- PTP_SYNC (R554): A PTP event message updates calendar time. -/
  | ptpSync (master : BitVec 64) (offsetNs : Int) (ratePpb : Int) (ptpScale : Bool)
  /-- PTP_HOLDOVER (R555): No valid Sync for 3 s enters holdover. -/
  | ptpHoldover (silentMs : Nat)
  /-- SERVICE_BUTTON_PRESS (R576): A press of 50 ms to 2 s requests quiesce. -/
  | serviceButtonPress (ms : Nat) (src : QSource)
  /-- SERVICE_BUTTON_HOLD (R576): A press reaching 5 s forces quiesce. -/
  | serviceButtonHold (ms : Nat) (src : QSource)
  /-- BUTTON_STUCK (R576): A press held over 30 s is ignored until release. -/
  | buttonStuck (ms : Nat)
  /-- QUIESCE_REQUEST (R577): quiesce_control 1 requests quiesce. -/
  | quiesceRequest (r : BjReq)
  /-- QUIESCE_FORCE (R578): quiesce_control 2 forces quiesce. -/
  | quiesceForce (r : BjReq)
  /-- QUIESCE_CANCEL (R579): quiesce_control 3 cancels quiesce. -/
  | quiesceCancel (r : BjReq)
  /-- QUIESCE_DRAINED (R577): Jobs and windows are done; state is flushed and QUIESCED set. -/
  | quiesceDrained
  /-- TOUCH (R580): A touch lights identify and wakes the light bar. -/
  | touch (ms : Nat)
  /-- IDENTIFY (R580): Write flashes or stops the identify ring. -/
  | identify (r : BjReq)
  /-- IDENTIFY_TIMEOUT (R580): Identify ring goes dark 30 s after a touch. -/
  | identifyTimeout (elapsedS : Nat)
  /-- LIGHT_BAR_SLEEP (R581): Light bar sleeps after light_bar_sleep_s. -/
  | lightBarSleep (elapsedS : Nat)
  /-- COOLANT_SAMPLE (R589): Coolant sensors are read every 100 ms and the state updated. -/
  | coolantSample (inlet outlet : Int) (flow : Nat) (ok : Bool) (lowForMs : Nat) (absentMs : Nat)
  /-- SIDEBAND_OPEN (R573): A sideband signal open for 10 ms is flagged. -/
  | sidebandOpen (bit : Fin 8) (ms : Nat)
  /-- MODULE_INSERT (R572): Module mates with a powered slot. -/
  | moduleInsert (slotId : BitVec 3)
  /-- SMB_FRU_READ (R571): SMBus read returns the FRU record. -/
  | smbFruRead
  /-- APERTURE_WRITE (R354): The host writes sealed input into a raw slot's BAR4 aperture, or the write is discarded when the slot has no valid raw channel. -/
  | apertureWrite (a : Fin 8) (offset : Nat) (data : List Byte)
  /-- RECORDER_CLEAR_DONE (R568): A running recorder clear completes, recorder_clear_state returns to 0 and buffered records are written behind the CLEARED record. -/
  | recorderClearDone
  /-- RAIL_RETRY (R510): One second after a missed rail tolerance or a rail short, the power stages retry bringing the rails up once. -/
  | railRetry (ok : Bool) (elapsedMs : Nat)
  /-- TUNE_OPEN_ANSWER (R435): A member receives rank 0's answer to its OPEN digest and its session becomes IDLE with its rank, or fails with TUNE_GROUP_MISMATCH. -/
  | tuneOpenAnswer (ses : Fin 4) (agreed : Bool)
  /-- OUTCOME_REQUEST (R452): Rank 0 receives a member's request for the outcome of a step and answers from the outcomes it keeps for its last two steps. -/
  | outcomeRequest (ses : Fin 4) (rank : Nat) (step : Nat)
  /-- MPORT_LINK_CHANGE (R557): The M-port link goes up or down and mport_link changes. -/
  | mportLinkChange (up : Bool)
  /-- CONSOLE_ATTACH (R584): VBUS appears or disappears on the console port, and the USB console function attaches or detaches. -/
  | consoleAttach (vbus : Bool)
  /-- ADDRESS_DROP_EXPIRE (R539): The 60 s for which an IP address's requests are dropped after 16 authentication failures runs out, and its requests are answered again. -/
  | addressDropExpire (ip : BitVec 32) (elapsedS : Nat)
  deriving DecidableEq, Repr

end Sys2Proof
end

