-- ==== Sys2Proof/Machine/Bits.lean ====
section
/-! DEFINITION. Bit fields, byte order (R14), rounding up, saturating counts and the two cyclic redundancy
codes the spec names (CRC-32C, and CRC-64 under R466). -/

namespace Sys2Proof.Machine

/-- Bits `[lo + len - 1 : lo]` of a number. -/
def bits (v lo len : Nat) : Nat := v / 2 ^ lo % 2 ^ len

/-- Field `[lo + len - 1 : lo]` of a word. -/
def wbits (w : Word) (lo len : Nat) : Nat := bits w.toNat lo len

/-- One bit of a number as a truth value. -/
def bit (v i : Nat) : Bool := v / 2 ^ i % 2 == 1

/-- 1 for true and 0 for false. -/
def b2n (b : Bool) : Nat := if b then 1 else 0

/-- A number placed at bit `lo`, cut to `len` bits. -/
def fld (v lo len : Nat) : Nat := v % 2 ^ len * 2 ^ lo

/-- Division rounding up. -/
def ceilDiv (a b : Nat) : Nat := (a + b - 1) / b

/-- The next multiple of `b` at or above `a`. -/
def roundUp (a b : Nat) : Nat := ceilDiv a b * b

/-- `n` bytes of a number, least significant first (R14). -/
def leBytes : Nat → Nat → List Byte
  | 0, _ => []
  | n + 1, v => BitVec.ofNat 8 v :: leBytes n (v / 256)

/-- The number whose little-endian bytes are given. -/
def leNat : List Byte → Nat
  | [] => 0
  | b :: l => b.toNat + 256 * leNat l

/-- `len` bytes from offset `off`; bytes past the end read as zero. -/
def slice (l : List Byte) (off len : Nat) : List Byte :=
  (List.range len).map fun i => l.getD (off + i) 0

/-- The little-endian number of `len` bytes at offset `off`. -/
def leAt (l : List Byte) (off len : Nat) : Nat := leNat (slice l off len)

/-- `n` zero bytes. -/
def zeros (n : Nat) : List Byte := List.replicate n 0

/-- The list cut or padded with zero bytes to `n` bytes. -/
def padTo (n : Nat) (l : List Byte) : List Byte := slice l 0 n

/-- Replace `l[i]` by `v`; nothing where there is no such place. -/
def setAt {β : Type} (l : List β) (i : Nat) (v : β) : List β := l.set i v

/-- A 32-bit number read as two's complement. -/
def sInt (v : Nat) : Int := if v % 2 ^ 32 < 2 ^ 31 then ((v % 2 ^ 32 : Nat) : Int) else ((v % 2 ^ 32 : Nat) : Int) - 2 ^ 32

/-- A two's complement number of `w` bits. -/
def ofInt (w : Nat) (i : Int) : Nat := (i % (2 ^ w : Nat)).toNat

/-- One bit position of a reflected CRC. -/
def crcBit (poly : Nat) (c : Nat) : Nat := if c % 2 = 1 then (c / 2) ^^^ poly else c / 2

/-- A byte through a reflected CRC. -/
def crcByteR (poly : Nat) (c : Nat) (b : Byte) : Nat :=
  (List.range 8).foldl (fun c _ => crcBit poly c) (c ^^^ b.toNat)

/-- CRC-32C of a byte string: reflected polynomial 0x82F6_3B78, initial and final inversion. -/
def crc32c (l : List Byte) : Word :=
  BitVec.ofNat 32 (l.foldl (crcByteR 0x82F63B78) 0xFFFFFFFF ^^^ 0xFFFFFFFF)

/-- One bit position of an unreflected 64-bit CRC under the ECMA-182 polynomial. -/
def crc64Bit (c : Nat) : Nat :=
  if c ≥ 2 ^ 63 then (c * 2 % 2 ^ 64) ^^^ 0x42F0E1EBA9EA3693 else c * 2

/-- A byte through the CRC-64 of R466. -/
def crc64Byte (c : Nat) (b : Byte) : Nat :=
  (List.range 8).foldl (fun c _ => crc64Bit c) (c ^^^ (b.toNat * 2 ^ 56))

/-- A byte string through the CRC-64 of R466 from a running value. -/
def crc64 (start : BitVec 64) (l : List Byte) : BitVec 64 :=
  BitVec.ofNat 64 (l.foldl crc64Byte start.toNat)

/-- The number of one bits among the low `n` bits. -/
def popCount (n v : Nat) : Nat := (List.range n).foldl (fun a i => a + v / 2 ^ i % 2) 0

/-- The integer square root, from `n` binary digits. -/
def isqrt (n v : Nat) : Nat :=
  ((List.range n).reverse).foldl (fun r i => if (r + 2 ^ i) * (r + 2 ^ i) ≤ v then r + 2 ^ i else r) 0

/-- The sum of a list of numbers. -/
def total (l : List Nat) : Nat := l.foldl (· + ·) 0

/-- A count that stops at `top`. -/
def satAdd (top a b : Nat) : Nat := min top (a + b)

end Sys2Proof.Machine
end

