-- ==== Sys2Proof/Machine/SMap.lean ====
section
/-! DEFINITION. Sparse maps held as lists of key and value pairs in one canonical form: keys strictly rising
and no entry equal to what an unlisted key reads as. Registers kept by number, tiles by slot, memory by byte
address and dictionary entries by key are all held this way. -/

namespace Sys2Proof.Machine

/-- The value at key `k`; `d` says what an unlisted key reads as. -/
def look {β : Type} (d : Nat → β) : List (Nat × β) → Nat → β
  | [], k => d k
  | (j, v) :: l, k => if j = k then v else look d l k

/-- Place `v` at key `k` in a list of rising keys, with no regard to the default. -/
def place {β : Type} (k : Nat) (v : β) : List (Nat × β) → List (Nat × β)
  | [] => [(k, v)]
  | (j, w) :: l =>
    if k < j then (k, v) :: (j, w) :: l
    else if k = j then (k, v) :: l
    else (j, w) :: place k v l

/-- Remove every entry of key `k`. -/
def remove {β : Type} (k : Nat) : List (Nat × β) → List (Nat × β)
  | [] => []
  | (j, w) :: l => if j = k then remove k l else (j, w) :: remove k l

/-- Write `v` at key `k`; writing what an unlisted key reads as removes the entry. -/
def put {β : Type} [DecidableEq β] (d : Nat → β) (l : List (Nat × β)) (k : Nat) (v : β) : List (Nat × β) :=
  if v = d k then remove k l else place k v l

/-- Every listed value replaced; one that becomes what an unlisted key reads as is listed no more. -/
def mapVals {β : Type} [DecidableEq β] (d : Nat → β) (f : β → β) (l : List (Nat × β)) : List (Nat × β) :=
  l.filterMap fun p => if f p.2 = d p.1 then none else some (p.1, f p.2)

/-- The canonical form. -/
abbrev canon {β : Type} [DecidableEq β] (d : Nat → β) (l : List (Nat × β)) : Prop :=
  l.Pairwise (fun p q => p.1 < q.1) ∧ ∀ p ∈ l, p.2 ≠ d p.1

end Sys2Proof.Machine
end

