-- ==== Sys2Proof/Machine/March.lean ====
section
/-! DEFINITION. The march and retention tests of an array of lines (R490, R491) and their signatures (R502). -/

namespace Sys2Proof.Machine

/-- Lines of a target (R490). -/
def targetLines (k : Nat) : Nat := if k < 24 then 2048 else if k = 24 then 1536 else 256

/-- One access of a test to a line: its element of SKFAIL (R508), whether it writes, and the byte in every byte of the line
that it writes or that its read expects. -/
structure MarchOp where
  line : Nat
  element : Nat
  write : Bool
  value : Byte
  deriving DecidableEq, Repr

/-- One element: a pass over the lines of the target in one direction, with its operations made on each line. -/
def marchPass (n element : Nat) (down : Bool) (ops : List (Bool × Byte)) : List MarchOp :=
  (if down then (List.range n).reverse else List.range n).flatMap fun l => ops.map fun o => ⟨l, element, o.1, o.2⟩

/-- March C− over `n` lines with a background (R491). A pass of either direction goes upwards. Log 97 (DEDUCED). -/
def marchC (n : Nat) (bg : Byte) : List MarchOp :=
  marchPass n 0 false [(true, bg)] ++ marchPass n 1 false [(false, bg), (true, ~~~bg)] ++
    marchPass n 2 false [(false, ~~~bg), (true, bg)] ++ marchPass n 3 true [(false, bg), (true, ~~~bg)] ++
    marchPass n 4 true [(false, ~~~bg), (true, bg)] ++ marchPass n 5 false [(false, bg)]

/-- One polarity of the retention pattern: every line written and, after the pause, read (R491). -/
def retention (n element : Nat) (v : Byte) : List MarchOp :=
  marchPass n element false [(true, v)] ++ marchPass n element false [(false, v)]

/-- What a skim slice does up to its first pause and the reads after it. -/
def skimFirst (n : Nat) : List MarchOp := marchC n 0x00 ++ retention n 6 0x55

/-- What it does from then to its compare. -/
def skimSecond (n : Nat) : List MarchOp := retention n 7 0xAA

/-- The full march tests of a cold start (R491). -/
def coldMarch (n : Nat) : List MarchOp :=
  marchC n 0x00 ++ marchC n 0x55 ++ marchC n 0x33 ++ marchC n 0x0F ++ retention n 6 0x55 ++ retention n 7 0xAA

/-- The reads of a test, in access order. -/
def marchReads (ops : List MarchOp) : List MarchOp := ops.filter fun o => !o.write

/-- What each access of a test sees of an array of lines that holds what is written to it: the byte that the line held. -/
def marchSees : List MarchOp → List (Nat × Byte) → List Byte
  | [], _ => []
  | o :: ops, a => look (fun _ => 0) a o.line :: marchSees ops (if o.write then put (fun _ => 0) a o.line o.value else a)

/-! ### Reads that differ, and signatures

The reads of an array in error are given as the number of the read in its test, in access order, with the 64 bytes read. -/

/-- What read `i` of a test reads. -/
def marchRead (errs : List (Nat × List Byte)) (i : Nat) (o : MarchOp) : List Byte :=
  match errs.find? fun e => e.1 = i with
  | some e => padTo 64 e.2
  | none => List.replicate 64 o.value

/-- The running CRC-32C of the reads of a test, in access order (R502). -/
def marchFold (errs : List (Nat × List Byte)) (ops : List MarchOp) (c : Nat) : Nat :=
  (marchReads ops).zipIdx.foldl (fun c p => (marchRead errs p.2 p.1).foldl (crcByteR 0x82F63B78) c) c

/-- The running CRC-32C before the first read. -/
def marchBegin : Nat := 0xFFFFFFFF

/-- The signature that a running CRC-32C ends in. -/
def marchSign (c : Nat) : Word := BitVec.ofNat 32 (c ^^^ 0xFFFFFFFF)

/-- The first read of a test that differs from the value expected: its line and element (R502). -/
def firstBad (errs : List (Nat × List Byte)) (ops : List MarchOp) : Option (Nat × Nat) :=
  ((marchReads ops).zipIdx.find? fun p => marchRead errs p.2 p.1 ≠ List.replicate 64 p.1.value).map fun p =>
    (p.1.line, p.1.element)

/-- The reference signature of a skim slice over `n` lines: what a fault-free array produces (R502). -/
def skimReference (n : Nat) : Word := marchSign (marchFold [] (skimSecond n) (marchFold [] (skimFirst n) marchBegin))

/-- The signature of the cold-start tests over `n` lines. -/
def coldSignature (n : Nat) (errs : List (Nat × List Byte)) : Word := marchSign (marchFold errs (coldMarch n) marchBegin)

/-- An array fails its cold-start tests: its signature is not the reference. -/
def coldFails (n : Nat) (errs : List (Nat × List Byte)) : Bool := decide (coldSignature n errs ≠ coldSignature n [])

end Sys2Proof.Machine
end

