-- ==== Sys2Proof/Config.lean ====
section
/-! DEFINITION. What the model holds fixed but does not know. Every constant here is opaque: no proof can see a
value. There are three kinds. Free values stand where the spec states no value. Functions of cryptography stand
for standard algorithms the spec names and does not define. Factory constants stand for what manufacture writes
into each module. -/

namespace Sys2Proof.Config

/-! ### Free values, one for every number drawn -/

/-- A free byte. -/
opaque freeByte : Nat → Byte
/-- A free word. -/
opaque freeWord : Nat → Word
/-- A free natural number. -/
opaque freeNat : Nat → Nat
/-- A free truth value. -/
opaque freeBool : Nat → Bool

/-! ### Free values that depend on operands -/

/-- Where the tile core goes when a program counter would leave 0 to 4,095. Log 23 (DESIGN CHOICE). -/
opaque pcOutside : Int → BitVec 12
/-- A counter of the dictionary that counts past the top of its type: key and old value. Log 66 (DEDUCED). -/
opaque counterOverflow : Nat → Nat → Nat
/-- The table unit's own answer (R84): function number and FP32 input bits. The bound of R84 is laid on it by
`tuAnswer`. Log 51 (DESIGN CHOICE). -/
opaque tableUnit : Nat → Word → Word
/-- The line of queue memory that the next line of payload of a queue goes to (R226): the queue, the sizes of the 16
queues, and the lines placed in it before. Log 26 (DESIGN CHOICE). -/
opaque queueLine : Nat → List Nat → Nat → Nat
/-- A byte of a head window outside a selected payload (R61): queue, offset, and the lines placed in the queue so far.
Log 26 (DESIGN CHOICE). -/
opaque windowByte : Nat → Nat → Nat → Byte
/-- The beats in which an access to a bank was held, since they were last counted (R113): draw, slot, bank.
Log 135 (DESIGN CHOICE). -/
opaque heldBeats : Nat → Nat → Nat → Nat
/-- Abano's unpublished settings of a service-core cluster queue (R249): cluster, queue, draw, and which: 0 size, 1 open,
2 kind, 3 credit size, 4 generation, 5 credits, 6 messages taken. Log 35 (DESIGN CHOICE). -/
opaque clusterSetting : Nat → Nat → Nat → Nat → Nat
/-- The P budget of a tile on a network, in flits per 4,096 beats (R218), in the tables Abano wrote: their number, slot,
network. Log 49 (DEDUCED). -/
opaque pBudget : Nat → Nat → Nat → Nat
/-- Abano's P budget draw, strand choice and other choices the spec leaves to firmware: which, draw.
Log 67 (DESIGN CHOICE). -/
opaque choice : Nat → Nat → Nat
/-- Which bin gets each unit left over when shares are rounded to units of 0.01 % (R562): draw, unit.
Log 68 (DESIGN CHOICE). -/
opaque shareBin : Nat → Nat → Nat
/-- Where a bucket or a segment whose length is no multiple of the ring length is cut (R443): length, parts,
element. Log 89 (DESIGN CHOICE). -/
opaque ringCut : Nat → Nat → Nat → Nat
/-- Where a sequence's input and output lie in its job's buffer (R361): job number, part, passage, which number of the
four. Log 36 (DESIGN CHOICE). -/
opaque jobPlace : Nat → Nat → Nat → Nat → Nat
/-- What momentum, dense accumulator and error memory hold when a tuning session opens: array, element. The same at
every member. Log 41 (DESIGN CHOICE). -/
opaque tuneInit : Nat → Nat → Word

/-! ### Cryptography -/

/-- The SM3 digest. Log 11 (DESIGN CHOICE). -/
opaque sm3 : List Byte → BitVec 256
/-- An SM2 signature: which private key, the digest signed. Log 11 (DESIGN CHOICE). -/
opaque sm2Sign : Nat → List Byte → List Byte
/-- The parameters a, b, xG and yG of the curve of GB/T 32918.5 (R285), which enter Z (R287).
Log 11 (DESIGN CHOICE). -/
opaque sm2Params : List Byte
/-- The product [d_IDA] P of the key-agreement key and a point (R294): x then y. Log 11 (DESIGN CHOICE). -/
opaque sm2Agree : List Byte → List Byte
/-- The key derivation function of GB/T 32918.4 at 256 bits (R294). Log 11 (DESIGN CHOICE). -/
opaque kdf : List Byte → BitVec 256
/-- The key stream of a cipher in Galois/Counter Mode: algorithm (1 AES-256, 2 SM4), key, nonce, byte.
Log 11 (DESIGN CHOICE). -/
opaque gcmStream : Nat → List Byte → List Byte → Nat → Byte
/-- The tag of Galois/Counter Mode: algorithm, key, nonce, associated data, ciphertext. Log 11 (DESIGN CHOICE). -/
opaque gcmTag : Nat → List Byte → List Byte → List Byte → List Byte → BitVec 128
/-- XTS-AES-256 encryption of a line under the memory key of a number (R263): key, tweak, line.
Log 11 (DESIGN CHOICE). -/
opaque xts : Nat → List Byte → List Byte → List Byte
/-- The check symbols of the Reed–Solomon code over 64 ciphertext bytes (R263). Log 11 (DESIGN CHOICE). -/
opaque reedSolomon : List Byte → List Byte
/-- Text that holds a code point of 128 or above, in NFC and lower case (R368). Log 159 (PRESUMED). -/
opaque textFold : List Nat → List Nat
/-- The word-break property of a code point in Unicode Standard Annex #29 (R368), by number. Log 159 (PRESUMED). -/
opaque wordBreak : Nat → Nat
/-- A code point is pictographic. Log 159 (PRESUMED). -/
opaque pictographic : Nat → Bool
/-- HMAC-SM3 under a session key (R538): session, header and payload. Log 11 (DESIGN CHOICE). -/
opaque hmac : Nat → List Byte → List Byte
/-- The entropy source: which use, draw. Log 11 (DESIGN CHOICE). -/
opaque entropy : Nat → Nat → List Byte

/-! ### Values of entries that the manual leaves open -/

/-- beat_rate_now where R593 leaves the rate open: VCORE in mV, hottest junction in tenths of a degree.
Log 60 (DEDUCED). -/
opaque beatRate : Nat → Int → Nat
/-- The margin in percent that a tile's replica monitor shows until it is read again: slot, 0 beside the matrix engine and
1 beside the banks (R27). Log 157 (DESIGN CHOICE). -/
opaque replicaMargin : Nat → Nat → Nat
/-- pci_link: what the PCIe link trained to. Log 105 (DESIGN CHOICE). -/
opaque pciLink : Nat
/-- The IPv4 address that DHCP gave. Log 105 (DESIGN CHOICE). -/
opaque dhcpAddress : Word
/-- last_licence_status and the DETAIL of a rejected licence: LICENCE_OK, LICENCE_INVALID, LICENCE_OTHER_MODULE and
LICENCE_FULL, which R314 does not number. Log 111 (DESIGN CHOICE). -/
opaque licenceCode : Nat → Byte
/-- DETAIL of a read whose full length does not fit its four bytes. Log 103 (DEDUCED). -/
opaque longDetail : Nat → Word

/-! ### Factory constants -/

/-- The 48-bit serial number. Log 10 (DESIGN CHOICE). -/
opaque serial : BitVec 48
/-- The M-port MAC address. Log 10 (DESIGN CHOICE). -/
opaque mac : BitVec 48
/-- The IDCODE value (R315). Log 10 (DESIGN CHOICE). -/
opaque idcode : Word
/-- POINTER of SKSTAT when it is read at a time (R496, R508). Log 97 (DEDUCED). -/
opaque skimPointer : Nat → Nat
/-- PCI Vendor and Device ID (R319, R357). Log 10 (DESIGN CHOICE). -/
opaque pciIds : Word
/-- The IDS public key, 64 bytes. Log 10 (DESIGN CHOICE). -/
opaque idsPublic : List Byte
/-- The IDA public key, 64 bytes. Log 10 (DESIGN CHOICE). -/
opaque idaPublic : List Byte
/-- The DER around what the module certificate binds (R286): 0 before the serial number, 1 before IDS, 2 before IDA, 3
after it, 4 the outer header, 5 the signature algorithm. Log 10 (DESIGN CHOICE). -/
opaque certPart : Nat → List Byte
/-- The manufacturing CA certificate. Log 10 (DESIGN CHOICE). -/
opaque caCert : List Byte
/-- The public key of the manufacturing CA. Log 10 (DESIGN CHOICE). -/
opaque caPublic : List Byte
/-- The identifier that its certificate names. Log 10 (DESIGN CHOICE). -/
opaque caId : List Byte
/-- The FRU record read over SMBus (R571). Log 10 (DESIGN CHOICE). -/
opaque fru : List Byte
/-- SM3 of what manufacture puts into flash: 1 to 3 the bodies of the firmware images, 6 the factory licence.
Log 10 (DESIGN CHOICE). -/
opaque madeDigest : Nat → BitVec 256
/-- The ordering code is TVK-K48-A, or else TVK-K48-I (R7). Log 10 (DESIGN CHOICE). -/
opaque orderA : Bool
/-- The factory licence levels of the ordering code (R7), packed as the entry licence_features: 8 fabric ports, tuning,
8 raw channels and 48 strands, or 2 ports and 32 strands. -/
def factoryLicence : Word := bif orderA then 0x300818 else 0x200002

/-- LICENCE_SERIAL of the factory licence (R313). Log 10 (DESIGN CHOICE). -/
opaque factoryLicenceSerial : Nat

end Sys2Proof.Config
end

