-- ==== Sys2Proof/Machine/Float.lean ====
section
/-! DEFINITION. The number formats (R63 to R70): exact values, the one rounding of the tile (R68), conversion with
its flags (R69), block quantisation (R70) and the arithmetic of the vector unit and of FP32 accumulation. -/

namespace Sys2Proof.Machine

/-- An exact value: NaN, an infinity, or `(-1)^neg × m × 2^e`. -/
inductive Val where
  | nan
  | inf (neg : Bool)
  | fin (neg : Bool) (m : Nat) (e : Int)
  deriving DecidableEq, Repr

/-- The sticky flags of MSTAT (R106). -/
structure Flg where
  sat : Bool
  nan : Bool
  inf : Bool
  clamp : Bool
  invalid : Bool
  deriving DecidableEq, Repr

def Flg.none : Flg := ⟨false, false, false, false, false⟩

/-- Flags are sticky: two sets join by OR. -/
def Flg.or (a b : Flg) : Flg :=
  ⟨a.sat || b.sat, a.nan || b.nan, a.inf || b.inf, a.clamp || b.clamp, a.invalid || b.invalid⟩

/-- A floating-point format: exponent bits, mantissa bits, bias, and whether it is E4M3, which has no infinity
and uses its top exponent for numbers (R63). -/
structure Fmt where
  eb : Nat
  mb : Nat
  bias : Nat
  e4m3 : Bool
  deriving DecidableEq, Repr

def fp32 : Fmt := ⟨8, 23, 127, false⟩
def bf16 : Fmt := ⟨8, 7, 127, false⟩
def fp16 : Fmt := ⟨5, 10, 15, false⟩
def e4m3 : Fmt := ⟨4, 3, 7, true⟩
def e5m2 : Fmt := ⟨5, 2, 15, false⟩

/-- Width of a format in bits. -/
def Fmt.width (f : Fmt) : Nat := 1 + f.eb + f.mb

/-- The canonical NaN of a format (R67). -/
def Fmt.nanBits (f : Fmt) : Nat :=
  if f.e4m3 then 0x7F else (2 ^ f.eb - 1) * 2 ^ f.mb + 2 ^ (f.mb - 1)

/-- Infinity of a format that has one. -/
def Fmt.infBits (f : Fmt) (neg : Bool) : Nat := b2n neg * 2 ^ (f.eb + f.mb) + (2 ^ f.eb - 1) * 2 ^ f.mb

/-- The largest finite value as bits, without sign. -/
def Fmt.maxBits (f : Fmt) : Nat :=
  if f.e4m3 then 0x7E else (2 ^ f.eb - 1) * 2 ^ f.mb - 1

/-- The exponent of the lowest bit of a subnormal number. -/
def Fmt.emin (f : Fmt) : Int := 1 - (f.bias : Int) - f.mb

/-- The value of a bit pattern (R63). -/
def Fmt.val (f : Fmt) (b : Nat) : Val :=
  let neg := bit b (f.eb + f.mb)
  let ex := bits b f.mb f.eb
  let man := bits b 0 f.mb
  if f.e4m3 then
    if ex = 15 ∧ man = 7 then .nan
    else if ex = 0 then .fin neg man f.emin
    else .fin neg (2 ^ f.mb + man) (f.emin + ex - 1)
  else if ex = 2 ^ f.eb - 1 then (if man = 0 then .inf neg else .nan)
  else if ex = 0 then .fin neg man f.emin
  else .fin neg (2 ^ f.mb + man) (f.emin + ex - 1)

/-- Drop the lowest `k` bits of `m`, rounding to nearest with ties to even (R68). -/
def rne (m k : Nat) : Nat :=
  let q := m / 2 ^ k
  let r := m % 2 ^ k
  if 2 * r > 2 ^ k ∨ (2 * r = 2 ^ k ∧ q % 2 = 1) then q + 1 else q

/-- The magnitude `m × 2^e` rounded to `p` significant bits and to no finer than `2^emin`, as a significand and
its exponent, with an exponent range unbounded above. -/
def roundMag (p : Nat) (emin : Int) (m : Nat) (e : Int) : Nat × Int :=
  if m = 0 then (0, emin)
  else
    let q := max (e + (Nat.log2 m + 1 : Nat) - p) emin
    if q ≤ e then (m * 2 ^ (e - q).toNat, q) else (rne m (q - e).toNat, q)

/-- The bit pattern of a rounded magnitude; `none` where it lies beyond the largest finite value. -/
def Fmt.pack (f : Fmt) (neg : Bool) (r : Nat × Int) : Option Nat :=
  let (m, q) := if r.1 = 2 ^ (f.mb + 1) then (2 ^ f.mb, r.2 + 1) else r
  let s := b2n neg * 2 ^ (f.eb + f.mb)
  let body := if m < 2 ^ f.mb then m else ((q - f.emin).toNat + 1) * 2 ^ f.mb + (m - 2 ^ f.mb)
  if body ≤ f.maxBits then some (s + body) else none

/-- Conversion of a value to a floating-point format: the bits and the flags of R69, R76 and R106. FP32, BF16
and FP16 overflow to infinity; E4M3 and E5M2 saturate a finite value; E4M3 saturates an infinity. Log 18 (DEDUCED). -/
def Fmt.enc (f : Fmt) : Val → Nat × Flg
  | .nan => (f.nanBits, { Flg.none with nan := true })
  | .inf n =>
    if f.e4m3 then (b2n n * 2 ^ (f.eb + f.mb) + f.maxBits, { Flg.none with sat := true })
    else (f.infBits n, Flg.none)
  | .fin n m e =>
    match f.pack n (roundMag (f.mb + 1) f.emin m e) with
    | some b => (b, Flg.none)
    | none =>
      if f.width = 8 then (b2n n * 2 ^ (f.eb + f.mb) + f.maxBits, { Flg.none with sat := true })
      else (f.infBits n, { Flg.none with inf := true })

/-- A value rounded to an integer, ties to even. -/
def Val.toInt (neg : Bool) (m : Nat) (e : Int) : Int :=
  let a := if 0 ≤ e then m * 2 ^ e.toNat else rne m (-e).toNat
  if neg then -(a : Int) else a

/-- Conversion to a two's complement integer of `w` bits (R69, R597). -/
def encInt (w : Nat) : Val → Nat × Flg
  | .nan => (0, { Flg.none with invalid := true })
  | .inf n => (ofInt w (if n then -(2 ^ (w - 1) : Nat) else (2 ^ (w - 1) - 1 : Nat)),
      { Flg.none with sat := true })
  | .fin n m e =>
    let i := Val.toInt n m e
    if i < -(2 ^ (w - 1) : Nat) then (2 ^ (w - 1), { Flg.none with sat := true })
    else if i > (2 ^ (w - 1) - 1 : Nat) then (2 ^ (w - 1) - 1, { Flg.none with sat := true })
    else (ofInt w i, Flg.none)

/-- An integer as a value. -/
def valInt (i : Int) : Val := .fin (i < 0) i.natAbs 0

/-- The signed significand of a finite value at exponent `q`, which is at most its own. -/
def scaled (n : Bool) (m : Nat) (e q : Int) : Int :=
  let a : Int := m * 2 ^ (e - q).toNat
  if n then -a else a

/-- Exact addition; the sum of opposite zeros and an exact cancellation give +0. -/
def Val.add : Val → Val → Val
  | .nan, _ => .nan
  | _, .nan => .nan
  | .inf a, .inf b => if a = b then .inf a else .nan
  | .inf a, .fin _ _ _ => .inf a
  | .fin _ _ _, .inf b => .inf b
  | .fin na ma ea, .fin nb mb eb =>
    if ma = 0 ∧ mb = 0 then .fin (na && nb) 0 0
    else
      let q := min ea eb
      let s := scaled na ma ea q + scaled nb mb eb q
      .fin (s < 0) s.natAbs q

/-- Sign inversion. -/
def Val.neg : Val → Val
  | .nan => .nan
  | .inf n => .inf !n
  | .fin n m e => .fin (!n) m e

/-- Magnitude. -/
def Val.abs : Val → Val
  | .nan => .nan
  | .inf _ => .inf false
  | .fin _ m e => .fin false m e

/-- Exact multiplication; infinity × 0 is NaN. -/
def Val.mul : Val → Val → Val
  | .nan, _ => .nan
  | _, .nan => .nan
  | .inf a, .inf b => .inf (a != b)
  | .inf a, .fin nb mb _ => if mb = 0 then .nan else .inf (a != nb)
  | .fin na ma _, .inf b => if ma = 0 then .nan else .inf (na != b)
  | .fin na ma ea, .fin nb mb eb => .fin (na != nb) (ma * mb) (ea + eb)

/-- Order of two values that are not NaN: less than, with −0 equal to +0. -/
def Val.lt : Val → Val → Bool
  | .nan, _ => false
  | _, .nan => false
  | .inf a, .inf b => a && !b
  | .inf a, .fin _ _ _ => a
  | .fin _ _ _, .inf b => !b
  | .fin na ma ea, .fin nb mb eb =>
    let q := min ea eb
    decide (scaled na ma ea q < scaled nb mb eb q)

/-- Whether a value is NaN. -/
def Val.isNan : Val → Bool
  | .nan => true
  | _ => false

/-- Equality of values, false when either is NaN. -/
def Val.eqv (a b : Val) : Bool := !a.isNan && !b.isNan && !a.lt b && !b.lt a

/-- The square root with a sticky low digit, correctly rounded once it is encoded: 40 digits are kept. -/
def Val.sqrt : Val → Val
  | .nan => .nan
  | .inf n => if n then .nan else .inf false
  | .fin n m e =>
    if m = 0 then .fin n 0 0
    else if n then .nan
    else
      let k : Nat := if (e - 80) % 2 = 0 then 80 else 81
      let v := m * 2 ^ k
      let r := isqrt (Nat.log2 v / 2 + 1) v
      .fin false (2 * r + (if r * r = v then 0 else 1)) ((e - k) / 2 - 1)

/-- The result of an operation in format `f`: rounded once, with NAN_OUT on a NaN. INF_OUT belongs to FP32
accumulation and to conversions only (R106), so an elementwise overflow sets no flag. Log 18 (DEDUCED). -/
def Fmt.res (f : Fmt) (v : Val) : Nat × Flg :=
  let (b, g) := f.enc v
  (b, { g with inf := false })

/-- A fused multiply-add into an FP32 accumulator with one rounding (R74, R76). Log 18 (DEDUCED). -/
def fma32 (acc : Nat) (a b : Val) : Nat × Flg := fp32.enc ((fp32.val acc).add (a.mul b))

/-- One addition into an FP32 accumulator (R73, R76). Log 18 (DEDUCED). -/
def add32 (acc : Nat) (a : Val) : Nat × Flg := fp32.enc ((fp32.val acc).add a)

/-- Magnitudes of the F4B codes in units of one half (R64). -/
def f4Halves (c : Nat) : Nat :=
  match c % 8 with
  | 0 => 0 | 1 => 1 | 2 => 2 | 3 => 3 | 4 => 4 | 5 => 6 | 6 => 8 | _ => 12

/-- The value of a 4-bit code in units of one half: I4B (twice its two's complement) or F4B. -/
def code4Halves (f4 : Bool) (c : Nat) : Int :=
  if f4 then (if bit c 3 then -(f4Halves c : Int) else f4Halves c)
  else if c % 16 < 8 then 2 * ((c % 16 : Nat) : Int) else 2 * (((c % 16 : Nat) : Int) - 16)

/-- The value of a 4-bit element under block scale `s` (R65). Log 133 (DEDUCED). -/
def val4 (f4 : Bool) (c s : Nat) : Val :=
  if s = 255 then .nan
  else
    let h := code4Halves f4 c
    .fin (h < 0) h.natAbs ((s : Int) - 127 - 1)

/-- Rounding of a magnitude to an F4B code: the magnitudes are those of a format with 2 exponent bits, one
mantissa bit and bias 1, saturated at 6. Log 133 (DEDUCED). -/
def encF4 (n : Bool) (m : Nat) (e : Int) : Nat × Flg :=
  let f : Fmt := ⟨2, 1, 1, false⟩
  let r := roundMag 2 f.emin m e
  let (m', q) := if r.1 = 4 then (2, r.2 + 1) else r
  let body := if m' < 2 then m' else ((q - f.emin).toNat + 1) * 2 + (m' - 2)
  if body ≤ 7 then (b2n n * 8 + body, Flg.none) else (b2n n * 8 + 7, { Flg.none with sat := true })

/-- Rounding to an I4B code, saturated to −8 to 7 (R70 step 4). -/
def encI4 (n : Bool) (m : Nat) (e : Int) : Nat × Flg :=
  let i := Val.toInt n m e
  if i < -8 then (8, { Flg.none with sat := true })
  else if i > 7 then (7, { Flg.none with sat := true })
  else (ofInt 4 i, Flg.none)

/-- `floor(log2 (m × 2^e))` of a non-zero magnitude. -/
def floorLog2 (m : Nat) (e : Int) : Int := e + Nat.log2 m

/-- Join a flag set to a running one while mapping. -/
def mapFlg {α β : Type} (g : α → β × Flg) : List α → List β × Flg
  | [] => ([], Flg.none)
  | a :: l =>
    let (b, x) := g a
    let (bs, y) := mapFlg g l
    (b :: bs, x.or y)

/-- The largest finite magnitude of a block, as a value. -/
def blockMax : List Val → Val
  | [] => .fin false 0 0
  | v :: l =>
    let m := blockMax l
    if m.lt v.abs then v.abs else m

/-- Block quantisation (R70): the scale byte, the codes and the flags. Log 133 (DEDUCED). -/
def quantBlock (f4 : Bool) (vs : List Val) : Nat × List Nat × Flg :=
  if vs.any (fun v => match v with | .fin _ _ _ => false | _ => true) then
    (255, vs.map fun _ => 0, { Flg.none with nan := true })
  else
    match blockMax vs with
    | .fin _ m e =>
      if m = 0 then (0, vs.map fun _ => 0, Flg.none)
      else
        let s := floorLog2 m e - 2 + 127
        let sc := if s < 0 then 0 else if s > 254 then 254 else s.toNat
        let fl : Flg := { Flg.none with clamp := decide (s < 0 ∨ s > 254) }
        let (cs, g) := mapFlg (fun v => match v with
          | .fin n m e => if f4 then encF4 n m (e - ((sc : Int) - 127)) else encI4 n m (e - ((sc : Int) - 127))
          | _ => (0, Flg.none)) vs
        (sc, cs, fl.or g)
    | _ => (255, vs.map fun _ => 0, { Flg.none with nan := true })

end Sys2Proof.Machine
end

