-- ==== Sys2Proof/Machine/TileState.lean ====
section
/-! DEFINITION. The state of one tile (R57 to R164, R419, R464, R508, R594 to R600): core, units, scratchpad,
handles, scoreboard, queues and steering units. -/

namespace Sys2Proof.Machine

/-- The fault codes of a tile (R105, R458), and the end of a VLD by an uncorrectable line (R267). -/
inductive FaultCode where
  | illegalInstruction | addressFault | alignFault | msgLength | mmbFormat | handleKind | handleRange
  | mmbAlias | residueFault | handleUnfilled | scoreboardTimeout | trap | landRange | memUncorrectable
  deriving DecidableEq, Repr

/-- A message header (R215). -/
structure Header where
  dstEp : BitVec 16
  dstRow : BitVec 5
  dstPos : BitVec 5
  dstQ : BitVec 4
  reply : Bool
  token : Bool
  tag : BitVec 16
  gen : BitVec 4
  replyQ : BitVec 4
  priReq : Bool
  priUsed : Bool
  fwd : Bool
  cnet : Bool
  srcEp : BitVec 16
  srcRow : BitVec 5
  srcPos : BitVec 5
  replyGen : BitVec 4
  length : Nat
  su : BitVec 2
  tval : Byte
  deriving DecidableEq, Repr

/-- A message: its header, its payload, and whether it is a request that reserved a reply credit at its sender,
a request with a reply queue as R223 and R228 put it. -/
structure Msg where
  hdr : Header
  payload : List Byte
  credited : Bool
  deriving DecidableEq, Repr

/-- A handle entry, its three words (R119). -/
structure Handle where
  w0 : Word
  w1 : Word
  w2 : Word
  deriving DecidableEq, Repr

/-- An entry of the range scoreboard (R133): span of lines, producer or consumer, unit number, program counter. -/
structure SbEntry where
  first : Nat
  last : Nat
  producer : Bool
  unit : Nat
  pc : Nat
  deriving DecidableEq, Repr

/-- A window slot (R138). -/
structure WinSlot where
  first : Nat
  last : Nat
  isOpen : Bool
  closing : Bool
  window : Nat
  deriving DecidableEq, Repr

/-- What the tile core is doing: not started, issuing, held at an instruction, waiting, or stopped by a fault.
A held instruction is `timed` when the scoreboard or R104 holds it (R129), and not when a full unit queue or a
held register does (R60). -/
inductive Run where
  | stopped
  | running
  | stalled (i : Tis) (timed : Bool)
  | fencing (remote mem net scratch : Bool)
  | barFence (b : BitVec 6)
  | barrier (b : BitVec 6)
  | receiving (o : RecvOp)
  | halting
  | faulted
  deriving DecidableEq, Repr

/-- A tile's fault report (R105): code, program counter, instruction word 0, and the argument of TRAP. -/
structure FaultRep where
  code : FaultCode
  pc : BitVec 12
  word : Word
  arg : Nat
  deriving DecidableEq, Repr

/-- The operands of an MMB as read at issue (R90), with the bases of its handles. -/
structure MmbJob where
  o : MmbOp
  m : Nat
  n : Nat
  k : Nat
  batch : Nat
  strideA : Nat
  strideB : Nat
  strideC : Nat
  pitchA : Nat
  pitchB : Nat
  pitchC : Nat
  hsa : BitVec 6
  hsb : BitVec 6
  grout : Word
  baseA : Nat
  baseB : Nat
  baseC : Nat
  baseSA : Nat
  baseSB : Nat
  pc : Nat
  ents : List Nat
  deriving DecidableEq, Repr

/-- Where a VLD or VST goes, fixed at issue: nowhere, a scratchpad address, a module memory address, or a window
of an endpoint at an offset. -/
inductive VecPlace where
  | none
  | scratch (a : Nat)
  | mem (a : Nat)
  | window (ep : Nat) (w : Nat) (off : Nat)
  deriving DecidableEq, Repr

/-- A vector instruction in the vector unit queue. -/
structure VecJob where
  f : VecFn
  o : VecOp
  place : VecPlace
  pc : Nat
  ents : List Nat
  deriving DecidableEq, Repr

/-- How far an outstanding message has come: in the unit queue, waiting for a reply credit (R224), held while the
priority classes close (R220), waiting for its budget (R218), injected, refused for retry (R232), or finished
with a status (R231). -/
inductive MuPhase where
  | queued | credit | closing | budget | flying | refused
  | done (st : Nat)
  deriving DecidableEq, Repr

/-- A message in a message unit: the register that receives the status, the handle its payload comes from, the
scoreboard entries held until it is copied, whether a reply credit is reserved, and the stall limit in force
when it was first refused. `credit` is how often the generation of the reply queue had advanced when the credit was reserved
there: a later advance has released it (R225). -/
structure MuEntry where
  msg : Msg
  phase : MuPhase
  rds : Option (BitVec 5)
  h : Option (BitVec 6)
  addr : Nat
  ents : List Nat
  credit : Option Nat
  limitUs : Nat
  pc : Nat
  deriving DecidableEq, Repr

/-- A receive queue (R226 to R229). `qsize` counts units of 512 bytes; `ext` is its spill extension in bytes; `placed`
counts the lines of payload put into its share of queue memory so far, and `advances` how often its generation has advanced.
Log 27 (DESIGN CHOICE). -/
structure Queue where
  qsize : Nat
  isOpen : Bool
  replyOnly : Bool
  resv : Nat
  gen : BitVec 4
  held : List Msg
  spilled : List Msg
  credits : Nat
  selected : Bool
  ext : Nat
  placed : Nat
  advances : Nat
  deriving DecidableEq, Repr

/-- A firing under way (R161): outputs still to be served, the first of them now, the message they get, and whether a
local queue refused it for retry, with the stall limit in force then. `acts` and `lands` are the unit's outputs and captured
entries as the firing began: it completes with them (R163). -/
structure Firing where
  outs : List Nat
  msg : Msg
  refused : Bool
  limitUs : Nat
  acts : List (Word × Word)
  lands : List (Option Handle)
  deriving DecidableEq, Repr

/-- A steering unit (R155 to R164). Each held token has the class it travelled in. -/
structure Su where
  enable : Bool
  tokenless : Bool
  iq : Nat
  outs : List (Word × Word)
  tokens : List (Byte × Bool)
  lastToken : Byte
  discards : Nat
  fails : Nat
  land : List (Option Handle)
  landEnts : List Nat
  firing : Option Firing
  deriving DecidableEq, Repr

/-- The shadow check of a tile (R464 to R467): CHKCTL, the running signature, the chunk of the open step, whether
a step is open, the working tile a shadow step belongs to, and the steps in a row that were not shadowed. -/
structure Chk where
  ctl : Word
  sig : BitVec 64
  chunk : Nat
  stepOpen : Bool
  work : Nat
  unshadowed : Nat
  deriving DecidableEq, Repr

/-- How far a skim slice has come (R495). -/
inductive SkimPhase where
  | idle | saving | marching | retaining | restoring
  deriving DecidableEq, Repr

/-- The self-test registers and the slice under way (R495 to R508): SKSTAT, SKSIG and SKFAIL, the target,
whether the slice is a repeat, the running signature, and whether the run has met a read in error. The contents of a borrowed
target stay in their own place in the state: redirection never changes what an access returns or writes (R497). -/
structure Skim where
  stat : Word
  sig : Word
  fail : Word
  phase : SkimPhase
  target : Nat
  repeated : Bool
  crc : Nat
  caught : Bool
  deriving DecidableEq, Repr

/-- The scratchpad of a tile and what guards it. -/
structure Pad where
  bytes : List (Nat × Byte)
  fill : List (Nat × Bool)
  bankOk : BitVec 24
  conflicts : List (Nat × Word)
  handles : List (Nat × Handle)
  sb : List (Nat × SbEntry)
  sbfault : Word
  winslots : List (Nat × WinSlot)
  deriving DecidableEq, Repr

/-- The registers of the tile core. -/
structure Core where
  regs : List (Nat × Word)
  lcs : List (Nat × BitVec 24)
  pc : BitVec 12
  istore : List (Nat × Word)
  held : List (BitVec 5)
  run : Run
  fault : Option FaultRep
  stallStart : Nat
  stallLimitUs : Nat
  mstat : BitVec 5
  lastSel : Option (BitVec 4)
  deriving DecidableEq, Repr

/-- The unit queues of a tile (R60), the forwarding slot with its steering unit (R161), whose entry counts in `pc` the
messages of the unit taken before it, and its unacknowledged writes (R102); `unfenced` says that it has written section outputs
and not yet reported a FENCE with MEM since (R208). -/
structure Units where
  vregs : List (Nat × Vec)
  meq : List MmbJob
  vuq : List VecJob
  mu : List MuEntry
  fwd : Option (Nat × MuEntry)
  memWrites : Nat
  remoteWrites : Nat
  budgetB : Nat
  budgetC : Nat
  resuming : Bool
  unfenced : Bool
  deriving DecidableEq, Repr

/-- A tile. `qmem` is its queue memory by byte (R61). -/
structure Tile where
  core : Core
  units : Units
  pad : Pad
  qmem : List (Nat × Byte)
  queues : List (Nat × Queue)
  sus : List (Nat × Su)
  stageMap : List (Nat × Word)
  strandReg : Word
  ckptEpoch : BitVec 16
  resumeEpoch : BitVec 16
  fxfail : Word × Word
  chk : Chk
  skim : Skim
  ringBytes : Nat
  enabled : Bool
  started : Bool
  safe : Bool
  trimAsked : Nat
  ownPace : Nat
  deriving DecidableEq, Repr

def Handle.zero : Handle := ⟨0, 0, 0⟩

def WinSlot.free : WinSlot := ⟨0, 0, false, false, 0⟩

def Queue.reset : Queue := ⟨0, false, false, 0, 0, [], [], 0, false, 0, 0, 0⟩

def Su.reset : Su := ⟨false, false, 0, [(0, 0), (0, 0), (0, 0), (0, 0)], [], 0, 0, 0, [], [], none⟩

/-- CHKCTL resets with QUEUE 13 and ROLE 0 (R464). -/
def Chk.reset : Chk := ⟨0, 0, 0, false, 0, 0⟩

def Skim.reset : Skim := ⟨0, 0, 0, .idle, 0, false, 0, false⟩

def Pad.reset : Pad := ⟨[], [], 0xFFFFFF, [], [], [], 0, []⟩

/-- Log 6 (DESIGN CHOICE). -/
def Core.reset : Core := ⟨[], [], 0, [], [], .stopped, none, 0, 0, 0, none⟩

def Units.reset : Units := ⟨[], [], [], [], none, 0, 0, 0, 0, false, false⟩

/-- A tile after reset: every register zero, STRAND.INTERVAL 16 (R147), every bank usable. Log 6 (DESIGN CHOICE). -/
def Tile.reset : Tile :=
  ⟨Core.reset, Units.reset, Pad.reset, [], [], [], [], 0x01000000, 0, 0, (0, 0), Chk.reset, Skim.reset, 1048576,
    true, false, false, 0, 0⟩

end Sys2Proof.Machine
end

