-- ==== Sys2Proof/Machine/TileOps.lean ====
section
/-! DEFINITION. Named operations on one tile: registers, program counter, scratchpad map (R107, R115), fill map
(R124, R125), handles (R119 to R122), range scoreboard (R126 to R133) and the encoding of instruction words
(R88 to R103, R594). -/

namespace Sys2Proof.Machine

/-! ### Registers, counters and the program counter -/

/-- A general register; every register holds a value (R59). -/
def Tile.reg (t : Tile) (r : BitVec 5) : Word := look (fun _ => 0) t.core.regs r.toNat

def Tile.setReg (t : Tile) (r : BitVec 5) (v : Word) : Tile :=
  { t with core := { t.core with regs := put (fun _ => 0) t.core.regs r.toNat v } }

def Tile.lc (t : Tile) (n : BitVec 4) : BitVec 24 := look (fun _ => 0) t.core.lcs n.toNat

def Tile.setLc (t : Tile) (n : BitVec 4) (v : BitVec 24) : Tile :=
  { t with core := { t.core with lcs := put (fun _ => 0) t.core.lcs n.toNat v } }

def Tile.vreg (t : Tile) (v : BitVec 3) : Vec := look (fun _ => 0) t.units.vregs v.toNat

def Tile.setVreg (t : Tile) (v : BitVec 3) (x : Vec) : Tile :=
  { t with units := { t.units with vregs := put (fun _ => 0) t.units.vregs v.toNat x } }

/-- The program counter as a word index; where it would leave 0 to 4,095 the spec states no value.
Log 23 (DESIGN CHOICE). -/
def pcTo (i : Int) : BitVec 12 :=
  if 0 ≤ i ∧ i < 4096 then BitVec.ofNat 12 i.toNat else Config.pcOutside i

def Tile.setPc (t : Tile) (i : Int) : Tile := { t with core := { t.core with pc := pcTo i } }

/-- Move past an instruction of `n` words. -/
def Tile.adv (t : Tile) (n : Nat) : Tile := t.setPc (t.core.pc.toNat + n)

def Tile.setRun (t : Tile) (r : Run) : Tile := { t with core := { t.core with run := r } }

/-- Join sticky flags to MSTAT (R106). -/
def Flg.word (f : Flg) : BitVec 5 :=
  BitVec.ofNat 5 (b2n f.sat + 2 * b2n f.nan + 4 * b2n f.inf + 8 * b2n f.clamp + 16 * b2n f.invalid)

def Tile.flags (t : Tile) (f : Flg) : Tile :=
  { t with core := { t.core with mstat := t.core.mstat ||| f.word } }

/-! ### The instruction word (R88 to R103, R594) -/

def AluFn.code : AluFn → Nat
  | .add => 0 | .sub => 1 | .and => 2 | .or => 3 | .xor => 4 | .shl => 5 | .shr => 6 | .sra => 7
  | .mul => 8 | .slt => 9 | .sltu => 10 | .min => 11 | .max => 12 | .minu => 13 | .maxu => 14

def LoadFn.code : LoadFn → Nat
  | .lb => 0 | .lh => 1 | .lw => 2 | .lbu => 4 | .lhu => 5

def StoreFn.code : StoreFn → Nat
  | .sb => 0 | .sh => 1 | .sw => 2

def BranchFn.code : BranchFn → Nat
  | .beq => 0 | .bne => 1 | .blt => 2 | .bge => 3 | .bltu => 4 | .bgeu => 5

/-- VFN (R83). -/
def VecFn.code : VecFn → Nat
  | .vadd => 0 | .vsub => 1 | .vmul => 2 | .vfma => 3 | .vmin => 4 | .vmax => 5 | .vabs => 6 | .vneg => 7
  | .vcmplt => 8 | .vcmpeq => 9 | .vsel => 10 | .vbcast => 11 | .viadd => 12 | .vimul => 13 | .vshift => 14
  | .vlogic => 15 | .vpopc => 16 | .vcvt => 0x14 | .vqb => 0x15 | .vdqb => 0x16
  | .vexp => 0x20 | .vexp2 => 0x21 | .vlog => 0x22 | .vlog2 => 0x23 | .vrsqrt => 0x24 | .vrecip => 0x25
  | .vsqrt => 0x26 | .vsigm => 0x28 | .vtanh => 0x29 | .vgelu => 0x2A | .vsilu => 0x2B | .vsoftplus => 0x2C
  | .vrsum => 0x30 | .vrmax => 0x31 | .vrmin => 0x32 | .vrargmax => 0x33 | .vrargmin => 0x34
  | .vld => 0x38 | .vst => 0x39 | .vperm => 0x3A

/-- OP at [31:26] and up to four further fields, each with its lowest bit. -/
def word4 (op : Nat) (f : List (Nat × Nat)) : Word :=
  BitVec.ofNat 32 (op * 2 ^ 26 + total (f.map fun p => p.1 * 2 ^ p.2))

def TokOp.word (o : TokOp) (sub : Nat) : Word :=
  word4 0x09 [(o.su.toNat, 24), (sub, 22), (o.ra.toNat, 17), (o.tval.toNat, 9), (o.rb.toNat, 4), (o.rsv.toNat, 0)]

def RecvOp.word (o : RecvOp) (sub : Nat) : Word :=
  word4 0x0D [(o.rd.toNat, 21), (o.rm.toNat, 16), (b2n o.rotate, 15), (b2n o.nb, 14), (sub, 12),
    (o.rsv.toNat, 4), (o.qimm.toNat, 0)]

def HandleOp.word (o : HandleOp) (sub : Nat) : Word :=
  word4 0x14 [(o.h.toNat, 20), (o.h2.toNat, 14), (sub, 11), (o.ra.toNat, 6), (o.rb.toNat, 1), (o.rsv.toNat, 0)]

/-- Word 0 of an instruction, the word a fault reports (R105). -/
def Tis.word : Tis → Word
  | .alu f rd ra rb rsv =>
    word4 0x00 [(rd.toNat, 21), (ra.toNat, 16), (rb.toNat, 11), (rsv.toNat, 4), (f.code, 0)]
  | .alui f rd ra imm => word4 0x01 [(rd.toNat, 21), (ra.toNat, 16), (imm.toNat, 4), (f.code, 0)]
  | .load f rd base imm => word4 0x02 [(rd.toNat, 21), (base.toNat, 16), (imm.toNat, 4), (f.code, 0)]
  | .store f rd base imm => word4 0x03 [(rd.toNat, 21), (base.toNat, 16), (imm.toNat, 4), (f.code, 0)]
  | .branch f ra rb off => word4 0x04 [(ra.toNat, 21), (rb.toNat, 16), (off.toNat, 3), (f.code, 0)]
  | .jal rd off => word4 0x05 [(rd.toNat, 21), (off.toNat, 0)]
  | .jr rd ra rsv => word4 0x05 [(rd.toNat, 21), (1, 20), (ra.toNat, 15), (rsv.toNat, 0)]
  | .lui rd rsv imm => word4 0x06 [(rd.toNat, 21), (rsv.toNat, 20), (imm.toNat, 0)]
  | .lseti lc opnd => word4 0x08 [(lc.toNat, 22), (0, 19), (opnd.toNat, 0)]
  | .lsetr lc r rsv => word4 0x08 [(lc.toNat, 22), (1, 19), (r.toNat, 14), (rsv.toNat, 0)]
  | .loop lc off => word4 0x08 [(lc.toNat, 22), (2, 19), (off.toNat, 0)]
  | .linc lc imm => word4 0x08 [(lc.toNat, 22), (3, 19), (imm.toNat, 0)]
  | .lget lc r rsv => word4 0x08 [(lc.toNat, 22), (4, 19), (r.toNat, 14), (rsv.toNat, 0)]
  | .lbz lc off => word4 0x08 [(lc.toNat, 22), (5, 19), (off.toNat, 0)]
  | .toki o => o.word 0
  | .tokr o => o.word 1
  | .tokl o => o.word 2
  | .tstat o => o.word 3
  | .send o => word4 0x0C [(o.rds.toNat, 21), (o.rdst.toNat, 16), (o.rlen.toNat, 11), (o.h.toNat, 5),
      (b2n o.cnet, 4), (b2n o.reply, 3), (b2n o.pri, 2), (o.rsv.toNat, 0)]
  | .recvsel o => o.word 0
  | .qrel o => o.word 1
  | .mmb o => word4 0x10 [(o.ha.toNat, 20), (o.hb.toNat, 14), (o.hc.toNat, 8), (o.rsv75.toNat, 5),
      (o.g.toNat, 3), (o.rsv20.toNat, 0)]
  | .vec f o => word4 0x11 [(f.code, 20), (o.vd.toNat, 17), (o.va.toNat, 14), (o.vb.toNat, 11),
      (o.vc.toNat, 8), (o.ty.toNat, 6), (o.rsv.toNat, 0)]
  | .hset o => o.word 0
  | .hget o => o.word 1
  | .hswap o => o.word 2
  | .hfill o => o.word 3
  | .hunfill o => o.word 4
  | .hinv o => o.word 5
  | .fence r m n s rsv => word4 0x18 [(b2n r, 25), (b2n m, 24), (b2n n, 23), (b2n s, 22), (rsv.toNat, 0)]
  | .bar b rsv => word4 0x19 [(b.toNat, 20), (rsv.toNat, 0)]
  | .halt rd ra csr => word4 0x1F [(rd.toNat, 21), (ra.toNat, 16), (csr.toNat, 4), (0, 0)]
  | .csrr rd ra csr => word4 0x1F [(rd.toNat, 21), (ra.toNat, 16), (csr.toNat, 4), (1, 0)]
  | .csrw rd ra csr => word4 0x1F [(rd.toNat, 21), (ra.toNat, 16), (csr.toNat, 4), (2, 0)]
  | .trap rd ra csr => word4 0x1F [(rd.toNat, 21), (ra.toNat, 16), (csr.toNat, 4), (3, 0)]

/-- Word 1 of the two instructions that have one (R89, and the encoding table after R598); 0 for the rest. -/
def Tis.word1 : Tis → Word
  | .mmb o => BitVec.ofNat 32 (fld o.fmtA.toNat 28 4 + fld o.fmtB.toNat 24 4 + fld o.cfmt.toNat 22 2 + b2n o.ta * 2 ^ 21
      + b2n o.tb * 2 ^ 20 + b2n o.acc * 2 ^ 19 + b2n o.gmode * 2 ^ 18 + b2n o.hmode * 2 ^ 17 + o.rsv1.toNat)
  | .vec _ o => BitVec.ofNat 32 (fld o.h.toNat 26 6 + o.offset.toNat)
  | _ => 0

/-- Words an instruction occupies (R87): MMB and vector instructions two, the rest one. -/
def Tis.words : Tis → Nat
  | .mmb _ => 2
  | .vec _ _ => 2
  | _ => 1

/-- TYPE and VC values that R594 to R598 assign to a function. -/
def VecFn.assigned (f : VecFn) (ty vc : Nat) : Bool :=
  match f with
  | .vadd | .vsub | .vmul | .vfma | .vmin | .vmax | .vabs | .vneg | .vcmplt | .vcmpeq => ty ≤ 2
  | .vexp | .vexp2 | .vlog | .vlog2 | .vrsqrt | .vrecip | .vsqrt
  | .vsigm | .vtanh | .vgelu | .vsilu | .vsoftplus => ty ≤ 2
  | .vsel | .vbcast | .vld | .vst | .vperm => true
  | .viadd | .vimul | .vpopc => ty = 3
  | .vshift => ty = 3 ∧ vc ≤ 2
  | .vlogic => ty = 3 ∧ vc ≤ 3
  | .vcvt => vc ≤ 6
  | .vqb | .vdqb => ty = 0 ∧ vc ≤ 1
  | .vrsum | .vrmax | .vrmin | .vrargmax | .vrargmin => ty = 0

/-- No reserved bit set, no reserved sub-code, every register pair even (R87, R88, R101, R119 text, R594).
Log 150 (DEDUCED). -/
def Tis.legal : Tis → Bool
  | .alu _ _ _ _ rsv => rsv = 0
  | .alui f _ _ _ => f ≠ .sub
  | .jr _ _ rsv => rsv = 0
  | .lui _ rsv _ => rsv = 0
  | .lsetr _ _ rsv => rsv = 0
  | .lget _ _ rsv => rsv = 0
  | .toki o | .tokr o | .tokl o | .tstat o => o.rsv = 0
  | .send o => o.rsv = 0 ∧ o.rdst.toNat % 2 = 0
  | .recvsel o => o.rsv = 0 ∧ o.rd.toNat % 2 = 0
  | .qrel o => o.rsv = 0
  | .mmb o => o.rsv75 = 0 ∧ o.rsv20 = 0 ∧ o.rsv1 = 0
  | .vec f o => o.rsv = 0 ∧ f.assigned o.ty.toNat o.vc.toNat
      ∧ (f = .vld ∨ f = .vst ∨ (o.h = 0 ∧ o.offset = 0))
  | .hset o | .hget o => o.rsv = 0 ∧ o.ra.toNat ≤ 29
  | .hswap o | .hfill o | .hunfill o | .hinv o => o.rsv = 0
  | .fence _ _ _ _ rsv => rsv = 0
  | .bar _ rsv => rsv = 0
  | _ => true

/-- `n` registers from `r` upward. -/
def regRun (r n : Nat) : List (BitVec 5) := (List.range n).map fun i => BitVec.ofNat 5 (r + i)

/-- The general registers an instruction reads (R60). -/
def Tis.reads : Tis → List (BitVec 5)
  | .alu _ _ ra rb _ => [ra, rb]
  | .alui _ _ ra _ => [ra]
  | .load _ _ base _ => [base]
  | .store _ d base _ => [d, base]
  | .branch _ ra rb _ => [ra, rb]
  | .jr _ ra _ => [ra]
  | .lsetr _ r _ => [r]
  | .toki o => [o.ra]
  | .tokr o => [o.ra, o.rb]
  | .send o => [o.rdst, o.rdst + 1, o.rlen]
  | .recvsel o => [o.rm]
  | .mmb o => regRun (8 * o.g.toNat) 8
  | .hset o => regRun o.ra.toNat 3
  | .hfill o => [o.ra, o.rb]
  | .csrw _ ra _ => [ra]
  | _ => []

/-! ### Faults (R105) -/

/-- Stop issue with a fault at the present instruction. -/
def Tile.fail (t : Tile) (c : FaultCode) (i : Tis) (arg : Nat) : Tile :=
  { t with core := { t.core with run := .faulted, fault := some ⟨c, t.core.pc, i.word, arg⟩ } }

/-- SBFAULT captures the first HANDLE_UNFILLED or SCOREBOARD_TIMEOUT after VALID was last cleared (R132).
Log 25 (DESIGN CHOICE). -/
def Tile.captureSb (t : Tile) (line pc unit : Nat) (timeout : Bool) : Tile :=
  let w := BitVec.ofNat 32 (fld line 0 16 + fld pc 16 12 + fld unit 28 2 + b2n timeout * 2 ^ 30 + 2 ^ 31)
  if bit t.pad.sbfault.toNat 31 then t else { t with pad := { t.pad with sbfault := w } }

/-! ### Scratchpad: banks, holes, bytes and fill marks -/

/-- Bank `b` of the tile is usable. -/
def bankUsable (ok : BitVec 24) (b : Nat) : Bool := ok.getLsbD b

/-- Group `g` has all banks `lo` to `lo + 3` usable. -/
def halfUsable (ok : BitVec 24) (g lo : Nat) : Bool :=
  bankUsable ok (8 * g + lo) && bankUsable ok (8 * g + lo + 1) && bankUsable ok (8 * g + lo + 2)
    && bankUsable ok (8 * g + lo + 3)

/-- Whether an address lies in mapped scratchpad (R107, R115, R116). -/
def padMapped (ok : BitVec 24) (a : Nat) : Bool :=
  let g := a / 2 ^ 20
  if 0x300000 ≤ a then false
  else if halfUsable ok g 0 && halfUsable ok g 4 then true
  else if halfUsable ok g 0 || halfUsable ok g 4 then !bit a 19
  else false

/-- The bank that serves an address (R107, R115). -/
def bankOf (ok : BitVec 24) (a : Nat) : Nat :=
  let g := a / 2 ^ 20
  if halfUsable ok g 0 && halfUsable ok g 4 then 8 * g + bits a 6 3
  else if halfUsable ok g 4 then 8 * g + 4 + bits a 6 2
  else 8 * g + bits a 6 2

/-- Usable scratchpad in bytes (R117, R118). -/
def usableBytes (ok : BitVec 24) : Nat :=
  total ((List.range 3).map fun g =>
    if halfUsable ok g 0 && halfUsable ok g 4 then 0x100000
    else if halfUsable ok g 0 || halfUsable ok g 4 then 0x80000 else 0)

/-- Every half-mapped or mapped granule of a range: whether the whole range is mapped. The mapping changes only
at multiples of 512 KiB. -/
def rangeMapped (ok : BitVec 24) (a len : Nat) : Bool :=
  len = 0 || (a + len ≤ 0x300000 &&
    (List.range 6).all fun h =>
      let lo := h * 0x80000
      (a + len ≤ lo || lo + 0x80000 ≤ a) || padMapped ok lo)

def Tile.byte (t : Tile) (a : Nat) : Byte := look (fun _ => 0) t.pad.bytes a

def Tile.setByte (t : Tile) (a : Nat) (v : Byte) : Tile :=
  { t with pad := { t.pad with bytes := put (fun _ => 0) t.pad.bytes a v } }

/-- `n` scratchpad bytes from address `a`. -/
def Tile.read (t : Tile) (a n : Nat) : List Byte := (List.range n).map fun i => t.byte (a + i)

/-- A little-endian number of `n` scratchpad bytes. -/
def Tile.readNat (t : Tile) (a n : Nat) : Nat := leNat (t.read a n)

/-- Write bytes from address `a`; the fill map is not touched. -/
def Tile.write : Tile → Nat → List Byte → Tile
  | t, _, [] => t
  | t, a, b :: l => Tile.write (t.setByte a b) (a + 1) l

/-- Line number of an address (R107). -/
def lineOf (a : Nat) : Nat := a / 64

def Tile.filled (t : Tile) (line : Nat) : Bool := look (fun _ => false) t.pad.fill line

def Tile.setFill (t : Tile) (line : Nat) (v : Bool) : Tile :=
  { t with pad := { t.pad with fill := put (fun _ => false) t.pad.fill line v } }

/-- The lines that the bytes `[a, a + len)` touch. -/
def linesOf (a len : Nat) : List Nat :=
  if len = 0 then [] else (List.range (lineOf (a + len - 1) - lineOf a + 1)).map fun i => lineOf a + i

/-- Mark lines filled (R124) or unfilled (R125). -/
def Tile.markLines (t : Tile) (v : Bool) (ls : List Nat) : Tile := ls.foldl (fun t l => t.setFill l v) t

/-- Write bytes and mark the lines they touch as filled. -/
def Tile.land (t : Tile) (a : Nat) (bs : List Byte) : Tile :=
  (t.write a bs).markLines true (linesOf a bs.length)

/-! ### Handles -/

def Tile.handle (t : Tile) (h : BitVec 6) : Handle := look (fun _ => Handle.zero) t.pad.handles h.toNat

def Tile.setHandle (t : Tile) (h : BitVec 6) (v : Handle) : Tile :=
  { t with pad := { t.pad with handles := put (fun _ => Handle.zero) t.pad.handles h.toNat v } }

def Handle.kind (h : Handle) : Nat := wbits h.w0 0 2
def Handle.perm (h : Handle) : Nat := wbits h.w0 2 2
def Handle.endpoint (h : Handle) : Nat := wbits h.w0 16 16
def Handle.base (h : Handle) : Nat := h.w1.toNat
def Handle.size (h : Handle) : Nat := h.w2.toNat

/-- Readable and writable under PERM (R119, R121). -/
def Handle.canRead (h : Handle) : Bool := h.perm = 0 || h.perm = 1
def Handle.canWrite (h : Handle) : Bool := h.perm = 0 || h.perm = 2

/-- The end of the granted range that holds address `c`; `c` where none does. Log 62 (DEDUCED). -/
def grantEnd (gs : List (Nat × Nat)) (c : Nat) : Nat :=
  gs.foldl (fun c g => if g.1 ≤ c ∧ c < g.1 + g.2 then g.1 + g.2 else c) c

/-- Every byte from `lo` up to and not including `hi` is granted; ranges that adjoin count as one. Log 62 (DEDUCED). -/
def grantsHold (gs : List (Nat × Nat)) (lo hi : Nat) : Bool :=
  decide (hi ≤ (List.range gs.length).foldl (fun c _ => grantEnd gs c) lo)

/-- The checks of HSET (R120), with the ranges of module memory granted to the tile's strand (R261).
Log 62 (DEDUCED). -/
def hsetCheck (ok : BitVec 24) (grants : List (Nat × Nat)) (e : Handle) : Option FaultCode :=
  if wbits e.w0 4 12 ≠ 0 ∨ e.perm = 3 ∨ ((e.kind = 1 ∨ e.kind = 2) ∧ e.endpoint ≠ 0)
      ∨ (e.kind = 3 ∧ (e.endpoint = 0 ∨ 4096 < e.endpoint)) then some .handleKind
  else if e.kind = 1 ∧ e.base % 64 ≠ 0 then some .alignFault
  else if e.kind = 1 ∧ rangeMapped ok e.base e.size = false then some .handleRange
  else if e.kind = 2 ∧ grantsHold grants (e.base * 256) (e.base * 256 + e.size * 256) = false then some .handleRange
  else none

/-! ### The range scoreboard -/

/-- What steps 3 to 5 of R127 answer: issue, fault on an unfilled line, or hold, with the line and the partner. -/
inductive SbVerdict where
  | go
  | unfilled (line : Nat)
  | hold (line pc unit : Nat)
  deriving DecidableEq, Repr

/-- A byte range that an instruction touches. -/
abbrev Range := Nat × Nat

/-- The lines of a list of byte ranges. -/
def rangeLines (rs : List Range) : List Nat := rs.flatMap fun r => linesOf r.1 r.2

/-- The span of a list of byte ranges: lowest and highest line touched; none when nothing is touched. -/
def spanOf (rs : List Range) : Option (Nat × Nat) :=
  rs.foldl (fun acc r =>
    if r.2 = 0 then acc
    else
      let f := lineOf r.1
      let l := lineOf (r.1 + r.2 - 1)
      match acc with
      | none => some (f, l)
      | some (a, b) => some (min a f, max b l)) none

/-- Two spans share a line. A span whose last line is below its first covers none. -/
def overlap (a b : Nat × Nat) : Bool := a.1 ≤ b.2 && b.1 ≤ a.2 && a.1 ≤ a.2 && b.1 ≤ b.2

/-- Lines of a window that is open or closing (R136). -/
def Tile.inWindow (t : Tile) (line : Nat) : Bool :=
  t.pad.winslots.any fun p => p.2.isOpen && p.2.first ≤ line && line ≤ p.2.last

/-- Lines covered by the standing producer of a LAND output (R152). Log 29 (DEDUCED). -/
def Tile.inLand (t : Tile) (line : Nat) : Bool :=
  t.pad.sb.any fun p => p.2.unit = 3 && p.2.first ≤ line && line ≤ p.2.last

/-- Lines covered by a standing producer of either kind. -/
def Tile.standing (t : Tile) (line : Nat) : Bool := t.inWindow line || t.inLand line

/-- Lines inside an outstanding producer's span. -/
def Tile.produced (t : Tile) (line : Nat) : Bool :=
  t.pad.sb.any fun p => p.2.producer && p.2.first ≤ line && line ≤ p.2.last

/-- Whether a span reaches a line under a standing producer. -/
def Tile.spanStanding (t : Tile) (sp : Nat × Nat) : Bool :=
  (t.pad.winslots.any fun p => p.2.isOpen && overlap sp (p.2.first, p.2.last))
    || t.pad.sb.any fun p => p.2.unit = 3 && overlap sp (p.2.first, p.2.last)

/-- The first line that an entry shares with the spans an instruction reads or writes, where the entry holds it: a producer
holds both, a consumer the writes, and a standing producer neither (R127 step 4, R152). -/
def SbEntry.meets (e : SbEntry) (rs ws : List (Nat × Nat)) : Option Nat :=
  if e.unit = 3 then none
  else
    (((if e.producer then rs else []) ++ ws).find? fun s => overlap s (e.first, e.last)).map fun s => max s.1 e.first

/-- Steps 3 to 5 of R127 for an instruction that needs `need` entries, with the byte ranges of each operand it reads and of
each it writes. Step 3 looks at the lines read, step 4 at the span of each operand. Standing producers hold only reads of
unfilled lines (R136, R152). Log 155 (DEDUCED). -/
def Tile.sbCheck (t : Tile) (reads writes : List (List Range)) (need : Nat) : SbVerdict :=
  match (rangeLines reads.flatten).find? fun l => !t.filled l && !t.produced l && !t.inWindow l with
  | some l => .unfilled l
  | none =>
    let rs := reads.filterMap spanOf
    let ws := writes.filterMap spanOf
    match t.pad.sb.findSome? fun p => (p.2.meets rs ws).map fun l => (l, p.2) with
    | some (l, e) => .hold l e.pc e.unit
    | none =>
      match (rangeLines reads.flatten).find? fun l => !t.filled l && t.standing l with
      | some l => .hold l 0xFFF 3
      | none =>
        if t.pad.sb.length + need ≤ 32 then .go
        else
          match t.pad.sb with
          | [] => .go
          | (_, e) :: _ => .hold (Config.freeNat e.pc) e.pc e.unit

/-- The lowest free entry numbers of the scoreboard. Log 25 (DESIGN CHOICE). -/
def Tile.freeEnts (t : Tile) : List Nat := (List.range 32).filter fun i => t.pad.sb.all fun p => p.1 ≠ i

/-- Register entries at the back of the table, oldest first; answers their numbers too. Log 25 (DESIGN CHOICE). -/
def Tile.register (t : Tile) (es : List SbEntry) : Tile × List Nat :=
  let ns := t.freeEnts.take es.length
  ({ t with pad := { t.pad with sb := t.pad.sb ++ ns.zip es } }, ns)

/-- Release entries (R126). -/
def Tile.release (t : Tile) (ns : List Nat) : Tile :=
  { t with pad := { t.pad with sb := t.pad.sb.filter fun p => !ns.contains p.1 } }

/-- The entry of an optional span. -/
def spanEntry (sp : Option (Nat × Nat)) (producer : Bool) (unit pc : Nat) : List SbEntry :=
  match sp with
  | none => []
  | some (f, l) => [⟨f, l, producer, unit, pc⟩]

/-! ### Stalls -/

/-- Hold the present instruction. A timed stall notes when it began and the limit in force then (R129). -/
def Tile.stall (t : Tile) (i : Tis) (timed : Bool) (now limitUs : Nat) : Tile :=
  match t.core.run with
  | .stalled _ true =>
    if timed then { t with core := { t.core with run := .stalled i true } }
    else { t with core := { t.core with run := .stalled i false } }
  | _ =>
    { t with core := { t.core with
        run := .stalled i timed
        stallStart := if timed then now else t.core.stallStart
        stallLimitUs := if timed then limitUs else t.core.stallLimitUs } }

/-- The outcome of a check that may fault, hold or pass. Log 155 (DEDUCED). -/
def Tile.guard (t : Tile) (i : Tis) (now limitUs : Nat) (v : SbVerdict) (go : Tile → Tile) : Tile :=
  match v with
  | .go => go (t.setRun .running)
  | .unfilled l => (t.captureSb l 0 0 false).fail .handleUnfilled i 0
  | .hold _ _ _ => t.stall i true now limitUs

end Sys2Proof.Machine
end

