-- ==== Sys2Proof/Machine/MatrixEngine.lean ====
section
/-! DEFINITION. The matrix engine (R71 to R82, R89 to R94): operands of an MMB, its checks at issue, the bytes it
touches and what it writes. -/

namespace Sys2Proof.Machine

/-- Width class of a format code (R63, R71): element width in bits; none for a reserved code. -/
def fmtBits (c : Nat) : Option Nat :=
  if c ≤ 1 then some 4 else if c ≤ 4 then some 8 else if c ≤ 6 then some 16 else if c = 7 then some 1 else none

/-- The accumulator is INT32: both operands I8, or H1 (R72). -/
def MmbJob.isInt (j : MmbJob) : Bool :=
  (j.o.fmtA.toNat = 2 && j.o.fmtB.toNat = 2) || j.o.fmtA.toNat = 7

/-- Element width of the operands in bits. -/
def MmbJob.eb (j : MmbJob) : Nat := (fmtBits j.o.fmtA.toNat).getD 8

/-- Bytes of an element of C: four for the accumulator format, two for BF16 and FP16. -/
def MmbJob.cw (j : MmbJob) : Nat := if j.o.cfmt.toNat = 0 then 4 else 2

/-- Nothing is read or written (R94). -/
def MmbJob.empty (j : MmbJob) : Bool := j.m = 0 || j.n = 0 || j.batch = 0

/-- Rows and columns of C written: the padded ones too when GMODE is 1 (R91). -/
def MmbJob.rowsC (j : MmbJob) : Nat := if j.o.gmode then roundUp j.m 32 else j.m
def MmbJob.colsC (j : MmbJob) : Nat := if j.o.gmode then roundUp j.n 64 else j.n

/-- The operands read from register group g (R90) and the bases of the handles. -/
def mmbJob (t : Tile) (o : MmbOp) : MmbJob :=
  let r := fun i => t.reg (BitVec.ofNat 5 (8 * o.g.toNat + i))
  let hsa := BitVec.ofNat 6 (wbits (r 6) 16 6)
  let hsb := BitVec.ofNat 6 (wbits (r 6) 22 6)
  { o := o
    m := wbits (r 0) 0 16
    n := wbits (r 0) 16 16
    k := wbits (r 1) 0 16
    batch := wbits (r 1) 16 16
    strideA := (r 2).toNat
    strideB := (r 3).toNat
    strideC := (r 4).toNat
    pitchA := wbits (r 5) 0 16
    pitchB := wbits (r 5) 16 16
    pitchC := wbits (r 6) 0 16
    hsa := hsa
    hsb := hsb
    grout := r 7
    baseA := (t.handle o.ha).base
    baseB := (t.handle o.hb).base
    baseC := (t.handle o.hc).base
    baseSA := (t.handle hsa).base
    baseSB := (t.handle hsb).base
    pc := t.core.pc.toNat
    ents := [] }

/-- Bytes that one row of A or column of B touches along K (R92). -/
def MmbJob.rowBytes (j : MmbJob) : Nat :=
  if j.eb = 4 then 16 * ceilDiv j.k 32 else if j.eb = 1 then 2 * ceilDiv j.k 16 else j.k * (j.eb / 8)

/-- Byte ranges of an operand, as offsets from its handle base: `rows` runs of K elements, or, stored the other
way round, K runs of `rows` elements (R92). -/
def MmbJob.opRanges (j : MmbJob) (other : Bool) (rows stride pitch : Nat) : List Range :=
  if j.empty || j.k = 0 then []
  else (List.range j.batch).flatMap fun b =>
    if other then (List.range j.k).map fun k => (b * stride + k * pitch, rows * (j.eb / 8))
    else (List.range rows).map fun i => (b * stride + i * pitch, j.rowBytes)

/-- A touched by M rows; TA tells how it is stored. -/
def MmbJob.rangesA (j : MmbJob) : List Range := j.opRanges j.o.ta j.m j.strideA j.pitchA

/-- B touched by N columns; TB 1 is stored N × K. -/
def MmbJob.rangesB (j : MmbJob) : List Range := j.opRanges (!j.o.tb) j.n j.strideB j.pitchB

/-- The scale bytes of an operand of the 4-bit class (R65, R92). -/
def MmbJob.scaleRanges (j : MmbJob) (rows stride pitch : Nat) : List Range :=
  if j.eb ≠ 4 || j.empty || j.k = 0 then []
  else (List.range j.batch).flatMap fun b =>
    (List.range rows).map fun i => (b * (stride / 16) + i * (pitch / 16), ceilDiv j.k 32)

/-- The bytes of C written. -/
def MmbJob.rangesC (j : MmbJob) : List Range :=
  if j.empty then []
  else (List.range j.batch).flatMap fun b =>
    (List.range j.rowsC).map fun i => (b * j.strideC + i * j.pitchC, j.colsC * j.cw)

/-- The bytes of C read when ACC is 1. -/
def MmbJob.rangesAcc (j : MmbJob) : List Range :=
  if j.empty || !j.o.acc then []
  else (List.range j.batch).flatMap fun b =>
    (List.range j.m).map fun i => (b * j.strideC + i * j.pitchC, j.n * j.cw)

/-- Ranges placed at a base address. -/
def atBase (base : Nat) (rs : List Range) : List Range := rs.map fun r => (base + r.1, r.2)

/-- Every range inside a handle of `size` bytes. -/
def inside (size : Nat) (rs : List Range) : Bool := rs.all fun r => r.2 = 0 || r.1 + r.2 ≤ size

/-- Two optional spans share a line. -/
def spansMeet (a b : Option (Nat × Nat)) : Bool :=
  match a, b with
  | some x, some y => overlap x y
  | _, _ => false

/-- The checks of R93, in order. Log 153 (DEDUCED). -/
def mmbCheck (t : Tile) (j : MmbJob) : Option FaultCode :=
  let a := t.handle j.o.ha
  let b := t.handle j.o.hb
  let c := t.handle j.o.hc
  let sa := t.handle j.hsa
  let sb := t.handle j.hsb
  let four := j.eb = 4
  let cs := spanOf (atBase j.baseC j.rangesC)
  if fmtBits j.o.fmtA.toNat = none ∨ fmtBits j.o.fmtB.toNat = none
      ∨ fmtBits j.o.fmtA.toNat ≠ fmtBits j.o.fmtB.toNat ∨ j.o.cfmt.toNat = 3
      ∨ ((j.o.cfmt.toNat = 1 ∨ j.o.cfmt.toNat = 2) ∧ j.isInt = true)
      ∨ ((j.eb = 4 ∨ j.eb = 1) ∧ (j.o.ta = true ∨ j.o.tb = false)) then some .mmbFormat
  else if a.kind ≠ 1 ∨ b.kind ≠ 1 ∨ c.kind ≠ 1 ∨ a.canRead = false ∨ b.canRead = false ∨ c.canWrite = false
      ∨ (j.o.acc = true ∧ c.canRead = false)
      ∨ (four ∧ (sa.kind ≠ 1 ∨ sb.kind ≠ 1 ∨ sa.canRead = false ∨ sb.canRead = false))
      ∨ (cs.any fun s => t.spanStanding s) = true then some .handleKind
  else if j.baseA % 64 ≠ 0 ∨ j.baseB % 64 ≠ 0 ∨ j.baseC % 64 ≠ 0 ∨ j.pitchA % 64 ≠ 0 ∨ j.pitchB % 64 ≠ 0
      ∨ j.pitchC % 64 ≠ 0 ∨ j.strideA % 64 ≠ 0 ∨ j.strideB % 64 ≠ 0 ∨ j.strideC % 64 ≠ 0
      ∨ (four ∧ (j.baseSA % 64 ≠ 0 ∨ j.baseSB % 64 ≠ 0)) then some .alignFault
  else if inside a.size j.rangesA = false ∨ inside b.size j.rangesB = false ∨ inside c.size j.rangesC = false
      ∨ (four ∧ (inside sa.size (j.scaleRanges j.m j.strideA j.pitchA) = false
        ∨ inside sb.size (j.scaleRanges j.n j.strideB j.pitchB) = false)) then some .handleRange
  else if spansMeet cs (spanOf (atBase j.baseA j.rangesA)) = true
      ∨ spansMeet cs (spanOf (atBase j.baseB j.rangesB)) = true
      ∨ spansMeet cs (spanOf (atBase j.baseSA (j.scaleRanges j.m j.strideA j.pitchA))) = true
      ∨ spansMeet cs (spanOf (atBase j.baseSB (j.scaleRanges j.n j.strideB j.pitchB))) = true
      ∨ (j.empty = false ∧ j.pitchC < j.colsC * j.cw) then some .mmbAlias
  else none

/-- The byte ranges an MMB reads, as scratchpad addresses, operand by operand: A, B, the scale planes, and C where ACC
is 1. -/
def MmbJob.reads (j : MmbJob) : List (List Range) :=
  [atBase j.baseA j.rangesA, atBase j.baseB j.rangesB, atBase j.baseSA (j.scaleRanges j.m j.strideA j.pitchA),
    atBase j.baseSB (j.scaleRanges j.n j.strideB j.pitchB), atBase j.baseC j.rangesAcc]

def MmbJob.writes (j : MmbJob) : List Range := atBase j.baseC j.rangesC

/-- The scoreboard entries of an MMB (R126). -/
def MmbJob.entries (j : MmbJob) : List SbEntry :=
  spanEntry (spanOf (atBase j.baseA j.rangesA)) false 0 j.pc
    ++ spanEntry (spanOf (atBase j.baseB j.rangesB)) false 0 j.pc
    ++ spanEntry (spanOf (atBase j.baseSA (j.scaleRanges j.m j.strideA j.pitchA))) false 0 j.pc
    ++ spanEntry (spanOf (atBase j.baseSB (j.scaleRanges j.n j.strideB j.pitchB))) false 0 j.pc
    ++ spanEntry (spanOf j.writes) true 0 j.pc

/-- Element `e` of a run of `eb`-bit elements that begins at byte `a` (R65, R66). -/
def elemAt (t : Tile) (eb a e : Nat) : Nat :=
  if eb ≥ 8 then t.readNat (a + e * (eb / 8)) (eb / 8)
  else (t.byte (a + e * eb / 8)).toNat / 2 ^ (e * eb % 8) % 2 ^ eb

/-- Element (i, k) of A and (k, j) of B in batch `b` (R92). -/
def MmbJob.elemA (j : MmbJob) (t : Tile) (b i k : Nat) : Nat :=
  if j.o.ta then elemAt t j.eb (j.baseA + b * j.strideA + k * j.pitchA) i
  else elemAt t j.eb (j.baseA + b * j.strideA + i * j.pitchA) k

def MmbJob.elemB (j : MmbJob) (t : Tile) (b k n : Nat) : Nat :=
  if j.o.tb then elemAt t j.eb (j.baseB + b * j.strideB + n * j.pitchB) k
  else elemAt t j.eb (j.baseB + b * j.strideB + k * j.pitchB) n

/-- The value of an element of the 8-bit and 16-bit classes. -/
def elemVal (fmt x : Nat) : Val :=
  match fmt with
  | 2 => valInt (if x < 128 then x else (x : Int) - 256)
  | 3 => e4m3.val x
  | 4 => e5m2.val x
  | 5 => bf16.val x
  | _ => fp16.val x

/-- A saturating INT32 accumulation step; once saturated the element stays at its limit (R75). -/
def accInt (s : Int × Bool) (p : Int) : Int × Bool :=
  if s.2 then s
  else
    let v := s.1 + p
    if v > 2147483647 then (2147483647, true) else if v < -2147483648 then (-2147483648, true) else (v, false)

/-- The exact sum of block `q` in units of one quarter (R73); elements at or beyond K count as zero. -/
def MmbJob.blockSum (j : MmbJob) (t : Tile) (b i n q : Nat) : Int :=
  (List.range 32).foldl (fun s e =>
    let k := 32 * q + e
    if k < j.k then
      s + code4Halves (j.o.fmtA.toNat = 1) (j.elemA t b i k) * code4Halves (j.o.fmtB.toNat = 1) (j.elemB t b k n)
    else s) 0

/-- One block of the 4-bit class into the accumulator (R73). -/
def MmbJob.blockStep (j : MmbJob) (t : Tile) (b i n : Nat) (s : Nat × Flg) (q : Nat) : Nat × Flg :=
  let sa := (t.byte (j.baseSA + b * (j.strideA / 16) + i * (j.pitchA / 16) + q)).toNat
  let sb := (t.byte (j.baseSB + b * (j.strideB / 16) + n * (j.pitchB / 16) + q)).toNat
  let x := j.blockSum t b i n q
  let v : Val := if sa = 255 ∨ sb = 255 then .nan else .fin (x < 0) x.natAbs ((sa : Int) + sb - 254 - 2)
  let (y, g) := add32 s.1 v
  (y, s.2.or g)

/-- The accumulator element at (i, n) of batch `b` as it stands before the sum: zero, or C (R91). -/
def MmbJob.start (j : MmbJob) (t : Tile) (b i n : Nat) : Nat :=
  if j.o.acc then t.readNat (j.baseC + b * j.strideC + i * j.pitchC + n * j.cw) j.cw else 0

/-- The element of C at (i, n) of batch `b`: its bits in C's format and the flags raised (R73 to R76, R82, R91). -/
def MmbJob.elemC (j : MmbJob) (t : Tile) (b i n : Nat) : Nat × Flg :=
  let c0 := j.start t b i n
  if j.isInt then
    let add := fun s k =>
      let x := j.elemA t b i k
      let y := j.elemB t b k n
      accInt s (if j.o.fmtA.toNat = 7 then (if (x = y) = (j.o.hmode = false) then 1 else 0)
        else (if x < 128 then (x : Int) else x - 256) * (if y < 128 then (y : Int) else y - 256))
    let (v, sat) := (List.range j.k).foldl add (sInt c0, false)
    (ofInt 32 v, { Flg.none with sat := sat })
  else
    let cf := if j.o.cfmt.toNat = 1 then bf16 else if j.o.cfmt.toNat = 2 then fp16 else fp32
    let acc0 := if j.o.cfmt.toNat = 0 then c0 else (fp32.enc (cf.val c0)).1
    let (v, g) :=
      if j.eb = 4 then (List.range (ceilDiv j.k 32)).foldl (j.blockStep t b i n) (acc0, Flg.none)
      else (List.range j.k).foldl (fun (s : Nat × Flg) k =>
        let (y, f) := fma32 s.1 (elemVal j.o.fmtA.toNat (j.elemA t b i k))
          (elemVal j.o.fmtB.toNat (j.elemB t b k n))
        (y, s.2.or f)) (acc0, Flg.none)
    if j.o.cfmt.toNat = 0 then (v, g)
    else
      let (w, f) := cf.enc (fp32.val v)
      (w, g.or f)

/-- The places of C that an MMB writes, batch by batch: batch, row, column. -/
def MmbJob.places (j : MmbJob) : List (Nat × Nat × Nat) :=
  if j.empty then []
  else (List.range j.batch).flatMap fun b => (List.range j.rowsC).flatMap fun i =>
    (List.range j.colsC).map fun n => (b, i, n)

/-- Byte address of an element of C. -/
def MmbJob.addrC (j : MmbJob) (p : Nat × Nat × Nat) : Nat :=
  j.baseC + p.1 * j.strideC + p.2.1 * j.pitchC + p.2.2 * j.cw

/-- One place of C: the element with its flags, or the grout; its lines are filled (R91, R124). The element reads the tile
as it stands, so that a batch adds to what earlier batches left. -/
def MmbJob.put (j : MmbJob) (t : Tile) (p : Nat × Nat × Nat) : Tile :=
  if p.2.1 < j.m ∧ p.2.2 < j.n then
    let (v, g) := j.elemC t p.1 p.2.1 p.2.2
    (t.land (j.addrC p) (leBytes j.cw v)).flags g
  else t.land (j.addrC p) (leBytes j.cw j.grout.toNat)

/-- What an MMB leaves (R91). -/
def MmbJob.run (j : MmbJob) (t : Tile) : Tile := j.places.foldl j.put t

/-- Whether some INT32 element drains that has not saturated (R79, R81). -/
def MmbJob.drains (j : MmbJob) (t : Tile) : Bool :=
  (j.places.foldl (fun (s : Tile × Bool) p =>
    (j.put s.1 p, s.2 || (decide (p.2.1 < j.m ∧ p.2.2 < j.n) && !(j.elemC s.1 p.1 p.2.1 p.2.2).2.sat))) (t, false)).2

/-- Whether a residue of this MMB is compared at all (R79, R81): a block sum of the 4-bit class closes, or an INT32 element,
a count of H1 among them, drains unsaturated. -/
def MmbJob.residueCompared (j : MmbJob) (t : Tile) : Bool :=
  (j.eb = 4 && !j.empty && j.k ≠ 0) || (j.isInt && j.drains t)

/-- An issued instruction that names the handle has not retired (R104). -/
def Tile.handleBusy (t : Tile) (h : BitVec 6) : Bool :=
  (t.units.meq.any fun j => j.o.ha = h || j.o.hb = h || j.o.hc = h || (j.eb = 4 && (j.hsa = h || j.hsb = h)))
    || (t.units.vuq.any fun j => j.place ≠ .none && j.o.h = h)
    || t.units.mu.any fun e => e.h = some h

end Sys2Proof.Machine
end

