-- ==== Sys2Proof/Machine/TileRegs.lean ====
section
/-! DEFINITION. The tile's receive queues (R226 to R229), its control registers (R61, R106, R114, R118, R132, R133,
R138, R147, R155 to R157, R164, R174, R228, R246, R419, R464, R508) and loads from its local address space (R61,
R62). -/

namespace Sys2Proof.Machine

/-- What a tile sees of the rest of the die while it issues: its slot, the time base, the wait limit in force, the
memory granted to its strand, its part of the checkpoint slots (R261), the S-net flags and counters, the state of the priority classes (R220), and whether
its strand runs a service job (R473), and send_stall_limit. -/
structure Ctx where
  slot : Nat
  now : Nat
  limitUs : Nat
  grants : List Range
  ckpt : List Range
  flags : BitVec 64
  counts : List (Nat × Word)
  pclass : Nat
  service : Bool
  sendLimitUs : Nat
  deriving DecidableEq, Repr

/-! ### Slots and positions (R258) -/

/-- Slot number of a tile position; none for position 14, the edges and beyond. -/
def slotOf (row pos : Nat) : Option Nat :=
  if 24 ≤ row then none
  else if 1 ≤ pos ∧ pos ≤ 13 then some (26 * row + (pos - 1))
  else if 15 ≤ pos ∧ pos ≤ 27 then some (26 * row + (pos - 2))
  else none

def rowOf (slot : Nat) : Nat := slot / 26

def posOf (slot : Nat) : Nat := if slot % 26 < 13 then slot % 26 + 1 else slot % 26 + 2

/-! ### Queues -/

def Tile.queue (t : Tile) (q : Nat) : Queue := look (fun _ => Queue.reset) t.queues q

def Tile.setQueue (t : Tile) (q : Nat) (v : Queue) : Tile :=
  { t with queues := put (fun _ => Queue.reset) t.queues q v }

/-- Payload space a message takes: its length rounded up to 64 (R226). -/
def Msg.space (m : Msg) : Nat := roundUp m.hdr.length 64

/-- Where byte `i` of the next payload of a queue goes in queue memory (R226, R227). Log 26 (DESIGN CHOICE). -/
def Tile.queuePlace (t : Tile) (q i : Nat) : Nat :=
  Config.queueLine q ((List.range 16).map fun r => (t.queue r).qsize) ((t.queue q).placed + i / 64) % 1536 * 64 + i % 64

/-- A payload placed in a queue's share of queue memory, line by line (R226, R227). -/
def Tile.placeBytes (t : Tile) (q : Nat) (m : Msg) : Tile :=
  let c := t.queue q
  { t.setQueue q { c with placed := c.placed + m.space / 64 } with
    qmem := (List.range m.hdr.length).foldl (fun l i => put (fun _ => 0) l (t.queuePlace q i) (m.payload.getD i 0))
      t.qmem }

/-- A message placed at the back of a queue: its payload lies in queue memory (R226). -/
def Tile.hold (t : Tile) (q : Nat) (m : Msg) : Tile :=
  let c := t.queue q
  (t.setQueue q { c with held := c.held ++ [m] }).placeBytes q m

/-- A reply placed in a reserved credit, which it releases (R225). -/
def Tile.holdReply (t : Tile) (q : Nat) (m : Msg) : Tile :=
  let c := t.queue q
  (t.setQueue q { c with credits := c.credits - 1 }).hold q m

/-- Payload space in use: held messages and reply credits. -/
def Queue.used (q : Queue) : Nat := total (q.held.map Msg.space) + q.credits * (q.resv * 64)

/-- Room for one header entry and `space` bytes (R226). -/
def Queue.room (q : Queue) (space : Nat) : Bool :=
  q.held.length + q.credits + 1 ≤ 32 && q.used + space ≤ q.qsize * 512

/-- The generation advances: held and spilled messages are discarded, credits released (R225, R229). -/
def Queue.advance (q : Queue) : Queue :=
  { q with
    gen := q.gen + 1
    held := []
    spilled := []
    credits := 0
    selected := false
    advances := q.advances + 1 }

/-- Bytes of the spill ring a spilled message occupies: a header line and its payload (R236). -/
def Msg.ringSpace (m : Msg) : Nat := 64 + m.space

def Queue.ringUsed (q : Queue) : Nat := total (q.spilled.map Msg.ringSpace)

/-- Spill-ring bytes in use beyond each queue's own extension. -/
def Tile.sharedUsed (t : Tile) : Nat :=
  total ((List.range 16).map fun q => (t.queue q).ringUsed - (t.queue q).ext)

/-- The shared part of the ring: the ring less every extension (R236). -/
def Tile.sharedRing (t : Tile) : Nat := t.ringBytes - total ((List.range 16).map fun q => (t.queue q).ext)

/-- Room in the spill ring for a message to queue `q`: its extension first, then the shared part (R236). -/
def Tile.ringRoom (t : Tile) (q : Nat) (m : Msg) : Bool :=
  let c := t.queue q
  let after := c.ringUsed + m.ringSpace
  decide (t.sharedUsed - (c.ringUsed - c.ext) + (after - c.ext) ≤ t.sharedRing)

/-- Spill-ring bytes in use at the tile. -/
def Tile.ringUsed (t : Tile) : Nat := total ((List.range 16).map fun q => (t.queue q).ringUsed)

/-! ### Steering units -/

def Tile.su (t : Tile) (u : Nat) : Su := look (fun _ => Su.reset) t.sus u

def Tile.setSu (t : Tile) (u : Nat) (v : Su) : Tile := { t with sus := put (fun _ => Su.reset) t.sus u v }

/-- Some enabled steering unit takes its data from queue `q`. -/
def Tile.steered (t : Tile) (q : Nat) : Bool :=
  (List.range 4).any fun u => (t.su u).enable && (t.su u).iq = q

/-- A queue is ready: it holds a message, no head is selected, and no enabled unit has it as input (R99, R160). -/
def Tile.ready (t : Tile) (q : Nat) : Bool :=
  let c := t.queue q
  !c.held.isEmpty && !c.selected && !t.steered q

/-- The queue RECVSEL takes (R99). -/
def Tile.pick (t : Tile) (mask : Nat) (rotate : Bool) : Option Nat :=
  let start := if rotate then (match t.core.lastSel with | some q => q.toNat + 1 | none => 0) else 0
  ((List.range 16).map fun i => (start + i) % 16).find? fun q => bit mask q && t.ready q

/-- SUSTAT (R164). -/
def Tile.suStat (t : Tile) (u : Nat) : Nat :=
  let s := t.su u
  let data := if s.enable then min 15 ((t.queue s.iq).held.length) else 0
  fld s.tokens.length 0 4 + fld data 4 4 + fld s.lastToken.toNat 8 8 + fld s.discards 16 8 + fld s.fails 24 8

/-- Clear a unit as a tile reset does (R163). -/
def Tile.suClear (t : Tile) : Tile :=
  let ents := (List.range 4).flatMap fun u => (t.su u).landEnts
  { t.release ents with sus := [] }

/-- ENABLE is cleared: held tokens are discarded, the standing producers removed (R154, R163). -/
def Tile.suDisable (t : Tile) (u : Nat) : Tile :=
  let s := t.su u
  (t.release s.landEnts).setSu u { s with enable := false, tokens := [], land := [], landEnts := [] }

/-- OKIND and H of an output (R157). -/
def outKind (p : Word × Word) : Nat := wbits p.1 0 2
def outHandle (p : Word × Word) : BitVec 6 := BitVec.ofNat 6 (wbits p.1 2 6)

/-- A write to SUCFG (R155, R156). -/
def Tile.suWrite (t : Tile) (u : Nat) (v : Word) : Tile :=
  let s := t.su u
  let en := bit v.toNat 0
  let iq := wbits v 2 4
  let tl := bit v.toNat 1
  if s.enable then
    if en then t
    else
      let t' := t.suDisable u
      t'.setSu u { t'.su u with iq := iq, tokenless := tl }
  else if en then
    let clash := (List.range 4).any fun w => w ≠ u && (t.su w).enable && (t.su w).iq = iq
    let lands := s.outs.map fun p => if outKind p = 3 then some (t.handle (outHandle p)) else none
    let spans := lands.filterMap fun h =>
      match h with
      | some e => if e.kind = 1 ∧ e.size ≠ 0 then
          some (⟨lineOf e.base, lineOf (e.base + e.size - 1), true, 3, 0xFFF⟩ : SbEntry)
        else some ⟨1, 0, true, 3, 0xFFF⟩
      | none => none
    if clash ∨ 32 < t.pad.sb.length + spans.length then t
    else
      let (t', ns) := t.register spans
      t'.setSu u { s with
        enable := true
        tokenless := tl
        iq := iq
        discards := 0
        fails := 0
        land := lands
        landEnts := ns }
  else t.setSu u { s with iq := iq, tokenless := tl }

/-- A write to word `w` of SUOUT[u][o]; ignored while the unit is enabled, reserved bits dropped (R156, R157). -/
def Tile.suOutWrite (t : Tile) (u o w : Nat) (v : Word) : Tile :=
  let s := t.su u
  if s.enable then t
  else
    let p := s.outs.getD o (0, 0)
    let p' := if w = 0 then (v &&& 0x3FFF00FF, p.2) else (p.1, v &&& 0x000F0000)
    t.setSu u { s with outs := setAt s.outs o p' }

/-- A write to QCTL (R228, R229). -/
def Tile.qctlWrite (t : Tile) (q : Nat) (v : Word) : Tile :=
  let c := t.queue q
  let c1 :=
    if bit v.toNat 0 then
      if c.isOpen ∨ c.qsize = 0 then c else { c.advance with isOpen := true }
    else { c with isOpen := false }
  let c2 :=
    if c1.held.isEmpty ∧ c1.spilled.isEmpty ∧ c1.credits = 0 then
      { c1 with replyOnly := bit v.toNat 1, resv := min (wbits v 8 7) (min 64 (c1.qsize * 8)) }
    else c1
  t.setQueue q c2

/-- QCTL and QSTAT as read (R228). -/
def Queue.ctl (c : Queue) : Nat :=
  b2n c.isOpen + 2 * b2n c.replyOnly + fld c.resv 8 7 + fld c.gen.toNat 16 4

def Queue.stat (c : Queue) : Nat :=
  fld c.held.length 0 6 + b2n (!c.spilled.isEmpty) * 64 + fld c.credits 8 8
    + fld (min 65535 c.spilled.length) 16 16

/-- The selected head of a queue. -/
def Queue.head (c : Queue) : Option Msg := if c.selected then c.held.head? else none

/-- REPLYTO of a selected head that is a request with a reply queue (R228). Log 28 (DEDUCED). -/
def replyTo (m : Msg) : Word × Word :=
  (BitVec.ofNat 32 (m.hdr.srcEp.toNat + fld m.hdr.srcRow.toNat 16 5 + fld m.hdr.srcPos.toNat 21 5
      + fld m.hdr.replyQ.toNat 26 4),
    BitVec.ofNat 32 (m.hdr.tag.toNat + fld m.hdr.replyGen.toNat 16 4))

/-- Issue is held in step 4 or 5 of R127, not by a handle as R104 holds HSET, HSWAP, HUNFILL and HINV. -/
def Tile.inScoreboard (t : Tile) : Bool :=
  match t.core.run with
  | .stalled (.hset _) true | .stalled (.hswap _) true | .stalled (.hinv _) true => false
  | .stalled (.hunfill o) true => !t.handleBusy o.h
  | .stalled _ true => true
  | _ => false

/-- SBSTAT (R132): entries in use, STALLED, STALL_US. -/
def Tile.sbStat (t : Tile) (now : Nat) : Nat :=
  let st := t.inScoreboard
  let us := if st then min 65535 ((now - t.core.stallStart) / 1000) else 0
  t.pad.sb.length + b2n st * 256 + us * 65536

/-- SBENTRY[e] (R133). -/
def Tile.sbEntry (t : Tile) (e : Nat) : Nat × Nat :=
  match t.pad.sb.find? fun p => p.1 = e with
  | none => (0, 0)
  | some (_, s) => (fld s.first 0 16 + fld s.last 16 16,
      1 + 2 * b2n s.producer + fld s.unit 2 2 + fld s.pc 4 12)

/-- WINSLOT[w] (R138). -/
def Tile.winSlot (t : Tile) (w : Nat) : Nat × Nat :=
  let s := look (fun _ => WinSlot.free) t.pad.winslots w
  (fld s.first 0 16 + fld s.last 16 16, b2n s.isOpen + 2 * b2n s.closing + fld s.window 2 8)

/-- A two-word register's word. -/
def half (p : Nat × Nat) (o : Nat) : Nat := if o / 4 % 2 = 0 then p.1 else p.2

/-- SKSTAT (R508): during a slice POINTER is some line of the target, or its end (R496). Log 97 (DEDUCED). -/
def Tile.skStat (t : Tile) (now : Nat) : Word :=
  if t.skim.phase = .idle then t.skim.stat
  else (t.skim.stat &&& 0xFFFF) ||| BitVec.ofNat 32 (fld (Config.skimPointer now % (targetLines t.skim.target + 1)) 16 16)

/-- The value of the control register at byte offset `o` of the control range, a multiple of 4; none where no
register stands. Write-only registers read 0 (R62). -/
def Tile.regRead (x : Ctx) (t : Tile) (o : Nat) : Option Word :=
  let w := fun (n : Nat) => some (BitVec.ofNat 32 n)
  if o = 0x010 then w t.core.mstat.toNat
  else if o = 0x020 then w (t.sbStat x.now)
  else if o = 0x024 then some t.pad.sbfault
  else if o = 0x030 then w t.pad.bankOk.toNat
  else if o = 0x034 then w (usableBytes t.pad.bankOk)
  else if 0x040 ≤ o ∧ o < 0x060 then w (half (t.winSlot ((o - 0x40) / 8)) o)
  else if 0x100 ≤ o ∧ o < 0x160 then some (look (fun _ => 0) t.pad.conflicts ((o - 0x100) / 4))
  else if 0x200 ≤ o ∧ o < 0x300 then w (half (t.sbEntry ((o - 0x200) / 8)) o)
  else if 0x300 ≤ o ∧ o < 0x360 then some (look (fun _ => 0) t.stageMap ((o - 0x300) / 4))
  else if o = 0x380 then some t.strandReg
  else if o = 0x384 then w (t.ckptEpoch.toNat + t.resumeEpoch.toNat * 65536)
  else if o = 0x388 then some 0
  else if o = 0x38C then w (t.chk.ctl.toNat % 2 ^ 26 + fld 13 26 4)
  else if o = 0x390 then some 0
  else if o = 0x398 then w (t.chk.sig.toNat % 2 ^ 32)
  else if o = 0x39C then w (t.chk.sig.toNat / 2 ^ 32)
  else if 0x3A0 ≤ o ∧ o < 0x3B0 then
    let s := t.su ((o - 0x3A0) / 4)
    w (b2n s.enable + 2 * b2n s.tokenless + fld s.iq 2 4)
  else if 0x3B0 ≤ o ∧ o < 0x3C0 then w (t.suStat ((o - 0x3B0) / 4))
  else if 0x400 ≤ o ∧ o < 0x480 then
    let p := (t.su ((o - 0x400) / 32)).outs.getD ((o - 0x400) / 8 % 4) (0, 0)
    some (if o / 4 % 2 = 0 then p.1 else p.2)
  else if 0x500 ≤ o ∧ o < 0x540 then w (t.queue ((o - 0x500) / 4)).ctl
  else if 0x540 ≤ o ∧ o < 0x580 then w (t.queue ((o - 0x540) / 4)).stat
  else if o = 0x600 then w (x.flags.toNat % 2 ^ 32)
  else if o = 0x604 then w (x.flags.toNat / 2 ^ 32)
  else if o = 0x608 then some 0
  else if 0x610 ≤ o ∧ o < 0x650 then some (look (fun _ => 0) x.counts ((o - 0x610) / 4))
  else if 0x700 ≤ o ∧ o < 0x780 then
    match (t.queue ((o - 0x700) / 8)).head with
    | some m => if !m.credited then some 0 else
        some (if o / 4 % 2 = 0 then (replyTo m).1 else (replyTo m).2)
    | none => some 0
  else if o = 0x800 then some t.fxfail.1
  else if o = 0x804 then some t.fxfail.2
  else if o = 0x900 then some (t.skStat x.now)
  else if o = 0x904 then some t.skim.sig
  else if o = 0x908 then some t.skim.fail
  else none

/-- A write of a control register that concerns the tile alone. Read-only registers and fields ignore it (R62). The
registers whose write reaches beyond the tile are written by the operations that own them. -/
def Tile.regWriteLocal (t : Tile) (o : Nat) (v : Word) : Tile :=
  if o = 0x010 then
    { t with core := { t.core with mstat := t.core.mstat &&& ~~~(BitVec.ofNat 5 v.toNat) } }
  else if o = 0x024 then
    if bit v.toNat 31 then { t with pad := { t.pad with sbfault := t.pad.sbfault &&& 0x7FFFFFFF } } else t
  else if 0x100 ≤ o ∧ o < 0x160 then
    { t with pad := { t.pad with conflicts := put (fun _ => 0) t.pad.conflicts ((o - 0x100) / 4) 0 } }
  else if o = 0x384 then { t with ckptEpoch := BitVec.ofNat 16 v.toNat }
  else if 0x3A0 ≤ o ∧ o < 0x3B0 then t.suWrite ((o - 0x3A0) / 4) v
  else if 0x400 ≤ o ∧ o < 0x480 then t.suOutWrite ((o - 0x400) / 32) ((o - 0x400) / 8 % 4) (o / 4 % 2) v
  else if 0x500 ≤ o ∧ o < 0x540 then t.qctlWrite ((o - 0x500) / 4) v
  else if o = 0x800 then if bit v.toNat 31 then { t with fxfail := (t.fxfail.1 &&& 0x7FFFFFFF, t.fxfail.2 &&& 0xFFFF) } else t
  else if o = 0x908 then
    if bit v.toNat 31 then { t with skim := { t.skim with fail := t.skim.fail &&& 0x7FFFFFFF } } else t
  else t

/-- A byte of a head window (R61): the selected payload, and a free byte outside it. -/
def Tile.headByte (t : Tile) (q o : Nat) : Byte :=
  let c := t.queue q
  match c.head with
  | some m => if o < m.hdr.length then m.payload.getD o 0 else Config.windowByte q o c.placed
  | none => Config.windowByte q o c.placed

/-- The byte at a local address outside scratchpad; none where it is unmapped (R61, R62). Log 26 (DESIGN CHOICE). -/
def Tile.outerByte (x : Ctx) (t : Tile) (a : Nat) : Option Byte :=
  if 0x400000 ≤ a ∧ a < 0x418000 then some (look (fun _ => 0) t.qmem (a - 0x400000))
  else if 0x500000 ≤ a ∧ a < 0x510000 then some (t.headByte ((a - 0x500000) / 0x1000) (a % 0x1000))
  else if 0x600000 ≤ a ∧ a < 0x604000 then
    let w := look (fun _ => 0) t.core.istore ((a - 0x600000) / 4)
    some (BitVec.ofNat 8 (w.toNat / 2 ^ (8 * (a % 4))))
  else if 0x700000 ≤ a ∧ a < 0x701000 then
    (t.regRead x (a % 0x1000 / 4 * 4)).map fun w => BitVec.ofNat 8 (w.toNat / 2 ^ (8 * (a % 4)))
  else none

/-- The bytes of an aligned load outside scratchpad; none where any is unmapped. -/
def Tile.outerBytes (x : Ctx) (t : Tile) (a n : Nat) : Option (List Byte) :=
  (List.range n).mapM fun i => t.outerByte x (a + i)

end Sys2Proof.Machine
end

