-- ==== Sys2Proof/Machine/MessageUnit.lean ====
section
/-! DEFINITION. The message unit of a tile (R60, R95 to R97, R216, R218 to R224, R232, R233): building headers,
taking messages into the four send buffers, reserving reply credits, budgets and classes, and the step signature
over what a tile sends and writes (R466). -/

namespace Sys2Proof.Machine

def Header.zero : Header :=
  ⟨0, 0, 0, 0, false, false, 0, 0, 0, false, false, false, false, 0, 0, 0, 0, 0, 0, 0⟩

/-- Word 0 of a header (R215). -/
def Header.word0 (h : Header) : Nat :=
  h.dstEp.toNat + fld h.dstRow.toNat 16 5 + fld h.dstPos.toNat 21 5 + fld h.dstQ.toNat 26 4
    + b2n h.reply * 2 ^ 30 + b2n h.token * 2 ^ 31

/-- Word 1 of a header (R215). -/
def Header.word1 (h : Header) : Nat :=
  h.tag.toNat + fld h.gen.toNat 16 4 + fld h.replyQ.toNat 20 4 + b2n h.priReq * 2 ^ 24
    + b2n h.priUsed * 2 ^ 25 + b2n h.fwd * 2 ^ 26 + b2n h.cnet * 2 ^ 27

/-- Word 2 of a header (R215). -/
def Header.word2 (h : Header) : Nat :=
  h.srcEp.toNat + fld h.srcRow.toNat 16 5 + fld h.srcPos.toNat 21 5 + fld h.replyGen.toNat 26 4

/-- Word 3 of a header (R215). -/
def Header.word3 (h : Header) : Nat := fld h.length 0 13 + fld h.su.toNat 16 2 + fld h.tval.toNat 24 8

/-- The 16 header bytes (R215). -/
def Header.bytes (h : Header) : List Byte :=
  leBytes 4 h.word0 ++ leBytes 4 h.word1 ++ leBytes 4 h.word2 ++ leBytes 4 h.word3

/-- Flits of a message on its network (R215, R216). -/
def Header.flits (h : Header) : Nat :=
  if h.cnet then 2 + ceilDiv h.length 8 else 1 + ceilDiv h.length 64

/-- Two messages of one sender keep their order: they go to one node on one network, of one kind, and in one class; PRI 1
messages keep it across a change of class too (R233, R239, R221). -/
def Header.samePath (a b : Header) : Bool :=
  a.dstEp = b.dstEp && a.dstRow = b.dstRow && a.dstPos = b.dstPos && a.cnet = b.cnet && a.reply = b.reply
    && (a.priUsed = b.priUsed || (a.priReq && b.priReq))

/-- The header of a SEND (R95, R96, R215). A reply carries no reply queue. -/
def sendHeader (slot : Nat) (t : Tile) (o : SendOp) : Header :=
  let d0 := t.reg o.rdst
  let d1 := t.reg (o.rdst + 1)
  let rq := BitVec.ofNat 4 (wbits d1 20 4)
  { Header.zero with
    dstEp := BitVec.ofNat 16 (wbits d0 0 16)
    dstRow := BitVec.ofNat 5 (wbits d0 16 5)
    dstPos := BitVec.ofNat 5 (wbits d0 21 5)
    dstQ := BitVec.ofNat 4 (wbits d0 26 4)
    reply := o.reply
    tag := BitVec.ofNat 16 (wbits d1 0 16)
    gen := BitVec.ofNat 4 (wbits d1 16 4)
    replyQ := if o.reply then 0 else rq
    priReq := o.pri
    cnet := o.cnet
    srcRow := BitVec.ofNat 5 (rowOf slot)
    srcPos := BitVec.ofNat 5 (posOf slot)
    replyGen := if o.reply then 0 else (t.queue rq.toNat).gen
    length := wbits (t.reg o.rlen) 0 13 }

/-- The header of a token (R100, R216). Log 28 (DEDUCED). -/
def tokenHeader (slot : Nat) (dst : Word) (su : BitVec 2) (v : Byte) : Header :=
  { Header.zero with
    dstEp := BitVec.ofNat 16 (wbits dst 0 16)
    dstRow := BitVec.ofNat 5 (wbits dst 16 5)
    dstPos := BitVec.ofNat 5 (wbits dst 21 5)
    token := true
    priReq := true
    cnet := true
    srcRow := BitVec.ofNat 5 (rowOf slot)
    srcPos := BitVec.ofNat 5 (posOf slot)
    su := su
    tval := v }

/-- Word 0 of R96 that names a tile slot. -/
def selfWord (slot : Nat) : Word := BitVec.ofNat 32 (fld (rowOf slot) 16 5 + fld (posOf slot) 21 5)

/-- A request whose REPLY_QUEUE names an open reply queue of the tile needs a credit there (R223). -/
def needsCredit (t : Tile) (h : Header) : Bool :=
  !h.reply && !h.token && (t.queue h.replyQ.toNat).replyOnly

/-- Which class the message unit may use now (R219, R220): held while closing, O while closed, and while
reopening O until every earlier PRI 1 message it sent in an O class has retired. -/
inductive ClassNow where
  | ordinary | priority | hold
  deriving DecidableEq, Repr

/-- A PRI 1 message that the unit sent in an O class and that has not retired (R220 step 5). -/
def MuEntry.demoted (e : MuEntry) : Bool :=
  e.msg.hdr.priReq && !e.msg.hdr.priUsed && e.phase ≠ .queued && e.phase ≠ .closing && e.phase ≠ .credit

def Units.demoted (u : Units) : Bool := u.mu.any MuEntry.demoted || (u.fwd.map fun p => p.2.demoted).getD false

def classNow (t : Tile) (pclass : Nat) (h : Header) : ClassNow :=
  if !h.priReq then .ordinary
  else if pclass = 1 then .hold
  else if pclass = 2 then .ordinary
  else if pclass = 3 then
    if t.units.demoted then .ordinary else .priority
  else .priority

/-- Replace entry `i` of the message unit. -/
def Tile.setMu (t : Tile) (i : Nat) (e : MuEntry) : Tile :=
  { t with units := { t.units with mu := setAt t.units.mu i e } }

def MuEntry.inPhase (e : MuEntry) (p : MuPhase) : MuEntry := { e with phase := p }

/-- The message in the class it travels in. -/
def MuEntry.inClass (e : MuEntry) (p : Bool) : MuEntry :=
  { e with msg := { e.msg with hdr := { e.msg.hdr with priUsed := p } } }

/-- What is left of the tile's P budget on the network of a message (R218). -/
def Units.budget (u : Units) (h : Header) : Nat := if h.cnet then u.budgetC else u.budgetB

/-- Spend a message's flits from the budget of its network (R218). -/
def Tile.payBudget (t : Tile) (h : Header) : Tile :=
  let left := t.units.budget h - h.flits
  { t with units := if h.cnet then { t.units with budgetC := left } else { t.units with budgetB := left } }

/-- A message waits for budget on a network. -/
def MuEntry.waitsBudget (e : MuEntry) (cnet : Bool) : Bool := e.phase = .budget && e.msg.hdr.cnet = cnet

/-- Choose the class and inject entry `i`, or leave it waiting for its class or its budget (R218 to R220). -/
def Tile.injectClass (t : Tile) (pclass i : Nat) (e : MuEntry) : Tile :=
  match classNow t pclass e.msg.hdr with
  | .hold => t.setMu i (e.inPhase .closing)
  | .ordinary => t.setMu i (e.inPhase .flying)
  | .priority =>
    let e' := e.inClass true
    let h := e'.msg.hdr
    let waiting := (t.units.mu.take i).any (·.waitsBudget h.cnet)
      || (t.units.fwd.map fun p => decide (p.2.pc ≤ i) && p.2.waitsBudget h.cnet).getD false
    if waiting || t.units.budget h < h.flits then t.setMu i (e'.inPhase .budget)
    else (t.payBudget h).setMu i (e'.inPhase .flying)

/-- The message in the forwarding slot for unit `u` goes out: in the O class it arrived in, or, arrived in a P class, under
the rules of R218 to R220 as any message of the unit. Log 140 (DEDUCED). -/
def Tile.injectFwd (t : Tile) (pclass u : Nat) (e : MuEntry) : Tile :=
  let put := fun (t : Tile) (e : MuEntry) => ({ t with units := { t.units with fwd := some (u, e) } } : Tile)
  if !e.msg.hdr.priUsed then put t (e.inPhase .flying)
  else
    match classNow { t with units := { t.units with fwd := none } } pclass e.msg.hdr with
    | .hold => put t (e.inPhase .closing)
    | .ordinary => put t ((e.inClass false).inPhase .flying)
    | .priority =>
      let h := e.msg.hdr
      if (t.units.mu.take e.pc).any (·.waitsBudget h.cnet) || t.units.budget h < h.flits then put t (e.inPhase .budget)
      else put (t.payBudget h) (e.inPhase .flying)

/-- Reserve the reply credit of entry `i` if it needs one, then inject it (R223, R224). -/
def Tile.inject (t : Tile) (pclass i : Nat) (e : MuEntry) (limitUs : Nat) : Tile :=
  if needsCredit t e.msg.hdr && e.credit.isNone then
    let q := e.msg.hdr.replyQ.toNat
    let c := t.queue q
    if c.room (c.resv * 64) then
      let e' := { e with
        credit := some c.advances
        msg := { e.msg with credited := true, hdr := { e.msg.hdr with replyGen := c.gen } } }
      (t.setQueue q { c with credits := c.credits + 1 }).injectClass pclass i e'
    else
      let lim := if e.phase = .credit then e.limitUs else limitUs
      t.setMu i { e with phase := .credit, limitUs := lim }
  else t.injectClass pclass i e

/-- Take entry `i` into a send buffer: copy its payload and release its scoreboard entry (R126, R232). -/
def Tile.takeAt (t : Tile) (pclass i limitUs : Nat) : Tile :=
  match t.units.mu[i]? with
  | none => t
  | some e =>
    if e.phase = .queued then
      let e' := { e with msg := { e.msg with payload := t.read e.addr e.msg.hdr.length }, ents := [] }
      ((t.release e.ents).setMu i e').inject pclass i e' limitUs
    else t

/-- The message unit takes messages while a send buffer is free: the four oldest are in buffers (R232). -/
def Tile.muTake (t : Tile) (pclass limitUs : Nat) : Tile :=
  (List.range 4).foldl (fun s i => s.takeAt pclass i limitUs) t

/-- The unit queue (depth 4) and the four send buffers have room for one more (R60). Log 152 (DEDUCED). -/
def Tile.muRoom (t : Tile) : Bool := t.units.mu.length < 8

def Tile.pushMu (t : Tile) (e : MuEntry) : Tile :=
  { t with units := { t.units with mu := t.units.mu ++ [e] } }

/-- Fold bytes into the signature of the open step (R466). -/
def Tile.foldSig (t : Tile) (bs : List Byte) : Tile :=
  if t.chk.stepOpen then { t with chk := { t.chk with sig := crc64 t.chk.sig bs } } else t

/-- ROLE of the tile (R464). -/
def Tile.role (t : Tile) : Nat := t.chk.ctl.toNat % 4

/-- The destination of the hand-over of R465, whose sends are not folded. -/
def Tile.handover (t : Tile) (h : Header) : Bool :=
  t.role = 1 && bit t.chk.ctl.toNat 2 && h.dstEp = 0 && h.dstRow.toNat = bits t.chk.ctl.toNat 16 5
    && h.dstPos.toNat = bits t.chk.ctl.toNat 21 5 && h.dstQ.toNat = 13

/-- Fold a message into the step signature: header words 0 and 3, then the payload (R466). -/
def Tile.foldMsg (t : Tile) (h : Header) (payload : List Byte) : Tile :=
  if t.handover h then t else t.foldSig (leBytes 4 h.word0 ++ leBytes 4 h.word3 ++ payload)

/-- In ROLE 2 and 3 sends and writes are folded, then discarded (R466). -/
def Tile.shadowing (t : Tile) : Bool := t.role = 2 || t.role = 3

end Sys2Proof.Machine
end

