-- ==== Sys2Proof/Machine/Routers.lean ====
section
/-! DEFINITION. The routers of the B-net and the C-net (R211, R212, R217): node positions, links, the one path of a
message, the stitch lines it crosses, and which waiting class an output serves next. -/

namespace Sys2Proof.Machine

/-- A node position: row and position. -/
abbrev Node := Nat × Nat

/-- Every node position has one router on each of the two networks (R211). -/
def routerAt (n : Node) : Bool := decide (n.1 < 24) && decide (n.2 < 29)

/-- The links of a router: to its up to four neighbours (R211). -/
def routerLinks (n : Node) : List Node :=
  (([(n.1 + 1, n.2), (n.1, n.2 + 1)] ++ (if n.1 = 0 then [] else [(n.1 - 1, n.2)]) ++
    (if n.2 = 0 then [] else [(n.1, n.2 - 1)])).filter routerAt)

/-- The positions from `a` to `b` in steps of one, both with them. -/
def legOf (a b : Nat) : List Nat :=
  if a ≤ b then (List.range (b - a + 1)).map fun i => a + i else (List.range (a - b + 1)).map fun i => a - i

/-- The one path of a message: along the source row to the destination position, then along that column (R212). -/
def pathOf (src dst : Node) : List Node :=
  (legOf src.2 dst.2).map (fun p => (src.1, p)) ++ ((legOf src.1 dst.1).drop 1).map fun r => (r, dst.2)

/-- The reticle field that holds a row (R212). -/
def fieldOf (row : Nat) : Nat := row / 8

/-- How often a path crosses a stitch line (R212). -/
def stitches (src dst : Node) : Nat :=
  (((pathOf src dst).zip ((pathOf src dst).drop 1)).filter fun p => fieldOf p.1.1 ≠ fieldOf p.2.1).length

/-! ### Arbitration at a router output (R217) -/

/-- The four classes, in the order in which an output serves them. -/
inductive NetClass where
  | rspP | reqP | rspO | reqO
  deriving DecidableEq, Repr

def NetClass.order : List NetClass := [.rspP, .reqP, .rspO, .reqO]

/-- The class a message travels in. -/
def Header.netClass (h : Header) : NetClass :=
  match h.reply, h.priUsed with
  | true, true => .rspP
  | false, true => .reqP
  | true, false => .rspO
  | false, false => .reqO

/-- A router output: for each class whether a flit waits, and for how many link handshakes it has waited unserved. -/
structure RouterOut where
  waits : List (NetClass × Nat)
  deriving DecidableEq, Repr

/-- The class the output serves next: one that has waited 32 handshakes first, else in order; the earlier in the order among
several (R217). Log 14 (DESIGN CHOICE). -/
def RouterOut.next (o : RouterOut) : Option NetClass :=
  let waiting := NetClass.order.filter fun c => o.waits.any fun w => w.1 = c
  (waiting.find? fun c => o.waits.any fun w => w.1 = c && decide (32 ≤ w.2)).orElse fun _ => waiting.head?

/-- One link handshake: the class served starts anew, `more` saying whether it has a further flit; the rest wait on. -/
def RouterOut.serve (o : RouterOut) (more : Bool) : RouterOut :=
  match o.next with
  | none => o
  | some c =>
    ⟨(o.waits.filter fun w => w.1 ≠ c).map (fun w => (w.1, w.2 + 1)) ++ (if more then [(c, 0)] else [])⟩

end Sys2Proof.Machine
end

