-- ==== Sys2Proof/Machine/TileDecode.lean ====
section
/-! DEFINITION. The decoder of tile instruction words (R83, R87 to R103, and the encoding table after R598), and the word a
tile core finds at its program counter. -/

namespace Sys2Proof.Machine

/-! ### Functions by their codes -/

def aluOf (n : Nat) : Option AluFn :=
  [.add, .sub, .and, .or, .xor, .shl, .shr, .sra, .mul, .slt, .sltu, .min, .max, .minu, .maxu][n]?

def loadOf (n : Nat) : Option LoadFn := [some .lb, some .lh, some .lw, none, some .lbu, some .lhu].getD n none

def storeOf (n : Nat) : Option StoreFn := [.sb, .sh, .sw][n]?

def branchOf (n : Nat) : Option BranchFn := [.beq, .bne, .blt, .bge, .bltu, .bgeu][n]?

/-- Every vector function. -/
def allVec : List VecFn :=
  [.vadd, .vsub, .vmul, .vfma, .vmin, .vmax, .vabs, .vneg, .vcmplt, .vcmpeq, .vsel, .vbcast, .viadd, .vimul, .vshift,
    .vlogic, .vpopc, .vcvt, .vqb, .vdqb, .vexp, .vexp2, .vlog, .vlog2, .vrsqrt, .vrecip, .vsqrt, .vsigm, .vtanh, .vgelu,
    .vsilu, .vsoftplus, .vrsum, .vrmax, .vrmin, .vrargmax, .vrargmin, .vld, .vst, .vperm]

/-- The vector function of a VFN value; none for a reserved one (R83). -/
def vecOf (n : Nat) : Option VecFn := allVec.find? fun f => f.code = n

/-! ### Fields of a word -/

/-- `n` bits of a word from bit `lo`. -/
def wf (w : Word) (lo n : Nat) : BitVec n := BitVec.ofNat n (w.toNat / 2 ^ lo)

def tokOf (w : Word) : TokOp := ⟨wf w 24 2, wf w 17 5, wf w 9 8, wf w 4 5, wf w 0 4⟩

def recvOf (w : Word) : RecvOp := ⟨wf w 21 5, wf w 16 5, w.getLsbD 15, w.getLsbD 14, wf w 4 8, wf w 0 4⟩

def handleOpOf (w : Word) : HandleOp := ⟨wf w 20 6, wf w 14 6, wf w 6 5, wf w 1 5, wf w 0 1⟩

def sendOf (w : Word) : SendOp :=
  ⟨wf w 21 5, wf w 16 5, wf w 11 5, wf w 5 6, w.getLsbD 4, w.getLsbD 3, w.getLsbD 2, wf w 0 2⟩

def mmbOf (w v : Word) : MmbOp :=
  { ha := wf w 20 6
    hb := wf w 14 6
    hc := wf w 8 6
    rsv75 := wf w 5 3
    g := wf w 3 2
    rsv20 := wf w 0 3
    fmtA := wf v 28 4
    fmtB := wf v 24 4
    cfmt := wf v 22 2
    ta := v.getLsbD 21
    tb := v.getLsbD 20
    acc := v.getLsbD 19
    gmode := v.getLsbD 18
    hmode := v.getLsbD 17
    rsv1 := wf v 0 17 }

def vecOpOf (w v : Word) : VecOp :=
  ⟨wf w 17 3, wf w 14 3, wf w 11 3, wf w 8 3, wf w 6 2, wf w 0 6, wf v 26 6, wf v 0 26⟩

/-! ### The classes -/

/-- The counter class by its sub-code (R101). -/
def counterOf (w : Word) : Option Tis :=
  match (wf w 19 3).toNat with
  | 0 => some (.lseti (wf w 22 4) (wf w 0 19))
  | 1 => some (.lsetr (wf w 22 4) (wf w 14 5) (wf w 0 14))
  | 2 => some (.loop (wf w 22 4) (wf w 0 19))
  | 3 => some (.linc (wf w 22 4) (wf w 0 19))
  | 4 => some (.lget (wf w 22 4) (wf w 14 5) (wf w 0 14))
  | 5 => some (.lbz (wf w 22 4) (wf w 0 19))
  | _ => none

/-- The token class by its sub-code (R100). -/
def tokenOf (w : Word) : Tis :=
  match (wf w 22 2).toNat with
  | 0 => .toki (tokOf w)
  | 1 => .tokr (tokOf w)
  | 2 => .tokl (tokOf w)
  | _ => .tstat (tokOf w)

/-- The handle class by its sub-code (R103). -/
def handleTisOf (w : Word) : Option Tis :=
  match (wf w 11 3).toNat with
  | 0 => some (.hset (handleOpOf w))
  | 1 => some (.hget (handleOpOf w))
  | 2 => some (.hswap (handleOpOf w))
  | 3 => some (.hfill (handleOpOf w))
  | 4 => some (.hunfill (handleOpOf w))
  | 5 => some (.hinv (handleOpOf w))
  | _ => none

/-- The system class by its function (R88). -/
def systemOf (w : Word) : Option Tis :=
  match (wf w 0 4).toNat with
  | 0 => some (.halt (wf w 21 5) (wf w 16 5) (wf w 4 12))
  | 1 => some (.csrr (wf w 21 5) (wf w 16 5) (wf w 4 12))
  | 2 => some (.csrw (wf w 21 5) (wf w 16 5) (wf w 4 12))
  | 3 => some (.trap (wf w 21 5) (wf w 16 5) (wf w 4 12))
  | _ => none

/-- The instruction that word 0, and word 1 of a 64-bit one, encode: none for an unlisted OP or a reserved sub-code or
function (R87, R88). Reserved bits are kept in the instruction, and `Tis.legal` refuses them. -/
def Tis.ofWords (w v : Word) : Option Tis :=
  match (wf w 26 6).toNat with
  | 0x00 => (aluOf (wf w 0 4).toNat).map fun f => .alu f (wf w 21 5) (wf w 16 5) (wf w 11 5) (wf w 4 7)
  | 0x01 => (aluOf (wf w 0 4).toNat).map fun f => .alui f (wf w 21 5) (wf w 16 5) (wf w 4 12)
  | 0x02 => (loadOf (wf w 0 4).toNat).map fun f => .load f (wf w 21 5) (wf w 16 5) (wf w 4 12)
  | 0x03 => (storeOf (wf w 0 4).toNat).map fun f => .store f (wf w 21 5) (wf w 16 5) (wf w 4 12)
  | 0x04 => (branchOf (wf w 0 3).toNat).map fun f => .branch f (wf w 21 5) (wf w 16 5) (wf w 3 13)
  | 0x05 => some (if w.getLsbD 20 then .jr (wf w 21 5) (wf w 15 5) (wf w 0 15) else .jal (wf w 21 5) (wf w 0 20))
  | 0x06 => some (.lui (wf w 21 5) (wf w 20 1) (wf w 0 20))
  | 0x08 => counterOf w
  | 0x09 => some (tokenOf w)
  | 0x0C => some (.send (sendOf w))
  | 0x0D =>
    match (wf w 12 2).toNat with
    | 0 => some (.recvsel (recvOf w))
    | 1 => some (.qrel (recvOf w))
    | _ => none
  | 0x10 => some (.mmb (mmbOf w v))
  | 0x11 => (vecOf (wf w 20 6).toNat).map fun f => .vec f (vecOpOf w v)
  | 0x14 => handleTisOf w
  | 0x18 => some (.fence (w.getLsbD 25) (w.getLsbD 24) (w.getLsbD 23) (w.getLsbD 22) (wf w 0 22))
  | 0x19 => some (.bar (wf w 20 6) (wf w 0 20))
  | 0x1F => systemOf w
  | _ => none

/-! ### Fetching -/

/-- A word of the instruction store. -/
def Tile.instr (t : Tile) (i : Nat) : Word := look (fun _ => 0) t.core.istore (i % 4096)

/-- The words at the program counter spell no instruction of the tile (R87). Log 138 (DESIGN CHOICE). -/
def Tile.atIllegal (t : Tile) : Bool :=
  match Tis.ofWords (t.instr t.core.pc.toNat) (t.instr (t.core.pc.toNat + 1)) with
  | some i => !i.legal
  | none => true

end Sys2Proof.Machine
end

