-- ==== Sys2Proof/Machine/Crypto.lean ====
section
/-! DEFINITION. The sealed path as bytes: Galois/Counter Mode, SM2 signatures with their Z value and the module
certificate (R286, R287), wrapped keys (R293, R294), sealed objects (R300, R301), envelopes (R304) and fabric packets
(R306, R402, R403). -/

namespace Sys2Proof.Machine

/-! ### Authenticated encryption -/

/-- SM3 as 32 bytes. -/
def sm3Bytes (l : List Byte) : List Byte := leBytes 32 (Config.sm3 l).toNat

/-- The bytes of 32 that a cipher takes as its key: SM4 the first 16 (R293, R294). -/
def cipherKey (alg : Nat) (key : List Byte) : List Byte := if alg = 2 then padTo 16 key else padTo 32 key

/-- Plaintext and ciphertext under the key stream. -/
def gcmXor (alg : Nat) (key nonce l : List Byte) : List Byte :=
  l.zipIdx.map fun p => p.1 ^^^ Config.gcmStream alg (cipherKey alg key) nonce p.2

/-- The 16-byte tag of a ciphertext and its associated data. -/
def gcmTag (alg : Nat) (key nonce aad c : List Byte) : List Byte :=
  leBytes 16 (Config.gcmTag alg (cipherKey alg key) nonce aad c).toNat

/-- Ciphertext, then its tag. -/
def gcmSeal (alg : Nat) (key nonce aad plain : List Byte) : List Byte :=
  let c := gcmXor alg key nonce plain
  c ++ gcmTag alg key nonce aad c

/-- The plaintext of a ciphertext with its tag; none where the tag fails. -/
def gcmOpen (alg : Nat) (key nonce aad wire : List Byte) : Option (List Byte) :=
  let n := wire.length - 16
  if 16 ≤ wire.length ∧ wire.drop n = gcmTag alg key nonce aad (wire.take n) then some (gcmXor alg key nonce (wire.take n))
  else none

/-! ### SM2 (R285 to R287) -/

/-- An upper-case hexadecimal digit. -/
def hexDigit (n : Nat) : Byte := BitVec.ofNat 8 (if n < 10 then 0x30 + n else 0x37 + n)

/-- The serial number as 12 upper-case hexadecimal digits. -/
def serialHex : List Byte := (List.range 12).map fun i => hexDigit (bits Config.serial.toNat (4 * (11 - i)) 4)

/-- The distinguishing identifier of a key without a certificate: "1234567812345678". -/
def defaultId : List Byte := (List.range 16).map fun i => hexDigit (i % 8 + 1)

/-- Z of a public key under an identifier: SM3 over the identifier's length in bits, big-endian, the identifier, the curve
and the key. -/
def sm2Z (id pub : List Byte) : List Byte :=
  sm3Bytes ((leBytes 2 (8 * id.length)).reverse ++ id ++ padTo 128 Config.sm2Params ++ padTo 64 pub)

/-- What a signature over a message is made and checked over: SM3 of Z and the message. -/
def sm2Digest (id pub msg : List Byte) : List Byte := sm3Bytes (sm2Z id pub ++ msg)

/-- IDS, and the manufacturing CA's key. -/
def idsKey : Nat := 1
def caKey : Nat := 2

/-- A signature by IDS: r then s. -/
def signIds (msg : List Byte) : List Byte := padTo 64 (Config.sm2Sign idsKey (sm2Digest serialHex Config.idsPublic msg))

/-- The module certificate (R286): what the manufacturing CA signs names the serial number and both public keys.
Log 10 (DESIGN CHOICE). -/
def moduleCert : List Byte :=
  let tbs := Config.certPart 0 ++ serialHex ++ Config.certPart 1 ++ padTo 64 Config.idsPublic ++ Config.certPart 2
    ++ padTo 64 Config.idaPublic ++ Config.certPart 3
  Config.certPart 4 ++ tbs ++ Config.certPart 5
    ++ padTo 64 (Config.sm2Sign caKey (sm2Digest Config.caId Config.caPublic tbs))

/-! ### Keys (R293, R294) -/

/-- 32 bytes derived from a string. -/
def kdf (l : List Byte) : List Byte := leBytes 32 (Config.kdf l).toNat

/-- The key inside a wrapped key; none where its tag fails. -/
def unwrapKey (blob : List Byte) : Option (List Byte) :=
  let kek := kdf (padTo 64 (Config.sm2Agree (slice blob 16 64)) ++ slice blob 0 16)
  gcmOpen (leAt blob 7 1) kek (slice blob 80 12) (slice blob 0 96) (slice blob 96 48)

/-- The key of an installed blob, whose tag verified. -/
def keyBytes (blob : List Byte) : List Byte := (unwrapKey blob).getD []

/-! ### Sealed objects (R300, R301) -/

def objKey (h : List Byte) : Nat := leAt h 8 8
def objLen (h : List Byte) : Nat := leAt h 16 8
def objAlg (h : List Byte) : Nat := leAt h 5 1
def objShift (h : List Byte) : Nat := leAt h 6 1

/-- The header of a sealed object is well formed (R300). -/
def objHeaderOk (h : List Byte) : Bool :=
  slice h 0 4 = [0x53, 0x4B, 0x4F, 0x42] && leAt h 4 1 = 1 && (objAlg h = 1 || objAlg h = 2)
    && 12 ≤ objShift h && objShift h ≤ 20 && leAt h 7 1 = 0 && leNat (slice h 36 28) = 0

/-- Segments of an object. -/
def objSegs (h : List Byte) : Nat := max 1 (ceilDiv (objLen h) (2 ^ objShift h))

/-- Bytes of an object as it crosses the link. -/
def wireLen (h : List Byte) : Nat := 64 + objLen h + 16 * objSegs h

/-- Plaintext bytes of segment `i` of an object. -/
def segBytes (h : List Byte) (i : Nat) : Nat := min (objLen h - i * 2 ^ objShift h) (2 ^ objShift h)

/-- Where segment `i` ends on the wire. -/
def segEnd (h : List Byte) (i : Nat) : Nat := 64 + min (objLen h) ((i + 1) * 2 ^ objShift h) + 16 * (i + 1)

/-- The nonce of segment `i`: NONCE_BASE with `i` in its last four bytes (R301). -/
def segNonce (h : List Byte) (i : Nat) : List Byte :=
  slice h 24 8 ++ List.zipWith (· ^^^ ·) (slice h 32 4) (leBytes 4 i)

/-- The associated data of segment `i`: the header, `i`, and FINAL (R301). -/
def segAad (h : List Byte) (i : Nat) : List Byte := slice h 0 64 ++ leBytes 4 i ++ [if i + 1 = objSegs h then 1 else 0]

/-- A segment as the ingest engine decrypts it (R301); none where its tag fails. -/
def openSegment (key h : List Byte) (i : Nat) (wire : List Byte) : Option (List Byte) :=
  gcmOpen (objAlg h) key (segNonce h i) (segAad h i) (padTo (segBytes h i + 16) wire)

/-- A segment as the owner seals it. -/
def sealSegment (key h : List Byte) (i : Nat) (plain : List Byte) : List Byte :=
  gcmSeal (objAlg h) key (segNonce h i) (segAad h i) plain

/-! ### Envelopes (R304) -/

def envKind (h : List Byte) : Nat := leAt h 6 1
def envKey (h : List Byte) : Nat := leAt h 8 8
def envLen (h : List Byte) : Nat := leAt h 16 8
def envRef (h : List Byte) : Nat := leAt h 40 8

/-- The header of a sealed envelope is well formed (R304). -/
def envHeaderOk (h : List Byte) : Bool :=
  slice h 0 4 = [0x53, 0x4B, 0x53, 0x45] && leAt h 4 1 = 1 && (leAt h 5 1 = 1 || leAt h 5 1 = 2)
    && leAt h 7 1 = 0 && leNat (slice h 36 4) = 0 && leNat (slice h 48 16) = 0 && envLen h < 2 ^ 32

/-- The header of an envelope: cipher, KIND, KEY_ID, plaintext bytes, seal counter, OBJECT_REF. -/
def envHeader (alg kind key len ctr ref : Nat) : List Byte :=
  [0x53, 0x4B, 0x53, 0x45, 1] ++ leBytes 1 alg ++ leBytes 1 kind ++ [0] ++ leBytes 8 key ++ leBytes 8 len
    ++ leBytes 6 Config.serial.toNat ++ leBytes 6 ctr ++ zeros 4 ++ leBytes 8 ref ++ zeros 16

/-- An envelope of a header: the header, the ciphertext and the tag. -/
def sealEnvelope (key h plain : List Byte) : List Byte :=
  h ++ gcmSeal (leAt h 5 1) key (slice h 24 12) (slice h 0 64) plain

/-- The plaintext of an envelope; none where its tag fails. -/
def openEnvelope (key : List Byte) (e : Envelope) : Option (List Byte) :=
  gcmOpen (leAt e.hdr 5 1) key (slice e.hdr 24 12) (slice e.hdr 0 64) (padTo (envLen e.hdr + 16) e.body)

/-! ### Fabric packets (R306, R402, R403) -/

/-- PTYPE. -/
def PType.code : PType → Nat
  | .msg => 1
  | .wwrite => 2
  | .ack => 3
  | .nack => 4
  | .status => 5
  | .wclose => 6
  | .wcloseAck => 7
  | .disc => 8
  | .raw => 9

/-- The 64-byte header of a packet. -/
def Packet.header (p : Packet) : List Byte :=
  leBytes 2 p.dst.toNat ++ leBytes 2 p.src.toNat ++ leBytes 1 p.ptype.code
    ++ leBytes 1 (b2n p.first + 2 * b2n p.last + 4 * b2n p.mcast)
    ++ leBytes 1 (b2n p.plane + 2 * b2n p.dclass + 4 * b2n p.rsp) ++ leBytes 1 p.hops
    ++ leBytes 2 p.flow.toNat ++ leBytes 2 p.seq.toNat ++ leBytes 2 p.span ++ leBytes 2 p.payload.length
    ++ leBytes 8 p.pktCounter.toNat ++ leBytes 1 p.egress ++ [0] ++ leBytes 2 (min 65535 p.age) ++ leBytes 4 p.arg.toNat
    ++ padTo 16 p.inner ++ leBytes 8 p.targets.toNat ++ zeros 8

/-- A packet with its tag (R402). -/
def Packet.withTag (p : Packet) (tag : BitVec 128) : Packet := { p with tag := leBytes 16 tag.toNat }

/-- The associated data: the header with DCLASS, HOPS and AGE zero. -/
def Packet.aad (p : Packet) : List Byte := ({ p with dclass := false, hops := 0, age := 0 } : Packet).header

/-- The nonce: the port that sealed it and that port's counter. -/
def Packet.nonce (p : Packet) : List Byte := leBytes 1 p.egress ++ zeros 3 ++ leBytes 8 p.pktCounter.toNat

/-- The key a module sends under: the fabric key, its serial number, its cold starts and "SKFB". -/
def sendKey (fabricKey : List Byte) (serial coldStarts : Nat) : List Byte :=
  kdf (padTo 32 fabricKey ++ leBytes 8 serial ++ leBytes 4 coldStarts ++ [0x53, 0x4B, 0x46, 0x42])

/-- A packet with its payload encrypted and its tag (R306). -/
def Packet.seal (key : List Byte) (p : Packet) : Packet :=
  let c := gcmXor 1 key p.nonce p.payload
  { p with payload := c, tag := gcmTag 1 key p.nonce p.aad c }

/-- A packet with its payload decrypted; none where its tag fails (R306). -/
def Packet.unseal (key : List Byte) (p : Packet) : Option Packet :=
  if p.tag = gcmTag 1 key p.nonce p.aad p.payload then
    some { p with payload := gcmXor 1 key p.nonce p.payload, tag := [] }
  else none

end Sys2Proof.Machine
end

