-- ==== Sys2Proof/Machine/Dram.lean ====
section
/-! DEFINITION. How the memory tiers are laid out (R251, R254 to R260), and how a line stands in its sub-channel: XTS-AES-256
under the memory key, 64 Reed–Solomon check bits, two bursts (R263, R278). -/

namespace Sys2Proof.Machine

/-! ### Organisation (R251) -/

/-- A tier: near or far. -/
inductive Tier where
  | near | far
  deriving DecidableEq, Repr

/-- Packages, package size in GiB, sub-channel size in GiB and data rate in MT/s (R251). -/
def Tier.packages : Tier → Nat | .near => 4 | .far => 8
def Tier.packageGiB : Tier → Nat | .near => 64 | .far => 96
def Tier.subGiB : Tier → Nat | .near => 8 | .far => 12
def Tier.rate : Tier → Nat | .near => 14400 | .far => 10667

/-- The tier of a sub-channel: near 32 to 63, far the rest of 0 to 95. -/
def tierOf (sub : Nat) : Tier := if 32 ≤ sub ∧ sub < 64 then .near else .far

/-- The package of a sub-channel: far packages 0 to 7 count from 4, near packages 0 to 3 from 0; eight sub-channels each. -/
def pkgOf (sub : Nat) : Nat := if sub < 32 then 4 + sub / 8 else if sub < 64 then (sub - 32) / 8 else 8 + (sub - 64) / 8

/-- The memory node of a sub-channel: position 14 of the row that carries it (R251). -/
def nodeOf (sub : Nat) : Nat × Nat := (sub / 4, 14)

/-- The sub-channels of the memory node of a row. -/
def nodeSubs (row : Nat) : List Nat := (List.range 4).map fun i => 4 * row + i

/-! ### Placement (R254 to R256) -/

/-- The tier of a line and its granule within the tier. -/
def granuleOf (line : Nat) : Tier × Nat :=
  let a := line * 64
  if a < 0x4000000000 then (.near, a / 256) else (.far, (a - 0x4000000000) / 256)

/-- Interleave index of a far granule (R255). -/
def farIndex (g : Nat) : Nat := g % 64 ^^^ g / 64 % 64 ^^^ g / 4096 % 64

/-- The sub-channel of a line (R255). -/
def subChannel (line : Nat) : Nat :=
  match granuleOf line with
  | (.near, g) => 32 + (g % 32 ^^^ g / 32 % 32 ^^^ g / 1024 % 32)
  | (.far, g) => if farIndex g < 32 then farIndex g else farIndex g + 32

/-- The local granule of a line within its sub-channel (R255). -/
def localGranule (line : Nat) : Nat :=
  match granuleOf line with
  | (.near, g) => bits g 5 25
  | (.far, g) => g / 64

/-- Column block, bank and row of a local granule (R256). -/
def columnOf (n : Nat) : Nat := bits n 0 3
def bankIn (n : Nat) : Nat := bits n 3 4 ^^^ bits (n / 128) 0 4
def rowIn (n : Nat) : Nat := n / 128

/-- The bank of a line, numbered over all sub-channels. -/
def lineBank (line : Nat) : Nat := 16 * subChannel line + bankIn (localGranule line)

/-! ### Reserved regions (R257 to R260) -/

/-- The regions of the module address space. -/
inductive Region where
  | abanoNear | spillRings | checkpoints | staging | nearGrants | nearLibrary
  | objects | farGrants | farLibrary | shards | tuning | recorder | abanoFar
  deriving DecidableEq, Repr

def Region.all : List Region :=
  [.abanoNear, .spillRings, .checkpoints, .staging, .nearGrants, .nearLibrary, .objects, .farGrants, .farLibrary, .shards,
    .tuning, .recorder, .abanoFar]

/-- First address and length (R257). -/
def Region.range : Region → Nat × Nat
  | .abanoNear => (0x0000000000, 0x400000000)
  | .spillRings => (0x0400000000, 0x40000000)
  | .checkpoints => (0x0440000000, 0x80000000)
  | .staging => (0x04C0000000, 0x100000000)
  | .nearGrants => (0x05C0000000, 0xC00000000)
  | .nearLibrary => (0x11C0000000, 0x2E40000000)
  | .objects => (0x4000000000, 0x1800000000)
  | .farGrants => (0x5800000000, 0x6000000000)
  | .farLibrary => (0xB800000000, 0x1000000000)
  | .shards => (0xC800000000, 0x3000000000)
  | .tuning => (0xF800000000, 0x400000000)
  | .recorder => (0xFC00000000, 0x100000000)
  | .abanoFar => (0xFD00000000, 0x300000000)

/-- Open to windows (R257). -/
def Region.windows : Region → Bool
  | .nearGrants | .objects | .farGrants | .shards | .tuning => true
  | _ => false

/-- A byte range lies within a region. -/
def Region.holds (r : Region) (a len : Nat) : Bool := decide (r.range.1 ≤ a) && decide (a + len ≤ r.range.1 + r.range.2)

/-- A range lies within one region open to windows (R262). -/
def windowRegionOk (a len : Nat) : Bool := (Region.all.filter Region.windows).any fun r => r.holds a len

/-- Where a plan's segments lie: in the near library, else in the far one (R191). -/
def libraryOf (far : Bool) : Region := if far then .farLibrary else .nearLibrary

/-- The spill ring of the tile in a slot, and of a service-core cluster (R258). -/
def spillRing (t : Nat) : Nat := 0x0400000000 + t * 0x100000
def clusterSpillRing (c : Nat) : Nat := 0x0427000000 + c * 0x400000

/-- Runs of granules one after the other from `lo`, with free gaps that take at most `slack` in all. -/
def layOut (f : Nat → Nat) : Nat → Nat → Nat → List Nat → List Nat
  | _, _, _, [] => []
  | i, lo, slack, k :: l => (lo + f i % (slack + 1)) :: layOut f (i + 1) (lo + f i % (slack + 1) + k) (slack - f i % (slack + 1)) l

/-! ### How a line stands in its sub-channel (R263, R278) -/

/-- The tweak of a line: its module address divided by 64, 16 bytes little-endian. -/
def lineTweak (line : Nat) : List Byte := leBytes 16 line

/-- The 64 ciphertext bytes of a line under a memory key, which is named by its number. -/
def lineCipher (key line : Nat) (data : List Byte) : List Byte := padTo 64 (Config.xts key (lineTweak line) data)

/-- The 8 check symbols over 64 ciphertext bytes. -/
def checkBits (cipher : List Byte) : List Byte := padTo 8 (Config.reedSolomon cipher)

/-- The two bursts of a line: 32 ciphertext bytes with 32 check bits in the metadata bits. -/
def lineBursts (key line : Nat) (data : List Byte) : List (List Byte × List Byte) :=
  let c := lineCipher key line data
  let k := checkBits c
  [(slice c 0 32, slice k 0 4), (slice c 32 32, slice k 4 4)]

/-- A line whose ciphertext came wrong: each of its four 16-byte blocks is as it was or wrong (R266). -/
def wrongBlocks (mask : Nat) (data wrong : List Byte) : List Byte :=
  (List.range 64).map fun i => if bit mask (i / 16) then wrong.getD i 0 else data.getD i 0

end Sys2Proof.Machine
end

