-- ==== Sys2Proof/Machine/Dictionary.lean ====
section
/-! DEFINITION. The parameter dictionary (R531 to R533, R556): the key of every entry, index × 256 + subindex, and
the table of what each entry is: type, access, authority, default, persistence and range. Factory values and the levels
of the shipped licence come from Config. -/

namespace Sys2Proof.Machine

/-- Entry types (R532). -/
inductive DType where
  | bool | u8 | u16 | u32 | u64 | i16 | i32
  | octet (n : Nat)
  | domain
  deriving DecidableEq, Repr

/-- Access kinds (R533). -/
inductive DKind where
  | ro | rw | wo
  deriving DecidableEq, Repr

/-- Authority an entry asks for (R533, R537). -/
inductive Auth where
  | observer | operator | owner | factory
  deriving DecidableEq, Repr

/-- The values an entry takes: any of its type, a range in steps, 0 or a range, one of a list, or a signed range. -/
inductive Rng where
  | any
  | span (lo hi step : Nat)
  | zeroOr (lo hi step : Nat)
  | among (l : List Nat)
  | signed (m : Nat)
  deriving DecidableEq, Repr

/-- A row of a table of entries: indices `base` to `base + count - 1`, subindices `lo` to `hi` (tile positions where
`perTile`). -/
structure Entry where
  base : Nat
  count : Nat
  lo : Nat
  hi : Nat
  perTile : Bool
  typ : DType
  kind : DKind
  auth : Auth
  dflt : Nat
  persist : Bool
  rng : Rng
  deriving DecidableEq, Repr

/-- The key of a per-tile entry of the tile in slot `t`. -/
def tileKey (base t : Nat) : Nat := (base + rowOf t) * 256 + posOf t

/-! ### Keys -/

namespace K

/-- vcore_setpoint (R56). -/
def vcoreSetpoint : Nat := 0x200001
/-- vcore_actual (R56). -/
def vcoreActual : Nat := 0x200002
/-- beat_rate_now (R56). -/
def beatRateNow : Nat := 0x200003
/-- pacing_state (R56). -/
def pacingState : Nat := 0x200004
/-- force_safe_pacing (R56). -/
def forceSafePacing : Nat := 0x200005
/-- hottest_tj (R56). -/
def hottestTj : Nat := 0x200006
/-- power_limit (R56). -/
def powerLimit : Nat := 0x210001
/-- input_power (R56). -/
def inputPower : Nat := 0x210002
/-- governor_state (R56). -/
def governorState : Nat := 0x210003
/-- busy_strand_cap (R56). -/
def busyStrandCap : Nat := 0x210004
/-- fast_throttle_count (R56). -/
def fastThrottleCount : Nat := 0x210005
/-- tile_trim (R56). -/
def tileTrim (t : Nat) : Nat := tileKey 0x3200 t
/-- tile_pace (R56). -/
def tilePace (t : Nat) : Nat := tileKey 0x3220 t
/-- tile_margin (R56). -/
def tileMargin (t : Nat) : Nat := tileKey 0x3240 t
/-- tile_bank_map (R139). -/
def tileBankMap (t : Nat) : Nat := tileKey 0x3260 t
/-- tile_bank_conflicts (R139). -/
def tileBankConflicts (t : Nat) : Nat := tileKey 0x3280 t
/-- scoreboard_wait_limit (R139). -/
def scoreboardWaitLimit : Nat := 0x330001
/-- scoreboard_timeout_count (R139). -/
def scoreboardTimeoutCount : Nat := 0x330002
/-- handle_unfilled_count (R139). -/
def handleUnfilledCount : Nat := 0x330003
/-- licensed_strands (R176). -/
def licensedStrands : Nat := 0x310001
/-- available_strands (R176). -/
def availableStrands : Nat := 0x310002
/-- busy_strands (R176). -/
def busyStrands : Nat := 0x310003
/-- checkpoint_interval (R176). -/
def checkpointInterval : Nat := 0x310004
/-- strand_stall_limit (R176). -/
def strandStallLimit : Nat := 0x310005
/-- strand_stall_count (R176). -/
def strandStallCount : Nat := 0x310006
/-- strands_retired (R176). -/
def strandsRetired : Nat := 0x310007
/-- strand_state (R176). -/
def strandState (n : Nat) : Nat := (0x3120 + n) * 256 + 0x01
/-- strand_fused_with (R176). -/
def strandFusedWith (n : Nat) : Nat := (0x3120 + n) * 256 + 0x02
/-- strand_slots (R176). -/
def strandSlots (n : Nat) : Nat := (0x3120 + n) * 256 + 0x03
/-- strand_chunks (R176). -/
def strandChunks (n : Nat) : Nat := (0x3120 + n) * 256 + 0x04
/-- strand_checkpoint_epoch (R176). -/
def strandCheckpointEpoch (n : Nat) : Nat := (0x3120 + n) * 256 + 0x05
/-- plans_loaded (R193). -/
def plansLoaded : Nat := 0x340001
/-- library_free_near (R193). -/
def libraryFreeNear : Nat := 0x340002
/-- library_free_far (R193). -/
def libraryFreeFar : Nat := 0x340003
/-- primer_share_near (R193). -/
def primerShareNear : Nat := 0x340004
/-- primer_share_far (R193). -/
def primerShareFar : Nat := 0x340005
/-- load_reject_count (R193). -/
def loadRejectCount : Nat := 0x340006
/-- last_load_status (R193). -/
def lastLoadStatus : Nat := 0x340007
/-- last_load_detail (R193). -/
def lastLoadDetail : Nat := 0x340008
/-- shape_over_plan_count (R193). -/
def shapeOverPlanCount : Nat := 0x340009
/-- primer_fault_count (R193). -/
def primerFaultCount : Nat := 0x34000A
/-- resident_set_a (R193). -/
def residentSetA (n : Nat) : Nat := (0x3420 + n) * 256 + 0x01
/-- resident_set_b (R193). -/
def residentSetB (n : Nat) : Nat := (0x3420 + n) * 256 + 0x02
/-- send_stall_limit (R250). -/
def sendStallLimit : Nat := 0x350001
/-- priority_class_state (R250). -/
def priorityClassState : Nat := 0x350002
/-- priority_close_count (R250). -/
def priorityCloseCount : Nat := 0x350003
/-- spill_exhausted_count (R250). -/
def spillExhaustedCount : Nat := 0x350004
/-- queue_closed_drops (R250). -/
def queueClosedDrops : Nat := 0x350005
/-- queue_stale_drops (R250). -/
def queueStaleDrops : Nat := 0x350006
/-- no_target_drops (R250). -/
def noTargetDrops : Nat := 0x350007
/-- spill_in_use (R250). -/
def spillInUse : Nat := 0x350008
/-- spill_peak (R250). -/
def spillPeak : Nat := 0x350009
/-- spill_ring_size (R250). -/
def spillRingSize (n : Nat) : Nat := (0x3520 + n) * 256 + 0x01
/-- near_capacity (R279). -/
def nearCapacity : Nat := 0x400001
/-- far_capacity (R279). -/
def farCapacity : Nat := 0x400002
/-- scrub_period (R279). -/
def scrubPeriod : Nat := 0x400003
/-- ecc_corrected_count (R279). -/
def eccCorrectedCount : Nat := 0x400004
/-- ecc_uncorrectable_count (R279). -/
def eccUncorrectableCount : Nat := 0x400005
/-- dram_hottest (R279). -/
def dramHottest : Nat := 0x400006
/-- refresh_multiplier (R279). -/
def refreshMultiplier : Nat := 0x400007
/-- memory_limited (R279). -/
def memoryLimited : Nat := 0x400008
/-- retrain_count (R279). -/
def retrainCount : Nat := 0x400009
/-- subch_corrected (R279). -/
def subchCorrected (n : Nat) : Nat := (0x4100 + n) * 256 + 0x01
/-- subch_uncorrectable (R279). -/
def subchUncorrectable (n : Nat) : Nat := (0x4100 + n) * 256 + 0x02
/-- subch_train_state (R279). -/
def subchTrainState (n : Nat) : Nat := (0x4100 + n) * 256 + 0x03
/-- module_serial (R318). -/
def moduleSerial : Nat := 0x100001
/-- identity_state (R318). -/
def identityState : Nat := 0x100002
/-- ids_public (R318). -/
def idsPublic : Nat := 0x100003
/-- ida_public (R318). -/
def idaPublic : Nat := 0x100004
/-- module_certificate (R318). -/
def moduleCertificate : Nat := 0x100005
/-- ca_certificate (R318). -/
def caCertificate : Nat := 0x100006
/-- cold_start_count (R318). -/
def coldStartCount : Nat := 0x100007
/-- jtag_idcode (R318). -/
def jtagIdcode : Nat := 0x100008
/-- owner_state (R318). -/
def ownerState : Nat := 0x900001
/-- owner_key (R318). -/
def ownerKey : Nat := 0x900002
/-- owner_claim (R318). -/
def ownerClaim : Nat := 0x900003
/-- owner_release (R318). -/
def ownerRelease : Nat := 0x900004
/-- owner_epoch (R318). -/
def ownerEpoch : Nat := 0x900005
/-- key_install (R318). -/
def keyInstall : Nat := 0x900006
/-- key_remove (R318). -/
def keyRemove : Nat := 0x900007
/-- keys_installed (R318). -/
def keysInstalled : Nat := 0x900008
/-- keys_cached (R318). -/
def keysCached : Nat := 0x900009
/-- last_key_status (R318). -/
def lastKeyStatus : Nat := 0x90000A
/-- key_cache_waits (R318). -/
def keyCacheWaits : Nat := 0x90000B
/-- fabric_key_active (R318). -/
def fabricKeyActive : Nat := 0x90000C
/-- fabric_key_pending (R318). -/
def fabricKeyPending : Nat := 0x90000D
/-- raw_channels_authorised (R318). -/
def rawChannelsAuthorised : Nat := 0x90000E
/-- licence_install (R318). -/
def licenceInstall : Nat := 0x90000F
/-- licence_features (R318). -/
def licenceFeatures : Nat := 0x900010
/-- min_svn (R318). -/
def minSvn : Nat := 0x900011
/-- commit_svn (R318). -/
def commitSvn : Nat := 0x900012
/-- quote (R318). -/
def quote : Nat := 0x900013
/-- seal_counter (R318). -/
def sealCounter : Nat := 0x900014
/-- ingest_auth_failures (R318). -/
def ingestAuthFailures : Nat := 0x900015
/-- scan_clear (R318). -/
def scanClear : Nat := 0x900016
/-- scan_state (R318). -/
def scanState : Nat := 0x900017
/-- last_licence_status (R318). -/
def lastLicenceStatus : Nat := 0x900018
/-- pci_ids (R357). -/
def pciIds : Nat := 0x600001
/-- pci_link (R357). -/
def pciLink : Nat := 0x600002
/-- entry_cache_misses (R357). -/
def entryCacheMisses : Nat := 0x600003
/-- channels_in_error (R357). -/
def channelsInError : Nat := 0x600004
/-- bar_writes_dropped (R357). -/
def barWritesDropped : Nat := 0x600005
/-- aborts_ok (R357). -/
def abortsOk : Nat := 0x600006
/-- aborts_too_late (R357). -/
def abortsTooLate : Nat := 0x600007
/-- hold_max_us (R357). -/
def holdMaxUs : Nat := 0x600008
/-- reset_lost_count (R357). -/
def resetLostCount : Nat := 0x600009
/-- query_scan_share (R393). -/
def queryScanShare : Nat := 0x60000A
/-- query_batch_window (R393). -/
def queryBatchWindow : Nat := 0x60000B
/-- shard_free (R393). -/
def shardFree : Nat := 0x60000C
/-- vector_dim (R393). -/
def vectorDim : Nat := 0x60000D
/-- role_plan (R393). -/
def rolePlan (n : Nat) : Nat := 0x6100 * 256 + n
/-- shard_entries (R393). -/
def shardEntries (n : Nat) : Nat := 0x6200 * 256 + n
/-- shard_neardup_entries (R393). -/
def shardNeardupEntries (n : Nat) : Nat := 0x6201 * 256 + n
/-- fabric_state (R431). -/
def fabricState : Nat := 0x500001
/-- endpoint_id (R431). -/
def endpointId : Nat := 0x500002
/-- leader_serial (R431). -/
def leaderSerial : Nat := 0x500003
/-- fabric_epoch (R431). -/
def fabricEpoch : Nat := 0x500004
/-- fabric_modules (R431). -/
def fabricModules : Nat := 0x500005
/-- fabric_coord (R431). -/
def fabricCoord : Nat := 0x500006
/-- reorder_timeout (R431). -/
def reorderTimeout : Nat := 0x500007
/-- multicast_retry_interval (R431). -/
def multicastRetryInterval : Nat := 0x500008
/-- window_reuse_hold (R431). -/
def windowReuseHold : Nat := 0x500009
/-- fabric_epoch_request (R431). -/
def fabricEpochRequest : Nat := 0x50000A
/-- fabric_loss_count (R431). -/
def fabricLossCount : Nat := 0x50000B
/-- retransmit_count (R431). -/
def retransmitCount : Nat := 0x50000C
/-- window_closed_drops (R431). -/
def windowClosedDrops : Nat := 0x50000D
/-- multicast_partial_count (R431). -/
def multicastPartialCount : Nat := 0x50000E
/-- windows_open (R431). -/
def windowsOpen : Nat := 0x50000F
/-- reorder_discards (R431). -/
def reorderDiscards : Nat := 0x500010
/-- lifetime_discards (R431). -/
def lifetimeDiscards : Nat := 0x500011
/-- port_state (R431). -/
def portState (n : Nat) : Nat := (0x5100 + n) * 256 + 0x01
/-- port_lanes_up (R431). -/
def portLanesUp (n : Nat) : Nat := (0x5100 + n) * 256 + 0x02
/-- port_neighbour (R431). -/
def portNeighbour (n : Nat) : Nat := (0x5100 + n) * 256 + 0x03
/-- port_lane_map (R431). -/
def portLaneMap (n : Nat) : Nat := (0x5100 + n) * 256 + 0x04
/-- port_fec_corrected (R431). -/
def portFecCorrected (n : Nat) : Nat := (0x5100 + n) * 256 + 0x05
/-- port_fec_uncorrectable (R431). -/
def portFecUncorrectable (n : Nat) : Nat := (0x5100 + n) * 256 + 0x06
/-- port_replays (R431). -/
def portReplays (n : Nat) : Nat := (0x5100 + n) * 256 + 0x07
/-- port_dateline (R431). -/
def portDateline (n : Nat) : Nat := (0x5100 + n) * 256 + 0x08
/-- tune_state (R456). -/
def tuneState (n : Nat) : Nat := (0x6300 + n) * 256 + 0x01
/-- tune_rank (R456). -/
def tuneRank (n : Nat) : Nat := (0x6300 + n) * 256 + 0x02
/-- tune_steps_committed (R456). -/
def tuneStepsCommitted (n : Nat) : Nat := (0x6300 + n) * 256 + 0x03
/-- tune_repeats (R456). -/
def tuneRepeats (n : Nat) : Nat := (0x6300 + n) * 256 + 0x04
/-- tune_open_timeout (R456). -/
def tuneOpenTimeout : Nat := 0x631001
/-- tune_state_free (R456). -/
def tuneStateFree : Nat := 0x631002
/-- tune_steps_failed (R456). -/
def tuneStepsFailed : Nat := 0x631003
/-- check_fraction (R489). -/
def checkFraction : Nat := 0x700001
/-- shadow_strands (R489). -/
def shadowStrands : Nat := 0x700002
/-- shadow_steps (R489). -/
def shadowSteps : Nat := 0x700003
/-- shadow_mismatches (R489). -/
def shadowMismatches : Nat := 0x700004
/-- no_majority_count (R489). -/
def noMajorityCount : Nat := 0x700005
/-- residue_faults (R489). -/
def residueFaults : Nat := 0x700006
/-- replacements (R489). -/
def replacements : Nat := 0x700007
/-- replacement_max_us (R489). -/
def replacementMaxUs : Nat := 0x700008
/-- retracts_sent (R489). -/
def retractsSent : Nat := 0x700009
/-- fabric_check_mismatches (R489). -/
def fabricCheckMismatches : Nat := 0x70000A
/-- suspect_tiles (R489). -/
def suspectTiles : Nat := 0x70000B
/-- frost_tiles (R489). -/
def frostTiles : Nat := 0x70000C
/-- spares_free (R489). -/
def sparesFree : Nat := 0x70000D
/-- lateness_excess (R489). -/
def latenessExcess : Nat := 0x70000E
/-- suspect_clear_hours (R489). -/
def suspectClearHours : Nat := 0x70000F
/-- frost_tile (R489). -/
def frostTile : Nat := 0x700010
/-- unfrost_tile (R489). -/
def unfrostTile : Nat := 0x700011
/-- tile_health (R489). -/
def tileHealth (t : Nat) : Nat := tileKey 0x7100 t
/-- tile_late_share (R489). -/
def tileLateShare (t : Nat) : Nat := tileKey 0x7120 t
/-- tile_suspect_cause (R489). -/
def tileSuspectCause (t : Nat) : Nat := tileKey 0x7140 t
/-- strand_check_role (R489). -/
def strandCheckRole (n : Nat) : Nat := (0x7160 + n) * 256 + 0x01
/-- strand_check_group (R489). -/
def strandCheckGroup (n : Nat) : Nat := (0x7160 + n) * 256 + 0x02
/-- skim_rotation_s (R509). -/
def skimRotationS : Nat := 0x720001
/-- skim_retention_us (R509). -/
def skimRetentionUs : Nat := 0x720002
/-- skim_max_parallel (R509). -/
def skimMaxParallel : Nat := 0x720003
/-- skim_slices_done (R509). -/
def skimSlicesDone : Nat := 0x720004
/-- skim_failures (R509). -/
def skimFailures : Nat := 0x720005
/-- skim_transients (R509). -/
def skimTransients : Nat := 0x720006
/-- skim_abandoned (R509). -/
def skimAbandoned : Nat := 0x720007
/-- skim_last_rotation_s (R509). -/
def skimLastRotationS : Nat := 0x720008
/-- cold_march_result (R509). -/
def coldMarchResult : Nat := 0x720009
/-- bank_restore (R509). -/
def bankRestore : Nat := 0x72000A
/-- tile_skim_age (R509). -/
def tileSkimAge (t : Nat) : Nat := tileKey 0x7220 t
/-- tile_skim_fails (R509). -/
def tileSkimFails (t : Nat) : Nat := tileKey 0x7240 t
/-- boot_flash_state (R530). -/
def bootFlashState : Nat := 0x110001
/-- copy_resolve (R530). -/
def copyResolve : Nat := 0x110002
/-- flash_block_repairs (R530). -/
def flashBlockRepairs : Nat := 0x110003
/-- boot_copies (R530). -/
def bootCopies : Nat := 0x110004
/-- firmware_install (R530). -/
def firmwareInstall : Nat := 0x110005
/-- last_firmware_status (R530). -/
def lastFirmwareStatus : Nat := 0x110006
/-- reset_request (R530). -/
def resetRequest : Nat := 0x220001
/-- last_reset_kind (R530). -/
def lastResetKind : Nat := 0x220002
/-- last_reset_cause (R530). -/
def lastResetCause : Nat := 0x220003
/-- module_reset_count (R530). -/
def moduleResetCount : Nat := 0x220004
/-- last_ready_ms (R530). -/
def lastReadyMs : Nat := 0x220005
/-- dip_count (R530). -/
def dipCount : Nat := 0x230001
/-- dip_reset_count (R530). -/
def dipResetCount : Nat := 0x230002
/-- last_dip_min (R530). -/
def lastDipMin : Nat := 0x230003
/-- last_dip_duration (R530). -/
def lastDipDuration : Nat := 0x230004
/-- input_voltage (R530). -/
def inputVoltage : Nat := 0xA00001
/-- input_loss_count (R530). -/
def inputLossCount : Nat := 0xA00002
/-- mport_mac (R557). -/
def mportMac : Nat := 0x120001
/-- mport_ip_mode (R557). -/
def mportIpMode : Nat := 0x120002
/-- mport_ipv4 (R557). -/
def mportIpv4 : Nat := 0x120003
/-- mport_prefix (R557). -/
def mportPrefix : Nat := 0x120004
/-- mport_gateway (R557). -/
def mportGateway : Nat := 0x120005
/-- mport_link (R557). -/
def mportLink : Nat := 0x120006
/-- observer_open (R557). -/
def observerOpen : Nat := 0x120007
/-- operator_keys (R557). -/
def operatorKeys : Nat := 0x120008
/-- session_idle_s (R557). -/
def sessionIdleS : Nat := 0x120009
/-- sessions_open (R557). -/
def sessionsOpen : Nat := 0x12000A
/-- auth_failures (R557). -/
def authFailures : Nat := 0x12000B
/-- defaults_restore (R557). -/
def defaultsRestore : Nat := 0x12000C
/-- berjor_stale_drops (R557). -/
def berjorStaleDrops : Nat := 0x12000D
/-- ptp_transport (R557). -/
def ptpTransport : Nat := 0x130001
/-- ptp_domain (R557). -/
def ptpDomain : Nat := 0x130002
/-- ptp_state (R557). -/
def ptpState : Nat := 0x130003
/-- calendar_now (R557). -/
def calendarNow : Nat := 0x130004
/-- ptp_offset_ns (R557). -/
def ptpOffsetNs : Nat := 0x130005
/-- ptp_rate_ppb (R557). -/
def ptpRatePpb : Nat := 0x130006
/-- ptp_master (R557). -/
def ptpMaster : Nat := 0x130007
/-- ptp_asymmetry_ns (R557). -/
def ptpAsymmetryNs : Nat := 0x130008
/-- calendar_steps (R557). -/
def calendarSteps : Nat := 0x130009
/-- notify_dest (R557). -/
def notifyDest (n : Nat) : Nat := 0x1400 * 256 + n
/-- notify_rate (R557). -/
def notifyRate : Nat := 0x140005
/-- notify_burst (R557). -/
def notifyBurst : Nat := 0x140006
/-- notify_seq (R557). -/
def notifySeq : Nat := 0x140007
/-- notify_suppressed (R557). -/
def notifySuppressed : Nat := 0x140008
/-- alarms_unacked (R557). -/
def alarmsUnacked : Nat := 0x140009
/-- notify_dropped (R557). -/
def notifyDropped : Nat := 0x14000A
/-- notify_mask (R557). -/
def notifyMask : Nat := 0x14000B
/-- recorder_interval_s (R569). -/
def recorderIntervalS : Nat := 0x800001
/-- recorder_k12_mode (R569). -/
def recorderK12Mode : Nat := 0x800002
/-- recorder_next_rseq (R569). -/
def recorderNextRseq : Nat := 0x800003
/-- flash_oldest_rseq (R569). -/
def flashOldestRseq : Nat := 0x800004
/-- far_oldest_rseq (R569). -/
def farOldestRseq : Nat := 0x800005
/-- recorder_clear (R569). -/
def recorderClear : Nat := 0x800006
/-- recorder_clear_state (R569). -/
def recorderClearState : Nat := 0x800007
/-- recorder_gaps (R569). -/
def recorderGaps : Nat := 0x800008
/-- recorder_far_ring (R569). -/
def recorderFarRing : Nat := 0x800009
/-- recorder_flash_ring (R569). -/
def recorderFlashRing : Nat := 0x80000A
/-- coolant_inlet (R592). -/
def coolantInlet : Nat := 0xA00003
/-- coolant_outlet (R592). -/
def coolantOutlet : Nat := 0xA00004
/-- coolant_flow (R592). -/
def coolantFlow : Nat := 0xA00005
/-- coolant_state (R592). -/
def coolantState : Nat := 0xA00006
/-- quiesce_control (R592). -/
def quiesceControl : Nat := 0xA00007
/-- quiesce_state (R592). -/
def quiesceState : Nat := 0xA00008
/-- identify (R592). -/
def identify : Nat := 0xA00009
/-- light_bar_sleep_s (R592). -/
def lightBarSleepS : Nat := 0xA0000A
/-- light_bar_brightness (R592). -/
def lightBarBrightness : Nat := 0xA0000B
/-- sideband_state (R592). -/
def sidebandState : Nat := 0xA0000C
/-- slot_id (R592). -/
def slotId : Nat := 0xA0000D
/-- rail_fault_record (R592). -/
def railFaultRecord : Nat := 0xA0000E
/-- button_presses (R592). -/
def buttonPresses : Nat := 0xA0000F
/-- front_fault_code (R592). -/
def frontFaultCode : Nat := 0xA00010
/-- thermtrip_count (R592). -/
def thermtripCount : Nat := 0xA00011

end K

/-! ### The table -/

/-- Part 0 of the table. -/
def entries0 : List Entry := [
  -- vcore_setpoint
  ⟨0x2000, 1, 0x01, 0x01, false, .u16, .rw, .operator, 800, true, .span 680 900 10⟩,
  -- vcore_actual
  ⟨0x2000, 1, 0x02, 0x02, false, .u16, .ro, .observer, 800, false, .any⟩,
  -- beat_rate_now
  ⟨0x2000, 1, 0x03, 0x03, false, .u32, .ro, .observer, 0, false, .any⟩,
  -- pacing_state
  ⟨0x2000, 1, 0x04, 0x04, false, .u8, .ro, .observer, 0, false, .any⟩,
  -- force_safe_pacing
  ⟨0x2000, 1, 0x05, 0x05, false, .bool, .rw, .owner, 0, false, .any⟩,
  -- hottest_tj
  ⟨0x2000, 1, 0x06, 0x06, false, .i16, .ro, .observer, 0, false, .any⟩,
  -- power_limit
  ⟨0x2100, 1, 0x01, 0x01, false, .u16, .rw, .operator, 950, true, .span 300 950 1⟩,
  -- input_power
  ⟨0x2100, 1, 0x02, 0x02, false, .u16, .ro, .observer, 0, false, .any⟩,
  -- governor_state
  ⟨0x2100, 1, 0x03, 0x03, false, .u8, .ro, .observer, 0, false, .any⟩,
  -- busy_strand_cap
  ⟨0x2100, 1, 0x04, 0x04, false, .u8, .ro, .observer, 48, false, .any⟩,
  -- fast_throttle_count
  ⟨0x2100, 1, 0x05, 0x05, false, .u32, .ro, .observer, 0, true, .any⟩,
  -- tile_trim
  ⟨0x3200, 24, 1, 27, true, .u8, .rw, .operator, 0, true, .span 0 3 1⟩,
  -- tile_pace
  ⟨0x3220, 24, 1, 27, true, .u8, .rw, .operator, 0, true, .span 0 7 1⟩,
  -- tile_margin
  ⟨0x3240, 24, 1, 27, true, .u8, .ro, .observer, 0, false, .any⟩,
  -- tile_bank_map
  ⟨0x3260, 24, 1, 27, true, .u32, .ro, .observer, 0x00FFFFFF, true, .any⟩,
  -- tile_bank_conflicts
  ⟨0x3280, 24, 1, 27, true, .u32, .ro, .observer, 0, false, .any⟩,
  -- scoreboard_wait_limit
  ⟨0x3300, 1, 0x01, 0x01, false, .u32, .rw, .operator, 1000, true, .span 10 100000 1⟩,
  -- scoreboard_timeout_count
  ⟨0x3300, 1, 0x02, 0x02, false, .u32, .ro, .observer, 0, true, .any⟩,
  -- handle_unfilled_count
  ⟨0x3300, 1, 0x03, 0x03, false, .u32, .ro, .observer, 0, true, .any⟩,
  -- licensed_strands
  ⟨0x3100, 1, 0x01, 0x01, false, .u8, .ro, .observer, Config.factoryLicence.toNat / 65536 % 256, false, .any⟩,
  -- available_strands
  ⟨0x3100, 1, 0x02, 0x02, false, .u8, .ro, .observer, 0, false, .any⟩,
  -- busy_strands
  ⟨0x3100, 1, 0x03, 0x03, false, .u8, .ro, .observer, 0, false, .any⟩,
  -- checkpoint_interval
  ⟨0x3100, 1, 0x04, 0x04, false, .u16, .rw, .operator, 16, true, .span 0 4095 1⟩,
  -- strand_stall_limit
  ⟨0x3100, 1, 0x05, 0x05, false, .u32, .rw, .operator, 10000, true, .span 1000 1000000 1⟩,
  -- strand_stall_count
  ⟨0x3100, 1, 0x06, 0x06, false, .u32, .ro, .observer, 0, true, .any⟩,
  -- strands_retired
  ⟨0x3100, 1, 0x07, 0x07, false, .u8, .ro, .observer, 0, true, .any⟩,
  -- strand_state
  ⟨0x3120, 48, 0x01, 0x01, false, .u8, .ro, .observer, 0, false, .any⟩,
  -- strand_fused_with
  ⟨0x3120, 48, 0x02, 0x02, false, .u8, .ro, .observer, 0xFF, false, .any⟩,
  -- strand_slots
  ⟨0x3120, 48, 0x03, 0x03, false, .u16, .ro, .observer, 0x0FFF, false, .any⟩,
  -- strand_chunks
  ⟨0x3120, 48, 0x04, 0x04, false, .u32, .ro, .observer, 0, false, .any⟩,
  -- strand_checkpoint_epoch
  ⟨0x3120, 48, 0x05, 0x05, false, .u16, .ro, .observer, 0, false, .any⟩,
  -- plans_loaded
  ⟨0x3400, 1, 0x01, 0x01, false, .u16, .ro, .observer, 0, false, .any⟩]

/-- Part 1 of the table. -/
def entries1 : List Entry := [
  -- library_free_near
  ⟨0x3400, 1, 0x02, 0x02, false, .u32, .ro, .observer, 0, false, .any⟩,
  -- library_free_far
  ⟨0x3400, 1, 0x03, 0x03, false, .u32, .ro, .observer, 0, false, .any⟩,
  -- primer_share_near
  ⟨0x3400, 1, 0x04, 0x04, false, .u8, .rw, .operator, 50, true, .span 10 100 1⟩,
  -- primer_share_far
  ⟨0x3400, 1, 0x05, 0x05, false, .u8, .rw, .operator, 25, true, .span 10 100 1⟩,
  -- load_reject_count
  ⟨0x3400, 1, 0x06, 0x06, false, .u32, .ro, .observer, 0, true, .any⟩,
  -- last_load_status
  ⟨0x3400, 1, 0x07, 0x07, false, .u8, .ro, .observer, 0, false, .any⟩,
  -- last_load_detail
  ⟨0x3400, 1, 0x08, 0x08, false, .u32, .ro, .observer, 0, false, .any⟩,
  -- shape_over_plan_count
  ⟨0x3400, 1, 0x09, 0x09, false, .u32, .ro, .observer, 0, true, .any⟩,
  -- primer_fault_count
  ⟨0x3400, 1, 0x0A, 0x0A, false, .u32, .ro, .observer, 0, true, .any⟩,
  -- resident_set_a
  ⟨0x3420, 48, 0x01, 0x01, false, .u16, .ro, .observer, 0, false, .any⟩,
  -- resident_set_b
  ⟨0x3420, 48, 0x02, 0x02, false, .u16, .ro, .observer, 0, false, .any⟩,
  -- send_stall_limit
  ⟨0x3500, 1, 0x01, 0x01, false, .u32, .rw, .operator, 50, true, .span 1 10000 1⟩,
  -- priority_class_state
  ⟨0x3500, 1, 0x02, 0x02, false, .u8, .ro, .observer, 2, false, .any⟩,
  -- priority_close_count
  ⟨0x3500, 1, 0x03, 0x03, false, .u32, .ro, .observer, 0, false, .any⟩,
  -- spill_exhausted_count
  ⟨0x3500, 1, 0x04, 0x04, false, .u32, .ro, .observer, 0, true, .any⟩,
  -- queue_closed_drops
  ⟨0x3500, 1, 0x05, 0x05, false, .u32, .ro, .observer, 0, false, .any⟩,
  -- queue_stale_drops
  ⟨0x3500, 1, 0x06, 0x06, false, .u32, .ro, .observer, 0, false, .any⟩,
  -- no_target_drops
  ⟨0x3500, 1, 0x07, 0x07, false, .u32, .ro, .observer, 0, false, .any⟩,
  -- spill_in_use
  ⟨0x3500, 1, 0x08, 0x08, false, .u32, .ro, .observer, 0, false, .any⟩,
  -- spill_peak
  ⟨0x3500, 1, 0x09, 0x09, false, .u32, .ro, .observer, 0, false, .any⟩,
  -- spill_ring_size
  ⟨0x3520, 48, 0x01, 0x01, false, .u16, .rw, .operator, 1024, true, .zeroOr 64 1024 64⟩,
  -- near_capacity
  ⟨0x4000, 1, 0x01, 0x01, false, .u16, .ro, .observer, 256, false, .any⟩,
  -- far_capacity
  ⟨0x4000, 1, 0x02, 0x02, false, .u16, .ro, .observer, 768, false, .any⟩,
  -- scrub_period
  ⟨0x4000, 1, 0x03, 0x03, false, .u16, .rw, .operator, 24, true, .span 4 168 1⟩,
  -- ecc_corrected_count
  ⟨0x4000, 1, 0x04, 0x04, false, .u32, .ro, .observer, 0, true, .any⟩,
  -- ecc_uncorrectable_count
  ⟨0x4000, 1, 0x05, 0x05, false, .u32, .ro, .observer, 0, true, .any⟩,
  -- dram_hottest
  ⟨0x4000, 1, 0x06, 0x06, false, .i16, .ro, .observer, 0x8000, false, .any⟩,
  -- refresh_multiplier
  ⟨0x4000, 1, 0x07, 0x07, false, .u8, .ro, .observer, 4, false, .any⟩,
  -- memory_limited
  ⟨0x4000, 1, 0x08, 0x08, false, .bool, .ro, .observer, 0, false, .any⟩,
  -- retrain_count
  ⟨0x4000, 1, 0x09, 0x09, false, .u32, .ro, .observer, 0, false, .any⟩,
  -- subch_corrected
  ⟨0x4100, 96, 0x01, 0x01, false, .u32, .ro, .observer, 0, true, .any⟩,
  -- subch_uncorrectable
  ⟨0x4100, 96, 0x02, 0x02, false, .u32, .ro, .observer, 0, true, .any⟩]

/-- Part 2 of the table. -/
def entries2 : List Entry := [
  -- subch_train_state
  ⟨0x4100, 96, 0x03, 0x03, false, .u8, .ro, .observer, 0, false, .any⟩,
  -- module_serial
  ⟨0x1000, 1, 0x01, 0x01, false, .u64, .ro, .observer, Config.serial.toNat, true, .any⟩,
  -- identity_state
  ⟨0x1000, 1, 0x02, 0x02, false, .u8, .ro, .observer, 1, true, .any⟩,
  -- ids_public
  ⟨0x1000, 1, 0x03, 0x03, false, .octet 64, .ro, .observer, 0, true, .any⟩,
  -- ida_public
  ⟨0x1000, 1, 0x04, 0x04, false, .octet 64, .ro, .observer, 0, true, .any⟩,
  -- module_certificate
  ⟨0x1000, 1, 0x05, 0x05, false, .domain, .ro, .observer, 0, true, .any⟩,
  -- ca_certificate
  ⟨0x1000, 1, 0x06, 0x06, false, .domain, .ro, .observer, 0, true, .any⟩,
  -- cold_start_count
  ⟨0x1000, 1, 0x07, 0x07, false, .u32, .ro, .observer, 0, true, .any⟩,
  -- jtag_idcode
  ⟨0x1000, 1, 0x08, 0x08, false, .u32, .ro, .observer, Config.idcode.toNat, true, .any⟩,
  -- owner_state
  ⟨0x9000, 1, 0x01, 0x01, false, .u8, .ro, .observer, 0, true, .any⟩,
  -- owner_key
  ⟨0x9000, 1, 0x02, 0x02, false, .octet 64, .ro, .observer, 0, true, .any⟩,
  -- owner_claim
  ⟨0x9000, 1, 0x03, 0x03, false, .domain, .wo, .operator, 0, false, .any⟩,
  -- owner_release
  ⟨0x9000, 1, 0x04, 0x04, false, .domain, .wo, .owner, 0, false, .any⟩,
  -- owner_epoch
  ⟨0x9000, 1, 0x05, 0x05, false, .u32, .ro, .observer, 0, true, .any⟩,
  -- key_install
  ⟨0x9000, 1, 0x06, 0x06, false, .domain, .wo, .owner, 0, false, .any⟩,
  -- key_remove
  ⟨0x9000, 1, 0x07, 0x07, false, .u64, .wo, .owner, 0, false, .any⟩,
  -- keys_installed
  ⟨0x9000, 1, 0x08, 0x08, false, .u32, .ro, .observer, 0, false, .any⟩,
  -- keys_cached
  ⟨0x9000, 1, 0x09, 0x09, false, .u16, .ro, .observer, 0, false, .any⟩,
  -- last_key_status
  ⟨0x9000, 1, 0x0A, 0x0A, false, .u8, .ro, .observer, 0, false, .any⟩,
  -- key_cache_waits
  ⟨0x9000, 1, 0x0B, 0x0B, false, .u32, .ro, .observer, 0, false, .any⟩,
  -- fabric_key_active
  ⟨0x9000, 1, 0x0C, 0x0C, false, .u64, .ro, .observer, 0, false, .any⟩,
  -- fabric_key_pending
  ⟨0x9000, 1, 0x0D, 0x0D, false, .u64, .ro, .observer, 0, false, .any⟩,
  -- raw_channels_authorised
  ⟨0x9000, 1, 0x0E, 0x0E, false, .u8, .rw, .owner, 0, true, .among [0, 2, 8]⟩,
  -- licence_install
  ⟨0x9000, 1, 0x0F, 0x0F, false, .domain, .wo, .operator, 0, false, .any⟩,
  -- licence_features
  ⟨0x9000, 1, 0x10, 0x10, false, .u32, .ro, .observer, Config.factoryLicence.toNat, false, .any⟩,
  -- min_svn
  ⟨0x9000, 1, 0x11, 0x11, false, .u16, .ro, .observer, 0, true, .any⟩,
  -- commit_svn
  ⟨0x9000, 1, 0x12, 0x12, false, .bool, .wo, .owner, 0, false, .any⟩,
  -- quote
  ⟨0x9000, 1, 0x13, 0x13, false, .domain, .rw, .observer, 0, false, .any⟩,
  -- seal_counter
  ⟨0x9000, 1, 0x14, 0x14, false, .u64, .ro, .observer, 0, false, .any⟩,
  -- ingest_auth_failures
  ⟨0x9000, 1, 0x15, 0x15, false, .u32, .ro, .observer, 0, true, .any⟩,
  -- scan_clear
  ⟨0x9000, 1, 0x16, 0x16, false, .bool, .wo, .factory, 0, false, .any⟩,
  -- scan_state
  ⟨0x9000, 1, 0x17, 0x17, false, .u8, .ro, .observer, 0, false, .any⟩]

/-- Part 3 of the table. -/
def entries3 : List Entry := [
  -- last_licence_status
  ⟨0x9000, 1, 0x18, 0x18, false, .u8, .ro, .observer, 0, false, .any⟩,
  -- pci_ids
  ⟨0x6000, 1, 0x01, 0x01, false, .u32, .ro, .observer, Config.pciIds.toNat, true, .any⟩,
  -- pci_link
  ⟨0x6000, 1, 0x02, 0x02, false, .u16, .ro, .observer, 0, false, .any⟩,
  -- entry_cache_misses
  ⟨0x6000, 1, 0x03, 0x03, false, .u32, .ro, .observer, 0, false, .any⟩,
  -- channels_in_error
  ⟨0x6000, 1, 0x04, 0x04, false, .u16, .ro, .observer, 0, false, .any⟩,
  -- bar_writes_dropped
  ⟨0x6000, 1, 0x05, 0x05, false, .u32, .ro, .observer, 0, false, .any⟩,
  -- aborts_ok
  ⟨0x6000, 1, 0x06, 0x06, false, .u32, .ro, .observer, 0, false, .any⟩,
  -- aborts_too_late
  ⟨0x6000, 1, 0x07, 0x07, false, .u32, .ro, .observer, 0, false, .any⟩,
  -- hold_max_us
  ⟨0x6000, 1, 0x08, 0x08, false, .u32, .ro, .observer, 0, false, .any⟩,
  -- reset_lost_count
  ⟨0x6000, 1, 0x09, 0x09, false, .u32, .ro, .observer, 0, true, .any⟩,
  -- query_scan_share
  ⟨0x6000, 1, 0x0A, 0x0A, false, .u8, .rw, .operator, 50, true, .span 10 100 1⟩,
  -- query_batch_window
  ⟨0x6000, 1, 0x0B, 0x0B, false, .u16, .rw, .operator, 50, true, .span 0 1000 1⟩,
  -- shard_free
  ⟨0x6000, 1, 0x0C, 0x0C, false, .u32, .ro, .observer, 196608, false, .any⟩,
  -- vector_dim
  ⟨0x6000, 1, 0x0D, 0x0D, false, .u16, .rw, .operator, 0, true, .zeroOr 64 1024 64⟩,
  -- role_plan
  ⟨0x6100, 1, 0x01, 0x07, false, .u16, .rw, .operator, 0, false, .any⟩,
  -- role_plan
  ⟨0x6100, 1, 0x10, 0x17, false, .u16, .rw, .operator, 0, false, .any⟩,
  -- shard_entries
  ⟨0x6200, 1, 1, 255, false, .u32, .ro, .observer, 0, false, .any⟩,
  -- shard_neardup_entries
  ⟨0x6201, 1, 1, 255, false, .u32, .ro, .observer, 0, false, .any⟩,
  -- fabric_state
  ⟨0x5000, 1, 0x01, 0x01, false, .u8, .ro, .observer, 0, false, .any⟩,
  -- endpoint_id
  ⟨0x5000, 1, 0x02, 0x02, false, .u16, .ro, .observer, 0, false, .any⟩,
  -- leader_serial
  ⟨0x5000, 1, 0x03, 0x03, false, .u64, .ro, .observer, 0, false, .any⟩,
  -- fabric_epoch
  ⟨0x5000, 1, 0x04, 0x04, false, .u32, .ro, .observer, 0, false, .any⟩,
  -- fabric_modules
  ⟨0x5000, 1, 0x05, 0x05, false, .u16, .ro, .observer, 0, false, .any⟩,
  -- fabric_coord
  ⟨0x5000, 1, 0x06, 0x06, false, .u16, .ro, .observer, 0, false, .any⟩,
  -- reorder_timeout
  ⟨0x5000, 1, 0x07, 0x07, false, .u16, .rw, .operator, 20, true, .span 5 1000 1⟩,
  -- multicast_retry_interval
  ⟨0x5000, 1, 0x08, 0x08, false, .u16, .rw, .operator, 10, true, .span 1 1000 1⟩,
  -- window_reuse_hold
  ⟨0x5000, 1, 0x09, 0x09, false, .u16, .rw, .operator, 100, true, .span 10 10000 1⟩,
  -- fabric_epoch_request
  ⟨0x5000, 1, 0x0A, 0x0A, false, .bool, .wo, .operator, 0, false, .any⟩,
  -- fabric_loss_count
  ⟨0x5000, 1, 0x0B, 0x0B, false, .u32, .ro, .observer, 0, false, .any⟩,
  -- retransmit_count
  ⟨0x5000, 1, 0x0C, 0x0C, false, .u32, .ro, .observer, 0, false, .any⟩,
  -- window_closed_drops
  ⟨0x5000, 1, 0x0D, 0x0D, false, .u32, .ro, .observer, 0, false, .any⟩,
  -- multicast_partial_count
  ⟨0x5000, 1, 0x0E, 0x0E, false, .u32, .ro, .observer, 0, false, .any⟩]

/-- Part 4 of the table. -/
def entries4 : List Entry := [
  -- windows_open
  ⟨0x5000, 1, 0x0F, 0x0F, false, .u16, .ro, .observer, 0, false, .any⟩,
  -- reorder_discards
  ⟨0x5000, 1, 0x10, 0x10, false, .u32, .ro, .observer, 0, false, .any⟩,
  -- lifetime_discards
  ⟨0x5000, 1, 0x11, 0x11, false, .u32, .ro, .observer, 0, false, .any⟩,
  -- port_state
  ⟨0x5100, 8, 0x01, 0x01, false, .u8, .ro, .observer, 0, false, .any⟩,
  -- port_lanes_up
  ⟨0x5100, 8, 0x02, 0x02, false, .u8, .ro, .observer, 0, false, .any⟩,
  -- port_neighbour
  ⟨0x5100, 8, 0x03, 0x03, false, .u64, .ro, .observer, 0, false, .any⟩,
  -- port_lane_map
  ⟨0x5100, 8, 0x04, 0x04, false, .u8, .ro, .observer, 0, false, .any⟩,
  -- port_fec_corrected
  ⟨0x5100, 8, 0x05, 0x05, false, .u32, .ro, .observer, 0, false, .any⟩,
  -- port_fec_uncorrectable
  ⟨0x5100, 8, 0x06, 0x06, false, .u32, .ro, .observer, 0, false, .any⟩,
  -- port_replays
  ⟨0x5100, 8, 0x07, 0x07, false, .u32, .ro, .observer, 0, false, .any⟩,
  -- port_dateline
  ⟨0x5100, 8, 0x08, 0x08, false, .bool, .ro, .observer, 0, false, .any⟩,
  -- tune_state
  ⟨0x6300, 4, 0x01, 0x01, false, .u8, .ro, .observer, 0, false, .any⟩,
  -- tune_rank
  ⟨0x6300, 4, 0x02, 0x02, false, .u16, .ro, .observer, 0, false, .any⟩,
  -- tune_steps_committed
  ⟨0x6300, 4, 0x03, 0x03, false, .u32, .ro, .observer, 0, false, .any⟩,
  -- tune_repeats
  ⟨0x6300, 4, 0x04, 0x04, false, .u32, .ro, .observer, 0, false, .any⟩,
  -- tune_open_timeout
  ⟨0x6310, 1, 0x01, 0x01, false, .u32, .rw, .operator, 60000, true, .span 1000 600000 1⟩,
  -- tune_state_free
  ⟨0x6310, 1, 0x02, 0x02, false, .u32, .ro, .observer, 16384, false, .any⟩,
  -- tune_steps_failed
  ⟨0x6310, 1, 0x03, 0x03, false, .u32, .ro, .observer, 0, true, .any⟩,
  -- check_fraction
  ⟨0x7000, 1, 0x01, 0x01, false, .u8, .rw, .owner, 2, true, .span 0 4 1⟩,
  -- shadow_strands
  ⟨0x7000, 1, 0x02, 0x02, false, .u8, .ro, .observer, 0, false, .any⟩,
  -- shadow_steps
  ⟨0x7000, 1, 0x03, 0x03, false, .u32, .ro, .observer, 0, false, .any⟩,
  -- shadow_mismatches
  ⟨0x7000, 1, 0x04, 0x04, false, .u32, .ro, .observer, 0, true, .any⟩,
  -- no_majority_count
  ⟨0x7000, 1, 0x05, 0x05, false, .u32, .ro, .observer, 0, true, .any⟩,
  -- residue_faults
  ⟨0x7000, 1, 0x06, 0x06, false, .u32, .ro, .observer, 0, true, .any⟩,
  -- replacements
  ⟨0x7000, 1, 0x07, 0x07, false, .u32, .ro, .observer, 0, true, .any⟩,
  -- replacement_max_us
  ⟨0x7000, 1, 0x08, 0x08, false, .u32, .ro, .observer, 0, false, .any⟩,
  -- retracts_sent
  ⟨0x7000, 1, 0x09, 0x09, false, .u32, .ro, .observer, 0, false, .any⟩,
  -- fabric_check_mismatches
  ⟨0x7000, 1, 0x0A, 0x0A, false, .u32, .ro, .observer, 0, false, .any⟩,
  -- suspect_tiles
  ⟨0x7000, 1, 0x0B, 0x0B, false, .u16, .ro, .observer, 0, false, .any⟩,
  -- frost_tiles
  ⟨0x7000, 1, 0x0C, 0x0C, false, .u16, .ro, .observer, 0, true, .any⟩,
  -- spares_free
  ⟨0x7000, 1, 0x0D, 0x0D, false, .u8, .ro, .observer, 0, false, .any⟩,
  -- lateness_excess
  ⟨0x7000, 1, 0x0E, 0x0E, false, .u8, .rw, .operator, 5, true, .span 1 50 1⟩]

/-- Part 5 of the table. -/
def entries5 : List Entry := [
  -- suspect_clear_hours
  ⟨0x7000, 1, 0x0F, 0x0F, false, .u16, .rw, .operator, 24, true, .span 1 720 1⟩,
  -- frost_tile
  ⟨0x7000, 1, 0x10, 0x10, false, .u16, .wo, .owner, 0, false, .any⟩,
  -- unfrost_tile
  ⟨0x7000, 1, 0x11, 0x11, false, .u16, .wo, .owner, 0, false, .any⟩,
  -- tile_health
  ⟨0x7100, 24, 1, 27, true, .u8, .ro, .observer, 0, true, .any⟩,
  -- tile_late_share
  ⟨0x7120, 24, 1, 27, true, .u16, .ro, .observer, 0, false, .any⟩,
  -- tile_suspect_cause
  ⟨0x7140, 24, 1, 27, true, .u8, .ro, .observer, 0, true, .any⟩,
  -- strand_check_role
  ⟨0x7160, 48, 0x01, 0x01, false, .u8, .ro, .observer, 0, false, .any⟩,
  -- strand_check_group
  ⟨0x7160, 48, 0x02, 0x02, false, .u8, .ro, .observer, 0xFF, false, .any⟩,
  -- skim_rotation_s
  ⟨0x7200, 1, 0x01, 0x01, false, .u32, .rw, .operator, 600, true, .zeroOr 60 86400 1⟩,
  -- skim_retention_us
  ⟨0x7200, 1, 0x02, 0x02, false, .u32, .rw, .operator, 1000, true, .span 100 100000 1⟩,
  -- skim_max_parallel
  ⟨0x7200, 1, 0x03, 0x03, false, .u8, .rw, .operator, 8, true, .span 1 8 1⟩,
  -- skim_slices_done
  ⟨0x7200, 1, 0x04, 0x04, false, .u32, .ro, .observer, 0, false, .any⟩,
  -- skim_failures
  ⟨0x7200, 1, 0x05, 0x05, false, .u32, .ro, .observer, 0, true, .any⟩,
  -- skim_transients
  ⟨0x7200, 1, 0x06, 0x06, false, .u32, .ro, .observer, 0, true, .any⟩,
  -- skim_abandoned
  ⟨0x7200, 1, 0x07, 0x07, false, .u32, .ro, .observer, 0, false, .any⟩,
  -- skim_last_rotation_s
  ⟨0x7200, 1, 0x08, 0x08, false, .u32, .ro, .observer, 0, false, .any⟩,
  -- cold_march_result
  ⟨0x7200, 1, 0x09, 0x09, false, .u8, .ro, .observer, 0, false, .any⟩,
  -- bank_restore
  ⟨0x7200, 1, 0x0A, 0x0A, false, .u32, .wo, .owner, 0, false, .any⟩,
  -- tile_skim_age
  ⟨0x7220, 24, 1, 27, true, .u32, .ro, .observer, 0, false, .any⟩,
  -- tile_skim_fails
  ⟨0x7240, 24, 1, 27, true, .u16, .ro, .observer, 0, true, .any⟩,
  -- boot_flash_state
  ⟨0x1100, 1, 0x01, 0x01, false, .u8, .ro, .observer, 0, false, .any⟩,
  -- copy_resolve
  ⟨0x1100, 1, 0x02, 0x02, false, .u8, .wo, .owner, 0, false, .span 1 3 1⟩,
  -- flash_block_repairs
  ⟨0x1100, 1, 0x03, 0x03, false, .u32, .ro, .observer, 0, true, .any⟩,
  -- boot_copies
  ⟨0x1100, 1, 0x04, 0x04, false, .u8, .ro, .observer, 0, false, .any⟩,
  -- firmware_install
  ⟨0x1100, 1, 0x05, 0x05, false, .domain, .wo, .operator, 0, false, .any⟩,
  -- last_firmware_status
  ⟨0x1100, 1, 0x06, 0x06, false, .u8, .ro, .observer, 0, false, .any⟩,
  -- reset_request
  ⟨0x2200, 1, 0x01, 0x01, false, .u8, .wo, .operator, 0, false, .span 1 2 1⟩,
  -- last_reset_kind
  ⟨0x2200, 1, 0x02, 0x02, false, .u8, .ro, .observer, 1, false, .any⟩,
  -- last_reset_cause
  ⟨0x2200, 1, 0x03, 0x03, false, .u8, .ro, .observer, 1, false, .any⟩,
  -- module_reset_count
  ⟨0x2200, 1, 0x04, 0x04, false, .u32, .ro, .observer, 0, true, .any⟩,
  -- last_ready_ms
  ⟨0x2200, 1, 0x05, 0x05, false, .u32, .ro, .observer, 0, false, .any⟩,
  -- dip_count
  ⟨0x2300, 1, 0x01, 0x01, false, .u32, .ro, .observer, 0, true, .any⟩]

/-- Part 6 of the table. -/
def entries6 : List Entry := [
  -- dip_reset_count
  ⟨0x2300, 1, 0x02, 0x02, false, .u32, .ro, .observer, 0, true, .any⟩,
  -- last_dip_min
  ⟨0x2300, 1, 0x03, 0x03, false, .u16, .ro, .observer, 0, true, .any⟩,
  -- last_dip_duration
  ⟨0x2300, 1, 0x04, 0x04, false, .u32, .ro, .observer, 0, true, .any⟩,
  -- input_voltage
  ⟨0xA000, 1, 0x01, 0x01, false, .u16, .ro, .observer, 0, false, .any⟩,
  -- input_loss_count
  ⟨0xA000, 1, 0x02, 0x02, false, .u32, .ro, .observer, 0, true, .any⟩,
  -- mport_mac
  ⟨0x1200, 1, 0x01, 0x01, false, .u64, .ro, .observer, Config.mac.toNat, true, .any⟩,
  -- mport_ip_mode
  ⟨0x1200, 1, 0x02, 0x02, false, .u8, .rw, .operator, 0, true, .span 0 1 1⟩,
  -- mport_ipv4
  ⟨0x1200, 1, 0x03, 0x03, false, .u32, .rw, .operator, 0, true, .any⟩,
  -- mport_prefix
  ⟨0x1200, 1, 0x04, 0x04, false, .u8, .rw, .operator, 24, true, .span 8 30 1⟩,
  -- mport_gateway
  ⟨0x1200, 1, 0x05, 0x05, false, .u32, .rw, .operator, 0, true, .any⟩,
  -- mport_link
  ⟨0x1200, 1, 0x06, 0x06, false, .u8, .ro, .observer, 0, false, .any⟩,
  -- observer_open
  ⟨0x1200, 1, 0x07, 0x07, false, .bool, .rw, .owner, 1, true, .any⟩,
  -- operator_keys
  ⟨0x1200, 1, 0x08, 0x08, false, .domain, .rw, .owner, 0, true, .any⟩,
  -- session_idle_s
  ⟨0x1200, 1, 0x09, 0x09, false, .u16, .rw, .operator, 300, true, .span 30 3600 1⟩,
  -- sessions_open
  ⟨0x1200, 1, 0x0A, 0x0A, false, .u8, .ro, .observer, 0, false, .any⟩,
  -- auth_failures
  ⟨0x1200, 1, 0x0B, 0x0B, false, .u32, .ro, .observer, 0, true, .any⟩,
  -- defaults_restore
  ⟨0x1200, 1, 0x0C, 0x0C, false, .u8, .wo, .owner, 0, false, .span 1 1 1⟩,
  -- berjor_stale_drops
  ⟨0x1200, 1, 0x0D, 0x0D, false, .u32, .ro, .observer, 0, false, .any⟩,
  -- ptp_transport
  ⟨0x1300, 1, 0x01, 0x01, false, .u8, .rw, .operator, 1, true, .span 0 2 1⟩,
  -- ptp_domain
  ⟨0x1300, 1, 0x02, 0x02, false, .u8, .rw, .operator, 0, true, .span 0 127 1⟩,
  -- ptp_state
  ⟨0x1300, 1, 0x03, 0x03, false, .u8, .ro, .observer, 0, false, .any⟩,
  -- calendar_now
  ⟨0x1300, 1, 0x04, 0x04, false, .u64, .ro, .observer, 0, false, .any⟩,
  -- ptp_offset_ns
  ⟨0x1300, 1, 0x05, 0x05, false, .i32, .ro, .observer, 0, false, .any⟩,
  -- ptp_rate_ppb
  ⟨0x1300, 1, 0x06, 0x06, false, .i32, .ro, .observer, 0, false, .any⟩,
  -- ptp_master
  ⟨0x1300, 1, 0x07, 0x07, false, .u64, .ro, .observer, 0, false, .any⟩,
  -- ptp_asymmetry_ns
  ⟨0x1300, 1, 0x08, 0x08, false, .i16, .rw, .operator, 0, true, .signed 10000⟩,
  -- calendar_steps
  ⟨0x1300, 1, 0x09, 0x09, false, .u32, .ro, .observer, 0, false, .any⟩,
  -- notify_dest
  ⟨0x1400, 1, 0x01, 0x04, false, .u64, .rw, .operator, 0, true, .any⟩,
  -- notify_rate
  ⟨0x1400, 1, 0x05, 0x05, false, .u8, .rw, .operator, 1, true, .span 1 10 1⟩,
  -- notify_burst
  ⟨0x1400, 1, 0x06, 0x06, false, .u8, .rw, .operator, 4, true, .span 1 32 1⟩,
  -- notify_seq
  ⟨0x1400, 1, 0x07, 0x07, false, .u32, .ro, .observer, 0, false, .any⟩,
  -- notify_suppressed
  ⟨0x1400, 1, 0x08, 0x08, false, .u32, .ro, .observer, 0, false, .any⟩]

/-- Part 7 of the table. -/
def entries7 : List Entry := [
  -- alarms_unacked
  ⟨0x1400, 1, 0x09, 0x09, false, .u32, .ro, .observer, 0, false, .any⟩,
  -- notify_dropped
  ⟨0x1400, 1, 0x0A, 0x0A, false, .u32, .ro, .observer, 0, false, .any⟩,
  -- notify_mask
  ⟨0x1400, 1, 0x0B, 0x0B, false, .octet 16, .rw, .operator, 0, true, .any⟩,
  -- recorder_interval_s
  ⟨0x8000, 1, 0x01, 0x01, false, .u16, .rw, .operator, 60, true, .span 10 3600 1⟩,
  -- recorder_k12_mode
  ⟨0x8000, 1, 0x02, 0x02, false, .bool, .rw, .operator, 0, true, .any⟩,
  -- recorder_next_rseq
  ⟨0x8000, 1, 0x03, 0x03, false, .u32, .ro, .observer, 0, false, .any⟩,
  -- flash_oldest_rseq
  ⟨0x8000, 1, 0x04, 0x04, false, .u32, .ro, .observer, 0, false, .any⟩,
  -- far_oldest_rseq
  ⟨0x8000, 1, 0x05, 0x05, false, .u32, .ro, .observer, 0, false, .any⟩,
  -- recorder_clear
  ⟨0x8000, 1, 0x06, 0x06, false, .u8, .wo, .owner, 0, false, .span 1 2 1⟩,
  -- recorder_clear_state
  ⟨0x8000, 1, 0x07, 0x07, false, .u8, .ro, .observer, 0, false, .any⟩,
  -- recorder_gaps
  ⟨0x8000, 1, 0x08, 0x08, false, .u32, .ro, .observer, 0, true, .any⟩,
  -- recorder_far_ring
  ⟨0x8000, 1, 0x09, 0x09, false, .domain, .ro, .observer, 0, false, .any⟩,
  -- recorder_flash_ring
  ⟨0x8000, 1, 0x0A, 0x0A, false, .domain, .ro, .observer, 0, false, .any⟩,
  -- coolant_inlet
  ⟨0xA000, 1, 0x03, 0x03, false, .i16, .ro, .observer, 0, false, .any⟩,
  -- coolant_outlet
  ⟨0xA000, 1, 0x04, 0x04, false, .i16, .ro, .observer, 0, false, .any⟩,
  -- coolant_flow
  ⟨0xA000, 1, 0x05, 0x05, false, .u16, .ro, .observer, 0, false, .any⟩,
  -- coolant_state
  ⟨0xA000, 1, 0x06, 0x06, false, .u8, .ro, .observer, 0, false, .any⟩,
  -- quiesce_control
  ⟨0xA000, 1, 0x07, 0x07, false, .u8, .wo, .operator, 0, false, .span 1 3 1⟩,
  -- quiesce_state
  ⟨0xA000, 1, 0x08, 0x08, false, .u8, .ro, .observer, 0, false, .any⟩,
  -- identify
  ⟨0xA000, 1, 0x09, 0x09, false, .bool, .rw, .operator, 0, false, .any⟩,
  -- light_bar_sleep_s
  ⟨0xA000, 1, 0x0A, 0x0A, false, .u16, .rw, .operator, 300, true, .zeroOr 10 3600 1⟩,
  -- light_bar_brightness
  ⟨0xA000, 1, 0x0B, 0x0B, false, .u8, .rw, .operator, 60, true, .span 10 100 1⟩,
  -- sideband_state
  ⟨0xA000, 1, 0x0C, 0x0C, false, .u8, .ro, .observer, 0, false, .any⟩,
  -- slot_id
  ⟨0xA000, 1, 0x0D, 0x0D, false, .u8, .ro, .observer, 0, false, .any⟩,
  -- rail_fault_record
  ⟨0xA000, 1, 0x0E, 0x0E, false, .u32, .ro, .observer, 0, true, .any⟩,
  -- button_presses
  ⟨0xA000, 1, 0x0F, 0x0F, false, .u32, .ro, .observer, 0, true, .any⟩,
  -- front_fault_code
  ⟨0xA000, 1, 0x10, 0x10, false, .u8, .ro, .observer, 0, false, .any⟩,
  -- thermtrip_count
  ⟨0xA000, 1, 0x11, 0x11, false, .u32, .ro, .observer, 0, true, .any⟩]

/-- Every entry of the dictionary (R556). -/
def entries : List Entry :=
  entries0 ++ entries1 ++ entries2 ++ entries3 ++ entries4 ++ entries5 ++ entries6 ++ entries7

/-- The row covers an entry. -/
def Entry.covers (e : Entry) (index sub : Nat) : Bool :=
  e.base ≤ index && index < e.base + e.count && e.lo ≤ sub && sub ≤ e.hi && !(e.perTile && sub = 14)

/-- What stands at index and subindex, subindex 0 apart. -/
def entryAt (index sub : Nat) : Option Entry := entries.find? fun e => e.covers index sub

/-- The highest subindex an index defines (R531); none where the index has no entries. -/
def highestSub (index : Nat) : Option Nat :=
  (entries.filter fun e => e.base ≤ index && index < e.base + e.count).foldl (fun a e => some (max (a.getD 0) e.hi)) none

/-- What an entry reads before anything wrote it. -/
def dflt (k : Nat) : Nat := ((entryAt (k / 256) (k % 256)).map Entry.dflt).getD 0

/-- Bytes of a value of a scalar type. -/
def DType.size : DType → Nat
  | .bool | .u8 => 1
  | .u16 | .i16 => 2
  | .u32 | .i32 => 4
  | .u64 => 8
  | .octet n => n
  | .domain => 0

/-- A value lies in an entry's range (R532 and the tables of entries). -/
def Rng.ok (r : Rng) (t : DType) (v : Nat) : Bool :=
  match r with
  | .any => t ≠ .bool || v ≤ 1
  | .span lo hi st => lo ≤ v && v ≤ hi && (v - lo) % st = 0
  | .zeroOr lo hi st => v = 0 || (lo ≤ v && v ≤ hi && (v - lo) % st = 0)
  | .among l => l.contains v
  | .signed m => v ≤ m || (v < 0x10000 && 0x10000 - v ≤ m)

end Sys2Proof.Machine
end

