-- ==== Sys2Proof/Machine/BoardState.lean ====
section
/-! DEFINITION. The state of what surrounds the tiles: what the module has sent, the on-die networks (R218 to R246),
module memory (R251 to R277), power, pacing and the governor (R29 to R46, R510 to R512, R526, R585), boot flash
(R515 to R521), the management port (R537 to R555), the event recorder (R558 to R568) and the front face (R571 to
R591). -/

namespace Sys2Proof.Machine

/-- What the module has sent, oldest first: a notification to a destination with its 64-byte payload and SENDS
(R549), a Berjor reply (R540), a write of host memory over PCIe, an MSI-X message, a packet into a Wazel port, a
message that leaves the tiles for a service core, and answers on the service lines. -/
inductive Out where
  | notify (dest : Nat) (payload : List Byte)
  | reply (console : Bool) (ip : BitVec 32) (bytes : List Byte)
  | host (addr : Nat) (bytes : List Byte)
  | msix (vector : Nat)
  | packet (port : Port) (p : Packet)
  | disc (d : DiscMsg)
  | retract (msg : List Byte)
  | smbus (bytes : List Byte)
  | testData (w : Nat)
  | rails (up : Bool)
  | link (name : Nat) (args : List Nat) (bytes : List Byte)
  deriving DecidableEq, Repr

/-! ### Networks -/

/-- A barrier (R243): the member tiles and those that have arrived. -/
structure Barrier where
  members : List Nat
  arrived : List Nat
  deriving DecidableEq, Repr

/-- Which packets of a flow from another module a message came in: source endpoint, FLOW, first and last SEQ. -/
structure FlowRef where
  src : Nat
  flow : Nat
  first : Nat
  last : Nat
  deriving DecidableEq, Repr

/-- A message whose sender is not a tile: the host node for an INJECT descriptor, a service-core cluster, or a fabric
node for a flow. `refused` marks one that waits for retry (R232), with the stall limit in
force at its first refusal; `held` one that is held while the P classes close (R220); one that is no longer live has its
status. -/
structure NodeSend where
  msg : Msg
  refused : Bool
  live : Bool
  job : Option (Nat × Nat)
  flow : Option FlowRef
  status : Nat
  limitUs : Nat
  held : Bool
  deriving DecidableEq, Repr

/-- The S-net, the senders that are not tiles, and what Abano keeps of the networks: the receive queues of the service-core
clusters, by cluster × 16 + queue (R249), the priority arbitration tables in force, by the number Abano wrote them under
(R218), and the STEER_FAIL reports, each with slot, unit and status (R161). -/
structure Net where
  flags : BitVec 64
  counts : List (Nat × Word)
  barriers : List (Nat × Barrier)
  nodeSends : List NodeSend
  /-- Highest spill space in use since cold start, in bytes. -/
  spillPeak : Nat
  clusters : List (Nat × Queue)
  pTables : Option Nat
  steerFails : List (Nat × Nat × Nat)
  deriving DecidableEq, Repr

/-! ### Memory -/

/-- A write that a memory node holds and has not acknowledged (R269). -/
structure MemWrite where
  line : Nat
  data : List Byte
  tile : Option Nat
  deriving DecidableEq, Repr

/-- A DRAM package: the row of R274 in force (1, 2, 4, or 5 for 4 × with the access limit) and its last reading. -/
structure Pkg where
  row : Nat
  temp : Option Int
  deriving DecidableEq, Repr

/-- A bank of a sub-channel: its open page, the activations since its last refresh, and when it was last refreshed (R256,
R275, R278). -/
structure Bank where
  page : Option Nat
  acts : Nat
  refreshed : Nat
  deriving DecidableEq, Repr

/-- Module memory. `trained` holds for each sub-channel its package temperature and the time at its last training (R276);
`banks` the banks by sub-channel × 16 + bank; `allRefreshed` when every bank was refreshed at once, at the start (R278). -/
structure Mem where
  cells : List (Nat × Byte)
  poison : List (Nat × Bool)
  writes : List MemWrite
  pkgs : List (Nat × Pkg)
  trained : List (Nat × Option (Int × Nat))
  keyPresent : Bool
  keyCount : Nat
  scrub : Nat
  banks : List (Nat × Bank)
  allRefreshed : Nat
  selfRefresh : Bool
  deriving DecidableEq, Repr

/-! ### Power, pacing, governor -/

/-- Where the supply stands (R510, R512, R574): no input or rails off with the standby rail only, or all rails up. -/
inductive PowerPhase where
  | dark | standby | up
  deriving DecidableEq, Repr

/-- A supply dip under way (R526): rails below the warning level, time of the first fall and of the last recovery,
lowest reading and its row. -/
structure Dip where
  start : Nat
  recovered : Nat
  min : Nat
  row : Nat
  deriving DecidableEq, Repr

/-- The power stages: what `standby` holds is the event recorder's standby copy of a dip that reached the reset level
(R529): stamp and FLAGS of its first fall, DURATION, MIN and row. `lowered` says that R42 or R44 holds VCORE under its ceiling, `limited` that
POWER_LIMITED was raised since, `samples` lists the last ten measurements of input power, newest first, and `monitors` by slot the last readings of the two
replica delay monitors, beside the matrix engine and beside the banks (R27). -/
structure Power where
  phase : PowerPhase
  inputMv : Nat
  retryUsed : Bool
  seqFail : Bool
  railDown : Nat
  shortRetry : Bool
  thermTrip : Bool
  dip : Option Dip
  standby : Option (Nat × Nat × Nat × Nat × Nat)
  minPace : Nat
  paused : Bool
  fast : Bool
  fastEnding : Bool
  hot95 : Bool
  hot100 : Bool
  limited : Bool
  lowered : Bool
  samples : List Nat
  flowCap : Bool
  noFlow : Bool
  monitors : List (Nat × Option (Nat × Nat))
  deriving DecidableEq, Repr

/-! ### Boot flash -/

/-- What a boot-flash body holds, as pairs of a key and a value; the two copies of each block, the blocks that wait
to be written, and where the boot sequence stands. -/
structure Flash where
  blocks : List (Nat × FlashBlock)
  waiting : List Nat
  images : List (Nat × Nat)
  deriving DecidableEq, Repr

/-- Where the module stands between power good and READY (R522, R523, R525): booting, ready, thawing, stopped with a
front-face code, in recovery, or clearing before scan and cleared (R316, R317). -/
inductive BootPhase where
  | booting | ready | thawing | stopped | recovery | clearing | cleared
  deriving DecidableEq, Repr

/-! ### Management port -/

/-- The bucket of a notification code (R550): tokens used, events suppressed since, and the first of them. -/
structure Bucket where
  spent : Nat
  supp : Nat
  time : Nat
  cal : Nat
  arg : List Byte
  deriving DecidableEq, Repr

/-- A notification message (R549). -/
structure Note where
  code : Nat
  alarm : Bool
  sends : Nat
  nseq : Nat
  time : Nat
  cal : Nat
  supp : Nat
  arg : List Byte
  deriving DecidableEq, Repr

/-- An open session (R538, R539); `kid` numbers its session key. -/
structure Session where
  num : Nat
  kid : Nat
  level : Level
  key : List Byte
  lastSeq : Option (BitVec 32)
  lastReply : Option Out
  deriving DecidableEq, Repr

/-- A session open that awaits its proof (R538): the address it came from and the number of its nonce and keys. -/
structure SessOpen where
  ip : BitVec 32
  num : Nat
  level : Level
  key : List Byte
  endorsed : Bool
  deriving DecidableEq, Repr

/-- Failures of an address (R539): times of the last sixteen, and whether its requests are dropped. -/
structure IpFail where
  ip : BitVec 32
  times : List Nat
  dropping : Bool
  deriving DecidableEq, Repr

/-- An unfinished upload (R543): entry key, session and bytes so far. -/
structure Upload where
  key : Nat
  session : Nat
  bytes : List Byte
  deriving DecidableEq, Repr

/-- Calendar time (R553 to R555): whether it was ever set, its value at an anchor of the time base, the rate and
the offset estimates in a row within bounds. -/
structure Ptp where
  isSet : Bool
  anchor : Nat
  atAnchor : Int
  rate : Int
  good : Nat
  deriving DecidableEq, Repr

structure Mgmt where
  buckets : List (Nat × Bucket)
  nseq : Nat
  queue : List Note
  unacked : List Note
  second : Nat
  sentInSecond : Nat
  sessions : List Session
  opens : List SessOpen
  nextSession : Nat
  fails : List IpFail
  uploads : List Upload
  ptp : Ptp
  deriving DecidableEq, Repr

/-! ### Event recorder -/

/-- A histogram of the running interval (R561). -/
structure Hist where
  bins : List Nat
  n : Nat
  min : Int
  max : Int
  whereMax : Nat
  deriving DecidableEq, Repr

/-- The event recorder. Records are held by slot; `buffer` waits for flash, each record marked droppable or not;
`perTile` holds each tile's lowest margin and deepest queue of the interval; `margins` holds each tile's margin event count (R30); `behind` holds records made during a
clear. -/
structure Recorder where
  next : Nat
  far : List (Nat × List Byte)
  flashA : List (Nat × List Byte)
  flashB : List (Nat × List Byte)
  buffer : List (List Byte)
  dropped : Nat
  firstDropped : Nat
  clearing : Nat
  behind : List (Nat × Nat × Nat × List Byte)
  hists : List (Nat × Hist)
  lowMargin : List (Nat × Nat)
  deepest : List (Nat × Nat)
  notices : List (Nat × Nat)
  counts0 : List Nat
  marginLow : Nat
  margins : List (Nat × Nat)
  interval : Nat
  began : Nat
  deriving DecidableEq, Repr

/-! ### Front face -/

/-- Quiesce (R577, R578). -/
inductive Quiesce where
  | none | requested | forcing | quiesced
  deriving DecidableEq, Repr

/-- Pins, button, touch pad, light bar, console and coolant. A request for quiesce before READY waits (R579). -/
structure Front where
  slotId : Nat
  pwrEn : Bool
  stuck : Bool
  ringS : Nat
  flashing : Bool
  awake : Bool
  console : Bool
  quiesce : Quiesce
  waitQuiesce : Option (Bool × QSource)
  modSafe : Bool
  deriving DecidableEq, Repr

/-! ### Values after reset -/

/-- Log 21 (DESIGN CHOICE). -/
def Net.reset : Net := ⟨0, [], [], [], 0, [], none, []⟩

def Bank.fresh : Bank := ⟨none, 0, 0⟩

def Pkg.reset : Pkg := ⟨4, none⟩

/-- Log 4 (DESIGN CHOICE), 21 (DESIGN CHOICE). -/
def Mem.reset : Mem := ⟨[], [], [], [], [], true, 0, 0, [], 0, false⟩

/-- Log 2 (DESIGN CHOICE), 7 (DESIGN CHOICE). -/
def Power.reset : Power :=
  ⟨.up, 54000, false, false, 0, false, false, none, none, 0, false, false, false, false, false, false, false, [], false, false, []⟩


def Flash.reset : Flash := ⟨[], [], []⟩

def Bucket.full : Bucket := ⟨0, 0, 0, 0, []⟩

def Ptp.reset : Ptp := ⟨false, 0, 0, 0, 0⟩

/-- Log 45 (DESIGN CHOICE). -/
def Mgmt.reset : Mgmt := ⟨[], 0, [], [], 0, 0, [], [], 1, [], [], Ptp.reset⟩

def Hist.empty : Hist := ⟨List.replicate 16 0, 0, 0, 0, 0xFFFF⟩

/-- Log 8 (DESIGN CHOICE). -/
def Recorder.reset : Recorder :=
  ⟨0, [], [], [], [], 0, 0, 0, [], [], [], [], [], List.replicate 11 0, 0, [], 60, 0⟩

/-- Log 2 (DESIGN CHOICE), 9 (DESIGN CHOICE). -/
def Front.reset : Front := ⟨0, true, false, 0, false, true, false, .none, none, false⟩

end Sys2Proof.Machine
end

