-- ==== Sys2Proof/Machine/PlanLoader.lean ====
section
/-! DEFINITION. The plan file (R179 to R184), primer segments (R196, R197) and the loader's checks with the slack
they compute (R185 to R190). Everything is read from the bytes of the decrypted file. -/

namespace Sys2Proof.Machine

/-- A record of a primer segment (R196). -/
structure PrimerRec where
  typ : Nat
  target : Nat
  arg : Nat
  payload : List Byte
  deriving DecidableEq, Repr

/-- A section record (R180). -/
structure SecRec where
  first : Nat
  stages : Nat
  segBase : Nat
  deriving DecidableEq, Repr

/-- A stage record (R181) with its segment's bytes. -/
structure StageRec where
  sec : Nat
  stage : Nat
  progWords : Nat
  entry : Nat
  handleTop : Nat
  footLow : Nat
  footHigh : Nat
  resLow : Nat
  resHigh : Nat
  carried : Nat
  segOff : Nat
  segBytes : Nat
  segCrc : Nat
  qsize : List Nat
  deriving DecidableEq, Repr

/-- An edge record (R183). -/
structure EdgeRec where
  sec : Nat
  src : Nat
  dst : Nat
  queue : Nat
  kind : Nat
  h : Nat
  msgs : Nat
  msgBytes : Nat
  deriving DecidableEq, Repr

/-! ### Fields -/

def planSections (f : List Byte) : Nat := leAt f 48 1
def planStages (f : List Byte) : Nat := leAt f 49 1
def planFlags (f : List Byte) : Nat := leAt f 50 1
def planResidency (f : List Byte) : Nat := leAt f 51 1
def planShapeVars (f : List Byte) : Nat := leAt f 52 1
def planNearGrant (f : List Byte) : Nat := leAt f 56 4
def planFarGrant (f : List Byte) : Nat := leAt f 60 4
def planShapeMax (f : List Byte) (v : Nat) : Nat := leAt f (64 + 4 * v) 4
def planSecTable (f : List Byte) : Nat := leAt f 96 4 * 256
def planStageTable (f : List Byte) : Nat := leAt f 100 4 * 256
def planEdgeTable (f : List Byte) : Nat := leAt f 104 4 * 256
def planEdgeCount (f : List Byte) : Nat := leAt f 108 2
def planStageCount (f : List Byte) : Nat := leAt f 110 2
def planDigest (f : List Byte) : BitVec 256 := BitVec.ofNat 256 (leAt f 16 32)
def planCkptOff (f : List Byte) : Bool := bit (planFlags f) 1
def planShort (f : List Byte) : Bool := bit (planFlags f) 0

def planSec (f : List Byte) (n : Nat) : SecRec :=
  let o := planSecTable f + 32 * n
  ⟨leAt f o 2, leAt f (o + 2) 1, leAt f (o + 4) 4 * 256⟩

/-- The default division of queue memory when all sixteen values are 0 (R182). -/
def qsizeInForce (l : List Nat) : List Nat := if l.all (· = 0) then l.map fun _ => 12 else l

def planStageAt (f : List Byte) (i : Nat) : StageRec :=
  let o := planStageTable f + 64 * i
  { sec := leAt f o 1
    stage := leAt f (o + 1) 1
    progWords := leAt f (o + 2) 2
    entry := leAt f (o + 4) 2
    handleTop := leAt f (o + 6) 1
    footLow := leAt f (o + 8) 4
    footHigh := leAt f (o + 12) 4
    resLow := leAt f (o + 16) 4
    resHigh := leAt f (o + 20) 4
    carried := leAt f (o + 24) 4
    segOff := leAt f (o + 28) 4 * 256
    segBytes := leAt f (o + 32) 4
    segCrc := leAt f (o + 36) 4
    qsize := qsizeInForce ((List.range 16).map fun q => leAt f (o + 40 + q) 1) }

def planEdgeAt (f : List Byte) (i : Nat) : EdgeRec :=
  let o := planEdgeTable f + 16 * i
  let b := leAt f (o + 3) 1
  ⟨leAt f o 1, leAt f (o + 1) 1, leAt f (o + 2) 1, b % 16, b / 16 % 4, leAt f (o + 4) 2, leAt f (o + 6) 2,
    leAt f (o + 8) 4⟩

/-- Stage records of section `n`, in table order, each with its index in the table. -/
def secStages (f : List Byte) (n : Nat) : List StageRec :=
  let s := planSec f n
  (List.range s.stages).map fun i => planStageAt f (s.first + i)

/-- The record of stage `k` of section `n`. -/
def stageOf (f : List Byte) (n k : Nat) : Option StageRec := (secStages f n).find? fun r => r.stage = k

def allStages (f : List Byte) : List StageRec := (List.range (planSections f)).flatMap (secStages f)

def allEdges (f : List Byte) : List EdgeRec := (List.range (planEdgeCount f)).map (planEdgeAt f)

/-- The bytes of a stage's segment. -/
def segment (f : List Byte) (r : StageRec) : List Byte := slice f ((planSec f r.sec).segBase + r.segOff) r.segBytes

/-! ### Primer records (R196, R197) -/

/-- A record header that obeys R196 and R197, with `left` bytes of segment after it. -/
def recOk (h : List Byte) (left : Nat) : Bool :=
  let typ := leAt h 0 1
  let len := leAt h 4 4
  let tgt := leAt h 8 4
  let arg := leAt h 12 4
  (slice h 1 3).all (· = 0) && (slice h 16 48).all (· = 0) && len % 64 = 0 && len ≤ left &&
    (match typ with
     | 1 => arg = 0
     | 2 => arg = 0
     | 3 => len = roundUp (16 * arg) 64
     | 4 => tgt = 0 && arg = 0 && len = 192
     | 5 => tgt = 0 && arg = 0 && len = 64
     | 6 => len = 0
     | 15 => arg = 0 && len = 0
     | _ => false)

/-- The bytes of a payload that R197 calls zero are zero. Log 134 (DEDUCED). -/
def payloadOk (typ arg : Nat) (p : List Byte) : Bool :=
  match typ with
  | 3 => (List.range arg).all fun k => leAt p (16 * k + 12) 4 = 0
  | 4 => (List.range 4).all fun u => leAt p (48 * u + 4) 4 = 0
  | 5 => (p.drop 16).all (· = 0)
  | _ => true

/-- The records of a segment, up to the first that does not parse; the flag says whether all parsed and the last
one is START. -/
def parseSeg : Nat → List Byte → List PrimerRec × Bool
  | 0, _ => ([], false)
  | n + 1, bs =>
    if bs.length < 64 then ([], false)
    else
      let h := bs.take 64
      let len := leAt h 4 4
      if recOk h (bs.length - 64) = false || !payloadOk (leAt h 0 1) (leAt h 12 4) (slice bs 64 len) then ([], false)
      else
        let r : PrimerRec := ⟨leAt h 0 1, leAt h 8 4, leAt h 12 4, slice bs 64 len⟩
        if r.typ = 15 then ([r], bs.length = 64)
        else
          let (l, ok) := parseSeg n (bs.drop (64 + len))
          (r :: l, ok)

def recsOf (bs : List Byte) : List PrimerRec := (parseSeg (bs.length / 64 + 1) bs).1

def segParses (bs : List Byte) : Bool := (parseSeg (bs.length / 64 + 1) bs).2

/-- Words an ISTORE record writes: up to its last non-zero word, since a payload is padded to 64 bytes.
Log 162 (DEDUCED). -/
def istoreWords (r : PrimerRec) : Nat :=
  ((List.range (r.payload.length / 4)).filter fun i => leAt r.payload (4 * i) 4 ≠ 0).foldl (fun a i => max a (i + 1)) 0

/-- The handle entries of a HANDLE record, each with its number. -/
def recHandles (r : PrimerRec) : List (Nat × Handle) :=
  (List.range r.arg).map fun i =>
    (r.target + i, ⟨BitVec.ofNat 32 (leAt r.payload (16 * i) 4), BitVec.ofNat 32 (leAt r.payload (16 * i + 4) 4),
      BitVec.ofNat 32 (leAt r.payload (16 * i + 8) 4)⟩)

def segHandles (rs : List PrimerRec) : List (Nat × Handle) :=
  (rs.filter fun r => r.typ = 3).flatMap recHandles

/-- SUCFG word and SUOUT words of unit `u` of a STEER record. -/
def steerCfg (r : PrimerRec) (u : Nat) : Nat := leAt r.payload (48 * u) 4
def steerOut (r : PrimerRec) (u o : Nat) : Word × Word :=
  (BitVec.ofNat 32 (leAt r.payload (48 * u + 8 + 8 * o) 4), BitVec.ofNat 32 (leAt r.payload (48 * u + 12 + 8 * o) 4))

/-- The last STEER record of a segment rules. -/
def segSteer (rs : List PrimerRec) : Option PrimerRec := (rs.filter fun r => r.typ = 4).getLast?

/-- Bytes a SCRATCH or FILL record covers. -/
def recRange (r : PrimerRec) : Option Range :=
  if r.typ = 2 then some (r.target, r.payload.length) else if r.typ = 6 then some (r.target, r.arg) else none

/-! ### The loader's checks (R185) -/

/-- Detail word (R186). Log 134 (DEDUCED). -/
def detail (sec stage item : Nat) : Word := BitVec.ofNat 32 (fld sec 0 4 + fld stage 4 5 + fld item 16 16)

/-- The first failure in a list of checks: code and detail. -/
abbrev LoadFail := Option (Nat × Word)

def firstFail : List LoadFail → LoadFail
  | [] => none
  | some x :: _ => some x
  | none :: l => firstFail l

def failIf (c : Bool) (code : Nat) (d : Word) : LoadFail := if c then some (code, d) else none

/-- Check 1, PLAN_FORMAT. Log 24 (DEDUCED), 134 (DEDUCED). -/
def checkFormat (f : List Byte) : LoadFail :=
  let n := f.length
  let hdr := slice f 0 4 ≠ [0x53, 0x4B, 0x50, 0x4C] || leAt f 4 2 ≠ 1 || leAt f 8 8 ≠ n || n % 256 ≠ 0 || n < 256
    || leAt f 6 2 ≠ 0 || (slice f 53 3).any (· ≠ 0) || (slice f 112 144).any (· ≠ 0) || planFlags f / 8 ≠ 0
    || planSections f = 0 || 16 < planSections f || (planStages f ≠ 12 && planStages f ≠ 24)
    || 2 < planResidency f || 1024 < planEdgeCount f || planShapeVars f = 0 || 8 < planShapeVars f
  if hdr then some (1, 0)
  else if n < planSecTable f + 32 * planSections f || n < planStageTable f + 64 * planStageCount f
      || n < planEdgeTable f + 16 * planEdgeCount f then some (1, 0)
  else if total ((List.range (planSections f)).map fun s => (planSec f s).stages) ≠ planStageCount f then some (1, 0)
  else firstFail (
    ((List.range (planSections f)).map fun s =>
      let o := planSecTable f + 32 * s
      let r := planSec f s
      failIf (leAt f (o + 3) 1 ≠ 0 || (slice f (o + 16) 16).any (· ≠ 0) || r.stages = 0 || planStages f < r.stages
        || planStageCount f < r.first + r.stages) 1 (detail s 0 0)) ++
    ((List.range (planStageCount f)).map fun i =>
      let o := planStageTable f + 64 * i
      let r := planStageAt f i
      failIf (leAt f (o + 7) 1 ≠ 0 || (slice f (o + 56) 8).any (· ≠ 0)) 1 (detail r.sec r.stage 0)) ++
    ((List.range (planEdgeCount f)).map fun i =>
      let o := planEdgeTable f + 16 * i
      failIf (leAt f (o + 3) 1 / 64 ≠ 0 || (slice f (o + 12) 4).any (· ≠ 0) || (planEdgeAt f i).kind = 3
        || 4096 < (planEdgeAt f i).msgBytes)
        1 (detail (planEdgeAt f i).sec (planEdgeAt f i).dst i)) ++
    ((List.range (planSections f)).flatMap fun s => (secStages f s).map fun r =>
      failIf (n < (planSec f s).segBase + r.segOff + r.segBytes) 1 (detail s r.stage 0)))

/-- Check 3, PLAN_PLACEMENT. Log 134 (DEDUCED). -/
def checkPlacement (f : List Byte) : LoadFail :=
  firstFail (
    ((List.range (planSections f)).map fun s =>
      let rs := secStages f s
      let n := (planSec f s).stages
      match rs.zipIdx.find? fun x => x.1.sec ≠ s || n ≤ x.1.stage || (rs.take x.2).any fun r => r.stage = x.1.stage with
      | some (r, _) => some (3, detail s r.stage 0)
      | none => failIf (planShort f && n = planStages f) 3 (detail s 0 0)) ++
    ((List.range (planEdgeCount f)).map fun i =>
      let e := planEdgeAt f i
      let n := (planSec f e.sec).stages
      failIf (planSections f ≤ e.sec || n ≤ e.src || n ≤ e.dst) 3
        (detail e.sec (if n ≤ e.src then e.src else e.dst) i)))

/-- One check made on every stage with the records of its segment, naming the item it fails on. Log 134 (DEDUCED). -/
def perStage (f : List Byte) (code : Nat) (bad : StageRec → List PrimerRec → Option Nat) : LoadFail :=
  firstFail ((allStages f).map fun r =>
    match bad r (recsOf (segment f r)) with
    | some item => some (code, detail r.sec r.stage item)
    | none => none)

/-- The index of the first record that fails. -/
def badRec (rs : List PrimerRec) (p : PrimerRec → Bool) : Option Nat :=
  (rs.zipIdx.find? fun x => p x.1).map (·.2)

/-- The number of the first handle that fails. -/
def badHandle (rs : List PrimerRec) (p : Handle → Bool) : Option Nat :=
  ((segHandles rs).find? fun x => p x.2).map (·.1)

/-- Check 4, PRIMER_FORMAT. -/
def checkPrimer (f : List Byte) : LoadFail :=
  perStage f 0x0D fun r rs =>
    if segParses (segment f r) then none else some rs.length

/-- Check 6, ISTORE_FIT. -/
def checkIstore (f : List Byte) : LoadFail :=
  perStage f 0x05 fun r rs =>
    if 4096 < r.progWords || r.progWords ≤ r.entry then some 0
    else badRec rs fun p => (p.typ = 1 && r.progWords < p.target + istoreWords p)
      || (p.typ = 15 && r.progWords ≤ p.target)

/-- Checks 7 and 8, HANDLE_COUNT and HANDLE_RESERVED. -/
def checkHandleTop (f : List Byte) : LoadFail :=
  perStage f 0x06 fun r _ =>
    if 62 < r.handleTop || (planResidency f ≠ 0 && 30 < r.handleTop) then some r.handleTop else none

def checkHandleReserved (f : List Byte) : LoadFail :=
  perStage f 0x07 fun _ rs => ((segHandles rs).find? fun x => 62 ≤ x.1).map (·.1)

/-- Check 9, PLAN_ALIGN. -/
def checkAlign (f : List Byte) : LoadFail :=
  perStage f 0x08 fun r rs =>
    match badHandle rs fun h => h.kind = 1 && h.base % 64 ≠ 0 with
    | some i => some i
    | none =>
      match badRec rs fun p => (p.typ = 2 || p.typ = 6) && p.target % 64 ≠ 0 with
      | some i => some i
      | none =>
        if r.footLow % 64 ≠ 0 || r.footHigh % 64 ≠ 0 || r.resLow % 64 ≠ 0 || r.resHigh % 64 ≠ 0 then some 0 else none

/-- Check 10, SCRATCH_FIT. -/
def checkScratch (f : List Byte) : LoadFail :=
  perStage f 0x09 fun r rs =>
    match badHandle rs fun h => h.kind = 1 && 0x300000 < h.base + h.size with
    | some i => some i
    | none =>
      match badRec rs fun p =>
          match recRange p with
          | some (a, n) => 0x300000 < a + n || a < r.footLow || r.footHigh < a + n
          | none => false with
      | some i => some i
      | none =>
        if r.footHigh < r.footLow || 0x300000 < r.footHigh || r.resHigh < r.resLow || 0x300000 < r.resHigh
          || (r.resLow ≠ r.resHigh && (r.resLow < r.footLow || r.footHigh < r.resHigh)) then some 0 else none

/-- The place in the strand's grant that a memory-tier handle of a plan names (R184): near or far, first unit and
units. -/
def grantPlace (h : Handle) : Bool × Nat × Nat := (!bit h.base 31, h.base % 2 ^ 31, h.size)

/-- Check 11, MEM_GRANT. -/
def checkGrant (f : List Byte) : LoadFail :=
  if 0x400000 < planNearGrant f || 0x2000000 < planFarGrant f then some (0x0A, 0)
  else perStage f 0x0A fun _ rs => badHandle rs fun h =>
    h.kind = 2 && (if (grantPlace h).1 then planNearGrant f else planFarGrant f) < (grantPlace h).2.1 + h.size

/-- The queues a stage's own steering units name: inputs of enabled units and local outputs (R157). -/
def steerQueues (rs : List PrimerRec) : List Nat :=
  match segSteer rs with
  | none => []
  | some r => (List.range 4).flatMap fun u =>
      (if bit (steerCfg r u) 0 then [bits (steerCfg r u) 2 4] else []) ++
      (List.range 4).filterMap fun o =>
        if outKind (steerOut r u o) = 1 then some (wbits (steerOut r u o).1 26 4) else none

/-- The stage outputs of a stage's steering units: stage number and queue (R198). -/
def steerStages (rs : List PrimerRec) : List (Word × Nat × Nat) :=
  match segSteer rs with
  | none => []
  | some r => (List.range 4).flatMap fun u => (List.range 4).filterMap fun o =>
      let p := (steerOut r u o).1
      if outKind (steerOut r u o) = 2 then some (p, wbits p 21 5, wbits p 26 4) else none

/-- The QSIZE values in force at a stage: those of the last QCFG record of its segment, else its stage record's (R182, R197). -/
def qSizes (f : List Byte) (r : StageRec) : List Nat :=
  match ((recsOf (segment f r)).filter fun p => p.typ = 5).getLast? with
  | some p => qsizeInForce ((List.range 16).map fun q => leAt p.payload q 1)
  | none => r.qsize

def qAt (f : List Byte) (r : StageRec) (q : Nat) : Nat := (qSizes f r).getD q 0

/-- Check 12, QUEUE_COUNT. Log 134 (DEDUCED). -/
def checkQueues (f : List Byte) : LoadFail :=
  firstFail [
    perStage f 0x0B fun r _ => if 192 < total (qSizes f r) then some 0 else none,
    firstFail ((allEdges f).zipIdx.map fun x =>
      let e := x.1
      match stageOf f e.sec e.dst with
      | none => none
      | some r => failIf (qAt f r e.queue = 0 || qAt f r e.queue * 512 < roundUp e.msgBytes 64)
          0x0B (detail e.sec e.dst e.queue)),
    perStage f 0x0B fun r rs => (steerQueues rs).find? fun q => qAt f r q = 0,
    firstFail ((allStages f).map fun r =>
      ((steerStages (recsOf (segment f r))).find? fun p =>
        wbits p.1 16 5 = 31 && (match stageOf f r.sec p.2.1 with | some d => qAt f d p.2.2 = 0 | none => false)).map
          fun p => (0x0B, detail r.sec p.2.1 p.2.2))]

/-- Check 13, STEER_CONFIG. Log 134 (DEDUCED). -/
def checkSteer (f : List Byte) : LoadFail :=
  perStage f 0x0C fun r rs =>
    match segSteer rs with
    | none => none
    | some s =>
      let inputs := (List.range 4).filterMap fun u =>
        if bit (steerCfg s u) 0 then some (bits (steerCfg s u) 2 4) else none
      let lands := (List.range 4).flatMap fun u => (List.range 4).filterMap fun o =>
        if outKind (steerOut s u o) = 3 then some (outHandle (steerOut s u o)).toNat else none
      let landBad := lands.find? fun n =>
        match ((segHandles rs).filter fun x => x.1 = n).getLast? with
        | some (_, h) => h.kind ≠ 1 || !h.canWrite
        | none => true
      let outBad := (steerStages rs).any fun p => wbits p.1 16 5 ≠ 31 || (planSec f r.sec).stages ≤ p.2.1
      match inputs.zipIdx.find? fun x => (inputs.drop (x.2 + 1)).contains x.1 with
      | some (q, _) => some q
      | none =>
        match landBad with
        | some n => some n
        | none => if outBad then ((rs.zipIdx.filter fun x => x.1.typ = 4).getLast?).map (·.2) else none

/-- Check 14, SECTION_ALIAS. -/
def checkAlias (f : List Byte) : LoadFail :=
  if planSections f ≤ 1 then none
  else firstFail [
    perStage f 0x0E fun _ rs => badHandle rs fun h => h.kind = 2 && h.perm = 0,
    firstFail ((List.range (planSections f)).map fun s =>
      let hs := (secStages f s).flatMap fun r => (segHandles (recsOf (segment f r))).filter fun x => x.2.kind = 2
      let w := hs.filter fun x => x.2.perm = 2
      let rd := hs.filter fun x => x.2.perm = 1
      match w.find? fun x => rd.any fun y =>
          (grantPlace x.2).1 = (grantPlace y.2).1 && x.2.size ≠ 0 && y.2.size ≠ 0 &&
          (grantPlace x.2).2.1 < (grantPlace y.2).2.1 + y.2.size &&
          (grantPlace y.2).2.1 < (grantPlace x.2).2.1 + x.2.size with
      | some (h, _) => some (0x0E, detail s 0 h)
      | none => none)]

/-- Check 15, SHAPE_DECL. -/
def checkShape (f : List Byte) : LoadFail :=
  match (List.range (planShapeVars f)).find? fun v => planShapeMax f v = 0 with
  | some v => some (0x0F, detail 0 0 v)
  | none => failIf (16777215 < planShapeMax f 0) 0x0F 0

/-- Check 16, CKPT_STATE. -/
def checkCarried (f : List Byte) : LoadFail :=
  if planCkptOff f then none else perStage f 0x10 fun r _ => if 0x100000 < r.carried then some 0 else none

/-- Check 17, RESIDENT_FIT. Log 134 (DEDUCED). -/
def checkResident (f : List Byte) : LoadFail :=
  if planResidency f = 0 then none
  else if 1 < planSections f || 12 * 0x100000 < total ((allStages f).map fun r => r.resHigh - r.resLow) then
    some (0x11, 0)
  else
    let lo := if planResidency f = 1 then 0 else 2048
    perStage f 0x11 fun r rs =>
      match badRec rs fun p =>
          (p.typ = 1 && (p.target < lo || lo + 2048 < p.target + istoreWords p))
            || (p.typ = 15 && (p.target < lo || lo + 2048 ≤ p.target)) with
      | some i => some i
      | none => if r.entry < lo || lo + 2048 ≤ r.entry then some 0 else none

/-! ### Slack (R188, R189) -/

/-- The largest sum of weights along a path from `a` to `b` in ascending stage order. -/
def longest (es : List (Nat × Nat × Nat)) (b : Nat) : Nat → Nat → Option Nat
  | 0, a => if a = b then some 0 else none
  | n + 1, a =>
    if a = b then some 0
    else es.foldl (fun best e =>
      if e.1 = a ∧ a < e.2.1 then
        match longest es b n e.2.1 with
        | some x => some (max (best.getD 0) (e.2.2 + x))
        | none => best
      else best) none

/-- Put an edge into a list behind those of no greater TO. Log 145 (DEDUCED). -/
def insertTo (x : EdgeRec × Nat) : List (EdgeRec × Nat) → List (EdgeRec × Nat)
  | [] => [x]
  | y :: l => if x.1.dst < y.1.dst then x :: y :: l else y :: insertTo x l

/-- Slack in chunks of the edges of a section, free edges in order of decreasing FROM, as pairs of edge index and slack
(R188): those of one FROM by increasing TO, so that each edge on a path has its own slack before it counts; free edges with
both ends in common count in table order. Log 145 (DEDUCED). -/
def slacks (f : List Byte) (s : Nat) : List (Nat × Nat) :=
  let es := (allEdges f).zipIdx.filter fun x => x.1.sec = s
  let back := (es.filter fun x => x.1.kind = 2).map fun x => (x.2, x.1.h)
  let froms := (List.range 256).reverse
  froms.foldl (fun acc fr =>
    ((es.filter fun x => x.1.kind = 1 && x.1.src = fr).foldl (fun l x => insertTo x l) []).foldl (fun acc x =>
      let others := (es.filter fun y => y.2 ≠ x.2 && y.1.kind ≠ 2).map fun y =>
        (y.1.src, y.1.dst, if y.1.kind = 1 then ((acc.find? fun z => z.1 = y.2).elim 0 (·.2)) else y.1.h)
      let sc := match longest others x.1.dst 24 x.1.src with
        | some n => n + 1
        | none => 0
      acc ++ [(x.2, sc)]) acc) back

/-- What the loader gives one queue of a stage: added units of queue memory and bytes of spill extension. -/
structure SlackGift where
  sec : Nat
  stage : Nat
  queue : Nat
  units : Nat
  ext : Nat
  msgs : Nat
  bytes : Nat
  deriving DecidableEq, Repr

/-- Provide room for one edge (R189). The answer is the gifts so far, or the failing edge. -/
def giveEdge (f : List Byte) (ring : Nat) (acc : List SlackGift ⊕ Nat) (p : Nat × Nat) : List SlackGift ⊕ Nat :=
  match acc with
  | .inr e => .inr e
  | .inl gs =>
    let e := planEdgeAt f p.1
    match stageOf f e.sec e.dst with
    | none => .inl gs
    | some r =>
      let here := gs.filter fun g => g.sec = e.sec && g.stage = e.dst
      let old := (here.find? fun g => g.queue = e.queue).getD ⟨e.sec, e.dst, e.queue, 0, 0, 0, 0⟩
      let free := 192 - total (qSizes f r) - total (here.map (·.units))
      let n := p.2 * e.msgs
      let sz := roundUp e.msgBytes 64
      let want := min n (32 - old.msgs)
      let cap := (qAt f r e.queue + old.units) * 512
      let add := min free (ceilDiv (old.bytes + want * sz - cap) 512)
      let hold := if sz = 0 then want else min want ((cap + add * 512 - old.bytes) / sz)
      let ext := old.ext + (n - hold) * (64 + sz)
      let new : SlackGift := ⟨e.sec, e.dst, e.queue, old.units + add, ext, old.msgs + hold, old.bytes + hold * sz⟩
      let gs' := new :: gs.filter fun g => !(g.sec = e.sec && g.stage = e.dst && g.queue = e.queue)
      let tot := total ((gs'.filter fun g => g.sec = e.sec && g.stage = e.dst).map (·.ext))
      if ring * 1024 / 2 < tot then .inr p.1 else .inl gs'

/-- The loader's provision for every free and back edge, under the smallest ring size in force in KiB. -/
def slackGifts (f : List Byte) (ring : Nat) : List SlackGift ⊕ Nat :=
  ((List.range (planSections f)).flatMap (slacks f)).foldl (giveEdge f ring) (.inl [])

/-- Check 18, SLACK_SHORT. -/
def checkSlack (f : List Byte) (ring : Nat) : LoadFail :=
  match slackGifts f ring with
  | .inl _ => none
  | .inr e => some (0x12, detail (planEdgeAt f e).sec (planEdgeAt f e).dst e)

/-- Checks 3 to 18 of R185 in their order, check 5 with the licences in force. Log 76 (DEDUCED). -/
def checkPlan (f : List Byte) (tuning : Bool) (ring : Nat) : LoadFail :=
  firstFail [checkPlacement f, checkPrimer f, failIf (bit (planFlags f) 2 && !tuning) 0x04 0, checkIstore f,
    checkHandleTop f, checkHandleReserved f, checkAlign f, checkScratch f, checkGrant f, checkQueues f, checkSteer f,
    checkAlias f, checkShape f, checkCarried f, checkResident f, checkSlack f ring]

/-- Total segment bytes of a plan (R191). -/
def planBytes (f : List Byte) : Nat := total ((allStages f).map (·.segBytes))

end Sys2Proof.Machine
end

