-- ==== Sys2Proof/Machine/WorkState.lean ====
section
/-! DEFINITION. The state of the work of the module: strands (R140 to R176, R199 to R210, R460), the plan library
(R177 to R192), the vault (R285 to R317), the host link and its descriptors (R319 to R356, R600), shards (R379 to
R386) and the checking supervisor (R457 to R487). -/

namespace Sys2Proof.Machine

/-- A descriptor by channel and index. -/
abbrev JobId := Nat × Nat

/-! ### Strands -/

/-- What a strand is doing (R176). -/
inductive StrandPhase where
  | idle | priming | running | replacing | retired | joined | unlicensed
  deriving DecidableEq, Repr

/-- A strand. `reports` pairs a stage with the epoch it last reported; `halted` lists stages that executed HALT;
`primed` counts stages whose segment has matched; `again` is the stage whose segment is streamed once more and `streaming` the one under way; `resumes` counts resumes from the present checkpoint; `claimed`
is the channel that claims the strand, with the raw loads by slot; `next` is the job whose stages are primed behind the
halted stages of the present one (R200); `place` and `nextPlace` are PART and PASSAGE (R361); `resume` is STRAND.RESUME; `was` is what the strand did when a re-placement
began. `nextInterval`, `nextRing` and `nextReports` are INTERVAL, ring size and epoch reports of the waiting job (R147, R170,
R235); `fresh` says that the plan primed last has not ended a job yet (R205); `parked` lists the stages whose entries of
the set that ran last lie in handles 30 to 59 (R206). -/
structure Strand where
  phase : StrandPhase
  fused : Option Nat
  plan : Nat
  sec : Nat
  job : Option JobId
  shape : List Nat
  chunks : Nat
  epoch : Nat
  reports : List (Nat × Nat)
  halted : List Nat
  primed : Nat
  again : Option Nat
  resumes : Nat
  resA : Nat
  resB : Nat
  lastA : Bool
  claimed : Option Nat
  rawLoads : List (Nat × JobId)
  role : Nat
  group : Option Nat
  ring : Nat
  interval : Nat
  checkEpoch : Nat
  was : StrandPhase
  streaming : Option Nat
  next : Option JobId
  nextPlan : Nat
  nextShape : List Nat
  nextHalted : List Nat
  resume : Bool
  place : Nat × Nat
  nextPlace : Nat × Nat
  nextInterval : Nat
  nextRing : Nat
  nextReports : List (Nat × Nat)
  fresh : Bool
  parked : List Nat
  deriving DecidableEq, Repr

/-- A loaded plan (R177, R191, R471): the decrypted file, whether the far tier holds it, the slack it was given, and
whether it is shadowed no further. -/
structure Plan where
  num : Nat
  file : List Byte
  far : Bool
  gifts : List SlackGift
  unchecked : Bool
  deriving DecidableEq, Repr

/-! ### Vault -/

/-- A wrapped key and its place in the cache (R293, R296 to R299): the entry of the cache that holds it unwrapped, pins
held by jobs, and whether it has been removed while pinned. -/
structure VKey where
  id : Nat
  cls : Nat
  alg : Nat
  blob : List Byte
  cached : Bool
  pins : Nat
  slot : Nat
  removed : Bool
  deriving DecidableEq, Repr

/-- A licence in force (R313) with its SM3 digest. -/
structure Licence where
  serial : Nat
  digest : BitVec 256
  ports : Nat
  tuning : Bool
  raw : Nat
  strands : Nat
  deriving DecidableEq, Repr

/-- The vault: keys, most recently used first; by cache entry how often it was filled, and the thaws since the cold start,
which make up GEN (R298); the active and the pending fabric key as the fabric nodes hold them (R307); the seal counter and
the blocks reserved; M0 to M3; quotes waiting; licences stored and those of them that fail (R9); the clear-begun bit, the
last step of clearing done and what its read-back finds (R316); the instruction of the test port. -/
structure Vault where
  keys : List VKey
  fills : List (Nat × Nat)
  thawGen : Nat
  fabricActive : List Byte
  fabricPending : List Byte
  sealCtr : Nat
  sealBlock : Nat
  meas : List (BitVec 256)
  quotes : List (Bool × Nat × List Byte)
  quote : List Byte
  licences : List Licence
  licFails : List Nat
  clearBegun : Bool
  clearStep : Nat
  readBack : Bool
  testInstr : Nat
  pinsFromRegister : Bool
  boundary : Nat
  deriving DecidableEq, Repr

/-! ### Host link -/

/-- The answer to a descriptor before it is committed (R343): STATUS, MSTAT, output and its length, DETAIL and
counts. -/
structure Answer where
  status : Nat
  mstat : Nat
  out : List Byte
  outLen : Nat
  detail : Nat
  count0 : Nat
  count1 : Nat
  deriving DecidableEq, Repr

/-- What waits to be sealed into an envelope: KIND, OBJECT_REF and plaintext (R304). -/
structure SealItem where
  kind : Nat
  ref : Nat
  plain : List Byte
  deriving DecidableEq, Repr

/-- A search under way (R384, R385): K, CANDIDATES, the query vector, the listed shards not scanned yet, the results
kept so far (shard, entry number, score, and the entry's reference, part and passage) and the entries compared. -/
structure Query where
  k : Nat
  cands : Nat
  scale : Word
  elems : List Byte
  left : List Nat
  kept : List (Nat × Nat × Word × Nat × Nat × Nat)
  scanned : Nat
  deriving DecidableEq, Repr

/-- What an admitted service job or operation holds until it ends: its service, the plans it keeps by role (role 0 for a
plan the entry names), the keys pinned, its job number, the place and the bytes of the object buffer assigned to it, the strands that ran its
sequences, the roles whose plans ran, the sequences that ran, by role, part, passage and shape, the header of its input, segments of its input verified and their number, their plaintext, what is to be sealed, envelopes sealed,
the answer once all is sealed, its MSTAT flags, and its search. -/
structure JobHold where
  service : Nat
  plans : List (Nat × Nat)
  keys : List Nat
  number : Nat
  buf : Nat
  reserve : Nat
  strands : List Nat
  ran : List Nat
  seqs : List (Nat × Nat × Nat × List Nat)
  hdr : List Byte
  segs : Nat
  nsegs : Nat
  plain : List Byte
  toSeal : List SealItem
  envelopes : List Byte
  result : Option Answer
  mstat : BitVec 5
  query : Option Query
  deriving DecidableEq, Repr

/-- A descriptor fetched and not yet answered: its 64 bytes, the entry copy it is admitted under, whether it has waited for
a key, what it holds, its answer, and whether the hold of R348 lies on it and since when. -/
structure Desc where
  idx : Nat
  bytes : List Byte
  entry : List Byte
  keyWait : Bool
  hold : Option JobHold
  answer : Option Answer
  held : Bool
  since : Nat
  deriving DecidableEq, Repr

/-- A channel (R328, R335, R349): the four indices, STATE and ERROR, the cached entry, whether a valid entry was ever
read, descriptors in flight, indices to skip when fetched, abort results that wait for a slot, interrupts due, and by index DESC_ID plus 1 of descriptors answered. -/
structure Channel where
  dhead : BitVec 16
  ctail : BitVec 16
  cack : BitVec 16
  tail : BitVec 16
  error : Nat
  entry : Option (List Byte)
  seen : Bool
  phase : Bool
  fly : List Desc
  skip : List Nat
  aborts : List (List Byte)
  unsignalled : Nat
  firstAt : Nat
  claims : List Nat
  ids : List (Nat × Nat)
  deriving DecidableEq, Repr

/-- The host node (R322 to R328, R331, R354, R355). `lru` lists channels whose entry is cached, most recent first;
`waiting` holds what D3hot keeps from the link. -/
structure HostLink where
  base : BitVec 64
  count : Nat
  thaws : Nat
  lostPending : Bool
  msix : List (Nat × Nat)
  pba : BitVec 64
  d3 : Bool
  d3Since : Nat
  channels : List (Nat × Channel)
  lru : List Nat
  apertures : List (Nat × Byte)
  waiting : List Out
  jobs : Nat
  turn : Nat
  deriving DecidableEq, Repr

/-! ### Shards -/

/-- An entry of a shard (R379). -/
structure ShardEntry where
  ref : Nat
  part : Nat
  passage : Nat
  scale : Word
  modality : Nat
  elems : List Byte
  deriving DecidableEq, Repr

/-- An entry of the near-duplicate plane (R379). -/
structure DupEntry where
  ref : Nat
  sketch : List Byte
  deriving DecidableEq, Repr

/-- A shard (R379 to R383). `pending` holds appends whose completion is not committed; `searches` holds the
searches admitted, with the numbers of entries and of near-duplicate entries each sees; `made` says that an append has
been committed; a dropped shard lives on until its searches end. -/
structure Shard where
  num : Nat
  entries : List ShardEntry
  dups : List DupEntry
  pending : List (JobId × List ShardEntry × List DupEntry)
  searches : List (JobId × Nat × Nat)
  made : Bool
  dropped : Bool
  deriving DecidableEq, Repr

/-- Searches gathered for a shard (R386). -/
structure Batch where
  shard : Nat
  jobs : List JobId
  deriving DecidableEq, Repr

/-! ### Checking -/

/-- A suspect tile (R477 to R481): rung, when it last met a criterion, the times it lost a majority, its last
10,000 barrier completions (late or not, newest first), completions since lateness last moved it a rung, and the times
of its margin entries, and when such entries last moved it a rung. -/
structure Suspect where
  rung : Nat
  since : Nat
  losses : List Nat
  window : List Bool
  fresh : Nat
  margins : List Nat
  marginClimb : Option Nat
  deriving DecidableEq, Repr

/-- A dispute over a shadowed step (R468, R469): what ran the step, the two tiles and the third, the signatures, the job
with its shape, section, part and passage, and since when and why the working tile was a suspect before. -/
structure Dispute where
  strand : Nat
  plan : Nat
  stage : Nat
  chunk : Nat
  working : Nat
  shadow : Nat
  third : Option Nat
  sigW : BitVec 64
  sigS : BitVec 64
  job : Option JobId
  shape : List Nat
  sec : Nat
  place : Nat × Nat
  began : Nat
  prevSince : Nat
  prevCause : Nat
  prevHealth : Nat
  deriving DecidableEq, Repr

/-- A working tile that lost a majority (R471): plan, stage, tile, time, and its rung, tile_health and pace before. -/
structure PlanLoss where
  plan : Nat
  stage : Nat
  tile : Nat
  time : Nat
  rung : Nat
  health : Nat
  pace : Nat
  deriving DecidableEq, Repr

/-- A sequence that a retired strand gave up and that waits for another (R487): job, plan, shape, section, part
and passage. -/
structure Readmit where
  job : JobId
  plan : Nat
  shape : List Nat
  sec : Nat
  place : Nat × Nat
  deriving DecidableEq, Repr

/-- The checking supervisor: suspects by slot, disputes, majority losses by plan and stage (R471), and the last
arrivals of R479 by session, or 4 for epoch barriers, newest first; `fencing` lists fenced slots whose stage has not moved yet. `posted` holds
signatures that wait; `watch` the working tile, chunk and shadow tile of shadowed steps whose comparison waits. -/
structure Check where
  suspects : List (Nat × Suspect)
  disputes : List Dispute
  planLosses : List PlanLoss
  arrivals : List (Nat × List Nat)
  posted : List SigPost
  watch : List (Nat × Nat × Nat)
  epochs : Nat
  fencing : List Nat
  readmits : List Readmit
  skimPriority : List (Nat × Nat)
  deriving DecidableEq, Repr

/-- The self-test schedule (R494, R500, R501): targets tested in this rotation, when it began, the banks whose retest the
owner asked for, the tile that has each save slot, and by 26 × slot + target the time of the last pass. -/
structure SelfTest where
  tested : List (Nat × Nat)
  began : Nat
  restore : List (Nat × Nat)
  saveSlots : List (Nat × Nat)
  lastPass : List (Nat × Nat)
  deriving DecidableEq, Repr

/-! ### Values after reset -/

def Strand.reset : Strand :=
  ⟨.idle, none, 0, 0, none, [], 0, 0, [], [], 0, none, 0, 0, 0, true, none, [], 0, none, 1024, 16, 0, .idle, none, none, 0, [], [], false,
    (0, 0), (0, 0), 16, 1024, [], false, []⟩

/-- Log 10 (DESIGN CHOICE). -/
def Vault.reset : Vault := ⟨[], [], 0, [], [], 0, 0, List.replicate 8 0, [], [], [], [], false, 0, true, 0xFF, false, 0⟩

def Channel.reset : Channel := ⟨0, 0, 0, 0, 0, none, false, true, [], [], [], 0, 0, [], []⟩

/-- Log 4 (DESIGN CHOICE), 33 (DESIGN CHOICE). -/
def HostLink.reset : HostLink := ⟨0, 0, 0, false, [], 0, false, 0, [], [], [], [], 0, 0⟩

def Suspect.none : Suspect := ⟨0, 0, [], [], 0, [], Option.none⟩

def Check.reset : Check := ⟨[], [], [], [], [], [], 0, [], [], []⟩

def SelfTest.reset : SelfTest := ⟨[], 0, [], [], []⟩

end Sys2Proof.Machine
end

