-- ==== Sys2Proof/Machine/FabricState.lean ====
section
/-! DEFINITION. The state of the Wazel fabric (R394 to R429) and of the tuning sessions (R432 to R454). -/

namespace Sys2Proof.Machine

/-- A Wazel port (R396 to R398, R407): lanes up, the neighbour found, its packet counter (R306),
frames that failed in a row, faults found. -/
structure FPort where
  lit : Bool
  lanes : BitVec 4
  laneMap : BitVec 3
  neighbour : Option Neighbour
  counter : Nat
  failed : Nat
  miswired : Bool
  foreign : Bool
  late : Bool
  deriving DecidableEq, Repr

/-- Who a transfer belongs to: a tile's message or window write, a service core, a raw descriptor, a multicast, a tuning
session, or the close of a window. -/
inductive TOwner where
  | tile (t : Nat)
  | core (n : Nat)
  | raw (j : JobId)
  | mcast (i : Nat)
  | tune (s : Nat)
  | close (w : Nat)
  deriving DecidableEq, Repr

/-- A transfer that its source keeps until it is acknowledged (R413 to R418): the packets as sealed, USER_TAG, the
reply queue whose credit it holds, and whether it is held for an epoch swap. -/
structure Transfer where
  dst : BitVec 16
  flow : BitVec 16
  packets : List Packet
  owner : TOwner
  tag : Nat
  credit : Option (Nat × Nat × Nat)
  window : Option Nat
  sent : Bool
  deriving DecidableEq, Repr

/-- A flow at its destination (R415 to R417): next expected SEQ, highest SEQ acknowledged, packets held with a failed
window check in ARG, arrivals not yet acknowledged and NACKs sent for the present gap. -/
structure RFlow where
  src : BitVec 16
  flow : BitVec 16
  next : BitVec 16
  acked : BitVec 16
  held : List Packet
  unacked : Nat
  nacks : Nat
  deriving DecidableEq, Repr

/-- A window (R425 to R429). -/
structure Window where
  kind : Nat
  scope : Nat
  peer : Nat
  slot : Nat
  winslot : Nat
  base : Nat
  size : Nat
  state : Nat
  waitAck : List Nat
  acked : List Nat
  freedAt : Option Nat
  owner : Option JobId
  deriving DecidableEq, Repr

/-- A multicast under way (R421 to R424): ring, targets, what became of each, retries, and first and last SEQ of its last
sending; `credit` as in a message unit's entry. -/
structure Mcast where
  id : Nat
  hdr : Header
  tile : Nat
  xring : Bool
  targets : BitVec 64
  delivered : BitVec 64
  refused : BitVec 64
  missed : BitVec 64
  lost : BitVec 64
  retries : Nat
  firstCode : Nat
  payload : List Byte
  credit : Option Nat
  first : Nat
  last : Nat
  deriving DecidableEq, Repr

/-- Where the epoch barrier stands at this module (R412). -/
inductive EpochPhase where
  | none | prepared | ready
  deriving DecidableEq, Repr

/-- A WCLOSE received whose answer waits for this module's own writes, given by flow and first SEQ (R428 step 3). -/
structure PeerClose where
  owner : BitVec 16
  window : Nat
  waits : List (BitVec 16 × BitVec 16)
  deriving DecidableEq, Repr

structure Fabric where
  ports : List (Nat × FPort)
  active : Tables
  shadow : Option Tables
  known : BitVec 48
  dist : Nat
  parent : Option Nat
  epochPhase : EpochPhase
  requested : Bool
  readies : List (BitVec 48)
  reports : List (BitVec 48 × List Neighbour)
  children : List (BitVec 48)
  nextSeq : List (Nat × Nat)
  transfers : List Transfer
  flows : List RFlow
  windows : List (Nat × Window)
  mcasts : List Mcast
  nextMcast : Nat
  closes : List PeerClose
  plane : Bool
  rotate : Nat
  dateline : List (Nat × Bool)
  reorderUs : Nat
  shadowId : Nat
  deriving DecidableEq, Repr

/-- What a member's session is doing (R456). -/
inductive TuneState where
  | closed | opening | idle | stepping | orphaned
  deriving DecidableEq, Repr

/-- Progress of a bucket of the present attempt (R440 to R446): the member's own value, parts that arrived before it was
reported or before the sum they join is known, the X sum of its own segment by half, final sums of the parts of that
segment and of whole segments, decoded sparse contributions by rank, parts taken, the reduced bucket. -/
structure TuneBucket where
  sparse : Bool
  idx : Nat
  reported : Bool
  own : List Word
  held : List BucketPart
  xsums : List (Nat × List Word)
  subs : List (Nat × Nat × List Word)
  segs : List (Nat × Nat × List Word)
  ranks : List (Nat × List Word × BucketPart)
  seen : List (Nat × Nat × Nat × Nat × Nat)
  sum : List Word
  applied : Bool
  deriving DecidableEq, Repr

/-- A tuning session (R432 to R454). Committed and next arrays are lists of FP32 words; `done` holds the STEP_DONE of
members with their CRCs; `outcomes` the last two steps at rank 0 (1 committed, 2 failed with the missing rank); `coord` says that
rank 0 coordinates a step; `wBase`, `gBase`, `rBase` and `bBase` are the places of W, G, the report block and the bucket buffers. -/
structure Tune where
  state : TuneState
  members : List Nat
  xLen : Nat
  yLen : Nat
  denseEvery : Nat
  bucketBytes : Nat
  repeatLimit : Nat
  reportBytes : Nat
  deadlineUs : Nat
  denseElems : Nat
  sparseElems : Nat
  lr : Word
  momentum : Word
  decay : Word
  rank : Nat
  digest : BitVec 256
  digests : List (Nat × BitVec 256)
  reserve : Nat
  window : Option Nat
  w : List Word
  v : List Word
  a : List Word
  e : List Word
  wn : List Word
  vn : List Word
  an : List Word
  en : List Word
  wBase : Word
  gBase : Word
  rBase : Word
  bBase : Word
  buckets : List TuneBucket
  committed : Nat
  attempt : Nat
  repeats : Nat
  startedAt : Nat
  sentDone : Bool
  zeroShape : Bool
  done : List (Nat × List (BitVec 64))
  retracted : List Nat
  outcomes : List (Nat × Nat × Nat)
  coord : Bool
  job : Option JobId
  openJob : Option JobId
  suppressed : Bool
  deriving DecidableEq, Repr

def FPort.dark : FPort := ⟨false, 0, 0, none, 0, 0, false, false, false⟩

def Window.closed : Window := ⟨0, 0, 0, 0, 0, 0, 0, 0, [], [], none, none⟩

def Tables.empty : Tables := ⟨[], 0, []⟩

/-- Log 30 (DESIGN CHOICE). -/
def Fabric.reset : Fabric :=
  ⟨[], Tables.empty, none, Config.serial, 0, none, .none, false, [], [], [], [], [], [], [], [], 0, [], false, 0, [], 20, 0⟩

def Tune.closed : Tune :=
  { state := .closed
    members := []
    xLen := 0
    yLen := 0
    denseEvery := 1
    bucketBytes := 0
    repeatLimit := 0
    reportBytes := 0
    deadlineUs := 0
    denseElems := 0
    sparseElems := 0
    lr := 0
    momentum := 0
    decay := 0
    rank := 0
    digest := 0
    digests := []
    reserve := 0
    window := none
    w := []
    v := []
    a := []
    e := []
    wn := []
    vn := []
    an := []
    en := []
    wBase := 0
    gBase := 0
    rBase := 0
    bBase := 0
    buckets := []
    committed := 0
    attempt := 1
    repeats := 0
    startedAt := 0
    sentDone := false
    zeroShape := false
    done := []
    retracted := []
    outcomes := []
    coord := false
    job := none
    openJob := none
    suppressed := false }

end Sys2Proof.Machine
end

