-- ==== Sys2Proof/Machine/State.lean ====
section
/-! DEFINITION. The state of the module, the reasons a step can stop, and the state after reset: the module after
power good, before the first step of the boot sequence (R510, R522). -/

namespace Sys2Proof.Machine

/-- The state of the module. `freeCount` and `pending` are the model's own: the first numbers the free values drawn,
the second is the queue of commands. -/
structure State where
  /-- The time base in nanoseconds (R52). -/
  timeBase : Nat
  freeCount : Nat
  /-- Tiles by slot (R258). -/
  tiles : List (Nat × Tile)
  /-- Scalar entries of the parameter dictionary by key (R531). -/
  dict : List (Nat × Nat)
  /-- Entries of type OCTET and DOMAIN by key (R532). -/
  octets : List (Nat × List Byte)
  /-- The repair map, the boot node's copy (R521), by slot. -/
  repair : List (Nat × Word)
  /-- The spare slot of each half-row, by strand (R141, R142). -/
  spares : List (Nat × Nat)
  out : List Out
  net : Net
  mem : Mem
  power : Power
  boot : BootPhase
  flash : Flash
  mgmt : Mgmt
  recorder : Recorder
  front : Front
  strands : List (Nat × Strand)
  plans : List Plan
  vault : Vault
  host : HostLink
  shards : List Shard
  batches : List Batch
  check : Check
  selftest : SelfTest
  fabric : Fabric
  tunes : List (Nat × Tune)
  /-- Commands that wait, first in, first out. -/
  pending : List Instr
  deriving DecidableEq, Repr

/-- No command of this block ends in a fault: what the spec calls a fault of a tile or a refusal of a request is an
effect on the state. The type has one constructor, which nothing raises. -/
inductive Fault where
  /-- Raised by nothing; safe. -/
  | unreachable
  deriving DecidableEq, Repr

/-- Refusals. -/
inductive Refusal where
  /-- Raised by an arm of exec whose command has no meaning yet; safe. -/
  | notModelled (mnemonic : String)
  deriving DecidableEq, Repr

/-- The spare slot of a half-row at shipment: the outermost position (R142). -/
def outerSlot (st : Nat) : Nat := if st % 2 = 0 then 26 * (st / 2) else 26 * (st / 2) + 25

/-- The repair word of a slot that works (R521). -/
def repairGood : Word := 0x01FFFFFF

/-- The module after power good. Log 2 (DESIGN CHOICE), 3 (DESIGN CHOICE), 9 (DESIGN CHOICE). -/
def State.reset : State :=
  { timeBase := 0
    freeCount := 0
    tiles := []
    dict := []
    octets := []
    repair := []
    spares := []
    out := []
    net := Net.reset
    mem := { Mem.reset with keyPresent := false }
    power := Power.reset
    boot := .booting
    flash := Flash.reset
    mgmt := Mgmt.reset
    recorder := Recorder.reset
    front := Front.reset
    strands := []
    plans := []
    vault := Vault.reset
    host := HostLink.reset
    shards := []
    batches := []
    check := Check.reset
    selftest := SelfTest.reset
    fabric := Fabric.reset
    tunes := []
    pending := [] }

end Sys2Proof.Machine
end

