-- ==== Sys2Proof/Machine/Ops.lean ====
section
/-! DEFINITION. Named operations over the state: tiles, dictionary entries and counters, free values, what goes out,
module memory (R253, R265, R270), the places of strands and stages (R140 to R148, R258 to R261), the recorder's
records (R558, R559, R564, R565) and notifications (R549 to R552). -/

namespace Sys2Proof.Machine

/-! ### Tiles -/

/-- The tile in slot `t`. -/
def State.tile (s : State) (t : Nat) : Tile := look (fun _ => Tile.reset) s.tiles t

def State.setTile (s : State) (t : Nat) (v : Tile) : State :=
  { s with tiles := put (fun _ => Tile.reset) s.tiles t v }

/-- Change one tile. -/
def State.onTile (s : State) (t : Nat) (f : Tile → Tile) : State := s.setTile t (f (s.tile t))

/-- Change several tiles alike. -/
def State.onTiles (s : State) (ts : List Nat) (f : Tile → Tile) : State := ts.foldl (fun s t => s.onTile t f) s

/-- Every slot of the die. -/
def allSlots : List Nat := List.range 624

/-! ### Dictionary -/

/-- The value held for a scalar entry. -/
def State.get (s : State) (k : Nat) : Nat := look dflt s.dict k

def State.set (s : State) (k v : Nat) : State := { s with dict := put dflt s.dict k v }

/-- The octets held for an entry of type OCTET or DOMAIN. -/
def State.octet (s : State) (k : Nat) : List Byte := look (fun _ => []) s.octets k

def State.setOctet (s : State) (k : Nat) (v : List Byte) : State :=
  { s with octets := put (fun _ => []) s.octets k v }

/-- Bits of the entry of a key. -/
def keyBits (k : Nat) : Nat := 8 * (((entryAt (k / 256) (k % 256)).map fun e => e.typ.size).getD 4)

/-- A counter goes up by `n`. Past the top of its type the spec states no value. Log 66 (DEDUCED). -/
def State.bump (s : State) (k n : Nat) : State :=
  let v := s.get k + n
  s.set k (if v < 2 ^ keyBits k then v else Config.counterOverflow k (s.get k))

/-- A maximum kept in an entry. -/
def State.peak (s : State) (k v : Nat) : State := if s.get k < v then s.set k v else s

/-! ### Free values, output -/

/-- The number of the next free value; the state counts it as drawn. Log 3 (DESIGN CHOICE). -/
def State.draw (s : State) : Nat × State := (s.freeCount, { s with freeCount := s.freeCount + 1 })

/-- One of a list, where the spec leaves the choice to the module: `id` names the kind of choice.
Log 3 (DESIGN CHOICE), 67 (DESIGN CHOICE). -/
def State.pick (s : State) (id : Nat) (l : List Nat) : Option (Nat × State) :=
  if l.isEmpty then none
  else
    let (n, s) := s.draw
    some (l.getD (Config.choice id n % l.length) 0, s)

def State.emit (s : State) (o : Out) : State := { s with out := s.out ++ [o] }

/-- What goes to the host over PCIe waits while the function is in D3hot (R321). -/
def State.toHost (s : State) (o : Out) : State :=
  if s.host.d3 then { s with host := { s.host with waiting := s.host.waiting ++ [o] } } else s.emit o

/-- READY of DEVSTAT: the boot sequence has ended and no thaw runs. -/
def State.ready (s : State) : Bool := s.boot = .ready

/-! ### Memory -/

/-- An unlisted byte of module memory reads 0: both tiers are zeroed under a new key (R265). Log 4 (DESIGN CHOICE). -/
def memDflt : Nat → Byte := fun _ => 0

/-- The canonical form of a memory. -/
abbrev Memory.wf (l : List (Nat × Byte)) : Prop := canon memDflt l

def State.memByte (s : State) (a : Nat) : Byte := look memDflt s.mem.cells a

/-- `n` bytes of module memory from address `a`. -/
def State.memRead (s : State) (a n : Nat) : List Byte := (List.range n).map fun i => s.memByte (a + i)

/-- Write bytes into cells from address `a` upward. -/
def cellsWrite : List (Nat × Byte) → Nat → List Byte → List (Nat × Byte)
  | c, _, [] => c
  | c, a, b :: l => cellsWrite (put memDflt c a b) (a + 1) l

/-- The line is not poisoned, or is made so. -/
def State.poisoned (s : State) (line : Nat) : Bool := look (fun _ => false) s.mem.poison line

def State.setPoison (s : State) (line : Nat) (v : Bool) : State :=
  { s with mem := { s.mem with poison := put (fun _ => false) s.mem.poison line v } }

/-- Bytes stored in module memory; a line written whole loses its poison mark (R266). -/
def State.memWrite (s : State) (a : Nat) (bs : List Byte) : State :=
  let s := { s with mem := { s.mem with cells := cellsWrite s.mem.cells a bs } }
  (List.range (bs.length / 64)).foldl (fun s i =>
    if a % 64 = 0 then s.setPoison (a / 64 + i) false else s) s

/-- The numbers of `k` free values. Log 3 (DESIGN CHOICE). -/
def State.drawMany (s : State) (k : Nat) : Nat × State := (s.freeCount, { s with freeCount := s.freeCount + k })

/-- `k` free bytes. Log 59 (DESIGN CHOICE). -/
def State.freeBytes (s : State) (k : Nat) : List Byte × State :=
  let (n, s) := s.drawMany k
  ((List.range k).map fun i => Config.freeByte (n + i), s)

/-- Bytes written from the start of a line by whole lines: what the last one holds beyond them is not stated (R254).
Log 142 (DESIGN CHOICE). -/
def State.writeLines (s : State) (a : Nat) (bs : List Byte) : State :=
  let (p, s) := s.freeBytes (roundUp bs.length 64 - bs.length)
  s.memWrite a (bs ++ p)

/-! ### Where strands lie (R140 to R148) -/

/-- Slot i of a half-row counted outward from position 14. -/
def hslot (st i : Nat) : Nat := if st % 2 = 0 then 26 * (st / 2) + (12 - i) else 26 * (st / 2) + 13 + i

/-- The half-row of a slot, as the number of its strand. -/
def halfRow (t : Nat) : Nat := 2 * (t / 26) + (if t % 26 < 13 then 0 else 1)

/-- A repair word (R521). -/
def State.repairWord (s : State) (t : Nat) : Word := look (fun _ => repairGood) s.repair t

def State.setRepair (s : State) (t : Nat) (w : Word) : State :=
  { s with repair := put (fun _ => repairGood) s.repair t w }

def State.slotEnabled (s : State) (t : Nat) : Bool := bit (s.repairWord t).toNat 24
def State.slotFrost (s : State) (t : Nat) : Bool := bit (s.repairWord t).toNat 25

/-- The spare slot of a half-row and whether it is usable (R142). -/
def State.spareSlot (s : State) (st : Nat) : Nat := look outerSlot s.spares st

def State.setSpare (s : State) (st t : Nat) : State := { s with spares := put outerSlot s.spares st t }

def State.spareUsable (s : State) (st : Nat) : Bool :=
  let t := s.spareSlot st
  s.slotEnabled t && !s.slotFrost t

/-- The slots of a half-row that carry stages, counted outward (R141). A fenced slot keeps its stage until the
re-placement moves it. -/
def State.halfSlots (s : State) (st : Nat) : List Nat :=
  ((List.range 13).map (hslot st)).filter fun t =>
    t ≠ s.spareSlot st && s.slotEnabled t && (!s.slotFrost t || s.check.fencing.contains t)

def State.strand (s : State) (st : Nat) : Strand := look (fun _ => Strand.reset) s.strands st

def State.setStrand (s : State) (st : Nat) (v : Strand) : State :=
  { s with strands := put (fun _ => Strand.reset) s.strands st v }

def State.onStrand (s : State) (st : Nat) (f : Strand → Strand) : State := s.setStrand st (f (s.strand st))

/-- The slots of a strand in stage order; a fused strand runs from the outer west end to the outer east end (R148). -/
def State.stageSlots (s : State) (st : Nat) : List Nat :=
  match (s.strand st).fused with
  | none => s.halfSlots st
  | some o =>
    let w := if st % 2 = 0 then st else o
    (s.halfSlots w).reverse ++ s.halfSlots (w + 1)

/-- The slot of stage `k`. -/
def State.stageSlot (s : State) (st k : Nat) : Option Nat := (s.stageSlots st)[k]?

/-- The strand that a slot belongs to: the even strand of a fused pair. -/
def State.strandOf (s : State) (t : Nat) : Nat :=
  let h := halfRow t
  if (s.strand h).fused.isSome then h / 2 * 2 else h

/-- The stage a slot carries. -/
def State.stageAt (s : State) (t : Nat) : Option Nat := (s.stageSlots (s.strandOf t)).findIdx? (· = t)

/-- Every slot of the half-rows of a strand, the spare slots too. -/
def State.strandAll (s : State) (st : Nat) : List Nat :=
  let own := (List.range 13).map (hslot st)
  match (s.strand st).fused with
  | none => own
  | some o => own ++ (List.range 13).map (hslot o)

/-! ### Plans -/

def State.plan (s : State) (n : Nat) : Option Plan := s.plans.find? fun p => p.num = n

/-- The file of the plan a strand runs; empty where it runs none. -/
def State.planFile (s : State) (n : Nat) : List Byte := ((s.plan n).map (·.file)).getD []

/-! ### Host channels and descriptors -/

def State.chan (s : State) (c : Nat) : Channel := look (fun _ => Channel.reset) s.host.channels c

def State.setChan (s : State) (c : Nat) (v : Channel) : State :=
  { s with host := { s.host with channels := put (fun _ => Channel.reset) s.host.channels c v } }

def State.onChan (s : State) (c : Nat) (f : Channel → Channel) : State := s.setChan c (f (s.chan c))

/-- A descriptor in flight. -/
def State.desc (s : State) (j : JobId) : Option Desc := (s.chan j.1).fly.find? fun d => d.idx = j.2

/-- Change a descriptor in flight. -/
def State.onDesc (s : State) (j : JobId) (f : Desc → Desc) : State :=
  s.onChan j.1 fun c => { c with fly := c.fly.map fun d => if d.idx = j.2 then f d else d }

/-- TYPE, SERVICE and other fields of an entry (R329), OP of a descriptor (R338). -/
def entryType (e : List Byte) : Nat := leAt e 0 1
def descOp (d : List Byte) : Nat := leAt d 0 1

/-- A service job: a descriptor of a channel of TYPE 1 (R359). -/
def Desc.service (d : Desc) : Bool := entryType d.entry = 1

/-- A strand runs a service job (R473). -/
def State.runsService (s : State) (st : Nat) : Bool :=
  match (s.strand st).job with
  | some j => ((s.desc j).map Desc.service).getD false
  | none => false

/-! ### Whose work a stage does -/

/-- The job a stage works for: the next one once its stage of the present one has halted (R200). -/
def Strand.ownerOf (v : Strand) (k : Nat) : Option JobId :=
  if v.next.isSome && v.halted.contains k then v.next else v.job

/-- Plan and section of a stage. -/
def Strand.planOf (v : Strand) (k : Nat) : Nat × Nat :=
  if v.next.isSome && v.halted.contains k then (v.nextPlan, 0) else (v.plan, v.sec)

/-! ### Memory granted to a strand (R260, R261) -/

def nearGrant (st : Nat) : Nat := 0x05C0000000 + st * 0x40000000
def farGrant (st : Nat) : Nat := 0x5800000000 + st * 0x200000000

/-- Checkpoint slot k of a strand (R259). -/
def ckptSlot (st k : Nat) : Nat := 0x0440000000 + st * 0x1800000 + k * 0xC00000

/-- The object buffers, of which a job is granted its part (R257, R261). Log 75 (DEDUCED). -/
def objectBuffers : Range := (0x4000000000, 0x1800000000)

/-- The object buffers assigned to a job. -/
def State.jobBuffers (s : State) (j : Option JobId) : List Range :=
  match ((j.bind s.desc).bind (·.hold)) with
  | some h => [(h.buf, h.reserve)]
  | none => []

/-- The memory granted to the tile in a slot, checkpoint slots apart: the strand's near and far grants up to the plan's
own, all of them where a raw channel claims the strand, and the buffers of the stage's job. -/
def State.grants (s : State) (t : Nat) : List Range :=
  let st := s.strandOf t
  let v := s.strand st
  let k := (s.stageAt t).getD 0
  let f := s.planFile (v.planOf k).1
  let raw := v.claimed.isSome && v.job.isNone && v.role = 0
  let near := if raw then 0x40000000 else planNearGrant f * 256
  let far := if raw then 0x200000000 else planFarGrant f * 256
  [(nearGrant st, near), (farGrant st, far)] ++ s.jobBuffers (v.ownerOf k)

/-- A tile's part of the two checkpoint slots (R169). -/
def State.ckptRanges (s : State) (t : Nat) : List Range :=
  let st := s.strandOf t
  let k := (s.stageAt t).getD 0
  (List.range 2).map fun n =>
    if (s.strand st).fused.isSome ∧ 12 ≤ k then (ckptSlot (st + 1) n + (k - 12) * 0x100000, 0x100000)
    else (ckptSlot st n + k * 0x100000, 0x100000)

/-- What the tile in a slot sees of the die while it issues. -/
def State.ctx (s : State) (t : Nat) : Ctx :=
  { slot := t
    now := s.timeBase
    limitUs := s.get K.scoreboardWaitLimit
    grants := s.grants t
    ckpt := s.ckptRanges t
    flags := s.net.flags
    counts := s.net.counts
    pclass := s.get K.priorityClassState
    service := s.runsService (s.strandOf t)
    sendLimitUs := s.get K.sendStallLimit }

/-! ### Calendar time (R554) -/

/-- TAI nanoseconds at a time of the time base; 0 where PTP has never locked. -/
def State.calendarAt (s : State) (t : Nat) : Nat :=
  let p := s.mgmt.ptp
  if p.isSet then
    let d : Int := (t : Int) - p.anchor
    (p.atAnchor + d + d * p.rate / 1000000000).toNat % 2 ^ 64
  else 0

/-- TAI nanoseconds now. -/
def State.calendar (s : State) : Nat := s.calendarAt s.timeBase

/-! ### Records (R558 to R560, R564, R565) -/

/-- Stamp and FLAGS of a record of a time, RSEQ apart. -/
def State.stampAt (s : State) (t : Nat) : Nat × Nat :=
  if s.mgmt.ptp.isSet then (s.calendarAt t, 0) else (t, 2)

/-- Stamp and FLAGS of a record made now. -/
def State.stamp (s : State) : Nat × Nat := s.stampAt s.timeBase

/-- The 64 bytes of a record. -/
def recordBytes (k12 : Bool) (rseq rtype stamp flags : Nat) (payload : List Byte) : List Byte :=
  let st := if k12 then leBytes 4 rseq ++ zeros 4 else leBytes 8 stamp
  let body := st ++ leBytes 4 rseq ++ leBytes 2 rtype ++ [BitVec.ofNat 8 (flags + b2n k12)] ++ [0] ++ padTo 44 payload
  body ++ leBytes 4 (crc32c body).toNat

/-- Records of interval ends may be dropped; others never are. -/
def droppable (r : List Byte) : Bool := [1, 2, 4].contains (leAt r 12 2)

/-- Drop the oldest droppable record of the buffer. -/
def dropOldest : List (List Byte) → List (List Byte) × Option Nat
  | [] => ([], none)
  | r :: l =>
    if droppable r then (l, some (leAt r 8 4))
    else
      let (m, d) := dropOldest l
      (r :: m, d)

/-- Put a record into the buffer for flash, which holds 16,384. -/
def Recorder.enqueue (r : Recorder) (b : List Byte) : Recorder :=
  if r.buffer.length < 16384 then { r with buffer := r.buffer ++ [b] }
  else
    match dropOldest r.buffer with
    | (_, none) => { r with buffer := r.buffer ++ [b] }
    | (l, some n) =>
      { r with
        buffer := l ++ [b]
        dropped := r.dropped + 1
        firstDropped := if r.dropped = 0 then n else r.firstDropped }

/-- Write a record with the next RSEQ: into the far ring at once, into the flash buffer. -/
def State.writeRecord (s : State) (rtype stamp flags : Nat) (payload : List Byte) : State :=
  let r := s.recorder
  let b := recordBytes (s.get K.recorderK12Mode = 1) r.next rtype stamp flags payload
  let r1 := { r with
    next := r.next + 1
    far := put (fun _ => []) r.far (r.next % 2 ^ 26) b }
  let r2 := r1.enqueue b
  let s := { s with recorder := r2 }
  if r.dropped < r2.dropped then s.bump K.recorderGaps 1 else s

/-- Make a record now; while a clear runs it waits behind the CLEARED record (R568). -/
def State.record (s : State) (rtype : Nat) (payload : List Byte) : State :=
  let (st, fl) := s.stamp
  if s.recorder.clearing ≠ 0 then
    { s with recorder := { s.recorder with behind := s.recorder.behind ++ [(rtype, st, fl, payload)] } }
  else s.writeRecord rtype st fl payload

/-! ### Notifications and alarms (R549 to R552, R591) -/

/-- The codes of kind alarm. -/
def isAlarm (code : Nat) : Bool :=
  [0x02, 0x03, 0x04, 0x05, 0x06, 0x07, 0x12, 0x13, 0x14, 0x22, 0x23, 0x24, 0x25, 0x31, 0x40, 0x41, 0x42, 0x44,
   0x46, 0x47, 0x48, 0x51, 0x52, 0x60, 0x61, 0x62, 0x63, 0x74, 0x77, 0x78, 0x79, 0x7A, 0x7B].contains code

/-- The payload of a NOTIFY datagram (R549). Log 64 (DEDUCED). -/
def Note.bytes (n : Note) : List Byte :=
  leBytes 2 n.code ++ [if n.alarm then 1 else 2] ++ leBytes 1 n.sends ++ leBytes 4 n.nseq ++ leBytes 8 n.time
    ++ leBytes 8 n.cal ++ leBytes 2 n.supp ++ zeros 6 ++ padTo 32 n.arg

/-- Messages sent in the present second of the time base. -/
def State.sentNow (s : State) : Nat := if s.mgmt.second = s.timeBase / 1000000000 then s.mgmt.sentInSecond else 0

/-- Send a message to every destination set, as transmission `sends`. -/
def State.transmit (s : State) (n : Note) : State :=
  let n := { n with sends := n.sends + 1 }
  let m := { s.mgmt with second := s.timeBase / 1000000000, sentInSecond := s.sentNow + 1 }
  let m := if n.alarm then { m with unacked := m.unacked.filter (fun u => u.nseq ≠ n.nseq) ++ [n] } else m
  let s := { s with mgmt := m }
  (List.range 4).foldl (fun s i =>
    let d := s.get (K.notifyDest (i + 1))
    if d = 0 then s else s.emit (.notify d n.bytes)) s

/-- Drop the oldest notification, or the oldest alarm, of a full queue (R551). -/
def dropNote (q : List Note) : List Note :=
  match q.find? fun n => !n.alarm with
  | some n => q.filter fun m => m.nseq ≠ n.nseq
  | none => q.drop 1

/-- Send a message, or queue it while the M-port link is down. -/
def State.post (s : State) (n : Note) : State :=
  if s.get K.mportLink = 1 then s.transmit n
  else
    let q := s.mgmt.queue
    if q.length < 256 then { s with mgmt := { s.mgmt with queue := q ++ [n] } }
    else ({ s with mgmt := { s.mgmt with queue := dropNote q ++ [n] } } : State).bump K.notifyDropped 1

def State.bucket (s : State) (code : Nat) : Bucket := look (fun _ => Bucket.full) s.mgmt.buckets code

def State.setBucket (s : State) (code : Nat) (b : Bucket) : State :=
  { s with mgmt := { s.mgmt with buckets := put (fun _ => Bucket.full) s.mgmt.buckets code b } }

/-- Give a message the next NSEQ. Log 56 (DEDUCED). -/
def State.nextNseq (s : State) : Nat × State :=
  let n := s.mgmt.nseq + 1
  (n, ({ s with mgmt := { s.mgmt with nseq := n } } : State).set K.notifySeq (n % 2 ^ 32))

/-- The ALARM record of an alarm event (R560). -/
def State.alarmRecord (s : State) (code nseq : Nat) (sent : Bool) (arg : List Byte) : State :=
  s.record 3 (leBytes 2 code ++ [if sent then 1 else 0] ++ [0] ++ leBytes 4 nseq ++ zeros 4 ++ padTo 32 arg)

/-- Count a notification event for the NOTICES records (R560). -/
def State.noticed (s : State) (code : Nat) : State :=
  let r := s.recorder
  { s with recorder := { r with notices := put (fun _ => 0) r.notices code (look (fun _ => 0) r.notices code + 1) } }

/-- notify_mask stops notifications, never alarms (R551). -/
def State.masked (s : State) (code : Nat) : Bool :=
  !isAlarm code && bit (leNat (s.octet K.notifyMask)) code

/-- An event of a code with its ARG (R549 to R551). Log 64 (DEDUCED). -/
def State.raise (s : State) (code : Nat) (arg : List Byte) : State :=
  let al := isAlarm code
  let s := if al then s else s.noticed code
  if s.masked code then s
  else
    let b := s.bucket code
    if b.spent < s.get K.notifyBurst && s.sentNow < 64 then
      let s := s.setBucket code { b with spent := b.spent + 1 }
      let (n, s) := s.nextNseq
      let s := s.post ⟨code, al, 0, n, s.timeBase, s.calendar, 0, arg⟩
      if al then s.alarmRecord code n true arg else s
    else
      let b' := if b.supp = 0 then { b with supp := 1, time := s.timeBase, cal := s.calendar, arg := arg }
        else { b with supp := b.supp + 1 }
      let s := (s.setBucket code b').bump K.notifySuppressed 1
      if al then s.alarmRecord code 0 false arg else s

/-- Row and position of a slot, packed as the manual packs them. -/
def tileCode (t : Nat) : Nat := rowOf t + 32 * posOf t

/-- The slot named by [4:0] row and [9:5] position. -/
def slotOfCode (v : Nat) : Option Nat := slotOf (bits v 0 5) (bits v 5 5)

end Sys2Proof.Machine
end

