-- ==== Sys2Proof/Machine/Operands.lean ====
section
/-! DEFINITION. Operands as commands carry them: fields of channel entries (R329), of descriptors (R338) and their
ARGS (R353, R360, R370, R377, R381, R388, R426, R433), of sealed headers (R300, R304) and of dictionary requests
(R540). -/

namespace Sys2Proof.Machine

/-! ### Channel entries (R329) -/

def entService (e : List Byte) : Nat := leAt e 1 1
def entPlan (e : List Byte) : Nat := leAt e 2 2
def entDShift (e : List Byte) : Nat := leAt e 4 1
def entCShift (e : List Byte) : Nat := leAt e 5 1
def entVector (e : List Byte) : Nat := leAt e 6 1
def entPriority (e : List Byte) : Nat := leAt e 7 1
def entDBase (e : List Byte) : Nat := leAt e 8 8
def entCBase (e : List Byte) : Nat := leAt e 16 8
def entIndexKey (e : List Byte) : Nat := leAt e 24 8
def entVolumeKey (e : List Byte) : Nat := leAt e 32 8
def entCoalCount (e : List Byte) : Nat := if leAt e 40 2 = 0 then 1 else leAt e 40 2
def entCoalUs (e : List Byte) : Nat := leAt e 42 2
def entMaxFly (e : List Byte) : Nat := leAt e 44 2
def entRawStrands (e : List Byte) : List Nat := (List.range 48).filter fun i => bit (leAt e 48 6) i
def entRawOps (e : List Byte) : Nat := leAt e 54 1
def entRawSlot (e : List Byte) : Nat := leAt e 55 1

/-- An entry that R330 accepts. -/
def entryValid (e : List Byte) : Bool :=
  let ty := entryType e
  leAt e 124 4 = (crc32c (slice e 0 124)).toNat && leAt e 46 2 = 0 && leNat (slice e 56 68) = 0 && ty ≤ 3 &&
    (if ty = 0 then true
     else
       (if ty = 1 then 1 ≤ entService e && entService e ≤ 7 else entService e = 0) &&
       6 ≤ entDShift e && entDShift e ≤ 16 && 6 ≤ entCShift e && entCShift e ≤ 16 &&
       ((1 ≤ entVector e && entVector e ≤ 63) || entVector e = 0xFF) && entPriority e ≤ 3 &&
       1 ≤ entMaxFly e && entMaxFly e ≤ 1024 && entDBase e % 4096 = 0 && entCBase e % 4096 = 0 &&
       (if ty = 3 then entVolumeKey e ≠ 0 else entIndexKey e ≠ 0))

/-- Descriptors and records that the rings hold (R335). -/
def ringD (e : List Byte) : Nat := min (2 ^ entDShift e) 65535
def ringC (e : List Byte) : Nat := min (2 ^ entCShift e) 65535

/-! ### Descriptors (R338) -/

def descIrq (d : List Byte) : Bool := bit (leAt d 1 1) 0
def descOrdered (d : List Byte) : Bool := bit (leAt d 1 1) 1
def descAperture (d : List Byte) : Bool := bit (leAt d 1 1) 2
def descId (d : List Byte) : Nat := leAt d 2 2
def descRef (d : List Byte) : Nat := leAt d 8 8
def descIn (d : List Byte) : Nat := leAt d 16 8
def descInLen (d : List Byte) : Nat := leAt d 24 8
def descOut (d : List Byte) : Nat := leAt d 32 8
def descOutCap (d : List Byte) : Nat := leAt d 40 8
/-- The 16 bytes of ARGS. -/
def descArgs (d : List Byte) : List Byte := slice d 48 16
/-- `n` bytes of ARGS from byte `o`. -/
def arg (d : List Byte) (o n : Nat) : Nat := leAt d (48 + o) n

/-- The reserved bytes of the ARGS of a raw operation are zero (R353, R426). -/
def rawArgsOk (d : List Byte) : Bool :=
  match descOp d with
  | 0x20 => arg d 0 2 < 1024 && arg d 2 14 = 0
  | 0x21 => arg d 8 1 < 4 && arg d 9 7 = 0
  | 0x22 => arg d 6 2 = 0
  | 0x23 => arg d 2 14 = 0
  | 0x24 => arg d 2 2 = 0 && arg d 12 4 = 0
  | 0x25 => arg d 2 2 = 0 && arg d 8 8 = 0
  | 0x26 => arg d 2 2 < 1024 && arg d 4 1 < 4 && arg d 5 11 = 0
  | _ => true

/-- Check 1 of R339, DESC_FORMAT. -/
def descFormatOk (ty : Nat) (d : List Byte) : Bool :=
  let op := descOp d
  (match ty with
   | 1 => op = 0
   | 2 => 0x20 ≤ op && op ≤ 0x26
   | 3 => 0x10 ≤ op && op ≤ 0x14
   | _ => false)
    && leAt d 1 1 / 8 = 0 && leAt d 4 4 = 0 && descOut d % 64 = 0
    && !(descOut d = 0 && descOutCap d ≠ 0)
    && !(descIn d = 0 && descInLen d ≠ 0 && !descAperture d)
    && (!descAperture d || (ty = 2 && descIn d + descInLen d ≤ 0x10000000))
    && (ty ≠ 2 || rawArgsOk d)

/-! ### Dictionary requests -/

/-- The number a request's payload holds. -/
def BjReq.value (r : BjReq) : Nat := leNat r.payload

/-- The entry a request names. -/
def BjReq.key (r : BjReq) : Nat := r.index.toNat * 256 + r.sub.toNat

end Sys2Proof.Machine
end

