-- ==== Sys2Proof/Machine/Flags.lean ====
section
/-! DEFINITION. Status words as their readers see them: DEVSTAT and CHSTAT (R325, R328), DETAIL of a tile fault (R458),
and the states derived from more than one field (R571, R576). -/

namespace Sys2Proof.Machine

/-- QUIESCE_REQ and QUIESCED (R325, R577). -/
def State.quiesceReq (s : State) : Bool := s.front.quiesce ≠ .none
def State.quiesced (s : State) : Bool := s.front.quiesce = .quiesced

/-- DEVSTAT (R325). -/
def State.devstat (s : State) : Nat :=
  b2n s.ready + 2 * b2n (s.boot = .thawing) + 4 * b2n s.quiesceReq + 8 * b2n s.quiesced
    + 16 * b2n s.host.lostPending + fld s.host.thaws 16 16

/-- STATE of a channel (R328). -/
def Channel.state (c : Channel) : Nat := if c.error ≠ 0 then 2 else if c.fly.isEmpty then 0 else 1

/-- CHSTAT, two words (R328). -/
def Channel.stat (c : Channel) : Nat × Nat :=
  (c.dhead.toNat + fld c.ctail.toNat 16 16, c.state + fld c.error 8 8 + fld c.fly.length 16 11)

/-- CODE of a fault (R458). -/
def FaultCode.code : FaultCode → Nat
  | .illegalInstruction => 0x01
  | .addressFault => 0x02
  | .alignFault => 0x03
  | .msgLength => 0x04
  | .mmbFormat => 0x05
  | .handleKind => 0x06
  | .handleRange => 0x07
  | .mmbAlias => 0x08
  | .residueFault => 0x09
  | .handleUnfilled => 0x0A
  | .scoreboardTimeout => 0x0B
  | .trap => 0x0C
  | .landRange => 0x0D
  | .memUncorrectable => 0x07

/-- DETAIL of a TILE_FAULT completion (R458). -/
def faultDetail (code t : Nat) : Nat := code + fld (rowOf t) 8 5 + fld (posOf t) 13 5

/-- A job is admitted or running, of any channel. -/
def State.anyJob (s : State) : Bool := s.host.channels.any fun p => !p.2.fly.isEmpty

/-- A window of the module is open or closing (R425, R576). -/
def State.anyWindow (s : State) : Bool := s.fabric.windows.any fun p => p.2.state ≠ 0

/-- MOD_ALERT# is low while any alarm is unacknowledged (R571). -/
def State.modAlert (s : State) : Bool := !s.mgmt.unacked.isEmpty

end Sys2Proof.Machine
end

