-- ==== Sys2Proof/Machine/HostOps.lean ====
section
/-! DEFINITION. Shared operations of the host link: interrupts (R327, R346), completion records (R343, R345), answers to
descriptors and what they hold (R297, R347 to R350). -/

namespace Sys2Proof.Machine

/-! ### Completion status (R344 and the codes of the service chapters) -/

namespace St
def ok : Nat := 0x00
def okEmpty : Nat := 0x01
def shapeOverPlan : Nat := 0x02
def planUnknown : Nat := 0x03
def planBusy : Nat := 0x04
def primerFault : Nat := 0x05
def strandStall : Nat := 0x06
def memUncorrectable : Nat := 0x07
def identityRevoked : Nat := 0x08
def keyUnknown : Nat := 0x09
def keyClass : Nat := 0x0A
def keyHandleStale : Nat := 0x0B
def keyNotPermitted : Nat := 0x0C
def ingestFormat : Nat := 0x0D
def ingestAuth : Nat := 0x0E
def ingestTruncated : Nat := 0x0F
def descFormat : Nat := 0x10
def opNotPermitted : Nat := 0x11
def channelUnlicensed : Nat := 0x12
def outTooSmall : Nat := 0x13
def hostDmaError : Nat := 0x14
def resetLost : Nat := 0x15
def loadRejected : Nat := 0x16
def keyRejected : Nat := 0x17
def quoteBusy : Nat := 0x18
def featureUnlicensed : Nat := 0x19
def abortOk : Nat := 0x1A
def abortTooLate : Nat := 0x1B
def abortUnknown : Nat := 0x1C
def fabricLoss : Nat := 0x1D
def windowClosed : Nat := 0x1E
def tileFault : Nat := 0x1F
end St

/-- An answer of a status alone. -/
def Answer.of (st : Nat) : Answer := ⟨st, 0, [], 0, 0, 0, 0⟩

/-! ### Interrupts -/

/-- An entry of the MSI-X table of 16 bytes as one number, byte 0 lowest (R324). Log 163 (PRESUMED). -/
def State.msixEntry (s : State) (v : Nat) : Nat := look (fun _ => 0) s.host.msix v

/-- The vector is masked (R324). Log 163 (PRESUMED). -/
def State.msixMasked (s : State) (v : Nat) : Bool := bit (s.msixEntry v) 96

/-- Send an MSI-X message; a masked vector sets its pending bit instead. -/
def State.signal (s : State) (v : Nat) : State :=
  if v = 0xFF then s
  else if s.msixMasked v then
    { s with host := { s.host with pba := s.host.pba ||| BitVec.ofNat 64 (2 ^ v) } }
  else s.toHost (.msix v)

/-- A device event: vector 0 (R327). -/
def State.deviceEvent (s : State) : State := s.signal 0

/-! ### Records -/

/-- The 64 bytes of a completion record, PHASE apart (R343). -/
def completionBytes (descId idx kind st mstat ref outLen detail count0 count1 : Nat) : List Byte :=
  leBytes 2 descId ++ leBytes 2 idx ++ leBytes 1 kind ++ leBytes 1 st ++ leBytes 1 (mstat % 32) ++ [0] ++ leBytes 8 ref
    ++ leBytes 4 outLen ++ leBytes 4 detail ++ leBytes 8 count0 ++ leBytes 8 count1 ++ leBytes 4 (outLen / 2 ^ 32)
    ++ zeros 20

/-- The answer of a descriptor as a record. -/
def Desc.record (d : Desc) (a : Answer) : List Byte :=
  completionBytes (descId d.bytes) d.idx 0 a.status a.mstat (descRef d.bytes) a.outLen a.detail a.count0 a.count1

/-- An abort result (R350). -/
def abortRecord (id idx st : Nat) : List Byte := completionBytes id idx 1 st 0 0 0 0 0 0

/-- The slot at CTAIL is free (R345). -/
def Channel.slotFree (c : Channel) (e : List Byte) : Bool := (c.ctail - c.cack).toNat < ringC e

/-- Write a record into the completion ring of an entry at CTAIL, with PHASE (R343, R345). -/
def State.putRecord (s : State) (c : Nat) (e : List Byte) (r : List Byte) : State :=
  let ch := s.chan c
  let n := 2 ^ entCShift e
  let i := ch.ctail.toNat
  let b := r.take 63 ++ [if ch.phase then 0x80 else 0]
  let ch' := { ch with ctail := ch.ctail + 1, phase := if (i + 1) % n = 0 then !ch.phase else ch.phase }
  (s.setChan c ch').toHost (.host (entCBase e + i % n * 64) b)

/-- A record with IRQ counts towards the channel's message (R346). Log 72 (DEDUCED). -/
def State.countIrq (s : State) (c : Nat) (e : List Byte) : State :=
  let ch := s.chan c
  let first := if ch.unsignalled = 0 then s.timeBase else ch.firstAt
  if entCoalCount e ≤ ch.unsignalled + 1 then
    (s.setChan c { ch with unsignalled := 0, firstAt := first }).signal (entVector e)
  else s.setChan c { ch with unsignalled := ch.unsignalled + 1, firstAt := first }

/-- The entry a channel acts under. -/
def Channel.ent (c : Channel) : List Byte := c.entry.getD []

/-- Write one waiting abort result while a slot is free. Log 72 (DEDUCED). -/
def State.flushAbort (s : State) (c : Nat) : State :=
  let ch := s.chan c
  match ch.aborts with
  | [] => s
  | r :: l =>
    if s.host.d3 || !ch.slotFree ch.ent then s
    else (s.setChan c { ch with aborts := l }).putRecord c ch.ent r

/-- Write waiting abort results while slots are free. -/
def State.flushAborts (s : State) (c : Nat) : State :=
  (s.chan c).aborts.foldl (fun s _ => s.flushAbort c) s

/-- An abort result goes out, or waits for a slot (R345, R350). -/
def State.abortResult (s : State) (c id idx st : Nat) : State :=
  let s := if st = St.abortOk then s.bump K.abortsOk 1
    else if st = St.abortTooLate then s.bump K.abortsTooLate 1 else s
  (s.onChan c fun ch => { ch with aborts := ch.aborts ++ [abortRecord id idx st] }).flushAborts c

/-- A channel enters ERROR (R328). -/
def State.channelError (s : State) (c code : Nat) : State := s.onChan c fun ch => { ch with error := code }

/-- A doorbell or BAR write is discarded and counted. Log 69 (DEDUCED). -/
def State.dropDoorbell (s : State) : State := s.bump K.barWritesDropped 1

/-! ### Keys that jobs pin (R297, R299) -/

/-- GEN of a cache entry (R298): it advances when the entry is filled again, and for every entry at a thaw.
Log 146 (DEDUCED). -/
def Vault.genOf (v : Vault) (slot : Nat) : Nat := (look (fun _ => 0) v.fills slot + 4095 + v.thawGen) % 4096

/-- The handle of a cached key: SLOT, GEN and CLASS (R298). -/
def Vault.handle (v : Vault) (k : VKey) : Nat := fld k.slot 0 12 + fld (v.genOf k.slot) 12 12 + fld k.cls 24 2

/-- A handle stands for a key. -/
def Vault.handles (v : Vault) (h : Nat) (k : VKey) : Bool := k.cached && v.handle k = h

def State.setKeys (s : State) (l : List VKey) : State := { s with vault := { s.vault with keys := l } }

/-- Take one pin off a key. -/
def Vault.unpinKey (v : Vault) (ks : List VKey) (h : Nat) : List VKey :=
  ks.map fun k => if v.handles h k then { k with pins := k.pins - 1 } else k

/-- Unpin keys; one that was removed while pinned is dropped with its last pin. -/
def State.unpin (s : State) (handles : List Nat) : State :=
  s.setKeys ((handles.foldl s.vault.unpinKey s.vault.keys).filter fun k => !(k.removed && k.pins = 0))

/-! ### Answers -/

/-- The hold of R348 lies on answers of service jobs whose sequences ran on strands while checking is on. A STEP that was
committed had its checks closed before (R449, R451). -/
def State.holds (s : State) (d : Desc) : Bool :=
  d.service && s.get K.checkFraction ≠ 0
    && ((d.hold.map fun h => !h.strands.isEmpty && !(h.service = 7 && h.result.isSome)).getD false)

/-- Give a descriptor its answer, once, with the MSTAT flags of its job's sequences (R347, R359). Log 86 (DEDUCED). -/
def State.answer (s : State) (j : JobId) (a : Answer) : State :=
  s.onDesc j fun d =>
    if d.answer.isSome then d
    else
      let m := (d.hold.map fun (h : JobHold) => h.mstat.toNat).getD 0
      { d with
        answer := some { a with mstat := a.mstat ||| m }
        held := s.holds d
        since := s.timeBase }

/-- Answer a descriptor with a status alone. -/
def State.endWith (s : State) (j : JobId) (st : Nat) : State := s.answer j (Answer.of st)

/-- Answer with output bytes, or with OUT_TOO_SMALL and the length needed (R340). -/
def State.answerOut (s : State) (j : JobId) (a : Answer) (out : List Byte) : State :=
  match s.desc j with
  | none => s
  | some d =>
    if descOutCap d.bytes < out.length then s.answer j { a with status := St.outTooSmall, out := [], outLen := out.length }
    else s.answer j { a with out := out, outLen := out.length }

/-- Change what a descriptor holds. -/
def State.onHold (s : State) (j : JobId) (f : JobHold → JobHold) : State :=
  s.onDesc j fun d => { d with hold := d.hold.map f }

/-- A fetched descriptor that has no answer yet. -/
def State.openDesc (s : State) (j : JobId) : Option Desc :=
  match s.desc j with
  | some d => if d.answer.isNone then some d else none
  | none => none

/-- A descriptor leaves the flight: its keys are unpinned and its index is remembered with its DESC_ID. -/
def State.retireDesc (s : State) (j : JobId) (d : Desc) : State :=
  let s := s.onChan j.1 fun c =>
    { c with
      fly := c.fly.filter fun e => e.idx ≠ j.2
      ids := put (fun _ => 0) c.ids j.2 (descId d.bytes + 1) }
  s.unpin ((d.hold.map (·.keys)).getD [])

end Sys2Proof.Machine
end

