-- ==== Sys2Proof/Machine/TableUnit.lean ====
section
/-! DEFINITION. The accuracy of the table unit (R84). The real function is computed in fixed point, far finer than
FP32, and the unit's answer is free within the bound R84 states around it. -/

namespace Sys2Proof.Machine

/-- Bits of fraction of the fixed-point computations below. -/
abbrev tuBits : Nat := 512

/-- The fixed-point one. -/
abbrev tuOne : Int := 2 ^ tuBits

/-- The fixed-point product. -/
def tuMul (a b : Int) : Int := a * b / tuOne

/-- The fixed-point quotient. -/
def tuDiv (a b : Int) : Int := a * tuOne / b

/-- The fixed-point image of `(-1)^n × m × 2^e`. -/
def tuOf (n : Bool) (m : Nat) (e : Int) : Int :=
  let q := e + tuBits
  let a : Int := if 0 ≤ q then m * 2 ^ q.toNat else m / 2 ^ (-q).toNat
  if n then -a else a

/-- The exact value a fixed-point number stands for; a zero takes the sign given. -/
def tuVal (zeroNeg : Bool) (a : Int) : Val :=
  if a = 0 then .fin zeroNeg 0 0 else .fin (a < 0) a.natAbs (-(tuBits : Int))

/-- A sum of terms, each the term before it times `x`, divided by a whole number that depends on its place; each
term is added after a division of its own. -/
def tuSeries (terms : Nat) (first x : Int) (d w : Nat → Int) : Int :=
  ((List.range terms).foldl (fun (p : Int × Int) i =>
    let t := if i = 0 then p.1 else tuMul p.1 x / d i
    (t, p.2 + t / w i)) (first, 0)).2

/-- `2 × artanh z` for a `z` of at most one third. -/
def tuAtanh2 (z : Int) : Int :=
  2 * tuSeries 170 z (tuMul z z) (fun _ => 1) (fun i => 2 * i + 1)

/-- The natural logarithm of 2. -/
def tuLn2 : Int := tuAtanh2 (tuOne / 3)

/-- The arctangent of `1 / k`. -/
def tuAtanInv (k : Int) : Int :=
  tuSeries 120 (tuOne / k) (-(tuOne / (k * k))) (fun _ => 1) (fun i => 2 * i + 1)

/-- The circle constant, by Machin's formula. -/
def tuPi : Int := 16 * tuAtanInv 5 - 4 * tuAtanInv 239

/-- The exponential of `x`, for an `x` between -200 and 200. -/
def tuExp (x : Int) : Int :=
  let k := x / tuLn2
  let r := tuSeries 120 tuOne (x - k * tuLn2) (fun i => i) (fun _ => 1)
  if 0 ≤ k then r * 2 ^ k.toNat else r / 2 ^ (-k).toNat

/-- The natural logarithm of a positive `x`. -/
def tuLog (x : Int) : Int :=
  let k : Int := (Nat.log2 x.natAbs : Int) - tuBits
  let m := if 0 ≤ k then x / 2 ^ k.toNat else x * 2 ^ (-k).toNat
  k * tuLn2 + tuAtanh2 (tuDiv (m - tuOne) (m + tuOne))

/-- The square root of a positive `x`. -/
def tuSqrt (x : Int) : Int :=
  let v := x.natAbs * 2 ^ tuBits
  isqrt (Nat.log2 v / 2 + 1) v

/-- The normal distribution's integral up to `x`, for an `x` between -16 and 16: half of `1 + erf (x / √2)`. -/
def tuPhi (x : Int) : Int :=
  tuOne / 2 + tuDiv (tuSeries 700 x (-(tuMul x x)) (fun i => 2 * i) (fun i => 2 * i + 1)) (tuSqrt (2 * tuPi))

/-- A magnitude far below every FP32 number, and one far above. -/
def tuTiny (n : Bool) : Val := .fin n 1 (-400)
def tuHuge : Val := .fin false 1 400

/-- The real result of a function of the table unit for a finite input that is not one of R84's special inputs, to
an error far below one unit in the last place of FP32. Log 51 (DESIGN CHOICE). -/
def tuReal (f : VecFn) (n : Bool) (m : Nat) (e : Int) : Val :=
  let x := tuOf n m e
  let big := 200 * tuOne
  match f with
  | .vexp => if x > big then tuHuge else if x < -big then tuTiny false else tuVal false (tuExp x)
  | .vexp2 =>
    if x > big then tuHuge else if x < -big then tuTiny false else tuVal false (tuExp (tuMul x tuLn2))
  | .vlog => tuVal false (tuLog x)
  | .vlog2 => tuVal false (tuDiv (tuLog x) tuLn2)
  | .vrecip => .fin n (2 ^ (Nat.log2 m + 200) / m) (-(Nat.log2 m + 200 : Nat) - e)
  | .vrsqrt =>
    let k : Nat := if (e - (Nat.log2 m : Int)) % 2 = 0 then Nat.log2 m + 400 else Nat.log2 m + 401
    let v := 2 ^ k / m
    .fin false (isqrt (Nat.log2 v / 2 + 1) v) ((-(k : Int) - e) / 2)
  | .vsigm =>
    if x > big then .fin false 1 0 else if x < -big then tuTiny false
    else tuVal false (tuDiv (tuExp x) (tuOne + tuExp x))
  | .vtanh =>
    if x > big then .fin false 1 0 else if x < -big then .fin true 1 0
    else tuVal n (tuDiv (tuExp (2 * x) - tuOne) (tuExp (2 * x) + tuOne))
  | .vgelu =>
    if x > 16 * tuOne then .fin n m e else if x < -16 * tuOne then tuTiny true
    else tuVal n (tuMul x (tuPhi x))
  | .vsilu =>
    if x > big then .fin n m e else if x < -big then tuTiny true
    else tuVal n (tuMul x (tuDiv (tuExp x) (tuOne + tuExp x)))
  | .vsoftplus =>
    if x > big then .fin n m e else if x < -big then tuTiny false
    else tuVal false (tuLog (tuOne + tuExp x))
  | _ => .fin n m e

/-- Units in the last place that R84 grants a function. -/
def tuBound : VecFn → Nat
  | .vsigm | .vtanh | .vgelu | .vsilu | .vsoftplus => 4
  | _ => 2

/-- The exponent of one unit in the last place of FP32 at a magnitude. Log 51 (DESIGN CHOICE). -/
def tuUlp (m : Nat) (e : Int) : Int := if m = 0 then -149 else max (floorLog2 m e - 23) (-149)

/-- Whether an FP32 pattern lies within a number of units in the last place of a value. Log 51 (DESIGN CHOICE). -/
def tuWithin (k : Nat) (c : Nat) : Val → Bool
  | .fin n m e =>
    match fp32.val c with
    | .fin n' m' e' =>
      let u := tuUlp m e
      let q := min u (min e e')
      let d := scaled n' m' e' q - scaled n m e q
      decide (d.natAbs ≤ k * 2 ^ (u - q).toNat)
    | _ => false
  | _ => false

/-- The limit of an activation at an infinity, where it is finite: 1 or -1, or a zero, as a magnitude far below every
FP32 number with the sign from which the function comes to it. -/
def tuLimit (f : VecFn) (n : Bool) : Val :=
  match f with
  | .vsigm => if n then tuTiny false else .fin false 1 0
  | .vtanh => .fin n 1 0
  | .vsoftplus => tuTiny false
  | _ => tuTiny true

/-- The real result of a function of the table unit for any input that is no special one (R84). -/
def tuTarget (f : VecFn) : Val → Val
  | .fin n m e => tuReal f n m e
  | .inf n => tuLimit f n
  | .nan => .nan

/-- The unit's answer: the free value where it keeps R84's bound, and else the FP32 number nearest to the real result, so
that every number within the bound is possible and no other. Log 51 (DESIGN CHOICE). -/
def tuAnswer (f : VecFn) (x : Word) : Nat :=
  let r := tuTarget f (fp32.val x.toNat)
  let c := (Config.tableUnit f.code x).toNat
  if tuWithin (tuBound f) c r then c else (fp32.enc r).1

end Sys2Proof.Machine
end

