-- ==== Sys2Proof/Machine/VectorUnit.lean ====
section
/-! DEFINITION. What the vector unit and the table unit compute (R83 to R85, R594 to R598), as functions of the
source registers. -/

namespace Sys2Proof.Machine

/-- Lane `i` of width `w` bits. -/
def lane (w : Nat) (v : Vec) (i : Nat) : Nat := v.toNat / 2 ^ (w * i) % 2 ^ w

/-- The first `n` lanes of width `w`. -/
def lanes (w n : Nat) (v : Vec) : List Nat := (List.range n).map (lane w v)

/-- A vector from lanes of width `w`, lane 0 lowest; missing lanes are zero. -/
def packLanes (w : Nat) (l : List Nat) : Vec :=
  BitVec.ofNat 4096 (l.foldr (fun x acc => x % 2 ^ w + 2 ^ w * acc) 0)

/-- The 512 bytes of a vector register. -/
def vecBytes (v : Vec) : List Byte := leBytes 512 v.toNat

/-- A vector register from 512 bytes. -/
def bytesVec (l : List Byte) : Vec := BitVec.ofNat 4096 (leNat l)

/-- The floating-point format of TYPE 0 to 2 (R594). -/
def typeFmt (ty : Nat) : Fmt := if ty = 1 then bf16 else if ty = 2 then fp16 else fp32

/-- Width and number of lanes of a TYPE (R594). -/
def typeWidth (ty : Nat) : Nat := if ty = 1 ∨ ty = 2 then 16 else 32
def typeLanes (ty : Nat) : Nat := if ty = 1 ∨ ty = 2 then 256 else 128

/-- One lane of an elementwise arithmetic function (R595). -/
def arithLane (f : VecFn) (m : Fmt) (a b c : Nat) : Nat × Flg :=
  let va := m.val a
  let vb := m.val b
  match f with
  | .vadd => m.res (va.add vb)
  | .vsub => m.res (va.add vb.neg)
  | .vmul => m.res (va.mul vb)
  | .vfma => m.res ((va.mul vb).add (m.val c))
  | .vmin => if va.isNan || vb.isNan then m.res .nan else (if vb.lt va then b else a, Flg.none)
  | .vmax => if va.isNan || vb.isNan then m.res .nan else (if va.lt vb then b else a, Flg.none)
  | .vabs => m.res va.abs
  | .vneg => m.res va.neg
  | .vcmplt => (if va.lt vb then 2 ^ m.width - 1 else 0, Flg.none)
  | .vcmpeq => (if va.eqv vb then 2 ^ m.width - 1 else 0, Flg.none)
  | _ => (a, Flg.none)

/-- Special inputs of the table unit, with their IEEE 754 results (R84); NaN in gives NaN out (R67). An activation that
grows without bound at +infinity is infinite there. Log 51 (DESIGN CHOICE). -/
def tableSpecial (f : VecFn) (v : Val) : Option Val :=
  match f, v with
  | .vsqrt, v => some v.sqrt
  | _, .nan => some .nan
  | .vexp, .inf n | .vexp2, .inf n => some (if n then .fin false 0 0 else .inf false)
  | .vlog, .inf n | .vlog2, .inf n => some (if n then .nan else .inf false)
  | .vlog, .fin n m _ | .vlog2, .fin n m _ =>
    if m = 0 then some (.inf true) else if n then some .nan else none
  | .vrsqrt, .inf n => some (if n then .nan else .fin false 0 0)
  | .vrsqrt, .fin n m _ => if m = 0 then some (.inf n) else if n then some .nan else none
  | .vrecip, .inf n => some (.fin n 0 0)
  | .vrecip, .fin n m _ => if m = 0 then some (.inf n) else none
  | .vgelu, .inf false | .vsilu, .inf false | .vsoftplus, .inf false => some (.inf false)
  | _, _ => none

/-- One lane of a table-unit function: computed in FP32, then rounded once to the lane's format (R83).
Log 18 (DEDUCED), 51 (DESIGN CHOICE). -/
def tableLane (f : VecFn) (m : Fmt) (a : Nat) : Nat × Flg :=
  let v := m.val a
  let x := BitVec.ofNat 32 (fp32.enc v).1
  let y := match tableSpecial f v with
    | some r => (fp32.enc r).1
    | none => tuAnswer f x
  if m.width = 32 then m.res (fp32.val y) else m.enc (fp32.val y)

/-- One lane of the I32 functions (R596). Log 20 (DEDUCED). -/
def intLane (f : VecFn) (vc a b : Nat) : Nat :=
  match f with
  | .viadd => (a + b) % 2 ^ 32
  | .vimul => a * b % 2 ^ 32
  | .vshift =>
    let k := b % 32
    if vc = 0 then a * 2 ^ k % 2 ^ 32
    else if vc = 1 then a / 2 ^ k
    else ofInt 32 (sInt a / 2 ^ k)
  | .vlogic =>
    if vc = 0 then a &&& b else if vc = 1 then a ||| b else if vc = 2 then a ^^^ b else 2 ^ 32 - 1 - a
  | .vpopc => popCount 32 a
  | _ => a

/-- One lane of VCVT (R597): source TYPE, target VC. -/
def cvtLane (ty vc a : Nat) : Nat × Flg :=
  let v := if ty = 3 then valInt (sInt a) else (typeFmt ty).val a
  match vc with
  | 0 => fp32.enc v
  | 1 => bf16.enc v
  | 2 => fp16.enc v
  | 3 => e4m3.enc v
  | 4 => e5m2.enc v
  | 5 => encInt 8 v
  | _ => encInt 32 v

/-- Width of a VCVT target in bits. -/
def cvtWidth (vc : Nat) : Nat :=
  match vc with
  | 0 => 32 | 1 => 16 | 2 => 16 | 3 => 8 | 4 => 8 | 5 => 8 | _ => 32

/-- VQB (R83, R597): four blocks of elements in bytes 0 to 63 and their scales in bytes 64 to 67. -/
def quantVec (f4 : Bool) (v : Vec) : Vec × Flg :=
  let blocks := (List.range 4).map fun k =>
    quantBlock f4 ((List.range 32).map fun i => fp32.val (lane 32 v (32 * k + i)))
  let codes := blocks.flatMap fun b => b.2.1
  let scales := blocks.map fun b => b.1
  (BitVec.ofNat 4096 ((packLanes 4 codes).toNat + (packLanes 8 scales).toNat * 2 ^ 512),
    blocks.foldl (fun g b => g.or b.2.2) Flg.none)

/-- VDQB (R597). -/
def dequantVec (f4 : Bool) (v : Vec) : Vec × Flg :=
  let (l, g) := mapFlg (fun i => fp32.enc (val4 f4 (lane 4 v i) (lane 8 v (64 + i / 32)))) (List.range 128)
  (packLanes 32 l, g)

/-- One level of the reduction tree (R85): lane 2i with lane 2i + 1. -/
def pairUp (g : Nat → Nat → Nat × Flg) : List Nat → List Nat × Flg
  | a :: b :: l =>
    let (x, f) := g a b
    let (xs, f') := pairUp g l
    (x :: xs, f.or f')
  | l => (l, Flg.none)

/-- The whole tree over 128 lanes. -/
def reduceTree (g : Nat → Nat → Nat × Flg) (l : List Nat) : Nat × Flg :=
  let r := (List.range 7).foldl (fun (p : List Nat × Flg) _ =>
    let (l', f) := pairUp g p.1
    (l', p.2.or f)) (l, Flg.none)
  (r.1.headD 0, r.2)

/-- The lowest lane whose value no lane exceeds under `lt`. -/
def argBest (lt : Val → Val → Bool) (l : List Val) : Nat :=
  (l.zipIdx.find? fun p => l.all fun v => !lt p.1 v).elim 0 (·.2)

/-- The reductions (R85, R598): the value of lane 0. -/
def reduceLanes (f : VecFn) (l : List Nat) : Nat × Flg :=
  let vs := l.map fp32.val
  match f with
  | .vrsum => reduceTree (fun a b => fp32.enc ((fp32.val a).add (fp32.val b))) l
  | .vrmax => if vs.any Val.isNan then fp32.res .nan else reduceTree (arithLane .vmax fp32 · · 0) l
  | .vrmin => if vs.any Val.isNan then fp32.res .nan else reduceTree (arithLane .vmin fp32 · · 0) l
  | .vrargmax => (if vs.any Val.isNan then 0 else argBest Val.lt vs, Flg.none)
  | .vrargmin => (if vs.any Val.isNan then 0 else argBest (fun a b => b.lt a) vs, Flg.none)
  | _ => (0, Flg.none)

/-- The result of a vector instruction that stays in the vector unit, with its flags. VLD and VST are not here. -/
def vecResult (f : VecFn) (o : VecOp) (va vb vc : Vec) : Vec × Flg :=
  let ty := o.ty.toNat
  let w := typeWidth ty
  let n := typeLanes ty
  match f with
  | .vadd | .vsub | .vmul | .vfma | .vmin | .vmax | .vabs | .vneg | .vcmplt | .vcmpeq =>
    let (l, g) := mapFlg (fun i => arithLane f (typeFmt ty) (lane w va i) (lane w vb i) (lane w vc i))
      (List.range n)
    (packLanes w l, g)
  | .vsel => (packLanes w ((List.range n).map fun i =>
      if lane w vc i ≠ 0 then lane w va i else lane w vb i), Flg.none)
  | .vbcast => (packLanes w ((List.range n).map fun _ => lane w va 0), Flg.none)
  | .viadd | .vimul | .vshift | .vlogic | .vpopc =>
    (packLanes 32 ((List.range 128).map fun i => intLane f o.vc.toNat (lane 32 va i) (lane 32 vb i)), Flg.none)
  | .vcvt =>
    let (l, g) := mapFlg (fun i => cvtLane ty o.vc.toNat (lane w va i)) (List.range 128)
    (packLanes (cvtWidth o.vc.toNat) l, g)
  | .vqb => quantVec (o.vc.toNat = 1) va
  | .vdqb => dequantVec (o.vc.toNat = 1) va
  | .vexp | .vexp2 | .vlog | .vlog2 | .vrsqrt | .vrecip | .vsqrt
  | .vsigm | .vtanh | .vgelu | .vsilu | .vsoftplus =>
    let (l, g) := mapFlg (fun i => tableLane f (typeFmt ty) (lane w va i)) (List.range n)
    (packLanes w l, g)
  | .vrsum | .vrmax | .vrmin | .vrargmax | .vrargmin =>
    let (x, g) := reduceLanes f (lanes 32 128 va)
    (packLanes 32 [x], g)
  | .vperm => (packLanes w ((List.range n).map fun i => lane w va (lane w vb i % n)), Flg.none)
  | .vld | .vst => (va, Flg.none)

end Sys2Proof.Machine
end

