-- ==== Sys2Proof/Machine/TileCore.lean ====
section
/-! DEFINITION. What each instruction of the tile does in its own tile (R59 to R62, R83, R87 to R104, R120 to R130),
one function for each class. What reaches beyond the tile is done by the operations over the whole state that call
these. -/

namespace Sys2Proof.Machine

/-! ### Scalar classes -/

/-- The scalar functions (R88). A register shift amount is the low five bits. Log 20 (DEDUCED). -/
def aluFn (f : AluFn) (a b : Word) : Word :=
  match f with
  | .add => a + b
  | .sub => a - b
  | .and => a &&& b
  | .or => a ||| b
  | .xor => a ^^^ b
  | .shl => a <<< (b.toNat % 32)
  | .shr => a >>> (b.toNat % 32)
  | .sra => a.sshiftRight (b.toNat % 32)
  | .mul => a * b
  | .slt => if a.slt b then 1 else 0
  | .sltu => if a.ult b then 1 else 0
  | .min => if b.slt a then b else a
  | .max => if a.slt b then b else a
  | .minu => if b.ult a then b else a
  | .maxu => if a.ult b then b else a

/-- IMM12 extended for a function (R88): sign for ADD, SLT, MUL, MIN and MAX, zero for the logic and unsigned
forms; shifts use the low five bits. -/
def aluImm (f : AluFn) (imm : BitVec 12) : Word :=
  match f with
  | .and | .or | .xor | .sltu | .minu | .maxu => imm.zeroExtend 32
  | .shl | .shr | .sra => (imm.zeroExtend 32) &&& 31
  | _ => imm.signExtend 32

/-- The branch conditions (R88). -/
def branchTaken (f : BranchFn) (a b : Word) : Bool :=
  match f with
  | .beq => a = b
  | .bne => a ≠ b
  | .blt => a.slt b
  | .bge => !a.slt b
  | .bltu => a.ult b
  | .bgeu => !a.ult b

/-- Go to a word offset from the present instruction. Log 151 (DEDUCED). -/
def Tile.jump (t : Tile) (off : Int) : Tile := t.setPc (t.core.pc.toNat + off)

def Tile.execAlu (t : Tile) (f : AluFn) (rd ra rb : BitVec 5) : Tile :=
  (t.setReg rd (aluFn f (t.reg ra) (t.reg rb))).adv 1

def Tile.execAlui (t : Tile) (f : AluFn) (rd ra : BitVec 5) (imm : BitVec 12) : Tile :=
  (t.setReg rd (aluFn f (t.reg ra) (aluImm f imm))).adv 1

def Tile.execBranch (t : Tile) (f : BranchFn) (ra rb : BitVec 5) (off : BitVec 13) : Tile :=
  if branchTaken f (t.reg ra) (t.reg rb) then t.jump off.toInt else t.adv 1

/-- JAL and JR write the word after them to the link register; JR goes to a word index (R88). Log 151 (DEDUCED). -/
def Tile.execJal (t : Tile) (rd : BitVec 5) (off : BitVec 20) : Tile :=
  (t.setReg rd (BitVec.ofNat 32 (t.core.pc.toNat + 1))).jump off.toInt

/-- JR (R88): the word index in ra, and the link in rd. Log 151 (DEDUCED). -/
def Tile.execJr (t : Tile) (rd ra : BitVec 5) : Tile :=
  let target : Int := (t.reg ra).toNat
  (t.setReg rd (BitVec.ofNat 32 (t.core.pc.toNat + 1))).setPc target

def Tile.execLui (t : Tile) (rd : BitVec 5) (imm : BitVec 20) : Tile :=
  (t.setReg rd (BitVec.ofNat 32 (imm.toNat * 4096))).adv 1

/-! ### Loop counters (R101) -/

def Tile.execLseti (t : Tile) (lc : BitVec 4) (opnd : BitVec 19) : Tile :=
  (t.setLc lc (opnd.zeroExtend 24)).adv 1

def Tile.execLsetr (t : Tile) (lc : BitVec 4) (r : BitVec 5) : Tile :=
  (t.setLc lc ((t.reg r).truncate 24)).adv 1

/-- LOOP: a non-zero counter goes down by one; the branch is taken while it stays non-zero. -/
def Tile.execLoop (t : Tile) (lc : BitVec 4) (off : BitVec 19) : Tile :=
  let v := t.lc lc
  let v' := if v = 0 then v else v - 1
  if v' = 0 then (t.setLc lc v').adv 1 else (t.setLc lc v').jump off.toInt

/-- LINC: adds the signed operand, saturating at 0 and 16,777,215. -/
def Tile.execLinc (t : Tile) (lc : BitVec 4) (imm : BitVec 19) : Tile :=
  let v : Int := (t.lc lc).toNat + imm.toInt
  let w := if v < 0 then 0 else if v > 16777215 then 16777215 else v.toNat
  (t.setLc lc (BitVec.ofNat 24 w)).adv 1

def Tile.execLget (t : Tile) (lc : BitVec 4) (r : BitVec 5) : Tile :=
  (t.setReg r ((t.lc lc).zeroExtend 32)).adv 1

def Tile.execLbz (t : Tile) (lc : BitVec 4) (off : BitVec 19) : Tile :=
  if t.lc lc = 0 then t.jump off.toInt else t.adv 1

/-! ### Loads and stores -/

def LoadFn.size : LoadFn → Nat
  | .lb | .lbu => 1
  | .lh | .lhu => 2
  | .lw => 4

def StoreFn.size : StoreFn → Nat
  | .sb => 1 | .sh => 2 | .sw => 4

/-- The register value of a load from its bytes. -/
def loadVal (f : LoadFn) (bs : List Byte) : Word :=
  match f with
  | .lb => (BitVec.ofNat 8 (leNat bs)).signExtend 32
  | .lh => (BitVec.ofNat 16 (leNat bs)).signExtend 32
  | _ => BitVec.ofNat 32 (leNat bs)

/-- The address of a load or store. Log 22 (DEDUCED). -/
def Tile.ea (t : Tile) (base : BitVec 5) (imm : BitVec 12) : Nat := (t.reg base + imm.signExtend 32).toNat

/-- A load (R61, R62, R88, R126, R127): alignment first, then the map, then steps 3 and 4 for a scratchpad line.
Log 22 (DEDUCED). -/
def Tile.execLoad (x : Ctx) (t : Tile) (i : Tis) (f : LoadFn) (rd base : BitVec 5) (imm : BitVec 12) : Tile :=
  let a := t.ea base imm
  if a % f.size ≠ 0 then t.fail .alignFault i 0
  else if a < 0x300000 then
    if padMapped t.pad.bankOk a = false then t.fail .addressFault i 0
    else t.guard i x.now x.limitUs (t.sbCheck [[(a, f.size)]] [] 0) fun t =>
      (t.setReg rd (loadVal f (t.read a f.size))).adv 1
  else
    match t.outerBytes x a f.size with
    | none => t.fail .addressFault i 0
    | some bs => ((t.setRun .running).setReg rd (loadVal f bs)).adv 1

/-- Whether a store address is one of the tile's control registers, and not a fault. Log 17 (DEDUCED). -/
def Tile.storesReg (x : Ctx) (t : Tile) (f : StoreFn) (base : BitVec 5) (imm : BitVec 12) : Option Nat :=
  let a := t.ea base imm
  if a % f.size = 0 ∧ 0x700000 ≤ a ∧ a < 0x701000 ∧ (t.regRead x (a % 0x1000 / 4 * 4)).isSome then
    some (a % 0x1000) else none

/-- The word a store writes to the register at byte offset `o`: a whole word, or the register as it reads with
the stored bytes in place. Log 17 (DEDUCED). -/
def Tile.storeWord (x : Ctx) (t : Tile) (f : StoreFn) (d : BitVec 5) (o : Nat) : Word :=
  let v := t.reg d
  if f = .sw then v
  else
    let old := (t.regRead x (o / 4 * 4)).getD 0
    let sh := 8 * (o % 4)
    let mask := (2 ^ (8 * f.size) - 1) * 2 ^ sh
    (old &&& ~~~(BitVec.ofNat 32 mask)) ||| BitVec.ofNat 32 (v.toNat % 2 ^ (8 * f.size) * 2 ^ sh)

/-- A store that is not to a control register (R61, R62, R116, R124, R126, R136).
Log 17 (DEDUCED), 22 (DEDUCED), 29 (DEDUCED). -/
def Tile.execStore (x : Ctx) (t : Tile) (i : Tis) (f : StoreFn) (d base : BitVec 5) (imm : BitVec 12) : Tile :=
  let a := t.ea base imm
  if a % f.size ≠ 0 then t.fail .alignFault i 0
  else if a < 0x300000 then
    if padMapped t.pad.bankOk a = false ∨ t.standing (lineOf a) = true then t.fail .addressFault i 0
    else t.guard i x.now x.limitUs (t.sbCheck [] [[(a, f.size)]] 0) fun t =>
      (t.land a (leBytes f.size (t.reg d).toNat)).adv 1
  else t.fail .addressFault i 0

/-! ### Handles (R103, R104, R119 to R121, R124, R125) -/

/-- Invalidate: KIND becomes 0 and nothing else of the entry is said to change. Log 15 (DEDUCED). -/
def Tile.invalidate (t : Tile) (h : BitVec 6) : Tile :=
  let e := t.handle h
  t.setHandle h { e with w0 := e.w0 &&& 0xFFFFFFFC }

/-- The entry HSET takes from three registers. -/
def Tile.hsetEntry (t : Tile) (o : HandleOp) : Handle :=
  ⟨t.reg o.ra, t.reg (o.ra + 1), t.reg (o.ra + 2)⟩

def Tile.execHset (x : Ctx) (t : Tile) (i : Tis) (o : HandleOp) : Tile :=
  if t.handleBusy o.h then t.stall i true x.now x.limitUs
  else
    let e := t.hsetEntry o
    if e.kind = 0 then ((t.invalidate o.h).setRun .running).adv 1
    else
      match hsetCheck t.pad.bankOk (if 62 ≤ o.h.toNat then x.grants ++ x.ckpt else x.grants) e with
      | some c => t.fail c i 0
      | none => ((t.setHandle o.h e).setRun .running).adv 1

def Tile.execHget (t : Tile) (o : HandleOp) : Tile :=
  let e := t.handle o.h
  (((t.setReg o.ra e.w0).setReg (o.ra + 1) e.w1).setReg (o.ra + 2) e.w2).adv 1

def Tile.execHswap (x : Ctx) (t : Tile) (i : Tis) (o : HandleOp) : Tile :=
  if t.handleBusy o.h || t.handleBusy o.h2 then t.stall i true x.now x.limitUs
  else
    let a := t.handle o.h
    let b := t.handle o.h2
    (((t.setHandle o.h b).setHandle o.h2 a).setRun .running).adv 1

def Tile.execHfill (x : Ctx) (t : Tile) (i : Tis) (o : HandleOp) : Tile :=
  let e := t.handle o.h
  let off := (t.reg o.ra).toNat
  let len := (t.reg o.rb).toNat
  if e.kind ≠ 1 ∨ e.canWrite = false then t.fail .handleKind i 0
  else if e.size < off + len then t.fail .handleRange i 0
  else t.guard i x.now x.limitUs (t.sbCheck [] [[(e.base + off, len)]] 0) fun t =>
    (t.markLines true (linesOf (e.base + off) len)).adv 1

def Tile.execHunfill (x : Ctx) (t : Tile) (i : Tis) (o : HandleOp) : Tile :=
  let e := t.handle o.h
  if t.handleBusy o.h then t.stall i true x.now x.limitUs
  else if e.kind ≠ 1 ∨ e.canWrite = false then t.fail .handleKind i 0
  else t.guard i x.now x.limitUs (t.sbCheck [] [[(e.base, e.size)]] 0) fun t =>
    (t.markLines false (linesOf e.base e.size)).adv 1

/-- Log 15 (DEDUCED). -/
def Tile.execHinv (x : Ctx) (t : Tile) (i : Tis) (o : HandleOp) : Tile :=
  if t.handleBusy o.h then t.stall i true x.now x.limitUs
  else ((t.invalidate o.h).setRun .running).adv 1

/-! ### Receive class (R98, R99) -/

/-- The result pair of a selection. -/
def recvResult (q : Nat) (m : Msg) : Word × Word :=
  (BitVec.ofNat 32 (q + fld m.hdr.length 16 13),
    BitVec.ofNat 32 (m.hdr.tag.toNat + fld m.hdr.srcRow.toNat 16 5 + fld m.hdr.srcPos.toNat 21 5
      + b2n m.hdr.cnet * 2 ^ 26 + b2n m.hdr.reply * 2 ^ 27 + b2n (m.hdr.srcEp ≠ 0) * 2 ^ 28))

/-- Select queue `q` and write the result pair. -/
def Tile.select (t : Tile) (o : RecvOp) (q : Nat) : Tile :=
  let c := t.queue q
  match c.held with
  | [] => t
  | m :: _ =>
    let r := recvResult q m
    let t1 := (t.setQueue q { c with selected := true }).setReg o.rd r.1
    let t2 := t1.setReg (o.rd + 1) r.2
    { t2 with core := { t2.core with lastSel := some (BitVec.ofNat 4 q) } }

/-- RECVSEL: take a ready queue, or return at once with NB, or wait. -/
def Tile.execRecvsel (t : Tile) (i : Tis) (o : RecvOp) : Tile :=
  let mask := wbits (t.reg o.rm) 0 16
  match t.pick mask o.rotate with
  | some q => ((t.select o q).setRun .running).adv 1
  | none =>
    if o.nb then ((t.setReg o.rd 0xFFFFFFFF).setRun .running).adv 1
    else if mask = 0 then t.fail .illegalInstruction i 0
    else t.setRun (.receiving o)

/-- QREL: release the selected head; no effect where none is selected. -/
def Tile.execQrel (t : Tile) (o : RecvOp) : Tile :=
  let q := o.qimm.toNat
  let c := t.queue q
  if c.selected then (t.setQueue q { c with held := c.held.drop 1, selected := false }).adv 1 else t.adv 1

/-! ### Matrix engine and vector unit -/

/-- MMB issue (R60, R93, R127). Log 152 (DEDUCED). -/
def Tile.execMmb (x : Ctx) (t : Tile) (i : Tis) (o : MmbOp) : Tile :=
  if 2 ≤ t.units.meq.length then t.stall i false x.now x.limitUs
  else
    let j := mmbJob t o
    match mmbCheck t j with
    | some c => t.fail c i 0
    | none =>
      t.guard i x.now x.limitUs (t.sbCheck j.reads [j.writes] j.entries.length) fun t =>
        let (t, ns) := t.register j.entries
        ({ t with units := { t.units with meq := t.units.meq ++ [{ j with ents := ns }] } } : Tile).adv 2

/-- Vector registers a function reads (R594 to R598). -/
def vecReads (f : VecFn) (o : VecOp) : List (BitVec 3) :=
  match f with
  | .vfma => [o.va, o.vb, o.vc]
  | .vsel => [o.va, o.vb, o.vc]
  | .vadd | .vsub | .vmul | .vmin | .vmax | .vcmplt | .vcmpeq | .viadd | .vimul | .vshift | .vperm => [o.va, o.vb]
  | .vlogic => if o.vc.toNat = 3 then [o.va] else [o.va, o.vb]
  | .vld => []
  | _ => [o.va]

/-- A vector register waits for memory-tier data (R122). -/
def Tile.vheld (t : Tile) (v : BitVec 3) : Bool :=
  t.units.vuq.any fun j => j.f = .vld && j.o.vd = v && (match j.place with | .mem _ => true | _ => false)

/-- Where a VLD or VST goes, with the checks of R121, R122, R473 and the handle's range. -/
def Tile.vecPlace (x : Ctx) (t : Tile) (f : VecFn) (o : VecOp) : VecPlace × Option FaultCode :=
  let e := t.handle o.h
  let off := o.offset.toNat * 64
  let wr := f = .vst
  let bad := e.kind = 0 ∨ (e.kind = 3 ∧ (f = .vld ∨ x.service = true)) ∨ (wr ∧ e.canWrite = false) ∨ (¬ wr ∧ e.canRead = false)
  if bad then (.none, some .handleKind)
  else if e.kind = 2 ∧ o.offset.toNat % 4 ≠ 0 then (.none, some .alignFault)
  else if (if e.kind = 2 then e.size * 256 else e.size) < off + 512 then (.none, some .handleRange)
  else if e.kind = 1 then
    if wr ∧ t.spanStanding (lineOf (e.base + off), lineOf (e.base + off + 511)) then (.none, some .handleKind)
    else (.scratch (e.base + off), none)
  else if e.kind = 2 then (.mem (e.base * 256 + off), none)
  else (.window e.endpoint (e.base % 256) (e.base / 256 * 64 + off), none)

/-- A vector job applied to the registers and the scratchpad, as its unit does it in order. A memory-tier VLD
writes nothing here. -/
def Tile.runVec (t : Tile) (j : VecJob) : Tile :=
  match j.f, j.place with
  | .vld, .scratch a => t.setVreg j.o.vd (bytesVec (t.read a 512))
  | .vld, _ => t
  | .vst, .scratch a => t.land a (vecBytes (t.vreg j.o.va))
  | .vst, _ => t
  | f, _ =>
    let (v, g) := vecResult f j.o (t.vreg j.o.va) (t.vreg j.o.vb) (t.vreg j.o.vc)
    (t.setVreg j.o.vd v).flags g

/-- The value a vector register will hold once the jobs in the queue are done. -/
def Tile.vregLater (t : Tile) (v : BitVec 3) : Vec := (t.units.vuq.foldl Tile.runVec t).vreg v

/-- The bytes a VST to memory or a window folds into the step signature: BASE, the offset and the data (R466). -/
def vstSig (t : Tile) (o : VecOp) : List Byte :=
  leBytes 4 (t.handle o.h).w1.toNat ++ leBytes 4 o.offset.toNat ++ vecBytes (t.vregLater o.va)

/-- A VST to module memory writes an output of its section, unless it writes a checkpoint (R169, R208). -/
def Tile.noteOutput (t : Tile) (h : BitVec 6) (p : VecPlace) : Tile :=
  match p with
  | .mem _ => if h.toNat < 62 then { t with units := { t.units with unfenced := true } } else t
  | _ => t

/-- Vector issue (R60, R83, R121, R122, R126, R127). Log 152 (DEDUCED). -/
def Tile.execVec (x : Ctx) (t : Tile) (i : Tis) (f : VecFn) (o : VecOp) : Tile :=
  if 4 ≤ t.units.vuq.length ∨ ((vecReads f o).any t.vheld) = true ∨ (f ≠ .vst ∧ t.vheld o.vd = true) then
    t.stall i false x.now x.limitUs
  else
    let add := fun (t : Tile) (p : VecPlace) (ns : List Nat) =>
      ({ t with units := { t.units with vuq := t.units.vuq ++ [⟨f, o, p, t.core.pc.toNat, ns⟩] } } : Tile).adv 2
    if f = .vld ∨ f = .vst then
      match t.vecPlace x f o with
      | (_, some c) => t.fail c i 0
      | (.scratch a, none) =>
        let r := if f = .vld then [(a, 512)] else []
        let w := if f = .vst then [(a, 512)] else []
        t.guard i x.now x.limitUs (t.sbCheck [r] [w] 1) fun t =>
          let (t, ns) := t.register (spanEntry (spanOf [(a, 512)]) (f = .vst) 1 t.core.pc.toNat)
          add t (.scratch a) ns
      | (p, none) =>
        let t := t.setRun .running
        add (if f = .vst then (t.foldSig (vstSig t o)).noteOutput o.h p else t) p []
    else add (t.setRun .running) .none []

/-! ### SEND and tokens (R95 to R97, R100) -/

/-- A handle use by SEND of `len` bytes from byte offset `off` (R121). A SEND of no bytes reads nothing.
Log 19 (DEDUCED). -/
def Tile.sendCheck (t : Tile) (h : BitVec 6) (off len : Nat) : Option FaultCode :=
  let e := t.handle h
  if len = 0 then none
  else if e.kind ≠ 1 ∨ e.canRead = false then some .handleKind
  else if e.size < off + len then some .handleRange
  else none

/-- SEND issue. A destination off the die ends with NO_TARGET at issue while the strand runs a service job (R473).
In ROLE 2 and 3 it retires with OK at once and nothing is sent (R466). Log 19 (DEDUCED). -/
def Tile.execSend (x : Ctx) (t : Tile) (i : Tis) (o : SendOp) : Tile :=
  let hdr := sendHeader x.slot t o
  let len := hdr.length
  let off := wbits (t.reg o.rlen) 16 16 * 64
  let a := (t.handle o.h).base + off
  if t.muRoom = false then t.stall i false x.now x.limitUs
  else if (if o.cnet then 256 else 4096) < len then t.fail .msgLength i 0
  else
    match t.sendCheck o.h off len with
    | some c => t.fail c i 0
    | none =>
      t.guard i x.now x.limitUs (t.sbCheck [[(a, len)]] [] (if len = 0 then 0 else 1)) fun t =>
        let t := t.foldMsg hdr (t.read a len)
        if t.shadowing then (t.setReg o.rds 0).adv 1
        else
          let bad := (hdr.dstEp = 0 ∧ (23 < hdr.dstRow.toNat ∨ 28 < hdr.dstPos.toNat)) ∨ (hdr.dstEp ≠ 0 ∧ x.service = true)
          let (t, ns) := if bad then (t, []) else t.register (spanEntry (spanOf [(a, len)]) false 2 t.core.pc.toNat)
          let e : MuEntry :=
            { msg := ⟨hdr, [], false⟩
              phase := if bad then .done 4 else .queued
              rds := some o.rds
              h := some o.h
              addr := a
              ents := ns
              credit := none
              limitUs := 0
              pc := t.core.pc.toNat }
          let t := { t with core := { t.core with held := o.rds :: t.core.held } }
          ((t.pushMu e).muTake x.pclass x.sendLimitUs).adv 1

/-- Put a token into the message unit (R100). -/
def Tile.sendToken (x : Ctx) (t : Tile) (i : Tis) (dst : Word) (su : BitVec 2) (v : Byte) : Tile :=
  if wbits dst 0 16 ≠ 0 then t.fail .illegalInstruction i 0
  else if t.muRoom = false then t.stall i false x.now x.limitUs
  else
    let hdr := tokenHeader x.slot dst su v
    let t := (t.foldMsg hdr []).setRun .running
    if t.shadowing then t.adv 1
    else
      let e : MuEntry :=
        { msg := ⟨hdr, [], false⟩
          phase := .queued
          rds := none
          h := none
          addr := 0
          ents := []
          credit := none
          limitUs := 0
          pc := t.core.pc.toNat }
      ((t.pushMu e).muTake x.pclass x.sendLimitUs).adv 1

/-- Log 28 (DEDUCED). -/
def Tile.execTstat (t : Tile) (o : TokOp) : Tile :=
  (t.setReg o.ra (BitVec.ofNat 32 (t.suStat o.su.toNat % 256))).adv 1

/-! ### FENCE and BAR (R102, R243) -/

/-- Every selected kind of earlier operation is complete. -/
def Tile.fenceDone (t : Tile) (remote mem net scratch : Bool) : Bool :=
  let win := fun (j : VecJob) => j.f = .vst && (match j.place with | .window _ _ _ => true | _ => false)
  let memw := fun (j : VecJob) => j.f = .vst && (match j.place with | .mem _ => true | _ => false)
  let scr := fun (j : VecJob) => j.f = .vst && (match j.place with | .scratch _ => true | _ => false)
  (!remote || (t.units.remoteWrites = 0 && !t.units.vuq.any win))
    && (!mem || (t.units.memWrites = 0 && !t.units.vuq.any memw))
    && (!net || !(t.units.mu.any fun e => e.rds.isSome))
    && (!scratch || (t.units.meq.isEmpty && !t.units.vuq.any scr))

/-- A FENCE is complete; one with MEM reports the section outputs written before it (R208). -/
def Tile.endFence (t : Tile) (mem : Bool) : Tile :=
  (if mem then { t with units := { t.units with unfenced := false } } else t).setRun .running |>.adv 1

def Tile.execFence (t : Tile) (remote mem net scratch : Bool) : Tile :=
  if t.fenceDone remote mem net scratch then t.endFence mem
  else t.setRun (.fencing remote mem net scratch)

/-! ### System class: reads of control registers -/

/-- CSRR: the control register at byte offset CSR. Log 16 (DEDUCED). -/
def Tile.execCsrr (x : Ctx) (t : Tile) (i : Tis) (rd : BitVec 5) (csr : BitVec 12) : Tile :=
  if csr.toNat % 4 ≠ 0 then t.fail .alignFault i 0
  else
    match t.regRead x csr.toNat with
    | none => t.fail .addressFault i 0
    | some v => (t.setReg rd v).adv 1

/-! ### Issue of everything that concerns the tile alone -/

/-- What an instruction does in its own tile, once no register it reads is held. Stores to control registers, CSRW,
BAR, HALT and TRAP only move past here; what they do is done over the whole state. -/
def Tile.local (x : Ctx) (t : Tile) (i : Tis) : Tile :=
  let r := t.setRun .running
  match i with
  | .alu f rd ra rb _ => r.execAlu f rd ra rb
  | .alui f rd ra imm => r.execAlui f rd ra imm
  | .load f rd base imm => t.execLoad x i f rd base imm
  | .store f d base imm => t.execStore x i f d base imm
  | .branch f ra rb off => r.execBranch f ra rb off
  | .jal rd off => r.execJal rd off
  | .jr rd ra _ => r.execJr rd ra
  | .lui rd _ imm => r.execLui rd imm
  | .lseti lc opnd => r.execLseti lc opnd
  | .lsetr lc q _ => r.execLsetr lc q
  | .loop lc off => r.execLoop lc off
  | .linc lc imm => r.execLinc lc imm
  | .lget lc q _ => r.execLget lc q
  | .lbz lc off => r.execLbz lc off
  | .toki o => t.sendToken x i (t.reg o.ra) o.su o.tval
  | .tokr o => t.sendToken x i (t.reg o.ra) o.su ((t.reg o.rb).truncate 8)
  | .tokl o => t.sendToken x i (selfWord x.slot) o.su o.tval
  | .tstat o => r.execTstat o
  | .send o => t.execSend x i o
  | .recvsel o => t.execRecvsel i o
  | .qrel o => r.execQrel o
  | .mmb o => t.execMmb x i o
  | .vec f o => t.execVec x i f o
  | .hset o => t.execHset x i o
  | .hget o => r.execHget o
  | .hswap o => t.execHswap x i o
  | .hfill o => t.execHfill x i o
  | .hunfill o => t.execHunfill x i o
  | .hinv o => t.execHinv x i o
  | .fence rm m n s _ => t.execFence rm m n s
  | .bar _ _ => r.adv 1
  | .halt _ _ _ => r.adv 1
  | .csrr rd _ csr => r.execCsrr x i rd csr
  | .csrw _ _ _ => r.adv 1
  | .trap _ _ _ => r

end Sys2Proof.Machine
end

