-- ==== Sys2Proof/Machine/StrandOps.lean ====
section
/-! DEFINITION. Shared operations on strands: stage restart (R199), tile reset (R172 step 1), STAGEMAP and STRAND (R145,
R147), applying a primer segment (R196 to R198), resident sets (R204 to R207), starting a stage (R200, R361), and the
end and the resume of a sequence (R172, R208, R459). -/

namespace Sys2Proof.Machine

/-! ### Restart and reset of a tile -/

/-- A line lies in one of some byte ranges. -/
def lineIn (rs : List Range) (line : Nat) : Bool :=
  rs.any fun r => r.2 ≠ 0 && lineOf r.1 ≤ line && line ≤ lineOf (r.1 + r.2 - 1)

/-- Clear the fill map except over some ranges. -/
def Tile.clearFill (t : Tile) (keep : List Range) : Tile :=
  { t with pad := { t.pad with fill := t.pad.fill.filter fun p => lineIn keep p.1 } }

/-- The generation of every receive queue advances (R229). -/
def Tile.advanceQueues (t : Tile) : Tile := (List.range 16).foldl (fun t q => t.setQueue q (t.queue q).advance) t

/-- Every scoreboard entry goes (R131, R199). -/
def Tile.clearSb (t : Tile) : Tile := { t with pad := { t.pad with sb := [] } }

/-- An outstanding message after its sender's registers, credits and entries are gone. -/
def MuEntry.orphan (e : MuEntry) : MuEntry := { e with rds := none, ents := [], credit := none }

/-- A stage restart; `keep` lists the resident regions (R199). Log 31 (DEDUCED), 154 (DEDUCED). -/
def Tile.restartStage (t : Tile) (keep : List Range) : Tile :=
  let c := t.core
  let t1 := { t with
    core := { c with
      regs := []
      lcs := []
      held := []
      run := .stopped
      fault := none
      mstat := 0
      lastSel := none }
    units := { t.units with
      meq := t.units.meq.map fun (j : MmbJob) => { j with ents := [] }
      vuq := t.units.vuq.map fun (j : VecJob) => { j with ents := [] }
      mu := t.units.mu.map MuEntry.orphan }
    started := false }
  (t1.advanceQueues.suClear.clearSb).clearFill keep

/-- QCTL after a tile reset: its reset values, QSIZE and GEN kept. -/
def Queue.shut (q : Queue) : Queue := { q with isOpen := false, replyOnly := false, resv := 0 }

/-- A slice that runs on the tile is given up; the target's contents are in place (R507). Log 31 (DEDUCED). -/
def Tile.endSlice (t : Tile) : Tile :=
  { t with skim := { t.skim with stat := 0, phase := .idle, repeated := false } }

/-- A tile reset (R125, R131, R163, R172, R229, R238). Handles, instruction store, scratchpad contents and windows stay
(R134, R207). Operations not yet under way are dropped; messages on the network go on. Log 31 (DEDUCED). -/
def Tile.resetTile (t : Tile) : Tile :=
  let t1 := t.restartStage []
  let t2 := (List.range 16).foldl (fun t q => t.setQueue q (t.queue q).shut) t1
  { t2.endSlice with
    units := { t2.units with
      meq := []
      vuq := []
      mu := t2.units.mu.filter fun e => e.phase = .flying
      fwd := none }
    fxfail := (0, 0)
    chk := { t2.chk with sig := 0, stepOpen := false } }

/-- A fenced tile: scratchpad, queue memory and registers cleared (R482). -/
def Tile.cleared (t : Tile) : Tile :=
  { Tile.reset with
    pad := { Pad.reset with bankOk := t.pad.bankOk, winslots := t.pad.winslots }
    enabled := false
    trimAsked := t.trimAsked
    ownPace := t.ownPace }

/-- Give up the slice that runs on a tile (R507). -/
def State.abandonSlice (s : State) (t : Nat) : State :=
  if (s.tile t).skim.phase = .idle then s
  else
    let s := (s.onTile t Tile.endSlice).bump K.skimAbandoned 1
    { s with selftest := { s.selftest with saveSlots := s.selftest.saveSlots.filter fun p => p.2 ≠ t } }

/-- Shadowed steps whose shadow tile is reset are shadowed no more: nothing of them waits to be compared. -/
def State.dropWatch (s : State) (ts : List Nat) : State :=
  let c := s.check
  let gone := c.watch.filter fun w => ts.contains w.2.2
  { s with check := { c with
      watch := c.watch.filter fun w => !ts.contains w.2.2
      posted := c.posted.filter fun p =>
        !(ts.contains p.tile.val && p.role = 2) &&
          !(p.role = 1 && gone.any fun w => w.1 = p.tile.val && w.2.1 = p.chunk.toNat) } }

/-! ### Whose work a stage does -/

/-- The job that the stage of a tile works for. -/
def State.tileJob (s : State) (t : Nat) : Option JobId :=
  (s.stageAt t).bind fun k => (s.strand (s.strandOf t)).ownerOf k

/-- The flags a tile has collected go to its job (R106). -/
def State.keepMstat (s : State) (t : Nat) : State :=
  match s.tileJob t with
  | none => s
  | some j => s.onHold j fun h => { h with mstat := h.mstat ||| (s.tile t).core.mstat }

/-- A tile has arrived at no barrier any more (R243). -/
def State.forgetArrivals (s : State) (t : Nat) : State :=
  { s with net := { s.net with
      barriers := mapVals (fun _ => ⟨[], []⟩) (fun (b : Barrier) => { b with arrived := b.arrived.filter (· ≠ t) }) s.net.barriers } }

/-- A tile is a member of no barrier any more. -/
def State.leaveBarriers (s : State) (t : Nat) : State :=
  let s := s.forgetArrivals t
  { s with net := { s.net with
      barriers := mapVals (fun _ => ⟨[], []⟩) (fun (b : Barrier) => { b with members := b.members.filter (· ≠ t) }) s.net.barriers } }

/-- Reset one tile; its flags go to its job first (R106, R172 step 1). -/
def State.resetOne (s : State) (t : Nat) : State :=
  (((s.keepMstat t).forgetArrivals t).abandonSlice t).onTile t Tile.resetTile

/-- Reset tiles (R172 step 1). -/
def State.resetTiles (s : State) (ts : List Nat) : State := ts.foldl State.resetOne (s.dropWatch ts)

/-! ### Priority classes (R219 to R221) -/

/-- Closure of the P classes begins, unless they are closed or closing. -/
def State.closeP (s : State) : State :=
  let p := s.get K.priorityClassState
  if p = 1 ∨ p = 2 then s else (s.set K.priorityClassState 1).bump K.priorityCloseCount 1

/-- Abano writes the priority arbitration tables (R218, R220 step 4). -/
def State.loadTables (s : State) : State :=
  let (n, s) := s.draw
  { s with net := { s.net with pTables := some n } }

/-! ### Resident sets -/

/-- Handles h and h + 30 change places (R206 step 2). -/
def Tile.swapSets (t : Tile) : Tile :=
  (List.range 30).foldl (fun t h =>
    let a := t.handle (BitVec.ofNat 6 h)
    let b := t.handle (BitVec.ofNat 6 (h + 30))
    (t.setHandle (BitVec.ofNat 6 h) b).setHandle (BitVec.ofNat 6 (h + 30)) a) t

/-- Residency slot of a plan file: 0 none, 1 slot A, 2 slot B. Log 32 (DEDUCED). -/
def Strand.residents (v : Strand) : List Nat := [v.resA, v.resB].filter (· ≠ 0)

/-- The resident regions of stage `k`. -/
def State.residentRanges (s : State) (st k : Nat) : List Range :=
  (s.strand st).residents.filterMap fun n =>
    (stageOf (s.planFile n) 0 k).map fun r => (r.resLow, r.resHigh - r.resLow)

/-- Footprints of two plans meet on some stage (R205). -/
def footprintsMeet (f g : List Byte) : Bool :=
  (List.range 24).any fun k =>
    match stageOf f 0 k, stageOf g 0 k with
    | some a, some b => a.footLow < b.footHigh && b.footLow < a.footHigh
    | _, _ => false

/-- The resident sets that stay while plan `n` is primed (R205): of two sets the one used last, and it only where `n` is
eligible in the other slot and the footprints do not meet; a plan that is not eligible leaves none.
Log 32 (DEDUCED). -/
def State.keepSets (s : State) (st n : Nat) : State :=
  let f := s.planFile n
  let v := s.strand st
  let r := planResidency f
  let both := v.resA ≠ 0 && v.resB ≠ 0
  let keep := fun (m slot : Nat) =>
    if m ≠ 0 ∧ r ≠ 0 ∧ r ≠ slot ∧ (both = false ∨ v.lastA = decide (slot = 1)) ∧ footprintsMeet f (s.planFile m) = false then m
    else 0
  s.setStrand st { v with resA := keep v.resA 1, resB := keep v.resB 2 }

/-- A plan has been primed on a strand: an eligible one takes its slot beside the set that stayed (R205). The entries of
the set that ran before lie in handles 30 to 59 now, and the plan's own in 0 to 29. Log 32 (DEDUCED). -/
def State.takeSlot (s : State) (st n : Nat) : State :=
  let v := { s.strand st with fresh := true, parked := [] }
  match planResidency (s.planFile n) with
  | 1 => s.setStrand st { v with resA := n, lastA := true }
  | 2 => s.setStrand st { v with resB := n, lastA := false }
  | _ => s.setStrand st { v with resA := 0, resB := 0 }

/-- The set that ran last is resident: its entries are parked before another plan is primed (R206). -/
def Strand.parks (v : Strand) : Bool := if v.lastA then v.resA ≠ 0 else v.resB ≠ 0

/-- Park the entries of the set that ran last before stage `k` takes another plan's segment (R206). -/
def State.parkStage (s : State) (st k t : Nat) : State :=
  let v := s.strand st
  if v.parks && !v.parked.contains k then
    (s.onTile t Tile.swapSets).onStrand st fun w => { w with parked := k :: w.parked }
  else s

/-- What resident_set_a and resident_set_b show: a plan counts as kept once its job is over (R205). -/
def Strand.shownSet (v : Strand) (a : Bool) : Nat :=
  let n := if a then v.resA else v.resB
  if v.fresh && v.lastA = a then 0 else n

/-- A plan is resident on a strand. -/
def State.isResident (s : State) (st n : Nat) : Bool := (s.strand st).residents.contains n

/-! ### Where a stage gets its plan -/

/-- The record of stage `k` under the plan it is primed with. -/
def State.stageRec (s : State) (st k : Nat) : Option StageRec :=
  let p := (s.strand st).planOf k
  stageOf (s.planFile p.1) p.2 k

/-- Stages of the present section. -/
def State.secStageCount (s : State) (st : Nat) : Nat :=
  let v := s.strand st
  (planSec (s.planFile v.plan) v.sec).stages

/-! ### STAGEMAP, STRAND, CHKCTL and the checkpoint handles -/

/-- The part of checkpoint slot `k` that a stage has (R169). -/
def State.ckptPart (s : State) (st k stage : Nat) : Nat :=
  if (s.strand st).fused.isSome ∧ 12 ≤ stage then ckptSlot (st + 1) k + (stage - 12) * 0x100000
  else ckptSlot st k + stage * 0x100000

/-- STRAND of stage `k` (R147), with RESUME and INTERVAL of the sequence that the stage works for. -/
def State.strandWord (s : State) (st k : Nat) : Word :=
  let v := s.strand st
  let ahead := v.next.isSome && v.halted.contains k
  BitVec.ofNat 32 (fld st 0 6 + b2n v.fused.isSome * 64 + b2n (v.resume && !ahead) * 128 + fld k 8 5
    + fld (s.stageSlots st).length 13 5 + fld (if ahead then v.nextInterval else v.interval) 20 12)

/-- RESUME_EPOCH of stage `k` (R172, R174): the last complete checkpoint of a sequence that resumes, else 0. -/
def Strand.resumeEpoch (v : Strand) (k : Nat) : BitVec 16 :=
  if v.resume && !(v.next.isSome && v.halted.contains k) then BitVec.ofNat 16 v.epoch else 0

/-- The STAGEMAP of a strand as register contents (R145, R147). -/
def State.stageMapOf (s : State) (st : Nat) : List (Nat × Word) :=
  (s.stageSlots st).zipIdx.map fun p => (p.2, selfWord p.1)

/-- STAGEMAP, STRAND, ROLE of CHKCTL and CKPT.RESUME_EPOCH of one stage (R145, R147, R172). -/
def State.mapStage (s : State) (st k t : Nat) : State :=
  let m := s.stageMapOf st
  let v := s.strand st
  s.onTile t fun x => { x with
    stageMap := m
    strandReg := s.strandWord st k
    resumeEpoch := v.resumeEpoch k
    chk := { x.chk with ctl := (x.chk.ctl &&& 0xFFFFFFFC) ||| BitVec.ofNat 32 (v.role % 4) } }

/-- The same of every tile of a strand (R145, R172). -/
def State.writeMap (s : State) (st : Nat) : State :=
  (s.stageSlots st).zipIdx.foldl (fun s p => s.mapStage st p.2 p.1) s

/-- Handles 62 and 63 of stage `k` (R169). -/
def State.ckptHandles (s : State) (st k t : Nat) : State :=
  s.onTile t fun x =>
    (x.setHandle 62 ⟨2, BitVec.ofNat 32 (s.ckptPart st 0 k / 256), 4096⟩).setHandle 63
      ⟨2, BitVec.ofNat 32 (s.ckptPart st 1 k / 256), 4096⟩

/-! ### Applying a segment -/

/-- A memory-tier handle of a plan relocated to the strand's grants (R184). -/
def relocate (st : Nat) (h : Handle) : Handle :=
  if h.kind = 2 then
    let g := grantPlace h
    { h with w1 := BitVec.ofNat 32 ((if g.1 then nearGrant st else farGrant st) / 256 + g.2.1) }
  else h

/-- An output to a stage, with ROW 31, becomes the stage's place (R198). -/
def steerPlace (slots : List Nat) (p : Word × Word) : Word × Word :=
  if outKind p = 2 ∧ wbits p.1 16 5 = 31 then
    match slots[wbits p.1 21 5]? with
    | some t => ((p.1 &&& 0xFC00FFFF) ||| (selfWord t), p.2)
    | none => p
  else p

/-- Write the steering units of a STEER record. -/
def Tile.applySteer (t : Tile) (slots : List Nat) (r : PrimerRec) : Tile :=
  (List.range 4).foldl (fun t u =>
    let t := (List.range 4).foldl (fun t o =>
      let p := steerPlace slots (steerOut r u o)
      (t.suOutWrite u o 0 p.1).suOutWrite u o 1 p.2) (t.suDisable u)
    t.suWrite u (BitVec.ofNat 32 (steerCfg r u))) t

/-- Set QSIZE of every queue. -/
def Tile.applyQsizes (t : Tile) (l : List Nat) : Tile :=
  (List.range 16).foldl (fun t q => t.setQueue q { t.queue q with qsize := l.getD q 0 }) t

/-- Write the words of an ISTORE record, zeros too (R197). -/
def Tile.applyIstore (t : Tile) (r : PrimerRec) : Tile :=
  { t with core := { t.core with
      istore := (List.range (r.payload.length / 4)).foldl (fun l i =>
        if r.target + i < 4096 then put (fun _ => 0) l (r.target + i) (BitVec.ofNat 32 (leAt r.payload (4 * i) 4)) else l)
        t.core.istore } }

/-- Apply one record to a tile of strand `st` (R197). -/
def Tile.applyRec (st : Nat) (slots : List Nat) (t : Tile) (r : PrimerRec) : Tile :=
  match r.typ with
  | 1 => t.applyIstore r
  | 2 => t.land r.target r.payload
  | 3 => (recHandles r).foldl (fun t h => t.setHandle (BitVec.ofNat 6 h.1) (relocate st h.2)) t
  | 4 => t.applySteer slots r
  | 5 => t.applyQsizes (qsizeInForce ((List.range 16).map fun q => leAt r.payload q 1))
  | 6 => t.markLines true (linesOf r.target r.arg)
  | _ => t

/-- Apply a whole segment (R196). -/
def Tile.applySegment (t : Tile) (st : Nat) (slots : List Nat) (rs : List PrimerRec) : Tile :=
  rs.foldl (Tile.applyRec st slots) t

/-- The slack a plan was given at a stage: added units and spill extensions (R189, R190). -/
def Tile.applyGifts (t : Tile) (gs : List SlackGift) : Tile :=
  gs.foldl (fun t g =>
    let q := t.queue g.queue
    t.setQueue g.queue { q with qsize := q.qsize + g.units, ext := g.ext })
    ((List.range 16).foldl (fun t q => t.setQueue q { t.queue q with ext := 0 }) t)

/-- The gifts of a plan at a stage. -/
def State.giftsAt (s : State) (n sec k : Nat) : List SlackGift :=
  (((s.plan n).map (·.gifts)).getD []).filter fun g => g.sec = sec && g.stage = k

/-- The spill ring of a stage: the strand's setting, never below the extensions reserved on it (R235). -/
def State.ringFor (s : State) (st k : Nat) (gs : List SlackGift) : Nat :=
  let v := s.strand st
  max ((if v.next.isSome && v.halted.contains k then v.nextRing else v.ring) * 1024) (total (gs.map (·.ext)))

/-- The entry word that START of a segment names, else the stage's. -/
def segEntry (rs : List PrimerRec) (r : StageRec) : Nat :=
  ((rs.filter fun p => p.typ = 15).getLast?.map (·.target)).getD r.entry

/-- Stage `k` takes its segment whole: queue sizes of its record, the segment's records, the slack, the handles of
R169. -/
def State.loadStage (s : State) (st k t : Nat) : State :=
  match s.stageRec st k with
  | none => s
  | some r =>
    let p := (s.strand st).planOf k
    let rs := recsOf (segment (s.planFile p.1) r)
    let gs := s.giftsAt p.1 p.2 k
    let slots := s.stageSlots st
    let s := s.onTile t fun x =>
      { ((x.applyQsizes r.qsize).applySegment st slots rs).applyGifts gs with ringBytes := s.ringFor st k gs }
    s.ckptHandles st k t

/-- Steering units and queue sizes of a stage, rewritten from the plan's cached records (R172, R206). -/
def State.configStage (s : State) (st k t : Nat) : State :=
  match s.stageRec st k with
  | none => s
  | some r =>
    let p := (s.strand st).planOf k
    let rs := (recsOf (segment (s.planFile p.1) r)).filter fun x => x.typ = 4 || x.typ = 5
    let gs := s.giftsAt p.1 p.2 k
    let slots := s.stageSlots st
    s.onTile t fun x =>
      { ((x.applyQsizes r.qsize).applySegment st slots rs).applyGifts gs with ringBytes := s.ringFor st k gs }

/-! ### Starting a stage -/

/-- START opens every queue with QSIZE above 0 (R228). -/
def Tile.openQueues (t : Tile) : Tile :=
  (List.range 16).foldl (fun t q =>
    let c := t.queue q
    if c.qsize = 0 then t else t.setQueue q { c with isOpen := true }) t

/-- A tile begins to issue at a word. -/
def Tile.startAt (t : Tile) (entry : Nat) : Tile :=
  let x := t.openQueues
  { x with
    core := { x.core with pc := BitVec.ofNat 12 entry, run := .running, fault := none }
    started := true }

/-- The class a message of a node may take now, by the rules of R219 and R220 for a message unit: `early` says that a PRI 1
message the node sent before in an O class is not over. Log 37 (DEDUCED). -/
def nodeClass (pclass : Nat) (early : Bool) (h : Header) : ClassNow :=
  if !h.priReq then .ordinary
  else if pclass = 0 then .priority
  else if pclass = 1 then .hold
  else if pclass = 3 && !early then .priority
  else .ordinary

/-- Two messages that are not a tile's come from one node: the host node, a fabric node or a cluster. -/
def NodeSend.sameNode (a : NodeSend) (job flow : Bool) : Bool := a.job.isSome = job && a.flow.isSome = flow

/-- A PRI 1 message that a node sent in an O class and that is not over (R220 step 5). -/
def NodeSend.demoted (n : NodeSend) : Bool := n.live && !n.held && n.msg.hdr.priReq && !n.msg.hdr.priUsed

/-- A message with its class chosen. -/
def Msg.inClass (m : Msg) (c : ClassNow) : Msg := { m with hdr := { m.hdr with priUsed := decide (c = .priority) } }

/-- A message from a sender that is not a tile joins those that wait for delivery, in the class of R219 and R220.
Log 36 (DESIGN CHOICE). -/
def State.nodeSend (s : State) (m : Msg) (job : Option JobId) (flow : Option FlowRef) : State :=
  let early := s.net.nodeSends.any fun n => n.sameNode job.isSome flow.isSome && n.demoted
  let c := nodeClass (s.get K.priorityClassState) early m.hdr
  { s with net := { s.net with
      nodeSends := s.net.nodeSends ++ [⟨m.inClass c, false, true, job, flow, 0, 0, decide (c = .hold)⟩] } }

/-- The job block of R361. -/
def jobBlock (shape : List Nat) (number : Nat) (place : Nat × Nat) : List Byte :=
  ((List.range 8).flatMap fun i => leBytes 4 (shape.getD i 0)) ++ leBytes 8 number ++ leBytes 2 place.1
    ++ leBytes 2 place.2 ++ zeros 20

/-- A part of `n` units from unit `lo`, named by two free numbers: its first unit and its units. -/
def partOf (lo n a b : Nat) : Nat × Nat := (lo + a % (n + 1), b % (n - a % (n + 1) + 1))

/-- Handles 28 and 29 over the sequence's input and its output block, whose places in the job's buffer are Abano's: the
input where the segments of its object lie, the output in the rest (R303, R361). Log 36 (DESIGN CHOICE). -/
def State.jobHandles (s : State) (st k t : Nat) (h : JobHold) : State :=
  let v := s.strand st
  let p := if v.next.isSome && v.halted.contains k then v.nextPlace else v.place
  let f := fun w => Config.jobPlace h.number p.1 p.2 w
  let n := min (ceilDiv (objLen h.hdr) 256) (h.reserve / 256)
  let i := partOf (h.buf / 256) n (f 0) (f 1)
  let o := partOf (h.buf / 256 + n) (h.reserve / 256 - n) (f 2) (f 3)
  s.onTile t fun x =>
    (x.setHandle 28 ⟨6, BitVec.ofNat 32 i.1, BitVec.ofNat 32 i.2⟩).setHandle 29 ⟨10, BitVec.ofNat 32 o.1, BitVec.ofNat 32 o.2⟩

/-- Handles 26, 27 and 29 of a STEP sequence over the committed weights, the contribution and the report block
(R439). -/
def State.tuneHandles (s : State) (t : Nat) (j : Option JobId) : State :=
  match s.tunes.find? fun p => p.2.job.isSome && p.2.job = j with
  | none => s
  | some p =>
    let size := BitVec.ofNat 32 (ceilDiv (4 * (p.2.denseElems + p.2.sparseElems)) 256)
    s.onTile t fun x =>
      let x := (x.setHandle 26 ⟨6, p.2.wBase, size⟩).setHandle 27 ⟨10, p.2.gBase, size⟩
      x.setHandle 29 ⟨10, p.2.rBase, BitVec.ofNat 32 (ceilDiv p.2.reportBytes 256)⟩

/-- The job block goes to queue 15 of a stage from a service-core cluster; which one is Abano's (R249, R361).
Log 36 (DESIGN CHOICE). -/
def State.sendJobBlock (s : State) (t number : Nat) (shape : List Nat) (place : Nat × Nat) : State :=
  let (n, s) := s.draw
  let h : Header := { Header.zero with
    dstRow := BitVec.ofNat 5 (rowOf t)
    dstPos := BitVec.ofNat 5 (posOf t)
    dstQ := 15
    tag := 0xFE00
    gen := ((s.tile t).queue 15).gen
    cnet := true
    srcRow := BitVec.ofNat 5 (2 + 6 * (Config.choice 1 n % 4))
    srcPos := 28
    length := 64 }
  s.nodeSend ⟨h, jobBlock shape number place, false⟩ none none

/-- Stage `k` of a strand starts at a word for the job it works for (R200, R361). -/
def State.startStage (s : State) (st k t entry : Nat) : State :=
  let v := s.strand st
  let ahead := v.next.isSome && v.halted.contains k
  let shape := if ahead then v.nextShape else v.shape
  let place := if ahead then v.nextPlace else v.place
  match (v.ownerOf k).bind s.desc with
  | none => s.onTile t fun x => x.startAt entry
  | some d =>
    let s := match d.hold with
      | some h => if d.service then (s.jobHandles st k t h).tuneHandles t (v.ownerOf k) else s
      | none => s
    let s := s.onTile t fun x => x.startAt entry
    if d.service then s.sendJobBlock t ((d.hold.map (·.number)).getD 0) shape place else s

/-! ### Sequences -/

/-- A new check epoch (text before R472). Log 34 (DEDUCED). -/
def State.newEpoch (s : State) (st : Nat) : State :=
  let n := s.check.epochs + 1
  ({ s with check := { s.check with epochs := n } } : State).onStrand st fun v => { v with checkEpoch := n }

/-- INTERVAL of a plan that is primed now (R147, R171). Log 34 (DEDUCED). -/
def State.intervalFor (s : State) (n : Nat) : Nat := if planCkptOff (s.planFile n) then 0 else s.get K.checkpointInterval

/-- A strand takes a sequence of a job and begins its priming (R145, R147, R235). -/
def State.beginSeq (s : State) (st : Nat) (job : JobId) (n : Nat) (shape : List Nat) (sec : Nat)
    (place : Nat × Nat) : State :=
  let s := s.onStrand st fun v => { v with
    phase := .priming
    plan := n
    sec := sec
    job := some job
    shape := shape
    place := place
    chunks := 0
    epoch := 0
    reports := []
    halted := []
    primed := 0
    again := none
    streaming := none
    resumes := 0
    resume := false
    ring := s.get (K.spillRingSize st)
    interval := s.intervalFor n
    fresh := false }
  s.newEpoch st

/-- A strand waits with a second job whose stages are primed behind the present one's (R200). -/
def State.queueNext (s : State) (st : Nat) (job : JobId) (n : Nat) (shape : List Nat) (place : Nat × Nat) : State :=
  s.onStrand st fun v => { v with
    nextPlace := place
    next := some job
    nextPlan := n
    nextShape := shape
    nextHalted := []
    nextReports := []
    primed := if v.phase = .running then 0 else v.primed }

/-- A strand runs nothing and belongs to no check group; one under re-placement goes on with that. -/
def Strand.toIdle (v : Strand) : Strand :=
  { v with
    phase := if v.phase = .replacing then .replacing else .idle
    was := .idle
    job := none
    halted := []
    reports := []
    primed := 0
    again := none
    streaming := none
    resume := false
    fresh := false
    role := 0
    group := none }

/-- A shadow strand with no working strand left in its group, and no step left to recompute, is free again (R460).
Log 94 (DEDUCED). -/
def State.tidyGroup (s : State) (g : Nat) : State :=
  let slots := s.stageSlots g
  if (s.strand g).role = 2 && !((List.range 48).any fun w => (s.strand w).role = 1 && (s.strand w).group = some g)
      && !(s.check.watch.any fun w => slots.contains w.2.2) then
    (s.onTiles (s.stageSlots g) fun t => t.restartStage []).onStrand g Strand.toIdle
  else s

def State.tidyGroups (s : State) : State := (List.range 48).foldl State.tidyGroup s

/-- A strand turns idle. -/
def State.idleStrand (s : State) (st : Nat) : State := (s.onStrand st Strand.toIdle).tidyGroups

/-- The present sequence is over: the next one takes its place, or the strand is idle. What stages primed ahead have
reported goes with their sequence (R170); INTERVAL and ring size are those its priming began with, if it has begun. -/
def State.seqOver (s : State) (st : Nat) : State :=
  let v := s.strand st
  match v.next with
  | none => s.idleStrand st
  | some j =>
    let n := (planSec (s.planFile v.nextPlan) 0).stages
    let s := s.setStrand st { v with
      phase := if v.primed < n then .priming else .running
      primed := if v.primed < n then v.primed else 0
      job := some j
      plan := v.nextPlan
      sec := 0
      shape := v.nextShape
      place := v.nextPlace
      chunks := 0
      epoch := 0
      reports := v.nextReports
      halted := v.nextHalted
      resumes := 0
      resume := false
      ring := if v.primed = 0 then s.get (K.spillRingSize st) else v.nextRing
      interval := if v.primed = 0 then s.intervalFor v.nextPlan else v.nextInterval
      fresh := false
      next := none
      nextShape := []
      nextHalted := []
      nextReports := [] }
    let s := s.newEpoch st
    if v.primed < n then s else s.takeSlot st v.nextPlan

/-- Reset every tile of a strand (R172 step 1); the P classes close for it (R219). Log 34 (DEDUCED). -/
def State.resetStrand (s : State) (st : Nat) : State := (s.resetTiles (s.stageSlots st)).closeP

/-- Every stage of a strand stops and the strand returns to IDLE, or a waiting job begins its priming anew. -/
def State.dropSeq (s : State) (st : Nat) : State :=
  let s := s.resetStrand st
  let v := s.strand st
  match v.next with
  | none => s.idleStrand st
  | some j =>
    let s := s.setStrand st { v with next := none, nextHalted := [], nextReports := [] }
    let s := s.beginSeq st j v.nextPlan v.nextShape 0 v.nextPlace
    if v.phase = .replacing then s.onStrand st fun w => { w with phase := .replacing, was := .priming } else s

/-- What a STEP that ends leaves of its session: before this member's STEP_DONE it counts as missing, after it the
completion is suppressed and the state still follows the outcome (R448, R453). -/
def Tune.lose (x : Tune) (j : JobId) : Tune :=
  if x.job = some j then
    if x.sentDone then { x with job := none, suppressed := true } else { x with state := .idle, job := none, buckets := [] }
  else x

/-- The waiting sequence of a strand is given up: its priming stops and the stages primed for it are reset; the present
sequence goes on (R200, R201). -/
def State.dropNext (s : State) (st : Nat) : State :=
  let v := s.strand st
  let run := v.phase = .running || (v.phase = .replacing && v.was = .running)
  let ahead := (s.stageSlots st).zipIdx.filter fun p => run && v.halted.contains p.2 && decide (p.2 < v.primed)
  let s := s.resetTiles (ahead.map (·.1))
  s.onStrand st fun w => { w with
    next := none
    nextHalted := []
    nextShape := []
    nextReports := []
    again := if run then none else w.again
    streaming := if run then none else w.streaming
    primed := if run then 0 else w.primed }

/-- A strand runs a job no more, neither now nor next. -/
def State.leaveStrand (s : State) (st : Nat) (j : JobId) : State :=
  let s := if (s.strand st).next = some j then s.dropNext st else s
  if (s.strand st).job = some j then s.dropSeq st else s

/-- Every strand that runs a job is reset. -/
def State.stopSeqs (s : State) (j : JobId) : State := (List.range 48).foldl (fun s st => s.leaveStrand st j) s

/-- The flags of every stage that works for a job go to it (R106). -/
def State.gatherMstat (s : State) (j : JobId) : State :=
  (s.tiles.map (·.1)).foldl (fun s t => if s.tileJob t = some j then s.keepMstat t else s) s

/-- The job of a sequence ends with an answer; every strand that runs it is reset. -/
def State.endJob (s : State) (j : JobId) (a : Answer) : State :=
  let s := (s.gatherMstat j).answer j a
  ({ s with tunes := mapVals (fun _ => Tune.closed) (fun (x : Tune) => x.lose j) s.tunes } : State).stopSeqs j

/-- Stages of the present section that are primed. While the strand runs with a job waiting, `primed` counts the
waiting job's stages and all of the present section's are primed. -/
def State.startedCount (s : State) (st : Nat) : Nat :=
  let v := s.strand st
  if v.phase = .priming then v.primed else s.secStageCount st

/-- Restart the stages of a strand that are primed, from their entry words (R172 step 4, R207). The resident region of
the running plan is filled again too. -/
def State.restartStages (s : State) (st : Nat) : State :=
  let n := s.startedCount st
  (s.stageSlots st).zipIdx.foldl (fun s p =>
    if p.2 < n then
      match s.stageRec st p.2 with
      | none => s
      | some r =>
        let keep := (r.resLow, r.resHigh - r.resLow) :: s.residentRanges st p.2
        let s := s.onTile p.1 fun x => x.markLines true (rangeLines keep)
        (s.configStage st p.2 p.1).startStage st p.2 p.1 r.entry
    else s) s

/-- CHECK_UNSETTLED (R458, R459). -/
def checkUnsettled : Nat := 0x10

/-- The present section is begun again from its last complete checkpoint, from chunk 0 where INTERVAL is 0, its check epoch
new; stages that already worked for a waiting job are streamed again (R171, R172, R209). -/
def State.resumeMarks (s : State) (st : Nat) : State :=
  let s := s.onStrand st fun v => { v with
    resume := v.epoch ≠ 0 && v.interval ≠ 0
    resumes := v.resumes + 1
    reports := v.reports.filter fun p => p.2 ≤ v.epoch
    chunks := v.epoch * v.interval
    halted := []
    nextHalted := []
    nextReports := []
    again := none
    streaming := none
    primed := if v.next.isSome && !v.halted.isEmpty then 0 else v.primed
    phase := if v.next.isSome && !v.halted.isEmpty then .priming else v.phase }
  s.newEpoch st

/-- Resume a strand from its last complete checkpoint (R172). The fourth resume from one checkpoint ends the job
(R459). Log 57 (DEDUCED). -/
def State.resumeStrand (s : State) (st : Nat) : State :=
  let v := s.strand st
  match v.job with
  | none => s.dropSeq st
  | some j =>
    if 3 ≤ v.resumes then s.endJob j { Answer.of St.tileFault with detail := checkUnsettled }
    else ((s.resetStrand st).resumeMarks st).writeMap st |>.restartStages st

end Sys2Proof.Machine
end

