-- ==== Sys2Proof/Machine/Supervisor.lean ====
section
/-! DEFINITION. The checking supervisor: trim and pace (R32 to R35), suspects and their ladder (R477 to R481), fencing
(R482, R483), disputes (R468), and what a tile fault leads to (R457 to R459). -/

namespace Sys2Proof.Machine

/-! ### Boot-flash blocks that wait to be written (R515, R517) -/

namespace Blk
def repairMap : Nat := 4
def dictionary : Nat := 5
def licences : Nat := 6
def security : Nat := 7
end Blk

/-- A block waits to be written to both copies. -/
def State.dirty (s : State) (b : Nat) : State :=
  if s.flash.waiting.contains b then s else { s with flash := { s.flash with waiting := s.flash.waiting ++ [b] } }

/-- A persisted entry gets a value of its own accord: it is written to flash with the dictionary (R517). -/
def State.setKept (s : State) (k v : Nat) : State :=
  if s.get k = v then s else (s.set k v).dirty Blk.dictionary

/-! ### Trim and pace -/

/-- The largest trim step that keeps a local supply at or below 0.93 V (R33). -/
def State.trimCap (s : State) : Nat := min 3 ((930 - s.get K.vcoreActual) / 25)

/-- The die is in safe pacing under the warning level. -/
def State.dipping (s : State) : Bool := s.power.dip.isSome

/-- Put the step asked for in force, as far as it fits (R33). -/
def State.applyTrim (s : State) (t : Nat) : State := s.setKept (K.tileTrim t) (min (s.tile t).trimAsked s.trimCap)

/-- Ask for a trim step; it is held while the die is below the warning level (R34). Log 114 (DEDUCED). -/
def State.askTrim (s : State) (t step : Nat) : State :=
  let s := s.onTile t fun x => { x with trimAsked := step }
  if s.dipping then s else s.applyTrim t

/-! ### Margins (R27) -/

/-- The two margins of a tile: as last read, or as when it was new, which is at least 20 %. Log 157 (DESIGN CHOICE). -/
def State.margins (s : State) (t : Nat) : Nat × Nat :=
  (look (fun _ => none) s.power.monitors t).getD (20 + Config.replicaMargin t 0 % 236, 20 + Config.replicaMargin t 1 % 236)

/-- tile_margin: the lower of the two. -/
def State.margin (s : State) (t : Nat) : Nat := min (s.margins t).1 (s.margins t).2

/-! ### Suspects -/

def State.suspect (s : State) (t : Nat) : Suspect := look (fun _ => Suspect.none) s.check.suspects t

def State.setSuspect (s : State) (t : Nat) (v : Suspect) : State :=
  { s with check := { s.check with suspects := put (fun _ => Suspect.none) s.check.suspects t v } }

/-- Row and position as bytes of an ARG. -/
def tileArg (t : Nat) : List Byte := leBytes 1 (rowOf t) ++ leBytes 1 (posOf t)

/-- A cause bit of tile_suspect_cause. -/
def State.addCause (s : State) (t b : Nat) : State :=
  s.setKept (K.tileSuspectCause t) (s.get (K.tileSuspectCause t) ||| 2 ^ b)

/-- A tile meets a criterion: it is a suspect, no measure taken by that alone (R478, R489). -/
def State.meet (s : State) (t b : Nat) : State :=
  let s := (s.setSuspect t { s.suspect t with since := s.timeBase }).addCause t b
  if s.get (K.tileHealth t) = 0 then s.setKept (K.tileHealth t) 6 else s

/-! CAUSE of a repair word (R521). -/

namespace Cause
def shipment : Nat := 1
def selfTest : Nat := 2
def ladder : Nat := 3
def majority : Nat := 4
def owner : Nat := 5
def march : Nat := 6
end Cause

/-- Fence a tile (R482, step 1 of R484). The stage it carries moves when the re-placement runs; a spare carries none. -/
def State.fence (s : State) (t cause : Nat) : State :=
  if s.slotFrost t || !s.slotEnabled t then s
  else
    let st := s.strandOf t
    let isSpare := decide (s.spareSlot (halfRow t) = t)
    let w := ((s.repairWord t) &&& 0xE3FFFFFF) ||| BitVec.ofNat 32 (2 ^ 25 + fld cause 26 3)
    let s := (((s.keepMstat t).leaveBarriers t).abandonSlice t).onTile t Tile.cleared
    let s := (((s.setRepair t w).setKept (K.tileHealth t) 4).bump K.frostTiles 1).dirty Blk.repairMap
    let s := s.raise 0x44 (tileArg t ++ leBytes 1 cause)
    if isSpare then s
    else
      let s := { s with check := { s.check with fencing := s.check.fencing ++ [t] } }
      s.closeP.onStrand st fun v => { v with
        phase := .replacing
        was := if v.phase = .replacing then v.was else v.phase }

/-- Rung 3 puts every target of the tile at the head of the schedule (R480, R501). -/
def State.skimFirst (s : State) (t : Nat) : State :=
  { s with check := { s.check with
      skimPriority := s.check.skimPriority.filter (fun p => p.1 ≠ t) ++ (List.range 26).map fun k => (t, k) } }

/-- One rung up the ladder (R480). -/
def State.climb (s : State) (t cause : Nat) : State :=
  let v := s.suspect t
  let trim := s.get (K.tileTrim t)
  let canTrim := decide (trim < s.trimCap)
  if v.rung ≤ 1 ∧ canTrim = true then
    let s := (s.setSuspect t { v with rung := 1 }).askTrim t (trim + 1)
    let s := s.setKept (K.tileHealth t) 1
    if v.rung = 0 then s.raise 0x43 (tileArg t ++ leBytes 1 (s.get (K.tileSuspectCause t))) else s
  else if v.rung ≤ 1 then
    let s := s.setSuspect t { v with rung := 2 }
    (s.setKept (K.tilePace t) (min 7 (s.get (K.tilePace t) + 2))).setKept (K.tileHealth t) 2
  else if v.rung = 2 then
    ((s.setSuspect t { v with rung := 3 }).setKept (K.tileHealth t) 3).skimFirst t
  else if v.rung = 3 then (s.setSuspect t { v with rung := 4 }).fence t cause
  else s

/-! ### Disputes -/

/-- The usable spare of a half-row that serves as third tile. -/
def State.spareFor (s : State) (t : Nat) : Option Nat :=
  let h := halfRow t
  if s.spareUsable h then some (s.spareSlot h) else none

/-- The third tile of R468, step 1: a spare of either half-row, else the stage-0 tile of an idle strand.
Log 61 (DESIGN CHOICE). -/
def State.thirdTile (s : State) (working shadow : Nat) : Option Nat :=
  let idle := ((List.range 48).find? fun st =>
    (s.strand st).phase = .idle && (s.strand st).claimed.isNone && !(s.stageSlots st).isEmpty)
  (s.spareFor working <|> s.spareFor shadow <|> idle.bind fun st => s.stageSlot st 0).filter fun t =>
    !(s.check.disputes.any fun d => d.third = some t)

/-- Prime a third tile with the stage's segment, copy the hand-over to it and run it in ROLE 3 (R468, steps 2 to 4).
Log 61 (DESIGN CHOICE). -/
def State.runThird (s : State) (t : Nat) (d : Dispute) : State :=
  let st := s.strandOf d.working
  match stageOf (s.planFile d.plan) (s.strand st).sec d.stage with
  | none => s
  | some r =>
    let rs := recsOf (segment (s.planFile d.plan) r)
    let slots := s.stageSlots st
    let hand := ((s.tile d.shadow).queue 13).held
    s.onTile t fun x =>
      let x := (x.resetTile.applyQsizes r.qsize).applySegment st slots rs
      let x := hand.foldl (fun x m => x.hold 13 m) (x.setQueue 13 { x.queue 13 with isOpen := true })
      let x := { x with
        stageMap := (s.tile d.working).stageMap
        strandReg := (s.tile d.working).strandReg
        chk := { x.chk with ctl := (x.chk.ctl &&& 0xFFFFFFFC) ||| 3, work := d.working } }
      x.startAt (segEntry rs r)

/-- Find a third tile for a dispute that has none (R468). -/
def State.seekThird (s : State) (d : Dispute) : State × Dispute :=
  match d.third with
  | some _ => (s, d)
  | none =>
    match s.thirdTile d.working d.shadow with
    | none => (s, d)
    | some t => (s.runThird t d, { d with third := some t })

/-- A dispute over a step of a working tile. -/
def State.disputeOf (s : State) (w sh chunk : Nat) (sigW sigS : BitVec 64) : Dispute :=
  let st := s.strandOf w
  let v := s.strand st
  { strand := st
    plan := v.plan
    stage := (s.stageAt w).getD 0
    chunk := chunk
    working := w
    shadow := sh
    third := none
    sigW := sigW
    sigS := sigS
    job := v.job
    shape := v.shape
    sec := v.sec
    place := v.place
    began := s.timeBase
    prevSince := (s.suspect w).since
    prevCause := s.get (K.tileSuspectCause w)
    prevHealth := s.get (K.tileHealth w) }

/-- The results of a shadowed step differ (R468). -/
def State.mismatch (s : State) (d : Dispute) : State :=
  let s := (s.meet d.working 1).meet d.shadow 1
  let s := (s.bump K.shadowMismatches 1).raise 0x41
    (tileArg d.working ++ tileArg d.shadow ++ leBytes 2 d.plan ++ leBytes 1 d.stage ++ leBytes 4 d.chunk)
  let (s, d) := s.seekThird d
  { s with check := { s.check with disputes := s.check.disputes ++ [d] } }

/-- Nothing of a shadowed step waits to be compared any more. Log 93 (DEDUCED). -/
def State.unwatch (s : State) (w chunk : Nat) : State :=
  { s with check := { s.check with
      watch := s.check.watch.filter fun x => !(x.1 = w && x.2.1 = chunk)
      posted := s.check.posted.filter fun p => !(p.role ≠ 3 && p.working.val = w && p.chunk.toNat = chunk) } }

/-! ### Tile faults -/

/-- Dictionary counters of a fault code (R139, R489). -/
def State.countFault (s : State) (c : FaultCode) : State :=
  match c with
  | .handleUnfilled => s.bump K.handleUnfilledCount 1
  | .scoreboardTimeout => s.bump K.scoreboardTimeoutCount 1
  | .residueFault => s.bump K.residueFaults 1
  | _ => s

/-- The raw descriptor that started a tile. -/
def State.rawOwner (s : State) (t : Nat) : Option JobId :=
  ((s.strand (s.strandOf t)).rawLoads.find? fun p => p.1 = t).map (·.2)

/-- The tile's raw descriptor is over. Log 79 (DEDUCED). -/
def State.dropRaw (s : State) (t : Nat) : State :=
  s.onStrand (s.strandOf t) fun v => { v with rawLoads := v.rawLoads.filter fun p => p.1 ≠ t }

/-- A RESIDUE_FAULT makes its tile a suspect that climbs at once (R457, R478, R480). -/
def State.residueSuspect (s : State) (t : Nat) : State :=
  let st := s.strandOf t
  let v := s.strand st
  let k := (s.stageAt t).getD 0
  let s := s.raise 0x40 (tileArg t ++ leBytes 2 (v.planOf k).1 ++ leBytes 1 k)
  (s.meet t 2).climb t Cause.ladder

/-- How the sequence of a tile fares after a report of code `c` (R457). -/
def State.faultOutcome (s : State) (t : Nat) (c : FaultCode) : State :=
  let st := s.strandOf t
  let v := s.strand st
  let k := (s.stageAt t).getD 0
  match s.rawOwner t with
  | some j =>
    (s.answer j { Answer.of St.tileFault with
      mstat := (s.tile t).core.mstat.toNat
      detail := faultDetail c.code t }).dropRaw t
  | none =>
    if c = .residueFault then
      if (s.strand st).phase = .replacing then s else s.resumeStrand st
    else
      match v.ownerOf k with
      | none => s.dropSeq st
      | some j =>
        if c = .memUncorrectable then s.endJob j (Answer.of St.memUncorrectable)
        else s.endJob j { Answer.of St.tileFault with detail := faultDetail c.code t }

/-- The supervisor takes a fault report of a tile (R457). In the shadow and third roles it never ends a job: in the
shadow role it counts as a disagreeing result (R459). -/
def State.tileFaulted (s : State) (t : Nat) (c : FaultCode) : State :=
  let s := s.countFault c
  let s := if c = .residueFault then s.residueSuspect t else s
  let x := s.tile t
  if x.role = 2 then
    let w := x.chk.work
    let post := s.check.posted.find? fun p => p.role = 1 && p.tile.val = w && p.chunk.toNat = x.chk.chunk
    let sigW := match post with
      | some p => p.sig
      | none => (s.tile w).chk.sig
    (s.unwatch w x.chk.chunk).mismatch (s.disputeOf w t x.chk.chunk sigW x.chk.sig)
  else if x.role = 3 then s
  else s.faultOutcome t c

/-- Hand a tile's standing fault to the supervisor. -/
def State.reportFault (s : State) (t : Nat) : State :=
  match (s.tile t).core.fault with
  | none => s
  | some f => s.tileFaulted t f.code

end Sys2Proof.Machine
end

