-- ==== Sys2Proof/Machine/FabricOps.lean ====
section
/-! DEFINITION. Shared operations of the Wazel fabric: licensed ports (R394), routes (R408 to R411), flows and transfers at
their source (R402 to R404, R413, R414, R418, R419), multicast (R421 to R424) and windows (R425 to R429). -/

namespace Sys2Proof.Machine

/-! ### Licence levels in force -/

/-- Fabric ports the licences in force grant (R7, R314). -/
def State.licPorts (s : State) : Nat := bits (s.get K.licenceFeatures) 0 4
def State.licTuning (s : State) : Bool := bit (s.get K.licenceFeatures) 4
def State.licRaw (s : State) : Nat := bits (s.get K.licenceFeatures) 8 4
def State.licStrands (s : State) : Nat := bits (s.get K.licenceFeatures) 16 8

/-! ### Ports and routes -/

def State.port (s : State) (n : Nat) : FPort := look (fun _ => FPort.dark) s.fabric.ports n

def State.setPort (s : State) (n : Nat) (p : FPort) : State :=
  { s with fabric := { s.fabric with ports := put (fun _ => FPort.dark) s.fabric.ports n p } }

def State.onFabric (s : State) (f : Fabric → Fabric) : State := { s with fabric := f s.fabric }

/-- A port carries traffic: port_state UP. -/
def State.portUp (s : State) (n : Nat) : Bool := s.get (K.portState n) = 2

/-- The route entry of an endpoint (R408). -/
def State.route (s : State) (e : Nat) : Nat :=
  if e = 0 ∨ 4096 < e then 0 else (look (fun _ => 0) s.fabric.active.routes (e - 1)).toNat

def routePorts (w : Nat) : Nat := bits w 0 8
def routeSelf (w : Nat) : Bool := bit w 8
def routeX (w : Nat) : Bool := bit w 9
def routeY (w : Nat) : Bool := bit w 10
def routePos (w : Nat) : Nat := bits w 11 6
def routeValid (w : Nat) : Bool := bit w 17

/-- Fields of the route control word (R409). -/
def State.ringX (s : State) : Nat := wbits s.fabric.active.control 8 6 + 1
def State.ringY (s : State) : Nat := wbits s.fabric.active.control 14 6 + 1

/-- The X ports and the Y ports (R394). -/
def xPorts : List Nat := [0, 1, 4, 5]
def yPorts : List Nat := [2, 3, 6, 7]

/-- The candidates of R410, step 2 and 3. -/
def State.candidates (s : State) (w : Nat) (plane : Bool) : List Nat :=
  let allowed := fun (l : List Nat) => l.filter fun n => bit (routePorts w) n
  let a := allowed (if plane then yPorts else xPorts)
  let b := allowed (if plane then xPorts else yPorts)
  (if a.isEmpty then b else a).filter s.portUp

/-- The candidate taken (R410, step 4). A packet leaves its output queue in the step that puts it there, so the queues
are equally short between steps and the choice goes in rotation. -/
def State.choosePort (s : State) (l : List Nat) : Option Nat :=
  let key := fun (n : Nat) => (n + 8 - s.fabric.rotate % 8) % 8
  l.foldl (fun b n =>
    match b with
    | none => some n
    | some m => if key n < key m then some n else some m) none

/-- A packet leaves by a port. Log 43 (DEDUCED). -/
def State.sendBy (s : State) (n : Nat) (p : Packet) : State :=
  let s := s.onFabric fun f => { f with rotate := n + 1 }
  if h : n < 8 then s.emit (.packet ⟨n, h⟩ p) else s

/-- DCLASS of a packet that leaves by a port (R411). -/
def State.dclassAfter (s : State) (n : Nat) (cls : Bool) : Bool := cls || bit s.fabric.active.control.toNat n

/-! ### Flows (R413, R414) -/

/-- FLOW of a sender at a row and position. -/
def flowOf (row pos cls net kind : Nat) : Nat := 29 * row + pos + fld cls 10 2 + fld net 12 1 + fld kind 13 3

/-- The class of a message header as R413 numbers it. -/
def Header.flowClass (h : Header) : Nat := 2 * b2n h.reply + b2n (!h.priUsed)

/-- FLOW of a message. -/
def Header.flow (h : Header) (kind : Nat) : Nat :=
  flowOf h.srcRow.toNat h.srcPos.toNat h.flowClass (b2n h.cnet) kind

/-- The home node of a destination and flow (R414). Log 43 (DEDUCED). -/
def State.homeNode (s : State) (e flow : Nat) : Nat := (e + flow) % max 1 s.licPorts

/-- Packets of one destination and flow that are not acknowledged. -/
def State.unackedPackets (s : State) (dst flow : Nat) : Nat :=
  total ((s.fabric.transfers.filter fun t => t.sent && t.dst.toNat = dst && t.flow.toNat = flow).map (·.packets.length))

/-- Bytes a home node's retransmit store holds. -/
def State.storeUsed (s : State) (home : Nat) : Nat :=
  total ((s.fabric.transfers.filter fun t => s.homeNode t.dst.toNat t.flow.toNat = home).map fun t =>
    total (t.packets.map fun p => 80 + p.payload.length))

/-- The next SEQ of a destination and flow. Log 30 (DESIGN CHOICE). -/
def State.seqOf (s : State) (dst flow : Nat) : Nat := look (fun _ => 0) s.fabric.nextSeq (dst * 65536 + flow)

/-- Cut a payload into packets of up to 1,024 bytes, at least one (R404). -/
def chunks1k (l : List Byte) : List (List Byte) :=
  (List.range (max 1 (ceilDiv l.length 1024))).map fun i => (l.drop (i * 1024)).take 1024

/-- A packet with the fields every packet has, addresses and sequence apart. -/
def Packet.blank (ty : PType) : Packet :=
  { dst := 0
    src := 0
    ptype := ty
    first := true
    last := true
    mcast := false
    plane := false
    dclass := false
    rsp := false
    hops := 0
    flow := 0
    seq := 0
    span := 1
    pktCounter := 0
    egress := 0
    age := 0
    arg := 0
    inner := []
    targets := 0
    payload := []
    tag := [] }

/-- The packets of a transfer (R402, R404), before they are sealed. -/
def mkPackets (p : Packet) (seq : Nat) (parts : List (List Byte)) : List Packet :=
  parts.zipIdx.map fun x =>
    { p with
      first := x.2 = 0
      last := x.2 + 1 = parts.length
      seq := BitVec.ofNat 16 (seq + x.2)
      span := if x.2 + 1 = parts.length then parts.length else 0
      payload := x.1 }

/-! ### Windows -/

def State.window (s : State) (w : Nat) : Window := look (fun _ => Window.closed) s.fabric.windows w

def State.setWindow (s : State) (w : Nat) (v : Window) : State :=
  s.onFabric fun f => { f with windows := put (fun _ => Window.closed) f.windows w v }

/-- SIZE of a window in bytes. -/
def Window.bytes (w : Window) : Nat := if w.kind = 1 then w.size else w.size * 256

/-- A source lies within a window's scope (R425). -/
def State.inScope (s : State) (w : Window) (src : Nat) : Bool :=
  let r := s.route src
  match w.scope with
  | 0 => true
  | 1 => src = w.peer
  | 2 => routeX r
  | _ => routeY r

/-- The endpoints a close asks (R428 step 2). -/
def State.scopeEndpoints (s : State) (w : Window) : List Nat :=
  let all := (s.fabric.active.directory.map (·.id.toNat)).filter (· ≠ s.get K.endpointId)
  if w.scope = 1 then [w.peer] else all.filter (s.inScope w)

/-- Window data land, in module memory by whole lines (R135, R254, R427). -/
def State.landWindow (s : State) (w : Window) (off : Nat) (bs : List Byte) : State :=
  if w.kind = 1 then s.onTile w.slot fun t => t.land (w.base + off) bs
  else s.writeLines (w.base * 256 + off) bs

/-- A window of a tile shows in one of its slots (R134, R138). Log 25 (DESIGN CHOICE). -/
def Tile.setWinSlot (t : Tile) (i : Nat) (v : WinSlot) : Tile :=
  { t with pad := { t.pad with winslots := put (fun _ => WinSlot.free) t.pad.winslots i v } }

/-- A free window number outside its reuse hold; which one the spec leaves open (R426, R429). -/
def State.freeWindow (s : State) : Option (Nat × State) :=
  s.pick 15 ((List.range 256).filter fun w => (s.window w).state = 0 && (s.window w).freedAt.isNone)

/-- The first free window slot of a tile. -/
def Tile.freeWinSlot (t : Tile) : Option Nat :=
  (List.range 4).find? fun i => !(look (fun _ => WinSlot.free) t.pad.winslots i).isOpen

/-- Close-complete: the standing producer goes, the slot is freed, the number waits for its reuse hold (R137, R428,
R429). A raw close is answered. -/
def State.closeComplete (s : State) (w : Nat) : State :=
  let v := s.window w
  let s := if v.kind = 1 then s.onTile v.slot fun t => t.setWinSlot v.winslot WinSlot.free else s
  let s := match v.owner with
    | some j => s.endWith j St.ok
    | none => s
  (s.setWindow w { Window.closed with freedAt := some s.timeBase }).onFabric fun f =>
    { f with transfers := f.transfers.filter fun t => t.owner ≠ .close w }

/-- An endpoint has answered a close, or its WCLOSE has ended; the last one completes the close (R428, step 4). -/
def State.closeAck (s : State) (w : Nat) (eps : List Nat) : State :=
  let v := s.window w
  if v.state ≠ 2 then s
  else
    let left := v.waitAck.filter fun e => !eps.contains e
    let s := s.setWindow w { v with waitAck := left, acked := v.acked ++ eps }
    if left.isEmpty then s.closeComplete w else s


/-! ### Packets that leave (R403, R410, R411) -/

/-- The key this module sends under (R306). -/
def State.mySendKey (s : State) : List Byte := sendKey s.vault.fabricActive Config.serial.toNat (s.get K.coldStartCount)

/-- A packet sealed with a port's counter for its first hop (R306, R403). -/
def State.sealFor (s : State) (n : Nat) (p : Packet) : State × Packet :=
  let q := s.port n
  (s.setPort n { q with counter := q.counter + 1 }, ({ p with
    pktCounter := BitVec.ofNat 64 q.counter
    egress := n
    dclass := s.dclassAfter n false
    hops := 1 } : Packet).seal s.mySendKey)

/-- A packet of this module's under its sender's key, whose serial number and cold starts the directory gives; none where
its tag fails (R306, R403). A sender the directory does not name has no key. Log 147 (DEDUCED). -/
def State.openPacket (s : State) (p : Packet) : Option Packet :=
  (s.fabric.active.directory.find? fun e => e.id = p.src).bind fun e =>
    p.unseal (sendKey s.vault.fabricActive e.serial.toNat e.coldStarts.toNat)

/-- Seal a packet with its egress port's counter and send it. A packet for this module itself leaves by its home node. A
packet with no candidate answers none. Log 43 (DEDUCED). -/
def State.egress (s : State) (p : Packet) (w : Nat) : Option (State × Packet) :=
  let plane := s.fabric.plane
  let port := if routeSelf w then some (s.homeNode p.dst.toNat p.flow.toNat)
    else s.choosePort (s.candidates w plane)
  match port with
  | none => none
  | some n =>
    let (s, p) := s.sealFor n { p with plane := plane }
    some ((s.onFabric fun f => { f with plane := !plane }).sendBy n p, p)

/-- Send a packet again byte for byte, perhaps by another port (R403, R417). -/
def State.resend (s : State) (p : Packet) : State :=
  match s.choosePort (s.candidates (s.route p.dst.toNat) p.plane) with
  | none => s
  | some n => (s.sendBy n { p with dclass := s.dclassAfter n false }).bump K.retransmitCount 1

/-- A packet outside any transfer: ACK, NACK, STATUS or WCLOSE_ACK. -/
def State.sendControl (s : State) (ty : PType) (dst flow : Nat) (a : Word) (inner : List Byte) : State :=
  let w := s.route dst
  let p := { Packet.blank ty with
    dst := BitVec.ofNat 16 dst
    src := BitVec.ofNat 16 (s.get K.endpointId)
    rsp := true
    flow := BitVec.ofNat 16 flow
    arg := a
    inner := inner }
  if !routeValid w then s
  else
    match s.egress p w with
    | some (s, _) => s
    | none => s

/-- INNER of a window write or close: window number and offset (R402). -/
def windowInner (w off : Nat) : List Byte := leBytes 4 (w % 256) ++ leBytes 4 (off / 64) ++ zeros 8

/-- FLOW of a packet that no tile sends. Its sending node and class are not stated. Log 40 (DESIGN CHOICE). -/
def State.freeFlow (s : State) : Nat × State :=
  let (n, s) := s.draw
  (Config.choice 7 n % 65536, s)

/-- The answer of R428, step 3. Log 40 (DESIGN CHOICE). -/
def State.sendCloseAck (s : State) (owner : BitVec 16) (w : Nat) : State :=
  let (flow, s) := s.freeFlow
  s.sendControl .wcloseAck owner.toNat flow 0 (windowInner w 0)

/-- A module that holds new transfers reports READY up the tree once those it sent have ended (R412, steps 2 and 3). -/
def State.tryReady (s : State) : State :=
  if s.fabric.epochPhase = .prepared ∧ (s.fabric.transfers.any (·.sent)) = false then
    (s.onFabric fun f => { f with epochPhase := .ready }).emit (.link 4 [Config.serial.toNat] [])
  else s

/-- A transfer of window writes is over: a close that waited for it may be answered (R428, step 3). -/
def State.closeWaits (s : State) (t : Transfer) : State :=
  let key := (t.flow, (t.packets.headD (Packet.blank .msg)).seq)
  s.fabric.closes.foldl (fun s c =>
    if c.owner = t.dst ∧ c.waits.contains key = true then
      let c' := { c with waits := c.waits.filter fun k => k ≠ key }
      if c'.waits.isEmpty then
        (s.onFabric fun f => { f with closes := f.closes.filter fun d => d ≠ c }).sendCloseAck c.owner c.window
      else s.onFabric fun f => { f with closes := f.closes.map fun d => if d = c then c' else d }
    else s) s

/-! ### Ending a transfer (R418, R419) -/

/-- Capture a failure in FXFAIL. -/
def Tile.fabricFail (t : Tile) (code tag : Nat) : Tile :=
  let w1 := t.fxfail.2.toNat
  let count := satAdd 65535 (w1 / 65536) 1
  if bit t.fxfail.1.toNat 31 then { t with fxfail := (t.fxfail.1, BitVec.ofNat 32 (w1 % 65536 + count * 65536)) }
  else { t with fxfail := (BitVec.ofNat 32 (code % 256 + 2 ^ 31), BitVec.ofNat 32 (tag % 65536 + count * 65536)) }

/-- Release one reply credit of a queue, reserved after its generation had advanced `n` times; a later advance has released
it already (R225). -/
def Tile.releaseCredit (t : Tile) (q n : Nat) : Tile :=
  let c := t.queue q
  if c.advances = n then t.setQueue q { c with credits := c.credits - 1 } else t

/-- Completion status of a raw operation that ends with a fabric code, and COUNT0 (R418, R426). -/
def rawOutcome (code : Nat) : Answer :=
  if code ≤ 0x09 then { Answer.of St.ok with count0 := code }
  else if code = 0x20 then Answer.of 0x35
  else if code = 0x21 then Answer.of 0x36
  else if code = 0x22 then Answer.of 0x37
  else Answer.of code

/-- The counter that matches a code (R418). -/
def State.countCode (s : State) (code : Nat) : State :=
  if code = 0x1D then s.bump K.fabricLossCount 1
  else if code = 0x02 then s.bump K.queueClosedDrops 1
  else if code = 0x03 then s.bump K.queueStaleDrops 1
  else if code = 0x04 then s.bump K.noTargetDrops 1
  else if code = 0x01 then s.bump K.spillExhaustedCount 1
  else s

/-- A transfer is over with a code; 0 stands for placement, landing or acknowledgement. -/
def State.endTransfer (s : State) (t : Transfer) (code : Nat) : State :=
  let s := s.onFabric fun f => { f with transfers := f.transfers.filter fun u => u ≠ t }
  let s :=
    match t.owner with
    | .tile n =>
      if t.window.isSome then
        s.onTile n fun x =>
          let x := { x with units := { x.units with remoteWrites := x.units.remoteWrites - 1 } }
          if code = 0 then x else x.fabricFail code 0
      else if code = 0 then s
      else s.onTile n fun x => x.fabricFail code t.tag
    | .raw j => s.answer j (if code = 0 then Answer.of St.ok else rawOutcome code)
    | .close w =>
      if code = 0 then s
      else if t.dst.toNat < 0xF000 then s.closeAck w [t.dst.toNat] else s.closeAck w (s.window w).waitAck
    | .core _ | .mcast _ | .tune _ => s
  let s := (s.closeWaits t).tryReady
  if code = 0 then s
  else
    let s :=
      match t.credit with
      | some (n, q, a) => s.onTile n fun x => x.releaseCredit q a
      | none => s
    let s := s.countCode code
    if code = 0x1D then s.raise 0x30 (leBytes 2 t.dst.toNat) else s

/-! ### Starting a transfer -/

/-- Send packets in turn; none where one has no candidate. -/
def State.egressAll (s : State) (w : Nat) : List Packet → Option (State × List Packet)
  | [] => some (s, [])
  | p :: l =>
    match s.egress p w with
    | none => none
    | some (s, p') => (State.egressAll s w l).map fun r => (r.1, p' :: r.2)

/-- Send every packet of a transfer; one without a route ends it with NO_ROUTE (R410). Log 37 (DEDUCED). -/
def State.launch (s : State) (t : Transfer) : State :=
  let w := s.route t.dst.toNat
  if !routeValid w then s.endTransfer t 0x22
  else
    match s.egressAll w t.packets with
    | none => s.endTransfer t 0x22
    | some (s, ps) => s.onFabric fun f =>
        { f with transfers := f.transfers.map fun u => if u = t then { t with sent := true, packets := ps } else u }

/-- A transfer may leave now: no epoch barrier holds it, and its flow has room (R412, R413). -/
def State.mayLaunch (s : State) (t : Transfer) : Bool :=
  s.fabric.epochPhase = .none && s.unackedPackets t.dst.toNat t.flow.toNat + t.packets.length ≤ 4096

/-- Transfers that wait leave, oldest first (R412 step 5, R413). -/
def State.launchHeld (s : State) : State :=
  (s.fabric.transfers.filter fun t => !t.sent).foldl (fun s t => if s.mayLaunch t then s.launch t else s) s

/-- A home node takes a transfer (R413, R414): it numbers the packets and sends them, or holds them. -/
def State.takeTransfer (s : State) (dst flow : Nat) (p : Packet) (parts : List (List Byte)) (owner : TOwner) (tag : Nat)
    (credit : Option (Nat × Nat × Nat)) (window : Option Nat) : State :=
  let seq := s.seqOf dst flow
  let me := BitVec.ofNat 16 (s.get K.endpointId)
  let ps := mkPackets { p with dst := BitVec.ofNat 16 dst, src := me, flow := BitVec.ofNat 16 flow } seq parts
  let t : Transfer := ⟨BitVec.ofNat 16 dst, BitVec.ofNat 16 flow, ps, owner, tag, credit, window, false⟩
  let s := s.onFabric fun f => { f with
    nextSeq := put (fun _ => 0) f.nextSeq (dst * 65536 + flow) ((seq + ps.length) % 65536)
    transfers := f.transfers ++ [t] }
  if s.mayLaunch t then s.launch t else s

/-- The retransmit store of a home node has room for some payload (R414). -/
def State.storeRoom (s : State) (dst flow len : Nat) : Bool :=
  s.storeUsed (s.homeNode dst flow) + len + 80 * max 1 (ceilDiv len 1024) ≤ 8388608

/-- A tile's VST through a KIND 3 handle: one WWRITE packet of 512 bytes (R404). Log 37 (DEDUCED). -/
def State.windowStore (s : State) (t ep w off : Nat) (bs : List Byte) : State :=
  let s := s.onTile t fun x => { x with units := { x.units with remoteWrites := x.units.remoteWrites + 1 } }
  s.takeTransfer ep (flowOf (rowOf t) (posOf t) 1 0 1) { Packet.blank .wwrite with inner := windowInner w off } [bs]
    (.tile t) 0 none (some w)

/-! ### Multicast (R421 to R424) -/

/-- Ring length of a multicast; 1 while no route control word is in force or the fabric is dark, discovering or
isolated (R421). -/
def State.ringLen (s : State) (x : Bool) : Nat :=
  let f := s.get K.fabricState
  if f = 0 ∨ f = 1 ∨ f = 4 then 1 else if x then s.ringX else s.ringY

/-- The report of a multicast (R424). Log 38 (DEDUCED). -/
def Mcast.report (m : Mcast) (st : Nat) : List Byte :=
  leBytes 1 st ++ [if m.xring then 1 else 2] ++ leBytes 1 m.retries ++ leBytes 1 m.firstCode ++ zeros 4
    ++ leBytes 8 m.targets.toNat ++ leBytes 8 m.delivered.toNat ++ leBytes 8 m.missed.toNat ++ leBytes 8 m.lost.toNat
    ++ zeros 24

/-- The message of a report to the sender of a multicast. -/
def Mcast.reportMsg (m : Mcast) (st : Nat) : Msg :=
  ⟨{ m.hdr with
      dstEp := 0
      dstRow := m.hdr.srcRow
      dstPos := m.hdr.srcPos
      dstQ := m.hdr.replyQ
      reply := true
      replyQ := 0
      gen := m.hdr.replyGen
      replyGen := 0
      length := 64 }, m.report st, false⟩

/-- The report takes the place of the reply, if the SEND reserved a credit of at least 64 bytes that still stands (R225,
R424). -/
def State.placeReport (s : State) (m : Mcast) (st : Nat) : State :=
  match m.credit with
  | none => s
  | some n => s.onTile m.tile fun t =>
      let q := m.hdr.replyQ.toNat
      if (t.queue q).advances ≠ n then t
      else if (t.queue q).resv * 64 < 64 then t.releaseCredit q n
      else t.holdReply q (m.reportMsg st)

/-- A multicast is over: every target has placed the message or been missed (R423, R424). Log 38 (DEDUCED). -/
def State.endMcast (s : State) (m : Mcast) : State :=
  let s := s.onFabric fun f => { f with mcasts := f.mcasts.filter fun x => x.id ≠ m.id }
  let partly := m.missed ≠ 0 ∨ m.lost ≠ 0
  let s := if partly then s.bump K.multicastPartialCount 1 else s
  s.placeReport m (if partly then 0x23 else 0)

/-- Nothing of a multicast is still open. Log 38 (DEDUCED). -/
def Mcast.settled (m : Mcast) : Bool := m.targets &&& ~~~(m.delivered ||| m.missed ||| m.lost) = 0

/-- The ports of one direction of a ring (R394). -/
def ringPorts (x plus : Bool) : List Nat := if x then (if plus then [0, 4] else [1, 5]) else if plus then [2, 6] else [3, 7]

/-- Send packets along a ring to the targets of a bitmap, one set in each direction that has any; the packets as
sent (R422). -/
def State.ringSend (s : State) (x : Bool) (ps : List Packet) (dests : BitVec 64) : State :=
  let half := s.ringLen x / 2
  let plus := BitVec.ofNat 64 (dests.toNat % 2 ^ (half + 1))
  let minus := dests &&& ~~~plus
  ([(true, plus), (false, minus)] : List (Bool × BitVec 64)).foldl (fun s d =>
    if d.2 = 0#64 then s
    else ps.foldl (fun s p =>
      match s.choosePort ((ringPorts x d.1).filter s.portUp) with
      | none => s
      | some n =>
        let (s, p) := s.sealFor n p
        s.sendBy n p) s) s

/-- Destination of a ring (R402). -/
def ringDst (x : Bool) : Nat := if x then 0xF001 else 0xF002

/-- Send a multicast's packets to some targets. -/
def State.sendMcast (s : State) (m : Mcast) (dests : BitVec 64) : State :=
  let flow := m.hdr.flow (if m.xring then 3 else 4)
  let dst := ringDst m.xring
  let seq := s.seqOf dst flow
  let ps := mkPackets { Packet.blank .msg with
      dst := BitVec.ofNat 16 dst
      src := BitVec.ofNat 16 (s.get K.endpointId)
      mcast := true
      flow := BitVec.ofNat 16 flow
      inner := m.hdr.bytes
      targets := dests } seq (chunks1k m.payload)
  let s := s.onFabric fun f => { f with
    nextSeq := put (fun _ => 0) f.nextSeq (dst * 65536 + flow) ((seq + ps.length) % 65536)
    mcasts := f.mcasts.map fun c =>
      if c.id = m.id then { c with first := seq, last := (seq + ps.length - 1) % 65536 } else c }
  s.ringSend m.xring ps dests

/-- A multicast SEND reaches its fabric node (R421). -/
def State.takeMcast (s : State) (t : Nat) (m : Msg) (credit : Option Nat) : State :=
  let x := decide (m.hdr.dstEp = 0xF001)
  let l := s.ringLen x
  let targets := leAt m.payload 0 8
  let c : Mcast :=
    { id := s.fabric.nextMcast
      hdr := { m.hdr with length := m.hdr.length - 8 }
      tile := t
      xring := x
      targets := BitVec.ofNat 64 targets
      delivered := 0
      refused := 0
      missed := 0
      lost := 0
      retries := 0
      firstCode := 0
      payload := m.payload.drop 8
      credit := credit
      first := 0
      last := 0 }
  let s := s.onFabric fun f => { f with nextMcast := f.nextMcast + 1 }
  if m.hdr.length < 8 ∨ targets % 2 = 1 ∨ 2 ^ l ≤ targets ∨ targets = 0 then
    let s := (s.countCode 0x04).onTile t fun y => y.fabricFail 0x04 m.hdr.tag.toNat
    s.placeReport { c with firstCode := 0x04 } 0x04
  else (s.onFabric fun f => { f with mcasts := f.mcasts ++ [c] }).sendMcast c c.targets

/-! ### Closing a window (R428) -/

/-- The ring bitmap of some endpoints. -/
def State.ringBits (s : State) (eps : List Nat) : BitVec 64 :=
  eps.foldl (fun b e => b ||| BitVec.ofNat 64 (2 ^ routePos (s.route e))) 0

/-- WCLOSE leaves for one endpoint. Log 40 (DESIGN CHOICE). -/
def State.sendClose (s : State) (w e : Nat) : State :=
  let (flow, s) := s.freeFlow
  s.takeTransfer e flow { Packet.blank .wclose with inner := windowInner w 0 } [[]] (.close w) 0 none none

/-- WCLOSE leaves for every endpoint in scope: along a ring, or to each (R428, step 2). -/
def State.sendCloses (s : State) (w : Nat) (v : Window) : State :=
  if v.scope = 2 ∨ v.scope = 3 then
    let x := decide (v.scope = 2)
    let dst := ringDst x
    let (flow, s) := s.freeFlow
    let seq := s.seqOf dst flow
    let bits := s.ringBits v.waitAck
    let ps := mkPackets { Packet.blank .wclose with
        dst := BitVec.ofNat 16 dst
        src := BitVec.ofNat 16 (s.get K.endpointId)
        mcast := true
        flow := BitVec.ofNat 16 flow
        inner := windowInner w 0
        targets := bits } seq [[]]
    let t : Transfer := ⟨BitVec.ofNat 16 dst, BitVec.ofNat 16 flow, ps, .close w, 0, none, none, true⟩
    (s.onFabric fun f => { f with
      nextSeq := put (fun _ => 0) f.nextSeq (dst * 65536 + flow) ((seq + 1) % 65536)
      transfers := f.transfers ++ [t] }).ringSend x ps bits
  else v.waitAck.foldl (fun s e => s.sendClose w e) s

/-- The owner begins to close a window (R428, steps 1 and 2). -/
def State.beginClose (s : State) (w : Nat) : State :=
  let v := s.window w
  if v.state ≠ 1 then s
  else
    let v' := { v with state := 2, waitAck := s.scopeEndpoints v, acked := [] }
    let s := s.setWindow w v'
    let s := if v.kind = 1 then s.onTile v.slot fun t =>
        t.setWinSlot v.winslot { look (fun _ => WinSlot.free) t.pad.winslots v.winslot with closing := true } else s
    if v'.waitAck.isEmpty then s.closeComplete w else s.sendCloses w v'

/-! ### A message handed to its fabric node (R97, R404, R414) -/

/-- A message for another module is taken, or refused for retry while the store is full. -/
def State.fabricTake (s : State) (owner : TOwner) (m : Msg) (credit : Option Nat) : Option State :=
  let dst := m.hdr.dstEp.toNat
  match owner with
  | .tile t =>
    if dst = 0xF001 ∨ dst = 0xF002 then some (s.takeMcast t m credit)
    else
      let flow := m.hdr.flow 0
      if s.storeRoom dst flow m.hdr.length then
        some (s.takeTransfer dst flow { Packet.blank .msg with rsp := m.hdr.reply, inner := m.hdr.bytes }
          (chunks1k m.payload) owner m.hdr.tag.toNat (credit.map fun n => (t, m.hdr.replyQ.toNat, n)) none)
      else none
  | _ =>
    let flow := m.hdr.flow 0
    if s.storeRoom dst flow m.hdr.length then
      some (s.takeTransfer dst flow { Packet.blank .msg with rsp := m.hdr.reply, inner := m.hdr.bytes }
        (chunks1k m.payload) owner m.hdr.tag.toNat none none)
    else none

end Sys2Proof.Machine
end

