-- ==== Sys2Proof/Machine/TuneOps.lean ====
section
/-! DEFINITION. Shared operations of collective tuning: buckets and their reduction (R440 to R446), the parts that leave
(R447), the step at a member and at rank 0 (R448 to R452), and when checks have closed (R472). -/

namespace Sys2Proof.Machine

/-! ### Sessions -/

def State.tune (s : State) (n : Nat) : Tune := look (fun _ => Tune.closed) s.tunes n

def State.setTune (s : State) (n : Nat) (x : Tune) : State := { s with tunes := put (fun _ => Tune.closed) s.tunes n x }

def State.onTune (s : State) (n : Nat) (f : Tune → Tune) : State := s.setTune n (f (s.tune n))

/-- A session is open: idle, stepping or orphaned. -/
def Tune.isOpen (x : Tune) : Bool := x.state ≠ .closed && x.state ≠ .opening

/-- The tuning session whose step a job runs. -/
def State.tuneOf (s : State) (j : JobId) : Option (Nat × Tune) :=
  s.tunes.find? fun p => p.2.job = some j && p.2.state = .stepping

/-- A session is freed and its window begins to close (R436, R447). -/
def State.freeTune (s : State) (n : Nat) : State :=
  let s := match (s.tune n).window with
    | some w => s.beginClose w
    | none => s
  s.setTune n Tune.closed

/-- A job that stops leaves the step or the opening it ran (R453). -/
def State.tuneLoses (s : State) (j : JobId) : State :=
  (List.range 4).foldl (fun s n =>
    if (s.tune n).openJob = some j then s.freeTune n else s.onTune n fun x => x.lose j) s

/-! ### Arithmetic (R68, R442, R446) -/

def fadd (a b : Word) : Word := BitVec.ofNat 32 (add32 a.toNat (fp32.val b.toNat)).1
def fneg (a : Word) : Word := a ^^^ 0x80000000
def fmul (a b : Word) : Word := BitVec.ofNat 32 (fp32.enc ((fp32.val a.toNat).mul (fp32.val b.toNat))).1

/-- A value divided by a positive whole number, with a sticky low digit. -/
def Val.overNat (v : Val) (d : Nat) : Val :=
  match v with
  | .fin n m e =>
    let q := m * 2 ^ 64 / d
    let r := m * 2 ^ 64 % d
    .fin n (2 * q + b2n (r ≠ 0)) (e - 65)
  | v => v

def fdiv (a : Word) (d : Nat) : Word := BitVec.ofNat 32 (fp32.enc ((fp32.val a.toNat).overNat d)).1

/-- A number is at least 0; a NaN is not. -/
def fnonneg (a : Word) : Bool := !(fp32.val a.toNat).isNan && !(fp32.val a.toNat).lt (fp32.val 0)

/-- Two arrays added element by element. -/
def faddAll (a b : List Word) : List Word := (a.zip b).map fun p => fadd p.1 p.2

/-! ### Places in the group (R432) -/

/-- Members of the group. -/
def Tune.size (x : Tune) : Nat := x.xLen * x.yLen

def Tune.px (x : Tune) : Nat := x.rank % x.xLen
def Tune.py (x : Tune) : Nat := x.rank / x.xLen

/-- The rank at group coordinates. -/
def Tune.rankAt (x : Tune) (cx cy : Nat) : Nat := cy * x.xLen + cx

/-- The next position on a ring: ascending for half 0, descending for half 1 (R443). -/
def ringNext (h p len : Nat) : Nat := if h = 0 then (p + 1) % len else (p + len - 1) % len

/-- The segment whose sum starts at a position (R443). -/
def ringStart (h p len : Nat) : Nat := ringNext (1 - h) p len

/-! ### Buckets -/

/-- Elements of a full bucket. -/
def Tune.per (x : Tune) : Nat := x.bucketBytes / 4

/-- Elements of a class. -/
def Tune.elems (x : Tune) (sparse : Bool) : Nat := if sparse then x.sparseElems else x.denseElems

/-- First element of a bucket in its class, and its length. -/
def Tune.span (x : Tune) (sparse : Bool) (b : Nat) : Nat × Nat :=
  (b * x.per, min x.per (x.elems sparse - b * x.per))

/-- First element of a class in W, V and G. -/
def Tune.base (x : Tune) (sparse : Bool) : Nat := if sparse then x.denseElems else 0

def TuneBucket.fresh (sparse : Bool) (b : Nat) : TuneBucket := ⟨sparse, b, false, [], [], [], [], [], [], [], [], false⟩

/-- Every bucket of a new attempt. -/
def Tune.freshBuckets (x : Tune) : List TuneBucket :=
  ((List.range (ceilDiv x.denseElems x.per)).map (TuneBucket.fresh false))
    ++ (List.range (ceilDiv x.sparseElems x.per)).map (TuneBucket.fresh true)

/-- The present step is a send step (R440). -/
def Tune.sends (x : Tune) : Bool := (x.committed + 1) % x.denseEvery = 0

/-- Which of `parts` pieces element `i` of `n` lies in; how a length that does not divide is cut is not stated.
Log 89 (DESIGN CHOICE). -/
def cutOf (n parts i : Nat) : Nat := if n % parts = 0 then i / (n / parts) else Config.ringCut n parts i % parts

/-- The elements of a piece. -/
def piece (l : List Word) (parts c : Nat) : List Word :=
  (l.zipIdx.filter fun p => cutOf l.length parts p.2 = c).map (·.1)

/-- A list put together from its pieces. -/
def joinPieces (n parts : Nat) (f : Nat → List Word) : List Word :=
  (List.range n).map fun i =>
    let c := cutOf n parts i
    (f c).getD ((List.range i).filter fun k => cutOf n parts k = c).length 0

/-- Length of a piece. -/
def pieceLen (n parts c : Nat) : Nat := ((List.range n).filter fun k => cutOf n parts k = c).length

/-- A bucket under way, and what leaves for the ranks named. -/
abbrev Work := TuneBucket × List (Nat × BucketPart)

/-- A dense part. -/
def Tune.part (x : Tune) (k : TuneBucket) (ph h c d : Nat) (v : List Word) : BucketPart :=
  ⟨false, k.idx, ph, h, c, d, x.rank, v, []⟩

/-! ### Dense reduction on the rings (R443) -/

/-- Final sums of a whole segment of a half. -/
def Tune.gotSeg (x : Tune) (k : TuneBucket) (h c : Nat) (v : List Word) : Work :=
  let nx := ringNext h x.px x.xLen
  ({ k with segs := k.segs ++ [(h, c, v)] },
    if x.xLen = 1 ∨ nx = c then [] else [(x.rankAt nx x.py, x.part k 3 h c 0 v)])

/-- Final sums of a part of the member's own segment; with the last part the segment is whole. -/
def Tune.gotSub (x : Tune) (k : TuneBucket) (h d : Nat) (v : List Word) : Work :=
  let k := { k with subs := k.subs ++ [(h, d, v)] }
  let ny := ringNext h x.py x.yLen
  let out := if x.yLen = 1 ∨ ny = d then [] else [(x.rankAt x.px ny, x.part k 2 h x.px d v)]
  let find := fun (d : Nat) => (k.subs.find? fun p => p.1 = h && p.2.1 = d).map (·.2.2)
  if (List.range x.yLen).all fun d => (find d).isSome then
    let n := pieceLen (pieceLen k.own.length 2 h) x.xLen x.px
    let w := x.gotSeg k h x.px (joinPieces n x.yLen fun d => (find d).getD [])
    (w.1, out ++ w.2)
  else (k, out)

/-- The X sum of the member's own segment of a half: the Y ring begins. -/
def Tune.gotX (x : Tune) (k : TuneBucket) (h : Nat) (v : List Word) : Work :=
  let k := { k with xsums := k.xsums ++ [(h, v)] }
  if x.yLen = 1 then x.gotSub k h 0 v
  else
    let d := ringStart h x.py x.yLen
    (k, [(x.rankAt x.px (ringNext h x.py x.yLen), x.part k 1 h x.px d (piece v x.yLen d))])

/-- The member's own value of a segment of a half. -/
def Tune.ownSeg (x : Tune) (k : TuneBucket) (h c : Nat) : List Word := piece (piece k.own 2 h) x.xLen c

/-- A partial sum on the X ring. -/
def Tune.sumX (x : Tune) (k : TuneBucket) (p : BucketPart) : Work :=
  let v := faddAll p.values (x.ownSeg k p.half p.seg)
  if p.seg = x.px then x.gotX k p.half v
  else (k, [(x.rankAt (ringNext p.half x.px x.xLen) x.py, x.part k 0 p.half p.seg 0 v)])

/-- A partial sum on the Y ring. -/
def Tune.sumY (x : Tune) (k : TuneBucket) (p : BucketPart) (own : List Word) : Work :=
  let v := faddAll p.values (piece own x.yLen p.sub)
  if p.sub = x.py then x.gotSub k p.half p.sub v
  else (k, [(x.rankAt x.px (ringNext p.half x.py x.yLen), x.part k 1 p.half x.px p.sub v)])

/-- A part waits until what it joins is there. -/
def TuneBucket.hold (k : TuneBucket) (p : BucketPart) : Work := ({ k with held := k.held ++ [p] }, [])

/-- A dense part is taken. -/
def Tune.takeDense (x : Tune) (k : TuneBucket) (p : BucketPart) : Work :=
  match p.phase with
  | 0 => if k.reported then x.sumX k p else k.hold p
  | 1 =>
    match k.xsums.find? fun q => q.1 = p.half with
    | some q => x.sumY k p q.2
    | none => k.hold p
  | 2 => if k.reported then x.gotSub k p.half p.sub p.values else k.hold p
  | _ => x.gotSeg k p.half p.seg p.values

/-! ### Sparse gathering (R442, R444) -/

/-- A member's decoded contribution: +c for a 1 bit and −c for a 0 bit (R66, R442). Log 90 (DEDUCED). -/
def decodeSparse (n : Nat) (c : Word) (bs : List Byte) : List Word :=
  (List.range n).map fun i => if bit (bs.getD (i / 8) 0).toNat (i % 8) then c else fneg c

/-- Compressed buckets of the members of the member's X ring. -/
def Tune.rowParts (x : Tune) (k : TuneBucket) : List BucketPart :=
  ((List.range x.xLen).filterMap fun cx => (k.ranks.find? fun q => q.1 = x.rankAt cx x.py).map (·.2.2))

/-- A compressed bucket of a rank joins; with the last of the X ring their set leaves along the Y ring. -/
def Tune.takeSparse (x : Tune) (k : TuneBucket) (p : BucketPart) : Work :=
  let n := (x.span true k.idx).2
  let k := { k with ranks := k.ranks ++ [(p.fromRank, decodeSparse n (p.values.headD 0) p.bits, p)] }
  if p.phase = 0 then
    let nx := (x.px + 1) % x.xLen
    let on := if x.xLen = 1 ∨ nx = p.fromRank % x.xLen then [] else [(x.rankAt nx x.py, p)]
    let row := x.rowParts k
    if row.length = x.xLen ∧ 1 < x.yLen then
      (k, on ++ row.map fun q => (x.rankAt x.px ((x.py + 1) % x.yLen), { q with phase := 1 }))
    else (k, on)
  else
    let ny := (x.py + 1) % x.yLen
    (k, if ny = p.fromRank / x.xLen then [] else [(x.rankAt x.px ny, p)])

/-! ### One bucket -/

/-- A part is taken by its class. -/
def Tune.takePart (x : Tune) (w : Work) (p : BucketPart) : Work :=
  let r := if p.sparse then x.takeSparse w.1 p else x.takeDense w.1 p
  (r.1, w.2 ++ r.2)

/-- Parts that waited are taken again; a chain of two waits is the longest there is. -/
def Tune.settleParts (x : Tune) : Nat → Work → Work
  | 0, w => w
  | n + 1, w => x.settleParts n (w.1.held.foldl x.takePart ({ w.1 with held := [] }, w.2))

/-- What tells parts of one bucket apart. -/
def BucketPart.tag (p : BucketPart) : Nat × Nat × Nat × Nat × Nat :=
  if p.sparse then (0, 0, 0, 0, p.fromRank) else (p.phase, p.half, p.seg, p.sub, 0)

/-- A part arrives; one that was taken already changes nothing. -/
def Tune.arrive (x : Tune) (k : TuneBucket) (p : BucketPart) : Work :=
  if k.seen.contains p.tag then (k, [])
  else x.settleParts 3 (x.takePart ({ k with seen := k.seen ++ [p.tag] }, []) p)

/-- The bucket's own value starts on the rings. -/
def Tune.startDense (x : Tune) (k : TuneBucket) : Work :=
  ([0, 1] : List Nat).foldl (fun w h =>
    let c := ringStart h x.px x.xLen
    let r := if x.xLen = 1 then x.gotX w.1 h (x.ownSeg w.1 h 0)
      else (w.1, [(x.rankAt (ringNext h x.px x.xLen) x.py, x.part w.1 0 h c 0 (x.ownSeg w.1 h c))])
    (r.1, w.2 ++ r.2)) (k, [])

/-- Bits of a sparse bucket (R66). -/
def signBits (u : List Word) : List Byte :=
  (List.range (ceilDiv u.length 8)).map fun i =>
    BitVec.ofNat 8 ((List.range 8).foldl (fun a b =>
      a + (if 8 * i + b < u.length ∧ fnonneg (u.getD (8 * i + b) 0) = true then 2 ^ b else 0)) 0)

/-- The mean of |u|, summed in ascending order (R442). -/
def meanAbs (u : List Word) : Word :=
  match u with
  | [] => 0
  | a :: l => fdiv (l.foldl (fun t v => fadd t (v &&& 0x7FFFFFFF)) (a &&& 0x7FFFFFFF)) u.length

/-! ### Applying a bucket (R441, R446) -/

/-- A list with a run replaced. -/
def writeRun (l : List Word) (off : Nat) (v : List Word) : List Word := l.take off ++ v ++ l.drop (off + v.length)

/-- The update of one element. -/
def tuneUpdate (x : Tune) (d : Nat) (v w r : Word) : Word × Word :=
  let v' := fadd (fmul x.momentum v) (fdiv r d)
  (v', fadd w (fneg (fmul x.lr (fadd v' (fmul x.decay w)))))

/-- The final sums of a dense bucket, if all are there. -/
def Tune.denseSum (x : Tune) (k : TuneBucket) : Option (List Word) :=
  let seg := fun (h c : Nat) => (k.segs.find? fun p => p.1 = h && p.2.1 = c).map (·.2.2)
  let n := (x.span false k.idx).2
  if ([0, 1] : List Nat).all fun h => (List.range x.xLen).all fun c => (seg h c).isSome then
    some (joinPieces n 2 fun h => joinPieces (pieceLen n 2 h) x.xLen fun c => (seg h c).getD [])
  else none

/-- The decoded sum of a sparse bucket over ranks in ascending order, if all are there (R444). Log 90 (DEDUCED). -/
def Tune.sparseSum (x : Tune) (k : TuneBucket) : Option (List Word) :=
  let get := fun (r : Nat) => (k.ranks.find? fun q => q.1 = r).map (·.2.1)
  if (List.range x.size).all fun r => (get r).isSome then
    some ((List.range (x.size - 1)).foldl (fun a r => faddAll a ((get (r + 1)).getD [])) ((get 0).getD []))
  else none

/-- A reduced bucket is applied into the next buffers. -/
def Tune.apply (x : Tune) (k : TuneBucket) (r : List Word) : Tune × TuneBucket :=
  let (o, n) := x.span k.sparse k.idx
  let a := x.base k.sparse + o
  let d := if k.sparse then x.size else x.size * x.denseEvery
  let us := (List.range n).map fun i => tuneUpdate x d (x.v.getD (a + i) 0) (x.w.getD (a + i) 0) (r.getD i 0)
  ({ x with
      vn := writeRun x.vn a (us.map (·.1))
      wn := writeRun x.wn a (us.map (·.2))
      an := if k.sparse then x.an else writeRun x.an o (List.replicate n 0) },
    { k with sum := r, applied := true })

/-- Put a bucket back, applied if it is complete. -/
def Tune.putBucket (x : Tune) (k : TuneBucket) : Tune :=
  let (x, k) :=
    if k.applied || !k.reported then (x, k)
    else
      match (if k.sparse then x.sparseSum k else x.denseSum k) with
      | some r => x.apply k r
      | none => (x, k)
  { x with buckets := x.buckets.map fun b => if b.sparse = k.sparse && b.idx = k.idx then k else b }

/-- A bucket of a session. -/
def Tune.bucket (x : Tune) (sparse : Bool) (b : Nat) : Option TuneBucket :=
  x.buckets.find? fun k => k.sparse = sparse && k.idx = b

/-- The member's contribution `g` to a bucket is there (R441, R442). -/
def Tune.contribute (x : Tune) (k : TuneBucket) (g : List Word) : Tune × List (Nat × BucketPart) :=
  let (o, n) := x.span k.sparse k.idx
  if k.sparse then
    let u := faddAll g ((x.e.drop o).take n)
    let c := meanAbs u
    let bs := signBits u
    let d := decodeSparse n c bs
    let x := { x with en := writeRun x.en o (faddAll u (d.map fneg)) }
    let p : BucketPart := ⟨true, k.idx, 0, 0, 0, 0, x.rank, [c], bs⟩
    let w := x.arrive { k with reported := true, own := u } p
    (x.putBucket w.1, w.2 ++ (if x.xLen = 1 then [] else [(x.rankAt ((x.px + 1) % x.xLen) x.py, p)]))
  else
    let v := faddAll ((x.a.drop o).take n) g
    if x.sends then
      let w := x.startDense { k with reported := true, own := v }
      let w := x.settleParts 3 w
      (x.putBucket w.1, w.2)
    else
      let x := { x with an := writeRun x.an o v }
      (x.putBucket { k with reported := true, own := v, applied := true }, [])

/-! ### What leaves the module (R447) -/

/-- Bytes of a part. -/
def BucketPart.bytes (p : BucketPart) : List Byte :=
  p.bits ++ p.values.flatMap fun v => leBytes 4 v.toNat

/-- A part leaves as window writes; number and offset of the neighbour's window and the flow are not published.
Log 90 (DEDUCED). -/
def State.sendPart (s : State) (n : Nat) (to' : Nat) (p : BucketPart) : State :=
  let dst := (s.tune n).members.getD to' 0
  let (k, s) := s.draw
  let (flow, s) := s.freeFlow
  let w := Config.choice 10 k % 256
  (chunks1k p.bytes).foldl (fun s c =>
    s.takeTransfer dst flow { Packet.blank .wwrite with inner := windowInner w (Config.freeNat k) } [c] (.tune n) 0 none (some w)) s

def State.sendParts (s : State) (n : Nat) (l : List (Nat × BucketPart)) : State :=
  l.foldl (fun s p => s.sendPart n p.1 p.2) s

/-- A bucket transfer that was lost is sent again while its step runs (R447). -/
def State.resendPart (s : State) (t : Transfer) (code : Nat) : State :=
  match t.owner with
  | .tune n =>
    if code = 0x1D ∧ (s.tune n).state = .stepping then
      t.packets.foldl (fun s p =>
        s.takeTransfer t.dst.toNat t.flow.toNat { Packet.blank .wwrite with inner := p.inner } [p.payload] (.tune n) 0 none
          t.window) s
    else s
  | _ => s

/-- A control message to a member's service cores: 6 the OPEN digest, 7 its answer, 8 STEP_DONE, 9 COMMIT, 10 REPEAT,
11 FAIL, 12 a request for an outcome. -/
def State.sendTune (s : State) (name n rank : Nat) (args : List Nat) (bs : List Byte) : State :=
  s.emit (.link name ([n, (s.tune n).members.getD rank 0] ++ args) bs)

/-- The same message to every other member. -/
def State.sendGroup (s : State) (name n : Nat) (args : List Nat) : State :=
  let x := s.tune n
  (List.range x.size).foldl (fun s r => if r = x.rank then s else s.sendTune name n r args []) s

/-! ### Checks of a job (R472) -/

/-- Strands that ran sequences of a job. -/
def State.jobStrands (s : State) (j : JobId) : List Nat := (((s.desc j).bind (·.hold)).map (·.strands)).getD []

/-- The check that covers a job has closed: nothing posted waits to be compared, nothing is disputed, no strand is being
re-placed and no sequence waits for another strand. Log 63 (DEDUCED). -/
def State.checksClosed (s : State) (j : JobId) : Bool :=
  let sts := s.jobStrands j
  (sts.all fun st => (s.strand st).phase ≠ .replacing)
    && !(s.check.posted.any fun p => sts.contains (s.strandOf p.working.val))
    && !(s.check.disputes.any fun d => sts.contains d.strand)
    && !(s.check.readmits.any fun r => r.job = j)

/-- A strand runs a sequence of a job, or one waits for a strand. -/
def State.jobRuns (s : State) (j : JobId) : Bool :=
  ((List.range 48).any fun st => (s.strand st).job = some j || (s.strand st).next = some j)
    || s.check.readmits.any fun r => r.job = j

/-! ### Modules that arrive last (R479) -/

/-- An endpoint was last in more than its share of the last 1,000 completions. Log 92 (DEDUCED). -/
def tooLate (l : List Nat) (ep m excess : Nat) : Bool :=
  l.length = 1000 && decide (1000 * (100 + excess * m) < (l.filter (· = ep)).length * m * 100)

/-- The last arrival of a completion with `m` participants; key 0 to 3 for sessions, 4 for epoch barriers.
Log 92 (DEDUCED). -/
def State.lastArrival (s : State) (key m ep : Nat) : State :=
  let old := look (fun _ => []) s.check.arrivals key
  let l := (ep :: old).take 1000
  let ex := s.get K.latenessExcess
  let s := { s with check := { s.check with arrivals := put (fun _ => []) s.check.arrivals key l } }
  if tooLate l ep m ex && !tooLate old ep m ex then s.raise 0x32 (leBytes 2 ep ++ leBytes 2 (l.filter (· = ep)).length) else s

/-! ### A member's attempt -/

/-- Next buffers and bucket progress begin anew from the committed state (R438, R450). -/
def Tune.restart (x : Tune) : Tune :=
  { x with
    wn := x.w
    vn := x.v
    an := x.a
    en := x.e
    buckets := x.freshBuckets
    sentDone := false }

/-- The words of a bucket of G. -/
def State.gBucket (s : State) (x : Tune) (k : TuneBucket) : List Word :=
  let (o, n) := x.span k.sparse k.idx
  if x.zeroShape then List.replicate n 0
  else
    let a := x.gBase.toNat * 256 + 4 * (x.base k.sparse + o)
    (List.range n).map fun i => BitVec.ofNat 32 (leNat (s.memRead (a + 4 * i) 4))

/-- A bucket of the running step is reported; a second report changes nothing (R440). -/
def State.reportBucket (s : State) (n : Nat) (sparse : Bool) (b : Nat) : State :=
  let x := s.tune n
  match x.bucket sparse b with
  | none => s
  | some k =>
    if k.reported then s
    else
      let r := x.contribute k (s.gBucket x k)
      (s.setTune n r.1).sendParts n r.2

/-- The CRC list of a member (R475, R476). Log 90 (DEDUCED). -/
def Tune.crcs (x : Tune) : List (BitVec 64) :=
  (x.buckets.filter fun k => (k.sparse || x.sends) && (x.size ≤ 64 || (k.idx + x.committed) % 16 = 0)).map fun k =>
    crc64 0 (k.sum.flatMap fun v => leBytes 4 v.toNat)

/-! ### The end of a step (R449 to R451, R454) -/

/-- The header and report of a committed STEP. -/
def Tune.stepOutput (x : Tune) (report : List Byte) : List Byte :=
  [0x53, 0x4B, 0x54, 0x53] ++ leBytes 4 x.committed ++ leBytes 1 x.attempt ++ [0] ++ leBytes 2 x.size ++ zeros 52 ++ report

/-- The job of a committed step has its output, which waits to be sealed. -/
def State.stepResult (s : State) (j : JobId) (x : Tune) : State :=
  let out := x.stepOutput (s.memRead (x.rBase.toNat * 256) x.reportBytes)
  let ref := ((s.desc j).map fun d => leAt d.bytes 8 8).getD 0
  let st := if x.zeroShape then St.okEmpty else St.ok
  s.onHold j fun h => { h with
    toSeal := [⟨7, ref, out⟩]
    result := some { Answer.of st with count0 := x.committed + 1, count1 := x.attempt } }

/-- COMMIT at a member: the buffers swap and the completion may be committed (R438, R451). -/
def State.doCommit (s : State) (n step : Nat) : State :=
  let x := s.tune n
  if !x.isOpen || step ≠ x.committed || !x.sentDone then s
  else
    let s := match x.job with
      | some j => s.stepResult j x
      | none => s
    let y := { x with
      w := x.wn
      v := x.vn
      a := x.an
      e := x.en
      committed := x.committed + 1
      attempt := 1
      state := .idle
      job := none
      suppressed := false
      zeroShape := false }
    s.setTune n y.restart

/-- Make a job's sequence start over: its strands are reset. -/
def State.againJob (s : State) (j : JobId) : State :=
  let s := (s.stopSeqs j).onHold j fun h => { h with strands := [] }
  { s with check := { s.check with readmits := s.check.readmits.filter fun r => r.job ≠ j } }

/-- Every contribution of a member whose step has a zero shape (R448). -/
def State.contributeZeros (s : State) (n : Nat) : State :=
  (s.tune n).buckets.foldl (fun s k => s.reportBucket n k.sparse k.idx) s

/-- REPEAT at a member (R450). -/
def State.doRepeat (s : State) (n step attempt : Nat) : State :=
  let x := s.tune n
  if !x.isOpen || step ≠ x.committed then s
  else
    let t := s.timeBase
    let y := { x.restart with
      repeats := x.repeats + 1
      attempt := attempt
      suppressed := false
      startedAt := t
      state := if x.job.isSome then .stepping else .idle }
    let s := s.setTune n y
    match x.job with
    | none => s
    | some j => if x.zeroShape then s.contributeZeros n else s.againJob j

/-- FAIL at a member (R450). -/
def State.doFail (s : State) (n step missing : Nat) : State :=
  let x := s.tune n
  if !x.isOpen || step ≠ x.committed then s
  else
    let y := { x.restart with
      state := .idle
      job := none
      suppressed := false
      zeroShape := false
      attempt := 1 }
    let s := s.setTune n y
    match x.job with
    | none => s
    | some j => (s.bump K.tuneStepsFailed 1).endJob j { Answer.of 0x66 with detail := missing }

/-! ### Rank 0 (R449, R452, R475) -/

/-- Rank 0 keeps the outcomes of its last two steps. -/
def State.keepOutcome (s : State) (n step code missing : Nat) : State :=
  s.onTune n fun x => { x with
    outcomes := ((step, code, missing) :: x.outcomes).take 2
    coord := false
    done := []
    retracted := [] }

/-- The lowest rank that is missing. -/
def Tune.missing (x : Tune) : Option Nat :=
  (List.range x.size).find? fun r => !(x.done.any fun p => p.1 = r) || x.retracted.contains r

/-- REPEAT to every member, or FAIL after the last repeat allowed. -/
def State.repeatOrFail (s : State) (n missing : Nat) : State :=
  let x := s.tune n
  if x.attempt ≤ x.repeatLimit then
    let s := s.sendGroup 10 n [x.committed, x.attempt + 1]
    let s := s.onTune n fun y => { y with done := [], retracted := [] }
    s.doRepeat n x.committed (x.attempt + 1)
  else
    let s := (s.sendGroup 11 n [x.committed, missing]).keepOutcome n x.committed 2 missing
    s.doFail n x.committed missing

/-- Rank 0 holds STEP_DONE of every member: it compares their lists and commits, or repeats (R475). -/
def State.decideStep (s : State) (n : Nat) : State :=
  let x := s.tune n
  if x.missing.isSome then s
  else
    let own := ((x.done.find? fun p => p.1 = 0).map (·.2)).getD []
    let bad := (List.range x.size).find? fun r => (x.done.find? fun p => p.1 = r).map (·.2) ≠ some own
    match bad with
    | some r =>
      let s := (s.bump K.fabricCheckMismatches 1).raise 0x31
        (leBytes 1 n ++ leBytes 4 x.committed ++ leBytes 2 (x.members.getD r 0))
      s.repeatOrFail n r
    | none =>
      let s := (s.sendGroup 9 n [x.committed]).keepOutcome n x.committed 1 0
      s.doCommit n x.committed

/-- STEP_DONE of a member at rank 0. -/
def State.takeDone (s : State) (n rank step attempt : Nat) (crcs : List (BitVec 64)) : State :=
  let x := s.tune n
  if !x.coord || step ≠ x.committed || attempt ≠ x.attempt || x.size ≤ rank then s
  else
    let new := !(x.done.any fun p => p.1 = rank)
    let s := s.onTune n fun y => { y with done := y.done.filter (fun p => p.1 ≠ rank) ++ [(rank, crcs)] }
    let s := if new && (s.tune n).done.length = x.size then s.lastArrival n x.size (x.members.getD rank 0) else s
    s.decideStep n

/-- STEP_DONE leaves once every bucket has been applied, the sequence is over and its checks have closed (R449).
Log 91 (DEDUCED). -/
def State.tryDone (s : State) (n : Nat) : State :=
  let x := s.tune n
  match x.job with
  | none => s
  | some j =>
    if x.state = .stepping && !x.sentDone && (x.buckets.all (·.applied))
        && (x.zeroShape || (!s.jobRuns j && !(s.jobStrands j).isEmpty && s.checksClosed j)) then
      let s := s.onTune n fun y => { y with sentDone := true }
      if x.rank = 0 then s.takeDone n 0 x.committed x.attempt x.crcs
      else s.sendTune 8 n 0 [x.rank, x.committed, x.attempt] (x.crcs.flatMap fun c => leBytes 8 c.toNat)
    else s

/-- A step of zero shape contributes zeros (R448). Log 91 (DEDUCED). -/
def State.zeroStep (s : State) (n : Nat) : State :=
  ((s.onTune n fun x => { x with zeroShape := true }).contributeZeros n).tryDone n

/-- The step of a job may have come to its end. -/
def State.tryDoneJob (s : State) (j : JobId) : State :=
  match s.tuneOf j with
  | some p => s.tryDone p.1
  | none => s

end Sys2Proof.Machine
end

