-- ==== Sys2Proof/Machine/MemOps.lean ====
section
/-! DEFINITION. Shared operations of module memory: where a line lies (R255), reading a line with its check (R266, R267,
R269), writes not yet acknowledged (R269), refresh and temperature rows (R274). -/

namespace Sys2Proof.Machine

/-- An access opens the page of a line in its bank; opening another page than the one open is an activation (R256, R278).
Log 143 (DESIGN CHOICE). -/
def State.touchLine (s : State) (line : Nat) : State :=
  let b := lineBank line
  let v := look (fun _ => Bank.fresh) s.mem.banks b
  let r := rowIn (localGranule line)
  if v.page = some r then s
  else { s with mem := { s.mem with
      banks := put (fun _ => Bank.fresh) s.mem.banks b { v with page := some r, acts := v.acts + 1 } } }

/-- The data of a line as a node may serve it: what is stored, or one of the writes it holds unacknowledged (R269).
Log 39 (DESIGN CHOICE), 59 (DESIGN CHOICE). -/
def State.lineData (s : State) (line : Nat) : List Byte × State :=
  let stored := s.memRead (line * 64) 64
  match s.mem.writes.filter fun w => w.line = line with
  | [] => (stored, s)
  | l =>
    let (n, s) := s.draw
    (((stored :: l.map (·.data))[Config.choice 4 n % (l.length + 1)]?).getD stored, s)

/-- Count a corrected line (R266). -/
def State.corrected (s : State) (line : Nat) : State :=
  (s.bump K.eccCorrectedCount 1).bump (K.subchCorrected (subChannel line)) 1

/-- An uncorrectable line: poisoned, counted, alarmed with its module address (R266, R267). -/
def State.uncorrectable (s : State) (line : Nat) : State :=
  let s := (s.setPoison line true).bump K.eccUncorrectableCount 1
  (s.bump (K.subchUncorrectable (subChannel line)) 1).raise 0x12 (leBytes 8 (line * 64))

/-- Wrong data of a line whose errors escaped detection: wrong plaintext in the 16-byte blocks concerned (R266).
Log 130 (DEDUCED). -/
def State.wrongLine (s : State) (line n : Nat) : List Byte × State :=
  let (d, s) := s.lineData line
  let (w, s) := s.freeBytes 64
  (wrongBlocks (Config.choice 26 n) d w, s)

/-- A line read with `errs` symbols in error: the data delivered, or none where the line is uncorrectable. Errors in more
than six symbols may escape detection; a wrong codeword that the decoder made is written back (R266).
Log 130 (DEDUCED). -/
def State.readLine (s : State) (line errs : Nat) : Option (List Byte) × State :=
  let s := s.touchLine line
  if s.poisoned line then (none, s.uncorrectable line)
  else if errs ≤ 2 then
    let (d, s) := s.lineData line
    (some d, if errs = 0 then s else s.corrected line)
  else if errs ≤ 6 then (none, s.uncorrectable line)
  else
    let (n, s) := s.draw
    match Config.choice 5 n % 3 with
    | 0 => (none, s.uncorrectable line)
    | 1 =>
      let (d, s) := s.wrongLine line n
      (some d, s)
    | _ =>
      let (d, s) := s.wrongLine line n
      (some d, (s.memWrite (line * 64) d).corrected line)

/-- Eight lines read in turn, `errs` of the symbols of the first in error. Log 130 (DEDUCED). -/
def State.readLines (s : State) (line : Nat) : Nat → Nat → Option (List Byte) × State
  | 0, _ => (some [], s)
  | n + 1, errs =>
    let (h, s) := s.readLine line errs
    let (t, s) := State.readLines s (line + 1) n 0
    match h, t with
    | some a, some b => (some (a ++ b), s)
    | _, _ => (none, s)

/-- Writes of whole lines that a node holds until it acknowledges them (R269). -/
def State.holdWrites (s : State) (a : Nat) (bs : List Byte) (tile : Option Nat) : State :=
  let ws := (List.range (bs.length / 64)).map fun i => (⟨a / 64 + i, slice bs (64 * i) 64, tile⟩ : MemWrite)
  { s with mem := { s.mem with writes := s.mem.writes ++ ws } }

end Sys2Proof.Machine
end

