-- ==== Sys2Proof/Machine/UnitOps.lean ====
section
/-! DEFINITION. How the units of a tile finish what they were given (R91, R122, R124, R126), and how a tile stops with a fault
(R105): what was dispatched before it completes. -/

namespace Sys2Proof.Machine

/-- Stop a tile with a fault of an instruction issued earlier. -/
def Tile.failAt (t : Tile) (c : FaultCode) (pc : Nat) (w : Word) : Tile :=
  { t with core := { t.core with run := .faulted, fault := some ⟨c, BitVec.ofNat 12 pc, w, 0⟩ } }

/-- A matrix job done: C written, its entries released, the engine free for the next (R91, R124, R126). -/
def Tile.mmbDone (t : Tile) (j : MmbJob) (rest : List MmbJob) : Tile :=
  let t := (j.run t).release j.ents
  { t with units := { t.units with meq := rest } }

/-- The oldest vector job leaves the unit. -/
def Tile.vecDone (t : Tile) (j : VecJob) (rest : List VecJob) : Tile :=
  let t := (t.runVec j).release j.ents
  { t with units := { t.units with vuq := rest } }

/-- The oldest vector job of a tile retires. A VLD from the memory tier waits for its data (R122). A VST to memory or to a
window hands its write on, unless the tile shadows another (R466). -/
def State.vecRetire (s : State) (t : Nat) (j : VecJob) (rest : List VecJob) : State :=
  let x := s.tile t
  match j.f, j.place with
  | .vld, .mem _ => s
  | .vst, .mem a =>
    let bs := vecBytes (x.vreg j.o.va)
    let s := s.onTile t fun y => y.vecDone j rest
    if x.shadowing then s
    else (s.onTile t fun y => { y with units := { y.units with memWrites := y.units.memWrites + 8 } }).holdWrites a bs (some t)
  | .vst, .window ep w off =>
    let bs := vecBytes (x.vreg j.o.va)
    let s := s.onTile t fun y => y.vecDone j rest
    if x.shadowing then s else s.windowStore t ep w off bs
  | _, _ => s.onTile t fun y => y.vecDone j rest

/-- The data of a memory-tier VLD are in its register, and it leaves the unit (R122). -/
def Tile.vldDone (t : Tile) (j : VecJob) (rest : List VecJob) (bs : List Byte) : Tile :=
  let x := t.setVreg j.o.vd (bytesVec bs)
  { x with units := { x.units with vuq := rest } }

/-! ### A tile stops (R105) -/

/-- The matrix jobs of a tile complete, oldest first. -/
def Tile.drainMmb (t : Tile) : Tile := t.units.meq.foldl (fun x j => x.mmbDone j (x.units.meq.drop 1)) t

/-- The oldest vector job completes; the data of a memory-tier VLD come, or it leaves no value. Log 137 (DEDUCED). -/
def State.finishVec (s : State) (t : Nat) (j : VecJob) (rest : List VecJob) : State :=
  match j.f, j.place with
  | .vld, .mem a =>
    let (d, s) := s.readLines (a / 64) 8 0
    match d with
    | some bs => s.onTile t fun x => x.vldDone j rest bs
    | none => s.onTile t fun x => { x with units := { x.units with vuq := rest } }
  | _, _ => s.vecRetire t j rest

/-- The vector jobs of a tile complete, oldest first. -/
def State.drainVec (s : State) (t : Nat) : Nat → State
  | 0 => s
  | n + 1 =>
    match (s.tile t).units.vuq with
    | [] => s
    | j :: rest => State.drainVec (s.finishVec t j rest) t n

/-- Every instruction dispatched to the matrix engine and the vector unit of a tile completes (R105).
Log 137 (DEDUCED). -/
def State.drainUnits (s : State) (t : Nat) : State :=
  let s := s.onTile t Tile.drainMmb
  s.drainVec t (s.tile t).units.vuq.length

/-- A tile stops with the fault that stands in it: what it dispatched before completes, then the supervisor takes the report
(R105, R457). -/
def State.stopTile (s : State) (t : Nat) : State := (s.drainUnits t).reportFault t

/-- A memory-tier VLD whose data cannot be corrected faults; it does not complete (R105, R267). -/
def State.vldFault (s : State) (t : Nat) (j : VecJob) (rest : List VecJob) : State :=
  (s.onTile t fun x =>
    let y := x.failAt .memUncorrectable j.pc (Tis.vec j.f j.o).word
    { y with units := { y.units with vuq := rest } }).stopTile t

end Sys2Proof.Machine
end

