-- ==== Sys2Proof/Machine/TileIssue.lean ====
section
/-! DEFINITION. A tile instruction over the whole state: what its own tile does (`Tile.local`), and what reaches beyond
it: S-net registers (R246), checkpoint reports (R170), tuning reports (R440), step signatures (R461, R467), barriers
(R243), HALT (R199) and faults (R105, R457). -/

namespace Sys2Proof.Machine

/-! ### Control registers whose write reaches beyond the tile -/

/-- SNFSET (R246). -/
def State.setFlag (s : State) (v : Word) : State :=
  let m := BitVec.ofNat 64 (2 ^ wbits v 0 6)
  { s with net := { s.net with flags := if bit v.toNat 8 then s.net.flags ||| m else s.net.flags &&& ~~~m } }

/-- SNCOUNT (R246). -/
def State.addCount (s : State) (c : Nat) (v : Word) : State :=
  { s with net := { s.net with counts := put (fun _ => 0) s.net.counts c (look (fun _ => 0) s.net.counts c + v) } }

/-- Every stage of the present section has reported an epoch (R170). Log 34 (DEDUCED). -/
def State.allReported (s : State) (st e : Nat) : Bool :=
  (List.range (s.secStageCount st)).all fun k => (s.strand st).reports.contains (k, e)

/-- A stage reports a checkpoint epoch (R170). A stage that works for the waiting job reports for that one. -/
def State.reportEpoch (s : State) (t : Nat) (v : Word) : State :=
  let s := s.onTile t fun x => x.regWriteLocal 0x384 v
  let st := s.strandOf t
  match s.stageAt t, (s.strand st).job with
  | some k, some _ =>
    let e := wbits v 0 16
    let add := fun (l : List (Nat × Nat)) => (k, e) :: l.filter fun p => p ≠ (k, e)
    if (s.strand st).next.isSome && (s.strand st).halted.contains k then
      s.onStrand st fun y => { y with nextReports := add y.nextReports }
    else
      let s := s.onStrand st fun y => { y with reports := add y.reports }
      if s.allReported st e && (s.strand st).epoch < e then
        s.onStrand st fun y => { y with epoch := e, resumes := 0 }
      else s
  | _, _ => s

/-- TUNEREP (R440): the report goes to the session whose step the stage's strand runs. -/
def State.tuneReport (s : State) (t : Nat) (v : Word) : State :=
  match (s.strand (s.strandOf t)).ownerOf ((s.stageAt t).getD 0) with
  | none => s
  | some j =>
    match s.tuneOf j with
    | none => s
    | some p => (s.reportBucket p.1 (bit v.toNat 31) (wbits v 0 24)).tryDone p.1

/-- The shadow tile of a working tile: the same stage of the group's shadow strand. A plan that is shadowed no further has
none (R471). -/
def State.shadowTile (s : State) (t : Nat) : Option Nat :=
  match (s.strand (s.strandOf t)).group, s.stageAt t with
  | some g, some k =>
    if ((s.plan (s.strand (s.strandOf t)).plan).map (·.unchecked)).getD false then none else s.stageSlot g k
  | _, _ => none

/-- SHADOWED of CHKCTL. -/
def Chk.shadowed (c : Chk) : Bool := bit c.ctl.toNat 2

/-- A shadow tile is free: it runs no step, and no other working tile's open step is shadowed there. -/
def State.shadowFree (s : State) (t sh : Nat) : Bool :=
  !(s.tile sh).chk.stepOpen && (List.range 48).all fun w =>
    match s.stageSlot w ((s.stageAt t).getD 0) with
    | some u => u = t || !((s.tile u).chk.shadowed && (s.tile u).chk.stepOpen && s.shadowTile u = some sh)
    | none => true

/-- k of check_fraction 1/k; 0 for off (text after R459). -/
def State.fractionK (s : State) : Nat := [0, 64, 16, 4, 2].getD (s.get K.checkFraction) 0

/-- The opening of a working step waits until its shadow stage is free (R461). -/
def State.stepWaits (s : State) (t : Nat) : Bool :=
  (s.tile t).role = 1 &&
    match s.shadowTile t with
    | some sh => !s.shadowFree t sh && s.fractionK ≤ (s.tile t).chk.unshadowed + 2
    | none => false

/-- The open step closes; in ROLE 1 to 3 its signature is posted (R467). The supervisor keeps nothing of a working step
that is not shadowed. Log 93 (DEDUCED). -/
def State.closeStep (s : State) (t : Nat) : State :=
  let x := s.tile t
  if x.chk.stepOpen && x.role ≠ 0 && (x.role ≠ 1 || x.chk.shadowed) then
    if h : t < 624 then
      let w := if x.role = 1 then t else x.chk.work
      if hw : w < 624 then
        let p : SigPost := ⟨⟨t, h⟩, x.role, BitVec.ofNat 24 x.chk.chunk, ⟨w, hw⟩, x.chk.sig⟩
        let sh := if x.role = 1 then (slotOf (wbits x.chk.ctl 16 5) (wbits x.chk.ctl 21 5)).map fun u => (t, x.chk.chunk, u) else none
        { s with check := { s.check with
            posted := s.check.posted ++ [p]
            watch := s.check.watch ++ sh.toList } }
      else s
    else s
  else s

/-- CHKCTL of a working step: SHADOWED with the shadow tile's place and generation, or not shadowed (R464). -/
def State.chkctl (s : State) (role : Nat) (sh : Option Nat) : Word :=
  match sh with
  | some u => BitVec.ofNat 32 (role + 4 + fld ((s.tile u).queue 13).gen.toNat 12 4 + fld (rowOf u) 16 5
      + fld (posOf u) 21 5)
  | none => BitVec.ofNat 32 role

/-- The working tile a shadow or third step belongs to: SRC of the message selected in queue 13 (R467). -/
def Tile.stepSource (x : Tile) : Nat :=
  match (x.queue 13).head with
  | some m => (slotOf m.hdr.srcRow.toNat m.hdr.srcPos.toNat).getD x.chk.work
  | none => x.chk.work

/-- A write of CHKSTEP that does not wait (R461, R464, R467). -/
def State.openStep (s : State) (t : Nat) (v : Word) : State :=
  let s := s.closeStep t
  let x := s.tile t
  let chunk := wbits v 0 24
  let sh := if x.role = 1 then (s.shadowTile t).filter (s.shadowFree t) else none
  let ctl := if x.role = 1 then s.chkctl 1 sh else x.chk.ctl
  let s := s.onTile t fun y => { y with chk :=
    { ctl := ctl
      sig := 0
      chunk := chunk
      stepOpen := true
      work := if y.role = 1 then t else y.stepSource
      unshadowed := if sh.isSome then 0 else y.chk.unshadowed + 1 } }
  let st := s.strandOf t
  if s.stageAt t = some (s.secStageCount st - 1) ∧ (s.strand st).job.isSome then
    s.onStrand st fun w => { w with chunks := max w.chunks chunk }
  else s

/-- CHKSTEP (R467); nothing while the opening waits. -/
def State.chkStep (s : State) (t : Nat) (v : Word) : State := if s.stepWaits t then s else s.openStep t v

/-- A write of the control register at byte offset `o` of a tile (R61, R62). -/
def State.writeReg (s : State) (t o : Nat) (v : Word) : State :=
  if o = 0x608 then s.setFlag v
  else if 0x610 ≤ o ∧ o < 0x650 then s.addCount ((o - 0x610) / 4) v
  else if o = 0x384 then s.reportEpoch t v
  else if o = 0x388 then s.tuneReport t v
  else if o = 0x390 then s.chkStep t v
  else s.onTile t fun x => x.regWriteLocal o v

/-! ### Barriers (R243) -/

def State.barrierAt (s : State) (b : Nat) : Barrier := look (fun _ => ⟨[], []⟩) s.net.barriers b

def State.setBarrier (s : State) (b : Nat) (v : Barrier) : State :=
  { s with net := { s.net with barriers := put (fun _ => ⟨[], []⟩) s.net.barriers b v } }

/-- A tile waits at a barrier; its BAR has waited as a FENCE with MEM does (R208, R243). -/
def Tile.atBarrier (t : Tile) (b : BitVec 6) : Tile :=
  { t with units := { t.units with unfenced := false } }.setRun (.barrier b)

/-- Signal arrival at a barrier and wait there. -/
def State.arrive (s : State) (t : Nat) (b : BitVec 6) : State :=
  let x := s.barrierAt b.toNat
  (s.setBarrier b.toNat { x with arrived := x.arrived.filter (· ≠ t) ++ [t] }).onTile t fun y => y.atBarrier b

/-- BAR: a member waits as a full FENCE, then arrives; another tile goes on at once. -/
def State.barIssue (s : State) (t : Nat) (b : BitVec 6) : State :=
  if (s.barrierAt b.toNat).members.contains t then
    if (s.tile t).fenceDone true true true true then s.arrive t b
    else s.onTile t fun x => x.setRun (.barFence b)
  else s.onTile t fun x => (x.setRun .running).adv 1

/-! ### HALT (R199, R208) -/

/-- Chunks finished by the last stage when it halts with a step open. -/
def State.countLastChunk (s : State) (st k : Nat) (x : Tile) : State :=
  if k + 1 = s.secStageCount st ∧ x.chk.stepOpen = true then
    s.onStrand st fun v => { v with chunks := max v.chunks (x.chk.chunk + 1) }
  else s

/-- Every stage of the last section has halted. -/
def State.seqFinished (s : State) (st : Nat) : Bool :=
  let v := s.strand st
  v.job.isSome && (List.range (s.secStageCount st)).all (v.halted.contains ·)
    && planSections (s.planFile v.plan) ≤ v.sec + 1

/-- A stage executes HALT: its flags go to its job, Abano restarts the stage, and the sequence is over when every stage
of its last section has halted. A raw-loaded tile ends the descriptor that started it. Log 93 (DEDUCED). -/
def State.haltStage (s : State) (t : Nat) : State :=
  let x := s.tile t
  let st := s.strandOf t
  match s.rawOwner t, s.stageAt t with
  | some j, _ =>
    ((s.onTile t fun y => y.restartStage []).answer j { Answer.of St.ok with mstat := x.core.mstat.toNat }).dropRaw t
  | none, none => s.onTile t fun y => y.restartStage []
  | none, some k =>
    let v := s.strand st
    let s := match v.ownerOf k with
      | some j => s.onHold j fun h => { h with mstat := h.mstat ||| x.core.mstat }
      | none => s
    let s := s.countLastChunk st k x
    let keep := s.residentRanges st k
    let s := s.closeStep t
    let s := s.onTile t fun y => { y.restartStage keep with chk := { y.chk with stepOpen := false } }
    let s := s.onStrand st fun w =>
      if w.next.isSome && w.halted.contains k then { w with nextHalted := k :: w.nextHalted.filter (· ≠ k) }
      else if w.job.isSome then { w with halted := k :: w.halted.filter (· ≠ k) }
      else w
    if s.seqFinished st then
      match v.job with
      | some j => (s.seqOver st).tryDoneJob j
      | none => s.seqOver st
    else s

/-! ### Issue -/

/-- The register a store or CSRW writes, with its value; none for any other instruction. Log 16 (DEDUCED). -/
def State.regTarget (s : State) (t : Nat) (i : Tis) : Option (Nat × Word) :=
  let x := s.tile t
  let c := s.ctx t
  match i with
  | .store f d base imm => (x.storesReg c f base imm).map fun o => (o / 4 * 4, x.storeWord c f d o)
  | .csrw _ ra csr =>
    if csr.toNat % 4 = 0 ∧ (x.regRead c csr.toNat).isSome then some (csr.toNat, x.reg ra) else none
  | _ => none

/-- A write of a control register by an instruction; a CHKSTEP that waits holds the instruction (R461). -/
def State.issueReg (s : State) (t : Nat) (i : Tis) (o : Nat) (v : Word) : State :=
  if o = 0x390 ∧ s.stepWaits t = true then
    s.onTile t fun x => x.stall i false s.timeBase (s.get K.scoreboardWaitLimit)
  else (s.onTile t fun x => (x.setRun .running).adv 1).writeReg t o v

/-- A fault at an instruction, reported in the same step (R105, R457). -/
def State.issueFault (s : State) (t : Nat) (c : FaultCode) (i : Tis) (a : Nat) : State :=
  (s.onTile t fun x => x.fail c i a).stopTile t

/-- Report a fault that an instruction has just raised. -/
def State.settle (s : State) (t : Nat) : State := if (s.tile t).core.run = .faulted then s.stopTile t else s

/-- A SEND that ended at issue with NO_TARGET counts (R231). -/
def State.countNoTarget (s : State) (x y : Tile) : State :=
  if x.units.mu.length < y.units.mu.length ∧ (y.units.mu.getLast?.map (·.phase)) = some (.done 4) then
    s.bump K.noTargetDrops 1
  else s

/-- A tile does what an instruction does within it. -/
def State.issueLocal (s : State) (t : Nat) (i : Tis) : State :=
  let x := s.tile t
  let y := x.local (s.ctx t) i
  ((s.setTile t y).countNoTarget x y).settle t

/-- An instruction issues, or is held, at a tile that may issue it (R60, R87). -/
def State.issueNow (s : State) (t : Nat) (i : Tis) : State :=
  let x := s.tile t
  if !i.legal then s.issueFault t .illegalInstruction i 0
  else if i.reads.any (x.core.held.contains ·) then
    s.onTile t fun y => y.stall i false s.timeBase (s.get K.scoreboardWaitLimit)
  else
    match s.regTarget t i with
    | some (o, v) => s.issueReg t i o v
    | none =>
      match i with
      | .bar b _ => s.barIssue t b
      | .halt _ _ _ => s.haltStage t
      | .trap _ _ csr => s.issueFault t .trap i csr.toNat
      | .csrw _ _ csr => s.issueFault t (if csr.toNat % 4 ≠ 0 then .alignFault else .addressFault) i 0
      | _ => s.issueLocal t i

/-- A tile issues an instruction. A tile that is stopped, held, waiting or fenced issues none. -/
def State.issue (s : State) (t : Nat) (i : Tis) : State :=
  if (s.tile t).enabled && (s.tile t).core.run = .running then s.issueNow t i else s

end Sys2Proof.Machine
end

