-- ==== Sys2Proof/Machine/UnitEvents.lean ====
section
/-! DEFINITION. Events of the units of a tile: retirements (R78 to R80, R83, R97, R122, R126), repeats of stalled
instructions (R127 to R130), and the ends of FENCE, BAR and RECVSEL (R99, R102, R243 to R245, R477). -/

namespace Sys2Proof.Machine

/-- C after a residue mismatch: undefined contents, no line filled (R80). Log 131 (DESIGN CHOICE). -/
def Tile.spoil (t : Tile) (rs : List Range) (n : Nat) : Tile :=
  (rs.foldl (fun p r => (p.1.write r.1 ((List.range r.2).map fun i => Config.freeByte (p.2 + i)), p.2 + r.2)) (t, n)).1

/-- A residue mismatch in an MMB (R79, R80): it leaves the engine without retiring, so its scoreboard entries stay.
Log 131 (DESIGN CHOICE). -/
def State.residueFault (s : State) (t : Nat) (j : MmbJob) (rest : List MmbJob) : State :=
  let (n, s) := s.drawMany (total (j.writes.map (·.2)))
  (s.onTile t fun x =>
    let y := (x.spoil j.writes n).failAt .residueFault j.pc (Tis.mmb j.o).word
    { y with units := { y.units with meq := rest } }).stopTile t

/-- MMB_RETIRE (R78 to R80, R91, R94, R126): the oldest MMB finishes, or its residue does not match. -/
def execMmbRetire (t : Slot) (residueBad : Bool) (s : State) : Host.Outcome State Fault Refusal :=
  match (s.tile t.val).units.meq with
  | [] => .next s
  | j :: rest =>
    if residueBad && j.residueCompared (s.tile t.val) then .next (s.residueFault t.val j rest)
    else .next (s.onTile t.val fun x => x.mmbDone j rest)

/-- VECTOR_RETIRE (R83, R122, R126). -/
def execVectorRetire (t : Slot) (s : State) : Host.Outcome State Fault Refusal :=
  match (s.tile t.val).units.vuq with
  | [] => .next s
  | j :: rest => .next (s.vecRetire t.val j rest)

/-- The data of a memory-tier VLD arrive, or cannot be corrected (R122, R267). -/
def State.vldReturn (s : State) (t : Nat) (j : VecJob) (rest : List VecJob) (a errs : Nat) : State :=
  let (d, s) := s.readLines (a / 64) 8 errs
  match d with
  | some bs => s.onTile t fun x => x.vldDone j rest bs
  | none => s.vldFault t j rest

/-- MEM_READ_RETURN (R122, R266, R267): `errs` symbols of the first line are in error. -/
def execMemReadReturn (t : Slot) (errs : Nat) (s : State) : Host.Outcome State Fault Refusal :=
  match (s.tile t.val).units.vuq with
  | j :: rest =>
    match j.f, j.place with
    | .vld, .mem a => .next (s.vldReturn t.val j rest a errs)
    | _, _ => .next s
  | [] => .next s

/-- STALLED_ISSUE_RETRY (R127, R128, R130, R461): a held instruction repeats its steps. -/
def execStalledIssueRetry (t : Slot) (s : State) : Host.Outcome State Fault Refusal :=
  match (s.tile t.val).core.run with
  | .stalled i _ => .next (s.issueNow t.val i)
  | _ => .next s

/-- What a timed stall waits for, as steps 3 to 5 of R127 find it: line, partner's program counter and unit. -/
def Tile.waitsOn (x : Ctx) (t : Tile) (i : Tis) : Option (Nat × Nat × Nat) :=
  let v := match i with
    | .load f _ base imm => t.sbCheck [[(t.ea base imm, f.size)]] [] 0
    | .store f _ base imm => t.sbCheck [] [[(t.ea base imm, f.size)]] 0
    | .mmb o =>
      let j := mmbJob t o
      t.sbCheck j.reads [j.writes] j.entries.length
    | .vec f o =>
      match (t.vecPlace x f o).1 with
      | .scratch a => t.sbCheck [if f = VecFn.vld then [(a, 512)] else []] [if f = VecFn.vst then [(a, 512)] else []] 1
      | _ => .go
    | .send o =>
      let len := wbits (t.reg o.rlen) 0 13
      t.sbCheck [[((t.handle o.h).base + wbits (t.reg o.rlen) 16 16 * 64, len)]] [] 1
    | .hfill o => t.sbCheck [] [[((t.handle o.h).base + (t.reg o.ra).toNat, (t.reg o.rb).toNat)]] 0
    | .hunfill o => t.sbCheck [] [[((t.handle o.h).base, (t.handle o.h).size)]] 0
    | _ => .go
  match v with
  | .hold l pc u => some (l, pc, u)
  | _ => none

/-- SCOREBOARD_TIMEOUT of the instruction held at a tile (R129, R132). The partner fields of a stall on a handle are not
stated. -/
def State.stallTimeout (s : State) (t : Nat) (i : Tis) : State :=
  let x := s.tile t
  let (n, s) := s.draw
  let w := (x.waitsOn (s.ctx t) i).getD
    (Config.choice 6 n % 65536, Config.choice 7 n % 4096, Config.choice 8 n % 4)
  (s.onTile t fun y => (y.captureSb w.1 w.2.1 w.2.2 true).fail .scoreboardTimeout i 0).stopTile t

/-- SCOREBOARD_TIMEOUT (R129): the stall has lasted `elapsedNs`. Log 13 (DESIGN CHOICE). -/
def execScoreboardTimeout (t : Slot) (elapsedNs : Nat) (s : State) : Host.Outcome State Fault Refusal :=
  match (s.tile t.val).core.run with
  | .stalled i true =>
    if (s.tile t.val).core.stallLimitUs * 1000 ≤ elapsedNs then .next (s.stallTimeout t.val i) else .next s
  | _ => .next s

/-! ### What happens with the beats -/

/-- A running tile whose store holds no instruction at its program counter faults (R87, R105).
Log 138 (DESIGN CHOICE). -/
def State.fetchFault (s : State) (t : Nat) : State :=
  let x := s.tile t
  if x.enabled && x.core.run = .running && x.atIllegal then
    (s.onTile t fun y => y.failAt .illegalInstruction y.core.pc.toNat (y.instr y.core.pc.toNat)).stopTile t
  else s

/-- Beats in which an access to a bank was held are added to its conflict counter (R113). Log 135 (DESIGN CHOICE). -/
def Tile.holdBeats (x : Tile) (t n : Nat) : Tile :=
  { x with pad := { x.pad with
      conflicts := (List.range 24).foldl (fun l b =>
        put (fun _ => 0) l b (BitVec.ofNat 32 (satAdd 0xFFFFFFFF (look (fun _ => 0) l b).toNat (Config.heldBeats n t b))))
        x.pad.conflicts } }

/-- A tile has work in its units, so that accesses to its banks can meet. Log 135 (DESIGN CHOICE). -/
def Tile.accesses (x : Tile) : Bool := !x.units.meq.isEmpty || !x.units.vuq.isEmpty || !x.units.mu.isEmpty

/-- The beats of a tile with work in its units. -/
def State.tileBeats (s : State) (t : Nat) : State :=
  if (s.tile t).accesses then
    let (n, s) := s.draw
    s.onTile t fun x => x.holdBeats t n
  else s

/-- What the tiles do of themselves in an idle nanosecond. Log 5 (DESIGN CHOICE). -/
def State.beats (s : State) : State :=
  (s.tiles.map (·.1)).foldl (fun s t => (s.tileBeats t).fetchFault t) s

/-- FENCE_COMPLETE (R102, R243): the selected operations are complete; a BAR now arrives at its barrier. -/
def execFenceComplete (t : Slot) (s : State) : Host.Outcome State Fault Refusal :=
  match (s.tile t.val).core.run with
  | .fencing r m n sc =>
    if (s.tile t.val).fenceDone r m n sc then .next (s.onTile t.val fun x => x.endFence m) else .next s
  | .barFence b => if (s.tile t.val).fenceDone true true true true then .next (s.arrive t.val b) else .next s
  | _ => .next s

/-! ### Barrier completion -/

/-- Late share in units of 0.1 %. -/
def Suspect.lateShare (v : Suspect) : Nat :=
  if v.window.isEmpty then 0 else (v.window.filter id).length * 1000 / v.window.length

/-- The tiles of the same stage of the same plan on other strands (R477). -/
def State.peers (s : State) (t : Nat) : List Nat :=
  let st := s.strandOf t
  let k := s.stageAt t
  (List.range 48).filterMap fun o =>
    if o ≠ st ∧ (s.strand o).job.isSome ∧ (s.strand o).plan = (s.strand st).plan then k.bind (s.stageSlot o) else none

/-- The lateness criterion of R477 for a barrier of `n` members: late count × peers against the mean of the peers plus
the excess, all scaled to avoid rounding. -/
def State.isLate (s : State) (t n : Nat) : Bool :=
  let v := s.suspect t
  let w := v.window.length
  let late := (v.window.filter id).length
  let ex := s.get K.latenessExcess
  let ps := (s.peers t).map s.suspect |>.filter fun p => !p.window.isEmpty
  if w < 10000 then false
  else if ps.isEmpty then w * (100 + ex * n) < late * 100 * n
  else
    let sum := total (ps.map fun p => (p.window.filter id).length * 10000 / p.window.length)
    w * (sum + ex * 100 * ps.length) < late * 10000 * ps.length

/-- A member's record of a completion (R245, R477, R480). -/
def State.lateRecord (s : State) (t n : Nat) (last : Bool) : State :=
  let v := s.suspect t
  let s := s.setSuspect t { v with window := (last :: v.window).take 10000, fresh := v.fresh + 1 }
  let s := s.set (K.tileLateShare t) (s.suspect t).lateShare
  if s.isLate t n then
    if 10000 ≤ (s.suspect t).fresh then
      ((s.setSuspect t { s.suspect t with fresh := 0 }).meet t 0).climb t Cause.ladder
    else s.meet t 0
  else s

/-- A tile that waits at a barrier goes on. -/
def Tile.leaveBarrier (y : Tile) (b : Nat) : Tile :=
  match y.core.run with
  | .barrier c => if c.toNat = b then (y.setRun .running).adv 1 else y
  | _ => y

/-- Release every member of a barrier. -/
def State.releaseBarrier (s : State) (b : Nat) (x : Barrier) : State :=
  let s := s.setBarrier b { x with arrived := [] }
  let s := x.members.foldl (fun s t => s.onTile t fun y => y.leaveBarrier b) s
  let last := x.arrived.getLast?
  x.members.foldl (fun s t => s.lateRecord t x.members.length (last = some t)) s

/-- BAR_COMPLETE (R243 to R245, R477, R480). -/
def execBarComplete (b : Fin 64) (s : State) : Host.Outcome State Fault Refusal :=
  let x := s.barrierAt b.val
  if !x.members.isEmpty && x.members.all (x.arrived.contains ·) then .next (s.releaseBarrier b.val x) else .next s

/-- RECVSEL_COMPLETE (R99): a waiting RECVSEL finds a ready queue. -/
def execRecvselComplete (t : Slot) (s : State) : Host.Outcome State Fault Refusal :=
  match (s.tile t.val).core.run with
  | .receiving o =>
    match (s.tile t.val).pick (wbits ((s.tile t.val).reg o.rm) 0 16) o.rotate with
    | some q => .next (s.onTile t.val fun x => ((x.select o q).setRun .running).adv 1)
    | none => .next s
  | _ => .next s

/-! ### Retirement of a message -/

/-- The oldest message of a unit leaves it with its status: the register written and released, the credit of a message
that failed released (R97, R225, R231). -/
def Tile.retireMu (t : Tile) (e : MuEntry) (rest : List MuEntry) (st : Nat) : Tile :=
  let t := { t with units := { t.units with
    mu := rest
    fwd := t.units.fwd.map fun (p : Nat × MuEntry) => (p.1, { p.2 with pc := p.2.pc - 1 }) } }
  let t := match e.rds with
    | some r => { t.setReg r (BitVec.ofNat 32 st) with core := { (t.setReg r (BitVec.ofNat 32 st)).core with
        held := t.core.held.erase r } }
    | none => t
  let t := match e.credit with
    | some n => if st = 0 then t else t.releaseCredit e.msg.hdr.replyQ.toNat n
    | none => t
  t.release e.ents

/-- SEND_RETIRE (R60, R97): the oldest outstanding message has its status. -/
def execSendRetire (t : Slot) (s : State) : Host.Outcome State Fault Refusal :=
  match (s.tile t.val).units.mu with
  | e :: rest =>
    match e.phase with
    | .done st =>
      .next (s.onTile t.val fun x =>
        (x.retireMu e rest st).muTake (s.get K.priorityClassState) (s.get K.sendStallLimit))
    | _ => .next s
  | [] => .next s

end Sys2Proof.Machine
end

