-- ==== Sys2Proof/Machine/MessageOps.lean ====
section
/-! DEFINITION. Shared operations of message delivery: the checks of R230, placement and spill (R226, R236), tokens at a
steering unit (R159 to R162), firings (R153, R154, R158, R161), and whose turn it is on a path (R233, R239). -/

namespace Sys2Proof.Machine

/-! ### Spill space -/

/-- Spill-ring bytes in use on the die (R236). -/
def State.spillBytes (s : State) : Nat := total (s.tiles.map fun p => p.2.ringUsed)

/-- Keep the highest spill space since cold start. -/
def State.noteSpill (s : State) : State :=
  { s with net := { s.net with spillPeak := max s.net.spillPeak s.spillBytes } }

/-- Keep a tile's deepest queue of the interval (R562, quantity 7). -/
def State.noteDepth (s : State) (t n : Nat) : State :=
  let d := s.recorder.deepest
  { s with recorder := { s.recorder with deepest := put (fun _ => 0) d t (max n (look (fun _ => 0) d t)) } }

/-! ### Placement -/

/-- What a message meets at a queue after its checks: placed, spilled, or refused for retry (R226, R236). -/
inductive Fit where
  | queue | ring | retry
  deriving DecidableEq, Repr

/-- Where a request that passed the checks goes. -/
def Tile.fit (t : Tile) (q : Nat) (m : Msg) : Fit :=
  let c := t.queue q
  if c.spilled.isEmpty && c.room m.space then .queue
  else if t.ringRoom q m then .ring
  else .retry

/-- A message joins the spilled ones of a queue. Log 27 (DESIGN CHOICE). -/
def Tile.spill (t : Tile) (q : Nat) (m : Msg) : Tile :=
  let c := t.queue q
  t.setQueue q { c with spilled := c.spilled ++ [m] }

/-- Put a request that passed the checks; none is a refusal for retry. -/
def State.put236 (s : State) (t q : Nat) (m : Msg) : Option State :=
  match (s.tile t).fit q m with
  | .queue =>
    let s := s.onTile t fun x => x.hold q m
    some (s.noteDepth t ((s.tile t).queue q).held.length)
  | .ring => some (s.onTile t fun x => x.spill q m).noteSpill
  | .retry => none

/-- The outcome of an offer: the state, and the status, or none for a refusal for retry. -/
abbrev Offer := State × Option Nat

/-- A status that ends an offer, with its drop counter (R231). -/
def State.refuse (s : State) (st : Nat) : Offer :=
  (if st = 2 then s.bump K.queueClosedDrops 1
   else if st = 3 then s.bump K.queueStaleDrops 1
   else if st = 4 then s.bump K.noTargetDrops 1
   else s, some st)

/-- Check 2 of R230 fails: the queue is closed or its stage is between restart and START. -/
def Tile.queueShut (t : Tile) (q : Nat) : Bool :=
  !t.started || (t.queue q).qsize = 0 || !(t.queue q).isOpen

/-- Offer a message to a queue of the tile in slot `t`, the GEN check made or not (R230, checks 2 to 7). -/
def State.offerQueue (s : State) (t : Nat) (m : Msg) (gen : Bool) : Offer :=
  let q := m.hdr.dstQ.toNat
  let x := s.tile t
  let c := x.queue q
  if x.queueShut q then s.refuse 2
  else if gen && c.gen ≠ m.hdr.gen then s.refuse 3
  else if c.replyOnly ≠ m.hdr.reply then s.refuse 5
  else if m.hdr.reply then
    if c.credits = 0 then s.refuse 7
    else if c.resv * 64 < m.hdr.length then s.refuse 8
    else
      let s := s.onTile t fun y => y.holdReply q m
      (s.noteDepth t ((s.tile t).queue q).held.length, some 0)
  else if c.qsize * 512 < m.space then s.refuse 6
  else
    match s.put236 t q m with
    | some s => (s, some 0)
    | none => (s, none)

/-! ### Service-core clusters (R249) -/

/-- The cluster whose node stands at the place. -/
def clusterOf (row pos : Nat) : Option Nat := if pos = 28 then [2, 8, 14, 20].idxOf? row else none

/-- A service-core cluster node stands at the place (R249). Log 35 (DESIGN CHOICE). -/
def clusterAt (row pos : Nat) : Bool := (clusterOf row pos).isSome

/-- Sizes of the 16 queues of a cluster in units of 512 bytes: 256 KiB in all. -/
def clusterSizes (c n : Nat) : List Nat :=
  ((List.range 16).foldl (fun p q =>
    let k := Config.clusterSetting c q n 0 % (p.1 + 1)
    (p.1 - k, p.2 ++ [k])) (512, ([] : List Nat))).2

/-- A cluster queue under Abano's settings as they are now, some of its oldest messages taken. -/
def Queue.byAbano (v : Queue) (c q n : Nat) : Queue :=
  let f := Config.clusterSetting c q n
  { v with
    qsize := (clusterSizes c n).getD q 0
    isOpen := f 1 % 2 = 1
    replyOnly := f 2 % 2 = 1
    resv := f 3 % 65
    gen := BitVec.ofNat 4 (f 4)
    credits := f 5 % 33
    held := v.held.drop (f 6 % (v.held.length + 1)) }

/-- Spilled messages return while the queue has room for them (R237). -/
def Queue.refill (v : Queue) : Nat → Queue
  | 0 => v
  | n + 1 =>
    match v.spilled with
    | [] => v
    | m :: l =>
      if v.room m.space then Queue.refill { v with held := v.held ++ [m], spilled := l } n else v

/-- A queue of a cluster. -/
def State.clusterQueue (s : State) (c q : Nat) : Queue := look (fun _ => Queue.reset) s.net.clusters (16 * c + q)

def State.setClusterQueue (s : State) (c q : Nat) (v : Queue) : State :=
  { s with net := { s.net with clusters := put (fun _ => Queue.reset) s.net.clusters (16 * c + q) v } }

/-- Bytes in use in the 4 MiB spill ring of a cluster (R249, R236). -/
def State.clusterRing (s : State) (c : Nat) : Nat := total ((List.range 16).map fun q => (s.clusterQueue c q).ringUsed)

/-- What a cluster queue answers: the checks of R230 under its settings, a reply never refused for retry (R225). -/
def State.clusterVerdict (s : State) (c q : Nat) (v : Queue) (m : Msg) : Offer :=
  if v.qsize = 0 || !v.isOpen then s.refuse 2
  else if v.gen ≠ m.hdr.gen then s.refuse 3
  else if v.replyOnly ≠ m.hdr.reply then s.refuse 5
  else if m.hdr.reply then
    if v.credits = 0 then s.refuse 7
    else if v.resv * 64 < m.hdr.length then s.refuse 8
    else (s.setClusterQueue c q { v with held := v.held ++ [m], credits := v.credits - 1 }, some 0)
  else if v.qsize * 512 < m.space then s.refuse 6
  else if v.spilled.isEmpty && v.room m.space then (s.setClusterQueue c q { v with held := v.held ++ [m] }, some 0)
  else if s.clusterRing c + m.ringSpace ≤ 4194304 then
    (s.setClusterQueue c q { v with spilled := v.spilled ++ [m] }, some 0)
  else (s, none)

/-- Offer a message to a cluster queue (R230, R249). Log 35 (DESIGN CHOICE). -/
def State.offerCluster (s : State) (c q : Nat) (m : Msg) : Offer :=
  let (n, s) := s.draw
  let v := (s.clusterQueue c q).byAbano c q n
  let v := v.refill v.spilled.length
  (s.setClusterQueue c q v).clusterVerdict c q v m

/-- Offer a message to the node its header names (R230). Log 37 (DEDUCED). -/
def State.offer (s : State) (m : Msg) : Offer :=
  let row := m.hdr.dstRow.toNat
  let pos := m.hdr.dstPos.toNat
  match slotOf row pos with
  | some t => if (s.tile t).enabled then s.offerQueue t m true else s.refuse 4
  | none =>
    match clusterOf row pos with
    | some c => s.offerCluster c m.hdr.dstQ.toNat m
    | none => s.refuse 4

/-- Offer a token to its steering unit (R160, R162, R216). -/
def State.offerToken (s : State) (m : Msg) : Offer :=
  match slotOf m.hdr.dstRow.toNat m.hdr.dstPos.toNat with
  | none => s.refuse 4
  | some t =>
    let x := s.tile t
    let u := m.hdr.su.toNat
    let v := x.su u
    if !x.enabled then s.refuse 4
    else if !x.started then s.refuse 2
    else if !v.enable || v.tokenless then
      (s.onTile t fun y => y.setSu u { v with discards := satAdd 255 v.discards 1 }, some 0)
    else if 8 ≤ v.tokens.length then (s, none)
    else (s.onTile t fun y => y.setSu u { v with tokens := v.tokens ++ [(m.hdr.tval, m.hdr.priUsed)] }, some 0)

/-! ### Firings -/

/-- One more discard, or one more failure, of a unit; both saturate (R164). -/
def Su.discard (v : Su) : Su := { v with discards := satAdd 255 v.discards 1 }
def Su.fail (v : Su) : Su := { v with fails := satAdd 255 v.fails 1 }

def State.onSu (s : State) (t u : Nat) (f : Su → Su) : State := s.onTile t fun x => x.setSu u (f (x.su u))

/-- A landing fits its captured entry (R153, R154). -/
def landOk (h : Handle) (m : Msg) : Bool :=
  h.kind = 1 && h.canWrite && m.hdr.tag.toNat * 64 + m.hdr.length ≤ h.size

/-- The message as forwarded to output `p` (R161, R215). -/
def forwardHeader (h : Header) (p : Word × Word) : Header :=
  { h with
    dstEp := 0
    dstRow := BitVec.ofNat 5 (wbits p.1 16 5)
    dstPos := BitVec.ofNat 5 (wbits p.1 21 5)
    dstQ := BitVec.ofNat 4 (wbits p.1 26 4)
    gen := BitVec.ofNat 4 (wbits p.2 16 4)
    fwd := true }

/-- Put a message into the free forwarding slot for unit `u` (R161, R218 to R220). -/
def Tile.forward (x : Tile) (pclass u : Nat) (m : Msg) (p : Word × Word) : Tile :=
  let e : MuEntry :=
    { msg := { m with hdr := forwardHeader m.hdr p }
      phase := .closing
      rds := none
      h := none
      addr := 0
      ents := []
      credit := none
      limitUs := 0
      pc := (x.units.mu.filter fun d => d.phase ≠ .queued).length }
  x.injectFwd pclass u e

/-- Offer a fired message to queue `q` of its own tile: checks 2, 4 and 6 and R236; a reply has its place already, so it
needs no credit, and a reply queue never spills (R161, R224). Log 139 (DEDUCED). -/
def State.offerLocal (s : State) (t : Nat) (m : Msg) (q : Nat) : Offer :=
  let m := { m with hdr := { m.hdr with dstQ := BitVec.ofNat 4 q } }
  let x := s.tile t
  let c := x.queue q
  if x.queueShut q then s.refuse 2
  else if c.replyOnly ≠ m.hdr.reply then s.refuse 5
  else if m.hdr.reply then
    if c.room m.space then
      let s := s.onTile t fun y => y.hold q m
      (s.noteDepth t ((s.tile t).queue q).held.length, some 0)
    else (s, none)
  else if c.qsize * 512 < m.space then s.refuse 6
  else
    match s.put236 t q m with
    | some s => (s, some 0)
    | none => (s, none)

/-- A firing to an output ended with a status: STEER_FAIL to Abano, and FAILS counts (R161, R164). -/
def State.steerFail (s : State) (t u st : Nat) : State :=
  let s := s.onSu t u Su.fail
  { s with net := { s.net with steerFails := s.net.steerFails ++ [(t, u, st)] } }

/-- Serve the outputs of a firing in order until one has to wait; its outputs and captured entries are those it began with
(R161, R163). -/
def State.serve (s : State) (t u : Nat) (f : Firing) : List Nat → State
  | [] => s.onSu t u fun v => { v with firing := none }
  | o :: rest =>
    let x := s.tile t
    let p := f.acts.getD o (0, 0)
    let m := f.msg
    match outKind p with
    | 0 => State.serve (s.onSu t u Su.discard) t u f rest
    | 1 =>
      match s.offerLocal t m (wbits p.1 26 4) with
      | (s, some 0) => State.serve s t u f rest
      | (s, some st) => State.serve (s.steerFail t u st) t u f rest
      | (s, none) => s.onSu t u fun v => { v with
          firing := some { f with outs := o :: rest, refused := true, limitUs := s.get K.sendStallLimit } }
    | 2 =>
      let s := if x.units.fwd.isNone then s.onTile t fun y => y.forward (s.get K.priorityClassState) u m p else s
      s.onSu t u fun v => { v with firing := some { f with outs := o :: rest, refused := false, limitUs := 0 } }
    | _ =>
      if m.hdr.length = 0 then State.serve s t u f rest
      else
        match f.lands.getD o none with
        | some h =>
          if landOk h m then
            State.serve (s.onTile t fun y => y.land (h.base + m.hdr.tag.toNat * 64) (m.payload.take m.hdr.length)) t u f rest
          else ((s.onSu t u fun v => { v.fail with firing := none }).drainUnits t).tileFaulted t .landRange
        | none => State.serve s t u f rest

/-- A firing of unit `v` that begins with a message for some outputs. -/
def Su.begin (v : Su) (m : Msg) (outs : List Nat) : Firing := ⟨outs, m, false, 0, v.outs, v.land⟩

/-- The message of a PASS (R158): in the class its token came in; where the P classes have closed since, it leaves in the O
class (`Tile.injectFwd`). Log 140 (DEDUCED). -/
def passMsg (t : Nat) (v : Byte) (pri : Bool) : Msg :=
  ⟨{ Header.zero with
      tag := BitVec.ofNat 16 (0xFF00 + v.toNat)
      priReq := true
      priUsed := pri
      cnet := true
      srcRow := BitVec.ofNat 5 (rowOf t)
      srcPos := BitVec.ofNat 5 (posOf t) }, [], false⟩

/-- The outputs a token names: STEER and PASS one, FAN those of its mask, DROP none (R158). -/
def tokenOuts (v : Byte) : List Nat :=
  match bits v.toNat 6 2 with
  | 0 => [bits v.toNat 4 2]
  | 1 => []
  | 2 => (List.range 4).filter fun o => bit v.toNat o
  | _ => [bits v.toNat 4 2]

/-- Take the head message of a unit's input queue. -/
def Tile.takeHead (x : Tile) (q : Nat) : Tile :=
  let c := x.queue q
  x.setQueue q { c with held := c.held.drop 1 }

/-- A firing begins: token and data are consumed (R158, R159). -/
def State.beginFiring (s : State) (t u : Nat) : State :=
  let x := s.tile t
  let v := x.su u
  let q := v.iq
  let data := if (x.queue q).selected then none else (x.queue q).held.head?
  if v.tokenless then
    match data with
    | none => s
    | some m => (s.onTile t fun y => y.takeHead q).serve t u (v.begin m [0]) [0]
  else
    match v.tokens with
    | [] => s
    | (k, pri) :: rest =>
      let used := fun (w : Su) => { w with tokens := rest, lastToken := k }
      if bits k.toNat 6 2 = 3 then (s.onSu t u used).serve t u (v.begin (passMsg t k pri) []) (tokenOuts k)
      else
        match data with
        | none => s
        | some m =>
          let s := (s.onTile t fun y => y.takeHead q).onSu t u used
          if (tokenOuts k).isEmpty then s.onSu t u Su.discard else s.serve t u (v.begin m []) (tokenOuts k)

/-- A unit starts a firing, or goes on with one that waited for the forwarding slot. -/
def State.fire (s : State) (t u : Nat) : State :=
  let v := (s.tile t).su u
  match v.firing with
  | none => if v.enable then s.beginFiring t u else s
  | some f =>
    if f.refused then s
    else if (s.tile t).units.fwd.isSome then s
    else s.serve t u f f.outs

/-- The output a unit waits for is over with a status; it goes on with the rest (R161). -/
def State.fireGoesOn (s : State) (t u st : Nat) : State :=
  match ((s.tile t).su u).firing with
  | none => s
  | some f =>
    let s := if st = 0 then s else s.steerFail t u st
    s.serve t u f (f.outs.drop 1)

/-! ### Outstanding messages by their source -/

/-- The message an event is about, with its phase; none where there is none. -/
def State.srcEntry (s : State) (src : MsgSrc) : Option (Msg × MuPhase) :=
  match src with
  | .tile t i => ((s.tile t.val).units.mu[i]?).map fun e => (e.msg, e.phase)
  | .fwd t => (s.tile t.val).units.fwd.map fun p => (p.2.msg, p.2.phase)
  | .node i => (s.net.nodeSends[i]?).bind fun n =>
      if n.live then some (n.msg, if n.held then .closing else if n.refused then .refused else .flying) else none
  | .steer t u => ((s.tile t.val).su u.val).firing.bind fun f => if f.refused then some (f.msg, .refused) else none

/-- Change an outstanding entry of a tile's unit. -/
def Tile.onMu (x : Tile) (i : Nat) (f : MuEntry → MuEntry) : Tile :=
  { x with units := { x.units with mu := x.units.mu.zipIdx.map fun p => if p.2 = i then f p.1 else p.1 } }

/-- A message has no status yet. -/
def MuPhase.open (p : MuPhase) : Bool := match p with | .done _ => false | _ => true

/-- An earlier message of the same sender, path and class is still to be placed (R233, R239); a token waits behind every
refused token of its message unit, whatever their destinations (R160). -/
def State.behind (s : State) (src : MsgSrc) (h : Header) : Bool :=
  let pending := fun (e : MuEntry) =>
    (e.phase.open && e.msg.hdr.samePath h) || (h.token && e.msg.hdr.token && e.phase = .refused)
  match src with
  | .tile t i =>
    let u := (s.tile t.val).units
    (u.mu.take i).any pending || (match u.fwd with | some p => p.2.pc ≤ i && pending p.2 | none => false)
  | .fwd t =>
    let u := (s.tile t.val).units
    (match u.fwd with | some p => (u.mu.take p.2.pc).any pending | none => false)
  | .node i =>
    let flow := ((s.net.nodeSends[i]?).bind (·.flow)).map fun r => (r.src, r.flow)
    (s.net.nodeSends.take i).any fun n =>
      n.live && ((n.msg.hdr.samePath h && n.msg.hdr.srcRow = h.srcRow && n.msg.hdr.srcPos = h.srcPos
        && n.msg.hdr.srcEp = h.srcEp) || (flow.isSome && (n.flow.map fun r => (r.src, r.flow)) = flow))
  | .steer _ _ => false

/-- A transfer of another module that ends in any way but placement or landing is answered by a STATUS (R418). -/
def State.sendStatus (s : State) (src flow first code : Nat) : State :=
  if code = 0 then s else s.sendControl .status src flow (BitVec.ofNat 32 (code + fld first 16 16)) []

/-- What the outcome of a node's message leads to: an INJECT descriptor completes with the status in COUNT0 (R352), a
message from another module is answered (R418). -/
def State.nodeOutcome (s : State) (n : Option NodeSend) (st : Nat) : State :=
  let s := match n.bind (·.job) with
    | some j => s.answer j { Answer.of St.ok with count0 := st }
    | none => s
  match n.bind (·.flow) with
  | some r => s.sendStatus r.src r.flow r.first st
  | none => s

/-- A message of a source is over with a status. A node's message answers who sent it: an INJECT its descriptor
(R352), a message from the fabric its flow. -/
def State.srcDone (s : State) (src : MsgSrc) (st : Nat) : State :=
  match src with
  | .tile t i => s.onTile t.val fun x => x.onMu i fun e => e.inPhase (.done st)
  | .fwd t =>
    match (s.tile t.val).units.fwd with
    | none => s
    | some p =>
      (s.onTile t.val fun x => { x with units := { x.units with fwd := none } }).fireGoesOn t.val p.1 st
  | .node i =>
    let n := s.net.nodeSends[i]?
    ({ s with net := { s.net with nodeSends := s.net.nodeSends.zipIdx.map fun (p : NodeSend × Nat) =>
        if p.2 = i then { p.1 with live := false, status := st } else p.1 } } : State).nodeOutcome n st
  | .steer t u => s.fireGoesOn t.val u.val st

/-- A message of a source is refused for retry; the limit in force at the first refusal holds (R232). -/
def State.srcRefused (s : State) (src : MsgSrc) : State :=
  let lim := s.get K.sendStallLimit
  match src with
  | .tile t i => s.onTile t.val fun x => x.onMu i fun e =>
      if e.phase = .refused then e else { e with phase := .refused, limitUs := lim }
  | .fwd t => s.onTile t.val fun x => { x with units := { x.units with fwd := x.units.fwd.map fun p =>
      if p.2.phase = .refused then p else (p.1, { p.2 with phase := .refused, limitUs := lim }) } }
  | .node i =>
    { s with net := { s.net with nodeSends := s.net.nodeSends.zipIdx.map fun p =>
        if p.2 = i ∧ p.1.refused = false then { p.1 with refused := true, limitUs := lim } else p.1 } }
  | .steer _ _ => s

/-- The stall limit of a refused message. -/
def State.srcLimit (s : State) (src : MsgSrc) : Nat :=
  match src with
  | .tile t i => (((s.tile t.val).units.mu[i]?).map (·.limitUs)).getD 0
  | .fwd t => ((s.tile t.val).units.fwd.map fun p => p.2.limitUs).getD 0
  | .node i => ((s.net.nodeSends[i]?).map (·.limitUs)).getD 0
  | .steer t u => (((s.tile t.val).su u.val).firing.map (·.limitUs)).getD 0

/-- What the outcome of an offer means to its source. -/
def State.settleOffer (s : State) (src : MsgSrc) (st : Option Nat) : State :=
  match st with
  | some c => s.srcDone src c
  | none => s.srcRefused src

/-- Who a message to another module belongs to. -/
def MsgSrc.owner (src : MsgSrc) : TOwner :=
  match src with
  | .tile t _ | .fwd t | .steer t _ => .tile t.val
  | .node i => .core i

/-- The reply credit behind a message of a tile. -/
def State.srcCredit (s : State) (src : MsgSrc) : Option Nat :=
  match src with
  | .tile t i => (s.tile t.val).units.mu[i]?.bind (·.credit)
  | _ => none

/-- Offer a message where its header sends it: a steering unit, a queue of this die, or its fabric node (R97, R230,
R414). -/
def State.offerAt (s : State) (src : MsgSrc) (m : Msg) : Offer :=
  if m.hdr.token then s.offerToken m
  else
    match src with
    | .steer t u =>
      match ((s.tile t.val).su u.val).firing with
      | some f => s.offerLocal t.val m (wbits (f.acts.getD (f.outs.headD 0) (0, 0)).1 26 4)
      | none => (s, none)
    | _ =>
      if m.hdr.dstEp = 0 then s.offer m
      else
        match s.fabricTake src.owner m (s.srcCredit src) with
        | some s => (s, some 0)
        | none => (s, none)

/-- Offer a message of a source in one of the given phases, if it is its turn. -/
def State.offerFrom (s : State) (src : MsgSrc) (phase : MuPhase) (token : Bool) : State :=
  match s.srcEntry src with
  | none => s
  | some (m, p) =>
    if p = phase && m.hdr.token = token && !s.behind src m.hdr then
      let (s, st) := s.offerAt src m
      s.settleOffer src st
    else s

end Sys2Proof.Machine
end

