-- ==== Sys2Proof/Machine/FabricRecv.lean ====
section
/-! DEFINITION. The fabric at the far end and in transit: transit (R400, R410, R411, R422), flows at their destination
(R415 to R417), checks of window writes (R427), and what ACK, NACK and STATUS do at the source (R415, R417, R418,
R423). -/

namespace Sys2Proof.Machine

/-! ### Flows at the destination -/

/-- The record of a source and flow; a flow not seen before begins at SEQ 0. Log 30 (DESIGN CHOICE). -/
def State.rflow (s : State) (src flow : BitVec 16) : RFlow :=
  (s.fabric.flows.find? fun f => f.src = src && f.flow = flow).getD ⟨src, flow, 0, 0xFFFF, [], 0, 0⟩

def State.setRflow (s : State) (v : RFlow) : State :=
  s.onFabric fun f => { f with flows := f.flows.filter (fun g => !(g.src = v.src && g.flow = v.flow)) ++ [v] }

/-- The highest SEQ up to which every packet has been placed, landed or answered (R415). -/
def State.ackPoint (s : State) (f : RFlow) : BitVec 16 :=
  let pend := s.net.nodeSends.filterMap fun n =>
    if n.live then n.flow.bind fun r => if r.src = f.src.toNat ∧ r.flow = f.flow.toNat then some r.first else none
    else none
  match pend with
  | r :: _ => BitVec.ofNat 16 r - 1
  | [] => f.next - 1

/-- Send an ACK for a flow (R415). -/
def State.sendAck (s : State) (src flow : BitVec 16) : State :=
  let f := s.rflow src flow
  let a := s.ackPoint f
  (s.setRflow { f with acked := a, unacked := 0 }).sendControl .ack src.toNat flow.toNat (BitVec.ofNat 32 a.toNat) []

/-- Bytes a reorder store holds at the home node of a flow (R414). -/
def State.reorderUsed (s : State) (src flow : BitVec 16) : Nat :=
  let home := fun (a b : BitVec 16) => (a.toNat + b.toNat) % max 1 s.licPorts
  total ((s.fabric.flows.filter fun f => home f.src f.flow = home src flow).map fun f =>
    total (f.held.map fun p => 80 + p.payload.length))

/-- The first check of R427 that a window write fails; 0 where it passes. -/
def State.windowCheck (s : State) (w : Nat) (src off len : Nat) : Nat :=
  let v := s.window w
  if v.state = 0 then 0x1E
  else if !s.inScope v src then 0x21
  else if v.state = 2 && v.acked.contains src then 0x1E
  else if v.bytes < off + len then 0x20
  else 0

/-- An inbound window write is checked and lands (R135, R427). -/
def State.takeWrite (s : State) (w src off : Nat) (bs : List Byte) : State × Nat :=
  let c := s.windowCheck w src off bs.length
  if c = 0 then (s.landWindow (s.window w) off bs, 0)
  else (if c = 0x1E then s.bump K.windowClosedDrops 1 else s, c)

/-- A peer receives WCLOSE: it answers once its own writes to the window have ended (R428, step 3). -/
def State.takeClose (s : State) (owner : BitVec 16) (w : Nat) : State :=
  let l := (s.fabric.transfers.filter fun t => t.dst = owner && t.window = some w).map fun t =>
    (t.flow, (t.packets.headD (Packet.blank .msg)).seq)
  if l.isEmpty then s.sendCloseAck owner w
  else s.onFabric fun f => { f with closes := f.closes ++ [⟨owner, w, l⟩] }

/-- A header from its 16 bytes (R215). -/
def headerOf (l : List Byte) : Header :=
  let a := leAt l 0 4
  let b := leAt l 4 4
  let c := leAt l 8 4
  let d := leAt l 12 4
  { dstEp := BitVec.ofNat 16 a
    dstRow := BitVec.ofNat 5 (bits a 16 5)
    dstPos := BitVec.ofNat 5 (bits a 21 5)
    dstQ := BitVec.ofNat 4 (bits a 26 4)
    reply := bit a 30
    token := bit a 31
    tag := BitVec.ofNat 16 b
    gen := BitVec.ofNat 4 (bits b 16 4)
    replyQ := BitVec.ofNat 4 (bits b 20 4)
    priReq := bit b 24
    priUsed := bit b 25
    fwd := bit b 26
    cnet := bit b 27
    srcEp := BitVec.ofNat 16 c
    srcRow := BitVec.ofNat 5 (bits c 16 5)
    srcPos := BitVec.ofNat 5 (bits c 21 5)
    replyGen := BitVec.ofNat 4 (bits c 26 4)
    length := bits d 0 13
    su := BitVec.ofNat 2 (bits d 16 2)
    tval := BitVec.ofNat 8 (bits d 24 8) }

/-- The message a transfer carries, as its destination's home node places it (R404). Its header does not say whether
REPLY_QUEUE named a reply queue at the source: a request counts as one with a reply queue (R228). Log 141 (DEDUCED). -/
def inboundMsg (l : List Packet) (mcast : Bool) : Msg :=
  let p := l.headD (Packet.blank .msg)
  let h := headerOf p.inner
  let bs := l.flatMap (·.payload)
  ⟨{ h with dstEp := 0, srcEp := p.src, length := if mcast then bs.length else h.length }, bs.take h.length,
    !h.reply && !h.token && !mcast⟩

/-- A multicast target checks and places a message at once, the GEN check not made; a message that would be retried is
answered with SPILL_EXHAUSTED (R422, R423). -/
def State.placeMcast (s : State) (m : Msg) : State × Nat :=
  match slotOf m.hdr.dstRow.toNat m.hdr.dstPos.toNat with
  | none =>
    let (s, st) := s.offer m
    (s, st.getD 1)
  | some t =>
    let (s, st) := if (s.tile t).enabled then s.offerQueue t m false else s.refuse 4
    (s, st.getD 1)

/-- A whole transfer at its destination. Log 42 (DEDUCED). -/
def State.deliverWhole (s : State) (l : List Packet) : State :=
  match l with
  | [] => s
  | p :: _ =>
    let last := (l.getLast?.map (·.seq)).getD p.seq
    match p.ptype with
    | .msg =>
      if p.mcast then
        let (s, st) := s.placeMcast (inboundMsg l true)
        s.sendStatus p.src.toNat p.flow.toNat p.seq.toNat st
      else s.nodeSend (inboundMsg l false) none (some ⟨p.src.toNat, p.flow.toNat, p.seq.toNat, last.toNat⟩)
    | .wwrite =>
      s.sendStatus p.src.toNat p.flow.toNat p.seq.toNat (((l.map (·.arg.toNat)).find? (· ≠ 0)).getD 0)
    | .wclose => s.takeClose p.src (leAt p.inner 0 1)
    | _ => s

/-- The packets of the transfer that begins at `seq`, if all are held. -/
def gatherFrom (held : List Packet) (seq : BitVec 16) : Nat → Option (List Packet)
  | 0 => none
  | n + 1 =>
    match held.find? fun p => p.seq = seq with
    | none => none
    | some p => if p.last then some [p] else (gatherFrom held (seq + 1) n).map (p :: ·)

/-- Hand on every whole transfer that is next in its flow (R416). -/
def State.advanceFlow (s : State) (src flow : BitVec 16) : Nat → State
  | 0 => s
  | n + 1 =>
    let f := s.rflow src flow
    match gatherFrom f.held f.next 4096 with
    | none => s
    | some l =>
      let s := s.setRflow { f with
        next := f.next + BitVec.ofNat 16 l.length
        held := f.held.filter fun p => !l.contains p
        nacks := 0 }
      State.advanceFlow (s.deliverWhole l) src flow n

/-- A packet of a flow reaches its home node (R414 to R416). -/
def State.recvData (s : State) (p : Packet) : State :=
  let f := s.rflow p.src p.flow
  let ahead := fun (n : BitVec 16) => (p.seq - n).toNat < 32768
  let f := if p.mcast && p.first && ahead f.next then { f with next := p.seq, held := [] } else f
  if !ahead f.next then s.setRflow { f with unacked := f.unacked + 1 }
  else if f.held.any fun q => q.seq = p.seq then s
  else if p.seq ≠ f.next ∧ 4194304 < s.reorderUsed p.src p.flow + 80 + p.payload.length then
    s.bump K.reorderDiscards 1
  else
    let (s, c) := if p.ptype = .wwrite then s.takeWrite (leAt p.inner 0 1) p.src.toNat (leAt p.inner 4 4 * 64) p.payload
      else (s, 0)
    let s := s.setRflow { f with held := f.held ++ [{ p with arg := BitVec.ofNat 32 c }], unacked := f.unacked + 1 }
    let s := s.advanceFlow p.src p.flow (f.held.length + 1)
    if 16 ≤ (s.rflow p.src p.flow).unacked then s.sendAck p.src p.flow else s

/-! ### At the source -/

/-- SEQ `a` is at or before `b`. -/
def seqLe (a b : BitVec 16) : Bool := (b - a).toNat < 32768

/-- First and last SEQ of a transfer. -/
def Transfer.first (t : Transfer) : BitVec 16 := (t.packets.headD (Packet.blank .msg)).seq
def Transfer.last (t : Transfer) : BitVec 16 := ((t.packets.getLast?).map (·.seq)).getD 0

/-- The bit of a target in a multicast of this module. -/
def State.targetBit (s : State) (ep : Nat) : BitVec 64 := BitVec.ofNat 64 (2 ^ routePos (s.route ep))

/-- Change a multicast; it ends once every target is settled. Log 38 (DEDUCED). -/
def State.onMcast (s : State) (id : Nat) (f : Mcast → Mcast) : State :=
  let s := s.onFabric fun g => { g with mcasts := g.mcasts.map fun m => if m.id = id then f m else m }
  match s.fabric.mcasts.find? fun m => m.id = id with
  | some m => if m.settled then s.endMcast m else s
  | none => s

/-- A target of a multicast is missed. -/
def Mcast.miss (m : Mcast) (b : BitVec 64) (code : Nat) : Mcast :=
  let m := { m with firstCode := if m.missed = 0 ∧ m.lost = 0 then code else m.firstCode, refused := m.refused &&& ~~~b }
  if code = 0x1D then { m with lost := m.lost ||| b } else { m with missed := m.missed ||| b }

/-- What a target answers to a multicast (R423). -/
def Mcast.answer (m : Mcast) (b : BitVec 64) (code : Nat) : Mcast :=
  if m.targets &&& b = 0#64 ∨ (m.delivered ||| m.missed ||| m.lost) &&& b ≠ 0#64 then m
  else if code = 0 then { m with delivered := m.delivered ||| b, refused := m.refused &&& ~~~b }
  else if code = 1 ∧ m.retries < 3 then { m with refused := m.refused ||| b }
  else m.miss b code

/-- A flow of a multicast kind (R413). -/
def isMcastFlow (flow : Nat) : Bool := 3 ≤ flow / 8192 && flow / 8192 ≤ 4

/-- Multicasts of a flow. -/
def State.mcastsOf (s : State) (flow : Nat) : List Mcast :=
  s.fabric.mcasts.filter fun m => m.hdr.flow (if m.xring then 3 else 4) = flow

/-- An ACK reaches the source: the transfers it covers have been placed or landed (R415). -/
def State.takeAck (s : State) (src flow seq : BitVec 16) : State :=
  if isMcastFlow flow.toNat then
    (s.mcastsOf flow.toNat).foldl (fun s m =>
      if seqLe (BitVec.ofNat 16 m.last) seq && m.refused &&& s.targetBit src.toNat = 0#64 then
        s.onMcast m.id fun m => m.answer (s.targetBit src.toNat) 0
      else s) s
  else
    let l := s.fabric.transfers.filter fun t => t.sent && t.dst = src && t.flow = flow && seqLe t.last seq
    (l.foldl (fun s t => s.endTransfer t 0) s).launchHeld

/-- A NACK reaches the source: the packets named go again (R417). -/
def State.takeNack (s : State) (src flow seq : BitVec 16) (count : Nat) : State :=
  let ps := (s.fabric.transfers.filter fun t => t.sent && t.dst = src && t.flow = flow).flatMap (·.packets)
  (ps.filter fun p => (p.seq - seq).toNat < count).foldl (fun s p => s.resend p) s

/-- A STATUS reaches the source: the transfer it names is over (R418, R423). -/
def State.takeStatus (s : State) (src flow seq : BitVec 16) (code : Nat) : State :=
  if isMcastFlow flow.toNat then
    match (s.mcastsOf flow.toNat).find? fun m => m.first = seq.toNat with
    | some m => s.onMcast m.id fun m => m.answer (s.targetBit src.toNat) code
    | none => s
  else
    match s.fabric.transfers.find? fun t => t.sent && t.dst = src && t.flow = flow && t.first = seq with
    | some t => ((s.endTransfer t code).resendPart t code).launchHeld
    | none => s

/-! ### Transit and arrival -/

/-- A port of the X rings. -/
def isX (n : Nat) : Bool := xPorts.contains n

/-- A packet goes on from a module in transit (R400, R410, R411). Log 42 (DEDUCED). -/
def State.forward (s : State) (port : Nat) (p : Packet) (l : List Nat) : State :=
  if 64 ≤ p.hops ∨ 1000 < p.age then s.bump K.lifetimeDiscards 1
  else
    match s.choosePort l with
    | none => s
    | some n => s.sendBy n { p with
        hops := p.hops + 1
        dclass := s.dclassAfter n (p.dclass && isX port = isX n) }

/-- A packet of this module's reaches its home node (R306, R414). -/
def State.deliver (s : State) (p : Packet) : State :=
  match p.ptype with
  | .ack => s.takeAck p.src p.flow (BitVec.ofNat 16 p.arg.toNat)
  | .nack => s.takeNack p.src p.flow (BitVec.ofNat 16 p.arg.toNat) (wbits p.arg 16 16)
  | .status => s.takeStatus p.src p.flow (BitVec.ofNat 16 (wbits p.arg 16 16)) (wbits p.arg 0 8)
  | .wcloseAck => s.closeAck (leAt p.inner 0 1) [p.src.toNat]
  | .disc => s
  | _ => s.recvData p

/-- A packet is decrypted and delivered; one whose tag fails is discarded, as if lost (R306). -/
def State.deliverSealed (s : State) (p : Packet) : State :=
  match s.openPacket p with
  | some q => s.deliver q
  | none => s

/-- This module's distance from a source in the + direction of a ring. -/
def State.myDistance (s : State) (x : Bool) (src : Nat) : Nat :=
  let l := s.ringLen x
  (l - routePos (s.route src)) % l

/-- A multicast packet: delivered if this module is a target, and on along the ring while a target lies beyond (R422). -/
def State.mcastIn (s : State) (port : Nat) (p : Packet) : State :=
  let x := decide (p.dst.toNat = 0xF001)
  let l := s.ringLen x
  let me := s.myDistance x p.src.toNat
  let plus := [1, 5, 3, 7].contains port
  let beyond := (List.range 64).any fun i => p.targets.getLsbD i &&
    (if plus then me < i && i ≤ l / 2 else i < me && l / 2 < i)
  let s := if p.targets.getLsbD me then s.deliverSealed p else s
  if beyond then s.forward port p ((ringPorts x plus).filter s.portUp) else s

/-- A packet arrives by a port that carries traffic (R399, R407, R410). -/
def State.packetIn (s : State) (port : Nat) (p : Packet) : State :=
  let q := s.port port
  let s := s.setPort port { q with failed := 0 }
  if p.mcast then s.mcastIn port p
  else if routeSelf (s.route p.dst.toNat) then s.deliverSealed p
  else s.forward port p (s.candidates (s.route p.dst.toNat) p.plane)

end Sys2Proof.Machine
end

