-- ==== Sys2Proof/Machine/JobOps.lean ====
section
/-! DEFINITION. Shared operations on jobs: the commit point (R340, R345 to R348), stopping a job (R349, R453, R578),
quiesce (R355, R577 to R579) and what is lost to a thaw (R356). -/

namespace Sys2Proof.Machine

/-! ### The commit point -/

/-- Entries an append added show in their shard once its completion is committed (R382). -/
def Shard.commit (x : Shard) (j : JobId) : Shard :=
  let mine := x.pending.filter fun p => p.1 = j
  { x with
    entries := x.entries ++ mine.flatMap (·.2.1)
    dups := x.dups ++ mine.flatMap (·.2.2)
    pending := x.pending.filter fun p => p.1 ≠ j
    made := x.made || !mine.isEmpty
    searches := x.searches.filter fun p => p.1 ≠ j }

/-- A job no longer appends to or searches any shard. -/
def Shard.leave (x : Shard) (j : JobId) : Shard :=
  { x with pending := x.pending.filter fun p => p.1 ≠ j, searches := x.searches.filter fun p => p.1 ≠ j }

/-- A shard that nothing holds: dropped and its last search over (R383), or never made and no append left. -/
def Shard.gone (x : Shard) : Bool := (x.dropped || (!x.made && x.pending.isEmpty)) && x.searches.isEmpty

/-- Change every shard; one that nothing holds goes. -/
def State.onShards (s : State) (f : Shard → Shard) : State :=
  { s with shards := (s.shards.map f).filter fun x => !x.gone }

/-- Appends to one shard are committed in admission order (R382). -/
def Shard.turn (x : Shard) (j : JobId) : Bool :=
  !(x.pending.any fun p => p.1 = j) || (x.pending.head?.map (·.1)) = some j

/-- A descriptor may be committed: answered, not held, a free slot, the link awake, its turn among appends to its
shard, and its turn among answers lost to a thaw (R321, R345, R348, R356, R382). Log 81 (DEDUCED). -/
def State.mayCommit (s : State) (j : JobId) (d : Desc) : Bool :=
  d.answer.isSome && !d.held && !s.host.d3 && s.boot ≠ .thawing && (s.chan j.1).slotFree d.entry
    && (s.shards.all fun x => x.turn j)
    && (!s.host.lostPending || ((s.chan j.1).fly.head?.map (·.idx)) = some j.2)

/-- RESET_LOST_PENDING ends with the last of those records (R325, R327). -/
def State.lostDone (s : State) : State :=
  let left := s.host.channels.any fun p => p.2.fly.any fun d => (d.answer.map (·.status)) = some St.resetLost
  if s.host.lostPending && !left then ({ s with host := { s.host with lostPending := false } } : State).deviceEvent else s

/-- Write an answer: output first, then the record, then what counts it (R340, R346, R347). -/
def State.writeAnswer (s : State) (j : JobId) (d : Desc) (a : Answer) (ringError : Bool) : State :=
  let s := if a.out.isEmpty then s else s.toHost (.host (descOut d.bytes) a.out)
  let s := s.putRecord j.1 d.entry (d.record a)
  let s := if ringError then s.channelError j.1 4 else s
  let s := if descIrq d.bytes then s.countIrq j.1 d.entry else s
  (((s.retireDesc j d).onShards fun x => x.commit j).flushAborts j.1).lostDone

/-- Commit a descriptor's answer if it may be committed now. -/
def State.commit (s : State) (j : JobId) (ringError : Bool) : State :=
  match s.desc j with
  | none => s
  | some d =>
    match d.answer with
    | none => s
    | some a => if s.mayCommit j d then s.writeAnswer j d a ringError else s

/-! ### Stopping a job -/

/-- A strand of a stopped job is reset (R172 step 1, R349). -/
def State.stopStrand (s : State) (st : Nat) (j : JobId) : State :=
  let v := s.strand st
  if v.job = some j ∨ v.next = some j then s.leaveStrand st j
  else
    match v.rawLoads.filter fun p => p.2 = j with
    | [] => s
    | l => (s.resetTiles (l.map (·.1))).onStrand st fun w => { w with rawLoads := w.rawLoads.filter fun p => p.2 ≠ j }

/-- Everything a job does stops (R349). What it sent to other modules goes on without it. -/
def State.stopWork (s : State) (j : JobId) : State :=
  let s := (List.range 48).foldl (fun s st => s.stopStrand st j) s
  let s := (s.onShards fun x => x.leave j).tuneLoses j
  let sends := s.net.nodeSends.map fun (n : NodeSend) => if n.job = some j then { n with job := none, live := false } else n
  let s := { s with
    batches := s.batches.map fun (b : Batch) => { b with jobs := b.jobs.filter (· ≠ j) }
    net := { s.net with nodeSends := sends } }
  s.onFabric fun f => { f with
    transfers := f.transfers.map fun (t : Transfer) => if t.owner = .raw j then { t with owner := .core 0 } else t
    windows := mapVals (fun _ => Window.closed) (fun (w : Window) => if w.owner = some j then { w with owner := none } else w)
      f.windows }

/-- Keys of a descriptor are unpinned and it holds nothing more. -/
def State.letGo (s : State) (j : JobId) : State :=
  match s.desc j with
  | none => s
  | some d => (s.unpin ((d.hold.map (·.keys)).getD [])).onDesc j fun e => { e with hold := none }

/-- A descriptor is answered at once with a status in place of whatever answer it had. -/
def State.overrule (s : State) (j : JobId) (st : Nat) : State :=
  (s.letGo j).onDesc j fun d => { d with answer := some (Answer.of st), held := false }

/-- Every descriptor in flight, by channel, in order. -/
def State.allFly (s : State) : List JobId := s.host.channels.flatMap fun p => p.2.fly.map fun d => (p.1, d.idx)

/-! ### Quiesce -/

/-- QUIESCE_ABORTED (R578). -/
def quiesceAborted : Nat := 0x20

def QSource.code : QSource → Nat
  | .button => 1
  | .svcReq => 2
  | .dictionary => 3

/-- Windows of this module begin to close (R577 step 3). -/
def State.closeWindows (s : State) : State :=
  (s.fabric.windows.map (·.1)).foldl (fun s w => s.beginClose w) s

def State.setQuiesce (s : State) (q : Quiesce) : State := { s with front := { s.front with quiesce := q } }

/-- A request for quiesce (R577 steps 1 to 3, R579). -/
def State.askQuiesce (s : State) (src : QSource) : State :=
  if !s.ready then { s with front := { s.front with waitQuiesce := s.front.waitQuiesce <|> some (false, src) } }
  else if s.front.quiesce ≠ .none then s
  else (((s.setQuiesce .requested).deviceEvent).raise 0x73 (leBytes 1 src.code)).closeWindows

/-- A job that a forced quiesce stops: admitted or running, its answer not committed. -/
def Desc.stoppable (d : Desc) : Bool := d.answer.isNone || d.hold.isSome

/-- A forced quiesce (R578, R579). -/
def State.forceQuiesce (s : State) (src : QSource) : State :=
  if !s.ready then { s with front := { s.front with waitQuiesce := some (true, src) } }
  else if s.front.quiesce = .quiesced ∨ s.front.quiesce = .forcing then s
  else
    let js := s.allFly.filter fun j => ((s.desc j).map Desc.stoppable).getD false
    let s := if s.front.quiesce = .none then (s.setQuiesce .forcing).deviceEvent else s.setQuiesce .forcing
    let s := s.raise 0x74 (leBytes 1 src.code ++ leBytes 4 js.length)
    (js.foldl (fun s j => (s.stopWork j).overrule j quiesceAborted) s).closeWindows

/-- Quiesce is cancelled (R579). -/
def State.cancelQuiesce (s : State) : State :=
  let s := { s with front := { s.front with waitQuiesce := none } }
  if s.front.quiesce = .none then s
  else ({ s with front := { s.front with quiesce := .none, modSafe := false } } : State).deviceEvent

/-- A request that waited for READY (R579). -/
def State.waitedQuiesce (s : State) : State :=
  match s.front.waitQuiesce with
  | none => s
  | some (f, src) =>
    let s := { s with front := { s.front with waitQuiesce := none } }
    if f then s.forceQuiesce src else s.askQuiesce src

end Sys2Proof.Machine
end

