-- ==== Sys2Proof/Machine/RecorderOps.lean ====
section
/-! DEFINITION. Shared operations of the event recorder: samples and interval records (R560 to R563), the records kept
back while a clear or a reset runs (R559, R568). -/

namespace Sys2Proof.Machine

/-! ### Samples (R562) -/

def State.onRecorder (s : State) (f : Recorder → Recorder) : State := { s with recorder := f s.recorder }

/-- The bin of a value: bin 0 takes values below the range and bin 15 values above it. -/
def binOf (v lo width : Int) : Nat := min 15 (max 0 ((v - lo) / width)).toNat

/-- One more sample in a histogram; `w` says where the value was measured. -/
def Hist.add (h : Hist) (v : Int) (b w : Nat) : Hist :=
  { bins := setAt h.bins b (h.bins.getD b 0 + 1)
    n := h.n + 1
    min := if h.n = 0 ∨ v < h.min then v else h.min
    max := if h.n = 0 ∨ h.max < v then v else h.max
    whereMax := if h.n = 0 ∨ h.max < v then w else h.whereMax }

def State.sample (s : State) (q : Nat) (v : Int) (b w : Nat) : State :=
  s.onRecorder fun r => { r with hists := put (fun _ => Hist.empty) r.hists q ((look (fun _ => Hist.empty) r.hists q).add v b w) }

/-! ### Interval records -/

/-- The payload of a HISTOGRAM record (R561). -/
def histPayload (q w : Nat) (mn mx : Int) (bins : List Nat) : List Byte :=
  leBytes 1 q ++ [0] ++ leBytes 2 w ++ leBytes 4 (ofInt 32 mn) ++ leBytes 4 (ofInt 32 mx)
    ++ (List.range 16).flatMap fun i => leBytes 2 (min 65535 (bins.getD i 0))

/-- Bins in units of 0.01 % of the interval that sum to 10,000. Which bins take the units lost to rounding is not
stated. Log 68 (DESIGN CHOICE). -/
def shareBins (draw : Nat) (h : Hist) : List Nat :=
  let base := h.bins.map fun c => c * 10000 / max 1 h.n
  let left := 10000 - total base
  if h.n = 0 then setAt base (Config.shareBin draw 0 % 16) 10000
  else (List.range left).foldl (fun l u =>
    let i := Config.shareBin draw u % 16
    setAt l i (l.getD i 0 + 1)) base

/-- The record of a quantity that is sampled over the interval. -/
def State.shareRecord (s : State) (q : Nat) : State :=
  let h := look (fun _ => Hist.empty) s.recorder.hists q
  let (n, s) := s.draw
  s.record 1 (histPayload q h.whereMax h.min h.max (shareBins n h))

/-- A histogram over the enabled tiles. -/
def State.tileHist (s : State) (v : Nat → Nat) (b : Nat → Nat) : Hist :=
  (allSlots.filter fun t => s.slotEnabled t && !s.slotFrost t).foldl (fun h t => h.add (v t) (b (v t)) (tileCode t)) Hist.empty

/-- The tile of the lowest value. -/
def State.lowestTile (s : State) (v : Nat → Nat) : Nat :=
  match allSlots.filter fun t => s.slotEnabled t && !s.slotFrost t with
  | [] => 0xFFFF
  | t :: l => tileCode (l.foldl (fun b u => if v u < v b then u else b) t)

/-- A tile's lowest margin and its deepest queue of the interval. -/
def State.lowMargin (s : State) (t : Nat) : Nat := look s.margin s.recorder.lowMargin t
def State.deepest (s : State) (t : Nat) : Nat := look (fun _ => 0) s.recorder.deepest t

/-- The bins of quantity 9. -/
def State.trimBins (s : State) : List Nat :=
  allSlots.foldl (fun l t =>
    let inc := fun (l : List Nat) (i : Nat) => setAt l i (l.getD i 0 + 1)
    if s.slotFrost t then inc l 13
    else if s.slotEnabled t then
      let l := inc (inc l (s.get (K.tileTrim t) % 4)) (4 + s.get (K.tilePace t) % 8)
      if (s.tile t).safe then inc l 12 else l
    else l) (List.replicate 16 0)

/-- The eleven counters of a COUNTS record, as they stand (R560). -/
def State.countsNow (s : State) : List Nat :=
  [s.get K.eccCorrectedCount, s.get K.eccUncorrectableCount, s.get K.residueFaults, s.get K.shadowMismatches,
    s.get K.spillExhaustedCount, s.get K.queueClosedDrops, s.get K.queueStaleDrops, s.get K.fabricLossCount,
    total ((List.range 8).map fun n => s.get (K.portFecUncorrectable n)), s.get K.skimTransients, s.recorder.marginLow]

/-- The COUNTS record: what each counter gained. -/
def State.countsRecord (s : State) : State :=
  s.record 2 ((s.countsNow.zipIdx).flatMap fun p => leBytes 4 ((p.1 + 2 ^ 32 - s.recorder.counts0.getD p.2 0 % 2 ^ 32) % 2 ^ 32))

/-- NOTICES records of eleven pairs each (R560). -/
def noticePages : Nat → List (Nat × Nat) → List (List Byte)
  | 0, _ => []
  | n + 1, l =>
    if l.isEmpty then []
    else ((l.take 11).flatMap fun p => leBytes 2 p.1 ++ leBytes 2 (min 65535 p.2)) :: noticePages n (l.drop 11)

/-- The tile histograms of quantities 5, 6, 7 and 9. -/
def State.tileRecords (s : State) : State :=
  let late := s.tileHist (fun t => s.get (K.tileLateShare t)) (fun v => min 15 (v / 20))
  let mar := s.tileHist s.lowMargin (fun v => min 15 (v / 2))
  let deep := s.tileHist s.deepest (fun v => min 15 (v / 2))
  let low := s.lowestTile s.lowMargin
  let trim := s.trimBins
  let s := s.record 1 (histPayload 5 late.whereMax late.min late.max late.bins)
  let s := s.record 1 (histPayload 6 low mar.min mar.max mar.bins)
  let s := s.record 1 (histPayload 7 deep.whereMax deep.min deep.max deep.bins)
  (s.shareRecord 8).record 1 (histPayload 9 0xFFFF 0 0 trim)

/-- A new interval begins. -/
def State.beginInterval (s : State) : State :=
  let c := s.countsNow
  let i := s.get K.recorderIntervalS
  let t := s.timeBase
  s.onRecorder fun r => { r with
    hists := []
    lowMargin := []
    deepest := []
    notices := []
    counts0 := setAt c 10 0
    marginLow := 0
    interval := i
    began := t }

/-- The running interval ends and its records are written (R560, R563). -/
def State.endInterval (s : State) : State :=
  let s := ([1, 2, 3, 4] : List Nat).foldl State.shareRecord s
  let s := s.tileRecords.countsRecord
  ((noticePages s.recorder.notices.length s.recorder.notices).foldl (fun s p => s.record 4 p) s).beginInterval

/-! ### Records kept back -/

/-- Records wait behind the first record of a reset (R559). -/
def keepBack : Nat := 3

/-- Write the records that waited, unless a clear runs (R568). -/
def State.flushBehind (s : State) : State :=
  if s.recorder.clearing = 1 ∨ s.recorder.clearing = 2 then s
  else
  let l := s.recorder.behind
  let s := s.onRecorder fun r => { r with clearing := 0, behind := [] }
  l.foldl (fun s p => s.writeRecord p.1 p.2.1 p.2.2.1 p.2.2.2) s

/-- The RESET record, before every record that waits (R559, R560); while a clear runs it waits too (R568).
Log 47 (DEDUCED). -/
def State.resetRecord (s : State) : State :=
  let (st, fl) := s.stamp
  let p := leBytes 1 (s.get K.lastResetKind) ++ leBytes 1 (s.get K.lastResetCause) ++ zeros 2
    ++ leBytes 4 (s.get K.coldStartCount) ++ leBytes 4 (s.get K.lastReadyMs) ++ leBytes 4 (s.get K.inputLossCount)
  if s.recorder.clearing = 1 ∨ s.recorder.clearing = 2 then
    s.onRecorder fun r => { r with behind := (6, st, fl, p) :: r.behind }
  else s.writeRecord 6 st fl p

/-- The DIP record, stamped with the time of the first fall (R560). -/
def dipPayload (us mv row : Nat) (reached : Bool) : List Byte :=
  leBytes 4 us ++ leBytes 2 mv ++ leBytes 1 row ++ leBytes 1 (b2n reached)

end Sys2Proof.Machine
end

