-- ==== Sys2Proof/Machine/BootOps.lean ====
section
/-! DEFINITION. The boot sequence: flash blocks and what is taken from their copies (R515 to R519, R291), licences (R9,
R10, R313), measurements (R308), the seal counter (R305), the repair map and where strands lie (R141 to R144, R493),
and READY (R522). -/

namespace Sys2Proof.Machine

/-! ### Licences -/

/-- A licence as one number, as its flash block holds it: features as licence_features packs them, then the digest. -/
def Licence.pack (l : Licence) : Nat :=
  fld l.ports 0 4 + 16 * b2n l.tuning + fld l.raw 8 4 + fld l.strands 16 8 + 2 ^ 32 * l.digest.toNat

def Licence.unpack (serial v : Nat) : Licence :=
  ⟨serial, BitVec.ofNat 256 (v / 2 ^ 32), bits v 0 4, bit v 4, bits v 8 4, bits v 16 8⟩

/-- licence_features of the licences in force: the highest level granted of each feature; with none, the level of
TVK-K48-I (R7, R9, R10). -/
def featuresOf (l : List Licence) : Nat :=
  if l.isEmpty then 2 + fld 32 16 8
  else
    let top := fun (f : Licence → Nat) => (l.map f).foldl max 0
    fld (top (·.ports)) 0 4 + 16 * b2n (l.any (·.tuning)) + fld (top (·.raw)) 8 4 + fld (top (·.strands)) 16 8

/-- The licence in a fresh module's flash. -/
def factoryLicences : List (Nat × Nat) :=
  [(Config.factoryLicenceSerial, Config.factoryLicence.toNat + 2 ^ 32 * (Config.madeDigest Blk.licences).toNat)]

/-- Licences that verify and are bound to this module (R9). -/
def Vault.inForce (v : Vault) : List Licence := v.licences.filter fun l => !v.licFails.contains l.serial

/-- Strands beyond the licence stay UNLICENSED (R11). -/
def State.licenseStrands (s : State) : State :=
  (List.range 48).foldl (fun s st =>
    let v := s.strand st
    if s.licStrands ≤ st ∧ v.phase = .idle then s.setStrand st { v with phase := .unlicensed }
    else if st < s.licStrands ∧ v.phase = .unlicensed then s.setStrand st { v with phase := .idle }
    else s) s

/-- Put the levels of the licences in force into effect. Log 120 (DEDUCED). -/
def State.applyLicences (s : State) : State :=
  let f := featuresOf s.vault.inForce
  ((s.set K.licenceFeatures f).set K.licensedStrands (bits f 16 8)).licenseStrands

/-! ### Flash blocks -/

/-- A block as manufacture leaves it. Log 47 (DEDUCED). -/
def madeBlock (b : Nat) : FlashBlock :=
  let body := if b = Blk.licences then factoryLicences
    else if 1 ≤ b ∧ b ≤ 3 then [(0, 0), (1, (Config.madeDigest b).toNat)] else []
  ⟨⟨true, 1, body⟩, ⟨true, 1, body⟩⟩

def State.block (s : State) (b : Nat) : FlashBlock := look madeBlock s.flash.blocks b

def State.setBlock (s : State) (b : Nat) (v : FlashBlock) : State :=
  { s with flash := { s.flash with blocks := put madeBlock s.flash.blocks b v } }

/-- The next SEQ of a block (R516). -/
def FlashBlock.nextSeq (k : FlashBlock) : Nat := max k.a.seq k.b.seq + 1

/-- Both copies of a block written with a body. Log 44 (DEDUCED). -/
def FlashBlock.rewrite (k : FlashBlock) (body : List (Nat × Nat)) : FlashBlock :=
  ⟨⟨true, k.nextSeq, body⟩, ⟨true, k.nextSeq, body⟩⟩

/-- An octet string as a number that keeps its length. -/
def packBytes (l : List Byte) : Nat := leNat (l ++ [1])

/-- The octets that a number made by `packBytes` stands for; the highest 1 byte marks the end. -/
def unpackBytes (v : Nat) : List Byte :=
  let n := Nat.log2 v / 8
  leBytes n v

/-- An entry with Persist "yes" (R535). -/
def isPersisted (k : Nat) : Bool := ((entryAt (k / 256) (k % 256)).map (·.persist)).getD false

/-- Keys of the security block and of the vault's own storage (R288, R291, R312). -/
def vaultKeys : List Nat := [K.identityState, K.minSvn, K.ownerState, K.ownerKey, K.ownerEpoch]

/-- Block to be recorded as the last reserved of the seal counter (R305): past the middle of a block, the next one. -/
def Vault.reserved (v : Vault) : Nat :=
  let b := v.sealCtr / 2 ^ 32
  max v.sealBlock (if 2 ^ 31 < v.sealCtr % 2 ^ 32 then b + 1 else b)

/-- The present body of a block. Keys 0 to 3 of the security block: owner_state, owner_epoch, owner key, reservation. -/
def State.blockBody (s : State) (b : Nat) : List (Nat × Nat) :=
  if b = Blk.repairMap then s.repair.map fun p => (p.1, p.2.toNat)
  else if b = Blk.dictionary then
    (s.dict.filter fun p => isPersisted p.1 && !vaultKeys.contains p.1)
      ++ ((s.octets.filter fun p => isPersisted p.1 && !vaultKeys.contains p.1).map fun p => (p.1, packBytes p.2))
  else if b = Blk.licences then s.vault.licences.map fun l => (l.serial, l.pack)
  else if b = Blk.security then
    [(0, s.get K.ownerState), (1, s.get K.ownerEpoch), (2, packBytes (s.octet K.ownerKey)), (3, s.vault.reserved)]
  else (s.block b).a.body

/-- What is taken from a block's copies: its body, the block after repair, whether anything was rewritten, 1 where copies
conflict and 2 where neither is intact, and the copy taken (R518). -/
structure Taken where
  body : List (Nat × Nat)
  block : FlashBlock
  fixed : Bool
  event : Nat
  copy : Nat

/-- One word of two repair maps: banks usable in both, in frost if in either (R518). -/
def repairUnion (a b : Nat) : Nat :=
  let ok := (BitVec.ofNat 25 a &&& BitVec.ofNat 25 b).toNat
  let frost := bit a 25 || bit b 25
  ok + (if frost then 2 ^ 25 else 0) + fld (if bit a 25 || bits b 26 3 = 0 then bits a 26 3 else bits b 26 3) 26 3

/-- Bodies of equal SEQ that differ (R518, R291). -/
def mergeBodies (b : Nat) (x y : List (Nat × Nat)) : Option (List (Nat × Nat)) :=
  let at' := fun (l : List (Nat × Nat)) (k d : Nat) => look (fun _ => d) l k
  if b = Blk.repairMap then
    some ((List.range 624).filterMap fun t =>
      let v := repairUnion (at' x t repairGood.toNat) (at' y t repairGood.toNat)
      if v = repairGood.toNat then none else some (t, v))
  else if b = Blk.licences then some (x.filter fun p => y.any fun q => q.1 = p.1)
  else if b = Blk.security then
    let k := if at' x 1 0 < at' y 1 0 then y else x
    some [(0, at' k 0 0), (1, at' k 1 0), (2, at' k 2 1), (3, max (at' x 3 0) (at' y 3 0))]
  else none

/-- The copies of a block as read at a cold start or module reset (R518). A copy rewritten from the other equals it. -/
def takeBlock (b : Nat) (k : FlashBlock) : Taken :=
  match k.a.intact, k.b.intact with
  | true, false => ⟨k.a.body, ⟨k.a, k.a⟩, true, 0, 1⟩
  | false, true => ⟨k.b.body, ⟨k.b, k.b⟩, true, 0, 2⟩
  | true, true =>
    if k.b.seq < k.a.seq then ⟨k.a.body, ⟨k.a, k.a⟩, true, 0, 1⟩
    else if k.a.seq < k.b.seq then ⟨k.b.body, ⟨k.b, k.b⟩, true, 0, 2⟩
    else if k.a.body = k.b.body then ⟨k.a.body, k, false, 0, 1⟩
    else
      match mergeBodies b k.a.body k.b.body with
      | some m => ⟨m, k.rewrite m, true, 0, 1⟩
      | none =>
        if b = Blk.dictionary then ⟨[], k, false, 1, 1⟩
        else if look (fun _ => 0) k.a.body 0 < look (fun _ => 0) k.b.body 0 then ⟨k.b.body, ⟨k.b, k.b⟩, true, 0, 2⟩
        else ⟨k.a.body, ⟨k.a, k.a⟩, true, 0, 1⟩
  | false, false =>
    if b = Blk.security then ⟨[(0, 1), (1, 0), (2, packBytes []), (3, 0)], k, false, 2, 0⟩
    else if 4 ≤ b then ⟨[], k.rewrite [], true, 2, 0⟩
    else ⟨[], k, false, 2, 0⟩

/-! ### Reading flash (R522 step 3) -/

/-- Load persisted entries under what survived outside flash. -/
def State.loadDict (s : State) (body : List (Nat × Nat)) : State :=
  let isOct := fun (k : Nat) => match (entryAt (k / 256) (k % 256)).map (·.typ) with
    | some (.octet _) | some .domain => true
    | _ => false
  let kept := s.dict
  let s := { s with dict := [], octets := [] }
  let s := body.foldl (fun s p => if isOct p.1 then s.setOctet p.1 (unpackBytes p.2) else s.set p.1 p.2) s
  kept.foldl (fun s p => s.set p.1 p.2) s

/-- Load the security block. -/
def State.loadSecurity (s : State) (body : List (Nat × Nat)) : State :=
  let v := look (fun _ => 0) body
  let key := if v 2 = 0 then zeros 64 else unpackBytes (v 2)
  let s := ((s.set K.ownerState (v 0)).set K.ownerEpoch (v 1)).setOctet K.ownerKey key
  { s with vault := { s.vault with sealBlock := v 3 } }

/-- The vault has no usable owner key although the module reads OWNED: jobs end with IDENTITY_REVOKED (R518). -/
def State.securityLost (s : State) : Bool := s.get K.ownerState = 1 && (s.octet K.ownerKey).isEmpty

/-- Jobs and the vault's own work are refused with IDENTITY_REVOKED (R288, R518). -/
def State.revoked (s : State) : Bool := s.get K.identityState = 2 || s.securityLost

/-- The outcome of reading every block. -/
structure BootRead where
  firmware : List Taken
  repair : Taken
  dict : Taken
  lic : Taken
  sec : Taken

/-- A copy of a block as this boot reads it: one that is damaged is not intact, nor is a firmware copy whose SVN lies
below min_svn (R312, R516). -/
def State.readCopy (s : State) (damaged : List (Nat × Bool)) (b : Nat) (isA : Bool) (c : FlashCopy) : FlashCopy :=
  let low := decide (1 ≤ b ∧ b ≤ 3) && decide (look (fun _ => 0) c.body 0 < s.get K.minSvn)
  { c with intact := c.intact && !damaged.contains (b, isA) && !low }

def State.readFlash (s : State) (damaged : List (Nat × Bool)) : BootRead :=
  let t := fun b =>
    let k := s.block b
    takeBlock b ⟨s.readCopy damaged b true k.a, s.readCopy damaged b false k.b⟩
  ⟨[t 1, t 2, t 3], t Blk.repairMap, t Blk.dictionary, t Blk.licences, t Blk.security⟩

/-- Put what was read into force (R518, R519). Log 44 (DEDUCED). -/
def State.useFlash (s : State) (r : BootRead) : State :=
  let all := r.firmware ++ [r.repair, r.dict, r.lic, r.sec]
  let nums := [1, 2, 3, Blk.repairMap, Blk.dictionary, Blk.licences, Blk.security]
  let s := (nums.zip all).foldl (fun s p => s.setBlock p.1 p.2.block) s
  let s := s.loadDict r.dict.body
  let s := s.loadSecurity r.sec.body
  let s := { s with
    repair := r.repair.body.foldl (fun (l : List (Nat × Word)) (p : Nat × Nat) => put (fun _ => repairGood) l p.1 (BitVec.ofNat 32 p.2)) []
    vault := { s.vault with licences := r.lic.body.map fun (p : Nat × Nat) => Licence.unpack p.1 p.2 }
    flash := { s.flash with
      waiting := []
      images := [1, 2, 3].zip (r.firmware.map fun (t : Taken) => look (fun _ => 0) t.body 0) } }
  let copies := (r.firmware.map (·.copy)).zipIdx.foldl (fun a p => a + fld p.1 (2 * p.2) 2) 0
  let s := (s.set K.bootCopies copies).set K.bootFlashState (if r.dict.event = 1 then 2 else 0)
  let n := (all.filter (·.fixed)).length
  if n = 0 then s else (s.bump K.flashBlockRepairs n).dirty Blk.dictionary

/-- The events that reading flash raises (R518); licences that fail are reported (R9, R10). -/
def State.flashEvents (s : State) (r : BootRead) : State :=
  let s := if r.dict.event = 1 then s.raise 0x60 [] else s
  let s := if r.repair.event = 2 then s.raise 0x61 [] else s
  let s := if r.dict.event = 2 then s.raise 0x62 [] else s
  let s := (s.vault.licences.filter fun l => s.vault.licFails.contains l.serial).foldl
    (fun s l => s.raise 0x22 (leBytes 8 l.serial)) s
  if s.vault.inForce.isEmpty then s.raise 0x23 [] else s

/-! ### The vault starts -/

/-- Extend a measurement register (R308). -/
def extend (m d : BitVec 256) : BitVec 256 := Config.sm3 (leBytes 32 m.toNat ++ leBytes 32 d.toNat)

/-- DIGEST of a firmware image in force. -/
def Taken.digest (t : Taken) : BitVec 256 := BitVec.ofNat 256 (look (fun _ => 0) t.body 1)

/-- M0 to M3 from zero: the DIGESTs of the images in force and the digest of each licence in force (R308, R522).
Log 149 (DEDUCED). -/
def State.measureBoot (s : State) (firmware : List Taken) : State :=
  let one := fun (i : Nat) => extend 0 (((firmware[i]?).map Taken.digest).getD 0)
  let m3 := (s.vault.inForce.map (·.digest)).foldl extend 0
  { s with vault := { s.vault with meas := [one 0, one 1, one 2, m3, 0, 0, 0, 0] } }

/-- The seal counter resumes at the base of the block after the last recorded one, which is recorded (R305). A revoked
vault signs no security block (R288, R291). -/
def State.startSeal (s : State) : State :=
  let b := s.vault.sealBlock + 1
  let s := { s with vault := { s.vault with sealBlock := b, sealCtr := b * 2 ^ 32 } }
  if s.revoked then s else s.setBlock Blk.security ((s.block Blk.security).rewrite (s.blockBody Blk.security))

/-- Clearing that power loss cut short is completed before anything else runs (R317). Log 122 (DEDUCED). -/
def State.finishClear (s : State) : State := if s.vault.clearBegun then s.set K.identityState 2 else s

/-! ### The repair map and the strands -/

/-- Slots of a half-row that carry nothing: not enabled, or in frost. -/
def State.badSlots (s : State) (st : Nat) : List Nat :=
  ((List.range 13).map (hslot st)).filter fun t => !s.slotEnabled t || s.slotFrost t

/-- The spare slot of every half-row under the repair map: the slot that fails, else the outermost (R142, R143).
Log 101 (DEDUCED). -/
def State.laySpares (s : State) : State :=
  (List.range 48).foldl (fun s st => s.setSpare st ((s.badSlots st).headD (outerSlot st))) s

/-- A loaded plan for `n` stages declares a placement of one stage fewer (R144, R150, R179). -/
def State.shortPlan (s : State) (n : Nat) : Bool := s.plans.any fun p => planShort p.file && planStages p.file = n

/-- Retire strands that have lost more than their spare (R144). -/
def State.layRetired (s : State) : State :=
  let short := s.shortPlan 12
  let s := (List.range 48).foldl (fun s st =>
    if 2 < (s.badSlots st).length ∨ (2 ≤ (s.badSlots st).length ∧ short = false) then
      s.onStrand st fun v => { v with phase := .retired }
    else s) s
  s.set K.strandsRetired (((List.range 48).filter fun st => (s.strand st).phase = .retired).length)

/-- A cold-start march failure of a tile: frost with cause 6 (R493, R521). Which of its arrays are targets of
tile_skim_fails the failure does not say. -/
def State.marchFrost (s : State) (t : Nat) : State :=
  if s.slotFrost t || !s.slotEnabled t then s
  else
    let w := (s.repairWord t &&& 0xE3FFFFFF) ||| BitVec.ofNat 32 (2 ^ 25 + fld Cause.march 26 3)
    let (n, s) := s.draw
    let s := s.bump (K.tileSkimFails t) (Config.choice 11 n % 3)
    ((((s.setRepair t w).setKept (K.tileHealth t) 4).bump K.frostTiles 1).dirty Blk.repairMap).raise 0x44
      (tileArg t ++ leBytes 1 Cause.march)

/-- A bank that failed its march is unusable (R493). -/
def State.marchBank (s : State) (t b : Nat) : State :=
  if bit (s.repairWord t).toNat b then
    ((s.setRepair t (s.repairWord t &&& ~~~(BitVec.ofNat 32 (2 ^ b)))).dirty Blk.repairMap).bump (K.tileSkimFails t) 1
  else s

/-- A bank named in bank_restore passes its march at a cold start and is usable again (R494). Log 58 (DEDUCED). -/
def State.restoreBank (s : State) (t b : Nat) : State :=
  (s.setRepair t (s.repairWord t ||| BitVec.ofNat 32 (2 ^ b))).dirty Blk.repairMap

/-- The banks whose signature of the cold-start tests is not the reference (R491, R493, R502). -/
def BootIn.failedBanks (b : BootIn) : List (Nat × Nat) :=
  (b.bankErrs.filter fun p => coldFails 2048 p.2).map fun p => (p.1.1.val, p.1.2.val)

/-- The march tests of step 5 (R492 to R494). Requests of bank_restore are consumed by a cold start.
Log 58 (DEDUCED). -/
def State.march (s : State) (b : BootIn) (kind : Nat) : State :=
  let bad := fun (q : Nat × Nat) => b.failedBanks.contains q
  let s := if kind = 1 then
      let l := s.selftest.restore
      let s := { s with selftest := { s.selftest with restore := [] } }
      l.foldl (fun s q => if bad q then s else s.restoreBank q.1 q.2) s
    else s
  let s := b.failedBanks.foldl (fun s p => s.marchBank p.1 p.2) s
  let s := b.tileFails.foldl (fun s t => s.marchFrost t.val) s
  s.set K.coldMarchResult
    (if b.otherArrayFail then 3 else if !b.tileFails.isEmpty then 2 else if !b.failedBanks.isEmpty then 1 else 0)

/-- A tile after reset, under its repair word. -/
def State.freshTile (s : State) (t trim pace : Nat) : Tile :=
  { Tile.reset with
    pad := { Pad.reset with bankOk := BitVec.ofNat 24 (s.repairWord t).toNat }
    enabled := s.slotEnabled t && !s.slotFrost t
    trimAsked := trim
    ownPace := pace }

/-- Every tile cleared, with the trim and pace of the dictionary (R524). A trim that no longer fits the supply in force is
cut to the largest step that does (R33). -/
def State.freshTiles (s : State) : State :=
  let s := allSlots.foldl (fun s t => s.setTile t (s.freshTile t (s.get (K.tileTrim t)) (s.get (K.tilePace t)))) { s with tiles := [] }
  if s.dipping then s else allSlots.foldl (fun s t => if (s.tile t).trimAsked = 0 then s else s.applyTrim t) s

/-- The rung that a persisted tile_health stands for (R480, R489). Log 48 (DEDUCED). -/
def healthRung (h : Nat) : Nat := if 1 ≤ h ∧ h ≤ 3 then h else if h = 4 then 4 else 0

/-- The suspects that tile_health keeps through a reset. Log 48 (DEDUCED). -/
def State.loadSuspects (s : State) : State :=
  allSlots.foldl (fun s t =>
    let h := s.get (K.tileHealth t)
    if h = 0 ∨ h = 5 then s else s.setSuspect t { Suspect.none with rung := healthRung h, since := s.timeBase }) s

/-! ### Stops of the boot sequence (R523, R583) -/

def State.bootStop (s : State) (phase : BootPhase) (code : Nat) : State :=
  { s with boot := phase }.set K.frontFaultCode code

/-! ### READY -/

/-- Licensed ports light and train (R394, R405 step 1). -/
def State.lightPorts (s : State) : State :=
  (List.range 8).foldl (fun s n =>
    if n < s.licPorts ∧ s.get (K.portState n) = 0 then (s.setPort n { s.port n with lit := true }).set (K.portState n) 1
    else s) s

/-- The module becomes ready: P classes open, READY set and signalled, the RESET record first, a quiesce that waited
taken (R522 step 9, R525 step 8, R559, R563, R579). -/
def State.becomeReady (s : State) (ms : Nat) (first : State → State) : State :=
  let s := { s with boot := .ready }.set K.lastReadyMs ms
  let s := (s.loadTables.set K.priorityClassState 0).deviceEvent
  (((first s).resetRecord.flushBehind).beginInterval).waitedQuiesce

/-! ### The memory controllers at work (R274, R276, R278) -/

/-- Row of R274 for a temperature in tenths of a degree: 1, 2, 4, or 5 with the access limit. -/
def tempRow (t : Int) : Nat := if t ≤ 850 then 1 else if t ≤ 950 then 2 else if t ≤ 1050 then 4 else 5

/-- A reading of a package: a lower row applies only 3 °C below its threshold; a first reading decides by itself. -/
def Pkg.read (p : Pkg) (t : Int) : Pkg :=
  ⟨if p.temp.isNone then tempRow t else max (tempRow t) (min p.row (tempRow (t + 30))), some t⟩

def State.pkg (s : State) (i : Nat) : Pkg := look (fun _ => Pkg.reset) s.mem.pkgs i

/-- One package's reading, with its alarm on entering a hot row. Log 54 (DEDUCED). -/
def State.readPkg (s : State) (i : Nat) (t : Int) : State :=
  let p := s.pkg i
  let q := p.read t
  let s := { s with mem := { s.mem with pkgs := put (fun _ => Pkg.reset) s.mem.pkgs i q } }
  if 4 ≤ q.row ∧ (p.temp.isNone ∨ p.row < q.row) then s.raise 0x13 [] else s

/-- Entries that show the readings. -/
def State.showTemps (s : State) : State :=
  let rows := (List.range 12).map fun i => (s.pkg i).row
  let temps := (List.range 12).filterMap fun i => (s.pkg i).temp
  let hot := temps.foldl max (-32768)
  let top := rows.foldl max 0
  let s := (s.set K.dramHottest (ofInt 16 hot)).set K.refreshMultiplier (min 4 top)
  let s := s.set K.memoryLimited (b2n (top = 5))
  let sub := ((List.range 96).find? fun c => (s.pkg (pkgOf c)).temp = some hot).getD 0
  s.sample 4 hot (binOf hot 400 50) sub

/-- The packages are read. -/
def State.readTemps (s : State) (temps : List Int) : State :=
  ((temps.take 12).zipIdx.foldl (fun s p => s.readPkg p.2 p.1) s).showTemps

/-- A sub-channel is trained at its package's temperature. -/
def State.trainSub (s : State) (sub : Nat) : State :=
  let t := ((s.pkg (pkgOf sub)).temp).getD 0
  { s with mem := { s.mem with trained := put (fun _ => none) s.mem.trained sub (some (t, s.timeBase)) } }

/-- The package of a sub-channel trained at temperature `v.1` and time `v.2` has moved this many tenths of a degree since, or
its training lies 10 s back (R276). -/
def State.trainingDue (s : State) (tenths sub : Nat) (v : Int × Nat) : Bool :=
  tenths ≤ (((s.pkg (pkgOf sub)).temp).getD 0 - v.1).natAbs || v.2 + 10000000000 ≤ s.timeBase

/-- Sub-channels whose package temperature has moved this many tenths of a degree since their last training, or whose last
training lies 10 s back, are to be retrained: subch_train_state reads 1 (R276, R279). Log 5 (DESIGN CHOICE). -/
def State.callRetrain (s : State) (tenths : Nat) : State :=
  s.mem.trained.foldl (fun s p =>
    if (p.2.map (s.trainingDue tenths p.1)).getD false then s.set (K.subchTrainState p.1) 1 else s) s

/-- The first readout of each package, and the training of every sub-channel after it (R274, R276).
Log 144 (DEDUCED). -/
def State.trainAll (s : State) : State :=
  let (n, s) := s.drawMany 12
  let s := s.readTemps ((List.range 12).map fun i => (BitVec.ofNat 16 (Config.freeNat (n + i))).toInt)
  (List.range 96).foldl State.trainSub s

/-- From reading flash to the vault's start (R522, steps 2 to 4). -/
def State.bootLoad (s : State) (b : BootIn) (r : BootRead) : State :=
  let s := s.useFlash r
  let s := { s with vault := { s.vault with licFails := b.licFails } }
  ((s.finishClear.measureBoot r.firmware).startSeal).applyLicences

/-- Steps 5 to 9 of R522, with both tiers zeroed and the DIP record of a dip reset first. -/
def State.bootFinish (s : State) (b : BootIn) (kind : Nat) : State :=
  let s := { s with mem := { Mem.reset with keyCount := s.mem.keyCount + 1, allRefreshed := s.timeBase } }
  let s := s.trainAll
  let s := (((s.laySpares.layRetired).licenseStrands).freshTiles).loadSuspects.lightPorts
  let s := (s.raise 0x20 []).raise 0x21 []
  let s := s.bump K.coldStartCount 1
  let s := if kind = 2 then s.bump K.moduleResetCount 1 else s
  let s := if s.get K.identityState = 2 then s.set K.frontFaultCode 7 else s
  let dip := fun (s : State) =>
    match s.power.standby with
    | none => s
    | some (st, fl, us, mv, row) =>
      ({ s with power := { s.power with standby := none } } : State).writeRecord 5 st fl (dipPayload us mv row true)
  (s.becomeReady b.readyMs dip).dirty Blk.dictionary

/-- The boot sequence of a cold start or a module reset (R522, R523, R276, R493). -/
def State.bootUp (s : State) (b : BootIn) (kind : Nat) : State :=
  let s := s.onRecorder fun r => { r with clearing := keepBack }
  let r := s.readFlash b.damaged
  let bad := fun (i : Nat) => ((r.firmware[i]?).map fun t => decide (t.event = 2)).getD true
  if bad 0 then s.bootStop .recovery 4
  else
    let s := s.bootLoad b r
    if bad 1 || bad 2 then (s.flashEvents r |>.raise 0x63 []).bootStop .stopped 4
    else
      let s := (s.flashEvents r).march b kind
      if b.otherArrayFail then (s.raise 0x52 []).bootStop .stopped 5
      else if !b.trainFails.isEmpty then
        (s.raise 0x14 []).bootStop .stopped 6
      else s.bootFinish b kind

end Sys2Proof.Machine
end

