-- ==== Sys2Proof/Machine/LifeOps.lean ====
section
/-! DEFINITION. Shared operations of resets and supply (R510 to R514, R524, R525, R574, R585): what each reset keeps and
clears, the start of a reset and of a thaw, and the rails going down. -/

namespace Sys2Proof.Machine

/-! ### Cold start and module reset (R524) -/

/-- Entries that the power stages and the vault's own storage keep through every reset. Log 46 (DEDUCED). -/
def keptKeys : List Nat :=
  [K.identityState, K.minSvn, K.inputLossCount, K.railFaultRecord, K.thermtripCount, K.lastResetKind, K.lastResetCause,
    K.inputVoltage, K.slotId, K.sidebandState, K.coolantInlet, K.coolantOutlet, K.coolantFlow, K.coolantState, K.inputPower,
    K.hottestTj]

/-- What a dip reset keeps in the standby copy of the recorder beside them (R529). Log 46 (DEDUCED). -/
def dipKeys : List Nat := [K.dipResetCount, K.lastDipMin, K.lastDipDuration]

/-- An entry keeps its value through a reset of a kind. -/
def keepsKey (kind : Nat) (dip : Bool) (k : Nat) : Bool :=
  keptKeys.contains k || (dip && dipKeys.contains k) || (kind = 2 && k = K.vcoreActual)

/-- The highest RSEQ in the flash rings plus 1 (R559). -/
def Recorder.resume (r : Recorder) : Nat :=
  (r.flashA ++ r.flashB).foldl (fun n p => max n (leAt p.2 8 4 + 1)) 0

/-- The recorder after a cold start or module reset: the far ring and the buffer are lost (R564 to R566).
Log 47 (DEDUCED). -/
def Recorder.restart (r : Recorder) : Recorder :=
  { Recorder.reset with
    next := r.resume
    flashA := r.flashA
    flashB := r.flashB
    clearing := keepBack }

/-- The power stages after a reset: a dip goes on over a module reset (R528). -/
def Power.restart (p : Power) (kind : Nat) : Power :=
  { Power.reset with
    phase := p.phase
    inputMv := p.inputMv
    retryUsed := p.retryUsed
    seqFail := p.seqFail
    railDown := p.railDown
    shortRetry := p.shortRetry
    thermTrip := if kind = 1 then false else p.thermTrip
    dip := if kind = 2 then p.dip else none
    standby := p.standby
    monitors := p.monitors }

/-- Everything a cold start or module reset clears; the boot sequence has not yet run. -/
def State.clearAll (s : State) (kind : Nat) (dip : Bool) : State :=
  { timeBase := 0
    freeCount := s.freeCount
    tiles := []
    dict := s.dict.filter fun p => keepsKey kind dip p.1
    octets := []
    repair := []
    spares := []
    out := s.out
    net := Net.reset
    mem := { Mem.reset with keyPresent := false, keyCount := s.mem.keyCount }
    power := s.power.restart kind
    boot := .booting
    flash := { s.flash with waiting := [] }
    mgmt := Mgmt.reset
    recorder := s.recorder.restart
    front := { Front.reset with slotId := s.front.slotId, pwrEn := s.front.pwrEn, stuck := s.front.stuck, console := s.front.console }
    strands := []
    plans := []
    vault := { Vault.reset with clearBegun := s.vault.clearBegun, sealBlock := s.vault.sealBlock }
    host := HostLink.reset
    shards := []
    batches := []
    check := Check.reset
    selftest := { SelfTest.reset with restore := s.selftest.restore }
    fabric := Fabric.reset
    tunes := []
    pending := s.pending }

/-- A clearing that failed stands until the module is powered off (R317). -/
def State.keepScan (s old : State) (kind : Nat) : State :=
  if kind = 2 ∧ old.get K.scanState = 3 then s.set K.scanState 3 else s

/-- A reset of kind 1 or 2 starts with a cause of R513; one under way starts again (R514). Without rails nothing
starts. Log 46 (DEDUCED), 56 (DEDUCED). -/
def State.startWith (s : State) (kind cause : Nat) (dip : Bool) : State :=
  if s.power.phase ≠ .up then s
  else
    let t := (s.clearAll kind dip).keepScan s kind
    (t.set K.lastResetKind kind).set K.lastResetCause cause

/-- A reset with a cause that R513 names; cause 6 is a dip reset. Log 46 (DEDUCED). -/
def State.startReset (s : State) (kind cause : Nat) : State := s.startWith kind cause (decide (cause = 6))

/-- Every rail but the standby rail goes off (R510, R512, R574, R585); the module is safe to pull. -/
def State.railsOff (s : State) (phase : PowerPhase) : State :=
  let s := s.clearAll 1 false
  ({ s with power := { s.power with phase := phase }, front := { s.front with modSafe := true } } : State).emit (.rails false)

/-! ### Thaw (R525) -/

/-- Windows close with the thaw; their numbers wait for the reuse hold (R429). -/
def State.thawWindows (s : State) : State :=
  let t := s.timeBase
  s.onFabric fun f => { f with
    windows := mapVals (fun _ => Window.closed)
      (fun (w : Window) => if w.state = 0 then w else { Window.closed with freedAt := some t }) f.windows
    transfers := []
    mcasts := []
    closes := []
    flows := f.flows.map fun (r : RFlow) => { r with held := [], unacked := 0, nacks := 0 } }

/-- A strand after a thaw: retired, joined and unlicensed strands stay so, and a fusion stays (R525 step 7). -/
def Strand.thawed (v : Strand) : Strand :=
  { Strand.reset with
    phase := if v.phase = .retired ∨ v.phase = .joined ∨ v.phase = .unlicensed then v.phase else .idle
    fused := v.fused
    claimed := v.claimed }

/-- Writes of memory that no node had acknowledged were performed or were not. Log 39 (DESIGN CHOICE). -/
def State.thawWrites (s : State) : State :=
  let ws := s.mem.writes
  let s := { s with mem := { s.mem with writes := [] } }
  ws.foldl (fun s w =>
    let (n, s) := s.draw
    if Config.choice 8 n % 2 = 0 then s else s.memWrite (w.line * 64) w.data) s

/-- Every pin goes (R299). -/
def VKey.thawed (k : VKey) : VKey := { k with pins := 0 }

/-- Tuning sessions lose the step they ran and, with every window, their own; one that was opening is freed (R429,
R453). -/
def Tune.thawed (x : Tune) : Tune :=
  if x.openJob.isSome then Tune.closed
  else
    match x.job with
    | some j => { x.lose j with window := none }
    | none => { x with window := none }

/-- Tiles, strands and what ran on them after the thaw's arrays are cleared (R524). -/
def State.thawTiles (s : State) : State :=
  let s := allSlots.foldl (fun s t => s.abandonSlice t) s
  let s := s.thawWrites
  let s := { s with
    net := { Net.reset with spillPeak := s.net.spillPeak }
    selftest := { s.selftest with saveSlots := [] } }
  let s := (List.range 48).foldl (fun s st => s.onStrand st Strand.thawed) s
  allSlots.foldl (fun s t =>
    let x := s.tile t
    let bank := BitVec.ofNat 24 (s.repairWord t).toNat
    s.setTile t { Tile.reset with
      pad := { Pad.reset with bankOk := bank }
      enabled := s.slotEnabled t && !s.slotFrost t
      safe := x.safe
      trimAsked := x.trimAsked
      ownPace := x.ownPace }) s

/-- What the host engine, the vault, the shards, the sessions and the supervisor drop. Log 71 (DEDUCED). -/
def State.thawWork (s : State) : State :=
  let s := s.setKeys ((s.vault.keys.filter fun k => !k.removed).map VKey.thawed)
  let s := { s with
    vault := { s.vault with thawGen := s.vault.thawGen + 1 }
    host := { s.host with
      lru := []
      channels := mapVals (fun _ => Channel.reset)
        (fun (c : Channel) => { c with fly := c.fly.map fun (d : Desc) => { d with hold := none } }) s.host.channels }
    batches := []
    tunes := mapVals (fun _ => Tune.closed) Tune.thawed s.tunes
    check := { s.check with disputes := [], posted := [], watch := [], fencing := [], readmits := [] } }
  s.allFly.foldl (fun s j => s.onShards fun x => x.leave j) s

/-- A half-row whose spare works, and one of whose slots is in frost, has that slot as its spare (R143). -/
def State.moveSpares (s : State) : State :=
  (List.range 48).foldl (fun s st =>
    let bad := s.badSlots st
    if bad.contains (s.spareSlot st) then s else s.setSpare st (bad.headD (s.spareSlot st))) s

/-- Strands that the repair map now retires (R144, R525 step 4). Log 101 (DEDUCED). -/
def State.thawRetired (s : State) : State :=
  let old := (List.range 48).filter fun st => (s.strand st).phase = .retired
  let s := s.moveSpares.layRetired
  (List.range 48).foldl (fun s st =>
    if (s.strand st).phase = .retired && !old.contains st then s.raise 0x46 (leBytes 1 st) else s) s

/-- Steps 1 to 5 of a thaw. -/
def State.beginThaw (s : State) (cause : Nat) : State :=
  let s := s.endInterval
  let s := s.onRecorder fun r => { r with clearing := if r.clearing = 0 then keepBack else r.clearing }
  let s := { s with
    boot := .thawing
    host := { s.host with thaws := (s.host.thaws + 1) % 2 ^ 32 }
    mem := { s.mem with selfRefresh := true } }
  let s := ((s.set K.lastResetKind 3).set K.lastResetCause cause).deviceEvent
  let s := (s.closeP.set K.priorityClassState 2).thawWindows
  ((s.thawTiles).thawWork).thawRetired

/-- A thaw event (R514, R525): absorbed by a running thaw, ignored before READY and counted if it came over PCIe. -/
def State.startThaw (s : State) (cause : Nat) : State :=
  match s.boot with
  | .ready => s.beginThaw cause
  | .thawing => { s with host := { s.host with thaws := (s.host.thaws + 1) % 2 ^ 32 } }
  | _ => if cause = 10 && s.power.phase = .up then s.bump K.barWritesDropped 1 else s

/-- Descriptors fetched and not committed are answered RESET_LOST, in order per channel (R356). -/
def State.loseAll (s : State) : State :=
  let js := s.allFly
  let s := js.foldl (fun s j => (s.overrule j St.resetLost).bump K.resetLostCount 1) s
  if js.isEmpty then s else { s with host := { s.host with lostPending := true } }

/-- Commit what may be committed, descriptor by descriptor. -/
def State.commitAll (s : State) (js : List JobId) : State := js.foldl (fun s j => s.commit j false) s

/-- Steps 6 to 8 of a thaw. Log 56 (DEDUCED). -/
def State.endThaw (s : State) (ms : Nat) : State :=
  let js := s.allFly
  let s := { s with mem := { s.mem with selfRefresh := false } }
  ((s.loseAll.becomeReady ms id).commitAll js).dirty Blk.dictionary

end Sys2Proof.Machine
end

