-- ==== Sys2Proof/Machine/LifeEvents.lean ====
section
/-! DEFINITION. Power and reset events (R510 to R514, R522, R525, R529, R574, R585, R320). -/

namespace Sys2Proof.Machine

/-! ### Supply -/

def State.onPower (s : State) (f : Power → Power) : State := { s with power := f s.power }

/-- Measured input in the power stage and in input_voltage (R530). -/
def State.setInput (s : State) (mv : Nat) : State := (s.onPower fun p => { p with inputMv := mv }).set K.inputVoltage (mv / 100)

/-- Rails are up: a cold start begins (R510, R513). -/
def State.railsUp (s : State) (cause : Nat) : State :=
  let s := s.onPower fun p => { p with phase := .up }
  ({ s with front := { s.front with modSafe := false } } : State).emit (.rails true) |>.startWith 1 cause false

/-- POWER_UP (R510, R511): the input has stood above 39 V for 100 ms. After an overvoltage it must stand within 39 V to
60 V. With PWR_EN low only the standby rail comes up (R574). -/
def execPowerUp (mv ms : Nat) (badRail : Bool) (s : State) : Host.Outcome State Fault Refusal :=
  if s.power.phase = .dark ∧ 39000 < mv ∧ mv ≤ 62000 ∧ (s.power.inputMv ≤ 62000 ∨ mv ≤ 60000) ∧ 100 ≤ ms then
    let s := s.setInput mv
    if !s.front.pwrEn then .next (s.onPower fun p => { p with phase := .standby })
    else if badRail then .next (s.onPower fun p => { p with phase := .standby, seqFail := true, retryUsed := false })
    else .next (s.railsUp 1)
  else .next s

/-- Code of a rail in rail_fault_record (R592). -/
def Rail.code : Rail → Nat
  | .vsoc => 1
  | .vio => 2
  | .lpddr6 => 3
  | .vopt => 4
  | .vstby => 5
  | .vcore row => 0x10 + row.val

/-- Place of a rail in the order of power-up (R510); rails fall in the reverse order. -/
def Rail.order : Rail → Nat
  | .vstby => 1
  | .vsoc => 2
  | .vio => 3
  | .lpddr6 => 4
  | .vcore _ => 5
  | .vopt => 6

/-- Millivolts of a rail (R510); the LPDDR6 supplies are those of the standard. -/
def Rail.millivolts : Rail → Option Nat
  | .vstby => some 3300
  | .vsoc => some 800
  | .vio => some 1200
  | .lpddr6 => none
  | .vcore _ => some 800
  | .vopt => some 3300

/-- Milliseconds from the start of power-up within which a rail is in tolerance (R510). -/
def Rail.withinMs : Rail → Nat
  | .vstby => 10
  | .vsoc => 15
  | .vio => 17
  | .lpddr6 => 22
  | .vcore _ => 27
  | .vopt => 30

/-- A rail within 3 % of its value (R510). -/
def Rail.inTolerance (r : Rail) (mv : Nat) : Bool :=
  match r.millivolts with
  | some v => decide (97 * v ≤ 100 * mv) && decide (100 * mv ≤ 103 * v)
  | none => true

/-- A short is entered in rail_fault_record. -/
def State.noteShort (s : State) (r : Rail) : State :=
  s.set K.railFaultRecord (r.code + fld (s.get K.railFaultRecord / 256 + 1) 8 24)

/-- RAIL_SHORT (R585): the rails go off and one retry waits; a second short leaves the module off with code 0x02. A short
on the standby rail leaves it dark. Log 55 (DEDUCED). -/
def execRailShort (rail : Rail) (s : State) : Host.Outcome State Fault Refusal :=
  if rail = .vstby then
    if s.power.phase = .dark then .next s else .next ((s.noteShort rail).railsOff .dark)
  else if s.power.phase ≠ .up then .next s
  else
    let used := s.power.shortRetry
    let s := ((s.noteShort rail).railsOff .standby).onPower fun p => { p with railDown := rail.code }
    .next (if used then s.set K.frontFaultCode 2 else s)

/-- A retry of R510 waits. -/
def Power.seqRetry (p : Power) : Bool := p.phase = .standby && p.seqFail && !p.retryUsed
/-- A retry of R585 waits. -/
def Power.railRetry (p : Power) : Bool := p.phase = .standby && p.railDown ≠ 0 && !p.shortRetry

/-- RAIL_RETRY (R510, R585). R513 gives no code for the restart after a short, so its cause is free.
Log 55 (DEDUCED). -/
def execRailRetry (ok : Bool) (elapsedMs : Nat) (s : State) : Host.Outcome State Fault Refusal :=
  if elapsedMs < 1000 then .next s
  else if s.power.seqRetry then
    let s := s.onPower fun p => { p with retryUsed := true }
    .next (if ok then s.railsUp 1 else s.set K.frontFaultCode 1)
  else if s.power.railRetry then
    let s := s.onPower fun p => { p with shortRetry := true }
    if ok then
      let (n, s) := s.draw
      .next (s.railsUp (Config.choice 12 n % 15))
    else .next (s.set K.frontFaultCode 2)
  else .next s

/-- INPUT_LOW (R511). -/
def execInputLow (mv : Nat) (s : State) : Host.Outcome State Fault Refusal :=
  if s.power.phase = .up ∧ 37000 ≤ mv ∧ mv < 40000 then .next ((s.setInput mv).raise 0x05 []) else .next s

/-- INPUT_HIGH (R511). -/
def execInputHigh (mv : Nat) (s : State) : Host.Outcome State Fault Refusal :=
  if s.power.phase = .up ∧ 60000 < mv ∧ mv ≤ 62000 then .next ((s.setInput mv).raise 0x06 []) else .next s

/-- INPUT_LOST (R511, R512): the alarm leaves if the link is up, the count rises, the rails fall. -/
def execInputLost (mv : Nat) (s : State) : Host.Outcome State Fault Refusal :=
  if s.power.phase = .dark ∨ (37000 ≤ mv ∧ mv ≤ 62000) then .next s
  else if s.power.phase = .standby then .next ((s.onPower fun p => { p with phase := .dark, seqFail := false }).setInput mv)
  else
    let s := if s.get K.mportLink = 1 then s.raise 0x07 [] else s
    .next (((s.bump K.inputLossCount 1).railsOff .dark).setInput mv)

/-- THERMAL_SHUTDOWN (R44, R583): at 105 °C every rail but standby goes off. -/
def execThermalShutdown (tj : Int) (s : State) : Host.Outcome State Fault Refusal :=
  if s.power.phase ≠ .up ∨ tj < 1050 then .next s
  else
    let s := (s.set K.hottestTj (ofInt 16 tj)).bump K.thermtripCount 1
    .next (((s.railsOff .standby).onPower fun p => { p with thermTrip := true }).set K.frontFaultCode 3)

/-- PWR_EN_LOW (R574). -/
def execPwrEnLow (ms : Nat) (s : State) : Host.Outcome State Fault Refusal :=
  if ms < 10 then .next s
  else
    let s := { s with front := { s.front with pwrEn := false } }
    .next (if s.power.phase = .up then s.railsOff .standby else s)

/-- PWR_EN_RISE (R574): a cold start with cause 2 while the rails are off, unless a sensor reads 85 °C or more.
Log 55 (DEDUCED). -/
def execPwrEnRise (tj : Int) (s : State) : Host.Outcome State Fault Refusal :=
  let s := { s with front := { s.front with pwrEn := true } }
  if s.power.phase = .standby ∧ s.power.seqFail = false ∧ s.power.railDown = 0 ∧ tj < 850 then .next (s.railsUp 2)
  else .next s

/-! ### Resets (R513, R320, R529) -/

/-- VSOC_LOW (R513, code 7). -/
def execVsocLow (mv ns : Nat) (s : State) : Host.Outcome State Fault Refusal :=
  if mv < 720 ∧ 1000 ≤ ns then .next (s.startReset 2 7) else .next s

/-- BOOT_WATCHDOG (R513, code 8). -/
def execBootWatchdog (ms : Nat) (s : State) : Host.Outcome State Fault Refusal :=
  if 1000 ≤ ms then .next (s.startReset 2 8) else .next s

/-- SERVICE_CORE_WATCHDOG (R513, code 13). -/
def execServiceCoreWatchdog (ms : Nat) (s : State) : Host.Outcome State Fault Refusal :=
  if 500 ≤ ms then .next (s.startThaw 13) else .next s

/-- FUNCTION_LEVEL_RESET (R320; R513, code 10). -/
def execFunctionLevelReset (s : State) : Host.Outcome State Fault Refusal := .next (s.startThaw 10)

/-- HOT_RESET (R320; R513, code 4). -/
def execHotReset (s : State) : Host.Outcome State Fault Refusal := .next (s.startReset 2 4)

/-- FUNDAMENTAL_RESET (R320; R513, code 5); unavailable while PERST# is open (R573). -/
def execFundamentalReset (s : State) : Host.Outcome State Fault Refusal :=
  if bit (s.get K.sidebandState) 1 then .next s else .next (s.startReset 2 5)

/-- A row rail falls: the dip begins, or goes on with a lower reading (R526). -/
def State.dipFall (s : State) (row mv : Nat) : State :=
  let d := match s.power.dip with
    | none => (⟨s.timeBase, s.timeBase, mv, row⟩ : Dip)
    | some d => if mv < d.min then { d with min := mv, row := row } else d
  s.onPower fun p => { p with dip := some d }

/-- DIP_RESET (R529; R513, code 6): the standby copy keeps the dip up to the reset. -/
def execDipReset (row : Fin 24) (mv ns : Nat) (s : State) : Host.Outcome State Fault Refusal :=
  if s.power.phase ≠ .up ∨ 550 ≤ mv ∨ ns < 20 then .next s
  else
    let s := s.dipFall row.val mv
    let d := s.power.dip.getD ⟨0, 0, 0, 0⟩
    let us := (s.timeBase - d.start) / 1000
    let (st, fl) := s.stampAt d.start
    let s := ((s.bump K.dipResetCount 1).set K.lastDipMin d.min).set K.lastDipDuration us
    .next ((s.onPower fun p => { p with standby := some (st, fl, us, d.min, d.row) }).startReset 2 6)

/-! ### The boot sequences -/

/-- A short is reported once the boot node runs again (R585). -/
def State.reportShort (s : State) : State :=
  if s.power.railDown = 0 then s
  else
    let c := s.power.railDown
    (s.onPower fun p => { p with railDown := 0 }).raise 0x7A (leBytes 1 c)

/-- The boot sequence of a kind may run: the reset has started, and no dip pauses it (R528). Log 55 (DEDUCED). -/
def State.mayBoot (s : State) (kind : Nat) : Bool :=
  s.power.phase = .up && s.boot = .booting && s.get K.lastResetKind = kind && !s.dipping

/-- Retries of the power stages are free again once the module is ready. -/
def State.retriesFree (s : State) : State :=
  if s.ready then s.onPower fun p => { p with seqFail := false, retryUsed := false, shortRetry := false } else s

/-- COLD_START (R522, R523). Log 55 (DEDUCED). -/
def execColdStart (b : BootIn) (s : State) : Host.Outcome State Fault Refusal :=
  if s.mayBoot 1 then .next ((s.bootUp b 1).reportShort).retriesFree else .next s

/-- MODULE_RESET (R522, R524). -/
def execModuleReset (b : BootIn) (s : State) : Host.Outcome State Fault Refusal :=
  if s.mayBoot 2 then .next ((s.bootUp b 2).reportShort).retriesFree else .next s

/-- THAW (R525, steps 6 to 8): the digest of the Abano image decides; a mismatch is a module reset with cause 14. -/
def execThaw (digestOk : Bool) (readyMs : Nat) (s : State) : Host.Outcome State Fault Refusal :=
  if s.boot ≠ .thawing then .next s
  else if digestOk then .next (s.endThaw readyMs)
  else .next (s.startReset 2 14)

end Sys2Proof.Machine
end

