-- ==== Sys2Proof/Machine/Governor.lean ====
section
/-! DEFINITION. Power, pacing and the governor (R22 to R46), supply dips (R526 to R528) and margins (R30, R478). -/

namespace Sys2Proof.Machine

/-! ### The busy-strand cap (R40, R41) -/

/-- What a strand counts among the busy: one that carries a sequence, is in the shadow role or is claimed counts (R351,
R460), a fused one as two. -/
def State.busyWeight (s : State) (st : Nat) : Nat :=
  let v := s.strand st
  if v.phase = .priming ∨ v.phase = .running ∨ v.phase = .replacing ∨ v.role = 2 ∨ (v.claimed.isSome ∧ v.phase = .idle) then
    (if v.fused.isSome then 2 else 1) else 0

/-- The busy count. -/
def State.busyCount (s : State) : Nat := total ((List.range 48).map s.busyWeight)

/-- Band of a VCORE: 0 to 2 by the table of R40. -/
def vband (mv : Nat) : Nat := if mv ≤ 820 then 0 else if mv ≤ 860 then 1 else 2

/-- Cap of R40 for vcore_setpoint, limited by the licence. -/
def State.busyCap (s : State) : Nat :=
  min s.licStrands ([48, 40, 32].getD (vband (s.get K.vcoreSetpoint)) 32)

/-- A rise of VCORE to `mv` waits for the busy count (R41). -/
def State.capWaits (s : State) (mv : Nat) : Bool :=
  vband (s.get K.vcoreActual) < vband mv && s.busyCap < s.busyCount

/-- A rise towards the ceiling waits for the busy count. -/
def State.capPending (s : State) : Bool :=
  s.get K.vcoreActual < s.get K.vcoreSetpoint && s.capWaits (min (s.get K.vcoreSetpoint) (s.get K.vcoreActual + 10))

/-! ### VCORE -/

/-- Reference rows of R23 in M beats/s at 60, 75 and 95 °C. -/
def beatRows : List (Nat × Nat × Nat × Nat) :=
  [(680, 1550, 1500, 1430), (720, 1740, 1680, 1600), (760, 1930, 1860, 1780), (800, 2120, 2050, 1950),
    (840, 2290, 2210, 2110), (880, 2450, 2370, 2250), (900, 2520, 2430, 2320), (930, 2620, 2530, 2410)]

/-- The rows of the table on either side of a supply. -/
def rowsAround : List (Nat × Nat × Nat × Nat) → Nat → Option ((Nat × Nat × Nat × Nat) × Nat × Nat × Nat × Nat)
  | p :: q :: l, v => if p.1 ≤ v ∧ v ≤ q.1 then some (p, q) else rowsAround (q :: l) v
  | _, _ => none

/-- The specified beat rate (R23, R24) in M beats/s at a supply and a junction temperature in tenths of a degree; none where
R593 leaves it open. VCORE reaches 900 mV, a tile's local supply 930 mV. Log 60 (DEDUCED). -/
def specRate (mv : Nat) (tj : Int) : Option Nat :=
  if tj < 100 ∨ 950 < tj then none
  else
    (rowsAround beatRows mv).map fun r =>
      let (p, q) := r
      let t := tj.toNat
      let d := q.1 - p.1
      let col := fun (f : Nat × Nat × Nat × Nat → Nat) => f p * (q.1 - mv) + f q * (mv - p.1)
      let c60 := col fun x => x.2.1
      let c75 := col fun x => x.2.2.1
      let c95 := col fun x => x.2.2.2
      if t ≤ 600 then c60 * (500000 - 30 * (600 - t)) / (500000 * d)
      else if t ≤ 750 then (c60 * (750 - t) + c75 * (t - 600)) / (150 * d)
      else (c75 * (950 - t) + c95 * (t - 750)) / (200 * d)

/-- The 0.68 V figure, at the nearest temperature of the operating range (R593). Log 60 (DEDUCED). -/
def lowRate (tj : Int) : Nat := (specRate 680 (max 100 (min 950 tj))).getD 0

/-- VCORE is set, and beat_rate_now follows (R26, R37). Trims are capped by the new supply (R33). -/
def State.setVcore (s : State) (mv : Nat) : State :=
  let s := s.set K.vcoreActual mv
  if s.dipping then s
  else allSlots.foldl (fun s t =>
    if (s.tile t).trimAsked = 0 then s else s.applyTrim t) s

/-! ### The governor -/

/-- The limit the governor holds: power_limit, and at most 600 W on LOW_FLOW (R589). -/
def State.powerCap (s : State) : Nat := if s.power.flowCap then min 600 (s.get K.powerLimit) else s.get K.powerLimit

/-- Above 100 °C, or with no coolant flow: the protective action (R44, R589). -/
def State.protect (s : State) : Bool := s.power.hot100 || s.power.noFlow

/-- governor_state. Where several measures stand it shows the first of: thermal, admission paused, minimum pace, VCORE
lowered, cap pending. Log 52 (DEDUCED). -/
def State.showGovernor (s : State) : State :=
  let p := s.power
  s.set K.governorState
    (if p.hot95 || p.hot100 || p.noFlow || s.mem.pkgs.any (fun q => q.2.row = 5) then 4 else if p.paused then 3 else if 0 < p.minPace then 2
     else if p.lowered then 1 else if s.capPending then 5 else 0)

/-- THERMAL_LIMIT on entry above 95 °C and above 100 °C (R44, R552). Log 53 (DEDUCED). -/
def State.heat (s : State) (tj : Int) : State :=
  let s := s.set K.hottestTj (ofInt 16 tj)
  let a := decide (950 < tj)
  let b := decide (1000 < tj)
  let s := if (a && !s.power.hot95) || (b && !s.power.hot100) then s.raise 0x03 [] else s
  s.onPower fun p => { p with hot95 := a, hot100 := b }

/-- One step of R42: VCORE down, or, where it cannot go down or a dip freezes it (R46), minimum pace up, then
admission paused. Log 53 (DEDUCED). -/
def State.limitStep (s : State) (avgW : Nat) : State :=
  let v := s.get K.vcoreActual
  let step := if s.powerCap * 105 < avgW * 100 then 20 else 10
  if 680 < v ∧ s.dipping = false then
    (s.setVcore (max 680 (v - step))).onPower fun p => { p with lowered := true }
  else if s.power.minPace < 7 then
    let s := if s.power.limited then s else s.raise 0x02 []
    s.onPower fun p => { p with minPace := p.minPace + 1, limited := true }
  else s.onPower fun p => { p with paused := true }

/-- VCORE moves 10 mV towards its ceiling (R37, R41). -/
def State.followSetpoint (s : State) : State :=
  let v := s.get K.vcoreActual
  let sp := s.get K.vcoreSetpoint
  if s.dipping then s
  else if sp < v then s.setVcore (max sp (v - 10))
  else if v < sp ∧ s.power.lowered = false ∧ s.capWaits (v + 10) = false then s.setVcore (min sp (v + 10))
  else s

/-- The fast throttle ends one loop after the average has come down (R45). Log 156 (DEDUCED). -/
def State.easeFast (s : State) (above : Bool) : State :=
  if s.power.fast = false then s
  else if above then s.onPower fun p => { p with fastEnding := false }
  else if s.power.fastEnding then s.onPower fun p => { p with fast := false, fastEnding := false }
  else s.onPower fun p => { p with fastEnding := true }

/-- One 1 ms sample of the recorder (R562). Log 54 (DEDUCED). -/
def State.loopSamples (s : State) : State :=
  let v : Int := (s.get K.vcoreActual : Nat)
  let t : Int := sInt (if s.get K.hottestTj < 2 ^ 15 then s.get K.hottestTj else s.get K.hottestTj + (2 ^ 32 - 2 ^ 16))
  let w : Int := (s.get K.inputPower : Nat)
  let k : Nat := total (allSlots.map fun u => (s.tile u).ringUsed) / 1024
  let (n, s) := s.draw
  let s := s.sample 1 v (binOf v 680 15) 0xFFFF
  let s := s.sample 2 t (binOf t 200 50) (tileCode (Config.choice 9 n % 624))
  let s := s.sample 3 w (binOf w 0 60) 0xFFFF
  s.sample 8 (k : Nat) (binOf (k : Nat) 0 65536) 0xFFFF

/-- The governor acts while the module is up and its cold start has ended. -/
def State.governs (s : State) : Bool := s.power.phase = .up && (s.boot = .ready || s.boot = .thawing)

/-- A package above 105 °C: the governor treats the module as in R44 (R274). Log 53 (DEDUCED). -/
def State.dramHot (s : State) : Bool := s.mem.pkgs.any fun p => p.2.row = 5

/-- The loop of R42, with R37, R44, R45 and R46. Log 53 (DEDUCED). -/
def State.governorLoop (s : State) (avgW : Nat) (tj : Int) : State :=
  let s := (s.set K.inputPower avgW).heat tj
  let above := decide (s.powerCap < avgW)
  let s :=
    if s.protect then
      (s.setVcore 680).onPower fun p => { p with lowered := true, minPace := 7, paused := true }
    else if above || s.power.hot95 || s.dramHot then s.limitStep avgW
    else s.followSetpoint
  ((s.easeFast above).showGovernor).loopSamples

/-- GOVERNOR_LOOP (R42). -/
def execGovernorLoop (avgW : Nat) (tj : Int) (s : State) : Host.Outcome State Fault Refusal :=
  if s.governs then .next (s.governorLoop avgW tj) else .next s

/-- One measure is lifted (R43). -/
def State.releaseStep (s : State) : State :=
  let v := s.get K.vcoreActual
  let sp := s.get K.vcoreSetpoint
  if s.power.paused then s.onPower fun p => { p with paused := false }
  else if 0 < s.power.minPace then
    s.onPower fun p => { p with minPace := p.minPace - 1, limited := if p.minPace = 1 then false else p.limited }
  else if s.power.lowered = false then s
  else if sp ≤ v then s.onPower fun p => { p with lowered := false }
  else if s.dipping || s.capWaits (v + 10) then s
  else
    let s := s.setVcore (min sp (v + 10))
    s.onPower fun p => { p with lowered := decide (v + 10 < sp) }

/-- GOVERNOR_RELEASE (R43): every 1 ms average of the last 10 ms lay at least 5 % under the limit. -/
def execGovernorRelease (maxAvgW : Nat) (s : State) : Host.Outcome State Fault Refusal :=
  if s.governs && maxAvgW * 100 ≤ s.powerCap * 95 && !s.power.hot95 && !s.power.hot100 && !s.power.noFlow
      && !s.dramHot then
    .next s.releaseStep.showGovernor
  else .next s

/-- POWER_SAMPLE (R39): a measurement of the power stages; input_power is the mean of the last ten.
Log 54 (DEDUCED). -/
def execPowerSample (watts : Nat) (s : State) : Host.Outcome State Fault Refusal :=
  if s.power.phase = .up then
    let l := (watts :: s.power.samples).take 10
    .next ((s.onPower fun p => { p with samples := l }).set K.inputPower (total l / l.length))
  else .next s

/-- FAST_THROTTLE (R45). -/
def execFastThrottle (watts us : Nat) (s : State) : Host.Outcome State Fault Refusal :=
  if s.power.phase = .up ∧ s.power.fast = false ∧ 1050 < watts ∧ 50 ≤ us then
    .next ((s.onPower fun p => { p with fast := true, fastEnding := false }).bump K.fastThrottleCount 1)
  else .next s

/-- THERMAL_LIMIT (R44). Log 53 (DEDUCED). -/
def execThermalLimit (tj : Int) (s : State) : Host.Outcome State Fault Refusal :=
  if s.governs then .next (s.heat tj).showGovernor else .next s

/-! ### Supply dips (R526, R527) -/

/-- Every running slice is restored and given up (R507). -/
def State.abandonAll (s : State) : State := allSlots.foldl (fun s t => s.abandonSlice t) s

/-- WARNING_LEVEL_FALL (R29, R526, R527 steps 1 to 4). -/
def execWarningLevelFall (row : Fin 24) (mv : Nat) (s : State) : Host.Outcome State Fault Refusal :=
  if s.power.phase ≠ .up ∨ 620 ≤ mv then .next s
  else if s.dipping then .next (s.dipFall row.val mv)
  else .next (((s.dipFall row.val mv).raise 0x04 []).abandonAll.set K.pacingState 1)

/-- A GAP record once flash writes are no longer held (R560, R565). -/
def State.gapRecord (s : State) : State :=
  let r := s.recorder
  if r.dropped = 0 then s
  else (s.onRecorder fun r => { r with dropped := 0, firstDropped := 0 }).record 7 (leBytes 4 r.dropped ++ leBytes 4 r.firstDropped)

/-- A DIP record, stamped with the time of the first fall; while a clear or a reset holds records back it waits. -/
def State.dipRecord (s : State) (d : Dip) (us : Nat) : State :=
  let (st, fl) := s.stampAt d.start
  let p := dipPayload us d.min d.row false
  if s.recorder.clearing ≠ 0 then s.onRecorder fun r => { r with behind := r.behind ++ [(5, st, fl, p)] }
  else s.writeRecord 5 st fl p

/-- Trims that were held take effect (R34). -/
def State.heldTrims (s : State) : State := allSlots.foldl (fun s t => if (s.tile t).trimAsked = s.get (K.tileTrim t) then s else s.applyTrim t) s

/-- The dip is over (R527, steps 6 and 7). One that reached the reset level is recorded at READY (R529). -/
def State.endDip (s : State) (d : Dip) (us : Nat) : State :=
  let s := (s.onPower fun p => { p with dip := none }).set K.pacingState (if s.get K.forceSafePacing = 1 then 2 else 0)
  let s := s.heldTrims
  if s.power.standby.isSome then s
  else
    let s := ((s.bump K.dipCount 1).set K.lastDipMin d.min).set K.lastDipDuration us
    (s.gapRecord).dipRecord d us

/-- SAFE_PACING_EXIT (R29, R527): VCORE has stood at the warning level for 200 µs. -/
def execSafePacingExit (heldUs durationUs : Nat) (s : State) : Host.Outcome State Fault Refusal :=
  match s.power.dip with
  | none => .next s
  | some d => if 200 ≤ heldUs then .next (s.endDip d durationUs) else .next s

/-! ### Margins (R27, R30, R478, R480) -/

/-- One hour in nanoseconds. -/
def hourNs : Nat := 3600000000000

/-- A margin entry counts against its tile: more than ten within an hour meet the criterion, which moves a tile at most
one rung an hour. -/
def State.marginEntry (s : State) (t : Nat) : State :=
  let v := s.suspect t
  let now := s.timeBase
  let l := now :: v.margins.filter fun x => now < x + hourNs
  let s := s.setSuspect t { v with margins := l }
  if l.length ≤ 10 then s
  else
    let s := s.meet t 3
    let due := (v.marginClimb.map fun c => decide (c + hourNs ≤ now)).getD true
    if due then (s.setSuspect t { s.suspect t with marginClimb := some now }).climb t Cause.ladder else s

/-- The two monitors of a tile are read (R27); the recorder keeps the lowest margin of its interval. -/
def State.readMargins (s : State) (t : Nat) (m : Margins) : State :=
  let s := s.onPower fun p => { p with monitors := put (fun _ => none) p.monitors t (some (m.matrix, m.banks)) }
  s.onRecorder fun r => { r with
    lowMargin := put (fun _ => 1000) r.lowMargin t (min m.least (look (fun _ => 1000) r.lowMargin t)) }

/-- A tile enters safe pacing on its own (R30, R480). -/
def State.paceSafe (s : State) (t : Nat) : State :=
  let s := s.onTile t fun x => { x with safe := true }
  let s := s.onRecorder fun r => { r with
    marginLow := r.marginLow + 1
    margins := put (fun _ => 0) r.margins t (look (fun _ => 0) r.margins t + 1) }
  (s.raise 0x01 []).marginEntry t

/-- MARGIN_LOW (R27, R30): a reading of a tile's two monitors, the lower of which is its margin; below 8 % the tile enters
safe pacing. -/
def execMarginLow (t : Slot) (m : Margins) (s : State) : Host.Outcome State Fault Refusal :=
  if (s.tile t.val).enabled = false then .next s
  else
    let s := s.readMargins t.val m
    if 8 ≤ m.least ∨ (s.tile t.val).safe = true then .next s else .next (s.paceSafe t.val)

/-- MARGIN_RECOVER (R27, R30): a reading of a tile whose margin has stayed at or above 12 % for a time. -/
def execMarginRecover (t : Slot) (m : Margins) (heldUs : Nat) (s : State) : Host.Outcome State Fault Refusal :=
  if (s.tile t.val).enabled = false then .next s
  else
    let s := s.readMargins t.val m
    if 12 ≤ m.least ∧ 200 ≤ heldUs then .next (s.onTile t.val fun x => { x with safe := false }) else .next s

end Sys2Proof.Machine
end

