-- ==== Sys2Proof/Machine/StrandEvents.lean ====
section
/-! DEFINITION. Strands: priming (R196 to R203), resident switches (R206), sections (R208), stalls and resumes (R172,
R175), fusion (R149) and re-placement (R484 to R487). -/

namespace Sys2Proof.Machine

/-! ### Priming -/

/-- Barrier members among the slots of a strand, which Abano sets at priming (R243). Log 21 (DESIGN CHOICE). -/
def State.setMembers (s : State) (st : Nat) : State :=
  let slots := s.stageSlots st
  let (n, s) := s.draw
  (List.range 64).foldl (fun s b =>
    let x := s.barrierAt b
    let mine := slots.filter fun t => bit (Config.choice (16 + b) n) t
    s.setBarrier b { members := (x.members.filter fun t => !slots.contains t) ++ mine
                     arrived := x.arrived.filter fun t => !slots.contains t }) s

/-- The section and plan that a strand primes now, and its stage count. -/
def State.primingPlan (s : State) (st : Nat) : Nat × Nat :=
  let v := s.strand st
  if v.phase = .running then (v.nextPlan, 0) else (v.plan, v.sec)

def State.primingCount (s : State) (st : Nat) : Nat :=
  let p := s.primingPlan st
  (planSec (s.planFile p.1) p.2).stages

/-- A waiting job's stages may be primed behind halted stages of the last section (R200, R208). -/
def Strand.overlaps (v : Strand) (sections : Nat) : Bool :=
  v.phase = .running && v.next.isSome && decide (sections ≤ v.sec + 1)

/-- Stage `k` may be streamed now (R200): its turn has come, the segment before it has been sent, and its stage is
restarted. -/
def State.mayStream (s : State) (st k : Nat) : Bool :=
  let v := s.strand st
  let turn := decide ((v.again.getD v.primed) = k) && v.streaming.isNone && decide (k < s.primingCount st)
  let res := v.primed = 0 && v.again.isNone && s.isResident st v.plan
  s.ready && turn &&
    ((v.phase = .priming && !res) || (v.overlaps (planSections (s.planFile v.plan)) && v.halted.contains k &&
      !s.isResident st v.nextPlan))

/-- A slice of the instruction store gives way to priming (R499, R507). -/
def State.yieldSlice (s : State) (t : Nat) : State :=
  if (s.tile t).skim.target = 25 then s.abandonSlice t else s

/-- The priming of a plan begins: the sets that stay, the barrier members, and STAGEMAP and STRAND of every tile of the
strand before any issues (R145, R205, R243). For a waiting job the present one's stages keep theirs, and INTERVAL and ring
size of the waiting job are taken (R147, R235). -/
def State.beginPriming (s : State) (st n : Nat) : State :=
  let s := (s.keepSets st n).setMembers st
  if (s.strand st).phase = .running then
    s.onStrand st fun w => { w with nextInterval := s.intervalFor n, nextRing := s.get (K.spillRingSize st) }
  else s.writeMap st

/-- PRIME_STAGE (R145, R147, R200, R205): the segment of stage `k` begins to stream. Log 32 (DEDUCED). -/
def execPrimeStage (st : StrandId) (k : Fin 24) (s : State) : Host.Outcome State Fault Refusal :=
  if s.mayStream st.val k.val then
    let n := (s.primingPlan st.val).1
    let first := decide (k.val = 0) && (s.strand st.val).again.isNone
    let s := if first then s.beginPriming st.val n else s
    let s := match s.stageSlot st.val k.val with
      | some t => (s.yieldSlice t).mapStage st.val k.val t
      | none => s
    .next (s.onStrand st.val fun v => { v with streaming := some k.val })
  else .next s

/-- A segment failed its CRC: it is streamed once more, and a second failure ends the job (R201). -/
def State.segmentBad (s : State) (st k : Nat) : State :=
  let v := s.strand st
  if v.again = some k then
    let n := (s.primingPlan st).1
    let s := (s.bump K.primerFaultCount 1).raise 0x24 (leBytes 2 n)
    match (if v.phase = .running then v.next else v.job) with
    | some j => s.endJob j (Answer.of St.primerFault)
    | none => s.dropSeq st
  else s.onStrand st fun w => { w with again := some k, streaming := none }

/-- A segment matched: its records take effect and its stage starts (R197, R200, R206). -/
def State.segmentGood (s : State) (st k t : Nat) : State :=
  let v := s.strand st
  let p := v.planOf k
  match stageOf (s.planFile p.1) p.2 k with
  | none => s
  | some r =>
    let rs := recsOf (segment (s.planFile p.1) r)
    let s := ((s.parkStage st k t).loadStage st k t).startStage st k t (segEntry rs r)
    let s := s.onStrand st fun w => { w with streaming := none, again := none, primed := w.primed + 1 }
    if v.phase = .priming ∧ s.primingCount st ≤ v.primed + 1 then
      (s.onStrand st fun w => { w with phase := .running, primed := 0 }).takeSlot st p.1
    else s

/-- PRIMER_SEGMENT_DONE (R200, R201): the last record has landed, and the CRC-32C that the memory node computed over the
bytes it read is compared. `flips` is how that CRC differs from the CRC of the segment as it is stored: 0 where every byte
was read as it stands. -/
def execPrimerSegmentDone (st : StrandId) (k : Fin 24) (flips : Word) (s : State) : Host.Outcome State Fault Refusal :=
  let v := s.strand st.val
  if v.streaming ≠ some k.val then .next s
  else
    let p := v.planOf k.val
    match stageOf (s.planFile p.1) p.2 k.val, s.stageSlot st.val k.val with
    | some r, some t =>
      if (crc32c (segment (s.planFile p.1) r) ^^^ flips).toNat = r.segCrc then .next (s.segmentGood st.val k.val t)
      else .next (s.segmentBad st.val k.val)
    | _, _ => .next (s.segmentBad st.val k.val)

/-- The entries of plan `n` lie in handles 30 to 59 of stage `k` (R206): those of the set that ran last where they are
parked, those of the other set where they are not. -/
def Strand.mustSwap (v : Strand) (n k : Nat) : Bool := (v.lastA = decide (v.resA = n)) = v.parked.contains k

/-- One stage of a resident switch (R206). The marks of the resident regions that stay are set, so that a tile reset since
the last job leaves none out (R207). -/
def State.switchStage (s : State) (st k t : Nat) : State :=
  match s.stageRec st k with
  | none => s
  | some r =>
    let keep := s.residentRanges st k
    let swap := (s.strand st).mustSwap (s.strand st).plan k
    let s := s.onTile t fun x =>
      let x := (x.restartStage keep).markLines true (rangeLines keep)
      if swap then x.swapSets else x
    ((s.mapStage st k t).configStage st k t).startStage st k t r.entry

/-- RESIDENT_SWITCH (R204 to R207): a strand that is to run a resident plan starts it without a primer stream. -/
def execResidentSwitch (st : StrandId) (s : State) : Host.Outcome State Fault Refusal :=
  let v := s.strand st.val
  if s.ready && v.phase = .priming && v.primed = 0 && v.streaming.isNone && v.again.isNone && s.isResident st.val v.plan then
    let s := (s.setMembers st.val).writeMap st.val
    let s := (s.stageSlots st.val).zipIdx.foldl (fun s p => s.switchStage st.val p.2 p.1) s
    .next ((s.onStrand st.val fun w => { w with phase := .running, lastA := decide (w.resA = w.plan), parked := [] }))
  else .next s

/-! ### Sections (R208, R209) -/

/-- Every stage of a strand has reported a FENCE with MEM since it last wrote an output of its section (R208). -/
def State.outputsFenced (s : State) (st : Nat) : Bool := (s.stageSlots st).all fun t => !(s.tile t).units.unfenced

/-- Every stage of the present section has halted and its outputs are fenced, or, for a shadow strand, a strand of its group
is past it. -/
def State.sectionOver (s : State) (st : Nat) : Bool :=
  let v := s.strand st
  if v.role = 2 then (List.range 48).any fun w => (s.strand w).role = 1 && (s.strand w).group = some st && v.sec < (s.strand w).sec
  else v.job.isSome && (List.range (s.secStageCount st)).all (v.halted.contains ·) && s.outputsFenced st

/-- SECTION_ADVANCE (R208, R209): the next section is to be primed, with INTERVAL and ring size as they are set now (R147,
R235); epochs and chunks start again. -/
def execSectionAdvance (st : StrandId) (s : State) : Host.Outcome State Fault Refusal :=
  let v := s.strand st.val
  if v.phase = .running && decide (v.sec + 1 < planSections (s.planFile v.plan)) && s.sectionOver st.val then
    .next (s.onStrand st.val fun w => { w with
      phase := .priming
      sec := w.sec + 1
      chunks := 0
      epoch := 0
      reports := []
      halted := []
      primed := 0
      again := none
      streaming := none
      resumes := 0
      resume := false
      interval := s.intervalFor w.plan
      ring := s.get (K.spillRingSize st.val) })
  else .next s

/-! ### Stall and resume -/

/-- STRAND_STALL (R175). Log 13 (DESIGN CHOICE). -/
def execStrandStall (st : StrandId) (elapsedUs : Nat) (s : State) : Host.Outcome State Fault Refusal :=
  let v := s.strand st.val
  match v.job with
  | some j =>
    if v.phase = .running ∧ s.get K.strandStallLimit ≤ elapsedUs ∧ s.host.d3 = false then
      .next (((s.endJob j (Answer.of St.strandStall)).bump K.strandStallCount 1).raise 0x10 [])
    else .next s
  | none => .next s

/-- STRAND_RESUME (R172, R459). -/
def execStrandResume (st : StrandId) (s : State) : Host.Outcome State Fault Refusal :=
  let v := s.strand st.val
  if v.job.isSome ∧ (v.phase = .running ∨ v.phase = .priming) then .next (s.resumeStrand st.val) else .next s

/-- A checkpoint could not be read: the present section starts from chunk 0 (R267). -/
def State.loseCheckpoint (s : State) (st : Nat) : State :=
  (s.onStrand st fun v => { v with epoch := 0, reports := [], resumes := 0 }).resumeStrand st

/-! ### Fusion (R148, R149) -/

/-- A strand may join a fusion: idle, so licensed and not retired, and free. -/
def Strand.mayFuse (v : Strand) : Bool := v.phase = .idle && v.fused.isNone && v.claimed.isNone && v.role = 0

/-- STRAND_FUSE (R145, R148, R149, R219). -/
def execStrandFuse (row : Fin 24) (s : State) : Host.Outcome State Fault Refusal :=
  let e := 2 * row.val
  if (s.strand e).mayFuse && (s.strand (e + 1)).mayFuse && decide (s.busyCount + 2 ≤ s.busyCap) then
    let s := s.onStrand e fun v => { v with fused := some (e + 1), resA := 0, resB := 0 }
    let s := s.onStrand (e + 1) fun v => { v with fused := some e, phase := .joined, resA := 0, resB := 0 }
    .next (s.closeP.writeMap e)
  else .next s

/-- The pair of a row is two strands again (R145, R219). -/
def State.unfuse (s : State) (e : Nat) : State :=
  let s := s.onStrand e fun v => { v with fused := none, resA := 0, resB := 0 }
  let s := s.onStrand (e + 1) fun v => { v with
    fused := none
    phase := if v.phase = .joined then .idle else v.phase
    resA := 0
    resB := 0 }
  (s.closeP.writeMap e).writeMap (e + 1)

/-! ### Re-placement (R484 to R487) -/

/-- A fenced slot, or one whose bank failed, takes the spare's place: the spare, where usable, becomes a slot with a stage
(R143, R504). -/
def State.moveSpare (s : State) (t : Nat) : State :=
  let h := halfRow t
  let ok := s.spareUsable h
  let s := { s with check := { s.check with fencing := s.check.fencing.filter (· ≠ t) } }
  if ok || !s.slotFrost t then s.setSpare h t else s

/-- Stages that a half-row has lost: it carries twelve with one slot that fails or spares. -/
def State.lostStages (s : State) (h : Nat) : Nat := (s.badSlots h).length - 1

/-- A strand has too few slots to go on: two stages lost, or one with no loaded plan of an 11-stage placement; for a fused
pair, one stage lost and no 23-stage placement in the plan it runs, or in any loaded plan while it runs none (R144, R150).
`more` counts a stage about to be lost. Log 136 (DEDUCED). -/
def State.tooShort (s : State) (st more : Nat) : Bool :=
  let v := s.strand st
  match v.fused with
  | none =>
    let n := s.lostStages st + more
    1 < n || (n = 1 && !s.shortPlan 12)
  | some o =>
    let n := s.lostStages st + s.lostStages o + more
    let f := s.planFile v.plan
    1 < n || (n = 1 && !(if v.job.isSome then planShort f && planStages f = 24 else s.shortPlan 24))

/-- A sequence waits for another strand (R487). Log 57 (DEDUCED). -/
def State.readmit (s : State) (r : Readmit) : State := { s with check := { s.check with readmits := s.check.readmits ++ [r] } }

/-- The sequences of a strand wait for another (R187, R487). -/
def State.readmitAll (s : State) (st : Nat) : State :=
  let v := s.strand st
  let s := match v.job with
    | some j => s.readmit ⟨j, v.plan, v.shape, v.sec, v.place⟩
    | none => s
  match v.next with
  | some j => s.readmit ⟨j, v.nextPlan, v.nextShape, 0, v.nextPlace⟩
  | none => s

/-- A strand, or the pair it belongs to, retires; its sequences are admitted again elsewhere (R144, R150, R487). -/
def State.retire (s : State) (st : Nat) : State :=
  let v := s.strand st
  let s := s.readmitAll st
  let gone := fun (w : Strand) => { Strand.reset with phase := .retired, fused := w.fused, claimed := w.claimed }
  let s := s.onStrand st gone
  let s := match v.fused with
    | some o => s.onStrand o gone
    | none => s
  let s := s.set K.strandsRetired (((List.range 48).filter fun x => (s.strand x).phase = .retired).length)
  let strands := st :: v.fused.toList
  let s := strands.foldl (fun s x => (s.raise 0x46 (leBytes 1 x))) s
  ((strands.filter fun h => (s.badSlots h).length ≥ 2).foldl (fun s x => s.raise 0x47 (leBytes 1 x)) s).tidyGroups

/-- The footprint of stage `k` lies in the mapped scratchpad of its tile (R117, R187). -/
def State.stageFits (s : State) (st k : Nat) : Bool :=
  match s.stageRec st k, s.stageSlot st k with
  | some r, some t => rangeMapped (s.tile t).pad.bankOk r.footLow (r.footHigh - r.footLow)
  | _, _ => true

/-- A stage cannot be primed on its tile: another strand takes the sequences (R187). -/
def State.moveAway (s : State) (st : Nat) : State :=
  (((s.readmitAll st).onStrand st fun v => { v with next := none, nextHalted := [], nextReports := [] }).writeMap st).idleStrand st

/-- Steps 5 to 7 of R484: the moved stages take their segments, and the sequence resumes. A moved stage keeps the running
set alone (R486), is primed only where its footprint fits (R187), and its tile takes its place at barriers (R243). -/
def State.reload (s : State) (st : Nat) (moved : List Nat) : State :=
  let v := s.strand st
  let s := s.onStrand st fun w => { w with
    phase := w.was
    was := .idle
    resA := if moved.isEmpty ∨ w.lastA then w.resA else 0
    resB := if moved.isEmpty ∨ !w.lastA then w.resB else 0
    parked := w.parked.filter fun k => !moved.contains k }
  let n := s.startedCount st
  let load := moved.filter (· < n)
  let s := if moved.isEmpty then s else s.setMembers st
  if !load.all (s.stageFits st) then s.moveAway st
  else
    let s := load.foldl (fun s k =>
      match s.stageSlot st k with
      | some t => s.loadStage st k t
      | none => s) s
    if v.job.isSome ∨ v.role = 2 then
      match v.job with
      | some j =>
        if 3 ≤ v.resumes then s.endJob j { Answer.of St.tileFault with detail := checkUnsettled }
        else ((s.resumeMarks st).writeMap st).restartStages st
      | none => (s.writeMap st).restartStages st
    else s.writeMap st

/-- The re-placement of a strand (R484). Log 57 (DEDUCED). -/
def State.replace (s : State) (st us : Nat) : State :=
  let v := s.strand st
  let s := (s.resetTiles (s.stageSlots st)).closeP
  let before := s.stageSlots st
  let mine := s.check.fencing.filter fun t => s.strandOf t = st
  let s := mine.foldl State.moveSpare s
  let after := s.stageSlots st
  let moved := (List.range after.length).filter fun k => before[k]? ≠ after[k]?
  if v.was = .retired ∨ v.was = .unlicensed ∨ v.was = .joined then s.onStrand st fun w => { w with phase := w.was, was := .idle }
  else if s.tooShort st 0 then s.retire st
  else
    let s := s.reload st moved
    ((s.bump K.replacements 1).peak K.replacementMaxUs us).raise 0x45
      (leBytes 1 st ++ leBytes 1 moved.length ++ leBytes 4 us)

/-- REPLACEMENT (R484 to R487). -/
def execReplacement (st : StrandId) (durationUs : Nat) (s : State) : Host.Outcome State Fault Refusal :=
  if (s.strand st.val).phase = .replacing then .next (s.replace st.val durationUs) else .next s

end Sys2Proof.Machine
end

