-- ==== Sys2Proof/Machine/MemoryEvents.lean ====
section
/-! DEFINITION. Module memory at work: line requests and their readers (R263 to R271), patrol scrub (R268), temperature and
refresh (R274, R275), retraining (R276). -/

namespace Sys2Proof.Machine

/-- What a line read with an uncorrectable error does to its reader (R267). -/
def State.readFailed (s : State) (r : Reader) : State :=
  match r with
  | .tileVld t =>
    match (s.tile t.val).units.vuq with
    | j :: rest =>
      match j.f, j.place with
      | .vld, .mem _ => s.vldFault t.val j rest
      | _, _ => s
    | [] => s
  | .spill t => s.resumeStrand (s.strandOf t.val)
  | .primer st k => if (s.strand st.val).streaming = some k.val then s.segmentBad st.val k.val else s
  | .checkpoint st => if (s.strand st.val).job.isSome then s.loseCheckpoint st.val else s
  | .service c i => s.endJob (c.toNat, i.toNat) (Answer.of St.memUncorrectable)
  | .abano => s.startThaw 12
  | .scrub | .plain => s

/-- A read of a line: its data go back, or its reader fails. Without a memory key the data are unreadable (R264). -/
def State.serveRead (s : State) (line errs : Nat) (r : Reader) : State :=
  if s.mem.keyPresent then
    let (d, s) := s.readLine line errs
    match d with
    | some bs => s.emit (.link 1 [line] bs)
    | none => s.readFailed r
  else
    let (bs, s) := s.freeBytes 64
    s.emit (.link 1 [line] bs)

/-- The memory nodes serve requests while the rails are up and no thaw holds them in reset. -/
def State.memUp (s : State) : Bool := s.power.phase = .up && s.boot ≠ .thawing

/-- MEM_REQUEST (R269 to R271): a write is held until it is acknowledged; a read is served. -/
def execMemRequest (q : MemReq) (s : State) : Host.Outcome State Fault Refusal :=
  if !s.memUp then .next s
  else if q.write then .next (s.holdWrites (q.line.toNat * 64) (padTo 64 q.data) none)
  else .next (s.serveRead q.line.toNat q.errs q.reader)

/-- The write at place `i` of those held is visible to every later read; its tile is told (R102, R269). -/
def State.ackWrite (s : State) (i : Nat) (w : MemWrite) : State :=
  let s := { s with mem := { s.mem with writes := s.mem.writes.eraseIdx i } }
  let s := (s.touchLine w.line).memWrite (w.line * 64) w.data
  match w.tile with
  | some t => s.onTile t fun x => { x with units := { x.units with memWrites := x.units.memWrites - 1 } }
  | none => s

/-- MEM_WRITE_ACK (R269, R270). -/
def execMemWriteAck (i : Nat) (s : State) : Host.Outcome State Fault Refusal :=
  match s.mem.writes[i]? with
  | some w => .next (s.ackWrite i w)
  | none => .next s

/-- PATROL_SCRUB (R266 to R268): the next line of both tiers in turn. -/
def execPatrolScrub (errs : Nat) (s : State) : Host.Outcome State Fault Refusal :=
  if !s.memUp || !s.mem.keyPresent then .next s
  else
    let line := s.mem.scrub
    let s := { s with mem := { s.mem with scrub := (line + 1) % 2 ^ 34 } }
    .next (s.readLine line errs).2

/-! ### Temperature, refresh and training (R274 to R276) -/

/-- DRAM_TEMP_READOUT (R274, R276): readings of the twelve packages in tenths of a degree; a sub-channel whose package has
moved 8 °C since its last training is to be retrained. -/
def execDramTempReadout (temps : List Int) (s : State) : Host.Outcome State Fault Refusal :=
  if s.power.phase = .up ∧ temps ≠ [] then .next ((s.readTemps temps).callRetrain 80)
  else .next s

/-- REFRESH (R275, R278): a bank of a sub-channel is refreshed, which closes its page and starts its count of activations
anew; what its lines hold and show does not change. Which bank is next is the controller's. Log 143 (DESIGN CHOICE). -/
def execRefresh (sub : SubCh) (s : State) : Host.Outcome State Fault Refusal :=
  if s.memUp then
    let (n, s) := s.draw
    let b := 16 * sub.val + Config.choice 27 n % 16
    .next { s with mem := { s.mem with banks := put (fun _ => Bank.fresh) s.mem.banks b ⟨none, 0, s.timeBase⟩ } }
  else .next s

/-- RETRAIN (R276): a failed retraining keeps the settings it had. -/
def execRetrain (sub : SubCh) (ok : Bool) (s : State) : Host.Outcome State Fault Refusal :=
  if s.memUp then
    let s := s.bump K.retrainCount 1
    if ok then .next ((s.trainSub sub.val).set (K.subchTrainState sub.val) 0)
    else .next ((s.set (K.subchTrainState sub.val) 2).raise 0x14 [])
  else .next s

end Sys2Proof.Machine
end

