-- ==== Sys2Proof/Machine/HostEvents.lean ====
section
/-! DEFINITION. The channel engine's events: doorbells (R330 to R336, R349, R351), descriptor fetch (R337 to R339),
commits and interrupts (R345 to R347), the registers of BAR0 (R326), D3hot (R321) and apertures (R354). -/

namespace Sys2Proof.Machine

/-! ### Channel entries -/

def State.onHost (s : State) (f : HostLink → HostLink) : State := { s with host := f s.host }

/-- Put a channel at the front of the entry cache, which holds 256 (R331). -/
def HostLink.touch (h : HostLink) (c : Nat) : HostLink := { h with lru := (c :: h.lru.filter (· ≠ c)).take 256 }

/-- Raw channels that may run: as many as are licensed and the owner has authorised (R11). -/
def State.rawAllowed (s : State) : Nat := min (s.get K.rawChannelsAuthorised) s.licRaw

/-- A raw channel is open: its slot is among those that may run (R11, R351). Log 70 (DEDUCED). -/
def State.rawOpen (s : State) (e : List Byte) : Bool := entryType e = 2 && decide (entRawSlot e < s.rawAllowed)

/-- Strands a valid entry claims: a raw channel that may not open claims none (R11, R351). -/
def State.entClaims (s : State) (e : List Byte) : List Nat := if s.rawOpen e then entRawStrands e else []

/-- Another channel holds the raw slot or one of the strands (R351). -/
def State.rawConflict (s : State) (c : Nat) (e : List Byte) : Bool :=
  entryType e = 2 && s.host.channels.any fun p =>
    p.1 ≠ c && entryType p.2.ent = 2 &&
      (entRawSlot p.2.ent = entRawSlot e || (entRawStrands p.2.ent).any fun st => (entRawStrands e).contains st)

/-- The strands that channel `c` claims become `l` (R351). -/
def State.setClaims (s : State) (c : Nat) (l : List Nat) : State :=
  (List.range 48).foldl (fun s st =>
    let v := s.strand st
    if l.contains st then s.setStrand st { v with claimed := some c }
    else if v.claimed = some c then s.setStrand st { v with claimed := none }
    else s) s

/-- A copy of an entry is rejected: the channel has no entry and is in ERROR (R330, R351). Log 70 (DEDUCED). -/
def State.rejectEntry (s : State) (c code : Nat) : State :=
  ((s.setClaims c []).onChan c fun ch => { ch with entry := none, error := code }).onHost fun h =>
    { h with lru := h.lru.filter (· ≠ c) }

/-- The engine reads an entry (R330, R331, R333, R351). A read that ends in error is no valid copy.
Log 70 (DEDUCED). -/
def State.readEntry (s : State) (c : Nat) (e : EntryRead) (inval : Bool) : State :=
  if e.error || !entryValid e.bytes then s.rejectEntry c 1
  else if s.rawConflict c e.bytes then s.rejectEntry c 5
  else
    let s := (s.setClaims c (s.entClaims e.bytes)).onChan c fun ch => { ch with
      entry := some e.bytes
      seen := true
      error := if inval then 0 else ch.error }
    s.onHost fun h => h.touch c

/-- A copy of the channel's entry is cached. -/
def State.entryCached (s : State) (c : Nat) : Bool := s.host.lru.contains c && (s.chan c).entry.isSome

/-! ### Doorbells -/

/-- BAR writes reach the engine: the rails are up and the function is not in D3hot. Log 69 (DEDUCED). -/
def State.barOpen (s : State) : Bool := s.power.phase = .up && !s.host.d3

/-- A doorbell other than INVALIDATE: dropped during a thaw or before READY, with a reserved bit set, beyond the table,
or to a channel of TYPE 0 or without a valid entry; else it acts under the entry, read on a miss. Log 69 (DEDUCED). -/
def State.doorbell (s : State) (c : Nat) (rsv : Nat) (e : EntryRead) (act : State → State) : State :=
  if !s.barOpen then s
  else if !s.ready || rsv ≠ 0 || s.host.count ≤ c then s.dropDoorbell
  else
    let s := if s.entryCached c then s.onHost fun h => h.touch c
      else (s.bump K.entryCacheMisses 1).readEntry c e false
    if s.entryCached c && entryType (s.chan c).ent ≠ 0 then act s else s.dropDoorbell

/-- Index of the oldest descriptor not yet answered (R336). -/
def Channel.oldest (c : Channel) : BitVec 16 := ((c.fly.head?).map fun d => BitVec.ofNat 16 d.idx).getD c.dhead

/-- SUBMIT (R336, R337). -/
def State.submitTail (s : State) (c : Nat) (tail : BitVec 16) : State :=
  let ch := s.chan c
  if ringD ch.ent < (tail - ch.oldest).toNat then s.channelError c 2
  else s.onChan c fun ch => { ch with tail := tail }

def execSubmit (c : Chan) (tail : BitVec 16) (rsv : BitVec 44) (e : EntryRead) (s : State) :
    Host.Outcome State Fault Refusal :=
  .next (s.doorbell c.val rsv.toNat e fun s => s.submitTail c.val tail)

/-- What the INVALIDATE doorbell does (R333), as a command of the table or as the low half of a 64-bit write. -/
def State.invalidate (s : State) (c rsv : Nat) (e : EntryRead) : State :=
  if !s.barOpen then s
  else if !s.ready || rsv ≠ 0 || s.host.count ≤ c then s.dropDoorbell
  else s.readEntry c e true

/-- INVALIDATE (R333). Log 70 (DEDUCED). -/
def execInvalidate (c : Chan) (rsv : BitVec 44) (e : EntryRead) (s : State) : Host.Outcome State Fault Refusal :=
  .next (s.invalidate c.val rsv.toNat e)

/-- CACK (R336, R345). -/
def State.ackTo (s : State) (c : Nat) (head : BitVec 16) : State :=
  let ch := s.chan c
  if (ch.ctail - ch.cack).toNat < (head - ch.cack).toNat then s.dropDoorbell
  else (s.onChan c fun ch => { ch with cack := head }).flushAborts c

def execCack (c : Chan) (head : BitVec 16) (rsv : BitVec 44) (e : EntryRead) (s : State) :
    Host.Outcome State Fault Refusal :=
  .next (s.doorbell c.val rsv.toNat e fun s => s.ackTo c.val head)

/-- DESC_ID as remembered of an index that was aborted in place of answered. Log 71 (DEDUCED). -/
def abortedId (id : Nat) : Nat := id + 1 + 65536

/-- A descriptor in flight is stopped and its answer suppressed (R349). -/
def State.abortFlying (s : State) (c i : Nat) (d : Desc) : State :=
  let s := (s.stopWork (c, i)).retireDesc (c, i) d
  let s := (s.onChan c fun ch => { ch with ids := put (fun _ => 0) ch.ids i (abortedId (descId d.bytes)) }).lostDone
  s.abortResult c (descId d.bytes) i St.abortOk

/-- ABORT as the commit arbiter takes it (R349, R350). The DESC_ID of a descriptor that the engine does not hold is
what the host's ring holds. An index aborted before is neither in flight nor answered. Log 71 (DEDUCED). -/
def State.takeAbort (s : State) (c i : Nat) : State :=
  let ch := s.chan c
  let ix := BitVec.ofNat 16 i
  let (n, s) := s.draw
  let unknown := Config.freeNat n % 65536
  let id := look (fun _ => 0) ch.ids i
  let back := (ch.tail - ix).toNat
  if (ix - ch.dhead).toNat < (ch.tail - ch.dhead).toNat then
    (s.onChan c fun ch => { ch with skip := i :: ch.skip.filter (· ≠ i) }).abortResult c unknown i St.abortOk
  else
    match ch.fly.find? fun d => d.idx = i with
    | some d => s.abortFlying c i d
    | none =>
      if id ≠ 0 ∧ 0 < back ∧ back ≤ 2 ^ entDShift ch.ent then
        if id ≤ 65536 then s.abortResult c (id - 1) i St.abortTooLate
        else s.abortResult c (id - 65537) i (if Config.freeBool n then St.abortTooLate else St.abortUnknown)
      else s.abortResult c unknown i St.abortUnknown

def execAbortD (c : Chan) (i : BitVec 16) (rsv : BitVec 44) (e : EntryRead) (s : State) :
    Host.Outcome State Fault Refusal :=
  .next (s.doorbell c.val rsv.toNat e fun s => s.takeAbort c.val i.toNat)

/-! ### Fetch -/

/-- A channel has a descriptor that the engine may fetch (R337, R355). Log 73 (DEDUCED). -/
def State.fetchable (s : State) (c : Nat) : Bool :=
  let ch := s.chan c
  s.entryCached c && ch.error = 0 && entryType ch.ent ≠ 0 && ch.dhead ≠ ch.tail
    && decide (ch.fly.length < entMaxFly ch.ent)

/-- It is the channel's turn: none of higher priority may be fetched, and among equals the next after the last (R337).
Log 73 (DEDUCED). -/
def State.itsTurn (s : State) (c : Nat) : Bool :=
  let rank := fun (x : Nat) => (3 - entPriority (s.chan x).ent, (x + 4096 - (s.host.turn + 1)) % 4096)
  s.host.channels.all fun p =>
    p.1 = c || !s.fetchable p.1 ||
      ((rank c).1 < (rank p.1).1 || ((rank c).1 = (rank p.1).1 && (rank c).2 < (rank p.1).2))

/-- The engine fetches: READY, no quiesce, the link awake. Log 73 (DEDUCED). -/
def State.fetching (s : State) : Bool := s.ready && !s.host.d3 && !s.quiesceReq

/-- The status of the first failing check of R339, if any. Log 74 (DEDUCED). -/
def State.descFails (s : State) (e d : List Byte) : Option Nat :=
  let ty := entryType e
  let op := descOp d
  if !descFormatOk ty d then some St.descFormat
  else if ty = 2 && decide (s.rawAllowed ≤ entRawSlot e) then some St.channelUnlicensed
  else if ty = 2 && !bit (entRawOps e) (op - 0x20) then some St.opNotPermitted
  else if (ty = 1 && entService e = 7 && !s.licTuning) || (ty = 2 && op = 0x26 && s.licPorts = 0) then
    some St.featureUnlicensed
  else if s.revoked then some St.identityRevoked
  else none

/-- A descriptor joins the flight and is checked. -/
def State.takeDesc (s : State) (c : Nat) (bytes : List Byte) : State :=
  let ch := s.chan c
  let i := ch.dhead.toNat
  let d : Desc := ⟨i, bytes, ch.ent, false, none, none, false, 0⟩
  let s := s.onChan c fun ch => { ch with
    dhead := ch.dhead + 1
    fly := ch.fly ++ [d]
    ids := put (fun _ => 0) ch.ids i 0 }
  match s.descFails ch.ent bytes with
  | some st => s.endWith (c, i) st
  | none => s

/-- An aborted index is skipped when fetched (R349). -/
def State.skipDesc (s : State) (c : Nat) (bytes : List Byte) : State :=
  s.onChan c fun ch =>
    let i := ch.dhead.toNat
    { ch with
      dhead := ch.dhead + 1
      skip := ch.skip.filter (· ≠ i)
      ids := put (fun _ => 0) ch.ids i (abortedId (descId bytes)) }

/-- DESC_FETCH (R337, R339). -/
def execDescFetch (c : Chan) (bytes : List Byte) (error : Bool) (s : State) : Host.Outcome State Fault Refusal :=
  if s.fetching && s.fetchable c.val && s.itsTurn c.val then
    if error then .next (s.channelError c.val 3)
    else
      let s := (s.onHost fun h => { h with turn := c.val }).onHost fun h => h.touch c.val
      if (s.chan c.val).skip.contains (s.chan c.val).dhead.toNat then .next (s.skipDesc c.val bytes)
      else .next (s.takeDesc c.val bytes)
  else .next s

/-! ### Commits and interrupts -/

/-- COMPLETION_COMMIT (R345 to R347). -/
def execCompletionCommit (c : Chan) (i : BitVec 16) (ringError : Bool) (s : State) : Host.Outcome State Fault Refusal :=
  .next (s.commit (c.val, i.toNat) ringError)

/-- COAL_TIMEOUT (R346). Log 13 (DESIGN CHOICE). -/
def execCoalTimeout (c : Chan) (elapsedUs : Nat) (s : State) : Host.Outcome State Fault Refusal :=
  let ch := s.chan c.val
  if ch.unsignalled ≠ 0 ∧ entCoalUs ch.ent ≠ 0 ∧ entCoalUs ch.ent ≤ elapsedUs ∧ s.barOpen ∧ s.boot ≠ .thawing then
    .next ((s.setChan c.val { ch with unsignalled := 0 }).signal (entVector ch.ent))
  else .next s

/-! ### BAR0 registers -/

/-- A write of BAR0: discarded and counted during a thaw or before READY (R323). -/
def State.barWrite (s : State) (act : State → State) : State :=
  if !s.barOpen then s else if !s.ready then s.dropDoorbell else act s

/-- Accepted unless descriptors are in flight; the entry cache is emptied (R326). -/
def State.tableWrite (s : State) (f : HostLink → HostLink) : State :=
  if s.anyJob then s else s.onHost fun h => { f h with lru := [] }

def execChtblBaseWrite (v : BitVec 64) (s : State) : Host.Outcome State Fault Refusal :=
  .next (s.barWrite fun s => s.tableWrite fun h => { h with base := v &&& 0xFFFFFFFFFFFFF000 })

def execChtblCountWrite (v : Word) (s : State) : Host.Outcome State Fault Refusal :=
  .next (s.barWrite fun s => s.tableWrite fun h => { h with count := min 4096 (wbits v 0 13) })

/-! ### D3hot (R321) -/

def execD3hotEnter (s : State) : Host.Outcome State Fault Refusal :=
  if s.power.phase = .up ∧ s.host.d3 = false then
    .next (s.onHost fun h => { h with d3 := true, d3Since := s.timeBase })
  else .next s

/-- Time in D3hot is not counted in a hold or in COAL_US. Log 71 (DEDUCED). -/
def Channel.skipTime (c : Channel) (ns : Nat) : Channel :=
  { c with firstAt := c.firstAt + ns, fly := c.fly.map fun (d : Desc) => { d with since := d.since + ns } }

def execD0Restore (s : State) : Host.Outcome State Fault Refusal :=
  if s.host.d3 then
    let ns := s.timeBase - s.host.d3Since
    let w := s.host.waiting
    let s := s.onHost fun h => { h with d3 := false, waiting := [] }
    let s := w.foldl State.emit s
    let cs := s.host.channels.map (·.1)
    .next (cs.foldl (fun s c => (s.onChan c fun ch => ch.skipTime ns).flushAborts c) s)
  else .next s

/-! ### Apertures -/

/-- A raw slot has an open raw channel (R11, R354). -/
def State.slotHasChannel (s : State) (a : Nat) : Bool :=
  s.host.channels.any fun p => s.rawOpen p.2.ent && decide (entRawSlot p.2.ent = a)

/-- APERTURE_WRITE (R322, R354). Log 75 (DEDUCED). -/
def execApertureWrite (a : Fin 8) (offset : Nat) (data : List Byte) (s : State) : Host.Outcome State Fault Refusal :=
  if 0x10000000 < offset + data.length then .next s
  else
    .next (s.barWrite fun s =>
      if s.slotHasChannel a.val then
        s.onHost fun h => { h with apertures := cellsWrite h.apertures (a.val * 0x10000000 + offset) data }
      else s.dropDoorbell)

end Sys2Proof.Machine
end

