-- ==== Sys2Proof/Machine/TextOps.lean ====
section
/-! DEFINITION. Tokens and passages of what extraction yields: text in NFC and lower case, split into words by Unicode
Standard Annex #29, with the value of each token (R368); chunks, passages and the sequences that run over them (R369). -/

namespace Sys2Proof.Machine

/-! ### UTF-8 -/

/-- A code point in UTF-8. -/
def utf8Point (c : Nat) : List Byte :=
  let tail := fun (i : Nat) => BitVec.ofNat 8 (0x80 + c / 64 ^ i % 64)
  if c < 0x80 then [BitVec.ofNat 8 c]
  else if c < 0x800 then [BitVec.ofNat 8 (0xC0 + c / 64), tail 0]
  else if c < 0x10000 then [BitVec.ofNat 8 (0xE0 + c / 4096), tail 1, tail 0]
  else [BitVec.ofNat 8 (0xF0 + c / 262144), tail 2, tail 1, tail 0]

def utf8 (l : List Nat) : List Byte := l.flatMap utf8Point

/-- Code points of UTF-8, `acc` and `left` being the value and the bytes missing of a code point begun, `least` the least
value its length may have; none where the bytes are malformed. -/
def readUtf8 : Nat → Nat → Nat → List Byte → Option (List Nat)
  | _, left, _, [] => if left = 0 then some [] else none
  | acc, left, least, b :: l =>
    let v := b.toNat
    if left = 0 then
      if v < 0x80 then (readUtf8 0 0 0 l).map (v :: ·)
      else if 0xC0 ≤ v ∧ v < 0xE0 then readUtf8 (v - 0xC0) 1 0x80 l
      else if 0xE0 ≤ v ∧ v < 0xF0 then readUtf8 (v - 0xE0) 2 0x800 l
      else if 0xF0 ≤ v ∧ v < 0xF8 then readUtf8 (v - 0xF0) 3 0x10000 l
      else none
    else if v < 0x80 ∨ 0xC0 ≤ v then none
    else
      let a := acc * 64 + (v - 0x80)
      if left = 1 then
        if a < least ∨ 0x110000 ≤ a ∨ (0xD800 ≤ a ∧ a < 0xE000) then none else (readUtf8 0 0 0 l).map (a :: ·)
      else readUtf8 a (left - 1) least l

/-! ### Words (R368) -/

/-- Text in NFC and lower case. -/
def foldText (l : List Nat) : List Nat :=
  if l.all (· < 128) then l.map fun c => if 0x41 ≤ c ∧ c ≤ 0x5A then c + 32 else c else Config.textFold l

/-- The word-break property of a code point. -/
inductive WordBreak where
  | other | cr | lf | newline | extend | zwj | format | regional | katakana | hebrew | letter | singleQuote | doubleQuote
  | midNumLet | midLetter | midNum | numeric | extendNumLet | space
  deriving DecidableEq, Repr

/-- Properties as `Config.wordBreak` numbers them. -/
def breakOfCode (n : Nat) : WordBreak :=
  ([.other, .cr, .lf, .newline, .extend, .zwj, .format, .regional, .katakana, .hebrew, .letter, .singleQuote, .doubleQuote,
    .midNumLet, .midLetter, .midNum, .numeric, .extendNumLet, .space] : List WordBreak).getD (n % 19) .other

/-- The property of a code point; that of the first 128 as the annex's data give it. Log 159 (PRESUMED). -/
def breakOf (c : Nat) : WordBreak :=
  if 128 ≤ c then breakOfCode (Config.wordBreak c)
  else if c = 0x0D then .cr
  else if c = 0x0A then .lf
  else if c = 0x0B ∨ c = 0x0C then .newline
  else if c = 0x20 then .space
  else if c = 0x22 then .doubleQuote
  else if c = 0x27 then .singleQuote
  else if c = 0x2E then .midNumLet
  else if c = 0x2C ∨ c = 0x3B then .midNum
  else if c = 0x3A then .midLetter
  else if c = 0x5F then .extendNumLet
  else if 0x30 ≤ c ∧ c ≤ 0x39 then .numeric
  else if (0x41 ≤ c ∧ c ≤ 0x5A) ∨ (0x61 ≤ c ∧ c ≤ 0x7A) then .letter
  else .other

def WordBreak.ahLetter (x : WordBreak) : Bool := x = .letter || x = .hebrew
def WordBreak.midQ (x : WordBreak) : Bool := x = .midNumLet || x = .singleQuote
def WordBreak.ends (x : WordBreak) : Bool := x = .cr || x = .lf || x = .newline
def WordBreak.joins (x : WordBreak) : Bool := x = .extend || x = .format || x = .zwj

/-- What the splitter knows to the left: the property just before, the last two that count under WB4, and whether an odd
number of regional indicators stands there. -/
structure Left where
  prev : WordBreak
  last : WordBreak
  before : WordBreak
  odd : Bool

/-- The next property that counts under WB4. -/
def nextBreak (l : List Nat) : WordBreak := (((l.map breakOf).find? fun x => !x.joins).getD .other)

/-- No word boundary lies between what stands to the left and a code point with what follows it (WB3 to WB16).
Log 159 (PRESUMED). -/
def unbroken (a : Left) (c : Nat) (l : List Nat) : Bool :=
  let x := breakOf c
  let b := a.last
  if a.prev = .cr ∧ x = .lf then true
  else if a.prev.ends || x.ends then false
  else if a.prev = .zwj ∧ Config.pictographic c = true then true
  else if a.prev = .space ∧ x = .space then true
  else if x.joins then true
  else
    (b.ahLetter && x.ahLetter)
      || (b.ahLetter && (x = .midLetter || x.midQ) && (nextBreak l).ahLetter)
      || (a.before.ahLetter && (b = .midLetter || b.midQ) && x.ahLetter)
      || (b = .hebrew && x = .singleQuote)
      || (b = .hebrew && x = .doubleQuote && nextBreak l = .hebrew)
      || (a.before = .hebrew && b = .doubleQuote && x = .hebrew)
      || (b = .numeric && (x = .numeric || x.ahLetter)) || (b.ahLetter && x = .numeric)
      || (a.before = .numeric && (b = .midNum || b.midQ) && x = .numeric)
      || (b = .numeric && (x = .midNum || x.midQ) && nextBreak l = .numeric)
      || (b = .katakana && x = .katakana)
      || ((b.ahLetter || b = .numeric || b = .katakana || b = .extendNumLet) && x = .extendNumLet)
      || (b = .extendNumLet && (x.ahLetter || x = .numeric || x = .katakana))
      || (b = .regional && x = .regional && a.odd)

/-- One code point further. -/
def Left.step (a : Left) (x : WordBreak) : Left :=
  if x.joins && !a.prev.ends then { a with prev := x }
  else ⟨x, x, a.last, x = .regional && !(a.last = .regional && a.odd)⟩

/-- The segments between word boundaries; `w` is the segment under way, last code point first. -/
def segmentsFrom (a : Left) (w : List Nat) : List Nat → List (List Nat)
  | [] => if w.isEmpty then [] else [w.reverse]
  | c :: l =>
    let b := a.step (breakOf c)
    if w.isEmpty || unbroken a c l then segmentsFrom b (c :: w) l else w.reverse :: segmentsFrom b [c] l

/-- White space of Unicode. Log 159 (PRESUMED). -/
def isSpace (c : Nat) : Bool :=
  (9 ≤ c && c ≤ 13) || c = 0x20 || c = 0x85 || c = 0xA0 || c = 0x1680 || (0x2000 ≤ c && c ≤ 0x200A) || c = 0x2028
    || c = 0x2029 || c = 0x202F || c = 0x205F || c = 0x3000

/-- Words and punctuation characters of a text; white space gives none. -/
def words (l : List Nat) : List (List Nat) :=
  (segmentsFrom ⟨.other, .other, .other, false⟩ [] (foldText l)).filter fun w => !w.all isSpace

/-- The value of a token: the first bytes of the SM3 digest of at most 64 bytes of its UTF-8 form. -/
def tokenValue (w : List Nat) : Word := BitVec.ofNat 32 (leAt (sm3Bytes ((utf8 w).take 64)) 0 4)

/-- The tokens of a text. -/
def tokensOf (l : List Nat) : List Word := (words l).map tokenValue

/-! ### Passages (R369) -/

/-- A passage: its part, its number, its modality (1 text, 2 image, 3 audio), its tokens or frames, and an image's size. -/
structure Piece where
  part : Nat
  passage : Nat
  modality : Nat
  units : Nat
  width : Nat
  height : Nat
  deriving DecidableEq, Repr

/-- A part of `n` tokens or frames in passages of `per`; the last passage holds the rest. -/
def cutUnits (part modality n per : Nat) : List Piece :=
  (List.range (ceilDiv n (max 1 per))).map fun i => ⟨part, i, modality, min (max 1 per) (n - i * max 1 per), 0, 0⟩

/-- The passages of a part; `text` and `audio` are the tokens and the frames of a whole passage. -/
def Part.pieces (part text audio : Nat) : Part → List Piece
  | .text l => cutUnits part 1 (words l).length text
  | .image w h => if w = 0 ∨ h = 0 then [] else [⟨part, 0, 2, 0, w, h⟩]
  | .audio n => cutUnits part 3 n audio

/-- The passages of every part. -/
def pieces (text audio : Nat) (l : List Part) : List Piece := l.zipIdx.flatMap fun p => p.1.pieces p.2 text audio

/-- An image scaled, keeping its aspect, so that no side exceeds its limit. Log 160 (DEDUCED). -/
def scaleImage (w h maxW maxH : Nat) : Nat × Nat :=
  if w ≤ maxW ∧ h ≤ maxH then (w, h)
  else if h * maxW ≤ w * maxH then (maxW, max 1 (h * maxW / w))
  else (max 1 (w * maxH / h), maxH)

/-- Shape values as a sequence has them. -/
def shape8 (l : List Nat) : List Nat := (List.range 8).map fun v => l.getD v 0

/-- The sequences over `n` units: chunks of SHAPE_MAX[1] units, at most SHAPE_MAX[0] chunks in each. -/
def unitShapes (f : List Byte) (n : Nat) : List (List Nat) :=
  let per := max 1 (planShapeMax f 1)
  let most := max 1 (planShapeMax f 0)
  let chunks := ceilDiv n per
  (List.range (ceilDiv chunks most)).map fun k =>
    let c := min most (chunks - k * most)
    shape8 [c, min per (n - (k * most + c - 1) * per)]

/-- The sequences over a passage under a plan: an image is one, in chunks of SHAPE_MAX[3] rows. -/
def Piece.shapes (x : Piece) (f : List Byte) : List (List Nat) :=
  if x.modality = 2 then
    let (w, h) := scaleImage x.width x.height (planShapeMax f 1) (planShapeMax f 2)
    let rows := max 1 (planShapeMax f 3)
    [shape8 [ceilDiv h rows, w, h, h - (ceilDiv h rows - 1) * rows]]
  else unitShapes f x.units

/-! ### Postings' tokens (R371 step 6, R376) -/

/-- A token of a text part with the passage it stands in. -/
structure Token where
  term : Word
  passage : Nat
  deriving DecidableEq, Repr

/-- Every token of every text part with its passage. -/
def allTokens (text : Nat) (l : List Part) : List Token :=
  l.flatMap fun p =>
    match p with
    | .text t => (tokensOf t).zipIdx.map fun x => ⟨x.1, x.2 / max 1 text⟩
    | _ => []

end Sys2Proof.Machine
end

