-- ==== Sys2Proof/Machine/JobAdmit.lean ====
section
/-! DEFINITION. Admission of service jobs (R358 to R365, R377, R381, R388, R433), the keys they pin (R297 to R299), the
input header (R302, R341), the shape guard (R194), the strand a sequence takes (R40, R42, R187, R200, R527), check groups
(R460) and sequences admitted again (R487). -/

namespace Sys2Proof.Machine

/-! ### Status codes of the services (R391) -/

namespace St
def argsFormat : Nat := 0x40
def planRole : Nat := 0x41
def chainUnbound : Nat := 0x42
def objectTooLarge : Nat := 0x43
def mediaUnsupported : Nat := 0x44
def extractFault : Nat := 0x45
def recordFormat : Nat := 0x46
def recordAuth : Nat := 0x47
def queryFormat : Nat := 0x48
def dimMismatch : Nat := 0x49
def shardUnknown : Nat := 0x4A
def shardFull : Nat := 0x4B
def shardBusy : Nat := 0x4C
end St

/-! ### ARGS (R360, R370, R377, R381, R388, R433) -/

/-- Bytes `o` to `o + n - 1` of ARGS are zero. -/
def argsZero (d : List Byte) (o n : Nat) : Bool := arg d o n = 0

def argsIngest (d : List Byte) (plan : Nat) : Bool :=
  let sec := arg d 6 1
  let cls := arg d 7 1
  plan = 0 && arg d 2 2 ≤ 4096 && sec < 32 && argsZero d 8 8
    && (bit sec 3 = (cls ≠ 0 : Bool)) && !(bit sec 4 && arg d 4 2 = 0) && !(bit sec 1 && !bit sec 0)

/-- Log 77 (DEDUCED). -/
def argsEmbed (d : List Byte) : Bool :=
  arg d 2 2 ≤ 4096 && 1 ≤ arg d 4 1 && arg d 4 1 ≤ 3 && arg d 5 1 ≤ 1 && argsZero d 6 10

/-- With PLAN 0 a mask must select a classifier. Log 77 (DEDUCED). -/
def argsClassify (d : List Byte) (plan : Nat) : Bool :=
  argsZero d 2 2 && (if plan = 0 then arg d 4 1 ≠ 0 else arg d 4 1 = 0) && argsZero d 5 11

def argsNearDup (d : List Byte) : Bool :=
  arg d 0 2 ≤ 255 && arg d 2 2 ≤ 4096 && argsZero d 4 2 && arg d 6 2 ≤ 511 && argsZero d 8 8

def argsQuery (d : List Byte) : Bool :=
  arg d 0 1 ≤ 2 && (if arg d 0 1 = 0 then arg d 1 1 = 0 else arg d 1 1 ≠ 0) && argsZero d 2 14

def argsTune (d : List Byte) (plan : Nat) : Bool :=
  plan ≠ 0 && arg d 0 1 ≤ 3 && arg d 1 1 ≤ 3 && argsZero d 2 2 && (arg d 0 1 = 1 || argsZero d 4 4) && argsZero d 8 8

/-- Step 1 of R362. Log 77 (DEDUCED). -/
def argsOk (svc : Nat) (d : List Byte) (plan : Nat) : Bool :=
  match svc with
  | 1 => argsIngest d plan
  | 2 => argsEmbed d
  | 3 => argsClassify d plan
  | 4 => argsNearDup d
  | 5 => argsQuery d
  | 6 => plan = 0 && argsZero d 8 8
  | 7 => argsTune d plan
  | _ => false

/-! ### Roles (R363, R364) -/

/-- Shape variables of a role. -/
def roleVars (r : Nat) : Nat := if r = 4 then 4 else 2

/-- A plan meets a role. Log 77 (DEDUCED). -/
def meetsRole (f : List Byte) (r : Nat) : Bool :=
  planShapeVars f = roleVars r && (allStages f).all fun x => decide (1 ≤ qAt f x 15)

/-- NEEDS_TUNING of a plan. -/
def planTuning (f : List Byte) : Bool := bit (planFlags f) 2

/-- A plan suits a service whose entry names it (R360, R364, R390). -/
def suitsService (svc : Nat) (d f : List Byte) : Bool :=
  match svc with
  | 2 => meetsRole f (2 + arg d 4 1)
  | 3 => meetsRole f 0x10
  | 4 => meetsRole f 6
  | 5 => meetsRole f 7
  | 7 => planTuning f && (allStages f).all fun x => decide (1 ≤ qAt f x 15)
  | _ => true

/-- Classifiers a mask selects. -/
def classRoles (mask : Nat) : List Nat := (List.range 8).filterMap fun i => if bit mask i then some (0x10 + i) else none

/-- Roles that a job needs. -/
def neededRoles (svc : Nat) (d : List Byte) : List Nat :=
  match svc with
  | 1 =>
    let sec := arg d 6 1
    [1] ++ (if bit sec 0 then [3] else []) ++ (if bit sec 2 then [6] else []) ++ classRoles (arg d 7 1)
  | 2 => [2 + arg d 4 1]
  | 3 => classRoles (arg d 4 1)
  | 4 => [6]
  | _ => []

/-- Roles that a job uses where they are bound. -/
def otherRoles (svc : Nat) (d : List Byte) : List Nat :=
  match svc with
  | 1 => [2, 4, 5] ++ (if bit (arg d 6 1) 0 then [] else [3])
  | 3 => [3]
  | 5 => if arg d 0 1 = 0 then [7, 3] else []
  | _ => []

/-- The plan bound to a role, if it is loaded. -/
def State.bound (s : State) (r : Nat) : Option Nat :=
  let n := s.get (K.rolePlan r)
  if n = 0 then none else (s.plan n).map fun _ => n

/-- Step 2 of R362: the plans a job keeps, or its status. -/
def State.jobPlans (s : State) (svc plan : Nat) (d : List Byte) : Nat ⊕ List (Nat × Nat) :=
  if plan ≠ 0 then
    match s.plan plan with
    | none => .inl St.planUnknown
    | some p => if suitsService svc d p.file then .inr [(0, plan)] else .inl St.planRole
  else if (neededRoles svc d).any fun r => (s.bound r).isNone then .inl St.chainUnbound
  else
    let l := (neededRoles svc d ++ otherRoles svc d).filterMap fun r => (s.bound r).map fun n => (r, n)
    if l.all fun p => meetsRole (s.planFile p.2) p.1 then .inr l else .inl St.planRole

/-- A plan gives some stage no queue 13 while checking is on (R465). -/
def State.noCheckQueue (s : State) (n : Nat) : Bool :=
  s.get K.checkFraction ≠ 0 && (allStages (s.planFile n)).any fun x => qAt (s.planFile n) x 13 = 0

/-! ### Keys (R292, R297, R299) -/

/-- The installed key of an identifier. -/
def State.key (s : State) (id : Nat) : Option VKey := s.vault.keys.find? fun k => k.id = id && !k.removed

/-- Why a key may not be used for a class. -/
def State.keyFails (s : State) (id cls : Nat) : Option Nat :=
  match s.key id with
  | none => some St.keyUnknown
  | some k => if k.cls = cls then none else some St.keyClass

/-- Unwrapped keys in the cache. -/
def State.cachedKeys (s : State) : Nat := (s.vault.keys.filter (·.cached)).length

/-- The last unpinned cached key of a list most recently used first loses its place. -/
def evictKey : List VKey → List VKey
  | [] => []
  | k :: l =>
    if l.any fun x => x.cached && x.pins = 0 then k :: evictKey l
    else if k.cached && k.pins = 0 then { k with cached := false } :: l
    else k :: l

/-- The lowest entry of the cache that holds no key. Log 146 (DEDUCED). -/
def freeEntry (ks : List VKey) : Nat :=
  let used := (ks.filter (·.cached)).map (·.slot)
  ((List.range (used.length + 1)).find? fun i => !used.contains i).getD 0

/-- A key comes into a cache entry. -/
def Vault.fill (v : Vault) (slot : Nat) : Vault := { v with fills := put (fun _ => 0) v.fills slot (look (fun _ => 0) v.fills slot + 1) }

/-- Pin a key, unwrapping it into the cache on a miss; none while every entry is pinned (R297). Its handle (R298). -/
def State.pinKey (s : State) (id : Nat) : Option (State × Nat) :=
  match s.key id with
  | none => none
  | some k =>
    let others := s.vault.keys.filter fun x => x ≠ k
    if k.cached then
      some (s.setKeys ({ k with pins := k.pins + 1 } :: others), s.vault.handle k)
    else if 4096 ≤ s.cachedKeys && !(others.any fun x => x.cached && x.pins = 0) then none
    else
      let others := if 4096 ≤ s.cachedKeys then evictKey others else others
      let k' := { k with cached := true, pins := k.pins + 1, slot := freeEntry others }
      let s := { s with vault := s.vault.fill k'.slot }
      some (s.setKeys (k' :: others), s.vault.handle k')

/-- Pin several keys. -/
def State.pinKeys (s : State) : List Nat → Option (State × List Nat)
  | [] => some (s, [])
  | id :: l =>
    match s.pinKey id with
    | none => none
    | some (s, t) => (State.pinKeys s l).map fun r => (r.1, t :: r.2)

/-! ### The sealed input (R300 to R302, R341) -/

/-- Why an input object is refused before any data is decrypted: the read, the key allowed, the header, the key, its
cipher, and data beyond its length. Log 76 (DEDUCED). -/
def State.headerFails (s : State) (d : Desc) (inp : Sealed) : Option Nat :=
  let h := inp.hdr
  if inp.dmaError then some St.hostDmaError
  else if descInLen d.bytes < 64 then some St.ingestTruncated
  else if entVolumeKey d.entry ≠ 0 ∧ objKey h ≠ entVolumeKey d.entry then some St.keyNotPermitted
  else if !objHeaderOk h then some St.ingestFormat
  else
    match s.keyFails (objKey h) 1 with
    | some st => some st
    | none =>
      if ((s.key (objKey h)).map (·.alg)) ≠ some (objAlg h) ∨ wireLen h < descInLen d.bytes then some St.ingestFormat
      else none

/-- The segments of an object from number `i` on as an ingest engine decrypts them, or the status of the first that is
not there whole or whose tag fails (R301, R302). -/
def readSegments (key h body : List Byte) (len i : Nat) : Nat → Nat ⊕ List Byte
  | 0 => .inr []
  | n + 1 =>
    if len < segEnd h i then .inl St.ingestTruncated
    else
      match openSegment key h i (slice body (segEnd h i - 80 - segBytes h i) (segBytes h i + 16)) with
      | none => .inl St.ingestAuth
      | some p =>
        match readSegments key h body len (i + 1) n with
        | .inl st => .inl st
        | .inr q => .inr (p ++ q)

/-- A whole input object as an operation reads it: its plaintext, or its status (R302, R341). -/
def State.readInput (s : State) (d : Desc) (inp : Sealed) : Nat ⊕ List Byte :=
  match s.headerFails d inp with
  | some st => .inl st
  | none =>
    readSegments (((s.key (objKey inp.hdr)).map fun k => keyBytes k.blob).getD []) inp.hdr inp.body (descInLen d.bytes) 0
      (objSegs inp.hdr)

/-- An INGEST_AUTH outcome is counted (R302). -/
def State.countAuth (s : State) (st : Nat) : State := if st = St.ingestAuth then s.bump K.ingestAuthFailures 1 else s

/-! ### What admission asks (R362) -/

/-- A service job takes one sealed object. -/
def takesObject (svc : Nat) (d : List Byte) : Bool :=
  match svc with
  | 1 | 2 | 3 | 4 => true
  | 5 => arg d 0 1 = 0
  | 7 => arg d 0 1 ≤ 1
  | _ => false

/-- A service job takes envelopes. -/
def takesEnvelopes (svc : Nat) (d : List Byte) : Bool := svc = 6 || (svc = 5 && arg d 0 1 = 1)

/-- The shard that ARGS name for NEAR_DUP and for an append (R377, R381). -/
def argShard (svc : Nat) (d : List Byte) : Nat := if svc = 4 then arg d 0 2 else arg d 1 1

/-- A job may not use the shard it names: NEAR_DUP an absent one, an append one that was dropped and lives on (R378,
R383). Log 85 (DEDUCED). -/
def State.shardFails (s : State) (svc : Nat) (d : List Byte) : Option Nat :=
  let n := argShard svc d
  let here := fun (dropped : Bool) => s.shards.any fun x => x.num = n && x.made && x.dropped = dropped
  if svc = 4 && n ≠ 0 && !here false then some St.shardUnknown
  else if svc = 5 && arg d 0 1 = 1 && here true && !here false then some St.shardUnknown
  else none

/-- Steps 4 to 6 of R362 after the plans: the status of the first failing check. Log 86 (DEDUCED). -/
def State.inputFails (s : State) (d : Desc) (inp : Sealed) : Option Nat :=
  let svc := entService d.entry
  let old := if svc = 6 then s.keyFails (arg d.bytes 0 8) 2 else none
  match s.keyFails (entIndexKey d.entry) 2 <|> old with
  | some st => some st
  | none =>
    if takesObject svc d.bytes then
      match s.headerFails d inp with
      | some st => some st
      | none =>
        if 0x400000000 < objLen inp.hdr then some St.objectTooLarge
        else if objLen inp.hdr = 0 then some St.okEmpty
        else none
    else if takesEnvelopes svc d.bytes then
      if descInLen d.bytes = 0 then some St.okEmpty else if inp.dmaError then some St.hostDmaError else none
    else none

/-- Keys a job pins. -/
def jobKeys (d : Desc) (inp : Sealed) : List Nat :=
  let svc := entService d.entry
  [entIndexKey d.entry] ++ (if takesObject svc d.bytes then [objKey inp.hdr] else [])
    ++ (if svc = 6 then [arg d.bytes 0 8] else [])

/-- One MiB. -/
def mib : Nat := 0x100000

/-- Object-buffer bytes a job reserves. -/
def jobReserve (d : Desc) (inp : Sealed) : Nat :=
  let svc := entService d.entry
  let n := if takesObject svc d.bytes then objLen inp.hdr else if takesEnvelopes svc d.bytes then descInLen d.bytes else 0
  roundUp n mib + 64 * mib

/-- Object-buffer bytes reserved by every job that holds some. -/
def State.reserved (s : State) : Nat :=
  total (s.host.channels.map fun p => total (p.2.fly.map fun d => (d.hold.map (·.reserve)).getD 0))

/-- The object buffers outside the eight apertures (R257, R354). -/
def bufferBytes : Nat := 0x1800000000 - 8 * 0x10000000

/-- Where the object buffer of a job of `n` bytes lies is Abano's choice, apart from the buffers of other jobs (R257, R261):
the place drawn, or the first that is free. Log 75 (DEDUCED). -/
def State.bufferFor (s : State) (n : Nat) : Nat × State :=
  let (k, s) := s.draw
  let (lo, len) := objectBuffers
  let held := s.host.channels.flatMap fun p => p.2.fly.filterMap fun d => d.hold.map fun (h : JobHold) => (h.buf, h.reserve)
  let free := fun (a : Nat) => decide (lo ≤ a) && decide (a + n ≤ lo + len) &&
    held.all fun r => r.2 = 0 || decide (a + n ≤ r.1) || decide (r.1 + r.2 ≤ a)
  let drawn := lo + Config.choice 24 k % ((len - n) / mib + 1) * mib
  (((drawn :: lo :: held.map fun r => r.1 + r.2).find? free).getD drawn, s)

/-- ORDERED (R338): every earlier descriptor of the channel has been answered. -/
def State.inOrder (s : State) (j : JobId) (d : Desc) : Bool :=
  !descOrdered d.bytes || ((s.chan j.1).fly.head?.map (·.idx)) = some j.2

/-- A search may read any shard until its query is known; NEAR_DUP reads the shard it names (R378, R384). -/
def searchShards (d : Desc) : Nat → Bool :=
  match entService d.entry with
  | 4 => fun n => n = arg d.bytes 0 2
  | 5 => fun _ => arg d.bytes 0 1 = 0
  | _ => fun _ => false

/-- An admitted search sees what its shards hold now (R382, R383). Log 85 (DEDUCED). -/
def State.joinShards (s : State) (j : JobId) (names : Nat → Bool) : State :=
  { s with shards := s.shards.map fun x =>
      if x.made && !x.dropped && names x.num then
        { x with searches := x.searches ++ [(j, x.entries.length, x.dups.length)] } else x }

/-- A job that passed its checks is admitted, or waits for buffers or a key (R297, R362). -/
def State.admitJob (s : State) (j : JobId) (d : Desc) (inp : Sealed) (plans : List (Nat × Nat)) : State :=
  let svc := entService d.entry
  let n := jobReserve d inp
  if bufferBytes < s.reserved + n then s
  else
    match s.pinKeys (jobKeys d inp) with
    | none =>
      if d.keyWait then s
      else (s.bump K.keyCacheWaits 1).onDesc j fun e => { e with keyWait := true }
    | some (s, tags) =>
      let (buf, s) := s.bufferFor n
      let h : JobHold :=
        { service := svc
          plans := plans
          keys := tags
          number := s.host.jobs + 1
          buf := buf
          reserve := n
          strands := []
          ran := []
          seqs := []
          hdr := inp.hdr
          segs := 0
          nsegs := if takesObject svc d.bytes then objSegs inp.hdr else 0
          plain := []
          toSeal := []
          envelopes := []
          result := none
          mstat := 0
          query := none }
      (((s.onHost fun x => { x with jobs := x.jobs + 1 }).onDesc j fun e => { e with hold := some h }).joinShards j
        (searchShards d))

/-- A job that is not admitted yet meets the checks of R362. Log 74 (DEDUCED), 76 (DEDUCED). -/
def State.checkJob (s : State) (j : JobId) (d : Desc) (inp : Sealed) : State :=
  let svc := entService d.entry
  if s.revoked then s.endWith j St.identityRevoked
  else if !argsOk svc d.bytes (entPlan d.entry) then s.endWith j St.argsFormat
  else
    match s.jobPlans svc (entPlan d.entry) d.bytes with
    | .inl st => s.endWith j st
    | .inr plans =>
      if plans.any fun p => s.noCheckQueue p.2 then s.answer j { Answer.of St.planRole with detail := 13 }
      else
        match s.inputFails d inp <|> s.shardFails svc d.bytes with
        | some st => s.endWith j st
        | none => s.admitJob j d inp plans

/-! ### The strand of a sequence -/

/-- New sequences may be admitted (R42, R44, R527). -/
def State.admits (s : State) : Bool := s.ready && !s.dipping && !s.power.paused

/-- A plan is for a fused strand (R179). -/
def planFused (f : List Byte) : Bool := planStages f = 24

/-- The sections of a plan fit the slots of a strand, and each footprint lies in the scratchpad of its tile (R187). -/
def State.strandFits (s : State) (st n : Nat) : Bool :=
  let f := s.planFile n
  let slots := s.stageSlots st
  planFused f = (s.strand st).fused.isSome && (allStages f).all fun r =>
    match slots[r.stage]? with
    | some t => rangeMapped (s.tile t).pad.bankOk r.footLow (r.footHigh - r.footLow)
    | none => false

/-- Target `k` of the tile in slot `t` is tested in service (R490). -/
def State.skimTarget (s : State) (t k : Nat) : Bool :=
  s.slotEnabled t && !s.slotFrost t && (decide (24 ≤ k) || bit (s.repairWord t).toNat k)

/-- When a target passed last. -/
def State.lastPass (s : State) (t k : Nat) : Nat := look (fun _ => 0) s.selftest.lastPass (26 * t + k)

/-- An instruction store has gone untested for three rotation periods: its strand takes no sequence (R499). -/
def State.storeOverdue (s : State) (t : Nat) : Bool :=
  let p := s.get K.skimRotationS
  p ≠ 0 && s.skimTarget t 25 && decide (s.lastPass t 25 + 3 * p * 1000000000 ≤ s.timeBase)

/-- No stage of a strand waits for the test of its instruction store. -/
def State.storesTested (s : State) (st : Nat) : Bool := !((s.stageSlots st).any fun t => s.storeOverdue t)

/-- A strand is free to take a sequence: idle, licensed, not claimed, with no raw program. -/
def Strand.free (v : Strand) : Bool := v.phase = .idle && v.claimed.isNone && v.rawLoads.isEmpty && v.role = 0

/-- Strands that a sequence of a plan keeps busy. -/
def planWeight (f : List Byte) : Nat := if planFused f then 2 else 1

/-- The busy count has room for `n` more (R40). -/
def State.roomFor (s : State) (n : Nat) : Bool := s.busyCount + n ≤ s.busyCap

/-- A strand among the highest-numbered busy ones beyond the cap takes no further sequence (R41). -/
def State.aboveCap (s : State) (st : Nat) : Bool :=
  total (((List.range 48).filter fun x => decide (st < x)).map s.busyWeight) + s.busyCap < s.busyCount

/-- k of check_fraction 1/k; 0 while checking is off. -/
def State.checkK (s : State) : Nat := [0, 64, 16, 4, 2].getD (s.get K.checkFraction) 0

/-- Sequences of a plan are shadowed (R460, R471). -/
def State.shadows (s : State) (n : Nat) : Bool := s.checkK ≠ 0 && !(((s.plan n).map (·.unchecked)).getD false)

/-- Working strands of a check group. -/
def State.members (s : State) (g : Nat) : Nat :=
  ((List.range 48).filter fun w => (s.strand w).role = 1 && (s.strand w).group = some g).length

/-- A strand becomes the shadow strand of a new check group (R460). -/
def State.beginShadow (s : State) (g n : Nat) : State :=
  s.onStrand g fun v => { v with
    phase := .priming
    plan := n
    sec := 0
    job := none
    role := 2
    group := some g
    chunks := 0
    epoch := 0
    reports := []
    halted := []
    primed := 0
    again := none
    streaming := none
    resumes := 0
    resume := false
    fresh := false
    ring := s.get (K.spillRingSize g)
    interval := s.intervalFor n }

/-- The check group that a new working strand of a plan joins: one with room, or a new one whose shadow strand is a free
strand of Abano's choice; none where no strand can be the shadow. -/
def State.groupFor (s : State) (st n : Nat) : Option (State × Nat) :=
  let f := s.planFile n
  let old := (List.range 48).find? fun g =>
    (s.strand g).role = 2 && (s.strand g).plan = n && decide (s.members g + 1 < s.checkK)
      && (s.strand g).fused.isSome = planFused f
  match old with
  | some g => some (s, g)
  | none =>
    let l := (List.range 48).filter fun g =>
      g ≠ st && (s.strand st).fused ≠ some g && (s.strand g).free && s.strandFits g n
        && s.storesTested g
    if !s.roomFor (2 * planWeight f) then none
    else (s.pick 14 l).map fun p => (p.2.beginShadow p.1 n, p.1)

/-- The waiting place behind a running strand's sequence may be taken (R41, R200): the strand's check role suits the plan
and the present check fraction. -/
def State.mayQueue (s : State) (st n : Nat) : Bool :=
  let v := s.strand st
  v.phase = .running && v.next.isNone && v.claimed.isNone && s.strandFits st n && s.storesTested st && !s.aboveCap st
    && (if s.shadows n then
        v.role = 1 && v.plan = n && ((v.group.map fun g => decide (s.members g < s.checkK)).getD false)
      else v.role = 0)

/-- An idle fused pair is split for a plan of one strand (R145, R149). -/
def State.splitFor (s : State) (st n : Nat) : State :=
  let e := st / 2 * 2
  if planFused (s.planFile n) = false && (s.strand e).fused.isSome && (s.strand e).free then s.unfuse e else s

/-- A sequence takes a strand, or the place behind a running sequence; none where it may not. -/
def State.placeSeq (s : State) (st : Nat) (j : JobId) (n : Nat) (shape : List Nat) (sec : Nat) (place : Nat × Nat) :
    Option State :=
  if !s.admits then none
  else if s.mayQueue st n && sec = 0 then some (s.queueNext st j n shape place)
  else
    let s := s.splitFor st n
    if !((s.strand st).free && s.strandFits st n && s.storesTested st && s.roomFor (planWeight (s.planFile n))) then none
    else if s.shadows n then
      (s.groupFor st n).map fun p =>
        (p.1.beginSeq st j n shape sec place).onStrand st fun v => { v with role := 1, group := some p.2 }
    else some (s.beginSeq st j n shape sec place)

/-! ### The shape guard (R194, R195) -/

/-- A shape value lies over the plan. -/
def shapeOver (f : List Byte) (shape : List Nat) : Bool :=
  (List.range 8).any fun v =>
    if v < planShapeVars f then decide (planShapeMax f v < shape.getD v 0) else shape.getD v 0 ≠ 0

/-- A declared variable is 0. Log 78 (DEDUCED). -/
def shapeZero (f : List Byte) (shape : List Nat) : Bool := (List.range (planShapeVars f)).any fun v => shape.getD v 0 = 0

/-- A zero shape of a sequence: a step contributes zeros (R448); any other job ends with OK_EMPTY unless a sequence of it
has run (R194, R362 step 6). Log 78 (DEDUCED). -/
def State.emptySeq (s : State) (j : JobId) (h : JobHold) : State :=
  match s.tuneOf j with
  | some p => s.zeroStep p.1
  | none => if h.strands.isEmpty then s.endJob j (Answer.of St.okEmpty) else s

/-- A further sequence of an admitted job begins; `role` names its plan among those the job keeps (R359, R363).
Log 78 (DEDUCED). -/
def State.startSeq (s : State) (j : JobId) (h : JobHold) (st role : Nat) (shape : List Nat) (place : Nat × Nat) : State :=
  match h.plans.find? fun p => p.1 = 0 || p.1 = role with
  | none => s
  | some p =>
    let f := s.planFile p.2
    if h.result.isSome || (h.service = 7 && (!h.strands.isEmpty || (s.tuneOf j).isNone)) then s
    else if shapeOver f shape then
      (s.bump K.shapeOverPlanCount 1).endJob j (Answer.of St.shapeOverPlan)
    else if shapeZero f shape then s.emptySeq j h
    else
      match s.placeSeq st j p.2 shape 0 place with
      | none => s
      | some s => s.onHold j fun x => { x with
          strands := x.strands.filter (· ≠ st) ++ [st]
          ran := x.ran.filter (· ≠ p.1) ++ [p.1]
          seqs := x.seqs ++ [(p.1, place.1, place.2, shape8 shape)] }

/-- A sequence that a retired strand gave up begins again on another (R487). -/
def State.startAgain (s : State) (r : Readmit) (st : Nat) : State :=
  match s.placeSeq st r.job r.plan r.shape r.sec r.place with
  | none => s
  | some s =>
    let s := { s with check := { s.check with readmits := s.check.readmits.erase r } }
    s.onHold r.job fun x => { x with strands := x.strands.filter (· ≠ st) ++ [st] }

/-- JOB_ADMIT (R194, R359 to R362, R487): a service job that is not admitted yet meets its checks; one that is begins a
sequence on a strand. -/
def execJobAdmit (c : Chan) (i : BitVec 16) (inp : Sealed) (st : StrandId) (role : Byte) (shape : List Nat)
    (part passage : BitVec 16) (s : State) : Host.Outcome State Fault Refusal :=
  let j : JobId := (c.val, i.toNat)
  match s.openDesc j with
  | none => .next s
  | some d =>
    if !d.service || !s.ready then .next s
    else
      match d.hold with
      | none => if s.host.d3 || !s.inOrder j d then .next s else .next (s.checkJob j d inp)
      | some h =>
        match s.check.readmits.find? fun r => r.job = j with
        | some r => .next (s.startAgain r st.val)
        | none => .next (s.startSeq j h st.val role.toNat shape (part.toNat, passage.toNat))

end Sys2Proof.Machine
end

