-- ==== Sys2Proof/Machine/AdminOps.lean ====
section
/-! DEFINITION. Admin operations (R342): loading and unloading plans (R185, R191, R192), key installs (R295), quotes
(R308 to R310) and the plan list. -/

namespace Sys2Proof.Machine

/-! ### Running an operation -/

/-- A descriptor of a channel TYPE and OP that may run now: fetched, its checks passed, its turn come, the link awake. -/
def State.opDesc (s : State) (j : JobId) (ty op : Nat) : Option Desc :=
  match s.openDesc j with
  | none => none
  | some d =>
    if entryType d.entry = ty && descOp d.bytes = op && d.hold.isNone && s.ready && !s.host.d3 && s.inOrder j d then some d
    else none

/-- What an operation holds while it runs. -/
def opHold (op : Nat) (tags : List Nat) : JobHold :=
  { service := op
    plans := []
    keys := tags
    number := 0
    buf := 0
    reserve := 0
    strands := []
    ran := []
    seqs := []
    hdr := []
    segs := 0
    nsegs := 0
    plain := []
    toSeal := []
    envelopes := []
    result := none
    mstat := 0
    query := none }

/-- Pin the keys of an operation and go on, or wait for a place in the key cache (R297). -/
def State.withKeys (s : State) (j : JobId) (d : Desc) (ids : List Nat) (act : State → State) : State :=
  match s.pinKeys ids with
  | none => if d.keyWait then s else (s.bump K.keyCacheWaits 1).onDesc j fun e => { e with keyWait := true }
  | some (s, tags) => act (s.onDesc j fun e => { e with hold := some (opHold (descOp d.bytes) tags) })

/-- The sealed input of a descriptor: with APERTURE 1 the bytes of the channel's aperture from IN_ADDR on, else the object
as the engine read it from the host (R338, R354). -/
def State.inputOf (s : State) (d : Desc) (inp : Sealed) : Sealed :=
  if descAperture d.bytes then
    let b := (List.range (descInLen d.bytes)).map fun i =>
      look memDflt s.host.apertures (entRawSlot d.entry * 0x10000000 + descIn d.bytes + i)
    ⟨b.take 64, b.drop 64, false⟩
  else inp

/-- An operation over an object: its plaintext, or the status it ends with. -/
def State.withObject (s : State) (j : JobId) (d : Desc) (inp : Sealed) (act : List Byte → State → State) : State :=
  match s.headerFails d inp with
  | some st => s.endWith j st
  | none => s.withKeys j d [objKey inp.hdr] fun s =>
      match s.readInput d inp with
      | .inl st => (s.countAuth st).endWith j st
      | .inr p => act p s

/-- An operation over the sealed input of its descriptor. -/
def State.withInput (s : State) (j : JobId) (d : Desc) (inp : Sealed) (act : List Byte → State → State) : State :=
  s.withObject j d (s.inputOf d inp) act

/-! ### Plans -/

/-- The spill ring size in force for the slack rule: the smallest set for any strand (R189). -/
def State.smallestRing (s : State) : Nat :=
  ((List.range 48).map fun st => s.get (K.spillRingSize st)).foldl min (s.get (K.spillRingSize 0))

/-- A file with its DIGEST field zero (R179). -/
def digestBody (f : List Byte) : List Byte := slice f 0 16 ++ zeros 32 ++ f.drop 48

/-- Library bytes of each tier (R257). -/
def nearLibrary : Nat := 0x2E40000000
def farLibrary : Nat := 0x1000000000

/-- Segment bytes stored in a tier. -/
def State.libraryUsed (s : State) (far : Bool) : Nat :=
  total ((s.plans.filter fun p => p.far = far).map fun p => planBytes p.file)

/-- Plan numbers that no plan has. -/
def State.freePlans (s : State) : List Nat :=
  ((List.range 1024).map (· + 1)).filter fun n => (s.plan n).isNone

/-- A plan passed every check and is stored (R177, R191, R219), or the library is full. -/
def State.storePlan (s : State) (f : List Byte) : State × (Nat ⊕ Nat × Word) :=
  let n := planBytes f
  let near := decide (s.libraryUsed false + n ≤ nearLibrary)
  let far := decide (s.libraryUsed true + n ≤ farLibrary)
  match s.pick 13 s.freePlans, near || far with
  | some (k, s), true =>
    let gifts := match slackGifts f s.smallestRing with
      | .inl g => g
      | .inr _ => []
    (({ s with plans := s.plans ++ [⟨k, f, !near, gifts, false⟩] } : State).closeP, .inl k)
  | _, _ => (s, .inr (0x13, 0))

/-- The loader (R185, R187): a plan number, or a code and its detail. Log 76 (DEDUCED). -/
def State.loadPlan (s : State) (f : List Byte) : State × (Nat ⊕ Nat × Word) :=
  match checkFormat f with
  | some e => (s, .inr e)
  | none =>
    if Config.sm3 (digestBody f) ≠ planDigest f then (s, .inr (0x02, 0))
    else
      match s.plans.find? fun p => planDigest p.file = planDigest f with
      | some p => (s, .inl p.num)
      | none =>
        match checkPlan f s.licTuning s.smallestRing with
        | some e => (s, .inr e)
        | none => s.storePlan f

/-- The answer of a load, with what the dictionary shows of it (R193). -/
def State.loadAnswer (s : State) (j : JobId) (f : List Byte) : State :=
  match s.loadPlan f with
  | (s, .inl n) =>
    ((s.set K.lastLoadStatus 0).set K.lastLoadDetail 0).answer j { Answer.of St.ok with count0 := n }
  | (s, .inr e) =>
    (((s.bump K.loadRejectCount 1).set K.lastLoadStatus e.1).set K.lastLoadDetail e.2.toNat).answer j
      { Answer.of St.loadRejected with count0 := e.1, detail := e.2.toNat }

/-- PLAN_LOAD (R185, R342). -/
def execPlanLoad (c : Chan) (i : BitVec 16) (inp : Sealed) (s : State) : Host.Outcome State Fault Refusal :=
  let j : JobId := (c.val, i.toNat)
  match s.opDesc j 3 0x10 with
  | none => .next s
  | some d => .next (s.withInput j d inp fun f s => s.loadAnswer j f)

/-- A running or admitted job uses a plan (R192). -/
def State.planInUse (s : State) (n : Nat) : Bool :=
  (s.host.channels.any fun p => p.2.fly.any fun d =>
    d.answer.isNone && ((d.hold.map fun h => h.plans.any fun q => q.2 = n).getD false)) ||
  (List.range 48).any fun st =>
    ((s.strand st).job.isSome && (s.strand st).plan = n) || ((s.strand st).next.isSome && (s.strand st).nextPlan = n)

/-- Roles of R363. -/
def allRoles : List Nat := [1, 2, 3, 4, 5, 6, 7, 0x10, 0x11, 0x12, 0x13, 0x14, 0x15, 0x16, 0x17]

/-- A plan leaves every resident set. -/
def State.dropResident (s : State) (n : Nat) : State :=
  (List.range 48).foldl (fun s st => s.onStrand st fun v => { v with
    resA := if v.resA = n then 0 else v.resA
    resB := if v.resB = n then 0 else v.resB }) s

/-- A plan leaves the library: resident sets, role bindings and the plan itself (R192, R219, R364).
Log 81 (DEDUCED). -/
def State.unloadPlan (s : State) (n : Nat) : State :=
  let s := allRoles.foldl (fun s r => if s.get (K.rolePlan r) = n then s.set (K.rolePlan r) 0 else s) (s.dropResident n)
  ({ s with
    plans := s.plans.filter fun p => p.num ≠ n
    check := { s.check with planLosses := s.check.planLosses.filter fun p => p.plan ≠ n } } : State).closeP

/-- PLAN_UNLOAD (R192, R342). -/
def execPlanUnload (c : Chan) (i : BitVec 16) (s : State) : Host.Outcome State Fault Refusal :=
  let j : JobId := (c.val, i.toNat)
  match s.opDesc j 3 0x11 with
  | none => .next s
  | some d =>
    let n := arg d.bytes 0 2
    if (s.plan n).isNone then .next (s.endWith j St.planUnknown)
    else if s.planInUse n then .next (s.endWith j St.planBusy)
    else .next ((s.unloadPlan n).endWith j St.ok)

/-- Loaded plans in plan-number order. -/
def State.plansInOrder (s : State) : List Plan := ((List.range 1025).filterMap s.plan)

/-- The DIGEST field of a plan file. -/
def digestBytes (f : List Byte) : List Byte := slice f 16 32

/-- LOADED_PLANS (R342). -/
def execLoadedPlans (c : Chan) (i : BitVec 16) (s : State) : Host.Outcome State Fault Refusal :=
  let j : JobId := (c.val, i.toNat)
  match s.opDesc j 3 0x14 with
  | none => .next s
  | some _ =>
    .next (s.answerOut j (Answer.of St.ok) (s.plansInOrder.flatMap fun p => leBytes 2 p.num ++ digestBytes p.file))

/-! ### Keys -/

/-- The format of a wrapped key (R292, R293). -/
def blobOk (b : List Byte) : Bool :=
  let cls := leAt b 5 1
  let alg := leAt b 6 1
  let wrap := leAt b 7 1
  b.length = 208 && slice b 0 4 = [0x53, 0x4B, 0x57, 0x4B] && leAt b 4 1 = 1 && leAt b 92 4 = 0
    && 1 ≤ cls && cls ≤ 3 && (alg = 1 || alg = 2) && (wrap = 1 || wrap = 2) && leAt b 8 8 ≠ 0 && (cls ≠ 3 || alg = 1)

/-- The blob unwraps, an SM4 key with zeros after it (R294, R295). -/
def unwraps (b : List Byte) : Bool :=
  match unwrapKey b with
  | none => false
  | some k => leAt b 6 1 ≠ 2 || slice k 16 16 = zeros 16

/-- What an install ends with, by the checks of R295 in order; 0 is KEY_OK. -/
def State.keyCode (s : State) (b : List Byte) (k : KeyCheck) : Nat :=
  if s.revoked then 0x07
  else if s.get K.ownerState = 0 then 0x06
  else if !blobOk b then 0x01
  else if !k.ownerSigOk then 0x02
  else if !k.pointOk || !unwraps b then 0x03
  else
    match s.key (leAt b 8 8) with
    | some x => if x.blob = b then 0 else 0x04
    | none => if 65536 ≤ (s.vault.keys.filter fun x => !x.removed).length then 0x05 else 0

/-- An install (R295, R307): a new key joins the table; a FABRIC key becomes the pending fabric key. -/
def State.installKey (s : State) (b : List Byte) (k : KeyCheck) : State × Nat :=
  let code := s.keyCode b k
  let s' := s.set K.lastKeyStatus code
  if code = 0 && (s.key (leAt b 8 8)).isNone then
    let x : VKey := ⟨leAt b 8 8, leAt b 5 1, leAt b 6 1, b, false, 0, 0, false⟩
    let s' := s'.setKeys (s'.vault.keys ++ [x])
    (if x.cls = 3 then
      ({ s' with vault := { s'.vault with fabricPending := keyBytes b } } : State).set K.fabricKeyPending x.id
    else s', 0)
  else (s', code)

/-- An install by descriptor (R295, R342). -/
def State.keyByDesc (s : State) (j : JobId) (blob : List Byte) (chk : KeyCheck) : State :=
  match s.opDesc j 3 0x12 with
  | none => s
  | some _ =>
    let r := s.installKey blob chk
    r.1.answer j (if r.2 = 0 then Answer.of St.ok else { Answer.of St.keyRejected with count0 := r.2 })

/-! ### Attestation (R308 to R310) -/

/-- The owner key as 64 bytes. -/
def State.ownerKeyBytes (s : State) : List Byte := padTo 64 (s.octet K.ownerKey)

/-- Measurement register `n`: M0 to M3 as extended, M4 to M6 from their inputs, M7 zero (R308). -/
def State.measurement (s : State) (n : Nat) : List Byte :=
  match n with
  | 4 => sm3Bytes (s.plansInOrder.flatMap fun p => digestBytes p.file)
  | 5 => sm3Bytes (s.ownerKeyBytes ++ leBytes 4 (s.get K.ownerEpoch) ++ leBytes 1 (s.get K.rawChannelsAuthorised)
      ++ leBytes 2 (s.get K.minSvn))
  | 6 => sm3Bytes (leBytes 8 (s.get K.fabricKeyActive) ++ leBytes 8 (s.get K.fabricKeyPending))
  | _ => leBytes 32 (s.vault.meas.getD n 0).toNat

/-- The signed part of a quote (R309). -/
def State.quoteBody (s : State) (challenge : List Byte) : List Byte :=
  [0x53, 0x4B, 0x41, 0x51] ++ leBytes 2 1 ++ zeros 2 ++ leBytes 8 Config.serial.toNat ++ leBytes 8 s.timeBase
    ++ leBytes 8 s.calendar ++ padTo 32 challenge ++ (List.range 8).flatMap s.measurement
    ++ leBytes 4 (s.get K.coldStartCount) ++ leBytes 4 s.host.thaws ++ leBytes 4 (s.get K.licenceFeatures)
    ++ leBytes 4 (s.get K.ownerEpoch) ++ (if s.get K.ownerState = 0 then zeros 32 else sm3Bytes s.ownerKeyBytes) ++ zeros 16

/-- A quote (R309). -/
def State.quoteOf (s : State) (challenge : List Byte) : List Byte :=
  let b := s.quoteBody challenge
  b ++ signIds b

/-- A request joins the vault's queue of 16, or is refused (R310). Log 121 (DEDUCED). -/
def State.askQuote (s : State) (host : Bool) (who : Nat) (challenge : List Byte) : Option State :=
  if 16 ≤ s.vault.quotes.length then none
  else some { s with vault := { s.vault with quotes := s.vault.quotes ++ [(host, who, challenge)] } }

/-- The vault signs the oldest request (R310). A request whose descriptor is gone is dropped; while REVOKED nothing is
signed (R288). Log 5 (DESIGN CHOICE). -/
def State.signQuote (s : State) : State :=
  match s.vault.quotes with
  | [] => s
  | (host, who, ch) :: l =>
    let s := { s with vault := { s.vault with quotes := l } }
    if s.revoked then s
    else if host then s.answerOut (who / 65536, who % 65536) (Answer.of St.ok) (s.quoteOf ch)
    else { s with vault := { s.vault with quote := s.quoteOf ch } }

/-- QUOTE (R310, R342): the request of a descriptor joins the vault's queue, and is signed in its turn.
Log 121 (DEDUCED). -/
def execQuote (c : Chan) (i : BitVec 16) (challenge : List Byte) (s : State) : Host.Outcome State Fault Refusal :=
  let j : JobId := (c.val, i.toNat)
  match s.opDesc j 3 0x13 with
  | none => .next s
  | some d =>
    match s.askQuote true (c.val * 65536 + i.toNat) challenge with
    | none => .next (s.endWith j St.quoteBusy)
    | some s => .next (s.onDesc j fun e => { e with hold := some (opHold (descOp d.bytes) []) })

end Sys2Proof.Machine
end

