-- ==== Sys2Proof/Machine/RawOps.lean ====
section
/-! DEFINITION. Raw operations (R352, R353, R426, R600). -/

namespace Sys2Proof.Machine

/-! ### Status codes of R426 -/

namespace St
def windowNoSlot : Nat := 0x30
def windowRegion : Nat := 0x31
def windowLimit : Nat := 0x32
def windowUnknown : Nat := 0x33
def windowArgs : Nat := 0x34
def windowRange : Nat := 0x35
end St

/-! ### TILE_LOAD (R600) -/

/-- A check that names the first record that fails it. -/
def segFirst (code : Nat) (rs : List PrimerRec) (bad : PrimerRec → Bool) : LoadFail :=
  (rs.zipIdx.find? fun x => bad x.1).map fun x => (code, detail 0 0 x.2)

/-- A check of handles, by HANDLE record. -/
def segBadHandle (code : Nat) (rs : List PrimerRec) (bad : Nat × Handle → Bool) : LoadFail :=
  segFirst code rs fun r => r.typ = 3 && (recHandles r).any bad

/-- QSIZE in force after a segment: of its last QCFG record, else as the tile has it. -/
def Tile.qsizesAfter (t : Tile) (rs : List PrimerRec) : List Nat :=
  match (rs.filter fun r => r.typ = 5).getLast? with
  | some r => qsizeInForce ((List.range 16).map fun q => leAt r.payload q 1)
  | none => (List.range 16).map fun q => (t.queue q).qsize

/-- The faults of a STEER record against R185, order 13. -/
def steerBad (rs : List PrimerRec) (stages : Nat) (s : PrimerRec) : Bool :=
  let inputs := (List.range 4).filterMap fun u => if bit (steerCfg s u) 0 then some (bits (steerCfg s u) 2 4) else none
  let land := (List.range 4).any fun u => (List.range 4).any fun o =>
    let p := steerOut s u o
    outKind p = 3 && (match ((segHandles rs).filter fun x => x.1 = (outHandle p).toNat).getLast? with
      | some (_, h) => h.kind ≠ 1 || !h.canWrite
      | none => true)
  let out := (steerStages [s]).any fun p => wbits p.1 16 5 ≠ 31 || stages ≤ p.2.1
  (inputs.zipIdx.any fun x => (inputs.drop (x.2 + 1)).contains x.1) || land || out

/-- The checks of TILE_LOAD in order, with the ranges granted to the claimed strand. -/
def Tile.checkSegment (t : Tile) (st stages : Nat) (seg : List Byte) : LoadFail :=
  let rs := recsOf seg
  let ok := t.pad.bankOk
  let q := t.qsizesAfter rs
  let last := (rs.zipIdx.filter fun x => x.1.typ = 4).getLast?
  let atSteer := fun (code : Nat) (bad : Bool) => if bad then last.map fun x => (code, detail 0 0 x.2) else none
  let grants := [(nearGrant st, 0x40000000), (farGrant st, 0x200000000)]
  firstFail [
    failIf (!segParses seg) 0x0D (detail 0 0 rs.length),
    segFirst 0x05 rs fun r => (r.typ = 1 && 4096 < r.target + istoreWords r) || (r.typ = 15 && 4096 ≤ r.target),
    segBadHandle 0x07 rs fun h => 62 ≤ h.1,
    segFirst 0x08 rs fun r =>
      ((r.typ = 2 || r.typ = 6) && r.target % 64 ≠ 0) ||
        (r.typ = 3 && (recHandles r).any fun h => h.2.kind = 1 && h.2.base % 64 ≠ 0),
    segFirst 0x09 rs fun r =>
      (match recRange r with
        | some (a, n) => !rangeMapped ok a n
        | none => false) ||
        (r.typ = 3 && (recHandles r).any fun h => h.2.kind = 1 && !rangeMapped ok h.2.base h.2.size),
    segBadHandle 0x0A rs fun h => h.2.kind = 2 &&
      (if (grantPlace h.2).1 then 0x400000 else 0x2000000) < (grantPlace h.2).2.1 + h.2.size,
    segFirst 0x0B rs fun r => r.typ = 5 && 192 < total q,
    atSteer 0x0B ((steerQueues rs).any fun k => q.getD k 0 = 0),
    atSteer 0x0C ((last.map fun x => steerBad rs stages x.1).getD false),
    segBadHandle 0x0D rs fun h => h.2.kind ≠ 0 && (hsetCheck ok grants (relocate st h.2)).isSome]

/-- Why an operand tile may not be loaded: it must carry a stage of a strand that the channel claims and that no job
runs on (R351, R352). Log 79 (DEDUCED). -/
def State.loadable (s : State) (c t : Nat) : Bool :=
  let v := s.strand (s.strandOf t)
  v.claimed = some c && v.phase = .idle && (s.stageAt t).isSome && (s.tile t).enabled

/-- A segment that passed is applied: the tile restarts, takes it and runs (R199, R600). A descriptor whose program it
replaces is over, as at HALT. Log 79 (DEDUCED). -/
def State.rawLoad (s : State) (j : JobId) (t : Nat) (seg : List Byte) : State :=
  let st := s.strandOf t
  let rs := recsOf seg
  let m := (s.tile t).core.mstat
  let s := match s.rawOwner t with
    | some o => (s.answer o { Answer.of St.ok with mstat := m.toNat }).dropRaw t
    | none => s
  let entry := ((rs.filter fun r => r.typ = 15).getLast?.map (·.target)).getD 0
  let slots := s.stageSlots st
  let s := (s.yieldSlice t).onTile t fun x => ((x.restartStage []).applySegment st slots rs).startAt entry
  s.onStrand st fun v => { v with rawLoads := v.rawLoads ++ [(t, j)] }

/-- TILE_LOAD on the tile it names. -/
def State.tileLoad (s : State) (j : JobId) (t : Nat) (seg : List Byte) : State :=
  let st := s.strandOf t
  match (s.tile t).checkSegment st (s.stageSlots st).length seg with
  | some e => s.answer j { Answer.of St.loadRejected with count0 := e.1, detail := e.2.toNat }
  | none => s.rawLoad j t seg

/-- TILE_LOAD (R352, R600). -/
def execTileLoad (c : Chan) (i : BitVec 16) (inp : Sealed) (s : State) : Host.Outcome State Fault Refusal :=
  let j : JobId := (c.val, i.toNat)
  match s.opDesc j 2 0x20 with
  | none => .next s
  | some d =>
    match slotOfCode (arg d.bytes 0 2) with
    | none => .next (s.endWith j St.opNotPermitted)
    | some t =>
      if s.loadable c.val t then .next (s.withInput j d inp fun p s => s.tileLoad j t p)
      else .next (s.endWith j St.opNotPermitted)

/-! ### INJECT (R352) -/

/-- The header of an injected request: destination registers of R96, from the host node at row 12, position 0. -/
def injectHeader (d : List Byte) (len : Nat) : Header :=
  let d0 := arg d 0 4
  let d1 := arg d 4 4
  { Header.zero with
    dstEp := BitVec.ofNat 16 d0
    dstRow := BitVec.ofNat 5 (bits d0 16 5)
    dstPos := BitVec.ofNat 5 (bits d0 21 5)
    dstQ := BitVec.ofNat 4 (bits d0 26 4)
    tag := BitVec.ofNat 16 d1
    gen := BitVec.ofNat 4 (bits d1 16 4)
    replyQ := BitVec.ofNat 4 (bits d1 20 4)
    cnet := bit (arg d 8 1) 0
    priReq := bit (arg d 8 1) 1
    srcRow := 12
    srcPos := 0
    length := len }

/-- The request leaves; a payload over the limit of R97 is no message. Log 80 (DEDUCED). -/
def State.injectNow (s : State) (j : JobId) (d p : List Byte) : State :=
  let h := injectHeader d p.length
  if (if h.cnet then 256 else 4096) < p.length then s.endWith j St.descFormat
  else s.nodeSend ⟨h, p, false⟩ (some j) none

/-- INJECT (R352, R353). -/
def execInject (c : Chan) (i : BitVec 16) (inp : Sealed) (s : State) : Host.Outcome State Fault Refusal :=
  let j : JobId := (c.val, i.toNat)
  match s.opDesc j 2 0x21 with
  | none => .next s
  | some d => .next (s.withInput j d inp fun p s => s.injectNow j d.bytes p)

/-! ### Windows (R425 to R428) -/

/-- The fields of WINDOW_OPEN lie in range (R426). Log 80 (DEDUCED). -/
def openArgsOk (d : List Byte) : Bool :=
  let kind := arg d 0 1
  let scope := arg d 1 1
  let peer := arg d 2 2
  let tile := arg d 4 2
  let base := arg d 8 4
  let size := arg d 12 4
  (kind = 1 || kind = 2) && scope ≤ 3 && size ≠ 0
    && (if scope = 1 then 1 ≤ peer && peer ≤ 4096 else peer = 0)
    && (if kind = 1 then tile < 1024 && (slotOfCode tile).isSome && base % 64 = 0 && size % 64 = 0 else tile = 0)

/-- A window meets another on its tile (R134). -/
def Tile.windowMeets (t : Tile) (base size : Nat) : Bool :=
  (List.range 4).any fun i =>
    let w := look (fun _ => WinSlot.free) t.pad.winslots i
    w.isOpen && w.first ≤ lineOf (base + size - 1) && lineOf base ≤ w.last

/-- The window that an open asks for, without its number. -/
def openWindow (d : List Byte) (slot winslot : Nat) : Window :=
  { Window.closed with
    kind := arg d 0 1
    scope := arg d 1 1
    peer := arg d 2 2
    slot := slot
    winslot := winslot
    base := arg d 8 4
    size := arg d 12 4
    state := 1 }

/-- The window opens under a free number, or WINDOW_LIMIT. -/
def State.openNumber (s : State) (j : JobId) (v : Window) : State :=
  match s.freeWindow with
  | none => s.endWith j St.windowLimit
  | some (n, s) =>
    let s := s.setWindow n v
    let s := if v.kind = 1 then s.onTile v.slot fun t =>
        t.setWinSlot v.winslot ⟨lineOf v.base, lineOf (v.base + v.size - 1), true, false, n⟩ else s
    s.answer j { Answer.of St.ok with count0 := n }

/-- WINDOW_OPEN by its fields. Log 80 (DEDUCED). -/
def State.openRaw (s : State) (j : JobId) (d : List Byte) : State :=
  let base := arg d 8 4
  let size := arg d 12 4
  if !openArgsOk d then s.endWith j St.windowArgs
  else if arg d 0 1 = 1 then
    let t := (slotOfCode (arg d 4 2)).getD 0
    let x := s.tile t
    match x.freeWinSlot with
    | some w =>
      if x.windowMeets base size || !rangeMapped x.pad.bankOk base size then s.endWith j St.windowNoSlot
      else s.openNumber j (openWindow d t w)
    | none => s.endWith j St.windowNoSlot
  else if windowRegionOk (base * 256) (size * 256) then s.openNumber j (openWindow d 0 0)
  else s.endWith j St.windowRegion

/-- WINDOW_OPEN (R426). -/
def execWindowOpen (c : Chan) (i : BitVec 16) (s : State) : Host.Outcome State Fault Refusal :=
  let j : JobId := (c.val, i.toNat)
  match s.opDesc j 2 0x22 with
  | none => .next s
  | some d => .next (s.openRaw j d.bytes)

/-- WINDOW_CLOSE (R353, R428): answered at close-complete. -/
def execWindowClose (c : Chan) (i : BitVec 16) (s : State) : Host.Outcome State Fault Refusal :=
  let j : JobId := (c.val, i.toNat)
  match s.opDesc j 2 0x23 with
  | none => .next s
  | some d =>
    let w := arg d.bytes 0 2
    if 256 ≤ w then .next (s.endWith j St.windowArgs)
    else if (s.window w).state ≠ 1 then .next (s.endWith j St.windowUnknown)
    else
      let s := s.onDesc j fun e => { e with hold := some (opHold 0x23 []) }
      .next ((s.setWindow w { s.window w with owner := some j }).beginClose w)

/-- Bytes of a window from an offset. -/
def State.windowBytes (s : State) (v : Window) (off len : Nat) : List Byte :=
  if v.kind = 1 then (s.tile v.slot).read (v.base + off) len else s.memRead (v.base * 256 + off) len

/-- The first poisoned line of the range read (R267). -/
def State.windowPoisoned (s : State) (v : Window) (off len : Nat) : Option Nat :=
  if v.kind = 2 then
    (s.mem.poison.find? fun p =>
      p.2 && decide (lineOf (v.base * 256 + off) ≤ p.1) && decide (p.1 ≤ lineOf (v.base * 256 + off + len - 1))).map (·.1)
  else none

/-- WINDOW_READ (R352, R353): the bytes wait to be sealed under the channel's INDEX key. -/
def State.readRaw (s : State) (j : JobId) (d : Desc) : State :=
  let w := arg d.bytes 0 2
  let off := arg d.bytes 4 4 * 64
  let len := arg d.bytes 8 4
  let v := s.window w
  if 256 ≤ w ∨ len % 64 ≠ 0 ∨ len < 64 ∨ 268435456 < len then s.endWith j St.windowArgs
  else if v.state ≠ 1 then s.endWith j St.windowUnknown
  else if v.bytes < off + len then s.endWith j St.windowRange
  else
    match s.keyFails (entIndexKey d.entry) 2 with
    | some st => s.endWith j st
    | none =>
      match s.windowPoisoned v off len with
      | some line => (s.uncorrectable line).endWith j St.memUncorrectable
      | none =>
        s.withKeys j d [entIndexKey d.entry] fun s => s.onHold j fun h =>
          { h with
            toSeal := [⟨0x80, descRef d.bytes, s.windowBytes v off len⟩]
            result := some (Answer.of St.ok) }

def execWindowRead (c : Chan) (i : BitVec 16) (s : State) : Host.Outcome State Fault Refusal :=
  let j : JobId := (c.val, i.toNat)
  match s.opDesc j 2 0x24 with
  | none => .next s
  | some d => .next (s.readRaw j d)

/-- WINDOW_WRITE (R352, R353). Log 80 (DEDUCED). -/
def State.writeRaw (s : State) (j : JobId) (d p : List Byte) : State :=
  let v := s.window (arg d 0 2)
  let off := arg d 4 4 * 64
  if p.length % 64 ≠ 0 then s.endWith j St.windowArgs
  else if v.state = 0 then s.endWith j St.windowClosed
  else if v.bytes < off + p.length then s.endWith j St.windowRange
  else (s.landWindow v off p).endWith j St.ok

def execWindowWrite (c : Chan) (i : BitVec 16) (inp : Sealed) (s : State) : Host.Outcome State Fault Refusal :=
  let j : JobId := (c.val, i.toNat)
  match s.opDesc j 2 0x25 with
  | none => .next s
  | some d =>
    if 256 ≤ arg d.bytes 0 2 then .next (s.endWith j St.windowArgs)
    else .next (s.withInput j d inp fun p s => s.writeRaw j d.bytes p)

/-! ### FABRIC_PACKET (R352, R353, R413) -/

/-- The packet is handed to its home node, or waits while the retransmit store is full (R414). -/
def State.sendRaw (s : State) (j : JobId) (d p : List Byte) : State :=
  let cls := arg d 4 1
  let flow := arg d 2 2 + fld cls 10 2 + fld 2 13 3
  s.takeTransfer (arg d 0 2) flow { Packet.blank .raw with rsp := 2 ≤ cls, inner := zeros 16 } [p] (.raw j) 0 none none

def execFabricPacket (c : Chan) (i : BitVec 16) (inp : Sealed) (s : State) : Host.Outcome State Fault Refusal :=
  let j : JobId := (c.val, i.toNat)
  match s.opDesc j 2 0x26 with
  | none => .next s
  | some d =>
    let dst := arg d.bytes 0 2
    let flow := arg d.bytes 2 2 + fld (arg d.bytes 4 1) 10 2 + fld 2 13 3
    if dst = 0 ∨ 4096 < dst then .next (s.endWith j St.descFormat)
    else if !s.storeRoom dst flow 1024 then .next s
    else
      .next (s.withInput j d inp fun p s =>
        if 1024 < p.length then s.endWith j St.descFormat else s.sendRaw j d.bytes p)

end Sys2Proof.Machine
end

