-- ==== Sys2Proof/Machine/SealedPath.lean ====
section
/-! DEFINITION. The sealed path while a job runs: segments of its input (R300 to R303, R341) and envelopes of its output
(R304, R305). -/

namespace Sys2Proof.Machine

/-! ### Which key a job holds -/

/-- The key that a handle stands for; none where the handle is stale (R298). -/
def State.keyByHandle (s : State) (h : Nat) : Option VKey := s.vault.keys.find? (s.vault.handles h)

/-! ### Ingest -/

/-- A segment as the engine takes it: its plaintext, or the status the object ends with (R302, R341).
Log 76 (DEDUCED). -/
def State.readSegment (s : State) (d : Desc) (h : JobHold) (wire : List Byte) (error : Bool) : Nat ⊕ List Byte :=
  if error then .inl St.hostDmaError
  else
    match (h.keys[1]?).bind s.keyByHandle with
    | none => .inl St.keyHandleStale
    | some k =>
      if descInLen d.bytes < segEnd h.hdr h.segs then .inl St.ingestTruncated
      else
        match openSegment (keyBytes k.blob) h.hdr h.segs wire with
        | none => .inl St.ingestAuth
        | some p => .inr p

/-- The next segment of a job's input (R303): its plaintext goes into the job's far-tier buffer, by whole lines, and counts
as verified. -/
def State.takeSegment (s : State) (j : JobId) (d : Desc) (h : JobHold) (wire : List Byte) (error : Bool) : State :=
  match s.readSegment d h wire error with
  | .inl st => (s.countAuth st).endJob j (Answer.of st)
  | .inr p =>
    (s.writeLines (h.buf + h.segs * 2 ^ objShift h.hdr) p).onHold j fun x => { x with segs := x.segs + 1, plain := x.plain ++ p }

/-- INGEST_SEGMENT (R300 to R303): the ciphertext of a segment and its tag, as read from host memory. -/
def execIngestSegment (c : Chan) (i : BitVec 16) (seg : Nat) (body : List Byte) (tag : BitVec 128) (error : Bool)
    (s : State) : Host.Outcome State Fault Refusal :=
  let j : JobId := (c.val, i.toNat)
  match s.openDesc j with
  | none => .next s
  | some d =>
    match d.hold with
    | none => .next s
    | some h =>
      if d.service && s.ready && !s.host.d3 && seg = h.segs && decide (h.segs < h.nsegs) then
        .next (s.takeSegment j d h (body ++ leBytes 16 tag.toNat) error)
      else .next s

/-! ### Sealing -/

/-- An envelope under a key: its header, which is its associated data, the ciphertext and the tag (R304). -/
def envelope (k : VKey) (ctr : Nat) (x : SealItem) : List Byte :=
  sealEnvelope (keyBytes k.blob) (envHeader k.alg x.kind k.id x.plain.length ctr x.ref) x.plain

/-- The counter may be used: its block is recorded as reserved, and it has not run through its 48 bits (R305). -/
def Vault.maySeal (v : Vault) : Bool := v.sealCtr / 2 ^ 32 ≤ v.sealBlock && v.sealCtr < 2 ^ 48

/-- The seal counter advances; past the middle of a block the next one is to be recorded (R305). -/
def State.advanceSeal (s : State) : State :=
  let s := { s with vault := { s.vault with sealCtr := s.vault.sealCtr + 1 } }
  if s.vault.sealBlock < s.vault.reserved then s.dirty Blk.security else s

/-- One item is sealed; with the last the job has its output. -/
def State.sealItem (s : State) (j : JobId) (h : JobHold) (k : VKey) (x : SealItem) (l : List SealItem) : State :=
  let out := h.envelopes ++ envelope k s.vault.sealCtr x
  let s := (s.advanceSeal).onHold j fun y => { y with toSeal := l, envelopes := out }
  match l, h.result with
  | [], some a => s.answerOut j a out
  | _, _ => s

/-- SEAL_ENVELOPE (R304, R305). -/
def execSealEnvelope (c : Chan) (i : BitVec 16) (s : State) : Host.Outcome State Fault Refusal :=
  let j : JobId := (c.val, i.toNat)
  match (s.openDesc j).bind (·.hold) with
  | none => .next s
  | some h =>
    match h.toSeal with
    | [] => .next s
    | x :: l =>
      if s.revoked || !s.ready || !s.vault.maySeal then .next s
      else
        match (h.keys.head?).bind s.keyByHandle with
        | none => .next (s.endJob j (Answer.of St.keyHandleStale))
        | some k => .next (s.sealItem j h k x l)

end Sys2Proof.Machine
end

