-- ==== Sys2Proof/Machine/IndexRecord.lean ====
section
/-! DEFINITION. The index record: how it is built and read back (R366, R372, R374 to R376, R379), and the order of scores. -/

namespace Sys2Proof.Machine

/-! ### Order -/

/-- Insert into a list in order; an equal element goes behind those there. -/
def insertBy {α : Type} (before : α → α → Bool) (x : α) : List α → List α
  | [] => [x]
  | y :: l => if before x y then x :: y :: l else y :: insertBy before x l

/-- A list in order; equal elements keep their order. -/
def sortBy {α : Type} (before : α → α → Bool) (l : List α) : List α := l.foldl (fun a x => insertBy before x a) []

/-- One FP32 score is lower than another. Where a NaN stands in the order is not stated: `top` says whether it stands
above every number or below. -/
def scoreLt (top : Bool) (a b : Word) : Bool :=
  let x := fp32.val a.toNat
  let y := fp32.val b.toNat
  if x.isNan then !top && !y.isNan
  else if y.isNan then top
  else x.lt y

/-! ### Sections (R374 to R376) -/

/-- A section: type, count and contents. -/
structure RecSec where
  stype : Nat
  count : Nat
  data : List Byte

/-- Directory entries and contents of sections from an offset on. -/
def laySections : Nat → List RecSec → List Byte × List Byte
  | _, [] => ([], [])
  | off, x :: l =>
    let n := x.data.length
    let (d, b) := laySections (roundUp (off + n) 64) l
    let gap := if l.isEmpty then 0 else roundUp (off + n) 64 - (off + n)
    (leBytes 1 x.stype ++ zeros 3 ++ leBytes 4 x.count ++ leBytes 4 off ++ leBytes 4 n ++ d, x.data ++ zeros gap ++ b)

/-- Fields of a record's header. -/
structure RecHead where
  flags : Nat
  ref : Nat
  len : Nat
  media : Nat
  lang : Nat
  dim : Nat
  digest : BitVec 256

/-- An index record: header, directory and sections; sections of COUNT 0 are left out. -/
def indexRecord (h : RecHead) (secs : List RecSec) : List Byte :=
  let l := secs.filter fun x => x.count ≠ 0
  let n := 64 + 16 * l.length
  let (d, b) := laySections (roundUp n 64) l
  [0x53, 0x4B, 0x49, 0x52, 1] ++ leBytes 1 l.length ++ leBytes 2 h.flags ++ leBytes 8 h.ref ++ leBytes 8 h.len
    ++ leBytes 4 h.media ++ leBytes 2 h.lang ++ leBytes 2 h.dim ++ leBytes 32 h.digest.toNat ++ d
    ++ (if l.isEmpty then [] else zeros (roundUp n 64 - n)) ++ b

/-- Bytes of a VECTORS entry. -/
def vecEntrySize (dim : Nat) : Nat := 64 * ceilDiv (16 + dim) 64

/-- An entry of VECTORS. -/
def vecEntry (p : Passage) : List Byte :=
  padTo (vecEntrySize p.elems.length)
    (leBytes 2 p.part.toNat ++ leBytes 2 p.passage.toNat ++ [p.modality, 0] ++ leBytes 2 p.language.toNat
      ++ leBytes 4 p.scale.toNat ++ zeros 4 ++ p.elems)

/-- Element i is at least 0. -/
def signBit (l : List Byte) (i : Nat) : Bool := decide ((l.getD i 0).toNat < 128)

/-- The sketch of a vector: bit i in byte i div 8, bit i mod 8 (R66). Log 82 (DEDUCED). -/
def sketch (l : List Byte) : List Byte :=
  (List.range (l.length / 8)).map fun k =>
    BitVec.ofNat 8 ((List.range 8).foldl (fun a b => a + b2n (signBit l (8 * k + b)) * 2 ^ b) 0)

def vecSection (l : List Passage) : RecSec := ⟨1, l.length, l.flatMap vecEntry⟩
def sketchSection (l : List Passage) : RecSec := ⟨2, l.length, l.flatMap fun p => sketch p.elems⟩
def neardupSection (b : List Byte) : RecSec := ⟨3, 1, padTo 64 b⟩

/-! ### Labels (R372, R376) -/

/-- Labels before one another: higher score first, ties to the lower label. -/
def labelBefore (top : Bool) (a b : LabelHit) : Bool :=
  scoreLt top b.score a.score || (!scoreLt top a.score b.score && decide (a.label.toNat < b.label.toNat))

/-- Each label once, at its highest score. -/
def bestLabels (top : Bool) : List LabelHit → List LabelHit
  | [] => []
  | h :: l =>
    let r := bestLabels top l
    match r.find? fun x => x.label = h.label with
    | none => h :: r
    | some x => if scoreLt top x.score h.score then h :: r.filter (fun y => y.label ≠ h.label) else r

/-- The labels of a classifier. -/
def classLabels (top : Bool) (c : Nat) (l : List LabelHit) : List LabelHit :=
  (sortBy (labelBefore top) (bestLabels top (l.filter fun h => h.classifier.toNat = c))).take 8

def labelEntry (h : LabelHit) : List Byte :=
  [h.classifier, 0] ++ leBytes 2 h.label.toNat ++ leBytes 4 h.score.toNat

def labelSection (l : List LabelHit) : RecSec := ⟨4, l.length, l.flatMap labelEntry⟩

/-! ### Postings (R372, R376) -/

/-- A posting: term, count and first passage. -/
abbrev Posting := Nat × Nat × Nat

/-- One token more among postings in order of their terms; FIRST_PASSAGE stays that of the first. Log 158 (DEDUCED). -/
def addToken (t : Token) : List Posting → List Posting
  | [] => [(t.term.toNat, 1, t.passage)]
  | p :: l =>
    if t.term.toNat < p.1 then (t.term.toNat, 1, t.passage) :: p :: l
    else if t.term.toNat = p.1 then (p.1, p.2.1 + 1, p.2.2) :: l
    else p :: addToken t l

def postings (l : List Token) : List Posting := l.foldl (fun a t => addToken t a) []

def postingEntry (p : Posting) : List Byte := leBytes 4 p.1 ++ leBytes 2 (min 65535 p.2.1) ++ leBytes 2 (min 65535 p.2.2)

def postingSection (l : List Posting) : RecSec := ⟨5, l.length, l.flatMap postingEntry⟩

/-! ### Matches (R376, R378) -/

/-- Bits in which two sketches of 512 bits differ. -/
def hamming (a b : List Byte) : Nat :=
  total ((List.range 64).map fun i => popCount 8 (a.getD i 0 ^^^ b.getD i 0).toNat)

/-- Entries within a threshold, nearest first, ties to the earlier entry. -/
def dupMatches (sk : List Byte) (threshold most : Nat) (l : List DupEntry) : List (Nat × Nat) :=
  let near := (l.map fun e => (e.ref, hamming sk e.sketch)).filter fun p => decide (p.2 ≤ threshold)
  (sortBy (fun a b => decide (a.2 < b.2)) near).take most

def matchSection (l : List (Nat × Nat)) : RecSec :=
  ⟨6, l.length, l.flatMap fun p => leBytes 8 p.1 ++ leBytes 2 p.2 ++ zeros 6⟩

/-! ### Languages (R374) -/

/-- The language of most text passages, ties to the lower code; 0 if none. -/
def mainLanguage (l : List (BitVec 16)) : Nat :=
  let n := fun (c : Nat) => (l.filter fun x => x.toNat = c).length
  l.foldl (fun b x =>
    let c := x.toNat
    if b = 0 ∧ n b = 0 then c else if n b < n c ∨ (n b = n c ∧ c < b) then c else b) 0

/-! ### Reading a record (R374 to R376, R379) -/

/-- What an append takes from a record. -/
structure ReadRec where
  ref : Nat
  dim : Nat
  vectors : List ShardEntry
  dup : Option DupEntry

/-- Bytes of an entry of a section type. -/
def secEntrySize (dim t : Nat) : Nat :=
  match t with
  | 1 => vecEntrySize dim
  | 2 => dim / 8
  | 3 => 64
  | 4 => 8
  | 5 => 8
  | _ => 16

/-- The directory entries of a record: type, count, offset, length. -/
def recDirectory (b : List Byte) : List (Nat × Nat × Nat × Nat) :=
  (List.range (leAt b 5 1)).map fun i =>
    let o := 64 + 16 * i
    (leAt b o 1, leAt b (o + 4) 4, leAt b (o + 8) 4, leAt b (o + 12) 4)

/-- The directory is well formed: types ascend, sections follow one another, lengths agree. -/
def directoryOk (b : List Byte) (dim : Nat) : Nat → Nat → List (Nat × Nat × Nat × Nat) → Bool
  | _, endAt, [] => endAt = b.length
  | last, endAt, (t, n, off, len) :: l =>
    decide (last < t) && decide (t ≤ 6) && n ≠ 0 && off = roundUp endAt 64 && len = n * secEntrySize dim t
      && directoryOk b dim t (off + len) l

/-- The vector of a VECTORS entry. -/
def readVector (b : List Byte) (ref dim o : Nat) : ShardEntry :=
  ⟨ref, leAt b o 2, leAt b (o + 2) 2, BitVec.ofNat 32 (leAt b (o + 8) 4), leAt b (o + 4) 1, slice b (o + 16) dim⟩

/-- The reserved bytes of a VECTORS entry are zero and its modality is one of R376. -/
def vectorOk (b : List Byte) (dim o : Nat) : Bool :=
  leAt b (o + 5) 1 = 0 && leAt b (o + 12) 4 = 0 && 1 ≤ leAt b (o + 4) 1 && leAt b (o + 4) 1 ≤ 3
    && leNat (slice b (o + 16 + dim) (vecEntrySize dim - 16 - dim)) = 0

/-- A record read back; none where it is malformed. Log 82 (DEDUCED). -/
def readRecord (b : List Byte) : Option ReadRec :=
  let dim := leAt b 30 2
  let ref := leAt b 8 8
  let dir := recDirectory b
  let find := fun (t : Nat) => dir.find? fun x => x.1 = t
  let offs := match find 1 with
    | some (_, n, off, _) => (List.range n).map fun i => off + i * vecEntrySize dim
    | none => []
  if slice b 0 4 = [0x53, 0x4B, 0x49, 0x52] && leAt b 4 1 = 1 && leAt b 5 1 ≤ 6 && leAt b 6 2 < 32 && 64 ≤ b.length
      && (dir.zipIdx.all fun x => leAt b (65 + 16 * x.2) 3 = 0)
      && directoryOk b dim 0 (64 + 16 * leAt b 5 1) dir
      && ((find 1).isSome = (dim ≠ 0 : Bool))
      && (offs.all fun o => vectorOk b dim o) then
    some
      { ref := ref
        dim := dim
        vectors := offs.map fun o => readVector b ref dim o
        dup := (find 3).map fun x => ⟨ref, slice b x.2.2.1 64⟩ }
  else none

end Sys2Proof.Machine
end

