-- ==== Sys2Proof/Machine/Services.lean ====
section
/-! DEFINITION. The services that return index records and REKEY (R366 to R378, R388, R389). -/

namespace Sys2Proof.Machine

/-! ### A job whose sequences are over -/

/-- A service job that is admitted, whose input has verified, whose sequences are over and which has no result yet.
Log 88 (DEDUCED). -/
def State.svcJob (s : State) (j : JobId) (svc : Nat) : Option (Desc × JobHold) :=
  match s.openDesc j with
  | none => none
  | some d =>
    match d.hold with
    | none => none
    | some h =>
      if d.service && entService d.entry = svc && h.result.isNone && decide (h.nsegs ≤ h.segs) && s.ready && !s.jobRuns j
      then some (d, h) else none

/-- The plan of a role that a job keeps. -/
def JobHold.planOf (h : JobHold) (r : Nat) : Option Nat := (h.plans.find? fun p => p.1 = 0 || p.1 = r).map (·.2)

/-- MODEL_DIGEST: SM3 of the DIGESTs of the plans that ran, in ascending role order (R374). -/
def State.modelDigest (s : State) (h : JobHold) : BitVec 256 :=
  Config.sm3 ((sortBy (fun a b => decide (a < b)) h.ran).flatMap fun r =>
    match h.planOf r with
    | some n => digestBytes (s.planFile n)
    | none => [])

/-- A job has its record, which waits to be sealed under the channel's INDEX key. -/
def State.giveRecord (s : State) (j : JobId) (d : Desc) (kind : Nat) (r : List Byte) (count0 count1 : Nat) : State :=
  s.onHold j fun h => { h with
    toSeal := [⟨kind, descRef d.bytes, r⟩]
    result := some { Answer.of St.ok with count0 := count0, count1 := count1 } }

/-! ### Vectors -/

/-- Passages before one another: by part, then passage. -/
def passageBefore (a b : Passage) : Bool :=
  decide (a.part.toNat < b.part.toNat) || (a.part = b.part && decide (a.passage.toNat < b.passage.toNat))

/-- MAX_VECTORS as ARGS give it. -/
def maxVectors (n : Nat) : Nat := if n = 0 then 4096 else n

/-- A vector's DIM differs from vector_dim, or vector_dim is unset (R365). Log 82 (DEDUCED). -/
def State.dimDiffers (s : State) (n : Nat) : Bool := n ≠ s.get K.vectorDim || s.get K.vectorDim = 0

/-! ### The passages of a job and the sequences over them (R369, R371) -/

/-- The plan that cuts parts into passages: TEXT_EMBED for text, AUDIO_EMBED for audio, or the plan that the entry names in
its place. Log 158 (DEDUCED). -/
def State.cutPlan (s : State) (h : JobHold) (r : Nat) : Option Nat :=
  match h.plans.find? fun p => p.1 = r with
  | some p => some p.2
  | none => if h.service = 3 then s.bound r <|> h.planOf r else h.planOf r <|> s.bound r

/-- Tokens or frames of a whole passage: PASSAGE_CHUNKS chunks. Log 158 (DEDUCED). -/
def State.passageUnits (s : State) (d : Desc) (h : JobHold) (r : Nat) : Nat :=
  match s.cutPlan h r with
  | none => 0
  | some n =>
    let most := if h.service = 1 then (s.cutPlan h 3).getD n else n
    (if arg d.bytes 0 2 = 0 then planShapeMax (s.planFile most) 0 else arg d.bytes 0 2) * planShapeMax (s.planFile n) 1

/-- The passages of what extraction yielded. -/
def State.jobPieces (s : State) (d : Desc) (h : JobHold) (x : Extract) : List Piece :=
  pieces (s.passageUnits d h 3) (s.passageUnits d h 5) x.parts

/-- A job keeps a plan for a role. -/
def JobHold.has (h : JobHold) (r : Nat) : Bool := (h.planOf r).isSome

/-- The sequences of a role over a passage. -/
def State.runs (s : State) (h : JobHold) (r : Nat) (x : Piece) : List (Nat × Nat × Nat × List Nat) :=
  match h.plans.find? fun p => p.1 = 0 || p.1 = r with
  | none => []
  | some p => (x.shapes (s.planFile p.2)).map fun l => (p.1, x.part, x.passage, l)

/-- The sequences of a role over the first bytes of the object. -/
def State.runsBytes (s : State) (h : JobHold) (r n : Nat) : List (Nat × Nat × Nat × List Nat) :=
  s.runs h r ⟨0, 0, 1, n, 0, 0⟩

/-- The sequences that ran are these. Log 88 (DEDUCED). -/
def JobHold.ranAll (h : JobHold) (l : List (Nat × Nat × Nat × List Nat)) : Bool :=
  l.all h.seqs.contains && h.seqs.all l.contains

/-- The output blocks of passages: one vector each, in order. -/
def vectorsOf (l : List Piece) (vs : List Passage) : Bool :=
  (sortBy passageBefore vs).map (fun v => (v.part.toNat, v.passage.toNat, v.modality.toNat))
    = l.map fun p => (p.part, p.passage, p.modality)

/-! ### INGEST_INDEX (R366 to R373) -/

/-- A media type outside the table counts as 0 (R366). -/
def mediaOf (n : Nat) : Nat := if n ≤ 11 then n else 0

/-- Bytes that NEAR_DUP reads of an object (R371 step 5). -/
def State.dupReach (s : State) (h : JobHold) : Nat :=
  match h.planOf 6 with
  | some n => planShapeMax (s.planFile n) 0 * planShapeMax (s.planFile n) 1
  | none => 0

/-- The labels of the classifiers selected. -/
def allLabels (top : Bool) (mask : Nat) (l : List LabelHit) : List LabelHit :=
  (List.range 8).flatMap fun i => if bit mask i then classLabels top i l else []

/-- The text passages among some. -/
def textPieces (l : List Piece) : List Piece := l.filter fun p => p.modality = 1

/-- The passages of an INGEST_INDEX job that give a vector: those whose role is bound, where VECTORS is asked for.
Log 158 (DEDUCED). -/
def ingestVectors (d : Desc) (h : JobHold) (l : List Piece) : List Piece :=
  if bit (arg d.bytes 6 1) 0 then l.filter fun p => h.has (2 + p.modality) else []

/-- Every sequence of an INGEST_INDEX job (R371): vectors beyond MAX_VECTORS are not computed (R372). -/
def State.ingestRuns (s : State) (d : Desc) (h : JobHold) (l : List Piece) : List (Nat × Nat × Nat × List Nat) :=
  let a := d.bytes
  s.runsBytes h 1 (min (objLen h.hdr) 65536)
    ++ (if bit (arg a 6 1) 2 then s.runsBytes h 6 (min (objLen h.hdr) (s.dupReach h)) else [])
    ++ (textPieces l).flatMap (s.runs h 2)
    ++ (((ingestVectors d h l).take (maxVectors (arg a 2 2))).flatMap fun p => s.runs h (2 + p.modality) p)
    ++ (classRoles (arg a 7 1)).flatMap fun r => (textPieces l).flatMap (s.runs h r)

/-- A passage's role is unbound, so that it is skipped (R371 step 4). Log 158 (DEDUCED). -/
def skipsPiece (d : Desc) (h : JobHold) (l : List Piece) : Bool :=
  l.any fun p => (p.modality = 1 && !h.has 2) || (bit (arg d.bytes 6 1) 0 && !h.has (2 + p.modality))

/-- The record of an INGEST_INDEX job. -/
def State.ingestRecord (s : State) (d : Desc) (h : JobHold) (x : Extract) (top : Bool) : List Byte × Nat × Nat :=
  let a := d.bytes
  let sec := arg a 6 1
  let l := s.jobPieces d h x
  let vs := sortBy passageBefore x.vectors
  let ps := if bit sec 4 then postings (allTokens (s.passageUnits d h 3) x.parts) else []
  let kept := ps.take (arg a 4 2)
  let media := mediaOf x.mediaType
  let flags := b2n (vs.length < (ingestVectors d h l).length) + 2 * b2n (x.malformed || x.limit || skipsPiece d h l)
    + 4 * b2n (media = 0) + 8 * b2n (bit sec 2 && decide (s.dupReach h < objLen h.hdr)) + 16 * b2n (kept.length < ps.length)
  let head : RecHead := ⟨flags, descRef a, objLen h.hdr, media, mainLanguage x.languages,
    if vs.isEmpty then 0 else s.get K.vectorDim, s.modelDigest h⟩
  let secs := [vecSection vs] ++ (if bit sec 1 then [sketchSection vs] else [])
    ++ (if bit sec 2 then [neardupSection x.neardup] else [])
    ++ (if bit sec 3 then [labelSection (allLabels top (arg a 7 1) x.labels)] else []) ++ [postingSection kept]
  (indexRecord head secs, vs.length, kept.length)

/-- Every sequence of an INGEST_INDEX job is over, and its output blocks are those of its passages. -/
def State.ingestDone (s : State) (d : Desc) (h : JobHold) (x : Extract) : Bool :=
  let l := s.jobPieces d h x
  h.ranAll (s.ingestRuns d h l) && vectorsOf ((ingestVectors d h l).take (maxVectors (arg d.bytes 2 2))) x.vectors
    && x.languages.length = (if h.has 2 then (textPieces l).length else 0)

/-- INGEST_INDEX once extraction and its sequences are over; what an unpublished order of NaN scores leaves open is
free. -/
def State.ingest (s : State) (j : JobId) (d : Desc) (h : JobHold) (x : Extract) : State :=
  if !s.ingestDone d h x then s
  else if x.vectors.any fun p => s.dimDiffers p.elems.length then s.endJob j (Answer.of St.dimMismatch)
  else
    let (n, s) := s.draw
    let r := s.ingestRecord d h x (Config.freeBool n)
    s.giveRecord j d 1 r.1 r.2.1 r.2.2

def execIngestIndex (c : Chan) (i : BitVec 16) (x : Extract) (s : State) : Host.Outcome State Fault Refusal :=
  let j : JobId := (c.val, i.toNat)
  match s.svcJob j 1 with
  | none => .next s
  | some (d, h) => .next (s.ingest j d h x)

/-! ### EMBED (R377, R378) -/

/-- MODALITY of an EMBED job. -/
def embedModality (d : Desc) : Nat := arg d.bytes 4 1

/-- The passages of an EMBED job that give a vector. -/
def embedVectors (d : Desc) (l : List Piece) : List Piece := l.take (maxVectors (arg d.bytes 2 2))

/-- The record of an EMBED job; it runs no LANG_DETECT. Log 87 (DESIGN CHOICE). -/
def State.embedRecord (s : State) (d : Desc) (h : JobHold) (x : Extract) : List Byte × Nat :=
  let a := d.bytes
  let vs := (sortBy passageBefore x.vectors).map fun p => { p with language := 0 }
  let flags := b2n (vs.length < (s.jobPieces d h x).length) + 2 * b2n x.limit
  let head : RecHead := ⟨flags, descRef a, objLen h.hdr, 0, 0, s.get K.vectorDim, s.modelDigest h⟩
  (indexRecord head ([vecSection vs] ++ (if bit (arg a 5 1) 0 then [sketchSection vs] else [])), vs.length)

/-- Every sequence of an EMBED job is over, and its output blocks are those of its passages. -/
def State.embedDone (s : State) (d : Desc) (h : JobHold) (x : Extract) : Bool :=
  let l := embedVectors d (s.jobPieces d h x)
  h.ranAll (l.flatMap (s.runs h (2 + embedModality d))) && vectorsOf l x.vectors

def State.embed (s : State) (j : JobId) (d : Desc) (h : JobHold) (x : Extract) : State :=
  let l := s.jobPieces d h x
  if !x.suits then s.endJob j (Answer.of St.mediaUnsupported)
  else if x.malformed then s.endJob j (Answer.of St.extractFault)
  else if l.isEmpty then if h.ran.isEmpty then s.endJob j (Answer.of St.okEmpty) else s
  else if !(l.all fun p => p.modality = embedModality d) || !s.embedDone d h x then s
  else if x.vectors.any fun p => s.dimDiffers p.elems.length then s.endJob j (Answer.of St.dimMismatch)
  else
    let r := s.embedRecord d h x
    s.giveRecord j d 2 r.1 r.2 0

def execEmbed (c : Chan) (i : BitVec 16) (x : Extract) (s : State) : Host.Outcome State Fault Refusal :=
  let j : JobId := (c.val, i.toNat)
  match s.svcJob j 2 with
  | none => .next s
  | some (d, h) => .next (s.embed j d h x)

/-! ### CLASSIFY (R377, R378) -/

/-- The roles of a CLASSIFY job: the classifiers selected, or the plan that the entry names. -/
def classifyRoles (d : Desc) : List Nat := if entPlan d.entry = 0 then classRoles (arg d.bytes 4 1) else [0x10]

/-- The labels of a CLASSIFY job. A plan that the entry names has no classifier number; which one its labels carry is
not stated. Log 87 (DESIGN CHOICE). -/
def classifyLabels (d : Desc) (free : Nat) (top : Bool) (x : Extract) : List LabelHit :=
  if entPlan d.entry = 0 then allLabels top (arg d.bytes 4 1) x.labels
  else
    let k := BitVec.ofNat 8 (free % 8)
    classLabels top (free % 8) (x.labels.map fun l => { l with classifier := k })

/-- Every sequence of a CLASSIFY job. -/
def State.classifyRuns (s : State) (d : Desc) (h : JobHold) (l : List Piece) : List (Nat × Nat × Nat × List Nat) :=
  (classifyRoles d).flatMap fun r => l.flatMap (s.runs h r)

def State.classify (s : State) (j : JobId) (d : Desc) (h : JobHold) (x : Extract) : State :=
  let l := s.jobPieces d h x
  if !x.suits then s.endJob j (Answer.of St.mediaUnsupported)
  else if x.malformed then s.endJob j (Answer.of St.extractFault)
  else if l.isEmpty then if h.ran.isEmpty then s.endJob j (Answer.of St.okEmpty) else s
  else if !(l.all fun p => p.modality = 1) || !h.ranAll (s.classifyRuns d h l) then s
  else
    let (n, s) := s.draw
    let ls := classifyLabels d (Config.choice 2 n) (Config.freeBool n) x
    let head : RecHead := ⟨2 * b2n x.limit, descRef d.bytes, objLen h.hdr, 0, 0, 0, s.modelDigest h⟩
    s.giveRecord j d 3 (indexRecord head [labelSection ls]) ls.length 0

def execClassify (c : Chan) (i : BitVec 16) (x : Extract) (s : State) : Host.Outcome State Fault Refusal :=
  let j : JobId := (c.val, i.toNat)
  match s.svcJob j 3 with
  | none => .next s
  | some (d, h) => .next (s.classify j d h x)

/-! ### NEAR_DUP (R377, R378) -/

/-- The shard that a search sees under a number: the one it was admitted to, with what it held then. -/
def State.seen (s : State) (j : JobId) (n : Nat) : Option (Shard × Nat × Nat) :=
  s.shards.findSome? fun x =>
    if x.num = n then ((x.searches.find? fun p => p.1 = j).map fun p => (x, p.2)) else none

/-- Matches of a sketch in the shard that ARGS name. -/
def State.dupHits (s : State) (j : JobId) (d : Desc) (sk : List Byte) : List (Nat × Nat) :=
  match s.seen j (arg d.bytes 0 2) with
  | none => []
  | some (x, _, n) => dupMatches sk (arg d.bytes 6 2) (arg d.bytes 2 2) (x.dups.take n)

def State.nearDup (s : State) (j : JobId) (d : Desc) (h : JobHold) (x : Extract) : State :=
  if !h.ranAll (s.runsBytes h 6 (min (objLen h.hdr) (s.dupReach h))) then s
  else
    let sk := padTo 64 x.neardup
    let ms := s.dupHits j d sk
    let flags := 8 * b2n (s.dupReach h < objLen h.hdr)
    let head : RecHead := ⟨flags, descRef d.bytes, objLen h.hdr, 0, 0, 0, s.modelDigest h⟩
    s.giveRecord j d 4 (indexRecord head [neardupSection sk, matchSection ms]) ms.length 0

def execNearDup (c : Chan) (i : BitVec 16) (x : Extract) (s : State) : Host.Outcome State Fault Refusal :=
  let j : JobId := (c.val, i.toNat)
  match s.svcJob j 4 with
  | none => .next s
  | some (d, h) => .next (s.nearDup j d h x)

/-! ### Envelopes as an input (R382, R388) -/

/-- Why an envelope is not opened: its layout and cipher, its key, its tag. Log 84 (DEDUCED). -/
def envFails (k : VKey) (e : Envelope) : Option Nat :=
  if !envHeaderOk e.hdr then some St.recordFormat
  else if envKey e.hdr ≠ k.id then some St.keyNotPermitted
  else if leAt e.hdr 5 1 ≠ k.alg then some St.recordFormat
  else if (openEnvelope (keyBytes k.blob) e).isNone then some St.recordAuth
  else none

/-- The plaintext of an envelope that does not fail. -/
def envPlain (k : VKey) (e : Envelope) : List Byte := (openEnvelope (keyBytes k.blob) e).getD []

/-- Bytes of an envelope on the link. -/
def envWire (e : Envelope) : Nat := 80 + envLen e.hdr

/-- The first envelope that the input's length does not hold whole, or that follows the last one without being there. -/
def cutEnvelope (len : Nat) : Nat → List Envelope → Option Nat
  | i, [] => if len = 0 then none else some i
  | i, e :: l => if len < envWire e then some i else cutEnvelope (len - envWire e) (i + 1) l

/-- The first envelope that fails, with its status. -/
def firstBadEnv (k : VKey) (len : Nat) (es : List Envelope) : Option (Nat × Nat) :=
  let bad := es.zipIdx.findSome? fun p => (envFails k p.1).map fun st => (p.2, st)
  match bad, cutEnvelope len 0 es with
  | some (i, st), some m => if m < i then some (m, St.recordFormat) else some (i, st)
  | some b, none => some b
  | none, some m => some (m, St.recordFormat)
  | none, none => none

/-- An answer with the index of the envelope concerned. Log 86 (DEDUCED). -/
def envAnswer (st i : Nat) : Answer := { Answer.of st with detail := i }

/-! ### REKEY (R388, R389) -/

/-- Envelopes opened under the old key wait to be sealed under the INDEX key, in order. -/
def rekeyItems (k : VKey) (es : List Envelope) : List SealItem :=
  es.map fun e => ⟨envKind e.hdr, envRef e.hdr, envPlain k e⟩

def State.rekey (s : State) (j : JobId) (d : Desc) (h : JobHold) (es : List Envelope) : State :=
  match (h.keys[1]?).bind s.keyByHandle with
  | none => s.endJob j (Answer.of St.keyHandleStale)
  | some k =>
    match firstBadEnv k (descInLen d.bytes) (es.take 65536) with
    | some (i, st) => s.endJob j (envAnswer st i)
    | none => s.onHold j fun x => { x with
        toSeal := rekeyItems k es
        result := some { Answer.of St.ok with count0 := es.length } }

def execRekey (c : Chan) (i : BitVec 16) (envs : List Envelope) (s : State) : Host.Outcome State Fault Refusal :=
  let j : JobId := (c.val, i.toNat)
  match s.svcJob j 6 with
  | none => .next s
  | some (d, h) => .next (s.rekey j d h envs)

end Sys2Proof.Machine
end

