-- ==== Sys2Proof/Machine/Search.lean ====
section
/-! DEFINITION. Shards and QUERY (R379 to R387, R389). -/

namespace Sys2Proof.Machine

/-- A QUERY job of a MODE. -/
def State.queryJob (s : State) (j : JobId) (mode : Nat) : Option (Desc × JobHold) :=
  (s.svcJob j 5).filter fun p => arg p.1.bytes 0 1 = mode

/-! ### The shard store (R379) -/

/-- Bytes that vectors of a DIM and near-duplicate entries take. -/
def entryBytes (dim vectors dups : Nat) : Nat := vectors * (dim + 64 * ceilDiv dim 512 + 32) + dups * 72

def Shard.bytes (x : Shard) (dim : Nat) : Nat :=
  entryBytes dim (x.entries.length + total (x.pending.map fun p => p.2.1.length))
    (x.dups.length + total (x.pending.map fun p => p.2.2.length))

/-- Bytes of the shard store. -/
def shardStore : Nat := 192 * 2 ^ 30

/-- Free bytes of the store. -/
def State.shardRoom (s : State) : Nat := shardStore - total (s.shards.map fun x => x.bytes (s.get K.vectorDim))

/-! ### SHARD_APPEND (R382, R389) -/

/-- What an append adds. -/
abbrev Added := List ShardEntry × List DupEntry

/-- The records of an append in order: what they add, or the first that fails with its status. Log 82 (DEDUCED). -/
def State.readAppend (s : State) (k : VKey) (room : Nat) : Nat → Added → List Envelope → (Nat × Nat) ⊕ Added
  | _, a, [] => .inr a
  | i, a, e :: l =>
    match envFails k e with
    | some st => .inl (i, st)
    | none =>
      if envKind e.hdr ≠ 1 ∧ envKind e.hdr ≠ 2 then .inl (i, St.recordFormat)
      else
        match readRecord (envPlain k e) with
        | none => .inl (i, St.recordFormat)
        | some r =>
          if r.dim ≠ s.get K.vectorDim then .inl (i, St.dimMismatch)
          else
            let a' : Added := (a.1 ++ r.vectors, a.2 ++ r.dup.toList)
            if room < entryBytes r.dim a'.1.length a'.2.length then .inl (i, St.shardFull)
            else State.readAppend s k room (i + 1) a' l

/-- An append of a job admitted earlier to the same shard has not taken effect (R382). Log 81 (DEDUCED). -/
def State.appendAhead (s : State) (n number : Nat) : Bool :=
  s.host.channels.any fun p => p.2.fly.any fun d =>
    d.service && entService d.entry = 5 && arg d.bytes 0 1 = 1 && arg d.bytes 1 1 = n && d.answer.isNone
      && ((d.hold.map fun h => decide (h.number < number)).getD false)

/-- The entries of an append wait in their shard for its completion; an absent shard is made (R382). -/
def State.addAppend (s : State) (j : JobId) (n : Nat) (a : Added) : State :=
  let here := s.shards.any fun x => x.num = n && !x.dropped
  let s := if here then s else { s with shards := s.shards ++ [⟨n, [], [], [], [], false, false⟩] }
  { s with shards := s.shards.map fun x =>
      if x.num = n && !x.dropped then { x with pending := x.pending ++ [(j, a.1, a.2)] } else x }

/-- SHARD_APPEND: whole or nothing. Log 85 (DEDUCED). -/
def State.append (s : State) (j : JobId) (d : Desc) (h : JobHold) (es : List Envelope) : State :=
  let n := arg d.bytes 1 1
  match (h.keys.head?).bind s.keyByHandle with
  | none => s.endJob j (Answer.of St.keyHandleStale)
  | some k =>
    let len := descInLen d.bytes
    let whole := match cutEnvelope len 0 es with
      | none => es
      | some m => es.take m
    match s.readAppend k s.shardRoom 0 ([], []) whole with
    | .inl (i, st) => s.endJob j (envAnswer st i)
    | .inr a =>
      match cutEnvelope len 0 es with
      | some m => s.endJob j (envAnswer St.recordFormat m)
      | none =>
        (s.addAppend j n a).answer j { Answer.of St.ok with count0 := a.1.length, count1 := a.2.length }

def execShardAppend (c : Chan) (i : BitVec 16) (envs : List Envelope) (s : State) : Host.Outcome State Fault Refusal :=
  let j : JobId := (c.val, i.toNat)
  match s.queryJob j 1 with
  | none => .next s
  | some (d, h) =>
    if s.appendAhead (arg d.bytes 1 1) h.number then .next s else .next (s.append j d h envs)

/-! ### SHARD_DROP (R383) -/

/-- An append to a shard is admitted or running. -/
def State.appendsTo (s : State) (n : Nat) : Bool :=
  (s.shards.any fun x => x.num = n && !x.dropped && !x.pending.isEmpty) ||
  s.host.channels.any fun p => p.2.fly.any fun d =>
    d.service && entService d.entry = 5 && arg d.bytes 0 1 = 1 && arg d.bytes 1 1 = n && d.answer.isNone && d.hold.isSome

/-- Drop a shard: it is gone for later jobs, and its space is free once no search holds it. Log 85 (DEDUCED). -/
def State.dropShard (s : State) (n : Nat) : State :=
  s.onShards fun x => if x.num = n && !x.dropped then { x with dropped := true } else x

def execShardDrop (c : Chan) (i : BitVec 16) (s : State) : Host.Outcome State Fault Refusal :=
  let j : JobId := (c.val, i.toNat)
  match s.queryJob j 2 with
  | none => .next s
  | some (d, _) =>
    let n := arg d.bytes 1 1
    if !(s.shards.any fun x => x.num = n && x.made && !x.dropped) then .next (s.endJob j (Answer.of St.shardUnknown))
    else if s.appendsTo n then .next (s.endJob j (Answer.of St.shardBusy))
    else .next ((s.dropShard n).answer j (Answer.of St.ok))

/-! ### SEARCH (R384 to R387) -/

/-- The layout of a query. Log 84 (DEDUCED). -/
def queryOk (q : List Byte) : Bool :=
  let k := leAt q 6 2
  let n := leAt q 8 2
  let c := leAt q 10 2
  64 ≤ q.length && slice q 0 4 = [0x53, 0x4B, 0x51, 0x59] && leAt q 4 1 = 1 && (leAt q 5 1 = 1 || leAt q 5 1 = 2)
    && 1 ≤ k && k ≤ 1024 && 1 ≤ n && n ≤ 16 && (c = 0 || (k ≤ c && c ≤ 16384)) && leAt q 12 4 = 0
    && leNat (slice q (16 + 2 * n) (32 - 2 * n)) = 0 && leNat (slice q 48 16) = 0
    && (leAt q 5 1 = 1 || 128 + leAt q 68 2 ≤ q.length)

/-- The shards that a query lists. Log 84 (DEDUCED). -/
def queryShards (q : List Byte) : List Nat := (List.range (leAt q 8 2)).map fun i => leAt q (16 + 2 * i) 2

/-- CANDIDATES in force. -/
def queryCands (q : List Byte) : Nat := if leAt q 10 2 = 0 then min (16 * leAt q 6 2) 16384 else leAt q 10 2

/-- Sign bits in which two vectors of a length agree (R82, R385). -/
def agreement (a b : List Byte) : Nat :=
  ((List.range a.length).filter fun i => signBit a i = signBit b i).length

/-- The dot product of I8 elements into INT32, which wraps (R71). -/
def dotI8 (a b : List Byte) : Int :=
  let s8 := fun (x : Byte) => (if x.toNat < 128 then (x.toNat : Int) else x.toNat - 256)
  sInt (ofInt 32 ((a.zip b).foldl (fun t p => t + s8 p.1 * s8 p.2) 0))

/-- The product of two FP32 numbers, rounded. -/
def mul32 (a b : Nat) : Nat := (fp32.enc ((fp32.val a).mul (fp32.val b))).1

/-- A score (R385). Log 83 (DEDUCED). -/
def searchScore (q : Query) (e : ShardEntry) : Word :=
  let dot := (fp32.enc (valInt (dotI8 q.elems e.elems))).1
  BitVec.ofNat 32 (mul32 (mul32 dot q.scale.toNat) e.scale.toNat)

/-- The results of a query in a shard: its candidates with their scores. -/
def Query.scan (q : Query) (num : Nat) (es : List ShardEntry) : List (Nat × Nat × Word × Nat × Nat × Nat) :=
  let all := es.zipIdx.map fun p => (agreement q.elems p.1.elems, p.2, p.1)
  let best := (sortBy (fun (a b : Nat × Nat × ShardEntry) => decide (b.1 < a.1)) all).take q.cands
  best.map fun p => (num, p.2.1, searchScore q p.2.2, p.2.2.ref, p.2.2.part, p.2.2.passage)

/-- Results before one another: higher score, then lower shard, then lower entry (R385). Log 83 (DEDUCED). -/
def resultBefore (top : Bool) (a b : Nat × Nat × Word × Nat × Nat × Nat) : Bool :=
  scoreLt top b.2.2.1 a.2.2.1 ||
    (!scoreLt top a.2.2.1 b.2.2.1 && (decide (a.1 < b.1) || (a.1 = b.1 && decide (a.2.1 < b.2.1))))

/-- The plaintext of an answer (R387). -/
def searchAnswer (scanned : Nat) (rs : List (Nat × Nat × Word × Nat × Nat × Nat)) : List Byte :=
  [0x53, 0x4B, 0x51, 0x41, 1, 0] ++ leBytes 2 rs.length ++ leBytes 8 scanned ++ zeros 48
    ++ rs.flatMap fun r => leBytes 8 r.2.2.2.1 ++ leBytes 2 r.2.2.2.2.1 ++ leBytes 2 r.2.2.2.2.2 ++ leBytes 4 r.2.2.1.toNat

/-- Every listed shard is scanned: the K highest scores are the answer. -/
def State.finishSearch (s : State) (j : JobId) (q : Query) : State :=
  let (n, s) := s.draw
  let rs := (sortBy (resultBefore (Config.freeBool n)) q.kept).take q.k
  match s.openDesc j with
  | none => s
  | some d => s.giveRecord j d 5 (searchAnswer q.scanned rs) rs.length q.scanned

/-- A job of a batch has its shard scanned. -/
def State.scanJob (s : State) (num : Nat) (j : JobId) : State :=
  match ((s.openDesc j).bind (·.hold)).bind (·.query), s.seen j num with
  | some q, some (x, n, _) =>
    if q.left.contains num then
      let es := x.entries.take n
      let q := { q with
        left := q.left.erase num
        kept := q.kept ++ q.scan num es
        scanned := q.scanned + es.length }
      let s := s.onHold j fun h => { h with query := some q }
      if q.left.isEmpty then s.finishSearch j q else s
    else s
  | _, _ => s

/-- The scan of the first batch gathered for a shard. -/
def State.scanBatch (s : State) (num : Nat) : State :=
  match s.batches.find? fun b => b.shard = num with
  | none => s
  | some b => b.jobs.foldl (fun s j => s.scanJob num j) { s with batches := s.batches.erase b }

/-- A search joins the batch that gathers for a shard; a full batch is scanned (R386). -/
def State.joinBatch (s : State) (j : JobId) (num : Nat) : State :=
  match s.batches.find? fun b => b.shard = num with
  | none => { s with batches := s.batches ++ [⟨num, [j]⟩] }
  | some b =>
    let s := { s with batches := s.batches.map fun x => if x = b then { x with jobs := x.jobs ++ [j] } else x }
    if 32 ≤ b.jobs.length + 1 then s.scanBatch num else s

/-- A search whose query vector is known waits for its scans. -/
def State.beginSearch (s : State) (j : JobId) (p : List Byte) (scale : Word) (elems : List Byte) : State :=
  let ns := queryShards p
  let q : Query := ⟨leAt p 6 2, queryCands p, scale, elems, ns, [], 0⟩
  let s := s.onHold j fun h => { h with query := some q }
  ns.foldl (fun s n => s.joinBatch j n) s

/-- The text of a query: its tokens; none where it is not UTF-8. -/
def queryTokens (q : List Byte) : Option (List Word) := (readUtf8 0 0 0 (q.drop 64)).map tokensOf

/-- Chunks of a text query's one sequence lie over its plan (R384). -/
def textOver (f : List Byte) (tokens : Nat) : Bool := planShapeMax f 0 < ceilDiv tokens (max 1 (planShapeMax f 1))

/-- A text query (R365, R384): tokenised and embedded as one sequence, whose output block holds a scale and elements.
Log 83 (DEDUCED). -/
def State.searchText (s : State) (j : JobId) (h : JobHold) (p : List Byte) (scale : Word) (elems : List Byte) : State :=
  let r := if h.has 7 then 7 else 3
  match h.planOf r, queryTokens p with
  | none, _ => s.endJob j (Answer.of St.chainUnbound)
  | _, none => s.endJob j (Answer.of St.queryFormat)
  | some n, some ts =>
    if ts.isEmpty then if h.ran.isEmpty then s.endJob j (Answer.of St.okEmpty) else s
    else if textOver (s.planFile n) ts.length then
      (s.bump K.shapeOverPlanCount 1).endJob j (Answer.of St.shapeOverPlan)
    else if !h.ranAll (s.runsBytes h r ts.length) then s
    else if s.dimDiffers elems.length then s.endJob j (Answer.of St.dimMismatch)
    else s.beginSearch j p scale elems

/-- SEARCH once its query has verified. -/
def State.search (s : State) (j : JobId) (h : JobHold) (scale : Word) (elems : List Byte) : State :=
  let p := h.plain
  if h.query.isSome then s
  else if !queryOk p then s.endJob j (Answer.of St.queryFormat)
  else if (queryShards p).any fun n => (s.seen j n).isNone then s.endJob j (Answer.of St.shardUnknown)
  else if leAt p 5 1 = 1 then s.searchText j h p scale elems
  else if s.dimDiffers (leAt p 68 2) then s.endJob j (Answer.of St.dimMismatch)
  else s.beginSearch j p (BitVec.ofNat 32 (leAt p 64 4)) (slice p 128 (leAt p 68 2))

/-- SEARCH (R384 to R387). -/
def execSearch (c : Chan) (i : BitVec 16) (embedded : Embedded) (s : State) : Host.Outcome State Fault Refusal :=
  let j : JobId := (c.val, i.toNat)
  match s.queryJob j 0 with
  | none => .next s
  | some (_, h) => .next (s.search j h embedded.scale embedded.elems)

/-- QUERY_BATCH_WINDOW (R386). -/
def execQueryBatchWindow (shard : BitVec 8) (elapsedUs : Nat) (s : State) : Host.Outcome State Fault Refusal :=
  if s.ready && decide (s.get K.queryBatchWindow ≤ elapsedUs) then .next (s.scanBatch shard.toNat) else .next s

end Sys2Proof.Machine
end

