-- ==== Sys2Proof/Machine/Tuning.lean ====
section
/-! DEFINITION. Collective tuning: the events of sessions and steps (R432 to R455, R474). -/

namespace Sys2Proof.Machine

/-! ### Status codes of R455 -/

namespace St
def tuneSessionFormat : Nat := 0x60
def tuneSessionActive : Nat := 0x61
def tuneSessionUnknown : Nat := 0x62
def tuneGroupMismatch : Nat := 0x63
def tuneOpenTimeout : Nat := 0x64
def tuneStepOrder : Nat := 0x65
def tuneCoordLost : Nat := 0x67
def tuneStateFull : Nat := 0x68
def tuneBusy : Nat := 0x69
end St

/-- A TUNE_STEP job of a MODE that may run now. -/
def State.tuneJob (s : State) (j : JobId) (mode : Nat) : Option (Desc × JobHold) :=
  (s.svcJob j 7).filter fun p => arg p.1.bytes 0 1 = mode

/-- SESSION of a descriptor. -/
def descSession (d : Desc) : Nat := arg d.bytes 1 1

/-! ### OPEN (R434, R435, R437) -/

/-- Members and weights as the session block counts them. -/
def openMembers (p : List Byte) : Nat := leAt p 6 2 * leAt p 8 2
def openWeights (p : List Byte) : Nat := leAt p 20 4 + leAt p 24 4

/-- An FP32 number is finite. -/
def isFinite (v : Nat) : Bool := bits v 23 8 ≠ 255

/-- The session block, the member list and the length of an OPEN (R434). -/
def openFormatOk (p : List Byte) : Bool :=
  let m := openMembers p
  let lr := leAt p 28 4
  let mom := leAt p 32 4
  let dec := leAt p 36 4
  let list := roundUp (2 * m) 64
  64 ≤ p.length && slice p 0 4 = [0x53, 0x4B, 0x54, 0x55] && leAt p 4 1 = 1 && 1 ≤ leAt p 5 1 && leAt p 5 1 ≤ 64
    && 1 ≤ leAt p 6 2 && leAt p 6 2 ≤ 64 && 1 ≤ leAt p 8 2 && leAt p 8 2 ≤ 64 && leAt p 10 1 ≤ 64 && leAt p 11 1 ≤ 15
    && leAt p 12 2 ≤ 4096 && leAt p 12 2 % 64 = 0 && leAt p 14 2 = 0 && 100 ≤ leAt p 16 4 && leAt p 16 4 ≤ 1000000
    && 1 ≤ openWeights p && isFinite lr && (fp32.val 0).lt (fp32.val lr)
    && isFinite mom && !(fp32.val mom).lt (fp32.val 0) && (fp32.val mom).lt (fp32.val 0x3F800000)
    && !(fp32.val dec).isNan && !(fp32.val dec).lt (fp32.val 0) && leNat (slice p 40 24) = 0
    && p.length = 64 + list + 4 * openWeights p && leNat (slice p (64 + 2 * m) (list - 2 * m)) = 0

/-- Bytes of a bucket. -/
def openBucket (p : List Byte) : Nat := (if leAt p 10 1 = 0 then 4 else leAt p 10 1) * mib

/-- The reservation of R437 in MiB. -/
def openReserve (p : List Byte) : Nat :=
  let ps := leAt p 24 4
  let ns := ceilDiv (4 * ps) (openBucket p)
  ceilDiv (28 * openWeights p + 4 * openBucket p + openMembers p * (ceilDiv ps 8 + 4 * ns)) mib

/-- Free MiB of the tuning-state region. -/
def State.tuneFree (s : State) : Nat := 16384 - total (s.tunes.map fun p => p.2.reserve)

/-- The session that an OPEN makes, its window and places apart. What momentum, accumulator and error memory hold at the
start is not stated. Log 41 (DESIGN CHOICE). -/
def openSession (p : List Byte) (endpoint : Nat) (j : JobId) (old : Tune) : Tune :=
  let m := openMembers p
  let ms := (List.range m).map fun r => leAt p (64 + 2 * r) 2
  let pd := leAt p 20 4
  let ps := leAt p 24 4
  let at' := 64 + roundUp (2 * m) 64
  let init := fun (k n : Nat) => (List.range n).map fun i => Config.tuneInit k i
  { Tune.closed with
    state := .opening
    members := ms
    xLen := leAt p 6 2
    yLen := leAt p 8 2
    denseEvery := leAt p 5 1
    bucketBytes := openBucket p
    repeatLimit := leAt p 11 1
    reportBytes := leAt p 12 2
    deadlineUs := leAt p 16 4
    denseElems := pd
    sparseElems := ps
    lr := BitVec.ofNat 32 (leAt p 28 4)
    momentum := BitVec.ofNat 32 (leAt p 32 4)
    decay := BitVec.ofNat 32 (leAt p 36 4)
    rank := (ms.findIdx? fun e => e = endpoint).getD 0
    digest := Config.sm3 p
    digests := old.digests
    reserve := openReserve p
    w := (List.range (pd + ps)).map fun i => BitVec.ofNat 32 (leAt p (at' + 4 * i) 4)
    v := init 0 (pd + ps)
    a := init 1 pd
    e := init 2 ps
    openJob := some j }

/-- The window of a session over its bucket buffers, scope 0, whose place is Abano's (R447).
Log 92 (DEDUCED), 89 (DESIGN CHOICE). -/
def State.tuneWindow (s : State) (n : Nat) : State :=
  match s.freeWindow with
  | none => s
  | some (w, s) =>
    let base := (s.tune n).bBase.toNat
    let size := 4 * (s.tune n).bucketBytes / 256
    if windowRegionOk (base * 256) (size * 256) then
      let s := s.setWindow w { Window.closed with
        kind := 2
        scope := 0
        base := base
        size := size
        state := 1 }
      s.onTune n fun x => { x with window := some w }
    else s

/-- The places of W, G, the report block and the bucket buffers in the tuning-state region, which are Abano's (R257): one
after the other, free gaps between. Log 89 (DESIGN CHOICE). -/
def State.tunePlaces (s : State) (n : Nat) : State :=
  let (k, s) := s.drawMany 4
  let x := s.tune n
  let w := ceilDiv (4 * (x.denseElems + x.sparseElems)) 256
  let sizes := [w, w, ceilDiv x.reportBytes 256, 4 * x.bucketBytes / 256]
  let r := Region.tuning.range
  let l := layOut (fun i => Config.freeNat (k + i)) 0 (r.1 / 256) (r.2 / 256 - total sizes) sizes
  let f := fun (i : Nat) => BitVec.ofNat 32 (l.getD i 0)
  s.onTune n fun x => { x with wBase := f 0, gBase := f 1, rBase := f 2, bBase := f 3 }

/-- An opening succeeds: the session is IDLE (R435). -/
def State.openOk (s : State) (n : Nat) : State :=
  let x := s.tune n
  match x.openJob with
  | none => s
  | some j =>
    let y := { x with state := .idle, openJob := none, digests := [] }
    (s.setTune n y.restart).answer j { Answer.of St.ok with count0 := x.rank }

/-- An opening fails: the session is freed. -/
def State.openFail (s : State) (n st : Nat) : State :=
  match (s.tune n).openJob with
  | none => s
  | some j => (s.freeTune n).answer j (Answer.of st)

/-- Rank 0 compares the digests it holds with its own and answers every member (R435). -/
def State.tryOpen (s : State) (n : Nat) : State :=
  let x := s.tune n
  if x.state ≠ .opening ∨ x.rank ≠ 0 then s
  else if x.digests.any fun p => p.2 ≠ x.digest then (s.sendGroup 7 n [0]).openFail n St.tuneGroupMismatch
  else if (List.range x.size).all fun r => x.digests.any fun p => p.1 = r then (s.sendGroup 7 n [1]).openOk n
  else s

/-- The digest of a member at rank 0. -/
def State.takeDigest (s : State) (n rank : Nat) (d : BitVec 256) : State :=
  (s.onTune n fun x => { x with digests := x.digests.filter (fun p => p.1 ≠ rank) ++ [(rank, d)] }).tryOpen n

/-- OPEN by the steps of R435. -/
def State.tuneOpen (s : State) (j : JobId) (d : Desc) (p : List Byte) : State :=
  let n := descSession d
  let me := s.get K.endpointId
  let ms := (List.range (openMembers p)).map fun r => leAt p (64 + 2 * r) 2
  if !openFormatOk p then s.endJob j (Answer.of St.tuneSessionFormat)
  else if (s.tune n).state ≠ .closed then s.endJob j (Answer.of St.tuneSessionActive)
  else if (ms.filter (· = me)).length ≠ 1 then s.endJob j (Answer.of St.tuneGroupMismatch)
  else if s.tuneFree < openReserve p then s.endJob j (Answer.of St.tuneStateFull)
  else
    let x := openSession p me j (s.tune n)
    let s := ((s.setTune n x).tunePlaces n).tuneWindow n
    if x.rank = 0 then s.takeDigest n 0 x.digest
    else s.sendTune 6 n 0 [x.rank] (leBytes 32 x.digest.toNat)

def execTuneOpen (c : Chan) (i : BitVec 16) (s : State) : Host.Outcome State Fault Refusal :=
  let j : JobId := (c.val, i.toNat)
  match s.tuneJob j 0 with
  | none => .next s
  | some (d, h) =>
    if (List.range 4).any fun n => (s.tune n).openJob = some j then .next s else .next (s.tuneOpen j d h.plain)

def execTuneOpenDigest (ses : Fin 4) (rank : Nat) (digest : BitVec 256) (s : State) : Host.Outcome State Fault Refusal :=
  if s.ready then .next (s.takeDigest ses.val rank digest) else .next s

/-- TUNE_OPEN_ANSWER (R435). -/
def execTuneOpenAnswer (ses : Fin 4) (agreed : Bool) (s : State) : Host.Outcome State Fault Refusal :=
  let x := s.tune ses.val
  if x.state ≠ .opening ∨ x.rank = 0 then .next s
  else if agreed then .next (s.openOk ses.val)
  else .next (s.openFail ses.val St.tuneGroupMismatch)

/-- TUNE_OPEN_TIMEOUT (R435). -/
def execTuneOpenTimeout (ses : Fin 4) (elapsedMs : Nat) (s : State) : Host.Outcome State Fault Refusal :=
  if (s.tune ses.val).state = .opening ∧ s.get K.tuneOpenTimeout ≤ elapsedMs then
    .next (s.openFail ses.val St.tuneOpenTimeout)
  else .next s

/-! ### READ and CLOSE (R436, R452) -/

/-- The plaintext that READ returns. -/
def Tune.readOutput (x : Tune) : List Byte :=
  [0x53, 0x4B, 0x54, 0x57] ++ leBytes 4 x.committed ++ zeros 56 ++ x.w.flatMap fun v => leBytes 4 v.toNat

def execTuneRead (c : Chan) (i : BitVec 16) (s : State) : Host.Outcome State Fault Refusal :=
  let j : JobId := (c.val, i.toNat)
  match s.tuneJob j 2 with
  | none => .next s
  | some (d, _) =>
    let x := s.tune (descSession d)
    if !x.isOpen then .next (s.endJob j (Answer.of St.tuneSessionUnknown))
    else .next (s.giveRecord j d 7 x.readOutput 0 0)

/-- CLOSE of an ORPHANED session ends the held job with TUNE_COORD_LOST. -/
def State.tuneClose (s : State) (j : JobId) (n : Nat) : State :=
  let x := s.tune n
  if !x.isOpen then s.endJob j (Answer.of St.tuneSessionUnknown)
  else if x.state = .stepping then s.endJob j (Answer.of St.tuneBusy)
  else
    let s := s.freeTune n
    let s := match x.job with
      | some k => s.endJob k (Answer.of St.tuneCoordLost)
      | none => s
    s.answer j (Answer.of St.ok)

def execTuneClose (c : Chan) (i : BitVec 16) (s : State) : Host.Outcome State Fault Refusal :=
  let j : JobId := (c.val, i.toNat)
  match s.tuneJob j 3 with
  | none => .next s
  | some (d, _) => .next (s.tuneClose j (descSession d))

/-! ### STEP (R448, R449, R453) -/

/-- A STEP of the same session was admitted earlier and has no answer yet. -/
def State.stepAhead (s : State) (n number : Nat) : Bool :=
  s.host.channels.any fun p => p.2.fly.any fun d =>
    d.service && entService d.entry = 7 && arg d.bytes 0 1 = 1 && descSession d = n && d.answer.isNone
      && ((d.hold.map fun h => decide (h.number < number)).getD false)

/-- The step begins: W stands in memory for its sequence, which JOB_ADMIT starts; at rank 0 the group's step begins with
it. -/
def State.beginStep (s : State) (j : JobId) (n : Nat) : State :=
  let s := if (s.tune n).window.isNone then s.tuneWindow n else s
  let x := s.tune n
  let t := s.timeBase
  let s := s.writeLines (x.wBase.toNat * 256) (x.w.flatMap fun v => leBytes 4 v.toNat)
  let first := decide (x.rank = 0) && !x.coord
  s.setTune n { x with
    state := .stepping
    job := some j
    startedAt := t
    zeroShape := false
    coord := x.coord || first
    done := if first then [] else x.done
    retracted := if first then [] else x.retracted
    buckets := if x.buckets.isEmpty then x.freshBuckets else x.buckets }

/-- STEP. A step that would start during an epoch barrier waits for the swap. -/
def State.tuneStep (s : State) (j : JobId) (d : Desc) (h : JobHold) : State :=
  let n := descSession d
  let x := s.tune n
  if !x.isOpen then s.endJob j (Answer.of St.tuneSessionUnknown)
  else if s.stepAhead n h.number || x.state ≠ .idle || x.suppressed || s.fabric.epochPhase ≠ .none then s
  else if arg d.bytes 4 4 ≠ x.committed then s.endJob j { Answer.of St.tuneStepOrder with detail := x.committed }
  else s.beginStep j n

def execTuneStep (c : Chan) (i : BitVec 16) (s : State) : Host.Outcome State Fault Refusal :=
  let j : JobId := (c.val, i.toNat)
  match s.tuneJob j 1 with
  | none => .next s
  | some (d, h) => if (List.range 4).any fun n => (s.tune n).job = some j then .next s else .next (s.tuneStep j d h)

/-- BUCKET_PART_ARRIVE (R440 to R446). -/
def execBucketPartArrive (ses : Fin 4) (p : BucketPart) (s : State) : Host.Outcome State Fault Refusal :=
  let n := ses.val
  let x := s.tune n
  match x.bucket p.sparse p.bucket with
  | none => .next s
  | some k =>
    if !x.isOpen || !s.ready then .next s
    else
      let w := x.arrive k p
      .next (((s.setTune n (x.putBucket w.1)).sendParts n w.2).tryDone n)

/-! ### Outcomes -/

/-- STEP_DONE at rank 0 (R449, R475, R476, R479). -/
def execStepDone (ses : Fin 4) (rank : Nat) (step : Nat) (attempt : Nat) (crcs : List (BitVec 64)) (s : State) :
    Host.Outcome State Fault Refusal :=
  if (s.tune ses.val).rank = 0 ∧ s.ready = true then .next (s.takeDone ses.val rank step attempt crcs) else .next s

/-- TUNE_DEADLINE at rank 0 (R449, R451). -/
def execTuneDeadline (ses : Fin 4) (elapsedUs : Nat) (s : State) : Host.Outcome State Fault Refusal :=
  let x := s.tune ses.val
  match x.missing with
  | some r => if x.coord && decide (x.deadlineUs ≤ elapsedUs) then .next (s.repeatOrFail ses.val r) else .next s
  | none => .next s

/-- COMMIT at a member (R438, R451, R454). -/
def execTuneCommit (ses : Fin 4) (step : Nat) (s : State) : Host.Outcome State Fault Refusal :=
  if (s.tune ses.val).rank = 0 then .next s else .next (s.doCommit ses.val step)

/-- REPEAT at a member (R438, R450). -/
def execTuneRepeat (ses : Fin 4) (step : Nat) (attempt : Nat) (s : State) : Host.Outcome State Fault Refusal :=
  if (s.tune ses.val).rank = 0 then .next s else .next (s.doRepeat ses.val step attempt)

/-- FAIL at a member (R438, R450). -/
def execTuneFail (ses : Fin 4) (step : Nat) (missing : Nat) (s : State) : Host.Outcome State Fault Refusal :=
  if (s.tune ses.val).rank = 0 then .next s else .next (s.doFail ses.val step missing)

/-- TUNE_OUTCOME_QUERY (R452): the session reads ORPHANED while rank 0 cannot be reached. -/
def execTuneOutcomeQuery (ses : Fin 4) (elapsedUs : Nat) (reached : Bool) (s : State) :
    Host.Outcome State Fault Refusal :=
  let n := ses.val
  let x := s.tune n
  if x.rank ≠ 0 ∧ x.sentDone = true ∧ (x.state = .stepping ∨ x.state = .orphaned) ∧ x.deadlineUs ≤ elapsedUs then
    let s := s.sendTune 12 n 0 [x.rank, x.committed] []
    .next (s.onTune n fun y => { y with state := if reached then .stepping else .orphaned })
  else .next s

/-- TUNE_COORD_LOST (R452). -/
def execTuneCoordLost (ses : Fin 4) (elapsedUs : Nat) (s : State) : Host.Outcome State Fault Refusal :=
  let n := ses.val
  let x := s.tune n
  match x.job with
  | none => .next s
  | some j =>
    if x.rank ≠ 0 ∧ x.state = .stepping ∧ x.sentDone = false ∧ 2 * x.deadlineUs ≤ elapsedUs then
      let s := s.setTune n { x.restart with state := .idle, job := none }
      .next (s.endJob j (Answer.of St.tuneCoordLost))
    else .next s

/-- OUTCOME_REQUEST at rank 0 (R452): an outcome it keeps goes to the member that asked. Log 91 (DEDUCED). -/
def execOutcomeRequest (ses : Fin 4) (rank : Nat) (step : Nat) (s : State) : Host.Outcome State Fault Refusal :=
  let n := ses.val
  let x := s.tune n
  if x.rank ≠ 0 then .next s
  else
    match x.outcomes.find? fun o => o.1 = step with
    | some (_, code, missing) =>
      if code = 1 then .next (s.sendTune 9 n rank [step] []) else .next (s.sendTune 11 n rank [step, missing] [])
    | none => .next s

/-- RETRACT at rank 0 (R451, R474): the contribution counts as late. -/
def execRetract (msg : List Byte) (s : State) : Host.Outcome State Fault Refusal :=
  let n := leAt msg 6 1
  let x := s.tune n
  match x.members.findIdx? fun e => e = leAt msg 4 2 with
  | none => .next s
  | some r =>
    if slice msg 0 4 = [0x53, 0x4B, 0x52, 0x54] ∧ n < 4 ∧ x.rank = 0 ∧ x.coord = true ∧ leAt msg 8 4 = x.committed
        ∧ leAt msg 7 1 = x.attempt then
      .next (s.onTune n fun y => { y with retracted := if y.retracted.contains r then y.retracted else y.retracted ++ [r] })
    else .next s

end Sys2Proof.Machine
end

