-- ==== Sys2Proof/Machine/Checking.lean ====
section
/-! DEFINITION. The checking supervisor: comparing steps (R467, R468), majorities (R469 to R471, R474), held completions
(R472) and suspects that clear (R481). -/

namespace Sys2Proof.Machine

/-- Every tuning step whose checks may have closed by now. -/
def State.tryAllDone (s : State) : State := (List.range 4).foldl State.tryDone s

/-! ### SHADOW_COMPARE (R467, R468) -/

/-- Both signatures of a shadowed step are posted. -/
def State.comparable (s : State) (w sh : SigPost) : Bool :=
  s.check.posted.contains w && s.check.posted.contains sh && w.role = 1 && sh.role = 2 && w.tile = w.working
    && sh.working = w.tile && sh.chunk = w.chunk

/-- SHADOW_COMPARE (R467, R468): equal signatures pass the step. -/
def execShadowCompare (st : StrandId) (work shadow : SigPost) (s : State) : Host.Outcome State Fault Refusal :=
  if s.comparable work shadow && s.strandOf work.tile.val = st.val then
    let d := s.disputeOf work.tile.val shadow.tile.val work.chunk.toNat work.sig shadow.sig
    let s := (s.unwatch work.tile.val work.chunk.toNat).bump K.shadowSteps 1
    let s := if work.sig = shadow.sig then s else s.mismatch d
    .next s.tidyGroups.tryAllDone
  else .next s

/-! ### Majorities -/

/-- One day in nanoseconds. -/
def dayNs : Nat := 86400000000000

/-- A tile lost a majority: twice within 24 h fences it at once, else it climbs one rung (R469, R470, R480).
Log 94 (DEDUCED). -/
def State.loseMajority (s : State) (t : Nat) : State :=
  let s := s.addCause t 4
  let v := s.suspect t
  let now := s.timeBase
  let recent := v.losses.filter fun x => decide (now < x + dayNs)
  let s := s.setSuspect t { v with losses := now :: recent, since := now }
  if recent.isEmpty then s.climb t Cause.ladder
  else
    let s := s.setSuspect t { s.suspect t with rung := 4 }
    s.fence t Cause.majority

/-- The working tile's suspicion from a dispute is withdrawn (R469). Log 95 (DEDUCED). -/
def State.withdraw (s : State) (d : Dispute) : State :=
  let t := d.working
  let v := s.suspect t
  let cause := s.get (K.tileSuspectCause t)
  let c := if bit d.prevCause 1 then cause else cause &&& (2 ^ 8 - 1 - 2)
  let s := s.setKept (K.tileSuspectCause t) c
  let s := if v.since = d.began then s.setSuspect t { v with since := d.prevSince } else s
  if s.get (K.tileHealth t) = 6 ∧ d.prevHealth = 0 ∧ c = 0 then s.setKept (K.tileHealth t) 0 else s

/-- Returns to the rung that a tile held before it lost; a fence stands (R471, R483). Log 96 (DEDUCED). -/
def State.restoreRung (s : State) (p : PlanLoss) : State :=
  if s.slotFrost p.tile then s
  else
    ((s.setSuspect p.tile { s.suspect p.tile with rung := p.rung }).setKept (K.tileHealth p.tile) p.health).setKept (K.tilePace p.tile)
      p.pace

/-- The working tile of a dispute lost: with three tiles on one stage of a plan within 1 h, the plan is the cause and is
shadowed no further (R471). -/
def State.countPlanLoss (s : State) (d : Dispute) (p : PlanLoss) : State :=
  let now := s.timeBase
  let l := p :: s.check.planLosses.filter fun x => decide (now < x.time + hourNs)
  let same := l.filter fun x => x.plan = d.plan && x.stage = d.stage
  let tiles := same.foldl (fun (a : List Nat) (x : PlanLoss) => if a.contains x.tile then a else a ++ [x.tile]) []
  let s := { s with check := { s.check with planLosses := l } }
  if 3 ≤ tiles.length then
    let s := s.raise 0x48 (leBytes 2 d.plan ++ leBytes 1 d.stage)
    let s := same.foldl State.restoreRung s
    { s with
      plans := s.plans.map fun (q : Plan) => if q.num = d.plan then { q with unchecked := true } else q
      check := { s.check with planLosses := s.check.planLosses.filter fun x => !(x.plan = d.plan && x.stage = d.stage) } }
  else s

/-! ### RETRACT (R474) -/

/-- The payload of a RETRACT. -/
def retractBytes (endpoint session attempt step epoch : Nat) : List Byte :=
  [0x53, 0x4B, 0x52, 0x54] ++ leBytes 2 endpoint ++ leBytes 1 session ++ leBytes 1 attempt ++ leBytes 4 step ++ leBytes 4 epoch

/-- A wrong result had left as a contribution: rank 0 of its session is told. Log 95 (DEDUCED). -/
def State.retractStep (s : State) (d : Dispute) : State :=
  match d.job.bind s.tuneOf with
  | none => s
  | some (n, x) =>
    let s := s.bump K.retractsSent 1
    let s := s.emit (.retract (retractBytes (s.get K.endpointId) n x.attempt x.committed (s.strand d.strand).checkEpoch))
    if x.rank ≠ 0 ∨ x.coord = false then s
    else s.onTune n fun y => { y with retracted := if y.retracted.contains 0 then y.retracted else y.retracted ++ [0] }

/-! ### What the working strand does -/

/-- A held answer is taken back: the job's outputs are formed again. Log 95 (DEDUCED). -/
def State.reopen (s : State) (j : JobId) : State :=
  s.onDesc j fun d => { d with
    answer := none
    held := false
    hold := d.hold.map fun (h : JobHold) => { h with
      toSeal := []
      envelopes := []
      result := none
      query := none } }

/-- The working strand resumes from its last complete checkpoint. Where it has gone on to another sequence, the step's
sequence is admitted again from chunk 0 of its section (R469, R472, R487). -/
def State.resumeDispute (s : State) (d : Dispute) : State :=
  let v := s.strand d.strand
  match d.job with
  | none => s
  | some j =>
    if v.job = some j then
      if v.phase = .replacing then s else s.resumeStrand d.strand
    else if ((s.desc j).bind (·.hold)).isSome && !((s.desc j).map fun x => x.answer.isSome && !x.held).getD true then
      (s.reopen j).readmit ⟨j, d.plan, d.shape, d.sec, d.place⟩
    else s

/-- The third tile is free again. -/
def State.freeThird (s : State) (t : Nat) : State :=
  (s.resetTiles [t]).onTile t fun x => { x with chk := { x.chk with ctl := x.chk.ctl &&& 0xFFFFFFFC } }

/-- A dispute is settled by the third tile's signature; none stands for a third tile that faulted (R469).
Log 94 (DEDUCED). -/
def State.settleDispute (s : State) (d : Dispute) (t : Nat) (third : Option (BitVec 64)) : State :=
  let s := { s with check := { s.check with
    disputes := s.check.disputes.erase d
    posted := s.check.posted.filter fun p => !(p.role = 3 && p.tile.val = t) } }
  let s := s.freeThird t
  let p : PlanLoss := ⟨d.plan, d.stage, d.working, s.timeBase, (s.suspect d.working).rung, s.get (K.tileHealth d.working),
    s.get (K.tilePace d.working)⟩
  if third = some d.sigW then (s.loseMajority d.shadow).withdraw d
  else if third = some d.sigS then
    (((s.retractStep d).loseMajority d.working).countPlanLoss d p).resumeDispute d
  else
    let s := (s.bump K.noMajorityCount 1).raise 0x42 (tileArg d.working ++ tileArg d.shadow ++ tileArg t)
    let s := ((s.climb d.working Cause.ladder).climb d.shadow Cause.ladder).climb t Cause.ladder
    s.resumeDispute d

/-- A dispute without a third tile takes one that has come free (R468). -/
def State.retryThird (s : State) (d : Dispute) : State :=
  let (s, e) := s.seekThird d
  { s with check := { s.check with disputes := s.check.disputes.map fun x => if x = d then e else x } }

/-- The posted signature of a third tile's step. -/
def State.thirdPost (s : State) (d : Dispute) (t : Nat) (sig : BitVec 64) : Bool :=
  s.check.posted.any fun p => p.tile.val = t && p.role = 3 && p.working.val = d.working && p.sig = sig

/-- MAJORITY_SETTLE (R468 to R471, R474, R501). -/
def execMajoritySettle (i : Nat) (third : BitVec 64) (s : State) : Host.Outcome State Fault Refusal :=
  match s.check.disputes[i]? with
  | none => .next s
  | some d =>
    match d.third with
    | none => .next (s.retryThird d)
    | some t =>
      if (s.tile t).core.run = .faulted then .next ((s.settleDispute d t none).tidyGroups.tryAllDone)
      else if s.thirdPost d t third then .next ((s.settleDispute d t (some third)).tidyGroups.tryAllDone)
      else .next s

/-! ### CHECK_CLOSE (R348, R449, R472) -/

/-- The check of a job has closed: its completion is held no longer. Log 63 (DEDUCED). -/
def State.closeCheck (s : State) (j : JobId) : State :=
  match s.desc j with
  | none => s
  | some d =>
    if d.held && s.checksClosed j && !s.jobRuns j then
      (s.peak K.holdMaxUs ((s.timeBase - d.since) / 1000)).onDesc j fun e => { e with held := false }
    else s

/-- CHECK_CLOSE: a completion may commit, and a STEP that waited for its checks sends STEP_DONE. Log 63 (DEDUCED). -/
def execCheckClose (c : Chan) (i : BitVec 16) (s : State) : Host.Outcome State Fault Refusal :=
  let j : JobId := (c.val, i.toNat)
  .next ((s.closeCheck j).tryDoneJob j)

/-! ### Suspects that clear (R481) -/

/-- SUSPECT_CLEAR: a suspect that met no criterion for suspect_clear_hours is normal again. Log 96 (DEDUCED). -/
def execSuspectClear (t : Slot) (elapsedH : Nat) (s : State) : Host.Outcome State Fault Refusal :=
  let h := s.get (K.tileHealth t.val)
  if h ≠ 0 ∧ h ≠ 4 ∧ h ≠ 5 ∧ s.get K.suspectClearHours ≤ elapsedH then
    .next ((s.setSuspect t.val { s.suspect t.val with rung := 0 }).setKept (K.tileHealth t.val) 0)
  else .next s

/-- SUSPECT_PACE_LOWER: a pace that Abano raised falls one step, down to the operator's. -/
def execSuspectPaceLower (t : Slot) (elapsedH : Nat) (s : State) : Host.Outcome State Fault Refusal :=
  let p := s.get (K.tilePace t.val)
  if s.get (K.tileHealth t.val) = 0 ∧ (s.tile t.val).ownPace < p ∧ s.get K.suspectClearHours ≤ elapsedH then
    .next (s.setKept (K.tilePace t.val) (p - 1))
  else .next s

end Sys2Proof.Machine
end

