-- ==== Sys2Proof/Machine/Skim.lean ====
section
/-! DEFINITION. Skim slices (R490, R495 to R508): starting a slice, its compare, its end, and what a failed target leads
to. -/

namespace Sys2Proof.Machine

/-! ### Save slots and redirection (R496, R498) -/

/-- Address of a line of a save slot, in the near tier (R498). -/
def saveAddress (slot line : Nat) : Nat := 0x03FF000000 + slot * 0x20000 + line * 64

/-- An access of the tile to a line of the target goes to the save slot, by the phase and the pointer of the save or the
restore (R496); else it goes to the target. -/
def toSaveSlot (p : SkimPhase) (pointer line : Nat) : Bool :=
  match p with
  | .idle => false
  | .saving => decide (line < pointer)
  | .marching | .retaining => true
  | .restoring => decide (pointer ≤ line)

/-! ### The schedule (R498 to R501) -/

/-- The tile issues nothing, and no segment streams to it (R499): its strand is idle or retired, it is a spare, or its
stage has halted. -/
def State.quiet (s : State) (t : Nat) : Bool :=
  let st := s.strandOf t
  let v := s.strand st
  let stage := s.stageAt t
  (s.tile t).core.run = .stopped && (stage.isNone || (v.streaming ≠ stage &&
    (v.phase = .idle || v.phase = .retired || ((stage.map v.halted.contains).getD false))))

/-- A slice may borrow target `k` of the tile now. -/
def State.maySkim (s : State) (t k : Nat) : Bool :=
  s.skimTarget t k && (s.tile t).skim.phase = .idle && (decide (k ≠ 25) || s.quiet t)

/-- Targets of the die in the order of a rotation (R500). -/
def allTargets : List (Nat × Nat) := allSlots.flatMap fun t => (List.range 26).map fun k => (t, k)

/-- The next target of the schedule: the head of those a suspect put there, else the first of the rotation that is not
tested yet and can start (R500, R501). -/
def State.nextTarget (s : State) : Option (Nat × Nat) :=
  (s.check.skimPriority.find? fun p => s.maySkim p.1 p.2) <|>
    allTargets.find? fun p => !s.selftest.tested.contains p && s.maySkim p.1 p.2

/-- Every target of the rotation has been tested or passed over under R499. Log 98 (DEDUCED). -/
def State.rotationOver (s : State) : Bool :=
  allTargets.all fun p =>
    s.selftest.tested.contains p || !s.skimTarget p.1 p.2 || (p.2 = 25 && !s.quiet p.1)

/-- The next rotation begins once this one is over (R500). -/
def State.turnRotation (s : State) : State :=
  if s.rotationOver then
    let s := s.set K.skimLastRotationS ((s.timeBase - s.selftest.began) / 1000000000)
    { s with selftest := { s.selftest with tested := [], began := s.timeBase } }
  else s

/-- Slices may start at all: a rotation is set, no supply dip, room under skim_max_parallel (R500, R507).
Log 98 (DEDUCED). -/
def State.skimOpen (s : State) : Bool :=
  s.ready && !s.dipping && s.get K.skimRotationS ≠ 0 && decide (s.selftest.saveSlots.length < s.get K.skimMaxParallel)

/-- SKSTAT while a slice is in a phase. Log 97 (DEDUCED). -/
def skStat (k phase : Nat) : Word := BitVec.ofNat 32 (1 + fld k 1 5 + fld phase 6 3)

/-- SKIM_SLICE_START (R498 to R501): the next target is borrowed and its contents go to a save slot of Abano's choice.
Log 99 (DESIGN CHOICE). -/
def execSkimSliceStart (t : Slot) (target : Fin 26) (s : State) : Host.Outcome State Fault Refusal :=
  if s.skimOpen then
    let s := s.turnRotation
    let k := target.val
    let free := (List.range 8).filter fun i => !(s.selftest.saveSlots.any fun p => p.1 = i)
    if s.nextTarget = some (t.val, k) then
      match s.pick 3 free with
      | none => .next s
      | some (slot, s) =>
        let s := s.onTile t.val fun x => { x with skim := { x.skim with
          stat := skStat k 1
          phase := .saving
          target := k
          repeated := false } }
        let c := s.check
        let f := s.selftest
        .next { s with
          check := { c with skimPriority := c.skimPriority.erase (t.val, k) }
          selftest := { f with saveSlots := f.saveSlots ++ [(slot, t.val)] } }
    else .next s
  else .next s

/-- A run of the march and retention phases begins (R495, R503). Log 97 (DEDUCED). -/
def State.beginRun (s : State) (t stat : Nat) (again : Bool) : State :=
  s.onTile t fun x => { x with skim := { x.skim with
    stat := skStat x.skim.target stat
    phase := .marching
    repeated := again
    crc := marchBegin
    caught := false } }

/-- SKIM_SAVE_DONE (R495): the contents are saved and the march begins. Log 97 (DEDUCED). -/
def execSkimSaveDone (t : Slot) (s : State) : Host.Outcome State Fault Refusal :=
  if (s.tile t.val).skim.phase = .saving then .next (s.beginRun t.val 2 false)
  else .next s

/-! ### The end of a slice -/

/-- The slice leaves its tile and its save slot. -/
def State.endSlice (s : State) (t : Nat) : State :=
  let s := s.onTile t Tile.endSlice
  { s with selftest := { s.selftest with saveSlots := s.selftest.saveSlots.filter fun p => p.2 ≠ t } }

/-- The target has been tested in this rotation. -/
def State.wasTested (s : State) (t k : Nat) : State :=
  let f := s.selftest
  let s := { s with selftest := { f with tested := if f.tested.contains (t, k) then f.tested else f.tested ++ [(t, k)] } }
  s.turnRotation

/-- The target passed. Log 98 (DEDUCED). -/
def State.skimPassed (s : State) (t k : Nat) : State :=
  let f := s.selftest
  let s := { s with selftest := { f with lastPass := put (fun _ => 0) f.lastPass (26 * t + k) s.timeBase } }
  (s.bump K.skimSlicesDone 1).wasTested t k

/-! ### A failed bank (R504) -/

/-- The address that a line of a bank serves under a bank map; none where the bank idles (R107, R115). -/
def bankAddress (ok : BitVec 24) (b row : Nat) : Option Nat :=
  let g := b / 8
  let a := if halfUsable ok g 0 && halfUsable ok g 4 then g * 0x100000 + row * 512 + b % 8 * 64
    else g * 0x100000 + row * 256 + b % 4 * 64
  if padMapped ok a && bankOf ok a = b then some a else none

/-- The row of its bank that an address lies in (R107, R115). -/
def bankRow (ok : BitVec 24) (a : Nat) : Nat :=
  let g := a / 2 ^ 20
  if halfUsable ok g 0 && halfUsable ok g 4 then bits a 9 11 else bits a 8 11

/-- A bank is out of use and its group is mapped anew: each line of the group's other banks is found at its new address,
where it has one. Log 100 (DEDUCED). -/
def Tile.loseBank (x : Tile) (b : Nat) : Tile :=
  let old := x.pad.bankOk
  let new := old &&& ~~~(BitVec.ofNat 24 (2 ^ b))
  let g := b / 8
  let keep := x.pad.bytes.filter fun p => p.1 / 0x100000 ≠ g
  let moved := (x.pad.bytes.filter fun p => p.1 / 0x100000 = g).filterMap fun p =>
    if bankOf old p.1 = b then none
    else (bankAddress new (bankOf old p.1) (bankRow old p.1)).map fun a => (a + p.1 % 64, p.2)
  { x with pad := { x.pad with
      bankOk := new
      bytes := moved.foldl (fun l p => put (fun _ => 0) l p.1 p.2) keep } }

/-- A handle of the stage's plan reaches a hole (R117, R504). Log 100 (DEDUCED). -/
def State.handlesLost (s : State) (st k t : Nat) : Bool :=
  match s.stageRec st k with
  | none => false
  | some r =>
    let rs := recsOf (segment (s.planFile ((s.strand st).planOf k).1) r)
    (rs.filter fun x => x.typ = 3).any fun x => (recHandles x).any fun h =>
      h.2.kind = 1 && !rangeMapped (s.tile t).pad.bankOk h.2.base h.2.size

/-- Resident sets whose footprint on the tile reaches a hole are dropped (R486, R504). Log 32 (DEDUCED). -/
def State.dropSets (s : State) (st k t : Nat) : State :=
  let ok := (s.tile t).pad.bankOk
  let keep := fun (n : Nat) => match stageOf (s.planFile n) 0 k with
    | some r => if rangeMapped ok r.footLow (r.footHigh - r.footLow) then n else 0
    | none => n
  s.onStrand st fun v => { v with
    resA := if v.resA = 0 then 0 else keep v.resA
    resB := if v.resB = 0 then 0 else keep v.resB }

/-- The strand is reset, the stage takes its full segment from the library, and the sequence resumes from its last
complete checkpoint (R172, R504, R507). A strand under re-placement goes on with that. -/
def State.restartWhole (s : State) (st k t : Nat) : State :=
  let s := s.resetStrand st
  let v := s.strand st
  if v.phase = .replacing then s.loadStage st k t
  else if k < s.startedCount st ∧ s.stageFits st k = false then s.moveAway st
  else
    match v.job with
    | none =>
      let s := if k < s.startedCount st then s.loadStage st k t else s
      (s.writeMap st).restartStages st
    | some j =>
      if 3 ≤ v.resumes then s.endJob j { Answer.of St.tileFault with detail := checkUnsettled }
      else
        let s := s.resumeMarks st
        let s := if k < s.startedCount st then s.loadStage st k t else s
        (s.writeMap st).restartStages st

/-- The reduced tile is to take the spare slot: with no usable spare the strand fares as R144 and R150 state.
Log 101 (DEDUCED). -/
def State.moveReduced (s : State) (st t : Nat) : State :=
  let s := s.resetStrand st
  let h := halfRow t
  if s.spareUsable h = false ∧ s.tooShort st 1 = true then s.retire st
  else
    let s := { s with check := { s.check with fencing := s.check.fencing ++ [t] } }
    s.onStrand st fun v => { v with
      phase := .replacing
      was := if v.phase = .replacing then v.was else v.phase }

/-- A stage of a sequence, or of a shadow strand, runs on the strand. -/
def Strand.atWork (v : Strand) : Bool := v.job.isSome || v.role = 2

/-- A failed bank (R504). A raw program that runs on the tile ends with the tile's reset (R117). Log 100 (DEDUCED). -/
def State.bankFailed (s : State) (t b : Nat) : State :=
  let s := (s.setRepair t (s.repairWord t &&& ~~~(BitVec.ofNat 32 (2 ^ b)))).dirty Blk.repairMap
  let s := s.onTile t fun x => x.loseBank b
  let st := s.strandOf t
  match s.stageAt t with
  | none => s
  | some k =>
    let lost := s.handlesLost st k t
    let s := s.dropSets st k t
    if (s.strand st).atWork then
      if lost then s.moveReduced st t else s.restartWhole st k t
    else if (s.rawOwner t).isSome then s.resetTiles [t]
    else s

/-- A target failed twice (R504 to R506). -/
def State.skimFailed (s : State) (t k : Nat) : State :=
  let f := (s.tile t).skim.fail
  let s := ((s.endSlice t).bump K.skimFailures 1).bump (K.tileSkimFails t) 1
  let s := s.raise 0x51 (tileArg t ++ leBytes 1 k ++ leBytes 2 (wbits f 0 11) ++ leBytes 1 (wbits f 16 3))
  let s := if k < 24 then s.bankFailed t k else s.fence t Cause.selfTest
  s.wasTested t k

/-- SKFAIL with the first line read in error and its element (R502, R508). Log 97 (DEDUCED). -/
def skFail (k line element : Nat) : Word :=
  BitVec.ofNat 32 (fld line 0 11 + fld k 11 5 + fld element 16 3 + 2 ^ 31)

/-- The reads of a part of the slice's run go into its signature, and the first in error into SKFAIL (R502).
Log 97 (DEDUCED). -/
def Tile.marchPart (x : Tile) (errs : List (Nat × List Byte)) (ops : List MarchOp) : Tile :=
  let f := firstBad errs ops
  { x with skim := { x.skim with
      crc := marchFold errs ops x.skim.crc
      caught := x.skim.caught || f.isSome
      fail := match f with
        | some p => if x.skim.caught then x.skim.fail else skFail x.skim.target p.1 p.2
        | none => x.skim.fail } }

/-- The compare phase (R502, R503). -/
def State.skimCompare (s : State) (t : Nat) : State :=
  let x := s.tile t
  let k := x.skim.target
  let sig := marchSign x.skim.crc
  let s := s.onTile t fun y => { y with skim := { y.skim with sig := sig } }
  if sig = skimReference (targetLines k) then
    let s := s.onTile t fun y => { y with skim := { y.skim with stat := skStat k 5, phase := .restoring } }
    if x.skim.repeated then (s.bump K.skimTransients 1).raise 0x50 [] else s
  else if x.skim.repeated then s.skimFailed t k
  else s.beginRun t 6 true

/-- SKIM_RETENTION_PAUSE (R491, R495, R502, R503): a retention pause has lasted `elapsedUs`, and the pattern is read; after
the second pause the signature is compared. `errs` are the reads in error since the last pause.
Log 13 (DESIGN CHOICE), 97 (DEDUCED). -/
def execSkimRetentionPause (t : Slot) (elapsedUs : Nat) (errs : List (Nat × List Byte)) (s : State) :
    Host.Outcome State Fault Refusal :=
  let x := s.tile t.val
  let n := targetLines x.skim.target
  if elapsedUs < s.get K.skimRetentionUs then .next s
  else if x.skim.phase = .marching then
    let stat := if x.skim.repeated then x.skim.stat else skStat x.skim.target 3
    .next (s.onTile t.val fun y =>
      let y := y.marchPart errs (skimFirst n)
      { y with skim := { y.skim with stat := stat, phase := .retaining } })
  else if x.skim.phase = .retaining then
    .next ((s.onTile t.val fun y => y.marchPart errs (skimSecond n)).skimCompare t.val)
  else .next s

/-! ### Restore -/

/-- The 64 bytes of a line of queue memory. Log 102 (DEDUCED). -/
def Tile.writeQueueLine (x : Tile) (line : Nat) (bs : List Byte) : Tile :=
  { x with qmem := (List.range 64).foldl (fun l i => put (fun _ => 0) l (64 * line + i) (bs.getD i 0)) x.qmem }

/-- One line of a target is lost: what it holds then is free (R507). Log 99 (DESIGN CHOICE). -/
def State.loseLine (s : State) (t k line : Nat) : State :=
  let (bs, s) := s.freeBytes 64
  if k < 24 then
    match bankAddress (s.tile t).pad.bankOk k line with
    | some a => s.onTile t fun x => x.write a bs
    | none => s
  else if k = 25 then
    s.onTile t fun x => { x with core := { x.core with
      istore := (List.range 16).foldl (fun l i =>
        put (fun _ => 0) l (16 * line + i) (BitVec.ofNat 32 (leAt bs (4 * i) 4))) x.core.istore } }
  else s.onTile t fun x => x.writeQueueLine line bs

/-- A line of the save slot cannot be read: the slice is abandoned, and the tile's strand starts again (R266, R507). -/
def State.restoreFailed (s : State) (t slot : Nat) : State :=
  let k := (s.tile t).skim.target
  let (n, s) := s.draw
  let line := Config.freeNat n % targetLines k
  let s := s.uncorrectable (lineOf (saveAddress slot line))
  let s := (s.abandonSlice t).loseLine t k line
  let st := s.strandOf t
  match s.stageAt t with
  | none => s.resetTiles [t]
  | some i => if (s.strand st).atWork then s.restartWhole st i t else s.resetStrand st

/-- SKIM_RESTORE_DONE (R495, R507): the target is the tile's again. -/
def execSkimRestoreDone (t : Slot) (uncorrectable : Bool) (s : State) : Host.Outcome State Fault Refusal :=
  let x := s.tile t.val
  if x.skim.phase = .restoring then
    if uncorrectable then
      match s.selftest.saveSlots.find? fun p => p.2 = t.val with
      | some p => .next (s.restoreFailed t.val p.1)
      | none => .next s
    else .next ((s.endSlice t.val).skimPassed t.val x.skim.target)
  else .next s

/-- REDIRECTED_ACCESS (R496, R497): an access to a line of a borrowed bank or of borrowed queue memory, at the target or at
the save slot (`toSaveSlot`). It returns and writes what it would without the slice, and marks no line filled.
Log 102 (DEDUCED). -/
def execRedirectedAccess (t : Slot) (line : Fin 2048) (write : Bool) (data : List Byte) (s : State) :
    Host.Outcome State Fault Refusal :=
  let x := s.tile t.val
  if x.skim.phase = .idle ∨ write = false then .next s
  else if x.skim.target < 24 then
    match bankAddress x.pad.bankOk x.skim.target line.val with
    | some a => .next (s.onTile t.val fun y => y.write a (data.take 64))
    | none => .next s
  else if x.skim.target = 24 ∧ line.val < 1536 then
    .next (s.onTile t.val fun y => y.writeQueueLine line.val data)
  else .next s

end Sys2Proof.Machine
end

