-- ==== Sys2Proof/Machine/Entries.lean ====
section
/-! DEFINITION. What the entries of the dictionary read (R531, R532, R556): entries that show another part of the state
are computed when they are read; every other entry reads what was written to it last. -/

namespace Sys2Proof.Machine

/-! ### Scalar entries -/

/-- Bytes as whole mebibytes. -/
def inMib (n : Nat) : Nat := n / 2 ^ 20

/-- A signed entry of 16 bits as the number it holds. -/
def int16 (v : Nat) : Int := if v % 65536 < 32768 then (v % 65536 : Nat) else ((v % 65536 : Nat) : Int) - 65536

/-- strand_state (R176). -/
def StrandPhase.code : StrandPhase → Nat
  | .idle => 0
  | .priming => 1
  | .running => 2
  | .replacing => 3
  | .retired => 4
  | .joined => 5
  | .unlicensed => 6

/-- available_strands (R144, R176): licensed strands not retired. -/
def State.availableStrands (s : State) : Nat :=
  ((List.range 48).filter fun st => st < s.licStrands && (s.strand st).phase ≠ .retired).length

/-- busy_strands: strands running a sequence; a fused strand counts as two. -/
def State.busyStrands (s : State) : Nat :=
  total ((List.range 48).map fun st =>
    let v := s.strand st
    if v.job.isSome || v.role = 2 then (if v.fused.isSome then 2 else 1) else 0)

/-- strand_slots (R176). -/
def State.strandSlots (s : State) (st : Nat) : Nat :=
  total ((List.range 13).map fun i => if (s.halfSlots st).contains (hslot st i) then 2 ^ i else 0)

/-- An entry of a strand: 0x3120+strand. -/
def State.strandEntry (s : State) (st sub : Nat) : Nat :=
  let v := s.strand st
  if sub = 1 then v.phase.code
  else if sub = 2 then v.fused.getD 0xFF
  else if sub = 3 then s.strandSlots st
  else if sub = 4 then v.chunks
  else v.epoch

/-- tile_bank_conflicts: the sum of the conflict counters, saturating (R139). -/
def State.bankConflicts (s : State) (t : Nat) : Nat :=
  min (2 ^ 32 - 1) (total ((s.tile t).pad.conflicts.map fun p => p.2.toNat))

/-- tile_health (R489, R504): a usable spare reads SPARE. Log 101 (DEDUCED). -/
def State.healthOf (s : State) (t : Nat) : Nat :=
  if s.spareSlot (halfRow t) = t && s.spareUsable (halfRow t) then 5 else s.get (K.tileHealth t)

/-- Half-rows with a usable spare. -/
def State.sparesFree (s : State) : Nat := ((List.range 48).filter s.spareUsable).length

/-- tile_skim_age: seconds since the least recently tested target in service passed (R509). -/
def State.skimAge (s : State) (t : Nat) : Nat :=
  let l := ((List.range 26).filter (s.skimTarget t)).map (s.lastPass t)
  (s.timeBase - l.foldl min s.timeBase) / 1000000000

/-- beat_rate_now (R23, R24, R56); where no rate is specified, any below the 0.68 V figure (R593). Log 60 (DEDUCED). -/
def State.beatRateNow (s : State) : Nat :=
  let mv := s.get K.vcoreActual
  let tj := int16 (s.get K.hottestTj)
  (specRate mv tj).getD (Config.beatRate mv tj % lowRate tj)

/-- pacing_state: a supply under the warning level shows before a forced one (R29, R31). Log 52 (DEDUCED). -/
def State.pacingNow (s : State) : Nat := if s.dipping then 1 else if s.get K.forceSafePacing = 1 then 2 else 0

/-- The pace a tile runs at: its own, raised by the governor's minimum and by the fast throttle (R35, R42, R45). -/
def State.paceInForce (s : State) (t : Nat) : Nat :=
  max (s.get (K.tilePace t)) (max s.power.minPace (if s.power.fast then 4 else 0))

/-- A tile's own beat rate in M beats/s (R28, R32, R35, R36): the specified rate at its local supply, times 0.70 in safe
pacing, over 1 + p / 16; none where no rate is specified. -/
def State.tileRate (s : State) (t : Nat) : Option Nat :=
  (specRate (s.get K.vcoreActual + 25 * s.get (K.tileTrim t)) (int16 (s.get K.hottestTj))).map fun r =>
    let safe := (s.tile t).safe || s.pacingNow ≠ 0
    r * (if safe then 70 else 100) * 16 / (100 * (16 + s.paceInForce t))

/-- boot_flash_state: a conflict, then writes held, then a rewrite that waits (R530). Log 103 (DEDUCED). -/
def State.flashState (s : State) : Nat :=
  if s.get K.bootFlashState = 2 then 2 else if s.dipping then 3 else if s.flash.waiting.isEmpty then 0 else 1

/-- The smallest RSEQ in a ring of records; RSEQ of the next record where it holds none. Log 104 (DEDUCED). -/
def State.oldestRseq (s : State) (l : List (Nat × List Byte)) : Nat :=
  (l.map fun p => leAt p.2 8 4).foldl min s.recorder.next

def Quiesce.code : Quiesce → Nat
  | .none => 0
  | .requested => 1
  | .forcing => 2
  | .quiesced => 3

def TuneState.code : TuneState → Nat
  | .closed => 0
  | .opening => 1
  | .idle => 2
  | .stepping => 3
  | .orphaned => 4

/-- An entry of a tuning session: 0x6300+session. -/
def State.tuneEntry (s : State) (n sub : Nat) : Nat :=
  let x := ((s.tunes.find? fun p => p.1 = n).map (·.2)).getD Tune.closed
  if sub = 1 then x.state.code else if sub = 2 then x.rank else if sub = 3 then x.committed else x.repeats

/-- Entries of a shard: vectors and near-duplicates. -/
def State.shardCount (s : State) (n : Nat) (dups : Bool) : Nat :=
  match s.shards.find? fun x => x.num = n with
  | none => 0
  | some x => if x.dropped then 0 else if dups then x.dups.length else x.entries.length

/-- What a scalar entry without subindex 0 reads. Log 105 (DESIGN CHOICE). -/
def State.scalar (s : State) (index sub : Nat) : Nat :=
  let k := index * 256 + sub
  let tileSlot := fun (base : Nat) => (slotOf (index - base) sub).getD 0
  let row := fun (base : Nat) => base ≤ index && index < base + 24
  if k = K.beatRateNow then s.beatRateNow
  else if k = K.pacingState then s.pacingNow
  else if k = K.busyStrandCap then s.busyCap
  else if row 0x3240 then s.margin (tileSlot 0x3240)
  else if row 0x3260 then bits (s.repairWord (tileSlot 0x3260)).toNat 0 24
  else if row 0x3280 then s.bankConflicts (tileSlot 0x3280)
  else if k = K.availableStrands then s.availableStrands
  else if k = K.busyStrands then s.busyStrands
  else if 0x3120 ≤ index ∧ index < 0x3150 then s.strandEntry (index - 0x3120) sub
  else if k = K.plansLoaded then s.plans.length
  else if k = K.libraryFreeNear then inMib (nearLibrary - s.libraryUsed false)
  else if k = K.libraryFreeFar then inMib (farLibrary - s.libraryUsed true)
  else if 0x3420 ≤ index ∧ index < 0x3450 then
    (s.strand (index - 0x3420)).shownSet (sub = 1)
  else if k = K.spillInUse then s.spillBytes / 1024
  else if k = K.spillPeak then s.net.spillPeak / 1024
  else if k = K.windowsOpen then (s.fabric.windows.filter fun p => p.2.state ≠ 0).length
  else if k = K.pciLink then Config.pciLink % 65536
  else if k = K.channelsInError then (s.host.channels.filter fun p => p.2.state = 2).length
  else if k = K.shardFree then inMib s.shardRoom
  else if index = 0x6200 then s.shardCount sub false
  else if index = 0x6201 then s.shardCount sub true
  else if 0x6300 ≤ index ∧ index < 0x6304 then s.tuneEntry (index - 0x6300) sub
  else if k = K.tuneStateFree then s.tuneFree
  else if k = K.shadowStrands then ((List.range 48).filter fun st => (s.strand st).role = 2).length
  else if k = K.suspectTiles then (s.check.suspects.filter fun p => 1 ≤ p.2.rung && p.2.rung ≤ 3).length
  else if k = K.sparesFree then s.sparesFree
  else if row 0x7100 then s.healthOf (tileSlot 0x7100)
  else if 0x7160 ≤ index ∧ index < 0x7190 then
    if sub = 1 then (s.strand (index - 0x7160)).role else (s.strand (index - 0x7160)).group.getD 0xFF
  else if row 0x7220 then s.skimAge (tileSlot 0x7220)
  else if k = K.keysInstalled then (s.vault.keys.filter fun x => !x.removed).length
  else if k = K.keysCached then (s.vault.keys.filter (·.cached)).length
  else if k = K.sealCounter then s.vault.sealCtr
  else if k = K.bootFlashState then s.flashState
  else if k = K.sessionsOpen then s.mgmt.sessions.length
  else if k = K.mportIpv4 then (if s.get K.mportIpMode = 0 then Config.dhcpAddress.toNat else s.get k)
  else if k = K.calendarNow then s.calendar
  else if k = K.recorderNextRseq then s.recorder.next
  else if k = K.flashOldestRseq then s.oldestRseq (s.recorder.flashA ++ s.recorder.flashB)
  else if k = K.farOldestRseq then s.oldestRseq s.recorder.far
  else if k = K.recorderClearState then b2n (s.recorder.clearing = 1 ∨ s.recorder.clearing = 2)
  else if k = K.quiesceState then s.front.quiesce.code
  else s.get k

/-! ### Rings of records (R567) -/

/-- A record that a slot of a ring may show: its CRC matches and its RSEQ belongs there. -/
def recordFor (n : Nat) (r : List Byte) : Bool :=
  r.length = 64 && leAt r 60 4 = (crc32c (r.take 60)).toNat && leAt r 8 4 % 2 ^ 26 = n

/-- The 64 bytes at place `n` of the far ring. -/
def Recorder.farAt (r : Recorder) (n : Nat) : List Byte := padTo 64 (look (fun _ => []) r.far n)

/-- The 64 bytes at place `n` of the flash rings: device A's record, else device B's, else zeros. -/
def Recorder.flashAt (r : Recorder) (n : Nat) : List Byte :=
  let a := look (fun _ => []) r.flashA (n % 2 ^ 18)
  let b := look (fun _ => []) r.flashB (n % 2 ^ 18)
  if recordFor n a then a else if recordFor n b then b else zeros 64

/-- `n` bytes of a ring from an offset. -/
def ringBytes (at' : Nat → List Byte) (off n : Nat) : List Byte :=
  ((List.range (n / 64 + 2)).flatMap fun i => at' (off / 64 + i)) |>.drop (off % 64) |>.take n

/-! ### Entries of bytes -/

/-- The octets of an entry of type OCTET or of a DOMAIN other than the rings. -/
def State.octetValue (s : State) (k : Nat) : List Byte :=
  if k = K.idsPublic then Config.idsPublic
  else if k = K.idaPublic then Config.idaPublic
  else if k = K.moduleCertificate then moduleCert
  else if k = K.caCertificate then Config.caCert
  else if k = K.quote then s.vault.quote
  else s.octet k

/-- The length of a DOMAIN entry's value. -/
def State.domainLength (s : State) (k : Nat) : Nat :=
  if k = K.recorderFarRing ∨ k = K.recorderFlashRing then 2 ^ 32 else (s.octetValue k).length

/-- `n` bytes of a DOMAIN entry from an offset, as far as the value goes. Log 103 (DEDUCED). -/
def State.domainBytes (s : State) (k off n : Nat) : List Byte :=
  let n := min n (s.domainLength k - off)
  if k = K.recorderFarRing then ringBytes s.recorder.farAt off n
  else if k = K.recorderFlashRing then ringBytes s.recorder.flashAt off n
  else slice (s.octetValue k) off n

/-- A length in DETAIL. Log 103 (DEDUCED). -/
def detailLength (n : Nat) : Nat := if n < 2 ^ 32 then n else (Config.longDetail n).toNat

/-- What a READ of an entry answers: its value and DETAIL (R541). -/
def State.readValue (s : State) (e : Entry) (index sub : Nat) : List Byte × Nat :=
  let k := index * 256 + sub
  match e.typ with
  | .octet n => (padTo n (s.octetValue k), 0)
  | .domain => (s.domainBytes k 0 1024, detailLength (s.domainLength k))
  | t => (leBytes t.size (s.scalar index sub), 0)

end Sys2Proof.Machine
end

