-- ==== Sys2Proof/Machine/Berjor.lean ====
section
/-! DEFINITION. The Berjor service (R533, R537 to R548): replies, authority, the checks of reads and writes in their order,
failures of authentication, uploads, and how a request of a session is answered once. -/

namespace Sys2Proof.Machine

/-! ### Status (R544) -/

namespace Bj
def ok : Nat := 0x00
def noEntry : Nat := 0x01
def accessDenied : Nat := 0x02
def readOnly : Nat := 0x03
def writeOnly : Nat := 0x04
def typeMismatch : Nat := 0x05
def valueRange : Nat := 0x06
def entryBusy : Nat := 0x07
def notReady : Nat := 0x08
def notQuiesced : Nat := 0x09
def ownerPresent : Nat := 0x0A
def ownerSig : Nat := 0x0B
def roleMismatch : Nat := 0x0C
def quoteBusy : Nat := 0x0D
def identityRevoked : Nat := 0x0E
def domainRejected : Nat := 0x0F
def sessionLimit : Nat := 0x10
def sessionUnknown : Nat := 0x11
def authFail : Nat := 0x12
def digestMismatch : Nat := 0x13
def format : Nat := 0x14
def segmentOrder : Nat := 0x15
end Bj

/-! Operations (R541). -/

namespace Op
def read : Nat := 0x01
def write : Nat := 0x02
def readSeg : Nat := 0x03
def writeSeg : Nat := 0x04
def writeEnd : Nat := 0x05
def sessionOpen : Nat := 0x10
def sessionProve : Nat := 0x11
def sessionClose : Nat := 0x12
end Op

/-- What a request is answered with. -/
structure BjAns where
  status : Nat
  detail : Nat
  payload : List Byte
  deriving DecidableEq, Repr

/-- A status alone. -/
def BjAns.of (st : Nat) : BjAns := ⟨st, 0, []⟩

/-! ### Replies (R540, R546) -/

/-- The header of a reply to a request. Log 110 (DEDUCED). -/
def replyHeader (r : BjReq) (op session : Nat) (a : BjAns) : List Byte :=
  [0x42, 0x4A, 1] ++ leBytes 1 (op + 128) ++ leBytes 4 session ++ leBytes 4 r.seq.toNat ++ leBytes 2 r.index.toNat
    ++ leBytes 1 r.sub.toNat ++ leBytes 1 a.status ++ leBytes 4 r.offset ++ leBytes 2 a.payload.length ++ zeros 2
    ++ leBytes 4 a.detail ++ zeros 4

/-- A reply; `kid` numbers the session key its TAG is made with. On the console its length goes before it and a CRC-32C
behind it. -/
def replyOf (r : BjReq) (op session : Nat) (kid : Option Nat) (a : BjAns) : Out :=
  let b := replyHeader r op session a ++ a.payload
  let tag := match kid with
    | some k => padTo 16 (Config.hmac k b)
    | none => []
  let d := b ++ tag
  .reply r.console r.ip (if r.console then leBytes 2 d.length ++ d ++ leBytes 4 (crc32c d).toNat else d)

/-! ### Who asks -/

def State.session (s : State) (n : Nat) : Option Session := s.mgmt.sessions.find? fun x => x.num = n

def State.onMgmt (s : State) (f : Mgmt → Mgmt) : State := { s with mgmt := f s.mgmt }

/-- A session ends; its uploads are discarded (R539, R543). -/
def State.endSession (s : State) (n : Nat) : State :=
  s.onMgmt fun m => { m with
    sessions := m.sessions.filter fun x => x.num ≠ n
    uploads := m.uploads.filter fun u => u.session ≠ n }

/-- Sessions that a condition names end. -/
def State.endSessions (s : State) (p : Session → Bool) : State :=
  ((s.mgmt.sessions.filter p).map (·.num)).foldl State.endSession s

/-- A level includes the authority of an entry (R537). -/
def Level.grants : Level → Auth → Bool
  | _, .observer => true
  | .operator, .operator => true
  | .owner, .operator => true
  | .factory, .operator => true
  | .owner, .owner => true
  | .factory, .factory => true
  | _, _ => false

/-- A failure of authentication from an address (R539): the sixteenth within 60 s stops its requests. -/
def State.countFailure (s : State) (r : BjReq) : State :=
  let s := s.bump K.authFailures 1
  let now := s.timeBase
  s.onMgmt fun m =>
    let old := (m.fails.find? fun f => f.ip = r.ip).getD ⟨r.ip, [], false⟩
    let times := (now :: old.times.filter fun t => decide (now < t + 60000000000)).take 16
    { m with fails := (m.fails.filter fun f => f.ip ≠ r.ip) ++ [⟨r.ip, times, old.dropping || decide (16 ≤ times.length)⟩] }

/-- The requests of the address are dropped. -/
def State.dropsFrom (s : State) (r : BjReq) : Bool := !r.console && s.mgmt.fails.any fun f => f.ip = r.ip && f.dropping

/-- The boot node answers the dictionary from step 2 of the boot sequence, and through a thaw (R547).
Log 106 (DEDUCED). -/
def State.serves (s : State) : Bool := s.power.phase = .up && s.boot ≠ .booting && s.boot ≠ .recovery

/-- The link that a request came on is there. -/
def State.reached (s : State) (r : BjReq) : Bool := if r.console then s.front.console else s.get K.mportLink = 1

/-! ### Serving a request -/

/-- The answer of a request of a session is kept with its SEQ (R542). -/
def State.keepReply (s : State) (n : Nat) (seq : BitVec 32) (o : Out) : State :=
  s.onMgmt fun m => { m with sessions := m.sessions.map fun x =>
    if x.num = n then { x with lastSeq := some seq, lastReply := some o } else x }

/-- A request of a session whose TAG verifies: one already answered gets its reply again, an older one is dropped
(R542). -/
def State.inSession (s : State) (r : BjReq) (op : Nat) (x : Session) (act : State → State × BjAns) : State :=
  let fresh := match x.lastSeq with
    | some q => decide (q < r.seq)
    | none => true
  if fresh then
    let (s, a) := act s
    let o := replyOf r op r.session (some x.kid) a
    (s.keepReply x.num r.seq o).emit o
  else if x.lastSeq = some r.seq then
    match x.lastReply with
    | some o => s.emit o
    | none => s
  else s.bump K.berjorStaleDrops 1

/-- A request as the boot node takes it (R537, R539, R540, R546). `act` answers it under a level, or under none where
SESSION 0 is not open to observers. -/
def State.handle (s : State) (r : BjReq) (op : Nat) (act : Option Level → State → State × BjAns) : State :=
  let plain := fun (a : State × BjAns) => a.1.emit (replyOf r op r.session none a.2)
  if !s.serves || !s.reached r || s.dropsFrom r then s
  else if r.console && r.session ≠ 0 then plain (s, BjAns.of Bj.accessDenied)
  else if r.session = 0 then
    if !r.wellFormed then plain (s, BjAns.of Bj.format)
    else
      let open' := r.console || s.get K.observerOpen = 1
      plain (act (if open' then some .observer else none) s)
  else
    match s.session r.session with
    | none => if r.wellFormed then plain (s.countFailure r, BjAns.of Bj.sessionUnknown) else s
    | some x =>
      if !r.tagOk then
        if r.wellFormed then plain (s.countFailure r, BjAns.of Bj.authFail) else s
      else if !r.wellFormed then s.emit (replyOf r op r.session (some x.kid) (BjAns.of Bj.format))
      else s.inSession r op x (act (some x.level))

/-! ### Checks (R531, R533, R544, R547) -/

/-- The entry is held by Abano, and Abano does not run. -/
def State.abanoAway (s : State) (r : BjReq) : Bool :=
  0x3000 ≤ r.index.toNat && r.index.toNat < 0x8000 && !s.ready

/-- Log 106 (DEDUCED). -/
def granted (l : Option Level) (a : Auth) : Bool :=
  match l with
  | some x => x.grants a
  | none => false

/-- Checks of a write up to READ_ONLY. -/
def headFails (r : BjReq) (l : Option Level) : Option Nat :=
  match entryAt r.index.toNat r.sub.toNat with
  | none =>
    if r.sub = 0 && (highestSub r.index.toNat).isSome then
      if r.console || !granted l .observer then some Bj.accessDenied else some Bj.readOnly
    else some Bj.noEntry
  | some e =>
    if r.console || !granted l e.auth then some Bj.accessDenied
    else if e.kind = .ro then some Bj.readOnly
    else none

/-- Limit of a DOMAIN value in bytes (R543). -/
def domainLimit (k : Nat) : Nat := if k = K.firmwareInstall then 32 * 2 ^ 20 else 4096

/-- The length suits a DOMAIN entry. A value with result codes of its own is judged by those. -/
def domainFits (k n : Nat) : Bool :=
  if k = K.operatorKeys then n % 64 = 0 && n ≤ 512
  else if k = K.ownerClaim then n = 128
  else if k = K.ownerRelease then n = 64
  else if k = K.quote then n = 32
  else n ≤ domainLimit k

/-- A tile that a value names by row and position. -/
def namesTile (v : Nat) : Bool := (slotOfCode (bits v 0 10)).isSome

/-- Ranges that the tables state in words (R318, R489, R509). -/
def State.rangeOk (s : State) (k v : Nat) : Bool :=
  if k = K.rawChannelsAuthorised then v ≤ bits (s.get K.licenceFeatures) 8 4
  else if k = K.frostTile ∨ k = K.unfrostTile then v < 1024 && namesTile v
  else if k = K.bankRestore then v < 2 ^ 15 && namesTile v && bits v 10 5 < 24
  else true

/-- Checks of a value from TYPE_MISMATCH to NOT_READY. Log 114 (DEDUCED). -/
def State.valueFails (s : State) (r : BjReq) (val : List Byte) : Option Nat :=
  match entryAt r.index.toNat r.sub.toNat with
  | none => some Bj.noEntry
  | some e =>
    let fits := match e.typ with
      | .domain => domainFits r.key val.length
      | t => val.length = t.size
    let inRange := match e.typ with
      | .domain | .octet _ => true
      | t => e.rng.ok t (leNat val) && s.rangeOk r.key (leNat val)
    if !fits then some Bj.typeMismatch
    else if !inRange then some Bj.valueRange
    else if s.abanoAway r then some Bj.notReady
    else none

/-! ### Uploads (R543) -/

/-- The bytes that a session has uploaded to an entry. Log 108 (DEDUCED). -/
def State.uploaded (s : State) (r : BjReq) : List Byte :=
  ((s.mgmt.uploads.find? fun u => u.key = r.key && u.session = r.session).map (·.bytes)).getD []

def State.dropUpload (s : State) (r : BjReq) : State :=
  s.onMgmt fun m => { m with uploads := m.uploads.filter fun u => !(u.key = r.key && u.session = r.session) }

/-- The request ends an upload. -/
def BjReq.ends (r : BjReq) : Bool := r.op.toNat = Op.writeEnd

/-- The operation that a reply to a write names. -/
def BjReq.writeOp (r : BjReq) : Nat := if r.ends then Op.writeEnd else Op.write

/-- The value that a write carries, or the uploaded one. -/
def State.valueOf (s : State) (r : BjReq) : List Byte := if r.ends then s.uploaded r else r.payload

/-- The entry is of type DOMAIN. -/
def isDomain (r : BjReq) : Bool := match entryAt r.index.toNat r.sub.toNat with
  | some e => decide (e.typ = .domain)
  | none => false

/-- WRITE_END: the total length or the digest is wrong. -/
def State.endMismatch (s : State) (r : BjReq) : Bool := leAt r.payload 0 4 ≠ (s.uploaded r).length || !r.digestOk

/-- The module stopped without a vault firmware or Abano image takes firmware_install only (R523).
Log 109 (DESIGN CHOICE). -/
def State.imageStop (s : State) (r : BjReq) : Bool :=
  s.boot = .stopped && s.get K.frontFaultCode = 4 && r.key ≠ K.firmwareInstall

/-- A refusal whose status the spec does not name. Log 108 (DEDUCED). -/
def State.someRefusal (s : State) : State × BjAns :=
  let (n, s) := s.draw
  (s, BjAns.of (1 + Config.freeNat n % 0x15))

/-- A write that has passed its common checks takes `own`, which may still refuse it (R544). -/
def State.serveWrite (s : State) (r : BjReq) (own : List Byte → State → State × BjAns) : State :=
  s.handle r r.writeOp fun l s =>
    match headFails r l with
    | some st => (s, BjAns.of st)
    | none =>
      if r.ends && !isDomain r then (s, BjAns.of Bj.typeMismatch)
      else if s.imageStop r then s.someRefusal
      else if r.ends && s.endMismatch r then (s.dropUpload r, BjAns.of Bj.digestMismatch)
      else
        let val := s.valueOf r
        match s.valueFails r val with
        | some st => (s, BjAns.of st)
        | none =>
          let (s, a) := own val s
          (if r.ends && a.status = Bj.ok then s.dropUpload r else s, a)

/-- A write that is always applied once its checks have passed. -/
def applied (f : Nat → State → State) (val : List Byte) (s : State) : State × BjAns := (f (leNat val) s, BjAns.of Bj.ok)

/-- A request for an entry with a row of its own; one that names another entry has no effect under this row.
Log 112 (DEDUCED), 114 (DEDUCED), 115 (DEDUCED). -/
def State.rowWrite (s : State) (k : Nat) (r : BjReq) (own : List Byte → State → State × BjAns) : State :=
  if r.key = k then s.serveWrite r own else s

/-- A write of an entry of a scalar type: a value already in force changes nothing (R534); a persisted one waits for flash
(R517). -/
def State.setEntry (s : State) (k v : Nat) : State :=
  if s.get k = v then s
  else if isPersisted k then (s.set k v).dirty Blk.dictionary
  else s.set k v

/-- As `setEntry` for octets. -/
def State.setBytes (s : State) (k : Nat) (v : List Byte) : State :=
  if s.octet k = v then s else (s.setOctet k v).dirty Blk.dictionary

/-- The keys of operator_keys (R557). -/
def State.operatorKeyList (s : State) : List (List Byte) :=
  let l := s.octet K.operatorKeys
  (List.range (l.length / 64)).map fun i => slice l (64 * i) 64

/-- Operator sessions whose key is no longer listed end (R539). A session that the unowned rule let in has no listed
key. -/
def State.pruneOperators (s : State) (old : List (List Byte)) : State :=
  let now := s.operatorKeyList
  s.endSessions fun x => x.level = .operator && old.contains x.key && !now.contains x.key

end Sys2Proof.Machine
end

