-- ==== Sys2Proof/Machine/Sessions.lean ====
section
/-! DEFINITION. Berjor requests without a row of their own (R541 to R544), uploads (R543), sessions (R538, R539) and the
links they come on (R546, R557, R584). -/

namespace Sys2Proof.Machine

/-! ### Reads (R533, R541, R544) -/

/-- Checks of a read. Log 106 (DEDUCED). -/
def State.readFails (s : State) (r : BjReq) (l : Option Level) : Option Nat :=
  match entryAt r.index.toNat r.sub.toNat with
  | none =>
    if r.sub = 0 && (highestSub r.index.toNat).isSome then
      if !granted l .observer then some Bj.accessDenied
      else if s.abanoAway r then some Bj.notReady
      else none
    else some Bj.noEntry
  | some e =>
    if !granted l e.auth then some Bj.accessDenied
    else if e.kind = .wo then some Bj.writeOnly
    else if s.abanoAway r then some Bj.notReady
    else none

/-- The value of an entry, or of subindex 0, and its DETAIL. -/
def State.valueAt (s : State) (r : BjReq) : List Byte × Nat :=
  match entryAt r.index.toNat r.sub.toNat with
  | some e => s.readValue e r.index.toNat r.sub.toNat
  | none => (leBytes 1 ((highestSub r.index.toNat).getD 0), 0)

/-- READ (R541). -/
def execBjRead (r : BjReq) (s : State) : Host.Outcome State Fault Refusal :=
  .next (s.handle r Op.read fun l s =>
    match s.readFails r l with
    | some st => (s, BjAns.of st)
    | none =>
      let v := s.valueAt r
      (s, ⟨Bj.ok, v.2, v.1⟩))

/-- READ_SEG (R541, R567): bytes from OFFSET, the full length in DETAIL. Log 104 (DEDUCED). -/
def execReadSeg (r : BjReq) (s : State) : Host.Outcome State Fault Refusal :=
  .next (s.handle r Op.readSeg fun l s =>
    match s.readFails r l with
    | some st => (s, BjAns.of st)
    | none =>
      let n := min r.len 1024
      if isDomain r then (s, ⟨Bj.ok, detailLength (s.domainLength r.key), s.domainBytes r.key r.offset n⟩)
      else
        let v := (s.valueAt r).1
        (s, ⟨Bj.ok, v.length, slice v r.offset (min n (v.length - r.offset))⟩))

/-! ### Writes of entries without a row of their own -/

/-- Entries whose writes have a row of their own. Log 112 (DEDUCED). -/
def ownRow (r : BjReq) : Bool :=
  let i := r.index.toNat
  [K.fabricEpochRequest, K.frostTile, K.unfrostTile, K.bankRestore, K.vcoreSetpoint, K.forceSafePacing, K.powerLimit,
    K.resetRequest, K.copyResolve, K.firmwareInstall, K.ownerClaim, K.ownerRelease, K.keyInstall, K.keyRemove,
    K.licenceInstall, K.commitSvn, K.quote, K.scanClear, K.vectorDim, K.defaultsRestore, K.recorderClear, K.quiesceControl,
    K.identify].contains r.key
    || (0x3200 ≤ i && i < 0x3218) || (0x3220 ≤ i && i < 0x3238) || (i = 0x6100 && r.sub ≠ 0)

/-- The value takes effect by being in force: scalar entries, notify_mask and operator_keys. Log 112 (DEDUCED). -/
def plainWrite (r : BjReq) (val : List Byte) (s : State) : State × BjAns :=
  if r.key = K.operatorKeys then
    let old := s.operatorKeyList
    ((s.setBytes r.key val).pruneOperators old, BjAns.of Bj.ok)
  else if r.key = K.notifyMask then (s.setBytes r.key val, BjAns.of Bj.ok)
  else (s.setEntry r.key (leNat val), BjAns.of Bj.ok)

/-- WRITE (R541, R544). -/
def execBjWrite (r : BjReq) (s : State) : Host.Outcome State Fault Refusal :=
  if ownRow r then .next s else .next (s.serveWrite { r with op := 2 } (plainWrite r))

/-- WRITE_END (R541, R543). -/
def execWriteEnd (r : BjReq) (s : State) : Host.Outcome State Fault Refusal :=
  if ownRow r then .next s else .next (s.serveWrite { r with op := 5 } (plainWrite r))

/-! ### Uploads -/

/-- A segment joins the upload of its session. Log 108 (DEDUCED). -/
def State.addSegment (s : State) (r : BjReq) : State :=
  let bs := s.uploaded r ++ r.payload
  (s.dropUpload r).onMgmt fun m => { m with uploads := m.uploads ++ [⟨r.key, r.session, bs⟩] }

/-- Another session holds an unfinished upload to the entry. -/
def State.uploadBusy (s : State) (r : BjReq) : Bool := s.mgmt.uploads.any fun u => u.key = r.key && u.session ≠ r.session

/-- A segment in its turn (R543, R544). -/
def State.takePiece (s : State) (r : BjReq) : State × BjAns :=
  if s.uploadBusy r then (s, BjAns.of Bj.entryBusy)
  else if r.offset ≠ (s.uploaded r).length then (s, BjAns.of Bj.segmentOrder)
  else (s.addSegment r, BjAns.of Bj.ok)

/-- The boot ROM's recovery takes the segments of a firmware image on the console (R523, R546).
Log 109 (DESIGN CHOICE). -/
def State.recovers (s : State) (r : BjReq) : Bool :=
  s.power.phase = .up && s.boot = .recovery && r.console && s.front.console && r.session = 0 && r.wellFormed
    && r.key = K.firmwareInstall

/-- WRITE_SEG (R543, R544). -/
def execWriteSeg (r : BjReq) (s : State) : Host.Outcome State Fault Refusal :=
  if s.recovers r then
    let (s, a) := if domainLimit r.key < r.offset + r.payload.length then (s, BjAns.of Bj.typeMismatch) else s.takePiece r
    .next (s.emit (replyOf r Op.writeSeg 0 none a))
  else
    .next (s.handle r Op.writeSeg fun l s =>
      match headFails r l with
      | some st => (s, BjAns.of st)
      | none =>
        if !isDomain r || domainLimit r.key < r.offset + r.payload.length then (s, BjAns.of Bj.typeMismatch)
        else if s.imageStop r then s.someRefusal
        else if s.abanoAway r then (s, BjAns.of Bj.notReady)
        else s.takePiece r)

/-- UPLOAD_ABANDON (R543). -/
def execUploadAbandon (entry idleS : Nat) (s : State) : Host.Outcome State Fault Refusal :=
  if 60 ≤ idleS then .next (s.onMgmt fun m => { m with uploads := m.uploads.filter fun u => u.key ≠ entry }) else .next s

/-! ### Sessions (R538, R539) -/

/-- The nonce Nd and the device key Ed of an open. -/
def openNonce (n : Nat) : List Byte := padTo 32 (Config.entropy 1 n)
def openKey (n : Nat) : List Byte := padTo 64 (Config.entropy 2 n)

/-- The reply of R538 step 2. -/
def openReply (n : Nat) (key : List Byte) : List Byte :=
  let body := openNonce n ++ openKey n
  body ++ signIds ([0x53, 0x4B, 0x42, 0x4F] ++ body ++ key)

/-- Sessions and opens under way number eight. Log 107 (DEDUCED). -/
def State.sessionsFull (s : State) : Bool := 8 ≤ s.mgmt.sessions.length + s.mgmt.opens.length

/-- SESSION_OPEN (R538 steps 1 and 2). It needs no authority of its own. -/
def execSessionOpen (r : BjReq) (level : Level) (key : List Byte) (endorsed : Bool) (s : State) :
    Host.Outcome State Fault Refusal :=
  .next (s.handle r Op.sessionOpen fun _ s =>
    if r.console then (s, BjAns.of Bj.accessDenied)
    else if level = .observer ∨ key.length ≠ 64 then (s, BjAns.of Bj.format)
    else if s.sessionsFull then (s, BjAns.of Bj.sessionLimit)
    else if s.revoked then (s, BjAns.of Bj.identityRevoked)
    else
      let (n, s) := s.draw
      (s.onMgmt fun m => { m with opens := m.opens ++ [⟨r.ip, n, level, key, endorsed⟩] }, ⟨Bj.ok, 0, openReply n key⟩))

/-- The key of an open may have its level (R537). Log 108 (DEDUCED). -/
def State.keyGranted (s : State) (o : SessOpen) : Bool :=
  match o.level with
  | .observer => false
  | .operator => s.operatorKeyList.contains o.key || (s.get K.ownerState = 0 && (s.octet K.operatorKeys).isEmpty)
  | .owner => s.get K.ownerState = 1 && s.octet K.ownerKey = o.key
  | .factory => o.endorsed

/-- A proof that holds opens the session; its reply carries the number and a TAG (R538 step 4).
Log 45 (DESIGN CHOICE), 107 (DEDUCED). -/
def State.openSession (s : State) (r : BjReq) (o : SessOpen) : State :=
  let (kid, s) := s.draw
  let n := s.mgmt.nextSession
  let s := s.onMgmt fun m => { m with
    nextSession := n + 1
    sessions := m.sessions ++ [⟨n, kid, o.level, o.key, none, none⟩] }
  s.emit (replyOf r Op.sessionProve n (some kid) (BjAns.of Bj.ok))

/-- SESSION_PROVE (R538 steps 3 and 4): it proves the newest open of its address. Log 107 (DEDUCED). -/
def execSessionProve (r : BjReq) (sigOk : Bool) (s : State) : Host.Outcome State Fault Refusal :=
  if s.serves && s.reached r && !s.dropsFrom r && !r.console && r.session = 0 && r.wellFormed then
    let fail := fun (s : State) => (s.countFailure r).emit (replyOf r Op.sessionProve 0 none (BjAns.of Bj.authFail))
    match (s.mgmt.opens.filter fun o => o.ip = r.ip).getLast? with
    | none => .next (fail s)
    | some o =>
      let s := s.onMgmt fun m => { m with opens := m.opens.filter fun x => x.num ≠ o.num }
      if sigOk && s.keyGranted o then .next (s.openSession r o) else .next (fail s)
  else
    .next (s.handle r Op.sessionProve fun _ s => (s, BjAns.of (if r.console then Bj.accessDenied else Bj.authFail)))

/-- SESSION_CLOSE (R539, R541). -/
def execSessionClose (r : BjReq) (s : State) : Host.Outcome State Fault Refusal :=
  .next (s.handle r Op.sessionClose fun _ s =>
    if r.console then (s, BjAns.of Bj.accessDenied)
    else if r.session = 0 then (s, BjAns.of Bj.sessionUnknown)
    else (s.endSession r.session, BjAns.of Bj.ok))

/-- SESSION_OPEN_LAPSE (R538). -/
def execSessionOpenLapse (n elapsedMs : Nat) (s : State) : Host.Outcome State Fault Refusal :=
  if 10000 ≤ elapsedMs then .next (s.onMgmt fun m => { m with opens := m.opens.filter fun o => o.num ≠ n }) else .next s

/-- SESSION_IDLE (R539). -/
def execSessionIdle (n idleS : Nat) (s : State) : Host.Outcome State Fault Refusal :=
  if s.get K.sessionIdleS ≤ idleS then .next (s.endSession n) else .next s

/-- ADDRESS_DROP_EXPIRE (R539). -/
def execAddressDropExpire (ip : BitVec 32) (elapsedS : Nat) (s : State) : Host.Outcome State Fault Refusal :=
  if 60 ≤ elapsedS then .next (s.onMgmt fun m => { m with fails := m.fails.filter fun f => !(f.ip = ip && f.dropping) })
  else .next s

/-! ### Links -/

/-- Messages that waited go out, as many as the second still takes (R550, R551). Log 110 (DEDUCED). -/
def State.flushNotes (s : State) : State :=
  s.mgmt.queue.foldl (fun s n =>
    if s.get K.mportLink = 1 && s.sentNow < 64 then
      (s.onMgmt fun m => { m with queue := m.queue.filter fun x => x.nseq ≠ n.nseq }).transmit n
    else s) s

/-- MPORT_LINK_CHANGE (R551, R557). -/
def execMportLinkChange (up : Bool) (s : State) : Host.Outcome State Fault Refusal :=
  if s.power.phase = .up then .next ((s.set K.mportLink (b2n up)).flushNotes) else .next s

/-- CONSOLE_ATTACH (R546, R584). -/
def execConsoleAttach (vbus : Bool) (s : State) : Host.Outcome State Fault Refusal :=
  .next { s with front := { s.front with console := vbus } }

/-! ### Notifications (R549 to R551) -/

/-- The address is one that notifications go to. Log 110 (DEDUCED). -/
def State.isDest (s : State) (ip : BitVec 32) : Bool :=
  (List.range 4).any fun i =>
    let d := s.get (K.notifyDest (i + 1))
    d ≠ 0 && bits d 0 32 = ip.toNat

/-- NOTIFY_ACK (R551): the alarm is sent no more. Log 110 (DEDUCED). -/
def execNotifyAck (r : BjReq) (s : State) : Host.Outcome State Fault Refusal :=
  if s.serves && s.reached r && !r.console && !s.dropsFrom r && r.wellFormed && s.isDest r.ip then
    let n := leAt r.payload 0 4
    .next (s.onMgmt fun m => { m with unacked := m.unacked.filter fun u => u.nseq ≠ n })
  else .next s

/-- ALARM_RESEND (R551). Log 65 (DEDUCED). -/
def execAlarmResend (nseq elapsedMs : Nat) (s : State) : Host.Outcome State Fault Refusal :=
  match s.mgmt.unacked.find? fun n => n.nseq = nseq with
  | none => .next s
  | some n =>
    if elapsedMs < 1000 ∨ 8 ≤ n.sends ∨ s.get K.mportLink ≠ 1 ∨ 64 ≤ s.sentNow then .next s
    else
      let s := s.transmit n
      .next (if n.sends = 7 then s.bump K.alarmsUnacked 1 else s)

/-- The one message for the events of a code that found no token (R550). Log 65 (DEDUCED). -/
def State.sendFolded (s : State) (code : Nat) (b : Bucket) : State :=
  let (n, s) := s.nextNseq
  s.post ⟨code, isAlarm code, 0, n, b.time, b.cal, b.supp, b.arg⟩

/-- NOTIFY_TOKEN_REFILL (R550). Log 65 (DEDUCED). -/
def execNotifyTokenRefill (code : Nat) (s : State) : Host.Outcome State Fault Refusal :=
  let b := s.bucket code
  let s := s.flushNotes
  if b.supp ≠ 0 && s.sentNow < 64 then
    .next ((s.setBucket code { Bucket.full with spent := max 1 b.spent }).sendFolded code b)
  else .next (s.setBucket code { b with spent := b.spent - 1 })

end Sys2Proof.Machine
end

