-- ==== Sys2Proof/Machine/CalendarTime.lean ====
section
/-! DEFINITION. Calendar time (R553 to R555). -/

namespace Sys2Proof.Machine

/-- Nanoseconds of 1 µs and of 1 ms, and the largest rate correction in parts per billion. -/
def lockNs : Int := 1000
def stepNs : Int := 1000000
def ratePpbMax : Int := 500000

/-- The clock of the port at a time of the time base, whether or not calendar time was ever set. -/
def Ptp.clockAt (p : Ptp) (t : Nat) : Int :=
  let d : Int := (t : Int) - p.anchor
  p.atAnchor + d + d * p.rate / 1000000000

/-- The clock goes on from its value now, shifted, at a rate. -/
def Ptp.anchorAt (p : Ptp) (t : Nat) (shift rate : Int) : Ptp :=
  { p with anchor := t, atAnchor := p.clockAt t + shift, rate := rate }

/-- A rate correction within ±500 ppm. -/
def clampRate (r : Int) : Int := max (-ratePpbMax) (min ratePpbMax r)

/-- An offset within a bound. -/
def within (off bound : Int) : Bool := -bound ≤ off && off ≤ bound

/-- Estimates in a row within ±1 µs. -/
def Ptp.count (p : Ptp) (off : Int) : Nat := if within off lockNs then p.good + 1 else 0

def State.onPtp (s : State) (f : Ptp → Ptp) : State := s.onMgmt fun m => { m with ptp := f m.ptp }

/-- ptp_offset_ns; an estimate beyond its type shows a free value. Log 125 (DEDUCED). -/
def State.showOffset (s : State) (off : Int) : State :=
  if -(2 ^ 31) ≤ off ∧ off < 2 ^ 31 then s.set K.ptpOffsetNs (ofInt 32 off)
  else
    let (n, s) := s.draw
    s.set K.ptpOffsetNs (Config.freeWord n).toNat

/-- Before the first lock the port's clock follows each estimate; calendar time is set when the lock comes.
Log 125 (DEDUCED). -/
def State.acquire (s : State) (off rate : Int) : State :=
  let t := s.timeBase
  let s := s.onPtp fun p =>
    let p := { p with good := p.count off }
    p.anchorAt t (if p.isSet then 0 else off) rate
  if 16 ≤ s.mgmt.ptp.good then
    ((s.onPtp fun p => { p with isSet := true }).set K.ptpState 2).raise 0x70 []
  else s.set K.ptpState 1

/-- While locked an offset beyond 1 ms is corrected in one step, a smaller one by the rate. Log 125 (DEDUCED). -/
def State.track (s : State) (off rate : Int) : State :=
  let t := s.timeBase
  if within off stepNs then s.onPtp fun p => p.anchorAt t 0 rate
  else ((s.onPtp fun p => p.anchorAt t off rate).bump K.calendarSteps 1).raise 0x72 []

/-- The port takes Sync: it is on, and the boot node runs. -/
def State.ptpOn (s : State) : Bool := s.serves && s.get K.ptpTransport ≠ 0

/-- PTP_SYNC (R553 to R555): an offset estimate against the selected master, with the rate correction that goes with
it. Log 125 (DEDUCED). -/
def execPtpSync (master : BitVec 64) (offsetNs ratePpb : Int) (ptpScale : Bool) (s : State) :
    Host.Outcome State Fault Refusal :=
  if ptpScale && s.ptpOn then
    let rate := clampRate ratePpb
    let st := s.get K.ptpState
    let s := ((s.set K.ptpMaster master.toNat).showOffset offsetNs).set K.ptpRatePpb (ofInt 32 rate)
    .next (if st = 2 then s.track offsetNs rate else s.acquire offsetNs rate)
  else .next s

/-- PTP_HOLDOVER (R555): the rate correction is frozen. -/
def execPtpHoldover (silentMs : Nat) (s : State) : Host.Outcome State Fault Refusal :=
  if 3000 ≤ silentMs ∧ s.get K.ptpState = 2 then
    .next (((s.onPtp fun p => { p with good := 0 }).set K.ptpState 3).raise 0x71 [])
  else .next s

end Sys2Proof.Machine
end

