-- ==== Sys2Proof/Machine/FabricDiscovery.lean ====
section
/-! DEFINITION. Links and discovery of the fabric: replay and loss of lanes (R396, R397), training (R398, R407),
election, reports and tables (R405, R406, R408, R409), and the epoch barrier (R412, R307). -/

namespace Sys2Proof.Machine

/-! ### Ports -/

def State.portStateOf (s : State) (n : Nat) : Nat := s.get (K.portState n)
def State.setPortState (s : State) (n v : Nat) : State := s.set (K.portState n) v

/-- A port has trained: UP or DISCOVERY_ONLY. -/
def State.trained (s : State) (n : Nat) : Bool := s.portStateOf n = 2 || s.portStateOf n = 5

/-- The trained ports. -/
def State.trainedPorts (s : State) : List Nat := (List.range 8).filter s.trained

/-- Ports of a + direction (R394). -/
def isPlus (n : Nat) : Bool := [0, 2, 4, 6].contains n

/-- Two ports that a link may join: + and − of one dimension (R407). -/
def pairOk (a b : Nat) : Bool := isX a = isX b && isPlus a ≠ isPlus b && b < 8

/-- A carrier slot by its coordinates (R430). -/
def boardSlot (x y : Nat) : Nat := x % 4 + 4 * (y % 2)

/-- The slot and port that a carrier board's jumper joins port `n` of slot `s` to (R430). -/
def boardJumper (s n : Nat) : Nat × Nat :=
  let x := s % 4
  let y := s / 4
  match n with
  | 0 => (boardSlot (x + 1) y, 1)
  | 1 => (boardSlot (x + 3) y, 0)
  | 2 => (boardSlot x (y + 1), 3)
  | 3 => (boardSlot x (y + 1), 2)
  | 4 => (boardSlot (x + 1) y, 5)
  | 5 => (boardSlot (x + 3) y, 4)
  | 6 => (boardSlot x (y + 1), 7)
  | _ => (boardSlot x (y + 1), 6)

/-- The active fabric keys of both ends are one key (R307). -/
def State.sameKey (s : State) (nb : Neighbour) : Bool :=
  s.get K.fabricKeyActive ≠ 0 && nb.keyActive.toNat = s.get K.fabricKeyActive

/-- The directory in force knows the neighbour with this cold start (R407). -/
def State.inDirectory (s : State) (nb : Neighbour) : Bool :=
  s.fabric.active.directory.any fun e => e.serial = nb.serial && e.coldStarts = nb.coldStarts

/-- Neighbour entry of a port (R431). -/
def neighbourWord (nb : Neighbour) : Nat := nb.serial.toNat + fld nb.port 48 8

/-- A port goes down with its lanes or trains again. -/
def State.portDown (s : State) (n st : Nat) : State :=
  (s.setPort n { s.port n with lit := decide (st = 1), lanes := 0, failed := 0 }).setPortState n st
    |>.set (K.portLanesUp n) 0

/-- Codewords that a port's receiver has met since it last showed them: corrected ones, and the one that failed a frame if
the frame arrived at all (R396, R431). Log 164 (DESIGN CHOICE). -/
def State.countFec (s : State) (n : Nat) : State :=
  let (k, s) := s.draw
  (s.bump (K.portFecCorrected n) (Config.freeNat k)).bump (K.portFecUncorrectable n) (b2n (Config.freeBool k))

/-- LINK_REPLAY (R396): a frame is replayed; the eighth failure in a row takes the port down to train again.
Log 50 (DEDUCED). -/
def execLinkReplay (port : Port) (s : State) : Host.Outcome State Fault Refusal :=
  let n := port.val
  if s.trained n then
    let q := s.port n
    let s := ((s.countFec n).setPort n { q with failed := q.failed + 1 }).bump (K.portReplays n) 1
    if 8 ≤ q.failed + 1 then .next (s.portDown n 1) else .next s
  else .next s

/-- LANE_LOSS (R397): the lane is dropped; a port with no lanes is down. -/
def execLaneLoss (port : Port) (lane : Fin 4) (s : State) : Host.Outcome State Fault Refusal :=
  let n := port.val
  let q := s.port n
  if s.trained n then
    let l := q.lanes &&& ~~~(BitVec.ofNat 4 (2 ^ lane.val))
    if l = 0#4 then .next (s.portDown n 3)
    else .next ((s.setPort n { q with lanes := l }).set (K.portLanesUp n) l.toNat)
  else .next s

/-- LIGHT_DETECT (R398): light at a licensed port that is down starts its training. -/
def execLightDetect (port : Port) (s : State) : Host.Outcome State Fault Refusal :=
  let n := port.val
  if n < s.licPorts ∧ (s.portStateOf n = 1 ∨ s.portStateOf n = 3) then
    .next ((s.setPort n { s.port n with lit := true }).setPortState n 1)
  else .next s

/-- The state of a trained port (R398, R407): traffic at once where the tables in force have this neighbour here. -/
def State.stateFor (s : State) (n : Nat) (nb : Neighbour) (old : Option Neighbour) : Nat :=
  if nb.serial = Config.serial || !pairOk n nb.port then 4
  else if !s.sameKey nb then 5
  else if s.get K.fabricState = 2 && s.inDirectory nb && (old.map fun o => (o.serial, o.port)) = some (nb.serial, nb.port)
  then 2
  else 5

/-- PORT_TRAINED (R398, R405 step 2, R407). -/
def execPortTrained (port : Port) (nb : Neighbour) (s : State) : Host.Outcome State Fault Refusal :=
  let n := port.val
  if s.portStateOf n = 1 ∧ nb.lanes ≠ 0#4 then
    let old := (s.port n).neighbour
    let st := s.stateFor n nb old
    let s := s.setPort n { s.port n with
      lit := true
      lanes := nb.lanes
      laneMap := nb.laneMap
      neighbour := some nb
      failed := 0
      miswired := decide (st = 4)
      foreign := decide (st = 5) && !s.sameKey nb }
    let s := ((s.setPortState n st).set (K.portLanesUp n) nb.lanes.toNat).set (K.portNeighbour n) (neighbourWord nb)
    let s := s.set (K.portLaneMap n) nb.laneMap.toNat
    if s.get K.fabricState = 0 ∨ s.get K.fabricState = 4 then .next (s.set K.fabricState 1) else .next s
  else .next s

/-! ### Discovery (R405) -/

/-- Neighbours by port, as a report lists them: place i is port Wi, with no lanes where there is none.
Log 50 (DEDUCED). -/
def State.myReport (s : State) : List Neighbour :=
  (List.range 8).map fun n =>
    match (s.port n).neighbour with
    | some nb => if s.trained n then nb else { nb with lanes := 0 }
    | none => ⟨0, 0, 0, 0, 0, 0, 0⟩

/-- DISCOVERY_OFFER (R405, step 3): offer the lowest serial known to every neighbour; with no neighbour the module is
isolated. -/
def execDiscoveryOffer (s : State) : Host.Outcome State Fault Refusal :=
  let st := s.get K.fabricState
  if s.licPorts = 0 ∨ !s.ready then .next s
  else if s.trainedPorts.isEmpty then .next (if st = 2 ∨ st = 3 then s else s.set K.fabricState 4)
  else
    let s := if st = 0 ∨ st = 4 then s.set K.fabricState 1 else s
    if s.get K.fabricState = 1 then
      .next (s.trainedPorts.foldl (fun s n =>
        if h : n < 8 then s.emit (.disc (.offer ⟨n, h⟩ s.fabric.known s.fabric.dist)) else s) s)
    else .next s

/-! ### What the leader computes (R405 step 5, R406, R408, R409) -/

/-- A step from one module to the neighbour at port `n`: +1 or −1 in its dimension. -/
def stepFrom (n : Nat) (c : Int × Int) : Int × Int :=
  let d : Int := if isPlus n then 1 else -1
  if isX n then (c.1 + d, c.2) else (c.1, c.2 + d)

/-- Coordinates found from the reports, outward from the leader, with as many rounds as there are reports. -/
def coordRound (reports : List (BitVec 48 × List Neighbour)) (known : List (BitVec 48 × (Int × Int))) :
    List (BitVec 48 × (Int × Int)) :=
  known.foldl (fun k c =>
    match reports.find? fun r => r.1 = c.1 with
    | none => k
    | some r => r.2.zipIdx.foldl (fun k x =>
        if x.1.lanes = 0#4 ∨ k.any (fun e => e.1 = x.1.serial) then k else k ++ [(x.1.serial, stepFrom x.2 c.2)]) k) known

def coordsOf (leader : BitVec 48) (reports : List (BitVec 48 × List Neighbour)) : List (BitVec 48 × (Int × Int)) :=
  (List.range reports.length).foldl (fun k _ => coordRound reports k) [(leader, (0, 0))]

/-- The ring length of a dimension: the spread of its coordinates. -/
def spread (l : List Int) : Nat := ((l.foldl max 0) - (l.foldl min 0)).toNat + 1

/-- Directory: a module already in it keeps its ID; others get the lowest free IDs in rising serial order (R406). -/
def assignIds (old : List DirEntry) (mods : List (BitVec 48 × BitVec 32 × BitVec 64)) : List DirEntry :=
  let keep := mods.filterMap fun m => (old.find? fun e => e.serial = m.1).map fun e => (⟨e.id, m.1, m.2.1, m.2.2⟩ : DirEntry)
  let new := (mods.filter fun m => !(old.any fun e => e.serial = m.1)).mergeSort fun a b => a.1.toNat ≤ b.1.toNat
  new.foldl (fun d m =>
    match (List.range 4096).find? fun i => !(d.any fun e => e.id.toNat = i + 1) with
    | some i => d ++ [⟨BitVec.ofNat 16 (i + 1), m.1, m.2.1, m.2.2⟩]
    | none => d) keep

/-- The route entry of one module for another at some ring distances (R408). -/
def routeEntry (lx ly dx dy : Nat) (trained : Nat → Bool) : Nat :=
  let dir := fun (l d : Nat) (plus minus : List Nat) =>
    if d = 0 then [] else (if 2 * d ≤ l then plus else []) ++ (if l ≤ 2 * d then minus else [])
  let ports := ((dir lx dx [0, 4] [1, 5]) ++ (dir ly dy [2, 6] [3, 7])).filter trained
  let xr := decide (dy = 0 ∧ dx ≠ 0)
  let yr := decide (dx = 0 ∧ dy ≠ 0)
  total (ports.map fun n => 2 ^ n) + 256 * b2n (decide (dx = 0 ∧ dy = 0)) + 512 * b2n xr + 1024 * b2n yr
    + fld (if xr then dx else if yr then dy else 0) 11 6 + 2 ^ 17

/-- The tables of the module `me` (R408, R409). -/
def tablesFor (dir : List DirEntry) (coords : List (BitVec 48 × (Int × Int))) (lx ly : Nat)
    (reports : List (BitVec 48 × List Neighbour)) (me : BitVec 48) : Tables :=
  let at' := fun (x : BitVec 48) => ((coords.find? fun c => c.1 = x).map (·.2)).getD (0, 0)
  let m := at' me
  let mine := ((reports.find? fun r => r.1 = me).map (·.2)).getD []
  let trained := fun (n : Nat) => ((mine[n]?).map fun nb => decide (nb.lanes ≠ 0#4)).getD false
  let pos := fun (i : Int) (l : Nat) => (i % (l : Int)).toNat
  let routes := dir.filterMap fun e =>
    if coords.any fun c => c.1 = e.serial then
      let c := at' e.serial
      some (e.id.toNat - 1, BitVec.ofNat 32 (routeEntry lx ly (pos (c.1 - m.1) lx) (pos (c.2 - m.2) ly) trained))
    else none
  let x := pos m.1 lx
  let y := pos m.2 ly
  let date := fun (n : Nat) =>
    if isX n then (if isPlus n then decide (x + 1 = lx) else decide (x = 0))
    else if isPlus n then decide (y + 1 = ly) else decide (y = 0)
  let control := total ((List.range 8).map fun n => b2n (date n) * 2 ^ n) + fld (lx - 1) 8 6 + fld (ly - 1) 14 6
    + fld x 20 6 + fld y 26 6
  ⟨routes.mergeSort fun a b => a.1 ≤ b.1, BitVec.ofNat 32 control, dir⟩

/-- Every module that a report names has itself reported. -/
def reportsWhole (reports : List (BitVec 48 × List Neighbour)) : Bool :=
  reports.all fun r => r.2.all fun nb => nb.lanes = 0#4 || reports.any fun q => q.1 = nb.serial

/-- The fabric key that will be active after the next swap: the pending one, if there is one (R307, R412). -/
def keyAfter (active pending : BitVec 64) : BitVec 64 := if pending = 0 then active else pending

/-- Cold starts of a module and the key that will be active with the directory, as its neighbours report them.
Log 148 (DEDUCED). -/
def moduleFacts (s : State) (reports : List (BitVec 48 × List Neighbour)) (m : BitVec 48) : BitVec 48 × BitVec 32 × BitVec 64 :=
  if m = Config.serial then
    (m, BitVec.ofNat 32 (s.get K.coldStartCount),
      keyAfter (BitVec.ofNat 64 (s.get K.fabricKeyActive)) (BitVec.ofNat 64 (s.get K.fabricKeyPending)))
  else
    match (reports.flatMap (·.2)).find? fun nb => nb.serial = m with
    | some nb => (m, nb.coldStarts, keyAfter nb.keyActive nb.keyPending)
    | none => (m, 0, 0)

/-- PREPARE leaves the leader down the tree, and holds its own new transfers (R412, steps 1 and 2).
Log 113 (DEDUCED). -/
def State.startBarrier (s : State) : State :=
  let s := (s.emit (.link 3 [] [])).set K.fabricState 3
  (s.onFabric fun f => { f with epochPhase := .prepared, readies := [], requested := false }).tryReady

/-- The leader computes and sends tables, directory and IDs, then starts the barrier (R405, steps 5 to 7). -/
def State.leaderTables (s : State) : State :=
  let reports := (Config.serial, s.myReport) :: s.fabric.reports.filter fun r => r.1 ≠ Config.serial
  let coords := coordsOf Config.serial reports
  let lx := spread (coords.map (·.2.1))
  let ly := spread (coords.map (·.2.2))
  let dir := assignIds s.fabric.active.directory (coords.map fun c => moduleFacts s reports c.1)
  let s := coords.foldl (fun s c =>
    let id := ((dir.find? fun e => e.serial = c.1).map (·.id)).getD 0
    let t := tablesFor dir coords lx ly reports c.1
    if c.1 = Config.serial then
      (s.onFabric fun f => { f with shadow := some t, shadowId := id.toNat }).set K.leaderSerial Config.serial.toNat
    else s.emit (.disc (.tables id Config.serial t))) s
  s.startBarrier

/-- ELECTION_SETTLED (R405, steps 3 and 4): offers are quiet for 10 ms; a module reports up the tree, the leader goes
on once every module has reported. -/
def execElectionSettled (quietUs : Nat) (s : State) : Host.Outcome State Fault Refusal :=
  if quietUs < 10000 ∨ s.get K.fabricState ≠ 1 then .next s
  else if s.fabric.known = Config.serial then
    let reports := (Config.serial, s.myReport) :: s.fabric.reports
    if reportsWhole reports then .next s.leaderTables else .next s
  else .next (s.emit (.disc (.report Config.serial s.myReport)))

/-- A better offer: a lower serial, or a shorter way to the same (R405, step 3). -/
def State.takeOffer (s : State) (port : Nat) (serial : BitVec 48) (dist : Nat) : State :=
  let f := s.fabric
  if serial.toNat < f.known.toNat ∨ (serial = f.known ∧ dist + 1 < f.dist) then
    s.onFabric fun f => { f with known := serial, dist := dist + 1, parent := some port }
  else s

/-- DISC (R405): an offer; a report on its way to the leader; or tables on their way down. -/
def execDisc (d : DiscMsg) (s : State) : Host.Outcome State Fault Refusal :=
  match d with
  | .offer port serial dist => .next (s.takeOffer port.val serial dist)
  | .report serial ports =>
    if s.fabric.known = Config.serial then
      let s := s.onFabric fun f => { f with reports := f.reports.filter (fun r => r.1 ≠ serial) ++ [(serial, ports)] }
      let all := (Config.serial, s.myReport) :: s.fabric.reports
      if s.get K.fabricState = 1 && reportsWhole all then .next s.leaderTables else .next s
    else .next (s.emit (.disc d))
  | .tables endpoint leader tab =>
    .next ((s.onFabric fun f => { f with shadow := some tab, shadowId := endpoint.toNat }).set K.leaderSerial leader.toNat)

/-- LEADER_LOST (R405): the path to the leader has been lost for 10 ms and discovery runs again. -/
def execLeaderLost (lostUs : Nat) (s : State) : Host.Outcome State Fault Refusal :=
  if 10000 ≤ lostUs ∧ s.get K.fabricState ≠ 0 then
    .next ((s.onFabric fun f => { f with
      known := Config.serial
      dist := 0
      parent := none
      reports := [] }).set K.fabricState 1)
  else .next s

/-! ### The epoch barrier (R412) -/

/-- A TUNE_STEP step runs here; the leader starts no barrier while it does (R412, R453). -/
def State.leaderSteps (s : State) : Bool :=
  s.fabric.known = Config.serial && s.tunes.any fun p => p.2.state = .stepping

/-- PREPARE (R412, steps 1 and 2). A barrier that was asked for at the leader while a step ran starts with its tables.
Log 113 (DEDUCED). -/
def execPrepare (s : State) : Host.Outcome State Fault Refusal :=
  if s.fabric.epochPhase = .none ∧ s.leaderSteps = false then
    if s.fabric.known = Config.serial && s.fabric.requested && s.fabric.shadow.isNone then .next s.leaderTables
    else
    let s := (s.emit (.link 3 [] [])).set K.fabricState 3
    .next (s.onFabric fun f => { f with epochPhase := .prepared }).tryReady
  else .next s

/-- A trained port carries traffic under the tables now in force, or stays at discovery (R398 step 6, R407). -/
def State.refreshPort (s : State) (n : Nat) : State :=
  match (s.port n).neighbour with
  | some nb => if s.trained n then s.setPortState n (if s.sameKey nb && s.inDirectory nb then 2 else 5) else s
  | none => s

/-- The pending fabric key becomes the active one (R307). -/
def State.swapKey (s : State) : State :=
  if s.get K.fabricKeyPending = 0 then s
  else
    let s := (s.set K.fabricKeyActive (s.get K.fabricKeyPending)).set K.fabricKeyPending 0
    { s with vault := { s.vault with fabricActive := s.vault.fabricPending, fabricPending := [] } }

/-- A neighbour with the active key that the directory now in force gives it. Log 148 (DEDUCED). -/
def Neighbour.swapped (nb : Neighbour) (dir : List DirEntry) : Neighbour :=
  match dir.find? fun e => e.serial = nb.serial with
  | some e => { nb with keyActive := e.keyId, keyPending := 0 }
  | none => nb

/-- Tables, control word, directory and fabric key swap in one step (R412 step 4, R307); entries that show them follow. -/
def State.swapTables (s : State) : State :=
  match s.fabric.shadow with
  | none => s
  | some t =>
    let id := s.fabric.shadowId
    let s := s.onFabric fun f => { f with
      active := t
      shadow := none
      epochPhase := .none
      requested := false
      readies := []
      dateline := (List.range 8).filterMap fun n => if bit t.control.toNat n then some (n, true) else none
      reorderUs := s.get K.reorderTimeout
      ports := mapVals (fun _ => FPort.dark)
        (fun (p : FPort) => { p with neighbour := p.neighbour.map fun nb => nb.swapped t.directory }) f.ports }
    let s := s.swapKey
    let s := ((s.set K.endpointId id).set K.fabricModules t.directory.length).set K.fabricState 2
    let s := s.set K.fabricCoord (wbits t.control 20 6 + 256 * wbits t.control 26 6)
    let s := (List.range 8).foldl (fun s n => s.set (K.portDateline n) (b2n (bit t.control.toNat n))) s
    (List.range 8).foldl State.refreshPort (s.bump K.fabricEpoch 1)

/-- SWAP (R412, steps 4 and 5): the swap, passed on down the tree; held transfers leave. -/
def execFabSwap (s : State) : Host.Outcome State Fault Refusal :=
  if s.fabric.shadow.isSome then .next ((s.emit (.link 5 [] [])).swapTables.launchHeld) else .next s

/-- The leader has the READY of every module but itself (R412, step 3). -/
def State.allReady (s : State) : Bool :=
  s.fabric.epochPhase = .ready && match s.fabric.shadow with
    | some t => t.directory.all fun e => e.serial = Config.serial || s.fabric.readies.contains e.serial
    | none => false

/-- READY (R412, step 3): the leader counts it and swaps once it has all; another module passes it up the tree. -/
def execFabReady (serial : BitVec 48) (s : State) : Host.Outcome State Fault Refusal :=
  if s.fabric.known = Config.serial then
    let s := s.onFabric fun f => { f with readies := f.readies.filter (· ≠ serial) ++ [serial] }
    if s.allReady then
      let dir := (s.fabric.shadow.map (·.directory)).getD []
      let ep := ((dir.find? fun e => e.serial = serial).map fun e => e.id.toNat).getD 0
      .next (((s.lastArrival 4 dir.length ep).emit (.link 5 [] [])).swapTables.launchHeld)
    else .next s
  else .next (s.emit (.link 4 [serial.toNat] []))

end Sys2Proof.Machine
end

