-- ==== Sys2Proof/Machine/DictRows.lean ====
section
/-! DEFINITION. Writes of entries that have a row of their own: fabric epochs (R412), fencing and banks (R483, R494),
the operating point (R31 to R38), resets (R513), vector_dim and role bindings (R364, R365), defaults (R536), quiesce and
identify (R577 to R580), and clears of the recorder (R568). -/

namespace Sys2Proof.Machine

/-- A write that its entry's own rule may refuse: `none` stands for OK. -/
def judged (f : Nat → State → State ⊕ Nat) (val : List Byte) (s : State) : State × BjAns :=
  match f (leNat val) s with
  | .inl s => (s, BjAns.of Bj.ok)
  | .inr st => (s, BjAns.of st)

/-- The request writes this value. -/
def State.writes (s : State) (r : BjReq) (v : Nat) : Bool := leNat (s.valueOf r) = v

/-! ### Fabric -/

/-- An epoch barrier is asked for (R412): the leader starts it or notes it; another module asks its leader. -/
def State.askEpoch (s : State) : State :=
  if s.fabric.known ≠ Config.serial then s.emit (.link 13 [] [])
  else if s.leaderSteps || s.fabric.epochPhase ≠ .none || s.get K.fabricState ≠ 2 then
    s.onFabric fun f => { f with requested := true }
  else s.leaderTables

/-- FABRIC_EPOCH_REQUEST (R412). -/
def execFabricEpochRequest (r : BjReq) (s : State) : Host.Outcome State Fault Refusal :=
  .next (s.rowWrite K.fabricEpochRequest r (applied fun v s => if v = 1 then s.askEpoch else s))

/-! ### Fencing and banks -/

/-- FROST_TILE (R483). -/
def execFrostTile (r : BjReq) (s : State) : Host.Outcome State Fault Refusal :=
  .next (s.rowWrite K.frostTile r (applied fun v s =>
    match slotOfCode v with
    | some t => s.fence t Cause.owner
    | none => s))

/-- A tile in frost whose stage has moved becomes the usable spare of a half-row that has none (R483). -/
def State.returnTile (s : State) (t : Nat) : State ⊕ Nat :=
  let h := halfRow t
  if !s.slotFrost t || s.check.fencing.contains t || s.spareUsable h then .inr Bj.entryBusy
  else
    let s := (s.setRepair t (s.repairWord t &&& 0xE1FFFFFF)).setSpare h t
    let s := s.setTile t (s.freshTile t (s.tile t).trimAsked (s.tile t).ownPace)
    let s := (s.setSuspect t Suspect.none).setKept (K.tileHealth t) 0
    .inl ((s.setKept K.frostTiles (s.get K.frostTiles - 1)).dirty Blk.repairMap)

/-- UNFROST_TILE (R483). -/
def execUnfrostTile (r : BjReq) (s : State) : Host.Outcome State Fault Refusal :=
  .next (s.rowWrite K.unfrostTile r (judged fun v s =>
    match slotOfCode v with
    | some t => s.returnTile t
    | none => .inl s))

/-- BANK_RESTORE (R494). -/
def execBankRestore (r : BjReq) (s : State) : Host.Outcome State Fault Refusal :=
  .next (s.rowWrite K.bankRestore r (applied fun v s =>
    match slotOfCode v with
    | some t =>
      let q := (t, bits v 10 5)
      { s with selftest := { s.selftest with restore := s.selftest.restore.filter (· ≠ q) ++ [q] } }
    | none => s))

/-! ### The operating point -/

/-- VCORE_SETPOINT (R37): the governor follows the new ceiling in its loops. -/
def execVcoreSetpoint (r : BjReq) (s : State) : Host.Outcome State Fault Refusal :=
  .next (s.rowWrite K.vcoreSetpoint r (applied fun v s => s.setEntry K.vcoreSetpoint v))

/-- FORCE_SAFE_PACING (R31). -/
def execForceSafePacing (r : BjReq) (s : State) : Host.Outcome State Fault Refusal :=
  .next (s.rowWrite K.forceSafePacing r (applied fun v s => s.setEntry K.forceSafePacing v))

/-- POWER_LIMIT (R38). -/
def execPowerLimit (r : BjReq) (s : State) : Host.Outcome State Fault Refusal :=
  .next (s.rowWrite K.powerLimit r (applied fun v s => s.setEntry K.powerLimit v))

/-- TILE_TRIM (R32 to R34). -/
def execTileTrim (t : Slot) (r : BjReq) (s : State) : Host.Outcome State Fault Refusal :=
  .next (s.rowWrite (K.tileTrim t.val) r (applied fun v s => s.askTrim t.val v))

/-- A pace the operator wrote (R35, R481). -/
def State.askPace (s : State) (t v : Nat) : State :=
  (s.onTile t fun x => { x with ownPace := v }).setKept (K.tilePace t) v

/-- TILE_PACE (R35). -/
def execTilePace (t : Slot) (r : BjReq) (s : State) : Host.Outcome State Fault Refusal :=
  .next (s.rowWrite (K.tilePace t.val) r (applied fun v s => s.askPace t.val v))

/-! ### Resets -/

/-- RESET_REQUEST_THAW (R513, code 11). A request for the other reset has its own row. -/
def execResetRequestThaw (r : BjReq) (s : State) : Host.Outcome State Fault Refusal :=
  if s.writes r 2 then .next s else .next (s.rowWrite K.resetRequest r (applied fun _ s => s.startThaw 11))

/-- RESET_REQUEST_MODULE (R513, code 9). -/
def execResetRequestModule (r : BjReq) (s : State) : Host.Outcome State Fault Refusal :=
  if s.writes r 1 then .next s else .next (s.rowWrite K.resetRequest r (applied fun _ s => s.startReset 2 9))

/-! ### Services -/

/-- VECTOR_DIM (R365). -/
def execVectorDim (r : BjReq) (s : State) : Host.Outcome State Fault Refusal :=
  .next (s.rowWrite K.vectorDim r (judged fun v s =>
    if s.shards.isEmpty then .inl (s.setEntry K.vectorDim v) else .inr Bj.entryBusy))

/-- Bind a plan to a role, or nothing (R364). -/
def State.bindRole (s : State) (role v : Nat) : State ⊕ Nat :=
  if v = 0 then .inl (s.set (K.rolePlan role) 0)
  else
    match s.plan v with
    | some p => if meetsRole p.file role then .inl (s.set (K.rolePlan role) v) else .inr Bj.roleMismatch
    | none => .inr Bj.roleMismatch

/-- ROLE_PLAN (R364). -/
def execRolePlan (role : Fin 24) (r : BjReq) (s : State) : Host.Outcome State Fault Refusal :=
  .next (s.rowWrite (K.rolePlan role.val) r (judged fun v s => s.bindRole role.val v))

/-! ### Defaults (R536) -/

/-- Entries that defaults_restore returns to their defaults. -/
def restorable (e : Entry) : Bool := e.persist && e.kind = .rw && e.auth = .operator && e.base ≠ 0x1200 && e.base ≠ 0x1300

/-- Keys that a row of the dictionary covers. -/
def Entry.keys (e : Entry) : List Nat :=
  (List.range e.count).flatMap fun i =>
    ((List.range (e.hi + 1 - e.lo)).filter fun j => !(e.perTile && e.lo + j = 14)).map fun j => (e.base + i) * 256 + e.lo + j

/-- One entry takes a value under its own rule, without the checks of a request: trims and paces act on their tile,
vector_dim only while no shard is stored. -/
def State.takeValue (s : State) (k v : Nat) : State :=
  let i := k / 256
  let sub := k % 256
  if 0x3200 ≤ i ∧ i < 0x3218 then
    match slotOf (i - 0x3200) sub with
    | some t => s.askTrim t v
    | none => s
  else if 0x3220 ≤ i ∧ i < 0x3238 then
    match slotOf (i - 0x3220) sub with
    | some t => s.askPace t v
    | none => s
  else if k = K.vectorDim ∧ s.shards.isEmpty = false then s
  else s.setEntry k v

/-- One entry returns to its default. -/
def State.toDefault (s : State) (k : Nat) : State :=
  if k = K.notifyMask then s.setBytes k [] else s.takeValue k (dflt k)

/-- DEFAULTS_RESTORE (R536). -/
def execDefaultsRestore (r : BjReq) (s : State) : Host.Outcome State Fault Refusal :=
  .next (s.rowWrite K.defaultsRestore r (applied fun _ s =>
    ((entries.filter restorable).flatMap Entry.keys).foldl State.toDefault s))

/-! ### Quiesce and identify -/

/-- QUIESCE_REQUEST (R577). -/
def execQuiesceRequest (r : BjReq) (s : State) : Host.Outcome State Fault Refusal :=
  if s.writes r 2 || s.writes r 3 then .next s
  else .next (s.rowWrite K.quiesceControl r (applied fun _ s => s.askQuiesce .dictionary))

/-- QUIESCE_FORCE (R578). -/
def execQuiesceForce (r : BjReq) (s : State) : Host.Outcome State Fault Refusal :=
  if s.writes r 1 || s.writes r 3 then .next s
  else .next (s.rowWrite K.quiesceControl r (applied fun _ s => s.forceQuiesce .dictionary))

/-- QUIESCE_CANCEL (R579). -/
def execQuiesceCancel (r : BjReq) (s : State) : Host.Outcome State Fault Refusal :=
  if s.writes r 1 || s.writes r 2 then .next s
  else .next (s.rowWrite K.quiesceControl r (applied fun _ s => s.cancelQuiesce))

/-- IDENTIFY (R580): 1 flashes the ring, 0 stops the flashing. -/
def execIdentify (r : BjReq) (s : State) : Host.Outcome State Fault Refusal :=
  .next (s.rowWrite K.identify r (applied fun v s =>
    ({ s with front := { s.front with flashing := decide (v = 1) } } : State).set K.identify v))

/-! ### Clears of the recorder (R568) -/

/-- A clear starts, unless one runs. Records made from now on wait. -/
def State.startClear (s : State) (v : Nat) : State ⊕ Nat :=
  if s.recorder.clearing = 1 ∨ s.recorder.clearing = 2 then .inr Bj.entryBusy
  else .inl (s.onRecorder fun r => { r with clearing := v })

/-- RECORDER_CLEAR_FAR (R568). -/
def execRecorderClearFar (r : BjReq) (s : State) : Host.Outcome State Fault Refusal :=
  if s.writes r 2 then .next s else .next (s.rowWrite K.recorderClear r (judged fun _ s => s.startClear 1))

/-- RECORDER_CLEAR_ALL (R568). -/
def execRecorderClearAll (r : BjReq) (s : State) : Host.Outcome State Fault Refusal :=
  if s.writes r 1 then .next s else .next (s.rowWrite K.recorderClear r (judged fun _ s => s.startClear 2))

end Sys2Proof.Machine
end

