-- ==== Sys2Proof/Machine/FabricEvents.lean ====
section
/-! DEFINITION. Events of the fabric: packets in and through the module, acknowledgement, retransmission and loss
(R400, R410 to R418), multicast retry (R423), remote windows (R135, R137, R425 to R429). -/

namespace Sys2Proof.Machine

/-- FABRIC_PACKET_ARRIVE (R399, R402, R407, R410): header and payload of a packet, and the tag that follows them. -/
def execFabricPacketArrive (port : Port) (p : Packet) (tag : BitVec 128) (s : State) : Host.Outcome State Fault Refusal :=
  if s.portUp port.val then .next (s.packetIn port.val (p.withTag tag)) else .next s

/-- PACKET_LIFETIME_DISCARD (R400): a packet over its hops, its wait or its age is discarded. -/
def execPacketLifetimeDiscard (p : Packet) (waitUs : Nat) (s : State) : Host.Outcome State Fault Refusal :=
  if 64 ≤ p.hops ∨ 100 < waitUs ∨ 1000 < p.age then .next (s.bump K.lifetimeDiscards 1) else .next s

/-- ACK_TIMER (R415). Log 13 (DESIGN CHOICE). -/
def execAckTimer (src flow : BitVec 16) (s : State) : Host.Outcome State Fault Refusal :=
  let f := s.rflow src flow
  if f.unacked = 0 ∧ s.ackPoint f = f.acked then .next s else .next (s.sendAck src flow)

/-- ACK (R415). -/
def execFabAck (src flow seq : BitVec 16) (s : State) : Host.Outcome State Fault Refusal := .next (s.takeAck src flow seq)

/-- NACK (R417). -/
def execFabNack (src flow seq : BitVec 16) (count : Nat) (s : State) : Host.Outcome State Fault Refusal :=
  .next (s.takeNack src flow seq count)

/-- STATUS (R418, R423, R424). -/
def execFabStatus (src flow seq : BitVec 16) (code : Byte) (s : State) : Host.Outcome State Fault Refusal :=
  .next (s.takeStatus src flow seq code.toNat)

/-! ### Gaps (R417) -/

/-- Packets missing from the expected SEQ up to the nearest one held. -/
def RFlow.missing (f : RFlow) : Nat :=
  (f.held.map fun p => (p.seq - f.next).toNat).foldl min 65535

/-- The transfer with the gap is lost: its held packets go, the expected SEQ moves to the next FIRST packet held (R417). -/
def State.loseGap (s : State) (f : RFlow) : State :=
  let firsts := (f.held.filter (·.first)).map fun p => (p.seq - f.next).toNat
  let jump := firsts.foldl min 65536
  let jump := if jump = 65536 then ((f.held.map fun p => (p.seq - f.next).toNat + 1).foldl max 1) else jump
  let s := s.setRflow { f with
    next := f.next + BitVec.ofNat 16 jump
    held := f.held.filter fun p => jump ≤ (p.seq - f.next).toNat
    nacks := 0 }
  (s.sendStatus f.src.toNat f.flow.toNat f.next.toNat 0x1D).advanceFlow f.src f.flow (f.held.length + 1)

/-- REORDER_TIMEOUT (R417): three NACKs, then the transfer ends with FABRIC_LOSS. -/
def execReorderTimeout (src flow : BitVec 16) (elapsedUs : Nat) (s : State) : Host.Outcome State Fault Refusal :=
  let f := s.rflow src flow
  if f.held.isEmpty ∨ f.missing = 0 ∨ elapsedUs < s.fabric.reorderUs then .next s
  else if f.nacks < 3 then
    .next ((s.setRflow { f with nacks := f.nacks + 1 }).sendControl .nack src.toNat flow.toNat
      (BitVec.ofNat 32 (f.next.toNat + fld f.missing 16 16)) [])
  else .next (s.loseGap f)

/-- The newest unacknowledged packet of a destination and flow. -/
def State.highestUnacked (s : State) (dst flow : BitVec 16) : Option Packet :=
  ((s.fabric.transfers.filter fun t => t.sent && t.dst = dst && t.flow = flow).flatMap (·.packets)).getLast?

/-- RETRANSMIT_TIMEOUT (R417). -/
def execRetransmitTimeout (dst flow : BitVec 16) (elapsedUs : Nat) (s : State) : Host.Outcome State Fault Refusal :=
  match s.highestUnacked dst flow with
  | some p => if 2 * s.fabric.reorderUs ≤ elapsedUs then .next (s.resend p) else .next s
  | none => .next s

/-- Every target of a multicast that has not answered is lost. -/
def Mcast.loseRest (m : Mcast) : Mcast :=
  m.miss (m.targets &&& ~~~(m.delivered ||| m.missed ||| m.lost ||| m.refused)) 0x1D

/-- TRANSFER_LOSS_TIMEOUT (R417): the oldest transfer of a destination and flow is lost. -/
def execTransferLossTimeout (dst flow : BitVec 16) (elapsedUs : Nat) (s : State) : Host.Outcome State Fault Refusal :=
  if elapsedUs < 6 * s.fabric.reorderUs then .next s
  else if isMcastFlow flow.toNat && (s.mcastsOf flow.toNat).length ≠ 0 then
    match (s.mcastsOf flow.toNat).head? with
    | some m => .next (s.onMcast m.id Mcast.loseRest)
    | none => .next s
  else
    match s.fabric.transfers.find? fun t => t.sent && t.dst = dst && t.flow = flow with
    | some t => .next ((s.endTransfer t 0x1D).resendPart t 0x1D).launchHeld
    | none => .next s

/-! ### Multicast -/

/-- MULTICAST_RETRY (R423): the message goes again to the targets refused for retry. -/
def execMulticastRetry (i : Nat) (elapsedUs : Nat) (s : State) : Host.Outcome State Fault Refusal :=
  match s.fabric.mcasts[i]? with
  | none => .next s
  | some m =>
    if m.refused = 0#64 ∨ 3 ≤ m.retries ∨ elapsedUs < s.get K.multicastRetryInterval then .next s
    else
      .next ((s.onFabric fun f => { f with mcasts := f.mcasts.map fun c =>
        if c.id = m.id then { c with retries := c.retries + 1, refused := 0 } else c }).sendMcast m m.refused)

/-! ### Windows -/

/-- WINDOW_WRITE_LAND (R135, R427): the bytes of a window write land, or the write is refused and counted. -/
def execWindowWriteLand (w : Fin 256) (src : BitVec 16) (offset : Nat) (data : List Byte) (s : State) :
    Host.Outcome State Fault Refusal :=
  .next (s.takeWrite w.val src.toNat offset data).1

/-- WINDOW_CLOSE_COMPLETE (R137, R428): a closing window whose peers have all answered is closed. -/
def execWindowCloseComplete (w : Fin 256) (s : State) : Host.Outcome State Fault Refusal :=
  let v := s.window w.val
  if v.state = 2 ∧ v.waitAck.isEmpty = true then .next (s.closeComplete w.val) else .next s

/-- WCLOSE (R428, step 3). -/
def execWclose (owner : BitVec 16) (w : Fin 256) (s : State) : Host.Outcome State Fault Refusal :=
  .next (s.takeClose owner w.val)

/-- WCLOSE_ACK (R428, step 4). -/
def execWcloseAck (peer : BitVec 16) (w : Fin 256) (s : State) : Host.Outcome State Fault Refusal :=
  .next (s.closeAck w.val [peer.toNat])

/-- WINDOW_REUSE_HOLD (R429): the number of a closed window is free again. -/
def execWindowReuseHold (w : Fin 256) (elapsedMs : Nat) (s : State) : Host.Outcome State Fault Refusal :=
  let v := s.window w.val
  if v.state = 0 ∧ v.freedAt.isSome = true ∧ s.get K.windowReuseHold ≤ elapsedMs then
    .next (s.setWindow w.val Window.closed)
  else .next s

end Sys2Proof.Machine
end

