-- ==== Sys2Proof/Machine/FlashRows.lean ====
section
/-! DEFINITION. Writing boot flash (R515 to R517), the end of a copy conflict (R519) and firmware installs (R312, R520,
R523). -/

namespace Sys2Proof.Machine

/-! ### Blocks -/

/-- A block that may be written now: not the dictionary while its copies conflict (R519), not a security block that only
the factory restores (R518) or a revoked vault does not sign (R288). -/
def State.mayWrite (s : State) (b : Nat) : Bool :=
  !(b = Blk.dictionary && s.get K.bootFlashState = 2) && !(b = Blk.security && s.revoked)

/-- Boot flash takes writes: rails up, no hold of a supply dip (R517, R527). -/
def State.flashFree (s : State) : Bool := s.power.phase = .up && !s.dipping

/-- A block waits no longer. -/
def State.written (s : State) (b : Nat) : State :=
  { s with flash := { s.flash with waiting := s.flash.waiting.filter (· ≠ b) } }

/-- What the vault learns from a security block written: the last block of the seal counter recorded (R305). -/
def State.recordSeal (s : State) (b : Nat) : State :=
  if b = Blk.security then { s with vault := { s.vault with sealBlock := s.vault.reserved } } else s

/-- Copy B, read back, then copy A (R517). A copy whose read-back fails is not intact, and the block goes on waiting.
Log 44 (DEDUCED). -/
def State.writeBlock (s : State) (b : Nat) (okB okA : Bool) : State :=
  let k := s.block b
  let body := s.blockBody b
  let c : FlashCopy := ⟨true, k.nextSeq, body⟩
  if !okB then s.setBlock b { k with b := { c with intact := false } }
  else if !okA then (s.setBlock b ⟨{ c with intact := false }, c⟩).recordSeal b
  else ((s.setBlock b ⟨c, c⟩).recordSeal b).written b

/-- FLASH_BLOCK_WRITE (R517): the block that has waited longest. -/
def execFlashBlockWrite (readBackB readBackA : Bool) (s : State) : Host.Outcome State Fault Refusal :=
  if s.flashFree then
    match s.flash.waiting.find? s.mayWrite with
    | none => .next s
    | some b => .next (s.writeBlock b readBackB readBackA)
  else .next s

/-- PERSIST_FLUSH (R517): persisted counters wait to be written with the dictionary. -/
def execPersistFlush (s : State) : Host.Outcome State Fault Refusal :=
  if s.power.phase = .up ∧ s.serves = true then .next (s.dirty Blk.dictionary) else .next s

/-! ### Blocks as bytes (R515, R516, R521) -/

/-- Offset and size of a block in a device (R515). -/
def blockPlace : Nat → Nat × Nat
  | 0 => (0x0000000, 0x10000)
  | 1 => (0x0010000, 0x100000)
  | 2 => (0x0110000, 0x100000)
  | 3 => (0x0210000, 0x2000000)
  | 4 => (0x2210000, 0x10000)
  | 5 => (0x2220000, 0x40000)
  | 6 => (0x2260000, 0x10000)
  | 7 => (0x2270000, 0x10000)
  | _ => (0x3280000, 0)

/-- Header bytes 0 to 15 of a block (R516). -/
def blockHead (ty seq len : Nat) : List Byte :=
  [0x53, 0x4B, 0x42, 0x42] ++ leBytes 1 ty ++ [1] ++ zeros 2 ++ leBytes 4 seq ++ leBytes 4 len

/-- A block as its bytes: header and body (R516). -/
def blockBytes (ty seq : Nat) (body : List Byte) : List Byte :=
  let h := blockHead ty seq body.length
  h ++ leBytes 4 (crc32c (h ++ body)).toNat ++ zeros 12 ++ body

/-- The bytes of a device from a block's offset on hold an intact block: MAGIC, TYPE and LENGTH valid, and the CRC matches
(R516). A copy's `intact` stands for this. -/
def blockIntact (ty : Nat) (l : List Byte) : Bool :=
  let n := leAt l 12 4
  slice l 0 4 = [0x53, 0x4B, 0x42, 0x42] && leAt l 4 1 = ty && decide (32 + n ≤ (blockPlace ty).2) && decide (32 + n ≤ l.length)
    && decide (leAt l 16 4 = (crc32c (slice l 0 16 ++ slice l 32 n)).toNat)

/-- The body of the repair map: one word per slot in ascending order (R521). -/
def State.repairBytes (s : State) : List Byte := allSlots.flatMap fun t => leBytes 4 (s.repairWord t).toNat

/-! ### Copy conflicts (R519) -/

/-- A key whose value a copy of the dictionary gives: persisted, and kept neither by the vault nor by the power stages,
and not the count of tiles in frost, which follows the repair map. -/
def fromCopy (k : Nat) : Bool := !vaultKeys.contains k && !keptKeys.contains k && k ≠ K.frostTiles

/-- An entry takes the value of a copy, under its own rule where it may be written. -/
def State.takeCopy (s : State) (body : List (Nat × Nat)) (e : Entry) (k : Nat) : State :=
  match e.typ with
  | .octet _ | .domain => s.setBytes k (unpackBytes (look (fun _ => 1) body k))
  | _ => if e.kind = .rw then s.takeValue k (look dflt body k) else s.set k (look dflt body k)

/-- The values of a copy come into force. A tile in frost still reads so. Log 115 (DEDUCED). -/
def State.takeBody (s : State) (body : List (Nat × Nat)) : State :=
  let old := s.operatorKeyList
  let s := (entries.filter fun e => e.persist).foldl (fun s e => (e.keys.filter fromCopy).foldl (fun s k => s.takeCopy body e k) s) s
  let s := allSlots.foldl (fun s t => if s.slotFrost t then s.set (K.tileHealth t) 4 else s) s
  (s.pruneOperators old).loadSuspects

/-- The conflict is over: both copies are written with what is in force. -/
def State.endConflict (s : State) : State := (s.set K.bootFlashState 0).dirty Blk.dictionary

/-- A resolution, refused without a conflict (R530). Log 115 (DEDUCED). -/
def State.resolve (s : State) (f : State → State) : State ⊕ Nat :=
  if s.get K.bootFlashState = 2 then .inl (f s).endConflict else .inr Bj.entryBusy

/-- COPY_RESOLVE_A (R519). -/
def execCopyResolveA (r : BjReq) (s : State) : Host.Outcome State Fault Refusal :=
  if s.writes r 2 || s.writes r 3 then .next s
  else .next (s.rowWrite K.copyResolve r (judged fun _ s => s.resolve fun s => s.takeBody (s.block Blk.dictionary).a.body))

/-- COPY_RESOLVE_B (R519). -/
def execCopyResolveB (r : BjReq) (s : State) : Host.Outcome State Fault Refusal :=
  if s.writes r 1 || s.writes r 3 then .next s
  else .next (s.rowWrite K.copyResolve r (judged fun _ s => s.resolve fun s => s.takeBody (s.block Blk.dictionary).b.body))

/-- COPY_RESOLVE_KEEP (R519). -/
def execCopyResolveKeep (r : BjReq) (s : State) : Host.Outcome State Fault Refusal :=
  if s.writes r 1 || s.writes r 2 then .next s
  else .next (s.rowWrite K.copyResolve r (judged fun _ s => s.resolve id))

/-! ### Firmware (R312, R520, R523) -/

/-- TYPE, SVN and DIGEST of an image (R311). -/
def fwType (b : List Byte) : Nat := leAt b 4 1
def fwSvn (b : List Byte) : Nat := leAt b 6 2
def fwDigest (b : List Byte) : List Byte := slice b 16 32

/-- The header of an image is well formed and its LENGTH is that of the body (R311). -/
def fwFormat (b : List Byte) : Bool :=
  256 ≤ b.length && slice b 0 4 = [0x53, 0x4B, 0x46, 0x57] && 1 ≤ fwType b && fwType b ≤ 3 && leAt b 5 1 = 0
    && leAt b 8 8 = b.length - 256 && leAt b 248 8 = 0

/-- An image passes R312 but for its SVN: format, signatures, digest of its body. -/
def fwSound (b : List Byte) (k : FwCheck) : Bool :=
  fwFormat b && k.endorseOk && k.sigOk && fwDigest b = sm3Bytes (b.drop 256)

/-- Code of R520 for an image. -/
def State.fwCode (s : State) (b : List Byte) (k : FwCheck) : Nat :=
  if !fwSound b k then 1
  else if fwSvn b < s.get K.minSvn then 2
  else if !k.readBackOk then 3
  else 0

/-- The image is written over the block of its TYPE, B first; a failed read-back leaves A as it was. -/
def State.writeImage (s : State) (b : List Byte) (k : FwCheck) : State :=
  let old := s.block (fwType b)
  let c : FlashCopy := ⟨true, old.nextSeq, [(0, fwSvn b), (1, leNat (fwDigest b))]⟩
  if k.readBackOk then s.setBlock (fwType b) ⟨c, c⟩ else s.setBlock (fwType b) { old with b := { c with intact := false } }

/-- An install with its code: nothing is written of an image that fails its checks. Log 116 (DEDUCED). -/
def State.installImage (s : State) (b : List Byte) (k : FwCheck) : State × BjAns :=
  let code := s.fwCode b k
  let s := if code = 0 ∨ code = 3 then s.writeImage b k else s
  let s := s.set K.lastFirmwareStatus code
  (s, if code = 0 then BjAns.of Bj.ok else ⟨Bj.domainRejected, code, []⟩)

/-- The end of an upload to the boot ROM in recovery: only boot-node firmware serves; a module reset follows, whose cause
R513 does not number. Log 116 (DEDUCED). -/
def State.recoverImage (s : State) (r : BjReq) (k : FwCheck) : State :=
  if s.endMismatch r then (s.dropUpload r).emit (replyOf r Op.writeEnd 0 none (BjAns.of Bj.digestMismatch))
  else
    let b := s.uploaded r
    let (s, a) := (s.dropUpload r).installImage b { k with sigOk := k.sigOk && decide (fwType b = 1) }
    let s := s.emit (replyOf r Op.writeEnd 0 none a)
    if a.status = Bj.ok then
      let (n, s) := s.draw
      s.startWith 2 (Config.choice 12 n % 15) false
    else s

/-- FIRMWARE_INSTALL (R520): the moment at which an image is checked and written; it waits for a hold of boot flash to
end. Log 116 (DEDUCED). -/
def execFirmwareInstall (r : BjReq) (chk : FwCheck) (s : State) : Host.Outcome State Fault Refusal :=
  if s.dipping then .next s
  else if s.recovers r then .next (if r.ends then s.recoverImage r chk else s)
  else .next (s.rowWrite K.firmwareInstall r fun b s => s.installImage b chk)

end Sys2Proof.Machine
end

