-- ==== Sys2Proof/Machine/OwnerRows.lean ====
section
/-! DEFINITION. The owner (R289, R290), keys and licences (R295, R299, R312 to R314), quotes (R310) and clearing before scan
(R316, R317). -/

namespace Sys2Proof.Machine

/-! ### Quiet -/

/-- A descriptor is admitted or runs: it holds resources and its answer is not final. Log 117 (DEDUCED). -/
def Desc.working (d : Desc) : Bool := d.hold.isSome && (d.answer.isNone || d.held)

/-- No job is admitted or running (R290, R316). Log 117 (DEDUCED). -/
def State.noWork (s : State) : Bool :=
  !(s.host.channels.any fun p => p.2.fly.any Desc.working) &&
  (List.range 48).all fun st =>
    let v := s.strand st
    v.job.isNone && v.next.isNone && v.rawLoads.isEmpty

/-! ### Clearing tiles and stores -/

/-- A tile that has lost its contents: it keeps its place, its trim and pace, and the window slots in use. -/
def State.wipeTile (s : State) (t : Nat) : State :=
  let x := s.tile t
  let y := s.freshTile t x.trimAsked x.ownPace
  s.setTile t { y with safe := x.safe, pad := { y.pad with winslots := x.pad.winslots } }

/-- Every tile clears its state (step 4 of R316); strands drop what they were primed with, but a re-placement goes on. -/
def State.wipeTiles (s : State) : State :=
  let s := allSlots.foldl (fun s t => (s.abandonSlice t).wipeTile t) s
  let s := (List.range 48).foldl (fun s st => s.onStrand st fun v =>
    if v.phase = .replacing then { v with resA := 0, resB := 0, plan := 0 } else v.thawed) s
  { s with check := { s.check with disputes := [], posted := [], watch := [] } }

/-- Service cores clear their state: the queues of their clusters and what they were sending (step 4 of R316). -/
def State.wipeCores (s : State) : State :=
  { s with net := { s.net with clusters := [], nodeSends := s.net.nodeSends.filter fun n => n.flow.isSome } }

/-- Plans, bindings and resident sets go (R290). -/
def State.dropPlans (s : State) : State :=
  let s := allRoles.foldl (fun s r => s.set (K.rolePlan r) 0) s
  { s with plans := [], check := { s.check with planLosses := [] } }

/-- Windows of the sessions begin to close and every session is closed (R290). -/
def State.dropTunes (s : State) : State :=
  let ws := s.tunes.filterMap fun p => p.2.window
  { ws.foldl State.beginClose s with tunes := [] }

/-- Every key goes, and no port carries traffic beyond discovery (R290, R307). -/
def State.dropKeys (s : State) : State :=
  let s := { s with vault := { s.vault with keys := [], fabricActive := [], fabricPending := [] } }
  let s := (s.set K.fabricKeyActive 0).set K.fabricKeyPending 0
  (List.range 8).foldl State.refreshPort s

/-- Addresses that a release leaves: the two Abano regions and the recorder ring (R257, R290). -/
def keptByRelease (a : Nat) : Bool := a < 0x0400000000 || 0xFC00000000 ≤ a

/-- Every other line of both tiers is written with zeros. -/
def State.zeroTiers (s : State) : State :=
  { s with mem := { s.mem with
      cells := s.mem.cells.filter fun p => keptByRelease p.1
      poison := s.mem.poison.filter fun p => keptByRelease (64 * p.1)
      writes := s.mem.writes.filter fun w => keptByRelease (64 * w.line) } }

/-! ### The owner -/

/-- Every session ends (R539). -/
def State.endAllSessions (s : State) : State := s.endSessions fun _ => true

/-- A claim (R289). -/
def State.claim (s : State) (sigOk : Bool) (val : List Byte) : State × BjAns :=
  if s.get K.ownerState ≠ 0 then (s, BjAns.of Bj.ownerPresent)
  else if !sigOk then (s, BjAns.of Bj.ownerSig)
  else
    let s := ((s.set K.ownerState 1).bump K.ownerEpoch 1).setOctet K.ownerKey (slice val 0 64)
    ((s.dirty Blk.security).endAllSessions, BjAns.of Bj.ok)

/-- OWNER_CLAIM (R289). -/
def execOwnerClaim (r : BjReq) (sigOk : Bool) (s : State) : Host.Outcome State Fault Refusal :=
  .next (s.rowWrite K.ownerClaim r fun val s => s.claim sigOk val)

/-- What an accepted release does (R290). Log 118 (DEDUCED). -/
def State.release (s : State) : State :=
  let s := (s.dropKeys.dropPlans).dropTunes.setKept K.rawChannelsAuthorised 0
  let s := { s with shards := [], batches := [], host := { s.host with apertures := [] } }
  let s := s.wipeTiles.wipeCores.zeroTiers
  ((s.setOctet K.ownerKey (zeros 64)).set K.ownerState 0).dirty Blk.security |>.endAllSessions

/-- OWNER_RELEASE (R290). Log 118 (DEDUCED). -/
def execOwnerRelease (r : BjReq) (sigOk : Bool) (s : State) : Host.Outcome State Fault Refusal :=
  .next (s.rowWrite K.ownerRelease r fun _ s =>
    if !s.noWork then (s, BjAns.of Bj.notQuiesced)
    else if !sigOk then (s, BjAns.of Bj.ownerSig)
    else (s.release, BjAns.of Bj.ok))

/-! ### Keys -/

/-- An install through the entry (R295, R544). -/
def State.keyByEntry (s : State) (val : List Byte) (chk : KeyCheck) : State × BjAns :=
  let r := s.installKey val chk
  (r.1, if r.2 = 0 then BjAns.of Bj.ok else ⟨Bj.domainRejected, r.2, []⟩)

/-- KEY_INSTALL (R295). -/
def execKeyInstall (src : KeySource) (chk : KeyCheck) (s : State) : Host.Outcome State Fault Refusal :=
  match src with
  | .channel c i blob => .next (s.keyByDesc (c.val, i.toNat) blob chk)
  | .entry r => .next (s.rowWrite K.keyInstall r fun val s => s.keyByEntry val chk)

/-- A key leaves the table; a pinned copy lives until its last unpin (R299). Log 119 (DESIGN CHOICE). -/
def State.removeKey (s : State) (id : Nat) : State :=
  s.setKeys (s.vault.keys.filterMap fun k =>
    if k.id = id && !k.removed then (if k.pins = 0 then none else some { k with removed := true }) else some k)

/-- KEY_REMOVE (R299). Log 119 (DESIGN CHOICE). -/
def execKeyRemove (r : BjReq) (s : State) : Host.Outcome State Fault Refusal :=
  .next (s.rowWrite K.keyRemove r (applied fun id s => s.removeKey id))

/-! ### Licences (R313, R314) -/

/-- LICENCE_SERIAL. -/
def licSerial (b : List Byte) : Nat := leAt b 8 8

/-- The format of a licence and the values of its feature fields (R313). -/
def licFormat (b : List Byte) : Bool :=
  b.length = 320 && slice b 0 4 = [0x53, 0x4B, 0x4C, 0x43] && leAt b 4 1 = 1 && (leAt b 5 1 = 1 || leAt b 5 1 = 2)
    && leAt b 6 2 = 0 && leAt b 60 4 = 0 && leAt b 72 56 = 0 && [0, 2, 4, 8].contains (leAt b 56 1) && leAt b 57 1 ≤ 1
    && [0, 2, 8].contains (leAt b 58 1) && [0, 32, 48].contains (leAt b 59 1)

/-- The licence is bound to this module's identity. -/
def licOurs (b : List Byte) : Bool :=
  leAt b 16 8 = Config.serial.toNat && slice b 24 32 = sm3Bytes (padTo 64 Config.idsPublic)

/-- Place of an outcome in the table of R314. Log 111 (DESIGN CHOICE). -/
def State.licCode (s : State) (b : List Byte) (sigOk : Bool) : Nat :=
  if !licFormat b || !sigOk then 1
  else if !licOurs b then 2
  else if s.vault.licences.any fun l => l.serial = licSerial b then 0
  else if 32 ≤ s.vault.licences.length then 3
  else 0

/-- A licence comes into force: stored, measured in M3, its features applied (R308, R314). Log 120 (DEDUCED). -/
def State.addLicence (s : State) (b : List Byte) : State :=
  if s.vault.licences.any fun l => l.serial = licSerial b then s
  else
    let l : Licence := ⟨licSerial b, Config.sm3 b, leAt b 56 1, leAt b 57 1 = 1, leAt b 58 1, leAt b 59 1⟩
    let m := setAt s.vault.meas 3 (extend (s.vault.meas.getD 3 0) l.digest)
    let s := { s with vault := { s.vault with licences := s.vault.licences ++ [l], meas := m } }
    (s.dirty Blk.licences).applyLicences.lightPorts

/-- An install of a licence. One that fails or names another module is reported (R9). Log 120 (DEDUCED). -/
def State.installLicence (s : State) (b : List Byte) (sigOk : Bool) : State × BjAns :=
  if s.get K.identityState = 2 then (s, BjAns.of Bj.identityRevoked)
  else
    let c := s.licCode b sigOk
    let code := (Config.licenceCode c).toNat
    let s := s.set K.lastLicenceStatus code
    if c = 0 then (s.addLicence b, BjAns.of Bj.ok)
    else
      let s := if c = 3 then s else s.raise 0x22 (leBytes 8 (licSerial b))
      (s, ⟨Bj.domainRejected, code, []⟩)

/-- LICENCE_INSTALL (R313, R314): whether SIGNER_ENDORSE and SIGNATURE verify. Log 120 (DEDUCED). -/
def execLicenceInstall (r : BjReq) (endorseOk sigOk : Bool) (s : State) : Host.Outcome State Fault Refusal :=
  .next (s.rowWrite K.licenceInstall r fun val s => s.installLicence val (endorseOk && sigOk))

/-! ### min_svn and quotes -/

/-- The lowest SVN among the images running. -/
def State.lowestSvn (s : State) : Nat :=
  match s.flash.images with
  | [] => 0
  | p :: l => (l.map fun (q : Nat × Nat) => q.2).foldl min p.2

/-- COMMIT_SVN (R312): min_svn never falls. -/
def execCommitSvn (r : BjReq) (s : State) : Host.Outcome State Fault Refusal :=
  .next (s.rowWrite K.commitSvn r (applied fun v s =>
    if v = 1 then s.set K.minSvn (max (s.get K.minSvn) s.lowestSvn) else s))

/-- A challenge joins the vault's queue (R310); a revoked module signs nothing (R288). -/
def State.challenge (s : State) (val : List Byte) : State × BjAns :=
  match s.askQuote false 0 val with
  | none => (s, BjAns.of Bj.quoteBusy)
  | some s' => if s.get K.identityState = 2 then (s, BjAns.of Bj.identityRevoked) else (s', BjAns.of Bj.ok)

/-- QUOTE_REQUEST (R310). Log 121 (DEDUCED). -/
def execQuoteRequest (r : BjReq) (s : State) : Host.Outcome State Fault Refusal :=
  .next (s.rowWrite K.quote r fun val s => s.challenge val)

/-! ### Clearing before scan (R316, R317) -/

def State.onVault (s : State) (f : Vault → Vault) : State := { s with vault := f s.vault }

/-- Step 2: the clear-begun bit is burnt, admission and the P classes are closed. -/
def State.clearBegin (s : State) : State :=
  let s := s.closeP.set K.priorityClassState 2
  { s with boot := .clearing, vault := { s.vault with clearBegun := true } }

/-- Step 3: the vault's SRAM is zero, and with the memory key both tiers are unreadable. -/
def State.clearVault (s : State) : State :=
  let s := s.dropKeys.dropPlans
  { s with
    shards := []
    batches := []
    tunes := []
    mem := { s.mem with keyPresent := false, writes := [] }
    vault := { s.vault with
      fills := []
      meas := List.replicate 8 0
      quotes := []
      quote := [] } }

/-- Step 4: tiles, service cores, ingest engines, sealing engines and fabric nodes are cleared. -/
def State.clearTiles (s : State) : State :=
  let s := s.wipeTiles.wipeCores
  { s with
    check := Check.reset
    net := { s.net with nodeSends := [] }
    fabric := { s.fabric with
      transfers := []
      mcasts := []
      closes := []
      flows := s.fabric.flows.map fun (f : RFlow) => { f with held := [], unacked := 0, nacks := 0 } } }

/-- Step 5: the identity store is overwritten. -/
def State.clearIdentity (s : State) : State := (s.set K.identityState 2).set K.frontFaultCode 7

/-- Step 6: a failed read-back stands until the module is powered off (R317). -/
def State.clearReadBack (s : State) : State :=
  if s.vault.readBack then s else (s.set K.scanState 3).raise 0x25 []

/-- Step 7. -/
def State.clearDone (s : State) : State := { s with boot := .cleared }.set K.scanState 2

/-- The step of clearing after the last one done (R316). Log 5 (DESIGN CHOICE), 122 (DEDUCED). -/
def State.clearNext (s : State) : State :=
  match s.vault.clearStep with
  | 1 => s.clearBegin.onVault fun v => { v with clearStep := 2 }
  | 2 => s.clearVault.onVault fun v => { v with clearStep := 3 }
  | 3 => s.clearTiles.onVault fun v => { v with clearStep := 4 }
  | 4 => s.clearIdentity.onVault fun v => { v with clearStep := 5 }
  | 5 =>
    let s := s.clearReadBack
    if s.get K.scanState = 3 then ({ s with boot := .cleared } : State).onVault fun v => { v with clearStep := 0 }
    else s.onVault fun v => { v with clearStep := 6 }
  | 6 => s.clearDone.onVault fun v => { v with clearStep := 0 }
  | _ => s

/-- Step 1: scan_clear is accepted. A clearing under way goes on, and one that failed stands (R317).
Log 122 (DEDUCED). -/
def State.beginClear (s : State) (readBackOk : Bool) : State :=
  if s.vault.clearStep ≠ 0 then s
  else
    let failed := decide (s.get K.scanState = 3)
    let s := if failed then s else s.set K.scanState 1
    s.onVault fun v => { v with clearStep := 1, readBack := readBackOk && !failed }

/-- SCAN_CLEAR (R316). Log 122 (DEDUCED). -/
def execScanClear (r : BjReq) (readBackOk : Bool) (s : State) : Host.Outcome State Fault Refusal :=
  .next (s.rowWrite K.scanClear r (judged fun v s =>
    if v = 0 then .inl s
    else if !s.noWork then .inr Bj.notQuiesced
    else .inl (s.beginClear readBackOk)))

end Sys2Proof.Machine
end

