-- ==== Sys2Proof/Machine/TestPort.lean ====
section
/-! DEFINITION. The test port (R315). -/

namespace Sys2Proof.Machine

/-! ### Codes of the instructions -/

namespace Jtag
def extest : Nat := 0x00
def idcode : Nat := 0x01
def sample : Nat := 0x02
def clamp : Nat := 0x04
def highz : Nat := 0x05
def inscan : Nat := 0x20
def bypass : Nat := 0xFF

/-- The instruction that an 8-bit code acts as: one that is not listed acts as BYPASS. -/
def decode (code : BitVec 8) : Nat :=
  if [extest, idcode, sample, clamp, highz, inscan].contains code.toNat then code.toNat else bypass
end Jtag

/-- The pins are taken from the boundary register under this instruction. -/
def takesPins (i : Nat) : Bool := i = Jtag.extest || i = Jtag.clamp || i = Jtag.highz

/-- EXTEST, CLAMP or HIGHZ is left: the power stages cycle every rail but VSTBY (R513, code 3). Log 123 (DEDUCED). -/
def State.leavePins (s : State) : State := if takesPins s.vault.testInstr then (s.railsOff .standby).railsUp 3 else s

/-- An instruction stands in the instruction register. Log 123 (DEDUCED). -/
def State.setTest (s : State) (i : Nat) : State := { s with vault := { s.vault with testInstr := i } }

/-- The test port has power. -/
def State.testPort (s : State) (f : State → State) : State := if s.power.phase = .up then f s else s

/-- An instruction that takes the pins: the module must be quiesced, else it acts as BYPASS. P classes close. -/
def State.drivePins (s : State) (i : Nat) : State :=
  if s.vault.testInstr = i then s
  else
    let s := s.leavePins
    if s.quiesced then
      let s := (s.setTest i).closeP
      { s with vault := { s.vault with pinsFromRegister := true } }
    else s.setTest Jtag.bypass

/-- The IDCODE register: die revision, 0xA048, the code in jtag_idcode, 1. -/
def idcodeWord : Nat :=
  let v := Config.idcode.toNat
  1 + 2 * bits v 1 11 + fld 0xA048 12 16 + fld (bits v 28 4) 28 4

/-- SAMPLE/PRELOAD: the boundary register takes the levels at the pins, and the module runs on. -/
def State.samplePins (s : State) : State :=
  let (n, s) := s.leavePins.draw
  let s := s.setTest Jtag.sample
  { s with vault := { s.vault with boundary := Config.freeNat n } }

/-- INSCAN: internal scan only after clearing; otherwise BYPASS, and TEST_REFUSED is raised. -/
def State.scanChains (s : State) : State :=
  let s := s.leavePins
  if s.get K.scanState = 2 then s.setTest Jtag.inscan else (s.setTest Jtag.bypass).raise 0x26 []

/-- A code is shifted into the instruction register. -/
def State.shiftIr (s : State) (code : BitVec 8) : State :=
  let i := Jtag.decode code
  if takesPins i then s.drivePins i
  else if i = Jtag.idcode then (s.leavePins.setTest Jtag.idcode).emit (.testData idcodeWord)
  else if i = Jtag.sample then s.samplePins
  else if i = Jtag.inscan then s.scanChains
  else s.leavePins.setTest Jtag.bypass

/-- EXTEST (R315). -/
def execExtest (s : State) : Host.Outcome State Fault Refusal := .next (s.testPort fun s => s.shiftIr 0x00)

/-- CLAMP (R315). -/
def execClamp (s : State) : Host.Outcome State Fault Refusal := .next (s.testPort fun s => s.shiftIr 0x04)

/-- HIGHZ (R315). -/
def execHighz (s : State) : Host.Outcome State Fault Refusal := .next (s.testPort fun s => s.shiftIr 0x05)

/-- IDCODE (R315). -/
def execIdcode (s : State) : Host.Outcome State Fault Refusal := .next (s.testPort fun s => s.shiftIr 0x01)

/-- SAMPLE/PRELOAD (R315). Log 123 (DEDUCED). -/
def execSamplePreload (s : State) : Host.Outcome State Fault Refusal := .next (s.testPort fun s => s.shiftIr 0x02)

/-- INSCAN (R315). -/
def execInscan (s : State) : Host.Outcome State Fault Refusal := .next (s.testPort fun s => s.shiftIr 0x20)

/-- BYPASS (R315): its own code; one that is not listed acts alike (`Jtag.decode`). -/
def execBypass (s : State) : Host.Outcome State Fault Refusal := .next (s.testPort fun s => s.shiftIr 0xFF)

end Sys2Proof.Machine
end

