-- ==== Sys2Proof/Machine/RecorderEvents.lean ====
section
/-! DEFINITION. The event recorder's own events: interval ends (R560, R563), pages written to the flash rings (R564, R565)
and the end of a clear (R568). -/

namespace Sys2Proof.Machine

/-- RECORDER_INTERVAL_END (R563): the recorder runs once the module has become ready. -/
def execRecorderIntervalEnd (s : State) : Host.Outcome State Fault Refusal :=
  if s.power.phase = .up ∧ s.ready = true then .next s.endInterval else .next s

/-! ### Pages -/

/-- Slots of an erase sector of a flash ring, and of the ring. -/
def sectorSlots : Nat := 1024
def ringSlots : Nat := 2 ^ 18

/-- The slot of a record in a flash ring. -/
def flashSlot (b : List Byte) : Nat := leAt b 8 4 % ringSlots

/-- A record joins a flash ring; its sector is erased before its first record. -/
def ringPut (l : List (Nat × List Byte)) (b : List Byte) : List (Nat × List Byte) :=
  let n := flashSlot b
  let l := if n % sectorSlots = 0 then l.filter fun p => p.1 / sectorSlots ≠ n / sectorSlots else l
  put (fun _ => []) l n b

/-- The records at the head of the buffer that share a page of four. -/
def pageOf : List (List Byte) → List (List Byte)
  | [] => []
  | b :: l => b :: (l.take 3).takeWhile fun c => leAt c 8 4 / 4 = leAt b 8 4 / 4

/-- A page goes to the ring of B, then to the ring of A. Log 124 (DEDUCED). -/
def Recorder.writePage (r : Recorder) : Recorder :=
  let p := pageOf r.buffer
  { r with
    buffer := r.buffer.drop p.length
    flashB := p.foldl ringPut r.flashB
    flashA := p.foldl ringPut r.flashA }

/-- RECORDER_FLASH_PAGE (R565): it waits while writes of boot flash are held. -/
def execRecorderFlashPage (s : State) : Host.Outcome State Fault Refusal :=
  if s.flashFree then .next (s.onRecorder Recorder.writePage) else .next s

/-! ### Clears -/

/-- The rings that a clear empties. Records buffered before a clear of the flash rings go with them.
Log 124 (DEDUCED). -/
def Recorder.clear (r : Recorder) (v : Nat) : Recorder :=
  if v = 2 then { r with far := [], flashA := [], flashB := [], buffer := [] } else { r with far := [] }

/-- The clear is over: a CLEARED record, then the records made meanwhile. -/
def State.endClear (s : State) (v : Nat) : State :=
  let s := s.onRecorder fun r => { r.clear v with clearing := 0 }
  let (st, fl) := s.stamp
  (s.writeRecord 8 st fl (leBytes 1 v)).flushBehind

/-- RECORDER_CLEAR_DONE (R568): erasing flash waits while writes of boot flash are held. Log 124 (DEDUCED). -/
def execRecorderClearDone (s : State) : Host.Outcome State Fault Refusal :=
  let v := s.recorder.clearing
  if v = 1 then .next (s.endClear 1)
  else if v = 2 ∧ s.flashFree = true then .next (s.endClear 2)
  else .next s

end Sys2Proof.Machine
end

