-- ==== Sys2Proof/Machine/FrontFace.lean ====
section
/-! DEFINITION. The module's connectors and front face (R571 to R592): the service button and quiesce, touch and light bar,
coolant, sideband signals. -/

namespace Sys2Proof.Machine

def State.onFront (s : State) (f : Front → Front) : State := { s with front := f s.front }

/-! ### Button (R576) -/

/-- The button acts: rails up, not stuck, and SVC_REQ# not open (R573). The dictionary has rows of its own. -/
def State.buttonActs (s : State) (src : QSource) : Bool :=
  s.power.phase = .up && !s.front.stuck && src ≠ .dictionary && !(src = .svcReq && bit (s.get K.sidebandState) 2)

/-- SERVICE_BUTTON_PRESS (R576, R577): at its release. The release of a stuck button makes it act again.
Log 126 (DEDUCED). -/
def execServiceButtonPress (ms : Nat) (src : QSource) (s : State) : Host.Outcome State Fault Refusal :=
  if s.front.stuck then .next (s.onFront fun f => { f with stuck := false })
  else if s.buttonActs src && 50 ≤ ms && ms < 2000 then .next ((s.bump K.buttonPresses 1).askQuiesce src)
  else .next s

/-- SERVICE_BUTTON_HOLD (R576, R578). Log 126 (DEDUCED). -/
def execServiceButtonHold (ms : Nat) (src : QSource) (s : State) : Host.Outcome State Fault Refusal :=
  if s.buttonActs src && 5000 ≤ ms then .next ((s.bump K.buttonPresses 1).forceQuiesce src) else .next s

/-- BUTTON_STUCK (R576). Log 126 (DEDUCED). -/
def execButtonStuck (ms : Nat) (s : State) : Host.Outcome State Fault Refusal :=
  if s.power.phase = .up ∧ s.front.stuck = false ∧ 30000 < ms then
    .next ((s.onFront fun f => { f with stuck := true }).raise 0x7B [])
  else .next s

/-! ### Quiesce (R577) -/

/-- Steps 4 and 5 may run: nothing in flight, no window open, boot flash free and no erase under way.
Log 127 (DEDUCED). -/
def State.drained (s : State) : Bool :=
  (s.front.quiesce = .requested || s.front.quiesce = .forcing) && s.ready && !s.anyJob && !s.anyWindow && s.flashFree
    && s.recorder.clearing ≠ 2

/-- Everything that waits for boot flash is written to both copies. -/
def State.flushFlash (s : State) : State :=
  let s := s.dirty Blk.dictionary
  let s := (s.flash.waiting.filter s.mayWrite).foldl (fun s b => s.writeBlock b true true) s
  (List.range s.recorder.buffer.length).foldl (fun s _ => s.onRecorder Recorder.writePage) s

/-- QUIESCE_DRAINED (R577, steps 4 to 6). Log 127 (DEDUCED). -/
def execQuiesceDrained (s : State) : Host.Outcome State Fault Refusal :=
  if s.drained then
    let s := s.flushFlash.onFront fun f => { f with quiesce := .quiesced, modSafe := true }
    .next (s.deviceEvent.raise 0x75 [])
  else .next s

/-! ### Touch pad and light bar (R580, R581) -/

/-- TOUCH (R580). On the standby rail alone there is no management node to tell. Log 126 (DEDUCED). -/
def execTouch (ms : Nat) (s : State) : Host.Outcome State Fault Refusal :=
  if ms < 200 ∨ s.power.phase = .dark then .next s
  else
    let s := s.onFront fun f => { f with ringS := 30, flashing := false, awake := true }
    .next (if s.power.phase = .up then (s.set K.identify 0).raise 0x76 [] else s)

/-- IDENTIFY_TIMEOUT (R580). -/
def execIdentifyTimeout (elapsedS : Nat) (s : State) : Host.Outcome State Fault Refusal :=
  if 30 ≤ elapsedS then .next (s.onFront fun f => { f with ringS := 0 }) else .next s

/-- LIGHT_BAR_SLEEP (R581): never while light_bar_sleep_s is 0. -/
def execLightBarSleep (elapsedS : Nat) (s : State) : Host.Outcome State Fault Refusal :=
  let l := s.get K.lightBarSleepS
  if l ≠ 0 ∧ l ≤ elapsedS then .next (s.onFront fun f => { f with awake := false }) else .next s

/-- What a segment of the light bar shows of its row (R582). -/
inductive RowColour where
  | red | amber | green
  deriving DecidableEq, Repr

/-- A half-row with no usable spare, or a tile of the row at tile_health 1, 2, 3 or 6 (R582). -/
def State.rowTilesAmber (s : State) (r : Nat) : Bool :=
  !(s.spareUsable (2 * r) && s.spareUsable (2 * r + 1)) ||
    (List.range 26).any fun i => [1, 2, 3, 6].contains (s.healthOf (26 * r + i))

/-- A sub-channel of the row's memory node with an uncorrectable error or without training (R582). -/
def State.rowMemoryAmber (s : State) (r : Nat) : Bool :=
  (List.range 4).any fun i =>
    decide (0 < s.get (K.subchUncorrectable (4 * r + i))) || s.get (K.subchTrainState (4 * r + i)) = 2

/-- The colour of segment `r`, by the first line of R582 that applies. -/
def State.rowColour (s : State) (r : Nat) : RowColour :=
  if (s.strand (2 * r)).phase = .retired ∨ (s.strand (2 * r + 1)).phase = .retired then .red
  else if s.rowTilesAmber r || s.rowMemoryAmber r then .amber
  else .green

/-- The displays of the light bar (R581): a fault code, quiesced, a quiesce asked for, on the way to READY, the rows from
segment 0 on, asleep. -/
inductive LightBar where
  | fault (code : Nat) | quiesced | quiesceReq | starting | rows (colours : List RowColour) | asleep
  deriving DecidableEq, Repr

/-- What the light bar shows, by the first line of R581 that applies. Log 161 (DEDUCED). -/
def State.lightBar (s : State) : LightBar :=
  if s.get K.frontFaultCode ≠ 0 then .fault (s.get K.frontFaultCode)
  else if s.quiesced then .quiesced
  else if s.quiesceReq then .quiesceReq
  else if s.boot = .booting ∨ s.boot = .thawing then .starting
  else if s.front.awake ∨ s.get K.lightBarSleepS = 0 then .rows ((List.range 24).map s.rowColour)
  else .asleep

/-! ### Coolant (R589) -/

/-- The condition that readings show: sensor fault, no flow, low flow, hot inlet, or none. Log 128 (DEDUCED). -/
def coolantNow (inlet : Int) (flow : Nat) (ok : Bool) (lowForMs : Nat) : Nat :=
  if !ok then 4 else if flow < 50 ∧ 2000 ≤ lowForMs then 2 else if flow < 150 then 1 else if 450 < inlet then 3 else 0

/-- A condition stands until it has been absent for 10 s; a graver one takes its place at once. Log 128 (DEDUCED). -/
def coolantNext (old now absentMs : Nat) : Nat :=
  if (now = 0 ∨ (old = 2 ∧ now = 1)) ∧ absentMs < 10000 then old else now

/-- The readings as entries; where a sensor fails they show free values. -/
def State.showCoolant (s : State) (inlet outlet : Int) (flow : Nat) (ok : Bool) : State :=
  if ok then ((s.set K.coolantInlet (ofInt 16 inlet)).set K.coolantOutlet (ofInt 16 outlet)).set K.coolantFlow (flow % 65536)
  else
    let (n, s) := s.draw
    let v := fun (i : Nat) => bits (Config.freeNat n) (16 * i) 16
    ((s.set K.coolantInlet (v 0)).set K.coolantOutlet (v 1)).set K.coolantFlow (v 2)

/-- A new condition stands, with its alarm and what the governor is to hold. Log 128 (DEDUCED). -/
def State.coolant (s : State) (c : Nat) : State :=
  let old := s.get K.coolantState
  let s := (s.set K.coolantState c).onPower fun p => { p with flowCap := decide (c = 1 ∨ c = 2 ∨ c = 4), noFlow := decide (c = 2) }
  if c = old ∨ c = 0 then s
  else if c = 3 then s.raise 0x78 (leBytes 2 (s.get K.coolantInlet))
  else s.raise 0x77 (leBytes 2 (s.get K.coolantFlow) ++ leBytes 1 c)

/-- COOLANT_SAMPLE (R589). Log 128 (DEDUCED). -/
def execCoolantSample (inlet outlet : Int) (flow : Nat) (ok : Bool) (lowForMs absentMs : Nat) (s : State) :
    Host.Outcome State Fault Refusal :=
  if s.power.phase = .up then
    let s := s.showCoolant inlet outlet flow ok
    .next (s.coolant (coolantNext (s.get K.coolantState) (coolantNow inlet flow ok lowForMs) absentMs))
  else .next s

/-! ### Connector (R571 to R573) -/

/-- slot_id: an open SLOT_ID signal reads 0. Log 129 (DEDUCED). -/
def State.showSlot (s : State) (id : Nat) : State :=
  let o := bits (s.get K.sidebandState) 3 3
  let v := id &&& (7 - o)
  (s.onFront fun f => { f with slotId := v }).set K.slotId v

/-- SIDEBAND_OPEN (R573): the bit is set and reported once. Log 129 (DEDUCED). -/
def execSidebandOpen (bit : Fin 8) (ms : Nat) (s : State) : Host.Outcome State Fault Refusal :=
  let v := s.get K.sidebandState
  if ms < 10 ∨ v.testBit bit.val ∨ s.power.phase = .dark then .next s
  else
    let s := s.set K.sidebandState (v ||| 2 ^ bit.val)
    let s := s.showSlot s.front.slotId
    let s := if bit.val = 0 ∧ s.power.phase ≠ .up then s.onFront fun f => { f with pwrEn := true } else s
    .next (if s.power.phase = .up then s.raise 0x79 (leBytes 1 (v ||| 2 ^ bit.val)) else s)

/-- MODULE_INSERT (R572): the slot number is read as the pins mate; power-up follows by itself. Log 129 (DEDUCED). -/
def execModuleInsert (slotId : BitVec 3) (s : State) : Host.Outcome State Fault Refusal :=
  if s.power.phase = .dark then .next (s.showSlot slotId.toNat) else .next s

/-- SMB_FRU_READ (R571): the record is readable on VSTBY. -/
def execSmbFruRead (s : State) : Host.Outcome State Fault Refusal :=
  if s.power.phase = .dark then .next s else .next (s.emit (.smbus (padTo 256 Config.fru)))

end Sys2Proof.Machine
end

