-- ==== Sys2Proof/Machine/MessageEvents.lean ====
section
/-! DEFINITION. Events of the on-die networks: tokens (R158 to R165), delivery and retry (R224, R230 to R236), the return
of spilled messages (R237), P budgets (R218) and the closure of the priority classes (R219, R220). -/

namespace Sys2Proof.Machine

/-! ### Tokens -/

/-- TOKEN_ARRIVE (R160, R162, R216): a token on its way reaches its steering unit. -/
def execTokenArrive (src : MsgSrc) (s : State) : Host.Outcome State Fault Refusal := .next (s.offerFrom src .flying true)

/-- TOKEN_RETRY (R160): a refused token is offered again. -/
def execTokenRetry (src : MsgSrc) (s : State) : Host.Outcome State Fault Refusal := .next (s.offerFrom src .refused true)

/-- SU_FIRE (R158, R159, R161). -/
def execSuFire (t : Slot) (u : Fin 4) (s : State) : Host.Outcome State Fault Refusal := .next (s.fire t.val u.val)

/-! ### Delivery -/

/-- A held message of a node takes the class it may now. -/
def State.nodeInject (s : State) (i : Nat) (n : NodeSend) : State :=
  let early := (s.net.nodeSends.take i).any fun d => d.sameNode n.job.isSome n.flow.isSome && d.demoted
  let c := nodeClass (s.get K.priorityClassState) early n.msg.hdr
  if c = .hold then s
  else { s with net := { s.net with nodeSends := setAt s.net.nodeSends i { n with msg := n.msg.inClass c, held := false } } }

/-- A message that waits for a reply credit or for its class tries again to be injected (R220, R224). -/
def State.tryInject (s : State) (src : MsgSrc) : State :=
  let p := s.get K.priorityClassState
  match src with
  | .tile t i =>
    match (s.tile t.val).units.mu[i]? with
    | some e =>
      if e.phase = .credit ∨ e.phase = .closing then
        s.onTile t.val fun x => x.inject p i e (s.get K.sendStallLimit)
      else s
    | none => s
  | .fwd t =>
    match (s.tile t.val).units.fwd with
    | some (u, e) => if e.phase = .closing then s.onTile t.val fun x => x.injectFwd p u e else s
    | none => s
  | .node i =>
    match s.net.nodeSends[i]? with
    | some n => if n.live ∧ n.held = true then s.nodeInject i n else s
    | none => s
  | .steer _ _ => s

/-- MSG_DELIVER (R230 to R236). -/
def execMsgDeliver (src : MsgSrc) (s : State) : Host.Outcome State Fault Refusal :=
  .next ((s.tryInject src).offerFrom src .flying false)

/-- SEND_REOFFER (R232). -/
def execSendReoffer (src : MsgSrc) (s : State) : Host.Outcome State Fault Refusal :=
  .next (s.offerFrom src .refused false)

/-- A message has been refused for as long as its limit allows (R232, R234). -/
def State.stallOut (s : State) (src : MsgSrc) : State :=
  ((s.srcDone src 1).bump K.spillExhaustedCount 1).raise 0x11 []

/-- SEND_STALL_TIMEOUT (R232, R234): a refused message whose limit is reached is not delivered.
Log 13 (DESIGN CHOICE). -/
def execSendStallTimeout (src : MsgSrc) (elapsedNs : Nat) (s : State) : Host.Outcome State Fault Refusal :=
  match s.srcEntry src with
  | some (m, .refused) =>
    if !m.hdr.token && s.srcLimit src * 1000 ≤ elapsedNs then .next (s.stallOut src) else .next s
  | _ => .next s

/-- REPLY_CREDIT_TIMEOUT (R224): a request that waited for a reply credit until the limit retires with REPLY_NO_ROOM.
Log 13 (DESIGN CHOICE). -/
def execReplyCreditTimeout (src : MsgSrc) (elapsedNs : Nat) (s : State) : Host.Outcome State Fault Refusal :=
  match s.srcEntry src with
  | some (_, .credit) =>
    if s.srcLimit src * 1000 ≤ elapsedNs then .next (s.srcDone src 9) else .next s
  | _ => .next s

/-! ### The return of a spilled message (R237, R267) -/

/-- A line of a tile's spill ring; which lines a message took is not stated. -/
def State.ringLine (s : State) (t : Nat) : Nat × State :=
  let (n, s) := s.draw
  (spillRing t / 64 + Config.choice 6 n % max 1 ((s.tile t).ringBytes / 64), s)

/-- The oldest spilled message comes back to its queue with some payload. -/
def Tile.returnSpilled (x : Tile) (q : Nat) (m : Msg) : Tile :=
  let c := x.queue q
  (x.setQueue q { c with spilled := c.spilled.drop 1 }).hold q m

/-- The oldest spilled message is lost with its uncorrectable line: the strand goes back to its checkpoint (R267). -/
def State.loseSpilled (s : State) (t q : Nat) : State :=
  (s.onTile t fun x => x.setQueue q { x.queue q with spilled := (x.queue q).spilled.drop 1 }).resumeStrand (s.strandOf t)

/-- The read behind the return, with `errs` symbols in error in one of its lines. Log 27 (DESIGN CHOICE). -/
def State.readSpilled (s : State) (t q : Nat) (m : Msg) (errs : Nat) : State :=
  let back := fun (s : State) (p : List Byte) =>
    (s.onTile t fun x => x.returnSpilled q { m with payload := p }).noteDepth t (((s.tile t).queue q).held.length + 1)
  if errs = 0 then back s m.payload
  else
    let (line, s) := s.ringLine t
    if errs ≤ 2 then back (s.corrected line) m.payload
    else if errs ≤ 6 then (s.uncorrectable line).loseSpilled t q
    else
      let (n, s) := s.draw
      if Config.choice 5 n % 3 = 0 then (s.uncorrectable line).loseSpilled t q
      else
        let (p, s) := s.freeBytes m.payload.length
        back (if Config.choice 5 n % 3 = 1 then s else s.corrected line) p

/-- SPILL_RETURN (R237): the oldest spilled message of a queue with room for it returns. Log 27 (DESIGN CHOICE). -/
def execSpillReturn (t : Slot) (q : Fin 16) (errs : Nat) (s : State) : Host.Outcome State Fault Refusal :=
  let c := (s.tile t.val).queue q.val
  match c.spilled with
  | [] => .next s
  | m :: _ => if c.room m.space then .next (s.readSpilled t.val q.val m errs) else .next s

/-! ### P budgets (R218) -/

/-- A new period of the tables in force gives a tile its budget on a network. Log 49 (DEDUCED). -/
def Tile.refill (x : Tile) (n t : Nat) (cnet : Bool) : Tile :=
  if cnet then { x with units := { x.units with budgetC := Config.pBudget n t 1 } }
  else { x with units := { x.units with budgetB := Config.pBudget n t 0 } }

/-- Inject a message that waits for its budget, if the budget covers it. -/
def Tile.spend (x : Tile) (i : Nat) (e : MuEntry) : Tile :=
  if x.units.budget e.msg.hdr < e.msg.hdr.flits then x
  else (x.payBudget e.msg.hdr).setMu i (e.inPhase .flying)

/-- Inject the forwarded message that waits for its budget, if the budget covers it. -/
def Tile.spendFwd (x : Tile) (u : Nat) (e : MuEntry) : Tile :=
  if x.units.budget e.msg.hdr < e.msg.hdr.flits then x
  else
    let y := x.payBudget e.msg.hdr
    { y with units := { y.units with fwd := some (u, e.inPhase .flying) } }

/-- No older message of a unit waits for budget on the network: of the first `i` taken, and the forwarded one. -/
def Tile.firstWaiting (x : Tile) (i : Nat) (cnet : Bool) : Bool :=
  (x.units.mu.take i).all (!·.waitsBudget cnet)
    && !(x.units.fwd.map fun p => decide (p.2.pc ≤ i) && p.2.waitsBudget cnet).getD false

/-- TOKEN_INJECT_WAIT (R218): the budget of the next period lets a waiting P message go, while valid tables are loaded.
Log 49 (DEDUCED). -/
def execTokenInjectWait (src : MsgSrc) (s : State) : Host.Outcome State Fault Refusal :=
  match src, s.net.pTables with
  | .tile t i, some n =>
    match (s.tile t.val).units.mu[i]? with
    | some e =>
      if e.phase = .budget ∧ (s.tile t.val).firstWaiting i e.msg.hdr.cnet = true then
        .next (s.onTile t.val fun x => (x.refill n t.val e.msg.hdr.cnet).spend i e)
      else .next s
    | none => .next s
  | .fwd t, some n =>
    match (s.tile t.val).units.fwd with
    | some (u, e) =>
      if e.phase = .budget ∧ ((s.tile t.val).units.mu.take e.pc).all (!·.waitsBudget e.msg.hdr.cnet) = true then
        .next (s.onTile t.val fun x => (x.refill n t.val e.msg.hdr.cnet).spendFwd u e)
      else .next s
    | none => .next s
  | _, _ => .next s

/-! ### Closing and reopening the P classes (R219, R220) -/

/-- A message of a P class that was injected and is neither placed nor refused. -/
def MuEntry.pFlying (e : MuEntry) : Bool := e.msg.hdr.priUsed && e.phase = .flying
def NodeSend.pFlying (n : NodeSend) : Bool := n.live && !n.held && !n.refused && n.msg.hdr.priUsed

/-- No P message injected before the closure is under way. -/
def State.pDrained (s : State) : Bool :=
  (s.tiles.all fun p => p.2.units.mu.all (!·.pFlying) && (p.2.units.fwd.map (!·.2.pFlying)).getD true)
    && s.net.nodeSends.all (!·.pFlying)

/-- A held P message now travels in its O class. -/
def MuEntry.toOrdinary (e : MuEntry) : MuEntry :=
  if e.phase = .closing ∨ e.phase = .budget then (e.inClass false).inPhase .flying else e

def Tile.toOrdinary (x : Tile) : Tile :=
  { x with units := { x.units with
      mu := x.units.mu.map MuEntry.toOrdinary
      fwd := x.units.fwd.map fun p => (p.1, p.2.toOrdinary) } }

def NodeSend.toOrdinary (n : NodeSend) : NodeSend :=
  if n.held then { n with held := false, msg := n.msg.inClass .ordinary } else n

/-- PCLASS_CLOSED (R220, steps 2 and 3): the tables are no longer in force. -/
def execPclassClosed (s : State) : Host.Outcome State Fault Refusal :=
  if s.get K.priorityClassState = 1 ∧ s.pDrained = true then
    let s := s.onTiles (s.tiles.map (·.1)) Tile.toOrdinary
    .next (({ s with net := { s.net with
      nodeSends := s.net.nodeSends.map NodeSend.toOrdinary
      pTables := none } } : State).set K.priorityClassState 2)
  else .next s

/-- A cause of closure of R219 still holds: start-up, the test port in use, or a re-placement. Log 49 (DEDUCED). -/
def State.pCauseLasts (s : State) : Bool :=
  !s.ready || s.vault.pinsFromRegister || (List.range 48).any fun st => (s.strand st).phase = .replacing

/-- Every message unit has resumed its P classes (R220, step 6). -/
def State.pResumed (s : State) : Bool :=
  (s.tiles.all fun p => !p.2.units.demoted) && s.net.nodeSends.all (!·.demoted)

/-- PCLASS_REOPEN (R220, steps 4 to 6): Abano writes the tables, then every message unit resumes. Log 49 (DEDUCED). -/
def execPclassReopen (s : State) : Host.Outcome State Fault Refusal :=
  let p := s.get K.priorityClassState
  if p = 2 ∧ s.pCauseLasts = false then .next (s.loadTables.set K.priorityClassState 3)
  else if p = 3 ∧ s.pResumed = true then .next (s.set K.priorityClassState 0)
  else .next s

end Sys2Proof.Machine
end

