-- ==== Sys2Proof/Machine/RegisterWrites.lean ====
section
/-! DEFINITION. Writes of tile control registers that have rows of their own, and the write of any other (R61, R62, R106,
R114, R132, R156, R170, R228, R246, R419, R440, R467, R508). A row is the write itself; the store or CSRW that makes it is
the tile's. -/

namespace Sys2Proof.Machine

/-- MSTAT_CLEAR (R106). -/
def execMstatClear (t : Slot) (v : Word) (s : State) : Host.Outcome State Fault Refusal := .next (s.writeReg t.val 0x010 v)

/-- CONFLICT_CLEAR (R114). -/
def execConflictClear (t : Slot) (b : Fin 24) (v : Word) (s : State) : Host.Outcome State Fault Refusal :=
  .next (s.writeReg t.val (0x100 + 4 * b.val) v)

/-- SBFAULT_CLEAR (R132). -/
def execSbfaultClear (t : Slot) (v : Word) (s : State) : Host.Outcome State Fault Refusal :=
  .next (s.writeReg t.val 0x024 v)

/-- FXFAIL_CLEAR (R419). -/
def execFxfailClear (t : Slot) (v : Word) (s : State) : Host.Outcome State Fault Refusal :=
  .next (s.writeReg t.val 0x800 v)

/-- SKFAIL_CLEAR (R508). -/
def execSkfailClear (t : Slot) (v : Word) (s : State) : Host.Outcome State Fault Refusal :=
  .next (s.writeReg t.val 0x908 v)

/-- SNFSET (R246). -/
def execSnfset (t : Slot) (v : Word) (s : State) : Host.Outcome State Fault Refusal := .next (s.writeReg t.val 0x608 v)

/-- SNCOUNT_ADD (R246). -/
def execSncountAdd (t : Slot) (c : Fin 16) (v : Word) (s : State) : Host.Outcome State Fault Refusal :=
  .next (s.writeReg t.val (0x610 + 4 * c.val) v)

/-- CKPT_EPOCH_WRITE (R170). -/
def execCkptEpochWrite (t : Slot) (v : Word) (s : State) : Host.Outcome State Fault Refusal :=
  .next (s.writeReg t.val 0x384 v)

/-- SUCFG_WRITE (R152, R155, R156, R163). -/
def execSucfgWrite (t : Slot) (u : Fin 4) (v : Word) (s : State) : Host.Outcome State Fault Refusal :=
  .next (s.writeReg t.val (0x3A0 + 4 * u.val) v)

/-- QCTL_WRITE (R228, R229). -/
def execQctlWrite (t : Slot) (q : Fin 16) (v : Word) (s : State) : Host.Outcome State Fault Refusal :=
  .next (s.writeReg t.val (0x500 + 4 * q.val) v)

/-- TUNEREP (R440). -/
def execTunerep (t : Slot) (v : Word) (s : State) : Host.Outcome State Fault Refusal := .next (s.writeReg t.val 0x388 v)

/-- CHKSTEP (R461, R464, R467). -/
def execChkstep (t : Slot) (v : Word) (s : State) : Host.Outcome State Fault Refusal := .next (s.writeReg t.val 0x390 v)

/-- TILE_REG_WRITE (R61, R62): a whole-word store to a control register. Nothing happens at an address that is not one. -/
def execTileRegWrite (t : Slot) (addr : Word) (v : Word) (s : State) : Host.Outcome State Fault Refusal :=
  let a := addr.toNat
  if a % 4 = 0 ∧ 0x700000 ≤ a ∧ a < 0x701000 ∧ ((s.tile t.val).regRead (s.ctx t.val) (a % 0x1000)).isSome then
    .next (s.writeReg t.val (a % 0x1000) v)
  else .next s

end Sys2Proof.Machine
end

