-- ==== Sys2Proof/Machine/TileControl.lean ====
section
/-! DEFINITION. Branches, jumps and loop counters (R88, R101). Each is issued by `State.issue`. -/

namespace Sys2Proof.Machine

/-- BEQ (R88): Tile core branches if two registers are equal. -/
def execBeq (t : Slot) (ra rb : BitVec 5) (off : BitVec 13) (s : State) : Host.Outcome State Fault Refusal :=
  .next (s.issue t.val (.branch .beq ra rb off))

/-- BNE (R88): Tile core branches if two registers differ. -/
def execBne (t : Slot) (ra rb : BitVec 5) (off : BitVec 13) (s : State) : Host.Outcome State Fault Refusal :=
  .next (s.issue t.val (.branch .bne ra rb off))

/-- BLT (R88): Tile core branches if ra is less than rb, signed. -/
def execBlt (t : Slot) (ra rb : BitVec 5) (off : BitVec 13) (s : State) : Host.Outcome State Fault Refusal :=
  .next (s.issue t.val (.branch .blt ra rb off))

/-- BGE (R88): Tile core branches if ra is at least rb, signed. -/
def execBge (t : Slot) (ra rb : BitVec 5) (off : BitVec 13) (s : State) : Host.Outcome State Fault Refusal :=
  .next (s.issue t.val (.branch .bge ra rb off))

/-- BLTU (R88): Tile core branches if ra is less than rb, unsigned. -/
def execBltu (t : Slot) (ra rb : BitVec 5) (off : BitVec 13) (s : State) : Host.Outcome State Fault Refusal :=
  .next (s.issue t.val (.branch .bltu ra rb off))

/-- BGEU (R88): Tile core branches if ra is at least rb, unsigned. -/
def execBgeu (t : Slot) (ra rb : BitVec 5) (off : BitVec 13) (s : State) : Host.Outcome State Fault Refusal :=
  .next (s.issue t.val (.branch .bgeu ra rb off))

/-- JAL (R88): Tile core jumps by a word offset and writes the link register. -/
def execJal (t : Slot) (rd : BitVec 5) (off : BitVec 20) (s : State) : Host.Outcome State Fault Refusal :=
  .next (s.issue t.val (.jal rd off))

/-- JR (R88): Tile core jumps to the address in a register and writes the link. -/
def execJr (t : Slot) (rd ra : BitVec 5) (rsv : BitVec 15) (s : State) : Host.Outcome State Fault Refusal :=
  .next (s.issue t.val (.jr rd ra rsv))

/-- LSETI (R101): Loads a loop counter with an immediate. -/
def execLseti (t : Slot) (lc : BitVec 4) (opnd : BitVec 19) (s : State) : Host.Outcome State Fault Refusal :=
  .next (s.issue t.val (.lseti lc opnd))

/-- LSETR (R101): Loads a loop counter from a register. -/
def execLsetr (t : Slot) (lc : BitVec 4) (r : BitVec 5) (rsv : BitVec 14) (s : State) : Host.Outcome State Fault Refusal :=
  .next (s.issue t.val (.lsetr lc r rsv))

/-- LOOP (R101): Decrements a non-zero loop counter and branches while it stays non-zero. -/
def execLoopC (t : Slot) (lc : BitVec 4) (off : BitVec 19) (s : State) : Host.Outcome State Fault Refusal :=
  .next (s.issue t.val (.loop lc off))

/-- LINC (R101): Adds a signed immediate to a loop counter, saturating. -/
def execLinc (t : Slot) (lc : BitVec 4) (imm : BitVec 19) (s : State) : Host.Outcome State Fault Refusal :=
  .next (s.issue t.val (.linc lc imm))

/-- LGET (R101): Copies a loop counter into a register. -/
def execLget (t : Slot) (lc : BitVec 4) (r : BitVec 5) (rsv : BitVec 14) (s : State) : Host.Outcome State Fault Refusal :=
  .next (s.issue t.val (.lget lc r rsv))

/-- LBZ (R101): Branches if a loop counter is zero. -/
def execLbz (t : Slot) (lc : BitVec 4) (off : BitVec 19) (s : State) : Host.Outcome State Fault Refusal :=
  .next (s.issue t.val (.lbz lc off))

end Sys2Proof.Machine
end

