-- ==== Sys2Proof/Machine/TileMemory.lean ====
section
/-! DEFINITION. The scalar loads and stores (R61, R62, R88, R124). Each is issued by `State.issue`. -/

namespace Sys2Proof.Machine

/-- LB (R61): Tile core loads a sign-extended byte from its local address space. -/
def execLb (t : Slot) (rd base : BitVec 5) (imm : BitVec 12) (s : State) : Host.Outcome State Fault Refusal :=
  .next (s.issue t.val (.load .lb rd base imm))

/-- LH (R61): Tile core loads a sign-extended halfword. -/
def execLh (t : Slot) (rd base : BitVec 5) (imm : BitVec 12) (s : State) : Host.Outcome State Fault Refusal :=
  .next (s.issue t.val (.load .lh rd base imm))

/-- LW (R61): Tile core loads a word. -/
def execLw (t : Slot) (rd base : BitVec 5) (imm : BitVec 12) (s : State) : Host.Outcome State Fault Refusal :=
  .next (s.issue t.val (.load .lw rd base imm))

/-- LBU (R61): Tile core loads a zero-extended byte. -/
def execLbu (t : Slot) (rd base : BitVec 5) (imm : BitVec 12) (s : State) : Host.Outcome State Fault Refusal :=
  .next (s.issue t.val (.load .lbu rd base imm))

/-- LHU (R61): Tile core loads a zero-extended halfword. -/
def execLhu (t : Slot) (rd base : BitVec 5) (imm : BitVec 12) (s : State) : Host.Outcome State Fault Refusal :=
  .next (s.issue t.val (.load .lhu rd base imm))

/-- SB (R124): Tile core stores a byte and marks its line filled. -/
def execSb (t : Slot) (data base : BitVec 5) (imm : BitVec 12) (s : State) : Host.Outcome State Fault Refusal :=
  .next (s.issue t.val (.store .sb data base imm))

/-- SH (R124): Tile core stores a halfword and marks its line filled. -/
def execSh (t : Slot) (data base : BitVec 5) (imm : BitVec 12) (s : State) : Host.Outcome State Fault Refusal :=
  .next (s.issue t.val (.store .sh data base imm))

/-- SW (R124): Tile core stores a word and marks its line filled. -/
def execSw (t : Slot) (data base : BitVec 5) (imm : BitVec 12) (s : State) : Host.Outcome State Fault Refusal :=
  .next (s.issue t.val (.store .sw data base imm))

end Sys2Proof.Machine
end

