-- ==== Sys2Proof/Machine/TileMessages.lean ====
section
/-! DEFINITION. The token, send and receive instructions (R95 to R100). Each is issued by `State.issue`. -/

namespace Sys2Proof.Machine

/-- TOKI (R100): Sends an immediate control token to a steering unit of another tile. -/
def execToki (t : Slot) (o : TokOp) (s : State) : Host.Outcome State Fault Refusal :=
  .next (s.issue t.val (.toki o))

/-- TOKR (R100): Sends a register-valued control token to a steering unit of another tile. -/
def execTokr (t : Slot) (o : TokOp) (s : State) : Host.Outcome State Fault Refusal :=
  .next (s.issue t.val (.tokr o))

/-- TOKL (R100): Sends an immediate control token to a steering unit of this tile. -/
def execTokl (t : Slot) (o : TokOp) (s : State) : Host.Outcome State Fault Refusal :=
  .next (s.issue t.val (.tokl o))

/-- TSTAT (R100): Returns tokens and data messages held by a local steering unit. -/
def execTstat (t : Slot) (o : TokOp) (s : State) : Host.Outcome State Fault Refusal :=
  .next (s.issue t.val (.tstat o))

/-- SEND (R97): Issues a message from a handle payload to a queue on the die or a fabric endpoint. -/
def execSend (t : Slot) (o : SendOp) (s : State) : Host.Outcome State Fault Refusal :=
  .next (s.issue t.val (.send o))

/-- RECVSEL (R99): Waits for and selects a ready receive queue from a mask. -/
def execRecvsel (t : Slot) (o : RecvOp) (s : State) : Host.Outcome State Fault Refusal :=
  .next (s.issue t.val (.recvsel o))

/-- QREL (R99): Releases the selected head of a receive queue. -/
def execQrel (t : Slot) (o : RecvOp) (s : State) : Host.Outcome State Fault Refusal :=
  .next (s.issue t.val (.qrel o))

end Sys2Proof.Machine
end

