-- ==== Sys2Proof/Machine/TileScalar.lean ====
section
/-! DEFINITION. The scalar register and immediate instructions (R88). Each is issued by `State.issue`. -/

namespace Sys2Proof.Machine

/-- ADD (R88): Tile core adds two registers into rd. -/
def execAdd (t : Slot) (rd ra rb : BitVec 5) (rsv : BitVec 7) (s : State) : Host.Outcome State Fault Refusal :=
  .next (s.issue t.val (.alu .add rd ra rb rsv))

/-- SUB (R88): Tile core subtracts rb from ra into rd. -/
def execSub (t : Slot) (rd ra rb : BitVec 5) (rsv : BitVec 7) (s : State) : Host.Outcome State Fault Refusal :=
  .next (s.issue t.val (.alu .sub rd ra rb rsv))

/-- AND (R88): Tile core forms the bitwise AND of two registers. -/
def execAndR (t : Slot) (rd ra rb : BitVec 5) (rsv : BitVec 7) (s : State) : Host.Outcome State Fault Refusal :=
  .next (s.issue t.val (.alu .and rd ra rb rsv))

/-- OR (R88): Tile core forms the bitwise OR of two registers. -/
def execOrR (t : Slot) (rd ra rb : BitVec 5) (rsv : BitVec 7) (s : State) : Host.Outcome State Fault Refusal :=
  .next (s.issue t.val (.alu .or rd ra rb rsv))

/-- XOR (R88): Tile core forms the bitwise XOR of two registers. -/
def execXorR (t : Slot) (rd ra rb : BitVec 5) (rsv : BitVec 7) (s : State) : Host.Outcome State Fault Refusal :=
  .next (s.issue t.val (.alu .xor rd ra rb rsv))

/-- SHL (R88): Tile core shifts a register left by a register amount. -/
def execShl (t : Slot) (rd ra rb : BitVec 5) (rsv : BitVec 7) (s : State) : Host.Outcome State Fault Refusal :=
  .next (s.issue t.val (.alu .shl rd ra rb rsv))

/-- SHR (R88): Tile core shifts a register right logically by a register amount. -/
def execShr (t : Slot) (rd ra rb : BitVec 5) (rsv : BitVec 7) (s : State) : Host.Outcome State Fault Refusal :=
  .next (s.issue t.val (.alu .shr rd ra rb rsv))

/-- SRA (R88): Tile core shifts a register right arithmetically by a register amount. -/
def execSra (t : Slot) (rd ra rb : BitVec 5) (rsv : BitVec 7) (s : State) : Host.Outcome State Fault Refusal :=
  .next (s.issue t.val (.alu .sra rd ra rb rsv))

/-- MUL (R88): Tile core writes the low 32 bits of the product of two registers. -/
def execMul (t : Slot) (rd ra rb : BitVec 5) (rsv : BitVec 7) (s : State) : Host.Outcome State Fault Refusal :=
  .next (s.issue t.val (.alu .mul rd ra rb rsv))

/-- SLT (R88): Tile core sets rd to 1 if ra is less than rb, signed. -/
def execSlt (t : Slot) (rd ra rb : BitVec 5) (rsv : BitVec 7) (s : State) : Host.Outcome State Fault Refusal :=
  .next (s.issue t.val (.alu .slt rd ra rb rsv))

/-- SLTU (R88): Tile core sets rd to 1 if ra is less than rb, unsigned. -/
def execSltu (t : Slot) (rd ra rb : BitVec 5) (rsv : BitVec 7) (s : State) : Host.Outcome State Fault Refusal :=
  .next (s.issue t.val (.alu .sltu rd ra rb rsv))

/-- MIN (R88): Tile core writes the signed minimum of two registers. -/
def execMinR (t : Slot) (rd ra rb : BitVec 5) (rsv : BitVec 7) (s : State) : Host.Outcome State Fault Refusal :=
  .next (s.issue t.val (.alu .min rd ra rb rsv))

/-- MAX (R88): Tile core writes the signed maximum of two registers. -/
def execMaxR (t : Slot) (rd ra rb : BitVec 5) (rsv : BitVec 7) (s : State) : Host.Outcome State Fault Refusal :=
  .next (s.issue t.val (.alu .max rd ra rb rsv))

/-- MINU (R88): Tile core writes the unsigned minimum of two registers. -/
def execMinu (t : Slot) (rd ra rb : BitVec 5) (rsv : BitVec 7) (s : State) : Host.Outcome State Fault Refusal :=
  .next (s.issue t.val (.alu .minu rd ra rb rsv))

/-- MAXU (R88): Tile core writes the unsigned maximum of two registers. -/
def execMaxu (t : Slot) (rd ra rb : BitVec 5) (rsv : BitVec 7) (s : State) : Host.Outcome State Fault Refusal :=
  .next (s.issue t.val (.alu .maxu rd ra rb rsv))

/-- ADDI (R88): Tile core adds a sign-extended IMM12 to a register. -/
def execAddi (t : Slot) (rd ra : BitVec 5) (imm : BitVec 12) (s : State) : Host.Outcome State Fault Refusal :=
  .next (s.issue t.val (.alui .add rd ra imm))

/-- ANDI (R88): Tile core ANDs a register with a zero-extended IMM12. -/
def execAndi (t : Slot) (rd ra : BitVec 5) (imm : BitVec 12) (s : State) : Host.Outcome State Fault Refusal :=
  .next (s.issue t.val (.alui .and rd ra imm))

/-- ORI (R88): Tile core ORs a register with a zero-extended IMM12. -/
def execOri (t : Slot) (rd ra : BitVec 5) (imm : BitVec 12) (s : State) : Host.Outcome State Fault Refusal :=
  .next (s.issue t.val (.alui .or rd ra imm))

/-- XORI (R88): Tile core XORs a register with a zero-extended IMM12. -/
def execXori (t : Slot) (rd ra : BitVec 5) (imm : BitVec 12) (s : State) : Host.Outcome State Fault Refusal :=
  .next (s.issue t.val (.alui .xor rd ra imm))

/-- SHLI (R88): Tile core shifts a register left by IMM12[4:0]. -/
def execShli (t : Slot) (rd ra : BitVec 5) (imm : BitVec 12) (s : State) : Host.Outcome State Fault Refusal :=
  .next (s.issue t.val (.alui .shl rd ra imm))

/-- SHRI (R88): Tile core shifts a register right logically by IMM12[4:0]. -/
def execShri (t : Slot) (rd ra : BitVec 5) (imm : BitVec 12) (s : State) : Host.Outcome State Fault Refusal :=
  .next (s.issue t.val (.alui .shr rd ra imm))

/-- SRAI (R88): Tile core shifts a register right arithmetically by IMM12[4:0]. -/
def execSrai (t : Slot) (rd ra : BitVec 5) (imm : BitVec 12) (s : State) : Host.Outcome State Fault Refusal :=
  .next (s.issue t.val (.alui .sra rd ra imm))

/-- MULI (R88): Tile core multiplies a register by a sign-extended IMM12, low 32 bits. -/
def execMuli (t : Slot) (rd ra : BitVec 5) (imm : BitVec 12) (s : State) : Host.Outcome State Fault Refusal :=
  .next (s.issue t.val (.alui .mul rd ra imm))

/-- SLTI (R88): Tile core compares a register with a sign-extended IMM12, signed. -/
def execSlti (t : Slot) (rd ra : BitVec 5) (imm : BitVec 12) (s : State) : Host.Outcome State Fault Refusal :=
  .next (s.issue t.val (.alui .slt rd ra imm))

/-- SLTUI (R88): Tile core compares a register with a zero-extended IMM12, unsigned. -/
def execSltui (t : Slot) (rd ra : BitVec 5) (imm : BitVec 12) (s : State) : Host.Outcome State Fault Refusal :=
  .next (s.issue t.val (.alui .sltu rd ra imm))

/-- MINI (R88): Tile core writes the signed minimum of a register and IMM12. -/
def execMini (t : Slot) (rd ra : BitVec 5) (imm : BitVec 12) (s : State) : Host.Outcome State Fault Refusal :=
  .next (s.issue t.val (.alui .min rd ra imm))

/-- MAXI (R88): Tile core writes the signed maximum of a register and IMM12. -/
def execMaxi (t : Slot) (rd ra : BitVec 5) (imm : BitVec 12) (s : State) : Host.Outcome State Fault Refusal :=
  .next (s.issue t.val (.alui .max rd ra imm))

/-- MINUI (R88): Tile core writes the unsigned minimum of a register and IMM12. -/
def execMinui (t : Slot) (rd ra : BitVec 5) (imm : BitVec 12) (s : State) : Host.Outcome State Fault Refusal :=
  .next (s.issue t.val (.alui .minu rd ra imm))

/-- MAXUI (R88): Tile core writes the unsigned maximum of a register and IMM12. -/
def execMaxui (t : Slot) (rd ra : BitVec 5) (imm : BitVec 12) (s : State) : Host.Outcome State Fault Refusal :=
  .next (s.issue t.val (.alui .maxu rd ra imm))

/-- LUI (R88): Tile core places IMM20 in the upper bits of rd. -/
def execLui (t : Slot) (rd : BitVec 5) (rsv : BitVec 1) (imm : BitVec 20) (s : State) : Host.Outcome State Fault Refusal :=
  .next (s.issue t.val (.lui rd rsv imm))

end Sys2Proof.Machine
end

