-- ==== Sys2Proof/Machine/TileSystem.lean ====
section
/-! DEFINITION. The handle, fence, barrier and system instructions (R102 to R105, R119 to R125, R199, R243). Each is issued by `State.issue`. -/

namespace Sys2Proof.Machine

/-- HSET (R120): Checks and writes a handle entry from three registers. -/
def execHset (t : Slot) (o : HandleOp) (s : State) : Host.Outcome State Fault Refusal :=
  .next (s.issue t.val (.hset o))

/-- HGET (R103): Copies a handle entry into three registers. -/
def execHget (t : Slot) (o : HandleOp) (s : State) : Host.Outcome State Fault Refusal :=
  .next (s.issue t.val (.hget o))

/-- HSWAP (R104): Exchanges two handle entries atomically once users have retired. -/
def execHswap (t : Slot) (o : HandleOp) (s : State) : Host.Outcome State Fault Refusal :=
  .next (s.issue t.val (.hswap o))

/-- HFILL (R124): Marks a byte range of a handle as filled. -/
def execHfill (t : Slot) (o : HandleOp) (s : State) : Host.Outcome State Fault Refusal :=
  .next (s.issue t.val (.hfill o))

/-- HUNFILL (R125): Clears every fill mark of a handle's range. -/
def execHunfill (t : Slot) (o : HandleOp) (s : State) : Host.Outcome State Fault Refusal :=
  .next (s.issue t.val (.hunfill o))

/-- HINV (R104): Invalidates a handle once users have retired. -/
def execHinv (t : Slot) (o : HandleOp) (s : State) : Host.Outcome State Fault Refusal :=
  .next (s.issue t.val (.hinv o))

/-- FENCE (R102): Stops issue until the selected kinds of earlier operation complete. -/
def execFence (t : Slot) (remote mem net scratch : Bool) (rsv : BitVec 22) (s : State) : Host.Outcome State Fault Refusal :=
  .next (s.issue t.val (.fence remote mem net scratch rsv))

/-- BAR (R243): Waits as a full FENCE then signals arrival at an S-net barrier. -/
def execBar (t : Slot) (bid : BitVec 6) (rsv : BitVec 20) (s : State) : Host.Outcome State Fault Refusal :=
  .next (s.issue t.val (.bar bid rsv))

/-- HALT (R199): Ends the stage's job; Abano restarts the stage. -/
def execHalt (t : Slot) (rd ra : BitVec 5) (csr : BitVec 12) (s : State) : Host.Outcome State Fault Refusal :=
  .next (s.issue t.val (.halt rd ra csr))

/-- CSRR (R88): Reads a control and status register into rd. -/
def execCsrr (t : Slot) (rd ra : BitVec 5) (csr : BitVec 12) (s : State) : Host.Outcome State Fault Refusal :=
  .next (s.issue t.val (.csrr rd ra csr))

/-- CSRW (R88): Writes a register to a control and status register. -/
def execCsrw (t : Slot) (rd ra : BitVec 5) (csr : BitVec 12) (s : State) : Host.Outcome State Fault Refusal :=
  .next (s.issue t.val (.csrw rd ra csr))

/-- TRAP (R105): Reports fault code TRAP with the CSR field as argument. -/
def execTrap (t : Slot) (rd ra : BitVec 5) (csr : BitVec 12) (s : State) : Host.Outcome State Fault Refusal :=
  .next (s.issue t.val (.trap rd ra csr))

end Sys2Proof.Machine
end

