-- ==== Sys2Proof/Machine/TileVector.lean ====
section
/-! DEFINITION. MMB and the vector instructions (R89 to R93, R594 to R598). Each is issued by `State.issue`. -/

namespace Sys2Proof.Machine

/-- MMB (R91): Issues a batched matrix multiply after the checks of R93 and scoreboard registration. -/
def execMmb (t : Slot) (o : MmbOp) (s : State) : Host.Outcome State Fault Refusal :=
  .next (s.issue t.val (.mmb o))

/-- VADD (R595): Vector lane-wise addition. -/
def execVadd (t : Slot) (o : VecOp) (s : State) : Host.Outcome State Fault Refusal :=
  .next (s.issue t.val (.vec .vadd o))

/-- VSUB (R595): Vector lane-wise subtraction. -/
def execVsub (t : Slot) (o : VecOp) (s : State) : Host.Outcome State Fault Refusal :=
  .next (s.issue t.val (.vec .vsub o))

/-- VMUL (R595): Vector lane-wise multiplication. -/
def execVmul (t : Slot) (o : VecOp) (s : State) : Host.Outcome State Fault Refusal :=
  .next (s.issue t.val (.vec .vmul o))

/-- VFMA (R595): Vector lane-wise fused multiply-add. -/
def execVfma (t : Slot) (o : VecOp) (s : State) : Host.Outcome State Fault Refusal :=
  .next (s.issue t.val (.vec .vfma o))

/-- VMIN (R595): Vector lane-wise minimum. -/
def execVmin (t : Slot) (o : VecOp) (s : State) : Host.Outcome State Fault Refusal :=
  .next (s.issue t.val (.vec .vmin o))

/-- VMAX (R595): Vector lane-wise maximum. -/
def execVmax (t : Slot) (o : VecOp) (s : State) : Host.Outcome State Fault Refusal :=
  .next (s.issue t.val (.vec .vmax o))

/-- VABS (R595): Vector lane-wise magnitude. -/
def execVabs (t : Slot) (o : VecOp) (s : State) : Host.Outcome State Fault Refusal :=
  .next (s.issue t.val (.vec .vabs o))

/-- VNEG (R595): Vector lane-wise sign inversion. -/
def execVneg (t : Slot) (o : VecOp) (s : State) : Host.Outcome State Fault Refusal :=
  .next (s.issue t.val (.vec .vneg o))

/-- VCMPLT (R595): Vector lane-wise less-than comparison. -/
def execVcmplt (t : Slot) (o : VecOp) (s : State) : Host.Outcome State Fault Refusal :=
  .next (s.issue t.val (.vec .vcmplt o))

/-- VCMPEQ (R595): Vector lane-wise equality comparison. -/
def execVcmpeq (t : Slot) (o : VecOp) (s : State) : Host.Outcome State Fault Refusal :=
  .next (s.issue t.val (.vec .vcmpeq o))

/-- VSEL (R595): Vector lane-wise select by mask. -/
def execVsel (t : Slot) (o : VecOp) (s : State) : Host.Outcome State Fault Refusal :=
  .next (s.issue t.val (.vec .vsel o))

/-- VBCAST (R595): Broadcasts lane 0 of a vector to every lane. -/
def execVbcast (t : Slot) (o : VecOp) (s : State) : Host.Outcome State Fault Refusal :=
  .next (s.issue t.val (.vec .vbcast o))

/-- VIADD (R596): I32 lane-wise addition modulo 2^32. -/
def execViadd (t : Slot) (o : VecOp) (s : State) : Host.Outcome State Fault Refusal :=
  .next (s.issue t.val (.vec .viadd o))

/-- VIMUL (R596): I32 lane-wise multiplication, low 32 bits. -/
def execVimul (t : Slot) (o : VecOp) (s : State) : Host.Outcome State Fault Refusal :=
  .next (s.issue t.val (.vec .vimul o))

/-- VSHIFT (R596): I32 lane-wise shift selected by VC. -/
def execVshift (t : Slot) (o : VecOp) (s : State) : Host.Outcome State Fault Refusal :=
  .next (s.issue t.val (.vec .vshift o))

/-- VLOGIC (R596): I32 lane-wise logic operation selected by VC. -/
def execVlogic (t : Slot) (o : VecOp) (s : State) : Host.Outcome State Fault Refusal :=
  .next (s.issue t.val (.vec .vlogic o))

/-- VPOPC (R596): I32 lane-wise population count. -/
def execVpopc (t : Slot) (o : VecOp) (s : State) : Host.Outcome State Fault Refusal :=
  .next (s.issue t.val (.vec .vpopc o))

/-- VCVT (R597): Converts 128 lanes to the target format named by VC. -/
def execVcvt (t : Slot) (o : VecOp) (s : State) : Host.Outcome State Fault Refusal :=
  .next (s.issue t.val (.vec .vcvt o))

/-- VQB (R597): Quantises 128 FP32 lanes into four I4B or F4B blocks. -/
def execVqb (t : Slot) (o : VecOp) (s : State) : Host.Outcome State Fault Refusal :=
  .next (s.issue t.val (.vec .vqb o))

/-- VDQB (R597): Dequantises four 4-bit blocks to FP32 lanes. -/
def execVdqb (t : Slot) (o : VecOp) (s : State) : Host.Outcome State Fault Refusal :=
  .next (s.issue t.val (.vec .vdqb o))

/-- VEXP (R595): Table-unit exponential. -/
def execVexp (t : Slot) (o : VecOp) (s : State) : Host.Outcome State Fault Refusal :=
  .next (s.issue t.val (.vec .vexp o))

/-- VEXP2 (R595): Table-unit base-2 exponential. -/
def execVexp2 (t : Slot) (o : VecOp) (s : State) : Host.Outcome State Fault Refusal :=
  .next (s.issue t.val (.vec .vexp2 o))

/-- VLOG (R595): Table-unit natural logarithm. -/
def execVlog (t : Slot) (o : VecOp) (s : State) : Host.Outcome State Fault Refusal :=
  .next (s.issue t.val (.vec .vlog o))

/-- VLOG2 (R595): Table-unit base-2 logarithm. -/
def execVlog2 (t : Slot) (o : VecOp) (s : State) : Host.Outcome State Fault Refusal :=
  .next (s.issue t.val (.vec .vlog2 o))

/-- VRSQRT (R595): Table-unit reciprocal square root. -/
def execVrsqrt (t : Slot) (o : VecOp) (s : State) : Host.Outcome State Fault Refusal :=
  .next (s.issue t.val (.vec .vrsqrt o))

/-- VRECIP (R595): Table-unit reciprocal. -/
def execVrecip (t : Slot) (o : VecOp) (s : State) : Host.Outcome State Fault Refusal :=
  .next (s.issue t.val (.vec .vrecip o))

/-- VSQRT (R595): Table-unit correctly rounded square root. -/
def execVsqrt (t : Slot) (o : VecOp) (s : State) : Host.Outcome State Fault Refusal :=
  .next (s.issue t.val (.vec .vsqrt o))

/-- VSIGM (R595): Table-unit sigmoid. -/
def execVsigm (t : Slot) (o : VecOp) (s : State) : Host.Outcome State Fault Refusal :=
  .next (s.issue t.val (.vec .vsigm o))

/-- VTANH (R595): Table-unit hyperbolic tangent. -/
def execVtanh (t : Slot) (o : VecOp) (s : State) : Host.Outcome State Fault Refusal :=
  .next (s.issue t.val (.vec .vtanh o))

/-- VGELU (R595): Table-unit GELU, erf form. -/
def execVgelu (t : Slot) (o : VecOp) (s : State) : Host.Outcome State Fault Refusal :=
  .next (s.issue t.val (.vec .vgelu o))

/-- VSILU (R595): Table-unit SiLU. -/
def execVsilu (t : Slot) (o : VecOp) (s : State) : Host.Outcome State Fault Refusal :=
  .next (s.issue t.val (.vec .vsilu o))

/-- VSOFTPLUS (R595): Table-unit softplus. -/
def execVsoftplus (t : Slot) (o : VecOp) (s : State) : Host.Outcome State Fault Refusal :=
  .next (s.issue t.val (.vec .vsoftplus o))

/-- VRSUM (R598): Reduces 128 FP32 lanes by pairwise sum. -/
def execVrsum (t : Slot) (o : VecOp) (s : State) : Host.Outcome State Fault Refusal :=
  .next (s.issue t.val (.vec .vrsum o))

/-- VRMAX (R598): Reduces 128 FP32 lanes to their maximum. -/
def execVrmax (t : Slot) (o : VecOp) (s : State) : Host.Outcome State Fault Refusal :=
  .next (s.issue t.val (.vec .vrmax o))

/-- VRMIN (R598): Reduces 128 FP32 lanes to their minimum. -/
def execVrmin (t : Slot) (o : VecOp) (s : State) : Host.Outcome State Fault Refusal :=
  .next (s.issue t.val (.vec .vrmin o))

/-- VRARGMAX (R598): Returns the lowest lane index of the maximum. -/
def execVrargmax (t : Slot) (o : VecOp) (s : State) : Host.Outcome State Fault Refusal :=
  .next (s.issue t.val (.vec .vrargmax o))

/-- VRARGMIN (R598): Returns the lowest lane index of the minimum. -/
def execVrargmin (t : Slot) (o : VecOp) (s : State) : Host.Outcome State Fault Refusal :=
  .next (s.issue t.val (.vec .vrargmin o))

/-- VLD (R598): Loads 512 bytes through a handle into a vector register. -/
def execVld (t : Slot) (o : VecOp) (s : State) : Host.Outcome State Fault Refusal :=
  .next (s.issue t.val (.vec .vld o))

/-- VST (R598): Stores a vector register through a handle to scratchpad, memory tier or window. -/
def execVst (t : Slot) (o : VecOp) (s : State) : Host.Outcome State Fault Refusal :=
  .next (s.issue t.val (.vec .vst o))

/-- VPERM (R598): Permutes lanes of a vector by an index vector. -/
def execVperm (t : Slot) (o : VecOp) (s : State) : Host.Outcome State Fault Refusal :=
  .next (s.issue t.val (.vec .vperm o))

end Sys2Proof.Machine
end

