-- ==== Sys2Proof/Machine/Dispatch.lean ====
section
/-! DEFINITION. The effect of every command on everything but the queue, one arm per command. -/

namespace Sys2Proof.Machine

/-- The effect of a command. -/
def exec (i : Instr) (s : State) : Host.Outcome State Fault Refusal :=
  match i with
  | .add t rd ra rb rsv => Sys2Proof.Machine.execAdd t rd ra rb rsv s
  | .sub t rd ra rb rsv => Sys2Proof.Machine.execSub t rd ra rb rsv s
  | .andR t rd ra rb rsv => Sys2Proof.Machine.execAndR t rd ra rb rsv s
  | .orR t rd ra rb rsv => Sys2Proof.Machine.execOrR t rd ra rb rsv s
  | .xorR t rd ra rb rsv => Sys2Proof.Machine.execXorR t rd ra rb rsv s
  | .shl t rd ra rb rsv => Sys2Proof.Machine.execShl t rd ra rb rsv s
  | .shr t rd ra rb rsv => Sys2Proof.Machine.execShr t rd ra rb rsv s
  | .sra t rd ra rb rsv => Sys2Proof.Machine.execSra t rd ra rb rsv s
  | .mul t rd ra rb rsv => Sys2Proof.Machine.execMul t rd ra rb rsv s
  | .slt t rd ra rb rsv => Sys2Proof.Machine.execSlt t rd ra rb rsv s
  | .sltu t rd ra rb rsv => Sys2Proof.Machine.execSltu t rd ra rb rsv s
  | .minR t rd ra rb rsv => Sys2Proof.Machine.execMinR t rd ra rb rsv s
  | .maxR t rd ra rb rsv => Sys2Proof.Machine.execMaxR t rd ra rb rsv s
  | .minu t rd ra rb rsv => Sys2Proof.Machine.execMinu t rd ra rb rsv s
  | .maxu t rd ra rb rsv => Sys2Proof.Machine.execMaxu t rd ra rb rsv s
  | .addi t rd ra imm => Sys2Proof.Machine.execAddi t rd ra imm s
  | .andi t rd ra imm => Sys2Proof.Machine.execAndi t rd ra imm s
  | .ori t rd ra imm => Sys2Proof.Machine.execOri t rd ra imm s
  | .xori t rd ra imm => Sys2Proof.Machine.execXori t rd ra imm s
  | .shli t rd ra imm => Sys2Proof.Machine.execShli t rd ra imm s
  | .shri t rd ra imm => Sys2Proof.Machine.execShri t rd ra imm s
  | .srai t rd ra imm => Sys2Proof.Machine.execSrai t rd ra imm s
  | .muli t rd ra imm => Sys2Proof.Machine.execMuli t rd ra imm s
  | .slti t rd ra imm => Sys2Proof.Machine.execSlti t rd ra imm s
  | .sltui t rd ra imm => Sys2Proof.Machine.execSltui t rd ra imm s
  | .mini t rd ra imm => Sys2Proof.Machine.execMini t rd ra imm s
  | .maxi t rd ra imm => Sys2Proof.Machine.execMaxi t rd ra imm s
  | .minui t rd ra imm => Sys2Proof.Machine.execMinui t rd ra imm s
  | .maxui t rd ra imm => Sys2Proof.Machine.execMaxui t rd ra imm s
  | .lb t rd base imm => Sys2Proof.Machine.execLb t rd base imm s
  | .lh t rd base imm => Sys2Proof.Machine.execLh t rd base imm s
  | .lw t rd base imm => Sys2Proof.Machine.execLw t rd base imm s
  | .lbu t rd base imm => Sys2Proof.Machine.execLbu t rd base imm s
  | .lhu t rd base imm => Sys2Proof.Machine.execLhu t rd base imm s
  | .sb t data base imm => Sys2Proof.Machine.execSb t data base imm s
  | .sh t data base imm => Sys2Proof.Machine.execSh t data base imm s
  | .sw t data base imm => Sys2Proof.Machine.execSw t data base imm s
  | .beq t ra rb off => Sys2Proof.Machine.execBeq t ra rb off s
  | .bne t ra rb off => Sys2Proof.Machine.execBne t ra rb off s
  | .blt t ra rb off => Sys2Proof.Machine.execBlt t ra rb off s
  | .bge t ra rb off => Sys2Proof.Machine.execBge t ra rb off s
  | .bltu t ra rb off => Sys2Proof.Machine.execBltu t ra rb off s
  | .bgeu t ra rb off => Sys2Proof.Machine.execBgeu t ra rb off s
  | .jal t rd off => Sys2Proof.Machine.execJal t rd off s
  | .jr t rd ra rsv => Sys2Proof.Machine.execJr t rd ra rsv s
  | .lui t rd rsv imm => Sys2Proof.Machine.execLui t rd rsv imm s
  | .lseti t lc opnd => Sys2Proof.Machine.execLseti t lc opnd s
  | .lsetr t lc r rsv => Sys2Proof.Machine.execLsetr t lc r rsv s
  | .loopC t lc off => Sys2Proof.Machine.execLoopC t lc off s
  | .linc t lc imm => Sys2Proof.Machine.execLinc t lc imm s
  | .lget t lc r rsv => Sys2Proof.Machine.execLget t lc r rsv s
  | .lbz t lc off => Sys2Proof.Machine.execLbz t lc off s
  | .toki t o => Sys2Proof.Machine.execToki t o s
  | .tokr t o => Sys2Proof.Machine.execTokr t o s
  | .tokl t o => Sys2Proof.Machine.execTokl t o s
  | .tstat t o => Sys2Proof.Machine.execTstat t o s
  | .send t o => Sys2Proof.Machine.execSend t o s
  | .recvsel t o => Sys2Proof.Machine.execRecvsel t o s
  | .qrel t o => Sys2Proof.Machine.execQrel t o s
  | .mmb t o => Sys2Proof.Machine.execMmb t o s
  | .vadd t o => Sys2Proof.Machine.execVadd t o s
  | .vsub t o => Sys2Proof.Machine.execVsub t o s
  | .vmul t o => Sys2Proof.Machine.execVmul t o s
  | .vfma t o => Sys2Proof.Machine.execVfma t o s
  | .vmin t o => Sys2Proof.Machine.execVmin t o s
  | .vmax t o => Sys2Proof.Machine.execVmax t o s
  | .vabs t o => Sys2Proof.Machine.execVabs t o s
  | .vneg t o => Sys2Proof.Machine.execVneg t o s
  | .vcmplt t o => Sys2Proof.Machine.execVcmplt t o s
  | .vcmpeq t o => Sys2Proof.Machine.execVcmpeq t o s
  | .vsel t o => Sys2Proof.Machine.execVsel t o s
  | .vbcast t o => Sys2Proof.Machine.execVbcast t o s
  | .viadd t o => Sys2Proof.Machine.execViadd t o s
  | .vimul t o => Sys2Proof.Machine.execVimul t o s
  | .vshift t o => Sys2Proof.Machine.execVshift t o s
  | .vlogic t o => Sys2Proof.Machine.execVlogic t o s
  | .vpopc t o => Sys2Proof.Machine.execVpopc t o s
  | .vcvt t o => Sys2Proof.Machine.execVcvt t o s
  | .vqb t o => Sys2Proof.Machine.execVqb t o s
  | .vdqb t o => Sys2Proof.Machine.execVdqb t o s
  | .vexp t o => Sys2Proof.Machine.execVexp t o s
  | .vexp2 t o => Sys2Proof.Machine.execVexp2 t o s
  | .vlog t o => Sys2Proof.Machine.execVlog t o s
  | .vlog2 t o => Sys2Proof.Machine.execVlog2 t o s
  | .vrsqrt t o => Sys2Proof.Machine.execVrsqrt t o s
  | .vrecip t o => Sys2Proof.Machine.execVrecip t o s
  | .vsqrt t o => Sys2Proof.Machine.execVsqrt t o s
  | .vsigm t o => Sys2Proof.Machine.execVsigm t o s
  | .vtanh t o => Sys2Proof.Machine.execVtanh t o s
  | .vgelu t o => Sys2Proof.Machine.execVgelu t o s
  | .vsilu t o => Sys2Proof.Machine.execVsilu t o s
  | .vsoftplus t o => Sys2Proof.Machine.execVsoftplus t o s
  | .vrsum t o => Sys2Proof.Machine.execVrsum t o s
  | .vrmax t o => Sys2Proof.Machine.execVrmax t o s
  | .vrmin t o => Sys2Proof.Machine.execVrmin t o s
  | .vrargmax t o => Sys2Proof.Machine.execVrargmax t o s
  | .vrargmin t o => Sys2Proof.Machine.execVrargmin t o s
  | .vld t o => Sys2Proof.Machine.execVld t o s
  | .vst t o => Sys2Proof.Machine.execVst t o s
  | .vperm t o => Sys2Proof.Machine.execVperm t o s
  | .hset t o => Sys2Proof.Machine.execHset t o s
  | .hget t o => Sys2Proof.Machine.execHget t o s
  | .hswap t o => Sys2Proof.Machine.execHswap t o s
  | .hfill t o => Sys2Proof.Machine.execHfill t o s
  | .hunfill t o => Sys2Proof.Machine.execHunfill t o s
  | .hinv t o => Sys2Proof.Machine.execHinv t o s
  | .fence t remote mem net scratch rsv => Sys2Proof.Machine.execFence t remote mem net scratch rsv s
  | .bar t bid rsv => Sys2Proof.Machine.execBar t bid rsv s
  | .halt t rd ra csr => Sys2Proof.Machine.execHalt t rd ra csr s
  | .csrr t rd ra csr => Sys2Proof.Machine.execCsrr t rd ra csr s
  | .csrw t rd ra csr => Sys2Proof.Machine.execCsrw t rd ra csr s
  | .trap t rd ra csr => Sys2Proof.Machine.execTrap t rd ra csr s
  | .mmbRetire t residueBad => Sys2Proof.Machine.execMmbRetire t residueBad s
  | .vectorRetire t => Sys2Proof.Machine.execVectorRetire t s
  | .memReadReturn t errs => Sys2Proof.Machine.execMemReadReturn t errs s
  | .stalledIssueRetry t => Sys2Proof.Machine.execStalledIssueRetry t s
  | .scoreboardTimeout t elapsedNs => Sys2Proof.Machine.execScoreboardTimeout t elapsedNs s
  | .fenceComplete t => Sys2Proof.Machine.execFenceComplete t s
  | .barComplete b => Sys2Proof.Machine.execBarComplete b s
  | .recvselComplete t => Sys2Proof.Machine.execRecvselComplete t s
  | .sendRetire t => Sys2Proof.Machine.execSendRetire t s
  | .mstatClear t v => Sys2Proof.Machine.execMstatClear t v s
  | .conflictClear t b v => Sys2Proof.Machine.execConflictClear t b v s
  | .sbfaultClear t v => Sys2Proof.Machine.execSbfaultClear t v s
  | .fxfailClear t v => Sys2Proof.Machine.execFxfailClear t v s
  | .skfailClear t v => Sys2Proof.Machine.execSkfailClear t v s
  | .snfset t v => Sys2Proof.Machine.execSnfset t v s
  | .sncountAdd t c v => Sys2Proof.Machine.execSncountAdd t c v s
  | .ckptEpochWrite t v => Sys2Proof.Machine.execCkptEpochWrite t v s
  | .sucfgWrite t u v => Sys2Proof.Machine.execSucfgWrite t u v s
  | .qctlWrite t q v => Sys2Proof.Machine.execQctlWrite t q v s
  | .tunerep t v => Sys2Proof.Machine.execTunerep t v s
  | .chkstep t v => Sys2Proof.Machine.execChkstep t v s
  | .tileRegWrite t addr v => Sys2Proof.Machine.execTileRegWrite t addr v s
  | .tokenArrive src => Sys2Proof.Machine.execTokenArrive src s
  | .tokenRetry src => Sys2Proof.Machine.execTokenRetry src s
  | .suFire t u => Sys2Proof.Machine.execSuFire t u s
  | .msgDeliver src => Sys2Proof.Machine.execMsgDeliver src s
  | .sendReoffer src => Sys2Proof.Machine.execSendReoffer src s
  | .sendStallTimeout src elapsedNs => Sys2Proof.Machine.execSendStallTimeout src elapsedNs s
  | .replyCreditTimeout src elapsedNs => Sys2Proof.Machine.execReplyCreditTimeout src elapsedNs s
  | .spillReturn t q errs => Sys2Proof.Machine.execSpillReturn t q errs s
  | .tokenInjectWait src => Sys2Proof.Machine.execTokenInjectWait src s
  | .pclassClosed => Sys2Proof.Machine.execPclassClosed s
  | .pclassReopen => Sys2Proof.Machine.execPclassReopen s
  | .memRequest q => Sys2Proof.Machine.execMemRequest q s
  | .memWriteAck ix => Sys2Proof.Machine.execMemWriteAck ix s
  | .patrolScrub errs => Sys2Proof.Machine.execPatrolScrub errs s
  | .dramTempReadout temps => Sys2Proof.Machine.execDramTempReadout temps s
  | .refresh sub => Sys2Proof.Machine.execRefresh sub s
  | .retrain sub ok => Sys2Proof.Machine.execRetrain sub ok s
  | .windowWriteLand w src offset data => Sys2Proof.Machine.execWindowWriteLand w src offset data s
  | .windowCloseComplete w => Sys2Proof.Machine.execWindowCloseComplete w s
  | .strandStall st elapsedUs => Sys2Proof.Machine.execStrandStall st elapsedUs s
  | .strandResume st => Sys2Proof.Machine.execStrandResume st s
  | .strandFuse row => Sys2Proof.Machine.execStrandFuse row s
  | .primeStage st k => Sys2Proof.Machine.execPrimeStage st k s
  | .primerSegmentDone st k crc => Sys2Proof.Machine.execPrimerSegmentDone st k crc s
  | .residentSwitch st => Sys2Proof.Machine.execResidentSwitch st s
  | .sectionAdvance st => Sys2Proof.Machine.execSectionAdvance st s
  | .submit c tail rsv e => Sys2Proof.Machine.execSubmit c tail rsv e s
  | .invalidate c rsv e => Sys2Proof.Machine.execInvalidate c rsv e s
  | .abortD c ix rsv e => Sys2Proof.Machine.execAbortD c ix rsv e s
  | .cack c head rsv e => Sys2Proof.Machine.execCack c head rsv e s
  | .descFetch c bytes error => Sys2Proof.Machine.execDescFetch c bytes error s
  | .jobAdmit c ix inp st role shape part passage => Sys2Proof.Machine.execJobAdmit c ix inp st role shape part passage s
  | .completionCommit c ix ringError => Sys2Proof.Machine.execCompletionCommit c ix ringError s
  | .coalTimeout c elapsedUs => Sys2Proof.Machine.execCoalTimeout c elapsedUs s
  | .chtblBaseWrite v => Sys2Proof.Machine.execChtblBaseWrite v s
  | .chtblCountWrite v => Sys2Proof.Machine.execChtblCountWrite v s
  | .d3hotEnter => Sys2Proof.Machine.execD3hotEnter s
  | .d0Restore => Sys2Proof.Machine.execD0Restore s
  | .functionLevelReset => Sys2Proof.Machine.execFunctionLevelReset s
  | .hotReset => Sys2Proof.Machine.execHotReset s
  | .fundamentalReset => Sys2Proof.Machine.execFundamentalReset s
  | .planLoad c ix inp => Sys2Proof.Machine.execPlanLoad c ix inp s
  | .planUnload c ix => Sys2Proof.Machine.execPlanUnload c ix s
  | .keyInstall src chk => Sys2Proof.Machine.execKeyInstall src chk s
  | .quote c ix challenge => Sys2Proof.Machine.execQuote c ix challenge s
  | .loadedPlans c ix => Sys2Proof.Machine.execLoadedPlans c ix s
  | .tileLoad c ix inp => Sys2Proof.Machine.execTileLoad c ix inp s
  | .inject c ix inp => Sys2Proof.Machine.execInject c ix inp s
  | .windowOpen c ix => Sys2Proof.Machine.execWindowOpen c ix s
  | .windowClose c ix => Sys2Proof.Machine.execWindowClose c ix s
  | .windowRead c ix => Sys2Proof.Machine.execWindowRead c ix s
  | .windowWrite c ix inp => Sys2Proof.Machine.execWindowWrite c ix inp s
  | .fabricPacket c ix inp => Sys2Proof.Machine.execFabricPacket c ix inp s
  | .ingestIndex c ix x => Sys2Proof.Machine.execIngestIndex c ix x s
  | .embed c ix x => Sys2Proof.Machine.execEmbed c ix x s
  | .classify c ix x => Sys2Proof.Machine.execClassify c ix x s
  | .nearDup c ix x => Sys2Proof.Machine.execNearDup c ix x s
  | .search c ix embedded => Sys2Proof.Machine.execSearch c ix embedded s
  | .shardAppend c ix envs => Sys2Proof.Machine.execShardAppend c ix envs s
  | .shardDrop c ix => Sys2Proof.Machine.execShardDrop c ix s
  | .queryBatchWindow shard elapsedUs => Sys2Proof.Machine.execQueryBatchWindow shard elapsedUs s
  | .rekey c ix envs => Sys2Proof.Machine.execRekey c ix envs s
  | .tuneOpen c ix => Sys2Proof.Machine.execTuneOpen c ix s
  | .tuneStep c ix => Sys2Proof.Machine.execTuneStep c ix s
  | .tuneRead c ix => Sys2Proof.Machine.execTuneRead c ix s
  | .tuneClose c ix => Sys2Proof.Machine.execTuneClose c ix s
  | .tuneOpenDigest ses rank digest => Sys2Proof.Machine.execTuneOpenDigest ses rank digest s
  | .tuneOpenTimeout ses elapsedMs => Sys2Proof.Machine.execTuneOpenTimeout ses elapsedMs s
  | .bucketPartArrive ses p => Sys2Proof.Machine.execBucketPartArrive ses p s
  | .stepDone ses rank step attempt crcs => Sys2Proof.Machine.execStepDone ses rank step attempt crcs s
  | .tuneDeadline ses elapsedUs => Sys2Proof.Machine.execTuneDeadline ses elapsedUs s
  | .tuneCommit ses step => Sys2Proof.Machine.execTuneCommit ses step s
  | .tuneRepeat ses step attempt => Sys2Proof.Machine.execTuneRepeat ses step attempt s
  | .tuneFail ses step missing => Sys2Proof.Machine.execTuneFail ses step missing s
  | .tuneOutcomeQuery ses elapsedUs reached => Sys2Proof.Machine.execTuneOutcomeQuery ses elapsedUs reached s
  | .tuneCoordLost ses elapsedUs => Sys2Proof.Machine.execTuneCoordLost ses elapsedUs s
  | .retract msg => Sys2Proof.Machine.execRetract msg s
  | .ingestSegment c ix seg body tag error => Sys2Proof.Machine.execIngestSegment c ix seg body tag error s
  | .sealEnvelope c ix => Sys2Proof.Machine.execSealEnvelope c ix s
  | .fabricPacketArrive port p tag => Sys2Proof.Machine.execFabricPacketArrive port p tag s
  | .packetLifetimeDiscard p waitUs => Sys2Proof.Machine.execPacketLifetimeDiscard p waitUs s
  | .ackTimer src flow => Sys2Proof.Machine.execAckTimer src flow s
  | .fabAck src flow seq => Sys2Proof.Machine.execFabAck src flow seq s
  | .fabNack src flow seq count => Sys2Proof.Machine.execFabNack src flow seq count s
  | .fabStatus src flow seq code => Sys2Proof.Machine.execFabStatus src flow seq code s
  | .reorderTimeout src flow elapsedUs => Sys2Proof.Machine.execReorderTimeout src flow elapsedUs s
  | .retransmitTimeout dst flow elapsedUs => Sys2Proof.Machine.execRetransmitTimeout dst flow elapsedUs s
  | .transferLossTimeout dst flow elapsedUs => Sys2Proof.Machine.execTransferLossTimeout dst flow elapsedUs s
  | .linkReplay port => Sys2Proof.Machine.execLinkReplay port s
  | .laneLoss port lane => Sys2Proof.Machine.execLaneLoss port lane s
  | .lightDetect port => Sys2Proof.Machine.execLightDetect port s
  | .portTrained port nb => Sys2Proof.Machine.execPortTrained port nb s
  | .discoveryOffer => Sys2Proof.Machine.execDiscoveryOffer s
  | .electionSettled quietUs => Sys2Proof.Machine.execElectionSettled quietUs s
  | .disc d => Sys2Proof.Machine.execDisc d s
  | .leaderLost lostUs => Sys2Proof.Machine.execLeaderLost lostUs s
  | .prepare => Sys2Proof.Machine.execPrepare s
  | .fabReady serial => Sys2Proof.Machine.execFabReady serial s
  | .fabSwap => Sys2Proof.Machine.execFabSwap s
  | .fabricEpochRequest r => Sys2Proof.Machine.execFabricEpochRequest r s
  | .multicastRetry ix elapsedUs => Sys2Proof.Machine.execMulticastRetry ix elapsedUs s
  | .wclose owner w => Sys2Proof.Machine.execWclose owner w s
  | .wcloseAck peer w => Sys2Proof.Machine.execWcloseAck peer w s
  | .windowReuseHold w elapsedMs => Sys2Proof.Machine.execWindowReuseHold w elapsedMs s
  | .shadowCompare st work shadow => Sys2Proof.Machine.execShadowCompare st work shadow s
  | .majoritySettle ix third => Sys2Proof.Machine.execMajoritySettle ix third s
  | .checkClose c ix => Sys2Proof.Machine.execCheckClose c ix s
  | .suspectClear t elapsedH => Sys2Proof.Machine.execSuspectClear t elapsedH s
  | .suspectPaceLower t elapsedH => Sys2Proof.Machine.execSuspectPaceLower t elapsedH s
  | .replacement st durationUs => Sys2Proof.Machine.execReplacement st durationUs s
  | .frostTile r => Sys2Proof.Machine.execFrostTile r s
  | .unfrostTile r => Sys2Proof.Machine.execUnfrostTile r s
  | .skimSliceStart t target => Sys2Proof.Machine.execSkimSliceStart t target s
  | .skimSaveDone t => Sys2Proof.Machine.execSkimSaveDone t s
  | .skimRetentionPause t elapsedUs errs => Sys2Proof.Machine.execSkimRetentionPause t elapsedUs errs s
  | .skimRestoreDone t uncorrectable => Sys2Proof.Machine.execSkimRestoreDone t uncorrectable s
  | .redirectedAccess t line write data => Sys2Proof.Machine.execRedirectedAccess t line write data s
  | .bankRestore r => Sys2Proof.Machine.execBankRestore r s
  | .vcoreSetpoint r => Sys2Proof.Machine.execVcoreSetpoint r s
  | .forceSafePacing r => Sys2Proof.Machine.execForceSafePacing r s
  | .powerLimit r => Sys2Proof.Machine.execPowerLimit r s
  | .tileTrim t r => Sys2Proof.Machine.execTileTrim t r s
  | .tilePace t r => Sys2Proof.Machine.execTilePace t r s
  | .governorLoop avgW tj => Sys2Proof.Machine.execGovernorLoop avgW tj s
  | .governorRelease maxAvgW => Sys2Proof.Machine.execGovernorRelease maxAvgW s
  | .powerSample watts => Sys2Proof.Machine.execPowerSample watts s
  | .fastThrottle watts us => Sys2Proof.Machine.execFastThrottle watts us s
  | .thermalLimit tj => Sys2Proof.Machine.execThermalLimit tj s
  | .thermalShutdown tj => Sys2Proof.Machine.execThermalShutdown tj s
  | .warningLevelFall row mv => Sys2Proof.Machine.execWarningLevelFall row mv s
  | .safePacingExit heldUs durationUs => Sys2Proof.Machine.execSafePacingExit heldUs durationUs s
  | .marginLow t m => Sys2Proof.Machine.execMarginLow t m s
  | .marginRecover t m heldUs => Sys2Proof.Machine.execMarginRecover t m heldUs s
  | .dipReset row mv ns => Sys2Proof.Machine.execDipReset row mv ns s
  | .powerUp mv ms badRail => Sys2Proof.Machine.execPowerUp mv ms badRail s
  | .inputLow mv => Sys2Proof.Machine.execInputLow mv s
  | .inputHigh mv => Sys2Proof.Machine.execInputHigh mv s
  | .inputLost mv => Sys2Proof.Machine.execInputLost mv s
  | .railShort rail => Sys2Proof.Machine.execRailShort rail s
  | .vsocLow mv ns => Sys2Proof.Machine.execVsocLow mv ns s
  | .bootWatchdog ms => Sys2Proof.Machine.execBootWatchdog ms s
  | .serviceCoreWatchdog ms => Sys2Proof.Machine.execServiceCoreWatchdog ms s
  | .coldStart b => Sys2Proof.Machine.execColdStart b s
  | .moduleReset b => Sys2Proof.Machine.execModuleReset b s
  | .thaw digestOk readyMs => Sys2Proof.Machine.execThaw digestOk readyMs s
  | .resetRequestThaw r => Sys2Proof.Machine.execResetRequestThaw r s
  | .resetRequestModule r => Sys2Proof.Machine.execResetRequestModule r s
  | .pwrEnLow ms => Sys2Proof.Machine.execPwrEnLow ms s
  | .pwrEnRise tj => Sys2Proof.Machine.execPwrEnRise tj s
  | .flashBlockWrite readBackB readBackA => Sys2Proof.Machine.execFlashBlockWrite readBackB readBackA s
  | .persistFlush => Sys2Proof.Machine.execPersistFlush s
  | .copyResolveA r => Sys2Proof.Machine.execCopyResolveA r s
  | .copyResolveB r => Sys2Proof.Machine.execCopyResolveB r s
  | .copyResolveKeep r => Sys2Proof.Machine.execCopyResolveKeep r s
  | .firmwareInstall r chk => Sys2Proof.Machine.execFirmwareInstall r chk s
  | .ownerClaim r sigOk => Sys2Proof.Machine.execOwnerClaim r sigOk s
  | .ownerRelease r sigOk => Sys2Proof.Machine.execOwnerRelease r sigOk s
  | .keyRemove r => Sys2Proof.Machine.execKeyRemove r s
  | .licenceInstall r endorseOk sigOk => Sys2Proof.Machine.execLicenceInstall r endorseOk sigOk s
  | .commitSvn r => Sys2Proof.Machine.execCommitSvn r s
  | .quoteRequest r => Sys2Proof.Machine.execQuoteRequest r s
  | .scanClear r readBackOk => Sys2Proof.Machine.execScanClear r readBackOk s
  | .vectorDim r => Sys2Proof.Machine.execVectorDim r s
  | .rolePlan role r => Sys2Proof.Machine.execRolePlan role r s
  | .defaultsRestore r => Sys2Proof.Machine.execDefaultsRestore r s
  | .recorderClearFar r => Sys2Proof.Machine.execRecorderClearFar r s
  | .recorderClearAll r => Sys2Proof.Machine.execRecorderClearAll r s
  | .recorderIntervalEnd => Sys2Proof.Machine.execRecorderIntervalEnd s
  | .recorderFlashPage => Sys2Proof.Machine.execRecorderFlashPage s
  | .extest => Sys2Proof.Machine.execExtest s
  | .idcode => Sys2Proof.Machine.execIdcode s
  | .samplePreload => Sys2Proof.Machine.execSamplePreload s
  | .clamp => Sys2Proof.Machine.execClamp s
  | .highz => Sys2Proof.Machine.execHighz s
  | .inscan => Sys2Proof.Machine.execInscan s
  | .bypass => Sys2Proof.Machine.execBypass s
  | .bjRead r => Sys2Proof.Machine.execBjRead r s
  | .bjWrite r => Sys2Proof.Machine.execBjWrite r s
  | .readSeg r => Sys2Proof.Machine.execReadSeg r s
  | .writeSeg r => Sys2Proof.Machine.execWriteSeg r s
  | .writeEnd r => Sys2Proof.Machine.execWriteEnd r s
  | .sessionOpen r level key endorsed => Sys2Proof.Machine.execSessionOpen r level key endorsed s
  | .sessionProve r sigOk => Sys2Proof.Machine.execSessionProve r sigOk s
  | .sessionClose r => Sys2Proof.Machine.execSessionClose r s
  | .sessionOpenLapse n elapsedMs => Sys2Proof.Machine.execSessionOpenLapse n elapsedMs s
  | .sessionIdle n idleS => Sys2Proof.Machine.execSessionIdle n idleS s
  | .uploadAbandon entry idleS => Sys2Proof.Machine.execUploadAbandon entry idleS s
  | .notifyAck r => Sys2Proof.Machine.execNotifyAck r s
  | .alarmResend nseq elapsedMs => Sys2Proof.Machine.execAlarmResend nseq elapsedMs s
  | .notifyTokenRefill code => Sys2Proof.Machine.execNotifyTokenRefill code s
  | .ptpSync master offsetNs ratePpb ptpScale => Sys2Proof.Machine.execPtpSync master offsetNs ratePpb ptpScale s
  | .ptpHoldover silentMs => Sys2Proof.Machine.execPtpHoldover silentMs s
  | .serviceButtonPress ms src => Sys2Proof.Machine.execServiceButtonPress ms src s
  | .serviceButtonHold ms src => Sys2Proof.Machine.execServiceButtonHold ms src s
  | .buttonStuck ms => Sys2Proof.Machine.execButtonStuck ms s
  | .quiesceRequest r => Sys2Proof.Machine.execQuiesceRequest r s
  | .quiesceForce r => Sys2Proof.Machine.execQuiesceForce r s
  | .quiesceCancel r => Sys2Proof.Machine.execQuiesceCancel r s
  | .quiesceDrained => Sys2Proof.Machine.execQuiesceDrained s
  | .touch ms => Sys2Proof.Machine.execTouch ms s
  | .identify r => Sys2Proof.Machine.execIdentify r s
  | .identifyTimeout elapsedS => Sys2Proof.Machine.execIdentifyTimeout elapsedS s
  | .lightBarSleep elapsedS => Sys2Proof.Machine.execLightBarSleep elapsedS s
  | .coolantSample inlet outlet flow ok lowForMs absentMs => Sys2Proof.Machine.execCoolantSample inlet outlet flow ok lowForMs absentMs s
  | .sidebandOpen bit ms => Sys2Proof.Machine.execSidebandOpen bit ms s
  | .moduleInsert slotId => Sys2Proof.Machine.execModuleInsert slotId s
  | .smbFruRead => Sys2Proof.Machine.execSmbFruRead s
  | .apertureWrite a offset data => Sys2Proof.Machine.execApertureWrite a offset data s
  | .recorderClearDone => Sys2Proof.Machine.execRecorderClearDone s
  | .railRetry ok elapsedMs => Sys2Proof.Machine.execRailRetry ok elapsedMs s
  | .tuneOpenAnswer ses agreed => Sys2Proof.Machine.execTuneOpenAnswer ses agreed s
  | .outcomeRequest ses rank step => Sys2Proof.Machine.execOutcomeRequest ses rank step s
  | .mportLinkChange up => Sys2Proof.Machine.execMportLinkChange up s
  | .consoleAttach vbus => Sys2Proof.Machine.execConsoleAttach vbus s
  | .addressDropExpire ip elapsedS => Sys2Proof.Machine.execAddressDropExpire ip elapsedS s

end Sys2Proof.Machine
end

