-- ==== Sys2Proof/Machine/Tick.lean ====
section
/-! DEFINITION. What the block does while no command waits: the time base counts one nanosecond (R52), the vault signs the
quote that has waited longest (R310), sub-channels whose last training lies 10 s back are to be retrained (R276), a dispute without a third tile takes one that has become free (R468), the tiles
count held beats (R113) and meet words that are no instruction (R87), and clearing before scan takes its next step (R316). -/

namespace Sys2Proof.Machine

/-- Disputes that wait for a third tile look for one. Log 5 (DESIGN CHOICE). -/
def State.seekAll (s : State) : State :=
  let ds := s.check.disputes
  let (s, out) := ds.foldl (fun (a : State × List Dispute) d =>
    let (t, e) := a.1.seekThird d
    (t, a.2 ++ [e])) (s, [])
  { s with check := { s.check with disputes := out } }

/-- One idle nanosecond. Log 5 (DESIGN CHOICE). -/
def State.tick (s : State) : State :=
  let s := { s with timeBase := (s.timeBase + 1) % 2 ^ 64 }
  ((s.signQuote.seekAll.beats).callRetrain 80).clearNext

end Sys2Proof.Machine
end

