-- ==== Sys2Proof/Machine/HostWindow.lean ====
section
/-! DEFINITION. The three BARs as the host sees them: their sizes (R322), what their reads answer (R323, R324, R334, R354),
the MSI-X table and its pending bits (R324, R327), the endpoint's identity (R319), and the 64-bit doorbell (R334). No row of
the opcode table reads a BAR or writes the MSI-X table: these functions say what such an access answers or does. -/

namespace Sys2Proof.Machine

/-- Bytes of BAR0, BAR2 and BAR4 (R322). -/
def barBytes : Nat → Nat
  | 0 => 0x100000
  | 2 => 0x8000
  | 4 => 0x80000000
  | _ => 0

/-- Device ID and class code (R319). -/
def deviceId : Nat := 0x4801
def classCode : Nat := 0x120000

/-- Configuration requests are answered with Request Retry Status (R323). -/
def State.configRetry (s : State) : Bool := s.boot = .thawing

/-- A 32-bit word of BAR0 (R324, R325, R328). -/
def State.bar0Reg (s : State) (off : Nat) : Nat :=
  if off = 0x00000 then s.devstat
  else if off = 0x00008 then s.host.base.toNat % 2 ^ 32
  else if off = 0x0000C then s.host.base.toNat / 2 ^ 32
  else if off = 0x00010 then s.host.count
  else if 0x10000 ≤ off ∧ off < 0x10400 then bits (s.msixEntry ((off - 0x10000) / 16)) ((off - 0x10000) % 16 * 8) 32
  else if off = 0x18000 then s.host.pba.toNat % 2 ^ 32
  else if off = 0x18004 then s.host.pba.toNat / 2 ^ 32
  else if 0x20000 ≤ off ∧ off < 0x28000 then
    let w := (s.chan ((off - 0x20000) / 8)).stat
    if off % 8 = 0 then w.1 else w.2
  else 0

/-- A word read of an aperture byte range (R354): all ones where its slot has no valid raw channel. -/
def State.apertureWord (s : State) (off : Nat) : Nat :=
  if s.slotHasChannel (off / 0x10000000) then
    leAt ((List.range 4).map fun i => look memDflt s.host.apertures (off + i)) 0 4
  else 0xFFFFFFFF

/-- What an aligned 32-bit read of a BAR answers; `none` while BAR access is closed (R321, R323, R334, R354). -/
def State.barRead (s : State) (b off : Nat) : Option Nat :=
  if !s.barOpen then none
  else if s.boot = .thawing then some (if b = 0 ∧ off = 0 then s.devstat else 0xFFFFFFFF)
  else match b with
    | 0 => some (s.bar0Reg off)
    | 4 => some (s.apertureWord off)
    | _ => some 0

/-- A write of a word of the MSI-X table; a vector that it unmasks sends the message that its pending bit held back
(R324, R327). Log 163 (PRESUMED). -/
def State.msixWrite (s : State) (off : Nat) (w : Word) : State :=
  s.barWrite fun s =>
    let v := off / 16
    let sh := off % 16 * 8
    let old := s.msixEntry v
    let new := old - bits old sh 32 * 2 ^ sh + w.toNat * 2 ^ sh
    let s := s.onHost fun h => { h with msix := put (fun _ => 0) h.msix v new }
    if s.msixMasked v || !s.host.pba.getLsbD v then s
    else (s.onHost fun h => { h with pba := h.pba &&& ~~~(BitVec.ofNat 64 (2 ^ v)) }).signal v

/-- A doorbell write at a BAR2 offset by its KIND: SUBMIT, INVALIDATE, ABORT or CACK; a reserved KIND is dropped and
counted (R334). -/
def State.bar2Write (s : State) (off w : Nat) (e : EntryRead) : State :=
  let c := off / 8
  let v := BitVec.ofNat 16 w
  let rsv := bits w 20 44
  match bits w 16 4 with
  | 0 => s.doorbell c rsv e fun s => s.submitTail c v
  | 1 => s.invalidate c rsv e
  | 2 => s.doorbell c rsv e fun s => s.takeAbort c v.toNat
  | 3 => s.doorbell c rsv e fun s => s.ackTo c v
  | _ => if s.barOpen then s.dropDoorbell else s

end Sys2Proof.Machine
end

