-- ==== Sys2Proof/Safety.lean ====
section
/-! DEFINITION. What counts as a safe run: every step answers a next state, and the sparse maps of the state keep
their canonical form, so that equal contents are equal data. -/

namespace Sys2Proof.Machine

/-- The maps of the state are canonical: module memory, tiles, dictionary. -/
structure State.Canonical (s : State) : Prop where
  mem : Memory.wf s.mem.cells
  tiles : canon (fun _ => Tile.reset) s.tiles
  dict : canon dflt s.dict
  strands : canon (fun _ => Strand.reset) s.strands

/-- A step that goes on. -/
def Goes (s s' : State) : Prop := step s = .next s'

end Sys2Proof.Machine
end

