-- ==== Sys2Proof/Certificates/Slice0/Obligations.lean ====
section
/-! DEFINITION. The statements for the provers. `Claims` holds the words they are written in: what a command leaves,
what it leaves alone, and tables of rows of one shape. -/

open Sys2Proof Sys2Proof.Machine

namespace Sys2Proof.Claims

/-- The command runs to its end, and the state it leaves has the property. -/
def Ends (c : Instr) (s : State) (P : State → Prop) : Prop := ∃ s', exec c s = .next s' ∧ P s'

/-- The tile in slot `t` may issue: its slot is usable and its core runs. -/
def Issues (s : State) (t : Slot) : Prop := (s.tile t.val).enabled = true ∧ (s.tile t.val).core.run = .running

/-- None of the registers waits for the status of a message (R60). -/
def Usable (s : State) (t : Slot) (rs : List (BitVec 5)) : Prop :=
  ∀ r ∈ rs, (s.tile t.val).core.held.contains r = false

/-- Nothing outside the tile in slot `t` changes. -/
def OnlyTile (s s' : State) (t : Slot) : Prop :=
  (∀ u, u ≠ t.val → s'.tile u = s.tile u) ∧ { s' with tiles := s.tiles } = s

/-- Every other general register, the rest of the core, and every unit, handle, byte, mark and queue of the tile are
as before. -/
structure RegFrame (x x' : Tile) (rd : BitVec 5) : Prop where
  others : ∀ r, r ≠ rd → x'.reg r = x.reg r
  rest : { x' with core := { x'.core with regs := x.core.regs, pc := x.core.pc } } = x

/-- The command puts `v` into the register and goes on at word `pc`, and changes nothing else. -/
def Writes (c : Instr) (s : State) (t : Slot) (rd : BitVec 5) (v : Word) (pc : Int) : Prop :=
  Ends c s fun s' => (s'.tile t.val).reg rd = v ∧ (s'.tile t.val).core.pc = pcTo pc
    ∧ RegFrame (s.tile t.val) (s'.tile t.val) rd ∧ OnlyTile s s' t

/-- The command only moves the program counter, to word `pc`. -/
def Moves (c : Instr) (s : State) (t : Slot) (pc : Int) : Prop :=
  Ends c s fun s' => (s'.tile t.val).core.pc = pcTo pc
    ∧ { s'.tile t.val with core := { (s'.tile t.val).core with pc := (s.tile t.val).core.pc } } = s.tile t.val
    ∧ OnlyTile s s' t

/-- The command leaves the tile as `x`, and changes nothing else. -/
def Leaves (c : Instr) (s : State) (t : Slot) (x : Tile) : Prop :=
  Ends c s fun s' => s'.tile t.val = x ∧ OnlyTile s s' t

/-- The word index of the instruction that issues. -/
def here (s : State) (t : Slot) : Int := ((s.tile t.val).core.pc.toNat : Int)

/-- 1 for true, 0 for false, as the compares of R88 deliver it. -/
def flag (b : Bool) : Word := if b then 1 else 0

/-- The register forms of R88 with what each makes of its two sources. -/
def aluRows (t : Slot) (rd ra rb : BitVec 5) : List (Instr × (Word → Word → Word)) :=
  [(.add t rd ra rb 0, fun a b => BitVec.ofNat 32 (a.toNat + b.toNat)),
   (.sub t rd ra rb 0, fun a b => BitVec.ofInt 32 (a.toInt - b.toInt)),
   (.andR t rd ra rb 0, fun a b => a &&& b),
   (.orR t rd ra rb 0, fun a b => a ||| b),
   (.xorR t rd ra rb 0, fun a b => a ^^^ b),
   (.shl t rd ra rb 0, fun a b => BitVec.ofNat 32 (a.toNat * 2 ^ (b.toNat % 32))),
   (.shr t rd ra rb 0, fun a b => BitVec.ofNat 32 (a.toNat / 2 ^ (b.toNat % 32))),
   (.sra t rd ra rb 0, fun a b => BitVec.ofInt 32 (a.toInt / 2 ^ (b.toNat % 32))),
   (.mul t rd ra rb 0, fun a b => BitVec.ofNat 32 (a.toNat * b.toNat)),
   (.slt t rd ra rb 0, fun a b => flag (a.toInt < b.toInt)),
   (.sltu t rd ra rb 0, fun a b => flag (a.toNat < b.toNat)),
   (.minR t rd ra rb 0, fun a b => BitVec.ofInt 32 (min a.toInt b.toInt)),
   (.maxR t rd ra rb 0, fun a b => BitVec.ofInt 32 (max a.toInt b.toInt)),
   (.minu t rd ra rb 0, fun a b => BitVec.ofNat 32 (min a.toNat b.toNat)),
   (.maxu t rd ra rb 0, fun a b => BitVec.ofNat 32 (max a.toNat b.toNat))]

/-- The immediate forms of R88 with what each makes of its source and IMM12. -/
def aluiRows (t : Slot) (rd ra : BitVec 5) (imm : BitVec 12) : List (Instr × (Word → Word)) :=
  [(.addi t rd ra imm, fun a => BitVec.ofInt 32 (a.toInt + imm.toInt)),
   (.andi t rd ra imm, fun a => a &&& BitVec.ofNat 32 imm.toNat),
   (.ori t rd ra imm, fun a => a ||| BitVec.ofNat 32 imm.toNat),
   (.xori t rd ra imm, fun a => a ^^^ BitVec.ofNat 32 imm.toNat),
   (.shli t rd ra imm, fun a => BitVec.ofNat 32 (a.toNat * 2 ^ (imm.toNat % 32))),
   (.shri t rd ra imm, fun a => BitVec.ofNat 32 (a.toNat / 2 ^ (imm.toNat % 32))),
   (.srai t rd ra imm, fun a => BitVec.ofInt 32 (a.toInt / 2 ^ (imm.toNat % 32))),
   (.muli t rd ra imm, fun a => BitVec.ofInt 32 (a.toInt * imm.toInt)),
   (.slti t rd ra imm, fun a => flag (a.toInt < imm.toInt)),
   (.sltui t rd ra imm, fun a => flag (a.toNat < imm.toNat)),
   (.mini t rd ra imm, fun a => BitVec.ofInt 32 (min a.toInt imm.toInt)),
   (.maxi t rd ra imm, fun a => BitVec.ofInt 32 (max a.toInt imm.toInt)),
   (.minui t rd ra imm, fun a => BitVec.ofNat 32 (min a.toNat imm.toNat)),
   (.maxui t rd ra imm, fun a => BitVec.ofNat 32 (max a.toNat imm.toNat))]

/-- The branches of R88 with their conditions. -/
def branchRows (t : Slot) (ra rb : BitVec 5) (off : BitVec 13) : List (Instr × (Word → Word → Prop)) :=
  [(.beq t ra rb off, fun a b => a = b), (.bne t ra rb off, fun a b => a ≠ b),
   (.blt t ra rb off, fun a b => a.toInt < b.toInt), (.bge t ra rb off, fun a b => b.toInt ≤ a.toInt),
   (.bltu t ra rb off, fun a b => a.toNat < b.toNat), (.bgeu t ra rb off, fun a b => b.toNat ≤ a.toNat)]

end Sys2Proof.Claims

open Sys2Proof.Claims

/-- Each register form puts its function of the two sources into rd and moves on by one word. -/
def Sys2Proof.Claims.RegisterArithmetic : Prop :=
  ∀ (s : State) (t : Slot) (rd ra rb : BitVec 5), Issues s t → Usable s t [ra, rb] →
    ∀ p ∈ aluRows t rd ra rb,
      Writes p.1 s t rd (p.2 ((s.tile t.val).reg ra) ((s.tile t.val).reg rb)) (here s t + 1)

/-- Each immediate form puts its function of the source and IMM12 into rd; LUI puts IMM20 into bits 31 to 12. -/
def Sys2Proof.Claims.ImmediateArithmetic : Prop :=
  (∀ (s : State) (t : Slot) (rd ra : BitVec 5) (imm : BitVec 12), Issues s t → Usable s t [ra] →
    ∀ p ∈ aluiRows t rd ra imm, Writes p.1 s t rd (p.2 ((s.tile t.val).reg ra)) (here s t + 1))
  ∧ ∀ (s : State) (t : Slot) (rd : BitVec 5) (imm : BitVec 20), Issues s t →
      Writes (.lui t rd 0 imm) s t rd (imm ++ (0 : BitVec 12)) (here s t + 1)

/-- A branch goes to its word offset when its condition holds and to the next word when not. That offsets count from the
branch itself is the model's reading (log entry 151). -/
def Sys2Proof.Claims.BranchTargets : Prop :=
  ∀ (s : State) (t : Slot) (ra rb : BitVec 5) (off : BitVec 13), Issues s t → Usable s t [ra, rb] →
    ∀ p ∈ branchRows t ra rb off,
      (p.2 ((s.tile t.val).reg ra) ((s.tile t.val).reg rb) → Moves p.1 s t (here s t + off.toInt))
      ∧ (¬ p.2 ((s.tile t.val).reg ra) ((s.tile t.val).reg rb) → Moves p.1 s t (here s t + 1))

/-- JAL goes by a word offset and JR to the word index in a register; both put the index of the next word into rd. That
links and JR count words is the model's reading (log entry 151). -/
def Sys2Proof.Claims.JumpAndLink : Prop :=
  ∀ (s : State) (t : Slot) (rd : BitVec 5), Issues s t →
    (∀ off : BitVec 20, Writes (.jal t rd off) s t rd (BitVec.ofInt 32 (here s t + 1)) (here s t + off.toInt))
    ∧ ∀ ra : BitVec 5, Usable s t [ra] →
        Writes (.jr t rd ra 0) s t rd (BitVec.ofInt 32 (here s t + 1)) ((s.tile t.val).reg ra).toNat

/-- The loop-counter class: LSETI, LSETR, LINC, LOOP and LBZ on counter `lc`, LGET into a register. A counter stays
between 0 and 16,777,215, and LOOP branches while the counter it has lowered is not zero, by offsets that count from the
instruction itself (log entry 151). -/
def Sys2Proof.Claims.LoopCounters : Prop :=
  ∀ (s : State) (t : Slot) (lc : BitVec 4), Issues s t →
    let x := s.tile t.val
    let v := (x.lc lc).toNat
    (∀ k : BitVec 19, Leaves (.lseti t lc k) s t ((x.setLc lc (BitVec.ofNat 24 k.toNat)).setPc (here s t + 1)))
    ∧ (∀ r, Usable s t [r] →
        Leaves (.lsetr t lc r 0) s t ((x.setLc lc (BitVec.ofNat 24 (x.reg r).toNat)).setPc (here s t + 1)))
    ∧ (∀ k : BitVec 19, Ends (.linc t lc k) s fun s' =>
        (((s'.tile t.val).lc lc).toNat : Int) = max 0 (min 16777215 (v + k.toInt))
        ∧ (∀ d, d ≠ lc → (s'.tile t.val).lc d = x.lc d)
        ∧ { s'.tile t.val with core := { (s'.tile t.val).core with lcs := x.core.lcs, pc := x.core.pc } } = x
        ∧ (s'.tile t.val).core.pc = pcTo (here s t + 1) ∧ OnlyTile s s' t)
    ∧ (∀ off : BitVec 19, Leaves (.loopC t lc off) s t
        ((x.setLc lc (BitVec.ofNat 24 (v - 1))).setPc (here s t + if 1 < v then off.toInt else 1)))
    ∧ (∀ r, Writes (.lget t lc r 0) s t r (BitVec.ofNat 32 v) (here s t + 1))
    ∧ ∀ off : BitVec 19, Moves (.lbz t lc off) s t (here s t + if v = 0 then off.toInt else 1)

namespace Sys2Proof.Claims

/-- The command stops issue with a fault at its own instruction; what the tile dispatched before completes, and the
supervisor takes the report (R105, R457). -/
def Faults (c : Instr) (s : State) (t : Slot) (code : FaultCode) (i : Tis) (arg : Nat) : Prop :=
  exec c s = .next ((s.onTile t.val fun x => x.fail code i arg).stopTile t.val)

/-- The loads of R88, each with its function. -/
def loadRows (t : Slot) (rd base : BitVec 5) (imm : BitVec 12) : List (Instr × LoadFn) :=
  [(.lb t rd base imm, .lb), (.lh t rd base imm, .lh), (.lw t rd base imm, .lw), (.lbu t rd base imm, .lbu),
   (.lhu t rd base imm, .lhu)]

/-- The stores of R88, each with its function. -/
def storeRows (t : Slot) (data base : BitVec 5) (imm : BitVec 12) : List (Instr × StoreFn) :=
  [(.sb t data base imm, .sb), (.sh t data base imm, .sh), (.sw t data base imm, .sw)]

/-- What a load makes of the bytes at and after its address. -/
def loaded (f : LoadFn) (b : Nat → Byte) : Word :=
  match f with
  | .lb => (b 0).signExtend 32
  | .lbu => (b 0).zeroExtend 32
  | .lh => (b 1 ++ b 0).signExtend 32
  | .lhu => (b 1 ++ b 0).zeroExtend 32
  | .lw => b 3 ++ b 2 ++ b 1 ++ b 0

/-- The address of a load or store: the base register plus IMM12, sign extended, modulo 2^32. -/
def address (s : State) (t : Slot) (base : BitVec 5) (imm : BitVec 12) : Nat :=
  (BitVec.ofInt 32 (((s.tile t.val).reg base).toInt + imm.toInt)).toNat

end Sys2Proof.Claims

/-- A load reads its bytes little-endian, from the scratchpad when steps 3 to 5 of R127 let it pass, or from queue
memory, the instruction store or a control register, and extends them as its function says. -/
def Sys2Proof.Claims.Loads : Prop :=
  ∀ (s : State) (t : Slot) (rd base : BitVec 5) (imm : BitVec 12), Issues s t → Usable s t [base] →
    ∀ p ∈ loadRows t rd base imm,
      let x := s.tile t.val
      let a := address s t base imm
      a % p.2.size = 0 →
      (a < 0x300000 → padMapped x.pad.bankOk a = true → x.sbCheck [[(a, p.2.size)]] [] 0 = .go →
        Writes p.1 s t rd (loaded p.2 fun k => x.byte (a + k)) (here s t + 1))
      ∧ (0x300000 ≤ a → ∀ b : Nat → Byte, (∀ k, k < p.2.size → x.outerByte (s.ctx t.val) (a + k) = some (b k)) →
        Writes p.1 s t rd (loaded p.2 b) (here s t + 1))

/-- A store to the scratchpad leaves its low bytes at the address it computes, marks their line filled, and leaves every
other byte and mark of the tile; a store to a control register is the write of that register, of the whole word. That a
store of less than a word keeps the register's other bytes is the model's reading (log entry 17). -/
def Sys2Proof.Claims.Stores : Prop :=
  ∀ (s : State) (t : Slot) (data base : BitVec 5) (imm : BitVec 12), Issues s t → Usable s t [data, base] →
    ∀ p ∈ storeRows t data base imm,
      let x := s.tile t.val
      let a := address s t base imm
      a % p.2.size = 0 →
      (a < 0x300000 → padMapped x.pad.bankOk a = true → x.standing (a / 64) = false →
        x.sbCheck [] [[(a, p.2.size)]] 0 = .go →
        Ends p.1 s fun s' =>
          let x' := s'.tile t.val
          (∀ k, k < p.2.size → x'.byte (a + k) = ((x.reg data) >>> (8 * k)).truncate 8)
          ∧ (∀ b, (b < a ∨ a + p.2.size ≤ b) → x'.byte b = x.byte b)
          ∧ (∀ l, x'.filled l = if l = a / 64 then true else x.filled l)
          ∧ x'.core = { x.core with pc := pcTo (here s t + 1) }
          ∧ { x' with core := x.core, pad := { x'.pad with bytes := x.pad.bytes, fill := x.pad.fill } } = x
          ∧ OnlyTile s s' t)
      ∧ (∀ o, a = 0x700000 + o → o < 0x1000 → (x.regRead (s.ctx t.val) (o / 4 * 4)).isSome = true →
          ¬ (o / 4 * 4 = 0x390 ∧ s.stepWaits t.val = true) →
        exec p.1 s = .next ((s.onTile t.val fun y => y.setPc (here s t + 1)).writeReg t.val (o / 4 * 4)
          (x.storeWord (s.ctx t.val) p.2 data o)))

/-- A load or store at an address that is no multiple of its size faults with ALIGN_FAULT; one at an aligned address that
nothing is mapped to, and a store to a line of a window or a LAND output, with ADDRESS_FAULT. -/
def Sys2Proof.Claims.AccessFaults : Prop :=
  ∀ (s : State) (t : Slot) (r base : BitVec 5) (imm : BitVec 12), Issues s t →
    let x := s.tile t.val
    let a := address s t base imm
    (Usable s t [base] → ∀ p ∈ loadRows t r base imm,
      (a % p.2.size ≠ 0 → Faults p.1 s t .alignFault (.load p.2 r base imm) 0)
      ∧ (a % p.2.size = 0 → (a < 0x300000 → padMapped x.pad.bankOk a = false) →
          (0x300000 ≤ a → x.outerByte (s.ctx t.val) a = none) →
        Faults p.1 s t .addressFault (.load p.2 r base imm) 0))
    ∧ (Usable s t [r, base] → ∀ p ∈ storeRows t r base imm,
      (a % p.2.size ≠ 0 → Faults p.1 s t .alignFault (.store p.2 r base imm) 0)
      ∧ (a % p.2.size = 0 → (a < 0x300000 → padMapped x.pad.bankOk a = false ∨ x.standing (a / 64) = true) →
          (0x700000 ≤ a → a < 0x701000 → x.regRead (s.ctx t.val) (a % 0x1000 / 4 * 4) = none) →
        Faults p.1 s t .addressFault (.store p.2 r base imm) 0))

/-- Steps 3 to 5 of R127 for one access to one scratchpad line: an unfilled line that nobody produces stops a read; an
overlapping producer holds a read, any overlapping entry holds a write; nothing else holds either. -/
def Obligations.ScoreboardGate : Prop :=
  ∀ (x : Tile) (a n : Nat), 0 < n → a % 64 + n ≤ 64 → x.pad.winslots = [] → (∀ p ∈ x.pad.sb, p.2.unit ≠ 3) →
    x.pad.sb.length ≤ 32 →
    let l := a / 64
    let covers := fun (p : Nat × SbEntry) => p.2.first ≤ l ∧ l ≤ p.2.last
    ((x.filled l = false ∧ ∀ p ∈ x.pad.sb, ¬ (covers p ∧ p.2.producer = true)) ↔
        x.sbCheck [[(a, n)]] [] 0 = .unfilled l)
    ∧ ((∃ p ∈ x.pad.sb, covers p ∧ p.2.producer = true) ↔ ∃ pc u, x.sbCheck [[(a, n)]] [] 0 = .hold l pc u)
    ∧ ((x.filled l = true ∧ ∀ p ∈ x.pad.sb, ¬ (covers p ∧ p.2.producer = true)) ↔ x.sbCheck [[(a, n)]] [] 0 = .go)
    ∧ ((∃ p ∈ x.pad.sb, covers p) ↔ ∃ pc u, x.sbCheck [] [[(a, n)]] 0 = .hold l pc u)
    ∧ ((∀ p ∈ x.pad.sb, ¬ covers p) ↔ x.sbCheck [] [[(a, n)]] 0 = .go)

namespace Sys2Proof.Claims

/-- The command is held at its instruction, under the wait limit in force (R129); nothing else changes. -/
def Waits (c : Instr) (s : State) (t : Slot) (i : Tis) : Prop :=
  Leaves c s t { s.tile t.val with core := { (s.tile t.val).core with
    run := .stalled i true
    stallStart := s.timeBase
    stallLimitUs := s.get K.scoreboardWaitLimit } }

/-- A command for one handle. -/
def handleOp (h h2 : BitVec 6) (ra rb : BitVec 5) : HandleOp := ⟨h, h2, ra, rb, 0⟩

/-- The tile with handle `h` set to `e`, past a one-word instruction. -/
def withHandle (s : State) (t : Slot) (h : BitVec 6) (e : Handle) : Tile :=
  ((s.tile t.val).setHandle h e).setPc (here s t + 1)

end Sys2Proof.Claims

/-- HSET checks the entry that three registers hold, in the order of R120, and faults with the first check that fails; the
entry is then as before. Memory a handle may reach is what its strand is granted, and for handles 62 and 63 the tile's part of
the checkpoint slots too (R261). An entry that passes is written; KIND 0 always succeeds and invalidates, as HINV does. That
invalidating changes KIND alone is the model's reading (log entry 15). -/
def Obligations.HandleSetChecks : Prop :=
  ∀ (s : State) (t : Slot) (h h2 : BitVec 6) (ra rb : BitVec 5), Issues s t → ra.toNat ≤ 29 →
    Usable s t [ra, ra + 1, ra + 2] → (s.tile t.val).handleBusy h = false →
    let x := s.tile t.val
    let e : Handle := ⟨x.reg ra, x.reg (ra + 1), x.reg (ra + 2)⟩
    let o := handleOp h h2 ra rb
    let kind := e.w0.toNat % 4
    let perm := e.w0.toNat / 4 % 4
    let ep := e.w0.toNat / 65536
    let b := e.w1.toNat
    let n := e.w2.toNat
    let gs := if 62 ≤ h.toNat then s.grants t.val ++ s.ckptRanges t.val else s.grants t.val
    let fields := e.w0.toNat / 16 % 4096 ≠ 0 ∨ perm = 3 ∨ ((kind = 1 ∨ kind = 2) ∧ ep ≠ 0)
      ∨ (kind = 3 ∧ (ep = 0 ∨ 4096 < ep))
    let hole := (kind = 1 ∧ ∃ a, b ≤ a ∧ a < b + n ∧ padMapped x.pad.bankOk a = false)
      ∨ (kind = 2 ∧ ∃ a, b * 256 ≤ a ∧ a < (b + n) * 256 ∧ ∀ g ∈ gs, ¬ (g.1 ≤ a ∧ a < g.1 + g.2))
    (kind = 0 → Leaves (.hset t o) s t (withHandle s t h { x.handle h with w0 := (x.handle h).w0 &&& 0xFFFFFFFC }))
    ∧ (kind ≠ 0 → fields → Faults (.hset t o) s t .handleKind (.hset o) 0)
    ∧ (kind ≠ 0 → ¬ fields → kind = 1 → b % 64 ≠ 0 → Faults (.hset t o) s t .alignFault (.hset o) 0)
    ∧ (kind ≠ 0 → ¬ fields → ¬ (kind = 1 ∧ b % 64 ≠ 0) → hole → Faults (.hset t o) s t .handleRange (.hset o) 0)
    ∧ (kind ≠ 0 → ¬ fields → ¬ (kind = 1 ∧ b % 64 ≠ 0) → ¬ hole → Leaves (.hset t o) s t (withHandle s t h e))
    ∧ ∀ c k, (x.fail c (.hset o) 0).handle k = x.handle k

/-- HGET copies an entry into three registers, HSWAP exchanges two entries in one step, HINV invalidates one. -/
def Sys2Proof.Claims.HandleMoves : Prop :=
  ∀ (s : State) (t : Slot) (h h2 : BitVec 6) (ra rb : BitVec 5), Issues s t →
    let x := s.tile t.val
    let o := handleOp h h2 ra rb
    (ra.toNat ≤ 29 → Ends (.hget t o) s fun s' =>
      let x' := s'.tile t.val
      x'.reg ra = (x.handle h).w0 ∧ x'.reg (ra + 1) = (x.handle h).w1 ∧ x'.reg (ra + 2) = (x.handle h).w2
        ∧ (∀ r, r ≠ ra → r ≠ ra + 1 → r ≠ ra + 2 → x'.reg r = x.reg r)
        ∧ { x' with core := { x'.core with regs := x.core.regs, pc := x.core.pc } } = x
        ∧ x'.core.pc = pcTo (here s t + 1) ∧ OnlyTile s s' t)
    ∧ (x.handleBusy h = false → x.handleBusy h2 = false → Ends (.hswap t o) s fun s' =>
      let x' := s'.tile t.val
      x'.handle h = x.handle h2 ∧ x'.handle h2 = x.handle h
        ∧ (∀ k, k ≠ h → k ≠ h2 → x'.handle k = x.handle k)
        ∧ { x' with core := { x'.core with pc := x.core.pc }, pad := { x'.pad with handles := x.pad.handles } } = x
        ∧ x'.core.pc = pcTo (here s t + 1) ∧ OnlyTile s s' t)
    ∧ (x.handleBusy h = false →
      Leaves (.hinv t o) s t (withHandle s t h { x.handle h with w0 := (x.handle h).w0 &&& 0xFFFFFFFC }))

/-- HFILL marks exactly the lines its byte range touches as filled, HUNFILL clears those of the handle's whole range; both
need a scratchpad handle that may be written, and HFILL a range inside it. -/
def Sys2Proof.Claims.FillMarks : Prop :=
  ∀ (s : State) (t : Slot) (h h2 : BitVec 6) (ra rb : BitVec 5), Issues s t →
    let x := s.tile t.val
    let o := handleOp h h2 ra rb
    let e := x.handle h
    let a := e.base + (x.reg ra).toNat
    let n := (x.reg rb).toNat
    let marks := fun (s' : State) (a n : Nat) (v : Bool) =>
      let x' := s'.tile t.val
      (∀ l, x'.filled l = if 0 < n ∧ a / 64 ≤ l ∧ l ≤ (a + n - 1) / 64 then v else x.filled l)
        ∧ { x' with core := { x'.core with pc := x.core.pc }, pad := { x'.pad with fill := x.pad.fill } } = x
        ∧ x'.core.pc = pcTo (here s t + 1) ∧ OnlyTile s s' t
    (Usable s t [ra, rb] →
      ((e.kind ≠ 1 ∨ e.canWrite = false) → Faults (.hfill t o) s t .handleKind (.hfill o) 0)
      ∧ (e.kind = 1 → e.canWrite = true → e.size < (x.reg ra).toNat + n →
          Faults (.hfill t o) s t .handleRange (.hfill o) 0)
      ∧ (e.kind = 1 → e.canWrite = true → (x.reg ra).toNat + n ≤ e.size → x.sbCheck [] [[(a, n)]] 0 = .go →
          Ends (.hfill t o) s fun s' => marks s' a n true))
    ∧ (x.handleBusy h = false →
      ((e.kind ≠ 1 ∨ e.canWrite = false) → Faults (.hunfill t o) s t .handleKind (.hunfill o) 0)
      ∧ (e.kind = 1 → e.canWrite = true → x.sbCheck [] [[(e.base, e.size)]] 0 = .go →
          Ends (.hunfill t o) s fun s' => marks s' e.base e.size false))

/-- HSET, HSWAP, HUNFILL and HINV stall while an issued instruction that names a handle of theirs has not retired. -/
def Sys2Proof.Claims.HandleStalls : Prop :=
  ∀ (s : State) (t : Slot) (h h2 : BitVec 6) (ra rb : BitVec 5), Issues s t →
    let x := s.tile t.val
    let o := handleOp h h2 ra rb
    (x.handleBusy h = true →
      (ra.toNat ≤ 29 → Usable s t [ra, ra + 1, ra + 2] → Waits (.hset t o) s t (.hset o))
      ∧ Waits (.hunfill t o) s t (.hunfill o) ∧ Waits (.hinv t o) s t (.hinv o))
    ∧ (x.handleBusy h = true ∨ x.handleBusy h2 = true → Waits (.hswap t o) s t (.hswap o))

namespace Sys2Proof.Claims

/-- Queue `q` is ready (R99): it holds a message, its head is not selected, and no enabled steering unit takes its data
from it (R160). -/
def QueueReady (x : Tile) (q : Nat) : Prop :=
  (x.queue q).held ≠ [] ∧ (x.queue q).selected = false ∧ ∀ u, u < 4 → ¬ ((x.su u).enable = true ∧ (x.su u).iq = q)

/-- The place of queue `q` in the search order: from queue 0, or with ROTATE from the queue after the one last
selected, wrapping from 15 to 0. -/
def searchPlace (x : Tile) (rotate : Bool) (q : Nat) : Nat :=
  match rotate, x.core.lastSel with
  | true, some l => (q + 16 - (l.toNat + 1)) % 16
  | _, _ => q

/-- Queue `q` is the one RECVSEL takes from a mask. -/
def Wins (x : Tile) (mask : Word) (rotate : Bool) (q : Nat) : Prop :=
  (q < 16 ∧ mask.toNat.testBit q = true ∧ QueueReady x q)
    ∧ ∀ r, r < 16 → mask.toNat.testBit r = true → QueueReady x r → searchPlace x rotate q ≤ searchPlace x rotate r

/-- What RECVSEL leaves when it selects queue `q`, whose head is `m`. -/
def Selected (s s' : State) (t : Slot) (o : RecvOp) (q : Nat) (m : Msg) : Prop :=
  let x := s.tile t.val
  let x' := s'.tile t.val
  let b := fun (v : Bool) => if v then 1 else 0
  (x'.reg o.rd).toNat = q + 65536 * (m.hdr.length % 8192)
    ∧ (x'.reg (o.rd + 1)).toNat = m.hdr.tag.toNat + 65536 * m.hdr.srcRow.toNat + 2097152 * m.hdr.srcPos.toNat
        + 67108864 * b m.hdr.cnet + 134217728 * b m.hdr.reply + 268435456 * b (m.hdr.srcEp ≠ 0)
    ∧ (∀ r, r ≠ o.rd → r ≠ o.rd + 1 → x'.reg r = x.reg r)
    ∧ x'.queue q = { x.queue q with selected := true } ∧ (∀ r, r ≠ q → x'.queue r = x.queue r)
    ∧ (∀ k, k < m.hdr.length → k < 4096 →
        x'.outerByte (s'.ctx t.val) (0x500000 + 0x1000 * q + k) = some (m.payload.getD k 0))
    ∧ x'.core.lastSel = some (BitVec.ofNat 4 q) ∧ x'.core.pc = pcTo (here s t + 1) ∧ x'.core.run = .running
    ∧ { x' with queues := x.queues, core := { x'.core with
          regs := x.core.regs, lastSel := x.core.lastSel, pc := x.core.pc, run := x.core.run } } = x
    ∧ OnlyTile s s' t

/-- The header of a message that a tile makes for SEND (R95, R96, R215), with the reply queue of a request and the
generation of that queue. -/
def sentHeader (s : State) (t : Slot) (o : SendOp) : Header :=
  let x := s.tile t.val
  let d := (x.reg o.rdst).toNat
  let e := (x.reg (o.rdst + 1)).toNat
  let rq : BitVec 4 := BitVec.ofNat 4 (e / 2 ^ 20)
  { dstEp := BitVec.ofNat 16 d, dstRow := BitVec.ofNat 5 (d / 2 ^ 16), dstPos := BitVec.ofNat 5 (d / 2 ^ 21)
    dstQ := BitVec.ofNat 4 (d / 2 ^ 26), reply := o.reply, token := false, tag := BitVec.ofNat 16 e
    gen := BitVec.ofNat 4 (e / 2 ^ 16), replyQ := if o.reply then 0 else rq, priReq := o.pri, priUsed := false
    fwd := false, cnet := o.cnet, srcEp := 0, srcRow := BitVec.ofNat 5 (t.val / 26)
    srcPos := BitVec.ofNat 5 (posOf t.val), replyGen := if o.reply then 0 else (x.queue rq.toNat).gen
    length := (x.reg o.rlen).toNat % 8192, su := 0, tval := 0 }

/-- The header of a control token (R100, R215, R216): a priority-class message on the C-net without payload. -/
def tokenSent (t : Slot) (dst : Word) (su : BitVec 2) (v : Byte) : Header :=
  { dstEp := 0, dstRow := BitVec.ofNat 5 (dst.toNat / 2 ^ 16), dstPos := BitVec.ofNat 5 (dst.toNat / 2 ^ 21)
    dstQ := 0, reply := false, token := true, tag := 0, gen := 0, replyQ := 0, priReq := true, priUsed := false
    fwd := false, cnet := true, srcEp := 0, srcRow := BitVec.ofNat 5 (t.val / 26)
    srcPos := BitVec.ofNat 5 (posOf t.val), replyGen := 0, length := 0, su := su, tval := v }

/-- A message enters the unit queue behind the others, and the unit takes what it has send buffers for. The message is
folded into the step signature first; in the shadow roles nothing is queued (R466). -/
def Queued (s : State) (t : Slot) (x : Tile) (h : Header) (body : List Byte) (e : MuEntry) : Tile :=
  let x := x.foldMsg h body
  if x.shadowing then x.setPc (here s t + 1)
  else ((x.pushMu e).muTake (s.get K.priorityClassState) (s.get K.sendStallLimit)).setPc (here s t + 1)

/-- The unit-queue entry of a token. -/
def tokenEntry (s : State) (t : Slot) (h : Header) : MuEntry :=
  { msg := ⟨h, [], false⟩, phase := .queued, rds := none, h := none, addr := 0, ents := [], credit := none
    limitUs := 0, pc := (s.tile t.val).core.pc.toNat }

end Sys2Proof.Claims

/-- RECVSEL takes the ready queue of the mask that its mode prefers and delivers the queue and the source of its head,
whose payload is then readable in the head window; with NB and no ready queue it answers 0xFFFF_FFFF; it waits when it
may, for a queue that RECVSEL_COMPLETE then delivers; with an empty mask and no NB it faults. QREL drops a selected
head. -/
def Obligations.ReceiveSelect : Prop :=
  ∀ (s : State) (t : Slot) (rd rm : BitVec 5) (rotate nb : Bool) (k : BitVec 4),
    let o : RecvOp := ⟨rd, rm, rotate, nb, 0, k⟩
    let x := s.tile t.val
    let mask := x.reg rm
    (Issues s t → rd.toNat % 2 = 0 → Usable s t [rm] →
      (∀ q m r, Wins x mask rotate q → (x.queue q).held = m :: r →
        Ends (.recvsel t o) s fun s' => Selected s s' t o q m)
      ∧ ((∀ q, q < 16 → mask.toNat.testBit q = true → ¬ QueueReady x q) →
        (nb = true → Writes (.recvsel t o) s t rd 0xFFFFFFFF (here s t + 1))
        ∧ (nb = false → mask.toNat % 65536 ≠ 0 → Leaves (.recvsel t o) s t (x.setRun (.receiving o)))
        ∧ (nb = false → mask.toNat % 65536 = 0 → Faults (.recvsel t o) s t .illegalInstruction (.recvsel o) 0)))
    ∧ (x.core.run = .receiving o → ∀ q m r, Wins x mask rotate q → (x.queue q).held = m :: r →
        Ends (.recvselComplete t) s fun s' => Selected s s' t o q m)
    ∧ (Issues s t → ∀ c, c = x.queue k.toNat →
      (c.selected = true → Leaves (.qrel t o) s t
        ((x.setQueue k.toNat { c with held := c.held.drop 1, selected := false }).setPc (here s t + 1)))
      ∧ (c.selected = false → Leaves (.qrel t o) s t (x.setPc (here s t + 1))))

/-- TOKI, TOKR and TOKL queue a control token for a steering unit, of the tile named by a register or of this tile; TSTAT
counts the tokens and data messages that a local unit holds. A token for another endpoint faults. -/
def Sys2Proof.Claims.Tokens : Prop :=
  ∀ (s : State) (t : Slot) (su : BitVec 2) (ra rb : BitVec 5) (v : Byte), Issues s t →
    let x := s.tile t.val
    let o : TokOp := ⟨su, ra, v, rb, 0⟩
    let self : Word := BitVec.ofNat 32 (2 ^ 16 * (t.val / 26) + 2 ^ 21 * posOf t.val)
    let sent := fun (dst : Word) (v : Byte) =>
      Queued s t x (tokenSent t dst su v) [] (tokenEntry s t (tokenSent t dst su v))
    (x.units.mu.length < 8 →
      (Usable s t [ra] → (x.reg ra).toNat % 65536 = 0 → Leaves (.toki t o) s t (sent (x.reg ra) v))
      ∧ (Usable s t [ra, rb] → (x.reg ra).toNat % 65536 = 0 →
          Leaves (.tokr t o) s t (sent (x.reg ra) ((x.reg rb).truncate 8)))
      ∧ Leaves (.tokl t o) s t (sent self v))
    ∧ ((x.reg ra).toNat % 65536 ≠ 0 →
      (Usable s t [ra] → Faults (.toki t o) s t .illegalInstruction (.toki o) 0)
      ∧ (Usable s t [ra, rb] → Faults (.tokr t o) s t .illegalInstruction (.tokr o) 0))
    ∧ ∀ i n, x.su su.toNat = i → n = (if i.enable then (x.queue i.iq).held.length else 0) →
        i.tokens.length ≤ 8 → Writes (.tstat t o) s t ra (BitVec.ofNat 32 (i.tokens.length + 16 * min 15 n)) (here s t + 1)

/-- SEND queues its message with the header that its registers give, holds its status register, and registers a consumer
for the payload's lines; too long a message, a handle that may not be read, and a payload beyond the handle fault. A
destination that is nowhere ends it with NO_TARGET at once, which is counted. In the shadow roles it retires with 0 at once. -/
def Sys2Proof.Claims.Sends : Prop :=
  ∀ (s : State) (t : Slot) (rds rdst rlen : BitVec 5) (h : BitVec 6) (cnet reply pri : Bool), Issues s t →
    rdst.toNat % 2 = 0 → Usable s t [rdst, rdst + 1, rlen] → (s.tile t.val).units.mu.length < 8 →
    let x := s.tile t.val
    let o : SendOp := ⟨rds, rdst, rlen, h, cnet, reply, pri, 0⟩
    let hd := sentHeader s t o
    let len := hd.length
    let off := (x.reg rlen).toNat / 65536 * 64
    let e := x.handle h
    let a := e.base + off
    let out := (hd.dstEp = 0 ∧ (23 < hd.dstRow.toNat ∨ 28 < hd.dstPos.toNat))
      ∨ (hd.dstEp ≠ 0 ∧ s.runsService (s.strandOf t.val) = true)
    ((if cnet then 256 else 4096) < len → Faults (.send t o) s t .msgLength (.send o) 0)
    ∧ (len ≤ (if cnet then 256 else 4096) → 0 < len → (e.kind ≠ 1 ∨ e.canRead = false) →
        Faults (.send t o) s t .handleKind (.send o) 0)
    ∧ (len ≤ (if cnet then 256 else 4096) → 0 < len → e.kind = 1 → e.canRead = true → e.size < off + len →
        Faults (.send t o) s t .handleRange (.send o) 0)
    ∧ (len ≤ (if cnet then 256 else 4096) → (0 < len → e.kind = 1 ∧ e.canRead = true ∧ off + len ≤ e.size) →
        x.sbCheck [[(a, len)]] [] (if len = 0 then 0 else 1) = .go →
        let y := x.foldMsg hd (x.read a len)
        (x.shadowing = true → Leaves (.send t o) s t ((y.setReg rds 0).setPc (here s t + 1)))
        ∧ (x.shadowing = false →
            let r := if out then (y, []) else y.register (spanEntry (spanOf [(a, len)]) false 2 x.core.pc.toNat)
            let z := { r.1 with core := { r.1.core with held := rds :: r.1.core.held } }
            let m : MuEntry := { msg := ⟨hd, [], false⟩, phase := if out then .done 4 else .queued, rds := some rds
                                 h := some h, addr := a, ents := r.2, credit := none, limitUs := 0
                                 pc := x.core.pc.toNat }
            Ends (.send t o) s fun s' =>
              s'.tile t.val
                  = ((z.pushMu m).muTake (s.get K.priorityClassState) (s.get K.sendStallLimit)).setPc (here s t + 1)
                ∧ (∀ u, u ≠ t.val → s'.tile u = s.tile u)
                ∧ { s' with tiles := s.tiles } = if out then s.bump K.noTargetDrops 1 else s))

/-- SEND_RETIRE delivers the status of the oldest message into its register, which is then free to be read, releases its
scoreboard entries and takes the message out of the unit. -/
def Sys2Proof.Claims.SendRetires : Prop :=
  ∀ (s : State) (t : Slot) (e : MuEntry) (rest : List MuEntry) (st : Nat),
    (s.tile t.val).units.mu = e :: rest → e.phase = .done st →
    Ends (.sendRetire t) s fun s' =>
      let x := s.tile t.val
      let x' := s'.tile t.val
      (∀ r, e.rds = some r → x'.reg r = BitVec.ofNat 32 st ∧ x'.core.held = x.core.held.erase r)
        ∧ (e.rds = none → x'.core.held = x.core.held)
        ∧ (∀ q, e.rds ≠ some q → x'.reg q = x.reg q)
        ∧ x'.units.mu.length = rest.length ∧ (∀ p ∈ x'.pad.sb, p.1 ∉ e.ents)
        ∧ { x'.core with regs := x.core.regs, held := x.core.held } = x.core
        ∧ { x'.pad with sb := x.pad.sb } = x.pad ∧ OnlyTile s s' t

namespace Sys2Proof.Claims

/-- The vector functions that stay in the vector unit, each with its row. -/
def vectorRows (t : Slot) (o : VecOp) : List (Instr × VecFn) :=
  [(.vadd t o, .vadd), (.vsub t o, .vsub), (.vmul t o, .vmul), (.vfma t o, .vfma), (.vmin t o, .vmin),
   (.vmax t o, .vmax), (.vabs t o, .vabs), (.vneg t o, .vneg), (.vcmplt t o, .vcmplt), (.vcmpeq t o, .vcmpeq),
   (.vsel t o, .vsel), (.vbcast t o, .vbcast), (.viadd t o, .viadd), (.vimul t o, .vimul), (.vshift t o, .vshift),
   (.vlogic t o, .vlogic), (.vpopc t o, .vpopc), (.vcvt t o, .vcvt), (.vqb t o, .vqb), (.vdqb t o, .vdqb),
   (.vexp t o, .vexp), (.vexp2 t o, .vexp2), (.vlog t o, .vlog), (.vlog2 t o, .vlog2), (.vrsqrt t o, .vrsqrt),
   (.vrecip t o, .vrecip), (.vsqrt t o, .vsqrt), (.vsigm t o, .vsigm), (.vtanh t o, .vtanh), (.vgelu t o, .vgelu),
   (.vsilu t o, .vsilu), (.vsoftplus t o, .vsoftplus), (.vrsum t o, .vrsum), (.vrmax t o, .vrmax),
   (.vrmin t o, .vrmin), (.vrargmax t o, .vrargmax), (.vrargmin t o, .vrargmin), (.vperm t o, .vperm)]

/-- The tile with a vector job behind those of its unit queue, two words further on. -/
def withVec (s : State) (t : Slot) (x : Tile) (f : VecFn) (o : VecOp) (p : VecPlace) (ents : List Nat) : Tile :=
  ({ x with units := { x.units with
      vuq := x.units.vuq ++ [⟨f, o, p, (s.tile t.val).core.pc.toNat, ents⟩] } } : Tile).setPc (here s t + 2)

/-- The vector unit has room and the registers named do not wait for memory data (R60, R122). -/
def VecFree (x : Tile) (vs : List (BitVec 3)) : Prop :=
  x.units.vuq.length < 4 ∧ ∀ v ∈ vs, x.vheld v = false

/-- The lane of 32 bits of a vector register. -/
def lane32 (v : Vec) (i : Nat) : Word := v.extractLsb' (32 * i) 32

/-- The tile after job `j`, the oldest of the vector unit, has left it and released its entries. -/
def vecLeft (x : Tile) (rest : List VecJob) (ents : List Nat) : Tile :=
  { x.release ents with units := { (x.release ents).units with vuq := rest } }

end Sys2Proof.Claims

/-- A legal vector instruction enters the queue of the vector unit and issue goes on two words further. -/
def Sys2Proof.Claims.VectorIssue : Prop :=
  ∀ (s : State) (t : Slot) (o : VecOp), Issues s t → ∀ p ∈ vectorRows t o,
    o.rsv = 0 → o.h = 0 → o.offset = 0 → p.2.assigned o.ty.toNat o.vc.toNat = true →
    VecFree (s.tile t.val) (o.vd :: vecReads p.2 o) →
    Leaves p.1 s t (withVec s t (s.tile t.val) p.2 o .none [])

/-- VLD and VST check their handle, then fix where they go: a scratchpad access registers its 8 lines, one to module
memory or to a window registers none. A VST to memory is noted for the section's report (R208). A VLD through a window, a VST through one from a strand that runs a service job, and
a handle that does not allow the access fault with HANDLE_KIND; a memory-tier access off a 256-byte boundary with
ALIGN_FAULT; one beyond the handle with HANDLE_RANGE. -/
def Sys2Proof.Claims.VectorMemoryIssue : Prop :=
  ∀ (s : State) (t : Slot) (o : VecOp), Issues s t → o.rsv = 0 →
    let x := s.tile t.val
    let e := x.handle o.h
    let off := 64 * o.offset.toNat
    let size := if e.kind = 2 then 256 * e.size else e.size
    ∀ st : Bool, (VecFree x (if st then [o.va] else [o.vd])) →
      let f : VecFn := if st then .vst else .vld
      let c : Instr := if st then .vst t o else .vld t o
      let y := fun (p : VecPlace) => if st then (x.foldSig (vstSig x o)).noteOutput o.h p else x
      let bad := e.kind = 0 ∨ (e.kind = 3 ∧ (st = false ∨ s.runsService (s.strandOf t.val) = true))
        ∨ (if st then e.canWrite = false else e.canRead = false)
      let off256 := e.kind = 2 ∧ o.offset.toNat % 4 ≠ 0
      let a := e.base + off
      (bad → Faults c s t .handleKind (.vec f o) 0)
      ∧ (¬ bad → off256 → Faults c s t .alignFault (.vec f o) 0)
      ∧ (¬ bad → ¬ off256 → size < off + 512 → Faults c s t .handleRange (.vec f o) 0)
      ∧ (¬ bad → off + 512 ≤ size → e.kind = 1 → st = true → x.spanStanding (a / 64, (a + 511) / 64) = true →
          Faults c s t .handleKind (.vec f o) 0)
      ∧ (¬ bad → off + 512 ≤ size → e.kind = 1 →
          (st = true → x.spanStanding (a / 64, (a + 511) / 64) = false) →
          x.sbCheck [if st then [] else [(a, 512)]] [if st then [(a, 512)] else []] 1 = .go →
          let r := x.register [⟨a / 64, (a + 511) / 64, st, 1, x.core.pc.toNat⟩]
          Leaves c s t (withVec s t r.1 f o (.scratch a) r.2))
      ∧ (¬ bad → ¬ off256 → off + 512 ≤ size → e.kind = 2 →
          Leaves c s t (withVec s t (y (.mem (256 * e.base + off))) f o (.mem (256 * e.base + off)) []))
      ∧ (¬ bad → off + 512 ≤ size → e.kind = 3 →
          let p : VecPlace := .window e.endpoint (e.base % 256) (e.base / 256 * 64 + off)
          Leaves c s t (withVec s t (y p) f o p []))

/-- VECTOR_RETIRE, the oldest job: a function puts its result into VD and joins its flags to MSTAT; a scratchpad VLD reads
512 bytes into VD; a scratchpad VST lands VA and marks its lines filled. The job's scoreboard entries are released. -/
def Sys2Proof.Claims.VectorRetire : Prop :=
  ∀ (s : State) (t : Slot) (j : VecJob) (rest : List VecJob), (s.tile t.val).units.vuq = j :: rest →
    let x := s.tile t.val
    (j.f ≠ .vld → j.f ≠ .vst → j.place = .none →
      let r := vecResult j.f j.o (x.vreg j.o.va) (x.vreg j.o.vb) (x.vreg j.o.vc)
      Leaves (.vectorRetire t) s t (vecLeft ((x.setVreg j.o.vd r.1).flags r.2) rest j.ents))
    ∧ (∀ a, j.f = .vld → j.place = .scratch a →
      Leaves (.vectorRetire t) s t (vecLeft (x.setVreg j.o.vd (bytesVec (x.read a 512))) rest j.ents))
    ∧ (∀ a, j.f = .vst → j.place = .scratch a → a % 64 = 0 →
      Ends (.vectorRetire t) s fun s' =>
        let x' := s'.tile t.val
        (∀ k, k < 512 → x'.byte (a + k) = (x.vreg j.o.va).extractLsb' (8 * k) 8)
          ∧ (∀ b, (b < a ∨ a + 512 ≤ b) → x'.byte b = x.byte b)
          ∧ (∀ l, x'.filled l = if a / 64 ≤ l ∧ l < a / 64 + 8 then true else x.filled l)
          ∧ x'.core = x.core ∧ x'.pad.handles = x.pad.handles ∧ x'.units.vregs = x.units.vregs ∧ OnlyTile s s' t)
    ∧ (∀ a, j.f = .vst → j.place = .mem a → x.shadowing = false → a % 64 = 0 →
      Ends (.vectorRetire t) s fun s' =>
        (s'.tile t.val).units.memWrites = x.units.memWrites + 8 ∧ (s'.tile t.val).units.vuq = rest
          ∧ s'.mem.writes = s.mem.writes ++ ((List.range 8).map fun i =>
              (⟨a / 64 + i, (List.range 64).map fun k => (x.vreg j.o.va).extractLsb' (8 * (64 * i + k)) 8, some t.val⟩ : MemWrite))
          ∧ (∀ b, s'.memByte b = s.memByte b) ∧ { s' with tiles := s.tiles, mem := s.mem } = s)

/-- The integer functions of R596 lane by lane, and the moves VBCAST and VPERM of 32-bit lanes. -/
def Sys2Proof.Claims.IntegerLanes : Prop :=
  ∀ (o : VecOp) (a b c : Vec) (i : Nat), i < 128 → o.ty.toNat = 3 →
    let x := lane32 a i
    let y := lane32 b i
    let got := fun f => lane32 (vecResult f o a b c).1 i
    got .viadd = x + y ∧ got .vimul = x * y
    ∧ (o.vc = 0 → got .vshift = x <<< (y.toNat % 32) ∧ got .vlogic = x &&& y)
    ∧ (o.vc = 1 → got .vshift = x >>> (y.toNat % 32) ∧ got .vlogic = x ||| y)
    ∧ (o.vc = 2 → got .vshift = x.sshiftRight (y.toNat % 32) ∧ got .vlogic = x ^^^ y)
    ∧ (o.vc = 3 → got .vlogic = ~~~x)
    ∧ (got .vpopc).toNat = ((List.range 32).filter fun k => x.getLsbD k).length
    ∧ got .vbcast = lane32 a 0 ∧ got .vperm = lane32 a (y.toNat % 128)
    ∧ got .vsel = (if lane32 c i ≠ 0 then x else y)
    ∧ ∀ f ∈ [VecFn.viadd, .vimul, .vshift, .vlogic, .vpopc, .vbcast, .vperm, .vsel],
        (vecResult f o a b c).2 = Flg.none

/-- An MMB that passes its checks and the scoreboard enters the queue of the matrix engine with its ranges registered; one
that fails a check faults with it. -/
def Sys2Proof.Claims.MatrixIssue : Prop :=
  ∀ (s : State) (t : Slot) (o : MmbOp), Issues s t → o.rsv75 = 0 → o.rsv20 = 0 → o.rsv1 = 0 →
    Usable s t (regRun (8 * o.g.toNat) 8) → (s.tile t.val).units.meq.length < 2 →
    let x := s.tile t.val
    let j := mmbJob x o
    (∀ c, mmbCheck x j = some c → Faults (.mmb t o) s t c (.mmb o) 0)
    ∧ (mmbCheck x j = none → x.sbCheck j.reads [j.writes] j.entries.length = .go →
        let r := x.register j.entries
        Leaves (.mmb t o) s t
          (({ r.1 with units := { r.1.units with meq := r.1.units.meq ++ [{ j with ents := r.2 }] } } : Tile).setPc
            (here s t + 2)))

/-- MMB_RETIRE. An MMB with no rows, columns or batches retires without effect but for the
entries it releases; it has no residue to compare. Otherwise, where it has passed R93 and its batches lie apart, each element
(i, n) of batch b of C is the sum that R91 gives, at the place R92 gives, its line filled. Batches that lie over one another
are taken in order: each place in turn is what `elemC` makes of the tile as the places before it left it. -/
def Sys2Proof.Claims.MatrixRetire : Prop :=
  ∀ (s : State) (t : Slot) (j : MmbJob) (rest : List MmbJob), (s.tile t.val).units.meq = j :: rest →
    let x := s.tile t.val
    ((j.m = 0 ∨ j.n = 0 ∨ j.batch = 0) → ∀ bad,
      Leaves (.mmbRetire t bad) s t
        { x.release j.ents with units := { (x.release j.ents).units with meq := rest } })
    ∧ (∀ p l, j.places = p :: l → Leaves (.mmbRetire t false) s t
        (let y := l.foldl j.put (j.put x p)
         { y.release j.ents with units := { (y.release j.ents).units with meq := rest } }))
    ∧ (∀ b i n, b < j.batch → i < j.m → n < j.n → mmbCheck x j = none →
        (j.batch = 1 ∨ j.rowsC * j.pitchC ≤ j.strideC) →
      Ends (.mmbRetire t false) s fun s' =>
        let x' := s'.tile t.val
        let a := j.baseC + b * j.strideC + i * j.pitchC + n * j.cw
        x'.readNat a j.cw = (j.elemC x b i n).1 % 256 ^ j.cw ∧ x'.filled (a / 64) = true
          ∧ x'.units.meq = rest ∧ (∀ p ∈ x'.pad.sb, p.1 ∉ j.ents) ∧ x'.core.pc = x.core.pc
          ∧ (∀ y, x'.byte y ≠ x.byte y → ∃ q, q < j.batch ∧ j.baseC + q * j.strideC ≤ y
              ∧ y < j.baseC + q * j.strideC + j.rowsC * j.pitchC)
          ∧ OnlyTile s s' t)

/-- MMB_RETIRE on a residue mismatch of an MMB that compares one: the MMB leaves the engine without retiring, its entries
stay, the tile stops with RESIDUE_FAULT, and the supervisor hears of it. What C then holds is free, and no line of it is
marked. An MMB that compares no residue is none the worse: a floating-point class, one without elements, one whose INT32
elements have all saturated. -/
def Sys2Proof.Claims.ResidueMismatch : Prop :=
  ∀ (s : State) (t : Slot) (j : MmbJob) (rest : List MmbJob), (s.tile t.val).units.meq = j :: rest →
    let x := s.tile t.val
    (j.residueCompared x = true → exec (.mmbRetire t true) s = .next (s.residueFault t.val j rest))
    ∧ (j.residueCompared x = false → exec (.mmbRetire t true) s = exec (.mmbRetire t false) s)
    ∧ (j.residueCompared x = true → j.eb = 4 ∨ j.isInt = true)
    ∧ (j.residueCompared x = true → j.eb ≠ 4 → ∃ p l r, j.places = l ++ p :: r ∧ p.2.1 < j.m ∧ p.2.2 < j.n
        ∧ (j.elemC (l.foldl j.put x) p.1 p.2.1 p.2.2).2.sat = false)
    ∧ ∀ n, let y := (x.spoil j.writes n).failAt .residueFault j.pc (Tis.mmb j.o).word
        y.core.run = .faulted ∧ y.core.fault = some ⟨.residueFault, BitVec.ofNat 12 j.pc, (Tis.mmb j.o).word, 0⟩
          ∧ y.units = x.units ∧ y.pad.fill = x.pad.fill ∧ y.pad.sb = x.pad.sb
          ∧ ∀ b, (∀ r ∈ j.writes, b < r.1 ∨ r.1 + r.2 ≤ b) → y.byte b = x.byte b

/-- MEM_READ_RETURN for the memory-tier VLD at the head of the vector unit, every line sound: VD receives the 512 bytes
that memory holds, and the job leaves the unit. -/
def Sys2Proof.Claims.MemoryReadReturn : Prop :=
  ∀ (s : State) (t : Slot) (j : VecJob) (rest : List VecJob) (a : Nat), (s.tile t.val).units.vuq = j :: rest →
    j.f = .vld → j.place = .mem a → a % 64 = 0 →
    (∀ i, i < 8 → s.poisoned (a / 64 + i) = false ∧ ∀ w ∈ s.mem.writes, w.line ≠ a / 64 + i) →
    Ends (.memReadReturn t 0) s fun s' =>
      let x := s.tile t.val
      let x' := s'.tile t.val
      (∀ k, k < 512 → (x'.vreg j.o.vd).extractLsb' (8 * k) 8 = s.memByte (a + k))
        ∧ (∀ v, v ≠ j.o.vd → x'.vreg v = x.vreg v) ∧ x'.units.vuq = rest ∧ x'.core = x.core ∧ x'.pad = x.pad
        ∧ (∀ u, u ≠ t.val → s'.tile u = s.tile u)
        ∧ { s' with tiles := s.tiles, mem := { s'.mem with banks := s.mem.banks } } = s

namespace Sys2Proof.Claims

/-- The tile instruction that a command issues, with its tile; none for the other commands. -/
def instruction : Instr → Option (Slot × Tis)
  | .add t rd ra rb rsv => some (t, .alu .add rd ra rb rsv)
  | .sub t rd ra rb rsv => some (t, .alu .sub rd ra rb rsv)
  | .andR t rd ra rb rsv => some (t, .alu .and rd ra rb rsv)
  | .orR t rd ra rb rsv => some (t, .alu .or rd ra rb rsv)
  | .xorR t rd ra rb rsv => some (t, .alu .xor rd ra rb rsv)
  | .shl t rd ra rb rsv => some (t, .alu .shl rd ra rb rsv)
  | .shr t rd ra rb rsv => some (t, .alu .shr rd ra rb rsv)
  | .sra t rd ra rb rsv => some (t, .alu .sra rd ra rb rsv)
  | .mul t rd ra rb rsv => some (t, .alu .mul rd ra rb rsv)
  | .slt t rd ra rb rsv => some (t, .alu .slt rd ra rb rsv)
  | .sltu t rd ra rb rsv => some (t, .alu .sltu rd ra rb rsv)
  | .minR t rd ra rb rsv => some (t, .alu .min rd ra rb rsv)
  | .maxR t rd ra rb rsv => some (t, .alu .max rd ra rb rsv)
  | .minu t rd ra rb rsv => some (t, .alu .minu rd ra rb rsv)
  | .maxu t rd ra rb rsv => some (t, .alu .maxu rd ra rb rsv)
  | .addi t rd ra imm => some (t, .alui .add rd ra imm)
  | .andi t rd ra imm => some (t, .alui .and rd ra imm)
  | .ori t rd ra imm => some (t, .alui .or rd ra imm)
  | .xori t rd ra imm => some (t, .alui .xor rd ra imm)
  | .shli t rd ra imm => some (t, .alui .shl rd ra imm)
  | .shri t rd ra imm => some (t, .alui .shr rd ra imm)
  | .srai t rd ra imm => some (t, .alui .sra rd ra imm)
  | .muli t rd ra imm => some (t, .alui .mul rd ra imm)
  | .slti t rd ra imm => some (t, .alui .slt rd ra imm)
  | .sltui t rd ra imm => some (t, .alui .sltu rd ra imm)
  | .mini t rd ra imm => some (t, .alui .min rd ra imm)
  | .maxi t rd ra imm => some (t, .alui .max rd ra imm)
  | .minui t rd ra imm => some (t, .alui .minu rd ra imm)
  | .maxui t rd ra imm => some (t, .alui .maxu rd ra imm)
  | .lui t rd rsv imm => some (t, .lui rd rsv imm)
  | .lb t rd base imm => some (t, .load .lb rd base imm)
  | .lh t rd base imm => some (t, .load .lh rd base imm)
  | .lw t rd base imm => some (t, .load .lw rd base imm)
  | .lbu t rd base imm => some (t, .load .lbu rd base imm)
  | .lhu t rd base imm => some (t, .load .lhu rd base imm)
  | .sb t data base imm => some (t, .store .sb data base imm)
  | .sh t data base imm => some (t, .store .sh data base imm)
  | .sw t data base imm => some (t, .store .sw data base imm)
  | .beq t ra rb off => some (t, .branch .beq ra rb off)
  | .bne t ra rb off => some (t, .branch .bne ra rb off)
  | .blt t ra rb off => some (t, .branch .blt ra rb off)
  | .bge t ra rb off => some (t, .branch .bge ra rb off)
  | .bltu t ra rb off => some (t, .branch .bltu ra rb off)
  | .bgeu t ra rb off => some (t, .branch .bgeu ra rb off)
  | .jal t rd off => some (t, .jal rd off)
  | .jr t rd ra rsv => some (t, .jr rd ra rsv)
  | .lseti t lc opnd => some (t, .lseti lc opnd)
  | .lsetr t lc r rsv => some (t, .lsetr lc r rsv)
  | .loopC t lc off => some (t, .loop lc off)
  | .linc t lc imm => some (t, .linc lc imm)
  | .lget t lc r rsv => some (t, .lget lc r rsv)
  | .lbz t lc off => some (t, .lbz lc off)
  | .toki t o => some (t, .toki o)
  | .tokr t o => some (t, .tokr o)
  | .tokl t o => some (t, .tokl o)
  | .tstat t o => some (t, .tstat o)
  | .send t o => some (t, .send o)
  | .recvsel t o => some (t, .recvsel o)
  | .qrel t o => some (t, .qrel o)
  | .hset t o => some (t, .hset o)
  | .hget t o => some (t, .hget o)
  | .hswap t o => some (t, .hswap o)
  | .hfill t o => some (t, .hfill o)
  | .hunfill t o => some (t, .hunfill o)
  | .hinv t o => some (t, .hinv o)
  | .fence t remote mem net scratch rsv => some (t, .fence remote mem net scratch rsv)
  | .bar t bid rsv => some (t, .bar bid rsv)
  | .halt t rd ra csr => some (t, .halt rd ra csr)
  | .csrr t rd ra csr => some (t, .csrr rd ra csr)
  | .csrw t rd ra csr => some (t, .csrw rd ra csr)
  | .trap t rd ra csr => some (t, .trap rd ra csr)
  | .mmb t o => some (t, .mmb o)
  | .vadd t o => some (t, .vec .vadd o)
  | .vsub t o => some (t, .vec .vsub o)
  | .vmul t o => some (t, .vec .vmul o)
  | .vfma t o => some (t, .vec .vfma o)
  | .vmin t o => some (t, .vec .vmin o)
  | .vmax t o => some (t, .vec .vmax o)
  | .vabs t o => some (t, .vec .vabs o)
  | .vneg t o => some (t, .vec .vneg o)
  | .vcmplt t o => some (t, .vec .vcmplt o)
  | .vcmpeq t o => some (t, .vec .vcmpeq o)
  | .vsel t o => some (t, .vec .vsel o)
  | .vbcast t o => some (t, .vec .vbcast o)
  | .viadd t o => some (t, .vec .viadd o)
  | .vimul t o => some (t, .vec .vimul o)
  | .vshift t o => some (t, .vec .vshift o)
  | .vlogic t o => some (t, .vec .vlogic o)
  | .vpopc t o => some (t, .vec .vpopc o)
  | .vcvt t o => some (t, .vec .vcvt o)
  | .vqb t o => some (t, .vec .vqb o)
  | .vdqb t o => some (t, .vec .vdqb o)
  | .vexp t o => some (t, .vec .vexp o)
  | .vexp2 t o => some (t, .vec .vexp2 o)
  | .vlog t o => some (t, .vec .vlog o)
  | .vlog2 t o => some (t, .vec .vlog2 o)
  | .vrsqrt t o => some (t, .vec .vrsqrt o)
  | .vrecip t o => some (t, .vec .vrecip o)
  | .vsqrt t o => some (t, .vec .vsqrt o)
  | .vsigm t o => some (t, .vec .vsigm o)
  | .vtanh t o => some (t, .vec .vtanh o)
  | .vgelu t o => some (t, .vec .vgelu o)
  | .vsilu t o => some (t, .vec .vsilu o)
  | .vsoftplus t o => some (t, .vec .vsoftplus o)
  | .vrsum t o => some (t, .vec .vrsum o)
  | .vrmax t o => some (t, .vec .vrmax o)
  | .vrmin t o => some (t, .vec .vrmin o)
  | .vrargmax t o => some (t, .vec .vrargmax o)
  | .vrargmin t o => some (t, .vec .vrargmin o)
  | .vld t o => some (t, .vec .vld o)
  | .vst t o => some (t, .vec .vst o)
  | .vperm t o => some (t, .vec .vperm o)
  | _ => none

/-- Every kind of earlier operation that a FENCE selects is complete (R102): fabric writes acknowledged, memory writes
acknowledged, sends retired, scratchpad writes of the units retired. -/
def Complete (x : Tile) (remote mem net scratch : Bool) : Prop :=
  (remote = true → x.units.remoteWrites = 0 ∧ ∀ j ∈ x.units.vuq, j.f = .vst → ∀ e w o, j.place ≠ .window e w o)
  ∧ (mem = true → x.units.memWrites = 0 ∧ ∀ j ∈ x.units.vuq, j.f = .vst → ∀ a, j.place ≠ .mem a)
  ∧ (net = true → ∀ e ∈ x.units.mu, e.rds = none)
  ∧ (scratch = true → x.units.meq = [] ∧ ∀ j ∈ x.units.vuq, j.f = .vst → ∀ a, j.place ≠ .scratch a)

/-- The tile goes on past the instruction at which it waits. -/
def passed (x : Tile) : Tile := (x.setRun .running).setPc (x.core.pc.toNat + 1)

/-- Memory, plans, keys, shards, the supply, the boot, the front face, the spares and time: what no tile instruction
changes. -/
def Board (s s' : State) : Prop :=
  s'.timeBase = s.timeBase ∧ s'.octets = s.octets ∧ s'.spares = s.spares ∧ s'.power = s.power ∧ s'.boot = s.boot
    ∧ s'.front = s.front ∧ s'.plans = s.plans ∧ s'.vault = s.vault ∧ s'.shards = s.shards ∧ s'.batches = s.batches

end Sys2Proof.Claims

/-- What stands before every tile instruction. A tile that is stopped, held, waiting or unusable issues none: nothing
changes. A reserved bit or sub-code faults with ILLEGAL_INSTRUCTION. An instruction that reads a register held for the
status of a message is held. -/
def Obligations.InstructionGate : Prop :=
  ∀ (c : Instr) (s : State) (t : Slot) (i : Tis), instruction c = some (t, i) →
    (¬ Issues s t → exec c s = .next s)
    ∧ (Issues s t → i.legal = false → Faults c s t .illegalInstruction i 0)
    ∧ (Issues s t → i.legal = true → (∃ r ∈ i.reads, (s.tile t.val).core.held.contains r = true) →
        Leaves c s t ((s.tile t.val).setRun (.stalled i false)))

/-- No tile instruction touches what belongs to the board, and none writes module memory. The memory nodes hear of one at
all only where the tile stops and its vector unit completes what was dispatched to it (R105). -/
def Obligations.InstructionFrame : Prop :=
  ∀ (c : Instr) (s s' : State) (t : Slot) (i : Tis), instruction c = some (t, i) → exec c s = .next s' →
    Board s s' ∧ (∀ a, s'.memByte a = s.memByte a) ∧ ((s.tile t.val).units.vuq = [] → s'.mem = s.mem)
      ∧ s'.pending = s.pending

/-- A fault stops issue at its instruction and reports the code, the program counter, word 0 of the instruction and the
argument; TRAP reports code TRAP with its CSR field. -/
def Sys2Proof.Claims.FaultReport : Prop :=
  (∀ (x : Tile) (code : FaultCode) (i : Tis) (arg : Nat),
    let y := x.fail code i arg
    y.core.run = .faulted ∧ y.core.fault = some ⟨code, x.core.pc, i.word, arg⟩
      ∧ { y with core := { y.core with run := x.core.run, fault := x.core.fault } } = x)
  ∧ ∀ (s : State) (t : Slot) (rd ra : BitVec 5) (csr : BitVec 12), Issues s t →
      Faults (.trap t rd ra csr) s t .trap (.trap rd ra csr) csr.toNat

/-- FENCE goes on when every kind of operation it selects is complete, at once or, waiting, when FENCE_COMPLETE finds them
so; before that it waits. One with MEM has then reported the outputs that the stage wrote before it (R208). -/
def Sys2Proof.Claims.Fences : Prop :=
  ∀ (s : State) (t : Slot) (r m n c : Bool),
    let x := s.tile t.val
    let ended := passed { x with units := { x.units with unfenced := x.units.unfenced && !m } }
    (Issues s t → (Complete x r m n c → Leaves (.fence t r m n c 0) s t ended)
      ∧ (¬ Complete x r m n c → Leaves (.fence t r m n c 0) s t (x.setRun (.fencing r m n c))))
    ∧ (x.core.run = .fencing r m n c → (Complete x r m n c → Leaves (.fenceComplete t) s t ended)
      ∧ (¬ Complete x r m n c → exec (.fenceComplete t) s = .next s))

/-- BAR: a tile that is no member goes on; a member whose operations are all complete arrives and waits, another fences
first and arrives when FENCE_COMPLETE finds it done. BAR_COMPLETE, once every member has arrived, lets each that waits there
go on and empties the list of arrivals, here where no member has 10,000 completions on record. -/
def Obligations.Barriers : Prop :=
  ∀ (s : State) (b : BitVec 6),
    let v := s.barrierAt b.toNat
    (∀ t : Slot,
      let x := s.tile t.val
      let arrives := fun (c : Instr) => Ends c s fun s' =>
        s'.tile t.val = ({ x with units := { x.units with unfenced := false } } : Tile).setRun (.barrier b)
          ∧ (∀ u, u ≠ t.val → s'.tile u = s.tile u)
          ∧ s'.barrierAt b.toNat = ⟨v.members, v.arrived.filter (· ≠ t.val) ++ [t.val]⟩
          ∧ (∀ k, k ≠ b.toNat → s'.barrierAt k = s.barrierAt k)
          ∧ { s' with tiles := s.tiles, net := { s'.net with barriers := s.net.barriers } } = s
      (Issues s t →
        (t.val ∉ v.members → Leaves (.bar t b 0) s t (passed x))
        ∧ (t.val ∈ v.members → Complete x true true true true → arrives (.bar t b 0))
        ∧ (t.val ∈ v.members → ¬ Complete x true true true true → Leaves (.bar t b 0) s t (x.setRun (.barFence b))))
      ∧ (x.core.run = .barFence b → Complete x true true true true → arrives (.fenceComplete t)))
    ∧ (v.members ≠ [] → v.members.Nodup → (∀ t ∈ v.members, t ∈ v.arrived ∧ (s.suspect t).window.length < 9999) →
        Ends (.barComplete ⟨b.toNat, b.isLt⟩) s fun s' =>
          s'.barrierAt b.toNat = ⟨v.members, []⟩
            ∧ (∀ t ∈ v.members, s'.tile t = if (s.tile t).core.run = .barrier b then passed (s.tile t) else s.tile t)
            ∧ (∀ t, t ∉ v.members → s'.tile t = s.tile t) ∧ Board s s' ∧ s'.mem = s.mem)

/-- HALT of a tile outside any strand's stages stops it as a stage restart does. HALT of a stage that is not the last one
of its strand to halt stops the tile and marks the stage as halted, and joins MSTAT to the job's flags. -/
def Sys2Proof.Claims.Halts : Prop :=
  ∀ (s : State) (t : Slot) (rd ra : BitVec 5) (csr : BitVec 12), Issues s t → s.rawOwner t.val = none →
    let x := s.tile t.val
    let v := s.strand (s.strandOf t.val)
    (s.stageAt t.val = none → Leaves (.halt t rd ra csr) s t (x.restartStage []))
    ∧ ∀ k i j, s.stageAt t.val = some k → v.job = some j → v.next = none → x.chk.stepOpen = false →
        i < s.secStageCount (s.strandOf t.val) → i ≠ k → i ∉ v.halted →
        Ends (.halt t rd ra csr) s fun s' =>
          (s'.tile t.val).core.run = .stopped ∧ (∀ r, (s'.tile t.val).reg r = 0) ∧ (s'.tile t.val).core.mstat = 0
            ∧ (s'.tile t.val).pad.sb = [] ∧ (s'.tile t.val).pad.bytes = x.pad.bytes
            ∧ (s'.tile t.val).pad.handles = x.pad.handles ∧ (∀ u, u ≠ t.val → s'.tile u = s.tile u)
            ∧ (s'.strand (s.strandOf t.val)).halted = k :: v.halted.filter (· ≠ k)
            ∧ (∀ d h, s.desc j = some d → d.hold = some h → ∃ d' h', s'.desc j = some d' ∧ d'.hold = some h'
                ∧ h'.mstat = h.mstat ||| x.core.mstat)
            ∧ (∀ o, o ≠ s.strandOf t.val → s'.strand o = s.strand o) ∧ Board s s' ∧ s'.mem = s.mem

/-- CSRR puts a control register into rd, CSRW writes one from a register; an offset that is no multiple of 4 faults with
ALIGN_FAULT, one where no register stands with ADDRESS_FAULT. That CSR counts bytes is the model's reading (log
entry 16). -/
def Sys2Proof.Claims.ControlRegisters : Prop :=
  ∀ (s : State) (t : Slot) (rd ra : BitVec 5) (csr : BitVec 12), Issues s t →
    let x := s.tile t.val
    let o := csr.toNat
    (o % 4 = 0 → ∀ v, x.regRead (s.ctx t.val) o = some v → Writes (.csrr t rd ra csr) s t rd v (here s t + 1))
    ∧ (Usable s t [ra] → o % 4 = 0 → (x.regRead (s.ctx t.val) o).isSome = true →
        ¬ (o = 0x390 ∧ s.stepWaits t.val = true) →
        exec (.csrw t rd ra csr) s = .next ((s.setTile t.val (passed x)).writeReg t.val o (x.reg ra)))
    ∧ (o % 4 ≠ 0 → Faults (.csrr t rd ra csr) s t .alignFault (.csrr rd ra csr) 0
        ∧ (Usable s t [ra] → Faults (.csrw t rd ra csr) s t .alignFault (.csrw rd ra csr) 0))
    ∧ (o % 4 = 0 → x.regRead (s.ctx t.val) o = none →
        Faults (.csrr t rd ra csr) s t .addressFault (.csrr rd ra csr) 0
        ∧ (Usable s t [ra] → Faults (.csrw t rd ra csr) s t .addressFault (.csrw rd ra csr) 0))

/-- STALLED_ISSUE_RETRY repeats the steps of a held instruction: a load whose line is filled by now and that no producer
covers any more is done; one whose line no producer will fill any more faults with HANDLE_UNFILLED. SCOREBOARD_TIMEOUT
stops a timed stall that has lasted as long as the limit in force when it began, and notes the fault in SBFAULT. -/
def Sys2Proof.Claims.StallEnds : Prop :=
  ∀ (s : State) (t : Slot),
    let x := s.tile t.val
    (∀ (f : LoadFn) (rd base : BitVec 5) (imm : BitVec 12) (timed : Bool), x.core.run = .stalled (.load f rd base imm) timed →
      x.core.held.contains base = false →
      let a := address s t base imm
      a % f.size = 0 → a < 0x300000 → padMapped x.pad.bankOk a = true →
      (x.sbCheck [[(a, f.size)]] [] 0 = .go → Ends (.stalledIssueRetry t) s fun s' =>
        (s'.tile t.val).reg rd = loaded f (fun k => x.byte (a + k)) ∧ RegFrame (x.setRun .running) (s'.tile t.val) rd
          ∧ (s'.tile t.val).core.pc = pcTo (here s t + 1) ∧ OnlyTile s s' t)
      ∧ (∀ l, x.sbCheck [[(a, f.size)]] [] 0 = .unfilled l →
        exec (.stalledIssueRetry t) s = .next ((s.onTile t.val fun y =>
          (y.captureSb l 0 0 false).fail .handleUnfilled (.load f rd base imm) 0).stopTile t.val)))
    ∧ ∀ (i : Tis) (ns : Nat), x.core.run = .stalled i true →
      (ns < 1000 * x.core.stallLimitUs → exec (.scoreboardTimeout t ns) s = .next s)
      ∧ (1000 * x.core.stallLimitUs ≤ ns → ∃ y : Tile,
          y.core.run = .faulted ∧ y.core.fault = some ⟨.scoreboardTimeout, x.core.pc, i.word, 0⟩
          ∧ (x.pad.sbfault.toNat.testBit 31 = false → y.pad.sbfault.toNat.testBit 31 = true
              ∧ y.pad.sbfault.toNat.testBit 30 = true)
          ∧ (x.pad.sbfault.toNat.testBit 31 = true → y.pad.sbfault = x.pad.sbfault)
          ∧ { y with core := x.core, pad := { y.pad with sbfault := x.pad.sbfault } } = x
          ∧ exec (.scoreboardTimeout t ns) s =
              .next (({ s with freeCount := s.freeCount + 1 } : State).setTile t.val y |>.stopTile t.val))

/-- The rows that write one control register. MSTAT, SBFAULT, FXFAIL and SKFAIL clear what is written as 1 (their VALID
at [31]); any write clears a conflict counter; SNFSET writes one S-net flag and SNCOUNT adds to one counter; nothing else
changes. -/
def Sys2Proof.Claims.RegisterClears : Prop :=
  ∀ (s : State) (t : Slot) (v : Word),
    let x := s.tile t.val
    let keep : Word := if v.toNat.testBit 31 then 0x7FFFFFFF else 0xFFFFFFFF
    Leaves (.mstatClear t v) s t { x with core := { x.core with mstat := x.core.mstat &&& ~~~(v.truncate 5) } }
    ∧ Leaves (.sbfaultClear t v) s t { x with pad := { x.pad with sbfault := x.pad.sbfault &&& keep } }
    ∧ Leaves (.skfailClear t v) s t { x with skim := { x.skim with fail := x.skim.fail &&& keep } }
    ∧ (Ends (.fxfailClear t v) s fun s' =>
        ((s'.tile t.val).fxfail.1 = x.fxfail.1 &&& keep) ∧ { s'.tile t.val with fxfail := x.fxfail } = x ∧ OnlyTile s s' t)
    ∧ (∀ b : Fin 24, Ends (.conflictClear t b v) s fun s' =>
        (s'.tile t.val).regRead (s'.ctx t.val) (0x100 + 4 * b.val) = some 0
          ∧ (∀ d : Fin 24, d ≠ b → (s'.tile t.val).regRead (s'.ctx t.val) (0x100 + 4 * d.val)
              = x.regRead (s.ctx t.val) (0x100 + 4 * d.val))
          ∧ { s'.tile t.val with pad := { (s'.tile t.val).pad with conflicts := x.pad.conflicts } } = x
          ∧ OnlyTile s s' t)
    ∧ (Ends (.snfset t v) s fun s' =>
        (∀ k, k < 64 → s'.net.flags.getLsbD k = if k = v.toNat % 64 then v.toNat.testBit 8 else s.net.flags.getLsbD k)
          ∧ { s' with net := { s'.net with flags := s.net.flags } } = s)
    ∧ ∀ c : Fin 16, Ends (.sncountAdd t c v) s fun s' =>
        (∀ d, look (fun _ => (0 : Word)) s'.net.counts d
          = if d = c.val then look (fun _ => 0) s.net.counts d + v else look (fun _ => 0) s.net.counts d)
          ∧ { s' with net := { s'.net with counts := s.net.counts } } = s

/-- SUCFG_WRITE. Enabling a unit fixes its input queue and mode and clears its counters, unless another enabled unit has
that queue or the scoreboard lacks an entry for each LAND output; then the unit stays as it was. Disabling discards its
tokens. While it stays enabled a write changes nothing. -/
def Sys2Proof.Claims.SteeringConfig : Prop :=
  ∀ (s : State) (t : Slot) (u : Fin 4) (v : Word),
    let x := s.tile t.val
    let y := x.su u.val
    let on := v.toNat.testBit 0
    let iq := v.toNat / 4 % 16
    let used := ∃ w, w < 4 ∧ w ≠ u.val ∧ (x.su w).enable = true ∧ (x.su w).iq = iq
    let lands := (y.outs.filter fun p => p.1.toNat % 4 = 3).length
    (y.enable = false → on = true → (used ∨ 32 < x.pad.sb.length + lands) → exec (.sucfgWrite t u v) s = .next (s.setTile t.val x))
    ∧ (y.enable = false → on = true → ¬ used → x.pad.sb.length + lands ≤ 32 →
      Ends (.sucfgWrite t u v) s fun s' =>
        let z := (s'.tile t.val).su u.val
        z.enable = true ∧ z.tokenless = v.toNat.testBit 1 ∧ z.iq = iq ∧ z.discards = 0 ∧ z.fails = 0
          ∧ z.outs = y.outs ∧ (s'.tile t.val).pad.sb.length = x.pad.sb.length + lands
          ∧ (∀ w, w ≠ u.val → (s'.tile t.val).su w = x.su w) ∧ (s'.tile t.val).core = x.core ∧ OnlyTile s s' t)
    ∧ (y.enable = false → on = false → Ends (.sucfgWrite t u v) s fun s' =>
        (s'.tile t.val).su u.val = { y with iq := iq, tokenless := v.toNat.testBit 1 }
          ∧ (∀ w, w ≠ u.val → (s'.tile t.val).su w = x.su w)
          ∧ { s'.tile t.val with sus := x.sus } = x ∧ OnlyTile s s' t)
    ∧ (y.enable = true → on = false → Ends (.sucfgWrite t u v) s fun s' =>
        let z := (s'.tile t.val).su u.val
        z.enable = false ∧ z.tokens = [] ∧ z.land = [] ∧ (∀ p ∈ (s'.tile t.val).pad.sb, p.1 ∉ y.landEnts)
          ∧ (∀ w, w ≠ u.val → (s'.tile t.val).su w = x.su w) ∧ (s'.tile t.val).core = x.core ∧ OnlyTile s s' t)
    ∧ (y.enable = true → on = true → exec (.sucfgWrite t u v) s = .next (s.setTile t.val x))

/-- QCTL_WRITE. A 1 opens a closed queue that has space and advances its generation, which discards what it held and
releases its credits; a 0 closes it and keeps its messages; a 1 to a queue without space is ignored. Its mode and the size
of its credits change only while it holds nothing. -/
def Sys2Proof.Claims.QueueControl : Prop :=
  ∀ (s : State) (t : Slot) (q : Fin 16) (v : Word),
    let x := s.tile t.val
    let y := x.queue q.val
    let on := v.toNat.testBit 0
    let units := fun (c : Queue) => min (v.toNat / 256 % 128) (min 64 (c.qsize * 8))
    Ends (.qctlWrite t q v) s fun s' =>
      let z := (s'.tile t.val).queue q.val
      (on = true → y.isOpen = false → y.qsize ≠ 0 → z.isOpen = true ∧ z.gen = y.gen + 1 ∧ z.held = [] ∧ z.spilled = []
        ∧ z.credits = 0 ∧ z.selected = false ∧ z.replyOnly = v.toNat.testBit 1 ∧ z.resv = units y)
      ∧ (on = true → (y.isOpen = true ∨ y.qsize = 0) → z.isOpen = y.isOpen ∧ z.gen = y.gen ∧ z.held = y.held
          ∧ z.spilled = y.spilled ∧ z.credits = y.credits)
      ∧ (on = false → z.isOpen = false ∧ z.gen = y.gen ∧ z.held = y.held ∧ z.spilled = y.spilled ∧ z.credits = y.credits)
      ∧ ((on = false ∨ y.isOpen = true ∨ y.qsize = 0) →
          (y.held ≠ [] ∨ y.spilled ≠ [] ∨ y.credits ≠ 0 → z.replyOnly = y.replyOnly ∧ z.resv = y.resv)
          ∧ (y.held = [] → y.spilled = [] → y.credits = 0 → z.replyOnly = v.toNat.testBit 1 ∧ z.resv = units y))
      ∧ z.qsize = y.qsize ∧ z.ext = y.ext
      ∧ (∀ k, k ≠ q.val → (s'.tile t.val).queue k = x.queue k) ∧ { s'.tile t.val with queues := x.queues } = x
      ∧ OnlyTile s s' t

/-- The reports that a stage makes to the supervisor. CKPT_EPOCH_WRITE notes the epoch at the tile and, at a stage of a
running job, with the strand, whose checkpoint moves to the epoch once every stage of the section has reported it; a stage
that has halted and works for the waiting job reports for that one. TUNEREP
goes to the session whose step runs there. CHKSTEP, unless the opening waits for the shadow stage, opens a step of the
chunk with an empty signature. -/
def Sys2Proof.Claims.StageReports : Prop :=
  ∀ (s : State) (t : Slot) (v : Word),
    let x := s.tile t.val
    let st := s.strandOf t.val
    let e := v.toNat % 65536
    (Ends (.ckptEpochWrite t v) s fun s' =>
      s'.tile t.val = { x with ckptEpoch := BitVec.ofNat 16 e } ∧ (∀ u, u ≠ t.val → s'.tile u = s.tile u)
        ∧ (∀ k, s.stageAt t.val = some k → (s.strand st).job.isSome = true →
            (s.strand st).next.isSome = true → k ∈ (s.strand st).halted →
            (s'.strand st).nextReports = (k, e) :: (s.strand st).nextReports.filter (· ≠ (k, e))
            ∧ (s'.strand st).reports = (s.strand st).reports ∧ (s'.strand st).epoch = (s.strand st).epoch)
        ∧ (∀ k, s.stageAt t.val = some k → (s.strand st).job.isSome = true →
            ¬ ((s.strand st).next.isSome = true ∧ k ∈ (s.strand st).halted) →
            (s'.strand st).reports = (k, e) :: (s.strand st).reports.filter (· ≠ (k, e))
            ∧ (s'.strand st).epoch = if ((∀ i, i < s.secStageCount st → i = k ∨ (i, e) ∈ (s.strand st).reports)
                ∧ (s.strand st).epoch < e) then e else (s.strand st).epoch)
        ∧ ((s.stageAt t.val = none ∨ (s.strand st).job = none) → s'.strands = s.strands)
        ∧ { s' with tiles := s.tiles, strands := s.strands } = s)
    ∧ (∀ j n y, (s.strand st).ownerOf ((s.stageAt t.val).getD 0) = some j → s.tuneOf j = some (n, y) →
        exec (.tunerep t v) s = .next ((s.reportBucket n (v.toNat.testBit 31) (v.toNat % 2 ^ 24)).tryDone n))
    ∧ ((s.strand st).ownerOf ((s.stageAt t.val).getD 0) = none → exec (.tunerep t v) s = .next s)
    ∧ (s.stepWaits t.val = true → exec (.chkstep t v) s = .next s)
    ∧ (s.stepWaits t.val = false → Ends (.chkstep t v) s fun s' =>
        (s'.tile t.val).chk.chunk = v.toNat % 2 ^ 24 ∧ (s'.tile t.val).chk.sig = 0 ∧ (s'.tile t.val).chk.stepOpen = true
          ∧ (s'.tile t.val).role = x.role ∧ { s'.tile t.val with chk := x.chk } = x
          ∧ (∀ u, u ≠ t.val → s'.tile u = s.tile u)
          ∧ ((x.chk.stepOpen = false ∨ x.role = 0) → s'.check = s.check)
          ∧ { s' with tiles := s.tiles, check := s.check, strands := s.strands } = s)

/-- TILE_REG_WRITE: a word stored to an address of the control range where a register stands is the write of that
register; at any other address nothing happens. -/
def Sys2Proof.Claims.TileRegisterWrite : Prop :=
  ∀ (s : State) (t : Slot) (addr v : Word),
    let x := s.tile t.val
    let o := addr.toNat - 0x700000
    let stands := addr.toNat % 4 = 0 ∧ 0x700000 ≤ addr.toNat ∧ addr.toNat < 0x701000
      ∧ (x.regRead (s.ctx t.val) o).isSome = true
    (stands → exec (.tileRegWrite t addr v) s = .next (s.writeReg t.val o v))
    ∧ (¬ stands → exec (.tileRegWrite t addr v) s = .next s)
    ∧ (∀ u : Fin 4, ∀ k : Fin 4, ∀ w : Bool, (x.su u.val).enable = false → (x.su u.val).outs.length = 4 →
        addr.toNat = 0x700400 + 32 * u.val + 8 * k.val + (if w then 4 else 0) → Ends (.tileRegWrite t addr v) s fun s' =>
          let p := ((x.su u.val).outs.getD k.val (0, 0))
          ((s'.tile t.val).su u.val).outs.getD k.val (0, 0) = (if w then (p.1, v &&& 0x000F0000) else (v &&& 0x3FFF00FF, p.2))
            ∧ (∀ d, d ≠ u.val → (s'.tile t.val).su d = x.su d) ∧ { s'.tile t.val with sus := x.sus } = x
            ∧ OnlyTile s s' t)

namespace Sys2Proof.Claims

/-- The entry that counts, in sub-channel `k`, what a read of a line meets (R266). -/
def lineCounters (line : Nat) : List Nat := [K.eccCorrectedCount, K.subchCorrected (subChannel line)]

/-- The sparse map `f` of two states agrees but at `k`. -/
def ButAt {α : Type} (f g : Nat → α) (k : Nat) : Prop := ∀ i, i ≠ k → g i = f i

end Sys2Proof.Claims

/-- The memory nodes, while the rails are up and no thaw holds them. A write request is held; MEM_WRITE_ACK puts its 64
bytes where its line lies and nowhere else, and clears the line's poison mark. A read of a sound line answers its bytes; up
to two symbols in error are corrected and counted; three to six make the line uncorrectable: it is poisoned and counted;
of more, the line is found uncorrectable, or wrong data are delivered, and then stand in the line or not (R266). A read of a
poisoned line by the host of a tier answers nothing. -/
def Sys2Proof.Claims.MemoryRequests : Prop :=
  ∀ (s : State) (q : MemReq), s.memUp = true →
    let line := q.line.toNat
    let silent := fun (s' : State) => ∀ d, (Out.link 1 [line] d) ∈ s'.out → (Out.link 1 [line] d) ∈ s.out
    (q.write = true → q.data.length = 64 → Ends (.memRequest q) s fun s' =>
        s'.mem.writes = s.mem.writes ++ [⟨line, q.data, none⟩]
          ∧ { s' with mem := { s'.mem with writes := s.mem.writes } } = s)
    ∧ (q.write = false → s.mem.keyPresent = true → s.poisoned line = false → (∀ w ∈ s.mem.writes, w.line ≠ line) →
        (q.errs ≤ 2 → Ends (.memRequest q) s fun s' =>
          s'.out = s.out ++ [.link 1 [line] (s.memRead (line * 64) 64)])
        ∧ (q.errs = 0 → Ends (.memRequest q) s fun s' =>
            { s' with mem := { s'.mem with banks := s.mem.banks } }
              = s.emit (.link 1 [line] (s.memRead (line * 64) 64)))
        ∧ (0 < q.errs → q.errs ≤ 2 → Ends (.memRequest q) s fun s' =>
            { s'.mem with banks := s.mem.banks } = s.mem ∧ ((∀ k ∈ lineCounters line, s.get k + 1 < 2 ^ keyBits k) →
              (∀ k ∈ lineCounters line, s'.get k = s.get k + 1)
              ∧ ∀ k, k ∉ lineCounters line → s'.get k = s.get k))
        ∧ (2 < q.errs → q.errs ≤ 6 → q.reader = .plain → Ends (.memRequest q) s fun s' =>
            s'.poisoned line = true ∧ ButAt s.poisoned s'.poisoned line ∧ s'.mem.cells = s.mem.cells
              ∧ (s.get K.eccUncorrectableCount + 1 < 2 ^ keyBits K.eccUncorrectableCount →
                  s'.get K.eccUncorrectableCount = s.get K.eccUncorrectableCount + 1))
        ∧ (6 < q.errs → q.reader = .plain → Ends (.memRequest q) s fun s' =>
            (s'.poisoned line = true ∧ s'.mem.cells = s.mem.cells ∧ silent s')
            ∨ ∃ d, d.length = 64 ∧ s'.out = s.out ++ [.link 1 [line] d] ∧ (∀ a, a / 64 ≠ line → s'.memByte a = s.memByte a)
              ∧ (s'.memRead (line * 64) 64 = d ∨ s'.memRead (line * 64) 64 = s.memRead (line * 64) 64)))
    ∧ (q.write = false → s.mem.keyPresent = true → s.poisoned line = true → q.reader = .plain →
        Ends (.memRequest q) s fun s' => silent s' ∧ s'.mem.cells = s.mem.cells ∧ s'.poisoned line = true)
    ∧ ∀ (i : Nat) (w : MemWrite), s.mem.writes[i]? = some w → w.data.length = 64 →
        Ends (.memWriteAck i) s fun s' =>
          (∀ k, k < 64 → s'.memByte (64 * w.line + k) = w.data.getD k 0)
            ∧ (∀ a, a / 64 ≠ w.line → s'.memByte a = s.memByte a)
            ∧ s'.poisoned w.line = false ∧ ButAt s.poisoned s'.poisoned w.line
            ∧ s'.mem.writes = s.mem.writes.eraseIdx i
            ∧ (∀ t, w.tile = some t → (s'.tile t).units.memWrites = (s.tile t).units.memWrites - 1)
            ∧ (∀ t, w.tile ≠ some t → s'.tile t = s.tile t)
            ∧ { s' with tiles := s.tiles, mem := s.mem } = s

/-- What the memory nodes do of their own: PATROL_SCRUB takes the next line in turn and reads it; REFRESH takes one bank of
its sub-channel, closes its page and notes the time; RETRAIN counts and notes how it ended; DRAM_TEMP_READOUT notes each
package's reading and the row of R274 it is in, entered at once when hotter and left 3 °C lower, and calls for the training
of each sub-channel whose package has moved 8 °C since its last. Which bank is next is the model's free value (log
entry 143). -/
def Sys2Proof.Claims.MemoryUpkeep : Prop :=
  ∀ (s : State) (sub : SubCh), s.memUp = true →
    (s.mem.keyPresent = true → s.poisoned s.mem.scrub = false → (∀ w ∈ s.mem.writes, w.line ≠ s.mem.scrub) →
      Ends (.patrolScrub 0) s fun s' => s'.mem.scrub = (s.mem.scrub + 1) % 2 ^ 34
        ∧ { s' with mem := { s'.mem with scrub := s.mem.scrub, banks := s.mem.banks } } = s)
    ∧ (Ends (.refresh sub) s fun s' => ∃ k, k < 16 ∧
        look (fun _ => Bank.fresh) s'.mem.banks (16 * sub.val + k) = ⟨none, 0, s.timeBase⟩
          ∧ ButAt (look (fun _ => Bank.fresh) s.mem.banks) (look (fun _ => Bank.fresh) s'.mem.banks) (16 * sub.val + k)
          ∧ { s' with freeCount := s.freeCount, mem := { s'.mem with banks := s.mem.banks } } = s)
    ∧ (∀ ok, s.get K.retrainCount + 1 < 2 ^ keyBits K.retrainCount → Ends (.retrain sub ok) s fun s' =>
        s'.get K.retrainCount = s.get K.retrainCount + 1
          ∧ s'.get (K.subchTrainState sub.val) = (if ok then 0 else 2)
          ∧ (ok = false → s'.mem = s.mem)
          ∧ (ok = true → look (fun _ => none) s'.mem.trained sub.val = some (((s.pkg (pkgOf sub.val)).temp).getD 0, s.timeBase))
          ∧ (ok = true → { s' with dict := s.dict, mem := { s'.mem with trained := s.mem.trained } } = s))
    ∧ ∀ temps : List Int, temps ≠ [] → Ends (.dramTempReadout temps) s fun s' =>
        (∀ i v, i < 12 → temps[i]? = some v →
          let row := fun (u : Int) => if u ≤ 850 then 1 else if u ≤ 950 then 2 else if u ≤ 1050 then 4 else 5
          (s'.pkg i).temp = some v
            ∧ (s'.pkg i).row = if (s.pkg i).temp = none then row v else max (row v) (min (s.pkg i).row (row (v + 30))))
          ∧ (∀ i, temps.length ≤ i → s'.pkg i = s.pkg i) ∧ s'.mem.cells = s.mem.cells ∧ s'.tiles = s.tiles
          ∧ ∀ (c : SubCh) (v : Int) (was : Int) (time : Nat), temps[pkgOf c.val]? = some v → pkgOf c.val < 12 →
              look (fun _ => none) s.mem.trained c.val = some (was, time) → 80 ≤ (v - was).natAbs →
              s'.get (K.subchTrainState c.val) = 1

namespace Sys2Proof.Claims

/-- The message of a source is over with a status and its drop counter, before the source hears of it. -/
def refusedWith (s : State) (st : Nat) : State :=
  if st = 2 then s.bump K.queueClosedDrops 1 else if st = 3 then s.bump K.queueStaleDrops 1
  else if st = 4 then s.bump K.noTargetDrops 1 else s

/-- The first check of R230 that a message fails at the tile in slot `d`, with its status; none where it fails none. -/
def firstFailure (s : State) (d : Nat) (m : Msg) : Option Nat :=
  let x := s.tile d
  let c := x.queue m.hdr.dstQ.toNat
  if x.enabled = false then some 4
  else if x.started = false ∨ c.qsize = 0 ∨ c.isOpen = false then some 2
  else if c.gen ≠ m.hdr.gen then some 3
  else if c.replyOnly ≠ m.hdr.reply then some 5
  else if m.hdr.reply = true ∧ c.credits = 0 then some 7
  else if m.hdr.reply = true ∧ c.resv * 64 < m.hdr.length then some 8
  else if m.hdr.reply = false ∧ c.qsize * 512 < (m.hdr.length + 63) / 64 * 64 then some 6
  else none

/-- `s1` is `s` with queue `q` of the tile in slot `d` changed to `c`, and what the recorder and the nets keep of it. -/
def QueueSet (s s1 : State) (d q : Nat) (c : Queue) : Prop :=
  (s1.tile d).queue q = c ∧ (∀ r, r ≠ q → (s1.tile d).queue r = (s.tile d).queue r)
    ∧ { s1.tile d with queues := (s.tile d).queues } = s.tile d ∧ (∀ u, u ≠ d → s1.tile u = s.tile u)
    ∧ { s1 with tiles := s.tiles, recorder := s.recorder, net := { s1.net with spillPeak := s.net.spillPeak } } = s

/-- `s1` is `s` with message `m` placed in queue `q` of the tile in slot `d`, which is then `c` but for its count of lines:
its payload lies in queue memory where the queue puts its next one, and no other byte of queue memory changes. Where that is
is the model's free value (log entry 26). -/
def QueuePlaced (s s1 : State) (d q : Nat) (c : Queue) (m : Msg) : Prop :=
  let x := s.tile d
  let y := s1.tile d
  y.queue q = { c with placed := c.placed + m.space / 64 } ∧ (∀ r, r ≠ q → y.queue r = x.queue r)
    ∧ (∀ a, (∀ i, i < m.hdr.length → x.queuePlace q i ≠ a) → look (fun _ => 0) y.qmem a = look (fun _ => 0) x.qmem a)
    ∧ ((∀ i j, i < m.hdr.length → j < m.hdr.length → x.queuePlace q i = x.queuePlace q j → i = j) →
        ∀ i, i < m.hdr.length → look (fun _ => 0) y.qmem (x.queuePlace q i) = m.payload.getD i 0)
    ∧ { y with queues := x.queues, qmem := x.qmem } = x ∧ (∀ u, u ≠ d → s1.tile u = s.tile u)
    ∧ { s1 with tiles := s.tiles, recorder := s.recorder } = s

/-- The dispatching rows of a message and of a token: the first offer and the repeat. -/
def offers (src : MsgSrc) : List (Instr × MuPhase) := [(.msgDeliver src, .flying), (.sendReoffer src, .refused)]
def tokenOffers (src : MsgSrc) : List (Instr × MuPhase) := [(.tokenArrive src, .flying), (.tokenRetry src, .refused)]

end Sys2Proof.Claims

/-- MSG_DELIVER and SEND_REOFFER, of a message whose turn it is, for a queue of a tile: the first check of R230 that fails
ends it with its status; a message that fails none is placed in the queue while no earlier one is spilled there and it has
room, else in the spill ring, else it is refused for retry. A reply is placed against its credit. -/
def Obligations.Delivery : Prop :=
  ∀ (s : State) (src : MsgSrc) (m : Msg) (d : Nat), ∀ p ∈ offers src,
    s.srcEntry src = some (m, p.2) → m.hdr.token = false → m.hdr.dstEp = 0 → s.behind src m.hdr = false →
    (∀ t u, src ≠ .steer t u) → slotOf m.hdr.dstRow.toNat m.hdr.dstPos.toNat = some d →
    let q := m.hdr.dstQ.toNat
    let x := s.tile d
    let c := x.queue q
    (∀ st, firstFailure s d m = some st → exec p.1 s = .next ((refusedWith s st).srcDone src st))
    ∧ (firstFailure s d m = none → m.hdr.reply = true →
        ∃ s1, exec p.1 s = .next (s1.srcDone src 0)
          ∧ QueuePlaced s s1 d q { c with held := c.held ++ [m], credits := c.credits - 1 } m)
    ∧ (firstFailure s d m = none → m.hdr.reply = false → c.spilled = [] → c.room m.space = true →
        ∃ s1, exec p.1 s = .next (s1.srcDone src 0) ∧ QueuePlaced s s1 d q { c with held := c.held ++ [m] } m)
    ∧ (firstFailure s d m = none → m.hdr.reply = false → ¬ (c.spilled = [] ∧ c.room m.space = true) →
        x.ringRoom q m = true →
        ∃ s1, exec p.1 s = .next (s1.srcDone src 0) ∧ QueueSet s s1 d q { c with spilled := c.spilled ++ [m] })
    ∧ (firstFailure s d m = none → m.hdr.reply = false → ¬ (c.spilled = [] ∧ c.room m.space = true) →
        x.ringRoom q m = false → exec p.1 s = .next (s.srcRefused src))

/-- TOKEN_ARRIVE and TOKEN_RETRY: a token for a started tile whose unit takes tokens is held behind the others; the ninth is
refused and offered again; a unit that is disabled or takes no tokens discards it. -/
def Sys2Proof.Claims.TokenArrival : Prop :=
  ∀ (s : State) (src : MsgSrc) (m : Msg) (d : Nat), ∀ p ∈ tokenOffers src,
    s.srcEntry src = some (m, p.2) → m.hdr.token = true → s.behind src m.hdr = false →
    slotOf m.hdr.dstRow.toNat m.hdr.dstPos.toNat = some d →
    let x := s.tile d
    let u := m.hdr.su.toNat
    let v := x.su u
    let put := fun (w : Su) => exec p.1 s = .next ((s.setTile d (x.setSu u w)).srcDone src 0)
    (x.enabled = false → exec p.1 s = .next ((refusedWith s 4).srcDone src 4))
    ∧ (x.enabled = true → x.started = false → exec p.1 s = .next ((refusedWith s 2).srcDone src 2))
    ∧ (x.enabled = true → x.started = true →
      (v.enable = true → v.tokenless = false → v.tokens.length < 8 →
        put { v with tokens := v.tokens ++ [(m.hdr.tval, m.hdr.priUsed)] })
      ∧ (v.enable = true → v.tokenless = false → 8 ≤ v.tokens.length → exec p.1 s = .next (s.srcRefused src))
      ∧ ((v.enable = false ∨ v.tokenless = true) → put { v with discards := min 255 (v.discards + 1) }))

/-- How a message ends at its source. A placed or failed message of a tile's unit has its status; SEND_STALL_TIMEOUT ends
one that was refused for as long as its limit with SPILL_EXHAUSTED, counted, and REPLY_CREDIT_TIMEOUT one that waited for a
reply credit as long with REPLY_NO_ROOM; before their limit neither does anything. -/
def Sys2Proof.Claims.MessageEnds : Prop :=
  ∀ (s : State) (src : MsgSrc) (ns : Nat),
    (∀ t i e st, src = .tile t i → (s.tile t.val).units.mu[i]? = some e →
      let x := (s.srcDone src st).tile t.val
      x.units.mu[i]? = some { e with phase := .done st } ∧ (∀ k, k ≠ i → x.units.mu[k]? = (s.tile t.val).units.mu[k]?)
        ∧ { x with units := { x.units with mu := (s.tile t.val).units.mu } } = s.tile t.val
        ∧ OnlyTile s (s.srcDone src st) t)
    ∧ (∀ m, s.srcEntry src = some (m, .refused) → m.hdr.token = false →
      (1000 * s.srcLimit src ≤ ns → exec (.sendStallTimeout src ns) s
          = .next (((s.srcDone src 1).bump K.spillExhaustedCount 1).raise 0x11 []))
      ∧ (ns < 1000 * s.srcLimit src → exec (.sendStallTimeout src ns) s = .next s))
    ∧ ∀ m, s.srcEntry src = some (m, .credit) →
      (1000 * s.srcLimit src ≤ ns → exec (.replyCreditTimeout src ns) s = .next (s.srcDone src 9))
      ∧ (ns < 1000 * s.srcLimit src → exec (.replyCreditTimeout src ns) s = .next s)

/-- SU_FIRE: a unit with nothing to fire leaves all as it was; DROP takes a token and the head of the input queue and counts
a discard; STEER to a local queue with room moves the head there. -/
def Sys2Proof.Claims.SteeringFires : Prop :=
  ∀ (s : State) (t : Slot) (u : Fin 4) (k : Byte) (pri : Bool) (ts : List (Byte × Bool)),
    let x := s.tile t.val
    let v := x.su u.val
    let c := x.queue v.iq
    let after := { v with tokens := ts, lastToken := k }
    v.enable = true → v.firing = none →
    ((v.tokenless = true → (c.selected = true ∨ c.held = []) → exec (.suFire t u) s = .next s)
    ∧ (v.tokenless = false → v.tokens = [] → exec (.suFire t u) s = .next s)
    ∧ (v.tokenless = false → v.tokens = (k, pri) :: ts → k.toNat / 64 ≠ 3 → (c.selected = true ∨ c.held = []) →
        exec (.suFire t u) s = .next s)
    ∧ (v.tokenless = false → v.tokens = (k, pri) :: ts → k.toNat / 64 = 1 → c.selected = false →
      ∀ m l, c.held = m :: l → Ends (.suFire t u) s fun s' =>
        let y := s'.tile t.val
        y.queue v.iq = { c with held := l } ∧ y.su u.val = { after with discards := min 255 (v.discards + 1) }
          ∧ (∀ q, q ≠ v.iq → y.queue q = x.queue q) ∧ (∀ w, w ≠ u.val → y.su w = x.su w)
          ∧ { y with queues := x.queues, sus := x.sus } = x ∧ OnlyTile s s' t)
    ∧ (v.tokenless = false → v.tokens = (k, pri) :: ts → k.toNat / 64 = 0 → c.selected = false →
      ∀ m l q, c.held = m :: l → q = ((v.outs.getD (k.toNat / 16 % 4) (0, 0)).1.toNat / 2 ^ 26) % 16 →
        (v.outs.getD (k.toNat / 16 % 4) (0, 0)).1.toNat % 4 = 1 → q ≠ v.iq → x.queueShut q = false →
        (x.queue q).replyOnly = m.hdr.reply → m.hdr.reply = false →
        (x.queue q).spilled = [] → (x.queue q).room m.space = true → m.space ≤ (x.queue q).qsize * 512 →
        Ends (.suFire t u) s fun s' =>
          let y := s'.tile t.val
          y.queue v.iq = { c with held := l }
            ∧ ((y.queue q).held.map (·.payload)) = ((x.queue q).held.map (·.payload)) ++ [m.payload]
            ∧ y.su u.val = after ∧ (∀ r, r ≠ v.iq → r ≠ q → y.queue r = x.queue r)
            ∧ { y with queues := x.queues, sus := x.sus, qmem := x.qmem } = x ∧ (∀ w, w ≠ t.val → s'.tile w = s.tile w)))

/-- SPILL_RETURN: the oldest spilled message of a queue that has room for it, read without error, comes back to the end of
those held. TOKEN_INJECT_WAIT: the first message that waits for the P budget of its network goes when the budget of the
next period covers its flits, and waits on when it does not, while priority arbitration tables are in force (R218). -/
def Sys2Proof.Claims.WaitingMessages : Prop :=
  ∀ (s : State) (t : Slot),
    let x := s.tile t.val
    (∀ (q : Fin 16) m l, (x.queue q.val).spilled = m :: l → (x.queue q.val).room m.space = true →
      Ends (.spillReturn t q 0) s fun s' =>
        QueuePlaced s s' t.val q.val { x.queue q.val with spilled := l, held := (x.queue q.val).held ++ [m] } m)
    ∧ (∀ (q : Fin 16) m l, (x.queue q.val).spilled = m :: l → (x.queue q.val).room m.space = false →
        ∀ e, exec (.spillReturn t q e) s = .next s)
    ∧ (∀ i, s.net.pTables = none → exec (.tokenInjectWait (.tile t i)) s = .next s)
    ∧ ∀ i e tables, s.net.pTables = some tables → x.units.mu[i]? = some e → e.phase = .budget →
        (∀ k d, k < i → x.units.mu[k]? = some d → ¬ (d.phase = .budget ∧ d.msg.hdr.cnet = e.msg.hdr.cnet)) →
        (∀ u d, x.units.fwd = some (u, d) → d.pc ≤ i → ¬ (d.phase = .budget ∧ d.msg.hdr.cnet = e.msg.hdr.cnet)) →
        let n := Config.pBudget tables t.val (if e.msg.hdr.cnet then 1 else 0)
        (e.msg.hdr.flits ≤ n → Ends (.tokenInjectWait (.tile t i)) s fun s' =>
          let y := s'.tile t.val
          y.units.mu[i]? = some { e with phase := .flying }
            ∧ (if e.msg.hdr.cnet then y.units.budgetC = n - e.msg.hdr.flits ∧ y.units.budgetB = x.units.budgetB
                else y.units.budgetB = n - e.msg.hdr.flits ∧ y.units.budgetC = x.units.budgetC)
            ∧ (∀ k, k ≠ i → y.units.mu[k]? = x.units.mu[k]?) ∧ y.core = x.core ∧ y.queues = x.queues ∧ OnlyTile s s' t)
        ∧ (n < e.msg.hdr.flits → Ends (.tokenInjectWait (.tile t i)) s fun s' =>
          (s'.tile t.val).units.mu = x.units.mu ∧ (s'.tile t.val).core = x.core ∧ (s'.tile t.val).queues = x.queues
            ∧ OnlyTile s s' t)

/-- The priority classes: PCLASS_CLOSED ends a closure once no message injected in a P class is under way, and the messages
held meanwhile travel in their O class while no tables are in force; PCLASS_REOPEN has the tables written once nothing
calls for the closure, and ends the reopening when every unit has resumed. -/
def Sys2Proof.Claims.PriorityClasses : Prop :=
  ∀ s : State,
    let p := s.get K.priorityClassState
    (p = 1 → s.pDrained = true → Ends (.pclassClosed) s fun s' =>
        s'.get K.priorityClassState = 2 ∧ (∀ k, k ≠ K.priorityClassState → s'.get k = s.get k)
          ∧ (∀ (t i : Nat) (e : MuEntry), (s.tile t).units.mu[i]? = some e →
              (e.phase = .closing ∨ e.phase = .budget) → ∃ d : MuEntry, (s'.tile t).units.mu[i]? = some d ∧ d.phase = .flying
                ∧ d.msg.hdr.priUsed = false)
          ∧ (∀ (i : Nat) (n : NodeSend), s.net.nodeSends[i]? = some n → n.held = true →
              ∃ d : NodeSend, s'.net.nodeSends[i]? = some d ∧ d.held = false ∧ d.msg.hdr.priUsed = false)
          ∧ s'.net.pTables = none
          ∧ { s' with tiles := s.tiles, dict := s.dict,
                      net := { s'.net with nodeSends := s.net.nodeSends, pTables := s.net.pTables } } = s)
    ∧ ((p ≠ 1 ∨ s.pDrained = false) → exec (.pclassClosed) s = .next s)
    ∧ (p = 2 → s.pCauseLasts = false → Ends (.pclassReopen) s fun s' =>
        s'.net.pTables.isSome = true ∧ s'.get K.priorityClassState = 3
          ∧ (∀ k, k ≠ K.priorityClassState → s'.get k = s.get k)
          ∧ { s' with dict := s.dict, freeCount := s.freeCount, net := { s'.net with pTables := s.net.pTables } } = s)
    ∧ (p = 3 → ((∀ t, (s.tile t).units.demoted = false) ∧ ∀ n ∈ s.net.nodeSends, n.demoted = false) →
        exec (.pclassReopen) s = .next (s.set K.priorityClassState 0))
    ∧ ((p < 2 ∨ (p = 2 ∧ s.pCauseLasts = true) ∨ (p = 3 ∧ s.pResumed = false)) → exec (.pclassReopen) s = .next s)

namespace Sys2Proof.Claims

/-- The first check of R427 that a write of `len` bytes at `off` from an endpoint fails; 0 where it passes: a window that
is neither open nor closing, a source out of scope, a source that has answered the close, a range beyond the size. -/
def windowFailure (s : State) (w src off len : Nat) : Nat :=
  let v := s.window w
  let inScope := v.scope = 0 ∨ (v.scope = 1 ∧ src = v.peer) ∨ (v.scope = 2 ∧ (s.route src).testBit 9)
    ∨ (3 ≤ v.scope ∧ (s.route src).testBit 10)
  if v.state = 0 then 0x1E
  else if ¬ inScope then 0x21
  else if v.state = 2 ∧ src ∈ v.acked then 0x1E
  else if (if v.kind = 1 then v.size else v.size * 256) < off + len then 0x20
  else 0

/-- A window number is free and under its reuse hold; every other window is as before. -/
def WindowGone (s s' : State) (w : Nat) : Prop :=
  s'.window w = { Window.closed with freedAt := some s.timeBase } ∧ ∀ k, k ≠ w → s'.window k = s.window k

end Sys2Proof.Claims

/-- WINDOW_WRITE_LAND. A write that passes every check of R427 lands at its place, in memory by whole lines or in the
scratchpad of the window's tile, whose lines it marks filled, and nowhere else; one that fails changes nothing but, for a
closed window, the drop counter. That the rest of the last line in memory is then free is the model's reading (log
entry 142). -/
def Sys2Proof.Claims.WindowWrites : Prop :=
  ∀ (s : State) (w : Fin 256) (src : BitVec 16) (off : Nat) (data : List Byte),
    let v := s.window w.val
    let c := windowFailure s w.val src.toNat off data.length
    (c = 0x1E → exec (.windowWriteLand w src off data) s = .next (s.bump K.windowClosedDrops 1))
    ∧ (c ≠ 0 → c ≠ 0x1E → exec (.windowWriteLand w src off data) s = .next s)
    ∧ (c = 0 → v.kind ≠ 1 → Ends (.windowWriteLand w src off data) s fun s' =>
        (∀ k, k < data.length → s'.memByte (v.base * 256 + off + k) = data.getD k 0)
          ∧ (∀ a, (a < v.base * 256 + off ∨ v.base * 256 + off + (data.length + 63) / 64 * 64 ≤ a) →
              s'.memByte a = s.memByte a)
          ∧ { s' with mem := s.mem, freeCount := s.freeCount } = s)
    ∧ (c = 0 → v.kind = 1 → Ends (.windowWriteLand w src off data) s fun s' =>
        let x := s.tile v.slot
        let y := s'.tile v.slot
        (∀ k, k < data.length → y.byte (v.base + off + k) = data.getD k 0)
          ∧ (∀ a, (a < v.base + off ∨ v.base + off + data.length ≤ a) → y.byte a = x.byte a)
          ∧ (∀ l, y.filled l = if data ≠ [] ∧ (v.base + off) / 64 ≤ l ∧ l ≤ (v.base + off + data.length - 1) / 64 then true
              else x.filled l)
          ∧ { y with pad := { y.pad with bytes := x.pad.bytes, fill := x.pad.fill } } = x
          ∧ (∀ u, u ≠ v.slot → s'.tile u = s.tile u) ∧ { s' with tiles := s.tiles } = s)

/-- How a window closes. WCLOSE_ACK takes a peer off the list of those asked; the last one, or WINDOW_CLOSE_COMPLETE when
none is left, frees the number, which WINDOW_REUSE_HOLD gives back after window_reuse_hold. At a peer, WCLOSE is answered at
once unless writes of its own to the window are not over. -/
def Sys2Proof.Claims.WindowClosing : Prop :=
  ∀ (s : State) (w : Fin 256),
    let v := s.window w.val
    (∀ p : BitVec 16, v.state = 2 → (∃ e ∈ v.waitAck, e ≠ p.toNat) → Ends (.wcloseAck p w) s fun s' =>
        s'.window w.val = { v with waitAck := v.waitAck.filter (· ≠ p.toNat), acked := v.acked ++ [p.toNat] }
          ∧ (∀ k, k ≠ w.val → s'.window k = s.window k)
          ∧ { s' with fabric := { s'.fabric with windows := s.fabric.windows } } = s)
    ∧ (∀ p : BitVec 16, v.state = 2 → (∀ e ∈ v.waitAck, e = p.toNat) → v.owner = none →
        Ends (.wcloseAck p w) s fun s' => WindowGone s s' w.val ∧ s'.mem = s.mem)
    ∧ (∀ p : BitVec 16, v.state ≠ 2 → exec (.wcloseAck p w) s = .next s)
    ∧ (v.state = 2 → v.waitAck = [] → v.owner = none → Ends (.windowCloseComplete w) s fun s' =>
        WindowGone s s' w.val
          ∧ (v.kind = 1 → look (fun _ => WinSlot.free) (s'.tile v.slot).pad.winslots v.winslot = WinSlot.free
              ∧ (s'.tile v.slot).pad.bytes = (s.tile v.slot).pad.bytes)
          ∧ (v.kind ≠ 1 → s'.tiles = s.tiles)
          ∧ (∀ t ∈ s'.fabric.transfers, t.owner ≠ .close w.val ∧ t ∈ s.fabric.transfers)
          ∧ { s' with tiles := s.tiles, fabric := s.fabric } = s)
    ∧ ((v.state ≠ 2 ∨ v.waitAck ≠ []) → exec (.windowCloseComplete w) s = .next s)
    ∧ (∀ ms, v.state = 0 → v.freedAt.isSome = true →
        (s.get K.windowReuseHold ≤ ms → Ends (.windowReuseHold w ms) s fun s' =>
          s'.window w.val = Window.closed ∧ (∀ k, k ≠ w.val → s'.window k = s.window k)
            ∧ { s' with fabric := { s'.fabric with windows := s.fabric.windows } } = s)
        ∧ (ms < s.get K.windowReuseHold → exec (.windowReuseHold w ms) s = .next s))
    ∧ ∀ owner : BitVec 16,
        ((∀ t ∈ s.fabric.transfers, t.dst = owner → t.window ≠ some w.val) →
          exec (.wclose owner w) s = .next (s.sendCloseAck owner w.val))
        ∧ ((∃ t ∈ s.fabric.transfers, t.dst = owner ∧ t.window = some w.val) → Ends (.wclose owner w) s fun s' =>
            (∃ c, s'.fabric.closes = s.fabric.closes ++ [c] ∧ c.owner = owner ∧ c.window = w.val ∧ c.waits ≠ [])
              ∧ { s' with fabric := { s'.fabric with closes := s.fabric.closes } } = s)

/-- Packets in transit. A packet by a port that is not up is not seen; one that has made 64 hops or is older than 1 ms is
discarded and counted; one for another module leaves by its only candidate with one more hop; one for this module is opened
with its sender's key and delivered, or, if its tag fails, discarded as if lost. PACKET_LIFETIME_DISCARD counts
a packet over a limit of R400. -/
def Sys2Proof.Claims.PacketTransit : Prop :=
  ∀ (s : State) (port : Port) (h : Packet) (tag : BitVec 128),
    let p := h.withTag tag
    let heard := s.setPort port.val { s.port port.val with failed := 0 }
    (s.portUp port.val = false → exec (.fabricPacketArrive port h tag) s = .next s)
    ∧ (s.portUp port.val = true → p.mcast = false → (s.route p.dst.toNat).testBit 8 = true →
        (heard.openPacket p = none → exec (.fabricPacketArrive port h tag) s = .next heard)
        ∧ ∀ q, heard.openPacket p = some q → exec (.fabricPacketArrive port h tag) s = .next (heard.deliver q))
    ∧ (s.portUp port.val = true → p.mcast = false → (s.route p.dst.toNat).testBit 8 = false →
        (64 ≤ p.hops ∨ 1000 < p.age → exec (.fabricPacketArrive port h tag) s
          = .next ((s.setPort port.val { s.port port.val with failed := 0 }).bump K.lifetimeDiscards 1))
        ∧ (p.hops < 64 → p.age ≤ 1000 → ∀ n : Port, s.candidates (s.route p.dst.toNat) p.plane = [n.val] →
          Ends (.fabricPacketArrive port h tag) s fun s' =>
            (∃ cls, s'.out = s.out ++ [.packet n { p with hops := p.hops + 1, dclass := cls }])
              ∧ s'.fabric.transfers = s.fabric.transfers ∧ s'.fabric.flows = s.fabric.flows ∧ s'.tiles = s.tiles
              ∧ s'.mem = s.mem ∧ s'.net = s.net ∧ s'.dict = s.dict))
    ∧ ∀ us, ((64 ≤ p.hops ∨ 100 < us ∨ 1000 < p.age) →
          exec (.packetLifetimeDiscard p us) s = .next (s.bump K.lifetimeDiscards 1))
        ∧ (¬ (64 ≤ p.hops ∨ 100 < us ∨ 1000 < p.age) → exec (.packetLifetimeDiscard p us) s = .next s)

/-- Acknowledgement and loss of a flow. ACK ends every transfer whose packets all precede or equal its SEQ, NACK has the
packets it names sent again, STATUS ends the transfer it names with its code. A tile's window write that ends is no longer
counted by FENCE REMOTE; one that ends with a code shows in FXFAIL. ACK_TIMER acknowledges what was handed on since the
last acknowledgement. -/
def Sys2Proof.Claims.FlowAnswers : Prop :=
  ∀ (s : State) (src flow seq : BitVec 16), isMcastFlow flow.toNat = false →
    let mine := fun (t : Transfer) => t.sent = true ∧ t.dst = src ∧ t.flow = flow
    (exec (.fabAck src flow seq) s = .next (((s.fabric.transfers.filter fun t =>
        t.sent && t.dst = src && t.flow = flow && ((seq - t.last).toNat < 32768)).foldl (fun s t => s.endTransfer t 0) s).launchHeld))
    ∧ (∀ n, exec (.fabNack src flow seq n) s = .next ((((s.fabric.transfers.filter fun t =>
        t.sent && t.dst = src && t.flow = flow).flatMap (·.packets)).filter fun p => (p.seq - seq).toNat < n).foldl
          (fun s p => s.resend p) s))
    ∧ (∀ (code : Byte) t l r, s.fabric.transfers = l ++ t :: r → mine t → t.first = seq →
        (∀ u ∈ l, ¬ (mine u ∧ u.first = seq)) → exec (.fabStatus src flow seq code) s
          = .next (((s.endTransfer t code.toNat).resendPart t code.toNat).launchHeld))
    ∧ (∀ t n w code, t ∈ s.fabric.transfers → t.owner = .tile n → t.window = some w → t.credit = none →
        s.fabric.closes = [] → s.fabric.epochPhase = .none → code ≠ 0x1D →
        let s' := s.endTransfer t code
        t ∉ s'.fabric.transfers ∧ (∀ u ∈ s.fabric.transfers, u ≠ t → u ∈ s'.fabric.transfers)
          ∧ (s'.tile n).units.remoteWrites = (s.tile n).units.remoteWrites - 1
          ∧ (code = 0 → (s'.tile n).fxfail = (s.tile n).fxfail)
          ∧ (code ≠ 0 → (s'.tile n).fxfail.1.toNat.testBit 31 = true)
          ∧ (∀ u, u ≠ n → s'.tile u = s.tile u) ∧ s'.mem = s.mem)
    ∧ ((s.rflow src flow).unacked = 0 → s.ackPoint (s.rflow src flow) = (s.rflow src flow).acked →
        exec (.ackTimer src flow) s = .next s)
    ∧ (((s.rflow src flow).unacked ≠ 0 ∨ s.ackPoint (s.rflow src flow) ≠ (s.rflow src flow).acked) →
        Ends (.ackTimer src flow) s fun s' => (s'.rflow src flow).unacked = 0
          ∧ (s'.rflow src flow).acked = s.ackPoint (s.rflow src flow)
          ∧ (s'.rflow src flow).next = (s.rflow src flow).next ∧ s'.fabric.transfers = s.fabric.transfers
          ∧ s'.tiles = s.tiles ∧ s'.mem = s.mem)

/-- The timers of a flow. REORDER_TIMEOUT asks three times for what is missing before a held packet, then gives the transfer
up; RETRANSMIT_TIMEOUT sends the newest unacknowledged packet again after twice the interval; TRANSFER_LOSS_TIMEOUT ends the
oldest transfer with FABRIC_LOSS after six times; MULTICAST_RETRY sends a message again to the targets that refused it.
Before their time none does anything. -/
def Sys2Proof.Claims.FlowTimers : Prop :=
  ∀ (s : State) (src flow : BitVec 16) (us : Nat),
    let f := s.rflow src flow
    ((us < s.fabric.reorderUs ∨ f.held = []) → exec (.reorderTimeout src flow us) s = .next s)
    ∧ (s.fabric.reorderUs ≤ us → f.held ≠ [] → f.missing ≠ 0 →
        (f.nacks < 3 → exec (.reorderTimeout src flow us) s = .next ((s.setRflow { f with nacks := f.nacks + 1 }).sendControl
          .nack src.toNat flow.toNat (BitVec.ofNat 32 (f.next.toNat + 65536 * (f.missing % 65536))) []))
        ∧ (3 ≤ f.nacks → exec (.reorderTimeout src flow us) s = .next (s.loseGap f)))
    ∧ (us < 2 * s.fabric.reorderUs → exec (.retransmitTimeout src flow us) s = .next s)
    ∧ (∀ p, 2 * s.fabric.reorderUs ≤ us → s.highestUnacked src flow = some p →
        exec (.retransmitTimeout src flow us) s = .next (s.resend p))
    ∧ (us < 6 * s.fabric.reorderUs → exec (.transferLossTimeout src flow us) s = .next s)
    ∧ (∀ t l r, 6 * s.fabric.reorderUs ≤ us → isMcastFlow flow.toNat = false → s.fabric.transfers = l ++ t :: r →
        t.sent = true → t.dst = src → t.flow = flow → (∀ u ∈ l, ¬ (u.sent = true ∧ u.dst = src ∧ u.flow = flow)) →
        exec (.transferLossTimeout src flow us) s = .next (((s.endTransfer t 0x1D).resendPart t 0x1D).launchHeld))
    ∧ ∀ i m, s.fabric.mcasts[i]? = some m →
        ((us < s.get K.multicastRetryInterval ∨ 3 ≤ m.retries ∨ m.refused = 0) → exec (.multicastRetry i us) s = .next s)
        ∧ (s.get K.multicastRetryInterval ≤ us → m.retries < 3 → m.refused ≠ 0 → exec (.multicastRetry i us) s
            = .next ((s.onFabric fun g => { g with mcasts := g.mcasts.map fun c =>
                if c.id = m.id then { c with retries := c.retries + 1, refused := 0 } else c }).sendMcast m m.refused))

namespace Sys2Proof.Claims

/-- Port `n` shows a state and a number of lanes; every other entry of the dictionary but those named is as before. -/
def PortShows (s s' : State) (n st lanes : Nat) (others : List Nat) : Prop :=
  s'.get (K.portState n) = st ∧ s'.get (K.portLanesUp n) = lanes
    ∧ ∀ k, k ≠ K.portState n → k ≠ K.portLanesUp n → k ∉ others → s'.get k = s.get k

end Sys2Proof.Claims

/-- The ports of the fabric. LINK_REPLAY counts, and the eighth failed frame in a row takes a trained port back to training;
LANE_LOSS drops a lane, and the last one takes the port down; LIGHT_DETECT sends a licensed port that is down or waits for
light into training; PORT_TRAINED notes the neighbour, and a port joined to this module itself or to a port it may not be
joined to is miswired. -/
def Sys2Proof.Claims.FabricPorts : Prop :=
  ∀ (s : State) (port : Port),
    let n := port.val
    let q := s.port n
    (s.trained n = false → exec (.linkReplay port) s = .next s ∧ ∀ l, exec (.laneLoss port l) s = .next s)
    ∧ (s.trained n = true → q.failed < 7 → exec (.linkReplay port) s
        = .next (((s.countFec n).setPort n { q with failed := q.failed + 1 }).bump (K.portReplays n) 1))
    ∧ (s.trained n = true → 7 ≤ q.failed → Ends (.linkReplay port) s fun s' =>
        PortShows s s' n 1 0 [K.portReplays n, K.portFecCorrected n, K.portFecUncorrectable n] ∧ (s'.port n).failed = 0
          ∧ (s'.port n).lanes = 0 ∧ (∀ k, k ≠ n → s'.port k = s.port k)
          ∧ { s' with dict := s.dict, fabric := s.fabric, freeCount := s.freeCount } = s)
    ∧ (∀ m k : Nat, k ≠ K.portFecCorrected m → k ≠ K.portFecUncorrectable m → (s.countFec m).get k = s.get k)
    ∧ (∀ m c : Fin 8, pairOk m.val (boardJumper c.val m.val).2 = true
          ∧ boardJumper (boardJumper c.val m.val).1 (boardJumper c.val m.val).2 = (c.val, m.val))
    ∧ (∀ l : Fin 4, s.trained n = true → q.lanes &&& ~~~(BitVec.ofNat 4 (2 ^ l.val)) ≠ 0 → Ends (.laneLoss port l) s fun s' =>
        PortShows s s' n (s.get (K.portState n)) (q.lanes &&& ~~~(BitVec.ofNat 4 (2 ^ l.val))).toNat []
          ∧ s'.port n = { q with lanes := q.lanes &&& ~~~(BitVec.ofNat 4 (2 ^ l.val)) }
          ∧ (∀ k, k ≠ n → s'.port k = s.port k) ∧ { s' with dict := s.dict, fabric := s.fabric } = s)
    ∧ (∀ l : Fin 4, s.trained n = true → q.lanes &&& ~~~(BitVec.ofNat 4 (2 ^ l.val)) = 0 → Ends (.laneLoss port l) s fun s' =>
        PortShows s s' n 3 0 [] ∧ (∀ k, k ≠ n → s'.port k = s.port k) ∧ { s' with dict := s.dict, fabric := s.fabric } = s)
    ∧ (n < s.licPorts → (s.get (K.portState n) = 1 ∨ s.get (K.portState n) = 3) → Ends (.lightDetect port) s fun s' =>
        PortShows s s' n 1 (s.get (K.portLanesUp n)) [] ∧ s'.port n = { q with lit := true }
          ∧ (∀ k, k ≠ n → s'.port k = s.port k) ∧ { s' with dict := s.dict, fabric := s.fabric } = s)
    ∧ (s.licPorts ≤ n → exec (.lightDetect port) s = .next s)
    ∧ ∀ nb : Neighbour, s.get (K.portState n) = 1 → nb.lanes ≠ 0 → Ends (.portTrained port nb) s fun s' =>
        (s'.port n).neighbour = some nb ∧ (s'.port n).lanes = nb.lanes ∧ s'.get (K.portLanesUp n) = nb.lanes.toNat
          ∧ s'.get (K.portNeighbour n) = nb.serial.toNat + 2 ^ 48 * (nb.port % 256)
          ∧ s'.get (K.portLaneMap n) = nb.laneMap.toNat
          ∧ ((nb.serial = Config.serial ∨ pairOk n nb.port = false) → s'.get (K.portState n) = 4)
          ∧ (nb.serial ≠ Config.serial → pairOk n nb.port = true → s.sameKey nb = false → s'.get (K.portState n) = 5)
          ∧ (∀ k, k ≠ n → s'.port k = s.port k)
          ∧ ((s.get K.fabricState = 0 ∨ s.get K.fabricState = 4) → s'.get K.fabricState = 1)
          ∧ { s' with dict := s.dict, fabric := s.fabric } = s

/-- Discovery. An offer with a lower serial, or a shorter way to the same, is taken; every trained port offers what is known,
and a module with no neighbour is isolated; once offers have been quiet for 10 ms a module that is not the leader reports
to it; tables that arrive wait in the shadow; a module whose leader has been lost for 10 ms knows only itself again. -/
def Sys2Proof.Claims.Discovery : Prop :=
  ∀ s : State,
    let f := s.fabric
    let st := s.get K.fabricState
    (∀ (p : Port) (sn : BitVec 48) (d : Nat),
      ((sn.toNat < f.known.toNat ∨ (sn = f.known ∧ d + 1 < f.dist)) → exec (.disc (.offer p sn d)) s
        = .next { s with fabric := { f with known := sn, dist := d + 1, parent := some p.val } })
      ∧ (¬ (sn.toNat < f.known.toNat ∨ (sn = f.known ∧ d + 1 < f.dist)) → exec (.disc (.offer p sn d)) s = .next s))
    ∧ (∀ (sn : BitVec 48) (l : List Neighbour), f.known ≠ Config.serial →
        exec (.disc (.report sn l)) s = .next (s.emit (.disc (.report sn l))))
    ∧ (∀ (e : BitVec 16) (sn : BitVec 48) (tab : Tables), exec (.disc (.tables e sn tab)) s
        = .next (({ s with fabric := { f with shadow := some tab, shadowId := e.toNat } } : State).set K.leaderSerial sn.toNat))
    ∧ ((s.licPorts = 0 ∨ s.ready = false) → exec (.discoveryOffer) s = .next s)
    ∧ (s.licPorts ≠ 0 → s.ready = true → s.trainedPorts = [] → st ≠ 2 → st ≠ 3 →
        exec (.discoveryOffer) s = .next (s.set K.fabricState 4))
    ∧ (∀ p : Port, s.licPorts ≠ 0 → s.ready = true → s.trainedPorts = [p.val] → st = 1 →
        exec (.discoveryOffer) s = .next (s.emit (.disc (.offer p f.known f.dist))))
    ∧ (∀ us, 10000 ≤ us → st = 1 → f.known ≠ Config.serial →
        exec (.electionSettled us) s = .next (s.emit (.disc (.report Config.serial s.myReport))))
    ∧ (∀ us, 10000 ≤ us → st = 1 → f.known = Config.serial →
        reportsWhole ((Config.serial, s.myReport) :: f.reports) = true →
        exec (.electionSettled us) s = .next s.leaderTables)
    ∧ (∀ us, us < 10000 → exec (.electionSettled us) s = .next s ∧ exec (.leaderLost us) s = .next s)
    ∧ ∀ us, 10000 ≤ us → st ≠ 0 → exec (.leaderLost us) s = .next (({ s with fabric :=
        { f with known := Config.serial, dist := 0, parent := none, reports := [] } } : State).set K.fabricState 1)

/-- The epoch barrier. PREPARE passes down the tree and holds new transfers; a module not the leader passes READY up; the
leader swaps once it has every READY. SWAP puts the shadow tables, directory, identifier and pending fabric key in force in
one step, counts the epoch and lets the held transfers go. -/
def Sys2Proof.Claims.EpochBarrier : Prop :=
  ∀ s : State,
    let f := s.fabric
    ((f.epochPhase ≠ .none ∨ s.leaderSteps = true) → exec (.prepare) s = .next s)
    ∧ (f.epochPhase = .none → s.leaderSteps = false → f.known ≠ Config.serial → (∃ t ∈ f.transfers, t.sent = true) →
        exec (.prepare) s = .next
          ({ (s.emit (.link 3 [] [])).set K.fabricState 3 with fabric := { f with epochPhase := .prepared } } : State))
    ∧ (f.epochPhase = .none → s.leaderSteps = false → f.known ≠ Config.serial → (∀ t ∈ f.transfers, t.sent = false) →
        exec (.prepare) s = .next (({ (s.emit (.link 3 [] [])).set K.fabricState 3 with
          fabric := { f with epochPhase := .ready } } : State).emit (.link 4 [Config.serial.toNat] [])))
    ∧ (∀ sn, f.known ≠ Config.serial → exec (.fabReady sn) s = .next (s.emit (.link 4 [sn.toNat] [])))
    ∧ (∀ sn, f.known = Config.serial →
        let g := { f with readies := f.readies.filter (· ≠ sn) ++ [sn] }
        ({ s with fabric := g } : State).allReady = false → exec (.fabReady sn) s = .next { s with fabric := g })
    ∧ (f.shadow = none → exec (.fabSwap) s = .next s)
    ∧ (∀ t, f.shadow = some t → exec (.fabSwap) s = .next ((s.emit (.link 5 [] [])).swapTables.launchHeld)
        ∧ (let s' := s.swapTables
          s'.fabric.active = t ∧ s'.fabric.shadow = none ∧ s'.fabric.epochPhase = .none
            ∧ s'.get K.endpointId = f.shadowId ∧ s'.get K.fabricState = 2
            ∧ s'.get K.fabricModules = t.directory.length
            ∧ s'.get K.fabricKeyActive = (if s.get K.fabricKeyPending = 0 then s.get K.fabricKeyActive
                else s.get K.fabricKeyPending)
            ∧ s'.get K.fabricKeyPending = 0
            ∧ (s.get K.fabricEpoch + 1 < 2 ^ keyBits K.fabricEpoch → s'.get K.fabricEpoch = s.get K.fabricEpoch + 1)
            ∧ s'.fabric.transfers = f.transfers ∧ s'.fabric.windows = f.windows
            ∧ s'.vault = (if s.get K.fabricKeyPending = 0 then s.vault
                else { s.vault with fabricActive := s.vault.fabricPending, fabricPending := [] })
            ∧ { s' with dict := s.dict, fabric := s.fabric, vault := s.vault } = s))

namespace Sys2Proof.Claims

/-- A descriptor that had no answer yet has one now, with the status. -/
def Answered (s s' : State) (j : JobId) (st : Nat) : Prop :=
  ∀ d, s.openDesc j = some d → ∃ d' a, s'.desc j = some d' ∧ d'.answer = some a ∧ a.status = st

/-- No strand but `st` changes. -/
def OnlyStrand (s s' : State) (st : Nat) : Prop := ∀ w, w ≠ st → s'.strand w = s.strand w

/-- A counter has gone up by `n`, unless it would pass the top of its type. -/
def Counted (s s' : State) (k n : Nat) : Prop := s.get k + n < 2 ^ keyBits k → s'.get k = s.get k + n

/-- The tile issues from a word on. -/
def StartsAt (x : Tile) (entry : Nat) : Prop :=
  x.core.pc = BitVec.ofNat 12 entry ∧ x.core.run = .running ∧ x.core.fault = none ∧ x.started = true

end Sys2Proof.Claims

/-- Priming of a strand. A stage streams only in its turn, and takes STAGEMAP, INTERVAL of STRAND and ROLE of CHKCTL first;
when the first stage of a section streams, every tile of the strand takes STAGEMAP before any issues (R145). A segment whose
CRC-32C, as it was read, is the record's starts its stage, the last one the strand; one that does not match is streamed once
more, and then ends the job with PRIMER_FAULT: of a waiting job, while the present one goes on. A resident plan starts on
every stage without a stream. -/
def Obligations.Priming : Prop :=
  ∀ (s : State) (st : StrandId),
    let v := s.strand st.val
    (∀ k : Fin 24, (s.mayStream st.val k.val = false → exec (.primeStage st k) s = .next s)
      ∧ (s.mayStream st.val k.val = true → Ends (.primeStage st k) s fun s' =>
          let first := k.val = 0 ∧ v.again = none
          let ahead := v.next.isSome = true ∧ k.val ∈ v.halted
          let n := (s.primingPlan st.val).1
          (s'.strand st.val).streaming = some k.val ∧ OnlyStrand s s' st.val
            ∧ (∀ t, s.stageSlot st.val k.val = some t →
                (s'.tile t).stageMap = s.stageMapOf st.val
                  ∧ wbits (s'.tile t).strandReg 20 12
                    = (if ahead then (if first ∧ v.phase = .running then s.intervalFor n else v.nextInterval) else v.interval) % 4096
                  ∧ wbits (s'.tile t).chk.ctl 0 2 = v.role % 4
                  ∧ (s'.tile t).core = (s.tile t).core ∧ (s'.tile t).units = (s.tile t).units
                  ∧ (¬ (first ∧ v.phase ≠ .running) → ∀ u, u ≠ t → s'.tile u = s.tile u))
            ∧ (first → v.phase ≠ .running → ∀ u ∈ s.stageSlots st.val, (s'.tile u).stageMap = s.stageMapOf st.val)
            ∧ ∀ u, u ∉ s.stageSlots st.val → s'.tile u = s.tile u))
    ∧ (∀ (k : Fin 24) (flips : Word), v.streaming ≠ some k.val → exec (.primerSegmentDone st k flips) s = .next s)
    ∧ (∀ (k : Fin 24) (flips : Word) (r : StageRec) (t : Nat), v.streaming = some k.val →
        stageOf (s.planFile (v.planOf k.val).1) (v.planOf k.val).2 k.val = some r → s.stageSlot st.val k.val = some t →
        let good := (crc32c (segment (s.planFile (v.planOf k.val).1) r) ^^^ flips).toNat = r.segCrc
        (good → Ends (.primerSegmentDone st k flips) s fun s' =>
          StartsAt (s'.tile t) (segEntry (recsOf (segment (s.planFile (v.planOf k.val).1) r)) r)
            ∧ (∀ q, q < 16 → ((s'.tile t).queue q).qsize ≠ 0 → ((s'.tile t).queue q).isOpen = true)
            ∧ (s'.strand st.val).streaming = none ∧ (s'.strand st.val).again = none
            ∧ (v.phase = .priming → (planSec (s.planFile v.plan) v.sec).stages ≤ v.primed + 1 →
                (s'.strand st.val).phase = .running ∧ (s'.strand st.val).primed = 0)
            ∧ (v.phase = .priming → v.primed + 1 < (planSec (s.planFile v.plan) v.sec).stages →
                (s'.strand st.val).phase = .priming ∧ (s'.strand st.val).primed = v.primed + 1)
            ∧ OnlyStrand s s' st.val)
        ∧ (¬ good → v.again ≠ some k.val → exec (.primerSegmentDone st k flips) s
            = .next (s.setStrand st.val { v with again := some k.val, streaming := none }))
        ∧ (∀ j, ¬ good → v.again = some k.val → v.phase = .priming → v.job = some j →
            Ends (.primerSegmentDone st k flips) s fun s' =>
              Answered s s' j St.primerFault ∧ Counted s s' K.primerFaultCount 1)
        ∧ (∀ j, ¬ good → v.again = some k.val → v.phase = .running → v.next = some j → v.job ≠ some j → v.role = 0 →
            Ends (.primerSegmentDone st k flips) s fun s' =>
              Answered s s' j St.primerFault ∧ Counted s s' K.primerFaultCount 1 ∧ (s'.strand st.val).next = none
                ∧ (s'.strand st.val).job = v.job ∧ (s'.strand st.val).phase = .running
                ∧ (s'.strand st.val).streaming = none ∧ (s'.strand st.val).again = none))
    ∧ (s.ready = true → v.phase = .priming → v.primed = 0 → v.streaming = none → v.again = none →
        s.isResident st.val v.plan = true → Ends (.residentSwitch st) s fun s' =>
          (s'.strand st.val).phase = .running ∧ (s'.strand st.val).lastA = decide (v.resA = v.plan)
            ∧ (s'.strand st.val).parked = [] ∧ OnlyStrand s s' st.val
            ∧ (∀ (k t : Nat) (r : StageRec), (s.stageSlots st.val)[k]? = some t → s.stageRec st.val k = some r →
                StartsAt (s'.tile t) r.entry ∧ (v.mustSwap v.plan k = true → ∀ h, h < 26 →
                  (s'.tile t).handle (BitVec.ofNat 6 h) = (s.tile t).handle (BitVec.ofNat 6 (h + 30))))
            ∧ ∀ t, t ∉ s.stageSlots st.val → s'.tile t = s.tile t)
    ∧ ((v.phase ≠ .priming ∨ v.primed ≠ 0 ∨ s.isResident st.val v.plan = false) → exec (.residentSwitch st) s = .next s)

/-- A strand goes on. Sections follow one another, with epochs from 0 and the settings of the time, once every stage has
halted and fenced its outputs; a strand without a barrier event for the limit ends
its job with STRAND_STALL; a resume counts and begins again from the last complete checkpoint, and the fourth from one
checkpoint ends the job with TILE_FAULT. Where INTERVAL or the checkpoint is 0 it begins from chunk 0. -/
def Sys2Proof.Claims.StrandProgress : Prop :=
  ∀ (s : State) (st : StrandId),
    let v := s.strand st.val
    (v.phase = .running → v.sec + 1 < planSections (s.planFile v.plan) → s.sectionOver st.val = true →
        Ends (.sectionAdvance st) s fun s' =>
          let w := s'.strand st.val
          w.phase = .priming ∧ w.sec = v.sec + 1 ∧ w.epoch = 0 ∧ w.chunks = 0 ∧ w.reports = [] ∧ w.halted = [] ∧ w.resumes = 0
            ∧ w.primed = 0 ∧ w.resume = false ∧ w.job = v.job ∧ w.plan = v.plan ∧ w.interval = s.intervalFor v.plan
            ∧ w.ring = s.get (K.spillRingSize st.val) ∧ OnlyStrand s s' st.val
            ∧ { s' with strands := s.strands } = s)
    ∧ ((v.phase ≠ .running ∨ s.sectionOver st.val = false ∨ planSections (s.planFile v.plan) ≤ v.sec + 1) →
        exec (.sectionAdvance st) s = .next s)
    ∧ (v.role ≠ 2 → (∃ t ∈ s.stageSlots st.val, (s.tile t).units.unfenced = true) → exec (.sectionAdvance st) s = .next s)
    ∧ (∀ us j, v.job = some j → v.phase = .running → s.get K.strandStallLimit ≤ us → s.host.d3 = false →
        Ends (.strandStall st us) s fun s' =>
          Answered s s' j St.strandStall ∧ Counted s s' K.strandStallCount 1
            ∧ (v.next = none → (s'.strand st.val).phase = .idle ∧ (s'.strand st.val).job = none))
    ∧ (∀ us, (v.job = none ∨ v.phase ≠ .running ∨ us < s.get K.strandStallLimit ∨ s.host.d3 = true) →
        exec (.strandStall st us) s = .next s)
    ∧ (∀ j, v.job = some j → (v.phase = .running ∨ v.phase = .priming) → v.resumes < 3 → Ends (.strandResume st) s fun s' =>
        let w := s'.strand st.val
        w.resumes = v.resumes + 1 ∧ w.chunks = v.epoch * v.interval ∧ w.resume = decide (v.epoch ≠ 0 ∧ v.interval ≠ 0)
          ∧ (∀ t ∈ s.stageSlots st.val, (s'.tile t).resumeEpoch
              = if v.epoch ≠ 0 ∧ v.interval ≠ 0 then BitVec.ofNat 16 v.epoch else 0) ∧ w.epoch = v.epoch
          ∧ w.halted = [] ∧ w.job = some j ∧ w.plan = v.plan ∧ w.sec = v.sec ∧ OnlyStrand s s' st.val
          ∧ (s.get K.priorityClassState = 0 → s'.get K.priorityClassState = 1)
          ∧ (∀ t, t ∉ s.stageSlots st.val → s'.tile t = s.tile t))
    ∧ (∀ j, v.job = some j → (v.phase = .running ∨ v.phase = .priming) → 3 ≤ v.resumes → Ends (.strandResume st) s fun s' =>
        Answered s s' j St.tileFault ∧ (v.next = none → (s'.strand st.val).job = none))
    ∧ (v.job = none → exec (.strandResume st) s = .next s)

/-- Fusion and re-placement. A row's two free strands join, the even one over both half-rows from the west end to the east
end. A re-placement retires a strand that is too short for every plan, and otherwise leaves it as it was before. -/
def Sys2Proof.Claims.FusionAndReplacement : Prop :=
  ∀ (s : State),
    (∀ row : Fin 24, let e := 2 * row.val
      ((s.strand e).mayFuse = true → (s.strand (e + 1)).mayFuse = true → s.busyCount + 2 ≤ s.busyCap →
        Ends (.strandFuse row) s fun s' =>
          s'.strand e = { s.strand e with fused := some (e + 1), resA := 0, resB := 0 }
            ∧ s'.strand (e + 1) = { s.strand (e + 1) with fused := some e, phase := .joined, resA := 0, resB := 0 }
            ∧ (∀ w, w ≠ e → w ≠ e + 1 → s'.strand w = s.strand w)
            ∧ s'.stageSlots e = (s.halfSlots e).reverse ++ s.halfSlots (e + 1)
            ∧ (s.get K.priorityClassState = 0 → s'.get K.priorityClassState = 1))
      ∧ (((s.strand e).mayFuse = false ∨ (s.strand (e + 1)).mayFuse = false ∨ s.busyCap < s.busyCount + 2) →
        exec (.strandFuse row) s = .next s))
    ∧ ∀ (st : StrandId) (us : Nat),
        let v := s.strand st.val
        let s1 := (s.check.fencing.filter fun t => s.strandOf t = st.val).foldl State.moveSpare
          (s.resetTiles (s.stageSlots st.val)).closeP
        (v.phase ≠ .replacing → exec (.replacement st us) s = .next s)
        ∧ (v.phase = .replacing → (v.was = .unlicensed ∨ v.was = .joined ∨ v.was = .retired) →
            Ends (.replacement st us) s fun s' => s'.strand st.val = { v with phase := v.was, was := .idle })
        ∧ (v.phase = .replacing → v.was = .running ∨ v.was = .priming ∨ v.was = .idle →
            s1.tooShort st.val 0 = true →
            Ends (.replacement st us) s fun s' => (s'.strand st.val).phase = .retired ∧ (s'.strand st.val).job = none
              ∧ (∀ j, v.job = some j → ⟨j, v.plan, v.shape, v.sec, v.place⟩ ∈ s'.check.readmits))
        ∧ (v.phase = .replacing → v.was = .idle → v.job = none → v.role ≠ 2 →
            s1.tooShort st.val 0 = false →
            Ends (.replacement st us) s fun s' => (s'.strand st.val).phase = .idle ∧ Counted s s' K.replacements 1
              ∧ s.get K.replacementMaxUs ≤ s'.get K.replacementMaxUs ∧ us ≤ s'.get K.replacementMaxUs)

namespace Sys2Proof.Claims

/-- A doorbell of channel `c` reaches the channel, whose entry is cached (R331, R332, R335). -/
def Rings (s : State) (c : Chan) (rsv : BitVec 44) : Prop :=
  s.barOpen = true ∧ s.ready = true ∧ rsv = 0 ∧ c.val < s.host.count ∧ s.entryCached c.val = true
    ∧ entryType (s.chan c.val).ent ≠ 0

/-- No channel but `c` changes. -/
def OnlyChan (s s' : State) (c : Nat) : Prop := ∀ x, x ≠ c → s'.chan x = s.chan x

/-- The channel engine fetches from channel `c` now (R337, R355). -/
def Fetches (s : State) (c : Chan) : Prop :=
  s.fetching = true ∧ s.fetchable c.val = true ∧ s.itsTurn c.val = true

end Sys2Proof.Claims

/-- The doorbells. They are nothing while the BAR is closed, are dropped and counted before READY, with a reserved bit, or
beyond the table; SUBMIT moves TAIL, unless the ring cannot hold that; CACK frees slots of the completion ring; INVALIDATE
reads the entry again and is the only one that ends ERROR; ABORT stops a descriptor in flight and keeps one not fetched
from being fetched. -/
def Obligations.Doorbells : Prop :=
  ∀ (s : State) (c : Chan) (rsv : BitVec 44) (e : EntryRead),
    let ch := s.chan c.val
    (∀ x : Instr, ((∃ v, x = .submit c v rsv e) ∨ (∃ v, x = .abortD c v rsv e) ∨ (∃ v, x = .cack c v rsv e)
          ∨ x = .invalidate c rsv e) →
        (s.barOpen = false → exec x s = .next s)
        ∧ (s.barOpen = true → (s.ready = false ∨ rsv ≠ 0 ∨ s.host.count ≤ c.val) →
            exec x s = .next (s.bump K.barWritesDropped 1)))
    ∧ (∀ v, Rings s c rsv → (v - ch.oldest).toNat ≤ ringD ch.ent → Ends (.submit c v rsv e) s fun s' =>
        s'.chan c.val = { ch with tail := v } ∧ s'.host.lru.head? = some c.val ∧ OnlyChan s s' c.val
          ∧ { s' with host := s.host } = s)
    ∧ (∀ v, Rings s c rsv → ringD ch.ent < (v - ch.oldest).toNat → Ends (.submit c v rsv e) s fun s' =>
        s'.chan c.val = { ch with error := 2 } ∧ OnlyChan s s' c.val)
    ∧ (∀ v, Rings s c rsv → (v - ch.cack).toNat ≤ (ch.ctail - ch.cack).toNat → Ends (.cack c v rsv e) s fun s' =>
        (s'.chan c.val).cack = v ∧ (s'.chan c.val).fly = ch.fly ∧ (ch.aborts = [] → s'.chan c.val = { ch with cack := v })
          ∧ OnlyChan s s' c.val)
    ∧ (∀ v, Rings s c rsv → (ch.ctail - ch.cack).toNat < (v - ch.cack).toNat → Ends (.cack c v rsv e) s fun s' =>
        s'.chan c.val = ch ∧ Counted s s' K.barWritesDropped 1)
    ∧ (∀ v : BitVec 16, Rings s c rsv → (v - ch.dhead).toNat < (ch.tail - ch.dhead).toNat → Ends (.abortD c v rsv e) s fun s' =>
        v.toNat ∈ (s'.chan c.val).skip ∧ (s'.chan c.val).fly = ch.fly ∧ Counted s s' K.abortsOk 1 ∧ OnlyChan s s' c.val)
    ∧ (∀ (v : BitVec 16) (d : Desc), Rings s c rsv → (ch.tail - ch.dhead).toNat ≤ (v - ch.dhead).toNat →
        s.desc (c.val, v.toNat) = some d → Ends (.abortD c v rsv e) s fun s' =>
          s'.desc (c.val, v.toNat) = none ∧ Counted s s' K.abortsOk 1)
    ∧ (s.barOpen = true → s.ready = true → rsv = 0 → c.val < s.host.count →
        (e.error = true ∨ entryValid e.bytes = false → Ends (.invalidate c rsv e) s fun s' =>
          s'.chan c.val = { ch with entry := none, error := 1 } ∧ c.val ∉ s'.host.lru ∧ OnlyChan s s' c.val)
        ∧ (e.error = false → entryValid e.bytes = true → s.rawConflict c.val e.bytes = true →
          Ends (.invalidate c rsv e) s fun s' =>
            s'.chan c.val = { ch with entry := none, error := 5 } ∧ c.val ∉ s'.host.lru ∧ OnlyChan s s' c.val)
        ∧ (e.error = false → entryValid e.bytes = true → s.rawConflict c.val e.bytes = false →
          Ends (.invalidate c rsv e) s fun s' =>
            s'.chan c.val = { ch with entry := some e.bytes, seen := true, error := 0 } ∧ s'.host.lru.head? = some c.val
              ∧ (∀ st, st < 48 → st ∈ s.entClaims e.bytes → (s'.strand st).claimed = some c.val)
              ∧ (∀ st, st < 48 → (s.rawOpen e.bytes = false ∨ st ∉ s.entClaims e.bytes) → (s'.strand st).claimed ≠ some c.val)
              ∧ OnlyChan s s' c.val))

/-- Descriptors from fetch to commit. The engine fetches one in its turn, and it joins the flight or is answered with the
first check it fails; an aborted one is passed over; an error of the read stops the channel. A commit writes the output,
then the record at CTAIL with PHASE, and lets the descriptor go. Coalesced records are signalled at the latest after
COAL_US. -/
def Sys2Proof.Claims.DescriptorFlow : Prop :=
  ∀ (s : State) (c : Chan),
    let ch := s.chan c.val
    (∀ b er, ¬ Fetches s c → exec (.descFetch c b er) s = .next s)
    ∧ (∀ b, Fetches s c → exec (.descFetch c b true) s = .next (s.setChan c.val { ch with error := 3 }))
    ∧ (∀ b, Fetches s c → ch.dhead.toNat ∈ ch.skip → Ends (.descFetch c b false) s fun s' =>
        (s'.chan c.val).dhead = ch.dhead + 1 ∧ (s'.chan c.val).fly = ch.fly ∧ ch.dhead.toNat ∉ (s'.chan c.val).skip
          ∧ s'.host.turn = c.val ∧ OnlyChan s s' c.val)
    ∧ (∀ b, Fetches s c → ch.dhead.toNat ∉ ch.skip → s.descFails ch.ent b = none → Ends (.descFetch c b false) s fun s' =>
        (s'.chan c.val).dhead = ch.dhead + 1
          ∧ (s'.chan c.val).fly = ch.fly ++ [⟨ch.dhead.toNat, b, ch.ent, false, none, none, false, 0⟩]
          ∧ s'.host.turn = c.val ∧ OnlyChan s s' c.val)
    ∧ (∀ b st, Fetches s c → ch.dhead.toNat ∉ ch.skip → s.descFails ch.ent b = some st →
        (∀ d ∈ ch.fly, d.idx ≠ ch.dhead.toNat) → Ends (.descFetch c b false) s fun s' =>
          ∃ d a, s'.desc (c.val, ch.dhead.toNat) = some d ∧ d.answer = some a ∧ a.status = st)
    ∧ (∀ (i : BitVec 16) (er : Bool), (∀ d, s.desc (c.val, i.toNat) = some d → s.mayCommit (c.val, i.toNat) d = false) →
        exec (.completionCommit c i er) s = .next s)
    ∧ (∀ (i : BitVec 16) (er : Bool) (d : Desc) (a : Answer), s.desc (c.val, i.toNat) = some d → d.answer = some a →
        s.mayCommit (c.val, i.toNat) d = true → Ends (.completionCommit c i er) s fun s' =>
          s'.desc (c.val, i.toNat) = none
            ∧ .host (entCBase d.entry + ch.ctail.toNat % 2 ^ entCShift d.entry * 64)
                ((d.record a).take 63 ++ [if ch.phase then 0x80 else 0]) ∈ s'.out
            ∧ (a.out ≠ [] → .host (descOut d.bytes) a.out ∈ s'.out)
            ∧ (ch.aborts = [] → (s'.chan c.val).ctail = ch.ctail + 1)
            ∧ (er = true → (s'.chan c.val).error = 4) ∧ OnlyChan s s' c.val)
    ∧ (∀ us, ch.unsignalled ≠ 0 → entCoalUs ch.ent ≠ 0 → entCoalUs ch.ent ≤ us → s.barOpen = true → s.boot ≠ .thawing →
        Ends (.coalTimeout c us) s fun s' =>
          s'.chan c.val = { ch with unsignalled := 0 } ∧ OnlyChan s s' c.val
            ∧ (s.msixMasked (entVector ch.ent) = false → entVector ch.ent ≠ 0xFF →
                s'.out = s.out ++ [.msix (entVector ch.ent)])
            ∧ (s.msixMasked (entVector ch.ent) = true → entVector ch.ent < 64 →
                s'.out = s.out ∧ s'.host.pba.getLsbD (entVector ch.ent) = true))
    ∧ (∀ us, (ch.unsignalled = 0 ∨ entCoalUs ch.ent = 0 ∨ us < entCoalUs ch.ent) → exec (.coalTimeout c us) s = .next s)

/-- The registers and apertures of the host link, and D3hot. A write of BAR0 acts only in READY; CHTBL_BASE and CHTBL_COUNT
are accepted only while no descriptor is in flight, and empty the entry cache; in D3hot what is for the host waits, and goes
out in order at D0; an aperture is written only where its raw slot has a channel. In a thaw every BAR read but that of DEVSTAT
answers all ones (R323). With APERTURE 1 the input of a raw operation is what its channel's aperture holds (R338, R354). -/
def Sys2Proof.Claims.HostRegisters : Prop :=
  ∀ s : State,
    (∀ x : Instr, ((∃ v, x = .chtblBaseWrite v) ∨ (∃ v, x = .chtblCountWrite v)
          ∨ (∃ a o d, x = .apertureWrite a o d ∧ o + d.length ≤ 0x10000000)) →
        (s.barOpen = false → exec x s = .next s)
        ∧ (s.barOpen = true → s.ready = false → exec x s = .next (s.bump K.barWritesDropped 1)))
    ∧ (∀ v, s.barOpen = true → s.ready = true → s.anyJob = false → Ends (.chtblBaseWrite v) s fun s' =>
        s'.host = { s.host with base := v &&& 0xFFFFFFFFFFFFF000, lru := [] } ∧ { s' with host := s.host } = s)
    ∧ (∀ v : Word, s.barOpen = true → s.ready = true → s.anyJob = false → Ends (.chtblCountWrite v) s fun s' =>
        s'.host = { s.host with count := min 4096 (v.toNat % 8192), lru := [] } ∧ { s' with host := s.host } = s)
    ∧ (∀ v w, s.barOpen = true → s.ready = true → s.anyJob = true →
        exec (.chtblBaseWrite v) s = .next s ∧ exec (.chtblCountWrite w) s = .next s)
    ∧ (∀ (a : Fin 8) (o : Nat) (d : List Byte), s.barOpen = true → s.ready = true → o + d.length ≤ 0x10000000 →
        (s.slotHasChannel a.val = true → Ends (.apertureWrite a o d) s fun s' =>
          (∀ k, k < d.length → look memDflt s'.host.apertures (a.val * 0x10000000 + o + k) = d.getD k 0)
            ∧ { s' with host := { s'.host with apertures := s.host.apertures } } = s)
        ∧ (s.slotHasChannel a.val = false → exec (.apertureWrite a o d) s = .next (s.bump K.barWritesDropped 1)))
    ∧ (s.power.phase = .up → s.host.d3 = false → exec (.d3hotEnter) s
        = .next { s with host := { s.host with d3 := true, d3Since := s.timeBase } })
    ∧ (s.host.d3 = true → s.host.channels = [] → Ends (.d0Restore) s fun s' =>
        s'.out = s.out ++ s.host.waiting ∧ s'.host = { s.host with d3 := false, waiting := [] }
          ∧ { s' with out := s.out, host := s.host } = s)
    ∧ (s.host.d3 = true → Ends (.d0Restore) s fun s' =>
        s'.host.d3 = false ∧ s'.host.waiting = [] ∧ (s.out ++ s.host.waiting) <+: s'.out
          ∧ ∀ c ch, s.host.channels = [(c, ch)] → (s'.chan c).fly = ch.fly.map fun (d : Desc) =>
              { d with since := d.since + (s.timeBase - s.host.d3Since) })
    ∧ (s.host.d3 = false → exec (.d0Restore) s = .next s)
    ∧ (s.barOpen = true → s.boot = .thawing → s.barRead 0 0 = some s.devstat
        ∧ ∀ b off, b ≠ 0 ∨ off ≠ 0 → s.barRead b off = some 0xFFFFFFFF)
    ∧ (∀ d inp, descAperture d.bytes = true → (s.inputOf d inp).dmaError = false
        ∧ ∀ k, k < descInLen d.bytes → ((s.inputOf d inp).hdr ++ (s.inputOf d inp).body).getD k 0
          = look memDflt s.host.apertures (entRawSlot d.entry * 0x10000000 + descIn d.bytes + k))

namespace Sys2Proof.Claims

/-- Everything that a cold start, a module reset or the loss of the rails clears is at its value after reset; flash, the
entries of the power stages and of the vault's own storage, and the test results in flash stay (R512, R524). -/
structure Cleared (s s' : State) (dip : Bool) : Prop where
  arrays : s'.tiles = [] ∧ s'.strands = [] ∧ s'.plans = [] ∧ s'.shards = [] ∧ s'.tunes = [] ∧ s'.host = HostLink.reset
    ∧ s'.fabric = Fabric.reset ∧ s'.check = Check.reset ∧ s'.net = Net.reset
  memory : s'.mem.cells = [] ∧ s'.mem.keyPresent = false ∧ s'.vault.keys = [] ∧ s'.vault.quotes = []
  waits : s'.boot = .booting ∧ s'.timeBase = 0
  flash : s'.flash.blocks = s.flash.blocks ∧ s'.recorder.flashA = s.recorder.flashA ∧ s'.recorder.flashB = s.recorder.flashB
    ∧ s'.recorder.next = s.recorder.resume
  entries : ∀ k, keepsKey 1 dip k = false → k ≠ K.scanState → k ≠ K.frontFaultCode → k ≠ K.vcoreActual → s'.get k = dflt k

/-- A cold start or module reset of a kind, with a cause, is under way (R513, R522). -/
def Restarts (s s' : State) (kind cause : Nat) : Prop :=
  Cleared s s' (decide (cause = 6)) ∧ s'.get K.lastResetKind = kind ∧ s'.get K.lastResetCause = cause ∧ s'.power.phase = .up

/-- The rails are off; the module is safe to pull (R512, R576). -/
def RailsOff (s s' : State) (phase : PowerPhase) : Prop :=
  Cleared s s' false ∧ s'.power.phase = phase ∧ s'.front.modSafe = true ∧ s'.out = s.out ++ [.rails false]

end Sys2Proof.Claims

/-- The input and the rails (R510 to R512, R574, R585). Power-up starts the module cold, unless PWR_EN is low or a rail
fails; a warning level only raises its alarm; losing the input, a short, 105 °C and PWR_EN take the rails down, with what
each of them counts and shows; a retry comes a second later, once. -/
def Obligations.SupplyEvents : Prop :=
  ∀ s : State,
    let p := s.power
    (∀ mv ms bad, p.phase = .dark → 39000 < mv → mv ≤ 62000 → (p.inputMv ≤ 62000 ∨ mv ≤ 60000) → 100 ≤ ms →
        (s.front.pwrEn = true → bad = false → Ends (.powerUp mv ms bad) s fun s' =>
          Restarts s s' 1 1 ∧ s'.get K.inputVoltage = mv / 100 ∧ s'.front.modSafe = false ∧ s'.out = s.out ++ [.rails true])
        ∧ (s.front.pwrEn = true → bad = true → Ends (.powerUp mv ms bad) s fun s' =>
          s'.power = { p with phase := .standby, inputMv := mv, seqFail := true, retryUsed := false })
        ∧ (s.front.pwrEn = false → Ends (.powerUp mv ms bad) s fun s' =>
          s'.power = { p with phase := .standby, inputMv := mv } ∧ s'.boot = s.boot))
    ∧ (∀ mv ms bad, (p.phase ≠ .dark ∨ mv ≤ 39000 ∨ 62000 < mv ∨ ms < 100) → exec (.powerUp mv ms bad) s = .next s)
    ∧ (p.phase ≠ .dark → Ends (.railShort .vstby) s fun s' => RailsOff s s' .dark ∧ s'.get K.railFaultRecord % 256 = 5)
    ∧ (∀ r, r ≠ .vstby → p.phase = .up → Ends (.railShort r) s fun s' =>
        RailsOff s s' .standby ∧ s'.power.railDown = r.code
          ∧ s'.get K.railFaultRecord = r.code + fld (s.get K.railFaultRecord / 256 + 1) 8 24
          ∧ (p.shortRetry = true → s'.get K.frontFaultCode = 2))
    ∧ (∀ r, p.phase ≠ .up → r ≠ .vstby → exec (.railShort r) s = .next s)
    ∧ (∀ ms, 1000 ≤ ms → p.seqRetry = true →
        (Ends (.railRetry true ms) s fun s' => Restarts s s' 1 1 ∧ s'.power.retryUsed = true)
        ∧ exec (.railRetry false ms) s
            = .next (({ s with power := { p with retryUsed := true } } : State).set K.frontFaultCode 1))
    ∧ (∀ ms, 1000 ≤ ms → p.seqRetry = false → p.railRetry = true →
        (Ends (.railRetry true ms) s fun s' => Cleared s s' false ∧ s'.get K.lastResetKind = 1 ∧ s'.power.phase = .up
          ∧ s'.power.shortRetry = true)
        ∧ exec (.railRetry false ms) s
            = .next (({ s with power := { p with shortRetry := true } } : State).set K.frontFaultCode 2))
    ∧ (∀ ok ms, ms < 1000 → exec (.railRetry ok ms) s = .next s)
    ∧ (∀ mv, p.phase = .up → 37000 ≤ mv → mv < 40000 → exec (.inputLow mv) s = .next ((s.setInput mv).raise 0x05 []))
    ∧ (∀ mv, p.phase = .up → 60000 < mv → mv ≤ 62000 → exec (.inputHigh mv) s = .next ((s.setInput mv).raise 0x06 []))
    ∧ (∀ mv, p.phase ≠ .up → exec (.inputLow mv) s = .next s ∧ exec (.inputHigh mv) s = .next s)
    ∧ (∀ mv, p.phase = .up → (mv < 37000 ∨ 62000 < mv) → Ends (.inputLost mv) s fun s' =>
        s'.power.phase = .dark ∧ s'.power.inputMv = mv ∧ s'.get K.inputVoltage = mv / 100 ∧ s'.front.modSafe = true
          ∧ s'.mem.cells = [] ∧ s'.vault.keys = [] ∧ s'.plans = [] ∧ Counted s s' K.inputLossCount 1)
    ∧ (∀ mv, p.phase = .standby → (mv < 37000 ∨ 62000 < mv) → Ends (.inputLost mv) s fun s' =>
        s'.power = { p with phase := .dark, seqFail := false, inputMv := mv } ∧ s'.get K.inputLossCount = s.get K.inputLossCount)
    ∧ (∀ tj, p.phase = .up → 1050 ≤ tj → Ends (.thermalShutdown tj) s fun s' =>
        RailsOff s s' .standby ∧ s'.power.thermTrip = true ∧ s'.get K.frontFaultCode = 3 ∧ Counted s s' K.thermtripCount 1)
    ∧ (∀ tj, (p.phase ≠ .up ∨ tj < 1050) → exec (.thermalShutdown tj) s = .next s)
    ∧ (∀ ms, 10 ≤ ms → p.phase = .up → Ends (.pwrEnLow ms) s fun s' => RailsOff s s' .standby ∧ s'.front.pwrEn = false)
    ∧ (∀ ms, ms < 10 → exec (.pwrEnLow ms) s = .next s)
    ∧ (∀ tj, p.phase = .standby → p.seqFail = false → p.railDown = 0 → tj < 850 → Ends (.pwrEnRise tj) s fun s' =>
        Restarts s s' 1 2 ∧ s'.front.pwrEn = true)
    ∧ (∀ tj, (p.phase ≠ .standby ∨ 850 ≤ tj) → exec (.pwrEnRise tj) s = .next { s with front := { s.front with pwrEn := true } })

/-- Resets (R320, R513, R514, R525, R529). Each cause starts a module reset or a thaw with its code; without rails nothing
starts. A thaw keeps module memory, plans and time, empties the tiles, closes the P classes, and counts in DEVSTAT; one more
during a thaw only counts, and one before READY is dropped. -/
def Obligations.Resets : Prop :=
  ∀ s : State,
    (∀ x : Instr × Nat, ((∃ mv ns, mv < 720 ∧ 1000 ≤ ns ∧ x = (.vsocLow mv ns, 7)) ∨ (∃ ms, 1000 ≤ ms ∧ x = (.bootWatchdog ms, 8))
          ∨ x = (.hotReset, 4) ∨ (bit (s.get K.sidebandState) 1 = false ∧ x = (.fundamentalReset, 5))) →
        (s.power.phase = .up → Ends x.1 s fun s' => Restarts s s' 2 x.2 ∧ s'.get K.vcoreActual = s.get K.vcoreActual
          ∧ (s.get K.scanState = 3 → s'.get K.scanState = 3))
        ∧ (s.power.phase ≠ .up → exec x.1 s = .next s))
    ∧ (∀ mv ns ms, (720 ≤ mv ∨ ns < 1000) → ms < 1000 →
        exec (.vsocLow mv ns) s = .next s ∧ exec (.bootWatchdog ms) s = .next s)
    ∧ (bit (s.get K.sidebandState) 1 = true → exec (.fundamentalReset) s = .next s)
    ∧ (∀ (row : Fin 24) (mv ns : Nat), s.power.phase = .up → mv < 550 → 20 ≤ ns → Ends (.dipReset row mv ns) s fun s' =>
        Restarts s s' 2 6 ∧ Counted s s' K.dipResetCount 1 ∧ s'.power.standby.isSome = true
          ∧ (s.power.dip = none → s'.get K.lastDipMin = mv ∧ s'.get K.lastDipDuration = 0)
          ∧ (∀ d, s.power.dip = some d → s'.get K.lastDipMin = min mv d.min
              ∧ s'.get K.lastDipDuration = (s.timeBase - d.start) / 1000))
    ∧ (∀ row mv ns, (s.power.phase ≠ .up ∨ 550 ≤ mv ∨ ns < 20) → exec (.dipReset row mv ns) s = .next s)
    ∧ (∀ x : Instr × Nat, ((∃ ms, 500 ≤ ms ∧ x = (.serviceCoreWatchdog ms, 13)) ∨ x = (.functionLevelReset, 10)) →
        (s.boot = .ready → Ends x.1 s fun s' =>
          s'.boot = .thawing ∧ s'.get K.lastResetKind = 3 ∧ s'.get K.lastResetCause = x.2
            ∧ s'.host.thaws = (s.host.thaws + 1) % 4294967296 ∧ s'.get K.priorityClassState = 2 ∧ s'.mem.selfRefresh = true
            ∧ (s.mem.writes = [] → s'.mem.cells = s.mem.cells) ∧ s'.plans = s.plans ∧ s'.timeBase = s.timeBase
            ∧ (∀ t, t < 624 → (s'.tile t).core = Tile.reset.core ∧ (s'.tile t).units = Tile.reset.units)
            ∧ (∀ k ∈ s'.vault.keys, k.pins = 0) ∧ s'.fabric.transfers = [] ∧ s'.batches = [])
        ∧ (s.boot = .thawing → exec x.1 s = .next { s with host := { s.host with thaws := (s.host.thaws + 1) % 4294967296 } }))
    ∧ (s.boot = .booting → s.power.phase = .up → exec (.functionLevelReset) s = .next (s.bump K.barWritesDropped 1))
    ∧ (∀ ms, (s.boot = .booting ∨ ms < 500) → exec (.serviceCoreWatchdog ms) s = .next s)

namespace Sys2Proof.Claims

/-- A firmware image of flash block `k` may be used by a boot: one of its copies is intact and undamaged, and its SVN is
min_svn at least (R312, R516). -/
def ImageUsable (s : State) (b : BootIn) (k : Nat) : Prop :=
  ∃ isA : Bool, let c := if isA then (s.block k).a else (s.block k).b
    c.intact = true ∧ (k, isA) ∉ b.damaged ∧ s.get K.minSvn ≤ look (fun _ => 0) c.body 0

/-- What a module that has become ready starts with. -/
def Fresh (s s' : State) (b : BootIn) : Prop :=
  s'.mem.cells = [] ∧ s'.mem.keyPresent = true ∧ s'.mem.keyCount = s.mem.keyCount + 1
    ∧ (∀ i, i < 12 → (s'.pkg i).temp.isSome = true)
    ∧ (∀ c, c < 96 → (look (fun _ => none) s'.mem.trained c).isSome = true)
    ∧ (∃ t, (s.readFlash b.damaged).firmware[0]? = some t ∧ s'.vault.meas[0]? = some (extend 0 t.digest))
    ∧ s'.vault.licFails = b.licFails ∧ s'.get K.licenceFeatures = featuresOf s'.vault.inForce
    ∧ (∀ t, t < 624 → (s'.tile t).pad.bytes = [] ∧ (s'.tile t).core = Tile.reset.core)

end Sys2Proof.Claims

/-- The boot sequences (R522, R523, R525). A cold start or a module reset stops with its code where firmware fails, an array
of the core of the die fails, or training fails; otherwise the module becomes ready with empty memory under a new key, its
packages read and its sub-channels trained, the licences that verify in force, and without its identity where clearing had
begun (R317). A bank fails its march where its signature is
not the reference. A thaw ends ready with memory as it was, or, where the digest fails, in a module reset with cause 14. -/
def Obligations.BootSequences : Prop :=
  ∀ s : State,
    (∀ (b : BootIn) (x : Instr × Nat), (x = (.coldStart b, 1) ∨ x = (.moduleReset b, 2)) →
        (s.mayBoot x.2 = false → exec x.1 s = .next s)
        ∧ (s.mayBoot x.2 = true →
            (¬ ImageUsable s b 1 → Ends x.1 s fun s' => s'.boot = .recovery ∧ s'.get K.frontFaultCode = 4)
            ∧ (ImageUsable s b 1 → ¬ (ImageUsable s b 2 ∧ ImageUsable s b 3) → Ends x.1 s fun s' =>
                s'.boot = .stopped ∧ s'.get K.frontFaultCode = 4)
            ∧ (ImageUsable s b 1 → ImageUsable s b 2 → ImageUsable s b 3 →
                (b.otherArrayFail = true → Ends x.1 s fun s' =>
                  s'.boot = .stopped ∧ s'.get K.frontFaultCode = 5 ∧ s'.get K.coldMarchResult = 3)
                ∧ (b.otherArrayFail = false → b.trainFails ≠ [] → Ends x.1 s fun s' =>
                  s'.boot = .stopped ∧ s'.get K.frontFaultCode = 6)
                ∧ (b.otherArrayFail = false → b.trainFails = [] → Ends x.1 s fun s' =>
                  s'.boot = .ready ∧ (s.front.waitQuiesce = none → s'.get K.priorityClassState = 0)
                    ∧ s'.get K.lastReadyMs = b.readyMs ∧ Fresh s s' b
                    ∧ (s.vault.clearBegun = true → s'.get K.identityState = 2 ∧ s'.get K.frontFaultCode = 7)
                    ∧ s'.get K.coldMarchResult = (if b.tileFails ≠ [] then 2
                      else if (∃ p ∈ b.bankErrs, coldFails 2048 p.2 = true) then 1 else 0)))))
    ∧ (∀ ok ms, s.boot ≠ .thawing → exec (.thaw ok ms) s = .next s)
    ∧ (∀ ms, s.boot = .thawing → s.power.phase = .up → Ends (.thaw false ms) s fun s' => Restarts s s' 2 14)
    ∧ ∀ ms, s.boot = .thawing → Ends (.thaw true ms) s fun s' =>
        s'.boot = .ready ∧ (s.front.waitQuiesce = none → s'.get K.priorityClassState = 0) ∧ s'.get K.lastReadyMs = ms ∧ s'.mem.selfRefresh = false
          ∧ s'.mem.cells = s.mem.cells ∧ Counted s s' K.resetLostCount s.allFly.length

namespace Sys2Proof.Claims

/-- The rows of R23: supply in mV, and M beats/s at 60, 75 and 95 °C. -/
def ratedBeats : List (Nat × Nat × Nat × Nat) :=
  [(680, 1550, 1500, 1430), (720, 1740, 1680, 1600), (760, 1930, 1860, 1780), (800, 2120, 2050, 1950),
    (840, 2290, 2210, 2110), (880, 2450, 2370, 2250), (900, 2520, 2430, 2320), (930, 2620, 2530, 2410)]

end Sys2Proof.Claims

/-- The governor (R37, R39, R42 to R45). Above 100 °C it takes everything down; above the limit or 95 °C it lowers VCORE by
10 mV, or 20 mV when over by more than 5 %, then raises minimum pace, then pauses admission; a release lifts one measure in
the opposite order; measurements are averaged over ten; the fast throttle counts. The rates of R23 fall by 3 % from 60 °C to
10 °C (R24); outside the range beat_rate_now stays below the 0.68 V figure (R593). -/
def Sys2Proof.Claims.Governor : Prop :=
  ∀ s : State,
    let p := s.power
    let v := s.get K.vcoreActual
    (∀ w tj, s.governs = false → exec (.governorLoop w tj) s = .next s ∧ exec (.thermalLimit tj) s = .next s
        ∧ exec (.governorRelease w) s = .next s)
    ∧ (∀ (w : Nat) (tj : Int), s.governs = true → Ends (.governorLoop w tj) s fun s' =>
        s'.get K.inputPower = w ∧ s'.get K.hottestTj = ofInt 16 tj
          ∧ s'.power.hot95 = decide (950 < tj) ∧ s'.power.hot100 = decide (1000 < tj)
          ∧ ((950 < tj ∨ p.noFlow = true ∨ s.dramHot = true) → s'.get K.governorState = 4)
          ∧ ((1000 < tj ∨ p.noFlow = true) → s'.get K.vcoreActual = 680 ∧ s'.power.minPace = 7 ∧ s'.power.paused = true
              ∧ s'.power.lowered = true)
          ∧ (tj ≤ 1000 → p.noFlow = false → (s.powerCap < w ∨ 950 < tj ∨ s.dramHot = true) →
              (680 < v → s.dipping = false → s'.get K.vcoreActual
                  = max 680 (v - if s.powerCap * 105 < w * 100 then 20 else 10)
                ∧ s'.power.lowered = true ∧ s'.power.minPace = p.minPace)
              ∧ ((v ≤ 680 ∨ s.dipping = true) → p.minPace < 7 → s'.power.minPace = p.minPace + 1
                ∧ s'.get K.vcoreActual = v ∧ s'.power.paused = p.paused)
              ∧ ((v ≤ 680 ∨ s.dipping = true) → 7 ≤ p.minPace → s'.power.paused = true ∧ s'.get K.vcoreActual = v))
          ∧ (tj ≤ 950 → p.noFlow = false → w ≤ s.powerCap → s.dramHot = false → s.dipping = false →
              (s.get K.vcoreSetpoint < v → s'.get K.vcoreActual = max (s.get K.vcoreSetpoint) (v - 10))
              ∧ (v < s.get K.vcoreSetpoint → p.lowered = false → s.capWaits (v + 10) = false →
                s'.get K.vcoreActual = min (s.get K.vcoreSetpoint) (v + 10))
              ∧ (v = s.get K.vcoreSetpoint → s'.get K.vcoreActual = v)))
    ∧ (∀ w, s.governs = true → w * 100 ≤ s.powerCap * 95 → p.hot95 = false → p.hot100 = false → p.noFlow = false →
        s.dramHot = false → Ends (.governorRelease w) s fun s' =>
          (p.paused = true → s'.power = { p with paused := false } ∧ s'.get K.vcoreActual = v)
          ∧ (p.paused = false → 0 < p.minPace → s'.power.minPace = p.minPace - 1 ∧ s'.get K.vcoreActual = v)
          ∧ (p.paused = false → p.minPace = 0 → p.lowered = true → v < s.get K.vcoreSetpoint → s.dipping = false →
              s.capWaits (v + 10) = false → s'.get K.vcoreActual = min (s.get K.vcoreSetpoint) (v + 10)
                ∧ s'.power.lowered = decide (v + 10 < s.get K.vcoreSetpoint)))
    ∧ (∀ w, (s.powerCap * 95 < w * 100 ∨ p.hot95 = true ∨ p.hot100 = true ∨ p.noFlow = true) →
        exec (.governorRelease w) s = .next s)
    ∧ (∀ w, p.phase = .up → Ends (.powerSample w) s fun s' =>
        s'.power = { p with samples := (w :: p.samples).take 10 }
          ∧ s'.get K.inputPower = total ((w :: p.samples).take 10) / ((w :: p.samples).take 10).length
          ∧ { s' with power := p, dict := s.dict } = s)
    ∧ (∀ w us, p.phase = .up → p.fast = false → 1050 < w → 50 ≤ us → exec (.fastThrottle w us) s
        = .next (({ s with power := { p with fast := true, fastEnding := false } } : State).bump K.fastThrottleCount 1))
    ∧ (∀ w us, (p.phase ≠ .up ∨ p.fast = true ∨ w ≤ 1050 ∨ us < 50) → exec (.fastThrottle w us) s = .next s)
    ∧ (∀ tj : Int, s.governs = true → Ends (.thermalLimit tj) s fun s' =>
        s'.get K.hottestTj = ofInt 16 tj ∧ s'.power = { p with hot95 := decide (950 < tj), hot100 := decide (1000 < tj) }
          ∧ (950 < tj → s'.get K.governorState = 4))
    ∧ (∀ r ∈ ratedBeats,
        (∀ t : Nat, 100 ≤ t → t ≤ 600 → specRate r.1 t = some (r.2.1 * (500000 - 30 * (600 - t)) / 500000))
        ∧ specRate r.1 750 = some r.2.2.1 ∧ specRate r.1 950 = some r.2.2.2)
    ∧ (∀ (mv : Nat) (tj : Int), (tj < 100 ∨ 950 < tj ∨ mv < 680 ∨ 930 < mv) → specRate mv tj = none)
    ∧ ∀ tj, tj = int16 (s.get K.hottestTj) → specRate v tj = none → s.beatRateNow < lowRate tj

/-- Dips and margins (R27, R29, R30, R526, R527). A rail below 620 mV begins a dip in safe pacing, and further falls keep
the lowest reading and its row; at the end the dip is counted with its lowest reading and length. A tile under margin 8 goes
into safe pacing of its own until its margin has been 12 for 200 µs. A tile's margin is the lower of its two monitors. -/
def Sys2Proof.Claims.DipsAndMargins : Prop :=
  ∀ s : State,
    (∀ (row : Fin 24) (mv : Nat), s.power.phase = .up → mv < 620 → s.power.dip = none →
        Ends (.warningLevelFall row mv) s fun s' =>
          s'.power = { s.power with dip := some ⟨s.timeBase, s.timeBase, mv, row.val⟩ } ∧ s'.get K.pacingState = 1
            ∧ ∀ t, t < 624 → (s'.tile t).skim.phase = .idle)
    ∧ (∀ (row : Fin 24) (mv : Nat) (d : Dip), s.power.phase = .up → mv < 620 → s.power.dip = some d →
        exec (.warningLevelFall row mv) s = .next { s with power := { s.power with
          dip := some (if mv < d.min then { d with min := mv, row := row.val } else d) } })
    ∧ (∀ row mv, (s.power.phase ≠ .up ∨ 620 ≤ mv) → exec (.warningLevelFall row mv) s = .next s)
    ∧ (∀ held us d, s.power.dip = some d → 200 ≤ held → Ends (.safePacingExit held us) s fun s' =>
        s'.power = { s.power with dip := none }
          ∧ s'.get K.pacingState = (if s.get K.forceSafePacing = 1 then 2 else 0)
          ∧ (s.power.standby = none → s'.get K.lastDipMin = d.min ∧ s'.get K.lastDipDuration = us ∧ Counted s s' K.dipCount 1))
    ∧ (∀ held us, (s.power.dip = none ∨ held < 200) → exec (.safePacingExit held us) s = .next s)
    ∧ (∀ (t : Slot) (m : Margins), (s.tile t.val).enabled = false →
        exec (.marginLow t m) s = .next s ∧ ∀ held, exec (.marginRecover t m held) s = .next s)
    ∧ (∀ (t : Slot) (m : Margins), (s.tile t.val).enabled = true →
        (m.least < 8 → Ends (.marginLow t m) s fun s' => s'.margin t.val = m.least
          ∧ ((s'.tile t.val).safe = true ∨ (s'.tile t.val).enabled = false)
          ∧ ((s.tile t.val).safe = true → s'.tile t.val = s.tile t.val)
          ∧ ((s.tile t.val).safe = false → s'.recorder.marginLow = s.recorder.marginLow + 1))
        ∧ (8 ≤ m.least → Ends (.marginLow t m) s fun s' => s'.margin t.val = m.least
          ∧ (∀ u, u ≠ t.val → s'.margin u = s.margin u)
          ∧ { s' with power := s.power, recorder := s.recorder } = s)
        ∧ ∀ held, Ends (.marginRecover t m held) s fun s' => s'.margin t.val = m.least
          ∧ s'.tile t.val = (if 12 ≤ m.least ∧ 200 ≤ held then { s.tile t.val with safe := false } else s.tile t.val)
          ∧ (∀ u, u ≠ t.val → s'.margin u = s.margin u)
          ∧ OnlyTile { s with power := s'.power, recorder := s'.recorder } s' t)

namespace Sys2Proof.Claims

/-- A descriptor that had no answer yet has this one now, with whatever MSTAT flags its job set. -/
def AnsweredBy (s s' : State) (j : JobId) (a : Answer) : Prop :=
  ∀ d, s.openDesc j = some d → ∃ d' b, s'.desc j = some d' ∧ d'.answer = some b ∧ { b with mstat := a.mstat } = a

/-- The input of an operation verifies (R302, R338, R341): with its key pinned the state is `s2`, its plaintext `p`. -/
def Opened (s : State) (j : JobId) (d : Desc) (inp : Sealed) (s2 : State) (p : List Byte) : Prop :=
  s.headerFails d (s.inputOf d inp) = none ∧ s2.readInput d (s.inputOf d inp) = .inr p
    ∧ ∃ s1 tags, s.pinKeys [objKey (s.inputOf d inp).hdr] = some (s1, tags)
      ∧ s2 = s1.onDesc j fun e => { e with hold := some (opHold (descOp d.bytes) tags) }

/-- No plan changes. -/
def SamePlans (s s' : State) : Prop := s'.plans = s.plans

end Sys2Proof.Claims

/-- Plans and quotes by descriptor (R185, R191 to R193, R310, R342). A load that fails a check is rejected with its code,
counted and shown; one that passes stores the file under a number no plan had, near memory first; a file already loaded
answers its number. An unload takes the plan, its roles and its resident sets away, unless it is in use. LOADED_PLANS lists
numbers and digests in order. Quotes wait in a queue of sixteen. -/
def Sys2Proof.Claims.AdminOperations : Prop :=
  ∀ (s : State) (c : Chan) (i : BitVec 16),
    let j : JobId := (c.val, i.toNat)
    (∀ (x : Instr × Nat), ((∃ inp, x = (.planLoad c i inp, 0x10)) ∨ x = (.planUnload c i, 0x11) ∨ x = (.loadedPlans c i, 0x14)
          ∨ (∃ ch, x = (.quote c i ch, 0x13))) → s.opDesc j 3 x.2 = none → exec x.1 s = .next s)
    ∧ (∀ d inp, s.opDesc j 3 0x10 = some d →
        (∀ st, s.headerFails d (s.inputOf d inp) = some st → Ends (.planLoad c i inp) s fun s' =>
          AnsweredBy s s' j (Answer.of st) ∧ SamePlans s s')
        ∧ (∀ s2 f e, Opened s j d inp s2 f → checkFormat f = some e → Ends (.planLoad c i inp) s fun s' =>
          AnsweredBy s s' j { Answer.of St.loadRejected with count0 := e.1, detail := e.2.toNat } ∧ SamePlans s s'
            ∧ s'.get K.lastLoadStatus = e.1 ∧ s'.get K.lastLoadDetail = e.2.toNat ∧ Counted s s' K.loadRejectCount 1)
        ∧ (∀ s2 f, Opened s j d inp s2 f → checkFormat f = none → Config.sm3 (digestBody f) ≠ planDigest f →
          Ends (.planLoad c i inp) s fun s' =>
            AnsweredBy s s' j { Answer.of St.loadRejected with count0 := 2 } ∧ SamePlans s s' ∧ s'.get K.lastLoadStatus = 2)
        ∧ (∀ s2 f p, Opened s j d inp s2 f → checkFormat f = none → Config.sm3 (digestBody f) = planDigest f →
          (s.plans.find? fun q => planDigest q.file = planDigest f) = some p → Ends (.planLoad c i inp) s fun s' =>
            AnsweredBy s s' j { Answer.of St.ok with count0 := p.num } ∧ SamePlans s s')
        ∧ (∀ s2 f, Opened s j d inp s2 f → checkFormat f = none → Config.sm3 (digestBody f) = planDigest f →
          (∀ q ∈ s.plans, planDigest q.file ≠ planDigest f) → checkPlan f s.licTuning s.smallestRing = none →
          s.freePlans ≠ [] → s.libraryUsed false + planBytes f ≤ nearLibrary → Ends (.planLoad c i inp) s fun s' =>
            ∃ p, s'.plans = s.plans ++ [p] ∧ p.file = f ∧ p.far = false ∧ 1 ≤ p.num ∧ p.num ≤ 1024 ∧ s.plan p.num = none
              ∧ AnsweredBy s s' j { Answer.of St.ok with count0 := p.num } ∧ s'.get K.lastLoadStatus = 0
              ∧ (s.get K.priorityClassState = 0 → s'.get K.priorityClassState = 1)))
    ∧ (∀ d, s.opDesc j 3 0x11 = some d →
        let n := arg d.bytes 0 2
        (s.plan n = none → Ends (.planUnload c i) s fun s' => AnsweredBy s s' j (Answer.of St.planUnknown) ∧ SamePlans s s')
        ∧ (s.plan n ≠ none → s.planInUse n = true → Ends (.planUnload c i) s fun s' =>
            AnsweredBy s s' j (Answer.of St.planBusy) ∧ SamePlans s s')
        ∧ (s.plan n ≠ none → s.planInUse n = false → Ends (.planUnload c i) s fun s' =>
            AnsweredBy s s' j (Answer.of St.ok) ∧ s'.plans = s.plans.filter (fun p => p.num ≠ n)
              ∧ (n ≠ 0 → (∀ r ∈ allRoles, s'.get (K.rolePlan r) ≠ n)
                ∧ ∀ st, st < 48 → (s'.strand st).resA ≠ n ∧ (s'.strand st).resB ≠ n)))
    ∧ (∀ d, s.opDesc j 3 0x14 = some d →
        let l := s.plansInOrder.flatMap fun p => leBytes 2 p.num ++ digestBytes p.file
        (l.length ≤ descOutCap d.bytes → Ends (.loadedPlans c i) s fun s' =>
          AnsweredBy s s' j { Answer.of St.ok with out := l, outLen := l.length })
        ∧ (descOutCap d.bytes < l.length → Ends (.loadedPlans c i) s fun s' =>
          AnsweredBy s s' j { Answer.of St.outTooSmall with outLen := l.length }))
    ∧ ∀ d ch, s.opDesc j 3 0x13 = some d →
        (16 ≤ s.vault.quotes.length → Ends (.quote c i ch) s fun s' =>
          AnsweredBy s s' j (Answer.of St.quoteBusy) ∧ s'.vault.quotes = s.vault.quotes)
        ∧ (s.vault.quotes.length < 16 → Ends (.quote c i ch) s fun s' =>
          s'.vault.quotes = s.vault.quotes ++ [(true, c.val * 65536 + i.toNat, ch)] ∧ SamePlans s s'
            ∧ ∃ d', s'.desc j = some d' ∧ d'.hold.isSome = true ∧ d'.answer = none)

/-- The raw operations (R352, R353, R426 to R428, R600). TILE_LOAD takes only a stage of a strand the channel claims,
rejects a segment that fails a check, and otherwise restarts the tile at its START; INJECT sends one message; windows open
under a number that was free, close once, and are read and written within their size; FABRIC_PACKET names an endpoint. -/
def Sys2Proof.Claims.RawOperations : Prop :=
  ∀ (s : State) (c : Chan) (i : BitVec 16),
    let j : JobId := (c.val, i.toNat)
    (∀ (x : Instr × Nat), ((∃ inp, x = (.tileLoad c i inp, 0x20) ∨ x = (.inject c i inp, 0x21) ∨ x = (.windowWrite c i inp, 0x25)
          ∨ x = (.fabricPacket c i inp, 0x26)) ∨ x = (.windowOpen c i, 0x22) ∨ x = (.windowClose c i, 0x23)
          ∨ x = (.windowRead c i, 0x24)) → s.opDesc j 2 x.2 = none → exec x.1 s = .next s)
    ∧ (∀ d inp, s.opDesc j 2 0x20 = some d →
        ((∀ t, slotOfCode (arg d.bytes 0 2) = some t → s.loadable c.val t = false) → Ends (.tileLoad c i inp) s fun s' =>
          AnsweredBy s s' j (Answer.of St.opNotPermitted) ∧ s'.tiles = s.tiles)
        ∧ (∀ t s2 seg, slotOfCode (arg d.bytes 0 2) = some t → s.loadable c.val t = true → Opened s j d inp s2 seg →
          let st := s.strandOf t
          (∀ e, (s.tile t).checkSegment st (s.stageSlots st).length seg = some e → Ends (.tileLoad c i inp) s fun s' =>
            AnsweredBy s s' j { Answer.of St.loadRejected with count0 := e.1, detail := e.2.toNat } ∧ s'.tiles = s.tiles)
          ∧ ((s.tile t).checkSegment st (s.stageSlots st).length seg = none → Ends (.tileLoad c i inp) s fun s' =>
            StartsAt (s'.tile t) ((((recsOf seg).filter fun r => r.typ = 15).getLast?.map (·.target)).getD 0)
              ∧ (t, j) ∈ (s'.strand st).rawLoads)))
    ∧ (∀ d inp s2 p, s.opDesc j 2 0x21 = some d → Opened s j d inp s2 p →
        let h := injectHeader d.bytes p.length
        ((if h.cnet then 256 else 4096) < p.length → Ends (.inject c i inp) s fun s' =>
          AnsweredBy s s' j (Answer.of St.descFormat) ∧ s'.net = s.net)
        ∧ (p.length ≤ (if h.cnet then 256 else 4096) → Ends (.inject c i inp) s fun s' =>
          ∃ u, s'.net = { s.net with nodeSends := s.net.nodeSends
            ++ [⟨⟨{ h with priUsed := u }, p, false⟩, false, true, some j, none, 0, 0,
              h.priReq && decide (s.get K.priorityClassState = 1)⟩] }
            ∧ (u = true → h.priReq = true ∧ (s.get K.priorityClassState = 0 ∨ s.get K.priorityClassState = 3))))
    ∧ (∀ d, s.opDesc j 2 0x22 = some d →
        (openArgsOk d.bytes = false → Ends (.windowOpen c i) s fun s' =>
          AnsweredBy s s' j (Answer.of St.windowArgs) ∧ s'.fabric = s.fabric)
        ∧ (openArgsOk d.bytes = true → arg d.bytes 0 1 = 2 →
            windowRegionOk (arg d.bytes 8 4 * 256) (arg d.bytes 12 4 * 256) = false → Ends (.windowOpen c i) s fun s' =>
          AnsweredBy s s' j (Answer.of St.windowRegion) ∧ s'.fabric = s.fabric)
        ∧ (openArgsOk d.bytes = true → arg d.bytes 0 1 = 2 →
            windowRegionOk (arg d.bytes 8 4 * 256) (arg d.bytes 12 4 * 256) = true →
            (∃ w, w < 256 ∧ (s.window w).state = 0 ∧ (s.window w).freedAt = none) → Ends (.windowOpen c i) s fun s' =>
          ∃ w, w < 256 ∧ (s.window w).state = 0 ∧ (s.window w).freedAt = none
            ∧ s'.window w = openWindow d.bytes 0 0 ∧ (∀ x, x ≠ w → s'.window x = s.window x)
            ∧ AnsweredBy s s' j { Answer.of St.ok with count0 := w } ∧ s'.tiles = s.tiles)
        ∧ (openArgsOk d.bytes = true → arg d.bytes 0 1 = 2 →
            windowRegionOk (arg d.bytes 8 4 * 256) (arg d.bytes 12 4 * 256) = true →
            (∀ w, w < 256 → (s.window w).state ≠ 0 ∨ (s.window w).freedAt ≠ none) → Ends (.windowOpen c i) s fun s' =>
          AnsweredBy s s' j (Answer.of St.windowLimit) ∧ s'.fabric = s.fabric)
        ∧ ∀ t, openArgsOk d.bytes = true → arg d.bytes 0 1 = 1 → slotOfCode (arg d.bytes 4 2) = some t →
          let x := s.tile t
          let base := arg d.bytes 8 4
          let size := arg d.bytes 12 4
          ((x.freeWinSlot = none ∨ x.windowMeets base size = true ∨ rangeMapped x.pad.bankOk base size = false) →
            Ends (.windowOpen c i) s fun s' => AnsweredBy s s' j (Answer.of St.windowNoSlot) ∧ s'.fabric = s.fabric
              ∧ s'.tiles = s.tiles)
          ∧ (∀ k, x.freeWinSlot = some k → x.windowMeets base size = false → rangeMapped x.pad.bankOk base size = true →
              (∃ w, w < 256 ∧ (s.window w).state = 0 ∧ (s.window w).freedAt = none) → Ends (.windowOpen c i) s fun s' =>
            ∃ w, w < 256 ∧ (s.window w).state = 0 ∧ (s.window w).freedAt = none
              ∧ s'.window w = openWindow d.bytes t k ∧ (∀ y, y ≠ w → s'.window y = s.window y)
              ∧ AnsweredBy s s' j { Answer.of St.ok with count0 := w }
              ∧ s'.tile t = x.setWinSlot k ⟨base / 64, (base + size - 1) / 64, true, false, w⟩
              ∧ ∀ y, y ≠ t → s'.tile y = s.tile y))
    ∧ (∀ d, s.opDesc j 2 0x23 = some d →
        (256 ≤ arg d.bytes 0 2 → Ends (.windowClose c i) s fun s' => AnsweredBy s s' j (Answer.of St.windowArgs))
        ∧ (arg d.bytes 0 2 < 256 → (s.window (arg d.bytes 0 2)).state ≠ 1 → Ends (.windowClose c i) s fun s' =>
          AnsweredBy s s' j (Answer.of St.windowUnknown) ∧ s'.fabric = s.fabric)
        ∧ (arg d.bytes 0 2 < 256 → (s.window (arg d.bytes 0 2)).state = 1 → (s.window (arg d.bytes 0 2)).scope = 1 →
            s.fabric.epochPhase ≠ .none → Ends (.windowClose c i) s fun s' =>
          (s'.window (arg d.bytes 0 2)).state = 2 ∧ (s'.window (arg d.bytes 0 2)).owner = some j
            ∧ (s'.window (arg d.bytes 0 2)).waitAck = [(s.window (arg d.bytes 0 2)).peer])
        ∧ (arg d.bytes 0 2 < 256 → (s.window (arg d.bytes 0 2)).state = 1 →
            s.scopeEndpoints (s.window (arg d.bytes 0 2)) = [] → Ends (.windowClose c i) s fun s' =>
          AnsweredBy s s' j (Answer.of St.ok)
            ∧ s'.window (arg d.bytes 0 2) = { Window.closed with freedAt := some s.timeBase }))
    ∧ (∀ d, s.opDesc j 2 0x24 = some d →
        let v := s.window (arg d.bytes 0 2)
        let len := arg d.bytes 8 4
        ((256 ≤ arg d.bytes 0 2 ∨ len % 64 ≠ 0 ∨ len < 64 ∨ 268435456 < len) → Ends (.windowRead c i) s fun s' =>
          AnsweredBy s s' j (Answer.of St.windowArgs))
        ∧ (arg d.bytes 0 2 < 256 → len % 64 = 0 → 64 ≤ len → len ≤ 268435456 →
          (v.state ≠ 1 → Ends (.windowRead c i) s fun s' => AnsweredBy s s' j (Answer.of St.windowUnknown))
          ∧ (v.state = 1 → v.bytes < arg d.bytes 4 4 * 64 + len → Ends (.windowRead c i) s fun s' =>
            AnsweredBy s s' j (Answer.of St.windowRange))
          ∧ (v.state = 1 → arg d.bytes 4 4 * 64 + len ≤ v.bytes → s.keyFails (entIndexKey d.entry) 2 = none →
            (∀ line, s.windowPoisoned v (arg d.bytes 4 4 * 64) len = some line → Ends (.windowRead c i) s fun s' =>
              AnsweredBy s s' j (Answer.of St.memUncorrectable) ∧ Counted s s' K.eccUncorrectableCount 1))
          ∧ (v.state = 1 → arg d.bytes 4 4 * 64 + len ≤ v.bytes → s.keyFails (entIndexKey d.entry) 2 = none →
            s.windowPoisoned v (arg d.bytes 4 4 * 64) len = none → (s.pinKeys [entIndexKey d.entry]).isSome = true →
            Ends (.windowRead c i) s fun s' => ∃ d' h, s'.desc j = some d' ∧ d'.hold = some h
              ∧ h.toSeal = [⟨0x80, descRef d.bytes, s.windowBytes v (arg d.bytes 4 4 * 64) len⟩]
              ∧ h.result = some (Answer.of St.ok))))
    ∧ (∀ d inp s2 p, s.opDesc j 2 0x25 = some d → Opened s j d inp s2 p → arg d.bytes 0 2 < 256 →
        let v := s.window (arg d.bytes 0 2)
        let off := arg d.bytes 4 4 * 64
        (p.length % 64 ≠ 0 → Ends (.windowWrite c i inp) s fun s' => AnsweredBy s s' j (Answer.of St.windowArgs) ∧ s'.mem = s.mem)
        ∧ (p.length % 64 = 0 → v.state = 0 → Ends (.windowWrite c i inp) s fun s' =>
          AnsweredBy s s' j (Answer.of St.windowClosed) ∧ s'.mem = s.mem)
        ∧ (p.length % 64 = 0 → v.state ≠ 0 → v.bytes < off + p.length → Ends (.windowWrite c i inp) s fun s' =>
          AnsweredBy s s' j (Answer.of St.windowRange) ∧ s'.mem = s.mem)
        ∧ (p.length % 64 = 0 → v.state ≠ 0 → off + p.length ≤ v.bytes → v.kind ≠ 1 → Ends (.windowWrite c i inp) s fun s' =>
          AnsweredBy s s' j (Answer.of St.ok)
            ∧ (∀ k, k < p.length → s'.memByte (v.base * 256 + off + k) = p.getD k 0)
            ∧ (∀ a, (a < v.base * 256 + off ∨ v.base * 256 + off + p.length ≤ a) → s'.memByte a = s.memByte a))
        ∧ (p.length % 64 = 0 → v.state ≠ 0 → off + p.length ≤ v.bytes → v.kind = 1 → Ends (.windowWrite c i inp) s fun s' =>
          AnsweredBy s s' j (Answer.of St.ok) ∧ s'.mem = s.mem
            ∧ s'.tile v.slot = (s.tile v.slot).land (v.base + off) p ∧ ∀ y, y ≠ v.slot → s'.tile y = s.tile y))
    ∧ (∀ d inp, s.opDesc j 2 0x26 = some d →
        ((arg d.bytes 0 2 = 0 ∨ 4096 < arg d.bytes 0 2) → Ends (.fabricPacket c i inp) s fun s' =>
          AnsweredBy s s' j (Answer.of St.descFormat) ∧ s'.fabric = s.fabric)
        ∧ (∀ s2 p, 1 ≤ arg d.bytes 0 2 → arg d.bytes 0 2 ≤ 4096 →
            s.storeRoom (arg d.bytes 0 2) (arg d.bytes 2 2 + fld (arg d.bytes 4 1) 10 2 + fld 2 13 3) 1024 = true →
            Opened s j d inp s2 p →
          (1024 < p.length → Ends (.fabricPacket c i inp) s fun s' =>
            AnsweredBy s s' j (Answer.of St.descFormat) ∧ s'.fabric = s.fabric)
          ∧ (p.length ≤ 1024 → s.fabric.epochPhase ≠ .none → Ends (.fabricPacket c i inp) s fun s' =>
            ∃ t, s'.fabric.transfers = s.fabric.transfers ++ [t] ∧ t.dst.toNat = arg d.bytes 0 2 ∧ t.owner = .raw j
              ∧ t.packets.map (·.payload) = [p] ∧ t.sent = false ∧ { s'.fabric with
                transfers := s.fabric.transfers, nextSeq := s.fabric.nextSeq } = s.fabric)
          ∧ (p.length ≤ 1024 → s.fabric.epochPhase = .none → s.fabric.transfers = [] → s.fabric.closes = [] →
            routeValid (s.route (arg d.bytes 0 2)) = false → Ends (.fabricPacket c i inp) s fun s' =>
            AnsweredBy s s' j (rawOutcome 0x22) ∧ s'.fabric.transfers = [])))

namespace Sys2Proof.Claims

/-- What a job holds in flight. -/
def Holds (s : State) (j : JobId) (P : JobHold → Prop) : Prop :=
  ∃ d h, s.desc j = some d ∧ d.answer = none ∧ d.hold = some h ∧ P h

/-- The job's result waits to be sealed: one item of a kind with this plaintext (R304). -/
def Sealing (s : State) (j : JobId) (kind ref : Nat) (plain : List Byte) (count0 count1 : Nat) : Prop :=
  Holds s j fun h => h.toSeal = [⟨kind, ref, plain⟩]
    ∧ h.result = some { Answer.of St.ok with count0 := count0, count1 := count1 }

/-- `n` bytes from `a` on lie in the object buffers outside the apertures, and in no buffer that a job holds (R257, R261). -/
def BufferFree (s : State) (n a : Nat) : Prop :=
  objectBuffers.1 ≤ a ∧ a + n ≤ objectBuffers.1 + objectBuffers.2
    ∧ ∀ p ∈ s.host.channels, ∀ d ∈ p.2.fly, ∀ h, d.hold = some h → h.reserve = 0 ∨ a + n ≤ h.buf ∨ h.buf + h.reserve ≤ a

/-- A service job that is fetched and may be admitted now (R362). -/
def AtAdmission (s : State) (j : JobId) (d : Desc) : Prop :=
  s.openDesc j = some d ∧ d.service = true ∧ s.ready = true ∧ d.hold = none ∧ s.host.d3 = false ∧ s.inOrder j d = true

end Sys2Proof.Claims

/-- Admission of service jobs and their sequences (R194, R359 to R364). The checks stand in their order, each with its status;
a job that passes takes its number, plans and pinned keys; a sequence over its plan's shape ends the job, and one that a
free strand takes begins its priming there. -/
def Obligations.JobAdmission : Prop :=
  ∀ (s : State) (c : Chan) (i : BitVec 16) (inp : Sealed) (st : StrandId) (role : Byte) (shape : List Nat) (part pass : BitVec 16),
    let j : JobId := (c.val, i.toNat)
    let x : Instr := .jobAdmit c i inp st role shape part pass
    ((s.openDesc j = none ∨ s.ready = false) → exec x s = .next s)
    ∧ (∀ d, AtAdmission s j d →
        let svc := entService d.entry
        (s.revoked = true → Ends x s fun s' => AnsweredBy s s' j (Answer.of St.identityRevoked))
        ∧ (s.revoked = false → argsOk svc d.bytes (entPlan d.entry) = false → Ends x s fun s' =>
            AnsweredBy s s' j (Answer.of St.argsFormat))
        ∧ (s.revoked = false → argsOk svc d.bytes (entPlan d.entry) = true →
          (∀ e, s.jobPlans svc (entPlan d.entry) d.bytes = .inl e → Ends x s fun s' => AnsweredBy s s' j (Answer.of e))
          ∧ (∀ l, s.jobPlans svc (entPlan d.entry) d.bytes = .inr l →
            ((∃ p ∈ l, s.noCheckQueue p.2 = true) → Ends x s fun s' =>
              AnsweredBy s s' j { Answer.of St.planRole with detail := 13 })
            ∧ ((∀ p ∈ l, s.noCheckQueue p.2 = false) →
              (∀ e, (s.inputFails d inp <|> s.shardFails svc d.bytes) = some e → Ends x s fun s' =>
                AnsweredBy s s' j (Answer.of e))
              ∧ (s.inputFails d inp = none → s.shardFails svc d.bytes = none → s.reserved + jobReserve d inp ≤ bufferBytes →
                ∀ s1 tags, s.pinKeys (jobKeys d inp) = some (s1, tags) → Ends x s fun s' =>
                  Holds s' j (fun h => h.service = svc ∧ h.plans = l ∧ h.keys = tags ∧ h.number = s.host.jobs + 1
                    ∧ h.reserve = jobReserve d inp ∧ h.strands = [] ∧ h.result = none
                    ∧ ((∃ a, BufferFree s h.reserve a) → BufferFree s h.reserve h.buf))
                  ∧ s'.host.jobs = s.host.jobs + 1 ∧ s'.vault = s1.vault)))))
    ∧ ∀ d h p, s.openDesc j = some d → d.service = true → s.ready = true → d.hold = some h →
        (∀ r ∈ s.check.readmits, r.job ≠ j) → h.result = none → h.service ≠ 7 →
        (h.plans.find? fun q => q.1 = 0 || q.1 = role.toNat) = some p →
        (shapeOver (s.planFile p.2) shape = true → Ends x s fun s' =>
          Answered s s' j St.shapeOverPlan ∧ Counted s s' K.shapeOverPlanCount 1)
        ∧ (shapeOver (s.planFile p.2) shape = false → shapeZero (s.planFile p.2) shape = false →
          (s.admits = false → exec x s = .next s)
          ∧ (s.admits = true → s.mayQueue st.val p.2 = false → (s.strand (st.val / 2 * 2)).fused = none →
            (s.strand st.val).free = true → s.strandFits st.val p.2 = true → s.storesTested st.val = true →
            s.roomFor (planWeight (s.planFile p.2)) = true → s.shadows p.2 = false → Ends x s fun s' =>
              let w := s'.strand st.val
              w.phase = .priming ∧ w.job = some j ∧ w.plan = p.2 ∧ w.shape = shape ∧ w.place = (part.toNat, pass.toNat)
                ∧ w.primed = 0 ∧ w.epoch = 0 ∧ OnlyStrand s s' st.val ∧ Holds s' j fun h' => st.val ∈ h'.strands))

/-- Segments in and envelopes out (R300 to R306, R341). The next segment is taken only in its turn, ends the job with its
status where it fails, and otherwise puts its plaintext into the job's far-tier buffer, by whole lines; a sealed item takes
the next counter value, and the last one gives the job its output. A segment, an envelope and a packet that were sealed open
to what was sealed, and an envelope's header names its length and counter. -/
def Sys2Proof.Claims.SealedPath : Prop :=
  (∀ (key h plain : List Byte) (i : Nat), plain.length = segBytes h i →
      openSegment key h i (sealSegment key h i plain) = some plain)
  ∧ (∀ (k : VKey) (ctr : Nat) (y : SealItem), y.plain.length < 2 ^ 32 →
      let w := envelope k ctr y
      let e : Envelope := ⟨w.take 64, w.drop 64⟩
      w.length = 80 + y.plain.length ∧ openEnvelope (keyBytes k.blob) e = some y.plain ∧ envLen e.hdr = y.plain.length
        ∧ (ctr < 2 ^ 48 → leAt e.hdr 30 6 = ctr) ∧ (k.id < 2 ^ 64 → envKey e.hdr = k.id)
        ∧ ((k.alg = 1 ∨ k.alg = 2) → envHeaderOk e.hdr = true))
  ∧ (∀ (key : List Byte) (p : Packet), (p.seal key).unseal key = some { p with tag := [] })
  ∧ ∀ (s : State) (c : Chan) (i : BitVec 16),
    let j : JobId := (c.val, i.toNat)
    (∀ seg body tag er, s.openDesc j = none → exec (.ingestSegment c i seg body tag er) s = .next s)
    ∧ (∀ d h seg body tag er, s.openDesc j = some d → d.hold = some h → d.service = true → s.ready = true → s.host.d3 = false →
        let wire := body ++ leBytes 16 (tag : BitVec 128).toNat
        ((seg ≠ h.segs ∨ h.nsegs ≤ h.segs) → exec (.ingestSegment c i seg body tag er) s = .next s)
        ∧ (seg = h.segs → h.segs < h.nsegs →
          (er = true → Ends (.ingestSegment c i seg body tag er) s fun s' => Answered s s' j St.hostDmaError)
          ∧ (er = false → (h.keys[1]?).bind s.keyByHandle = none →
            Ends (.ingestSegment c i seg body tag er) s fun s' => Answered s s' j St.keyHandleStale)
          ∧ (∀ k, er = false → (h.keys[1]?).bind s.keyByHandle = some k →
            (descInLen d.bytes < segEnd h.hdr h.segs →
              Ends (.ingestSegment c i seg body tag er) s fun s' => Answered s s' j St.ingestTruncated)
            ∧ (segEnd h.hdr h.segs ≤ descInLen d.bytes → openSegment (keyBytes k.blob) h.hdr h.segs wire = none →
              Ends (.ingestSegment c i seg body tag er) s fun s' =>
                Answered s s' j St.ingestAuth ∧ Counted s s' K.ingestAuthFailures 1)
            ∧ (∀ p, segEnd h.hdr h.segs ≤ descInLen d.bytes → openSegment (keyBytes k.blob) h.hdr h.segs wire = some p →
              Ends (.ingestSegment c i seg body tag er) s fun s' =>
                let a := h.buf + h.segs * 2 ^ objShift h.hdr
                Holds s' j (fun h' => h'.segs = h.segs + 1 ∧ h'.plain = h.plain ++ p)
                  ∧ (∀ n, n < p.length → s'.memByte (a + n) = p.getD n 0)
                  ∧ (∀ n, (n < a ∨ a + roundUp p.length 64 ≤ n) → s'.memByte n = s.memByte n)
                  ∧ { s' with host := s.host, mem := s.mem, freeCount := s.freeCount } = s))))
    ∧ (∀ d h, s.openDesc j = some d → d.hold = some h →
        ((h.toSeal = [] ∨ s.revoked = true ∨ s.ready = false ∨ s.vault.maySeal = false) →
          exec (.sealEnvelope c i) s = .next s)
        ∧ (∀ y l k, h.toSeal = y :: l → s.revoked = false → s.ready = true → s.vault.maySeal = true →
          (h.keys.head?).bind s.keyByHandle = some k →
          let out := h.envelopes ++ envelope k s.vault.sealCtr y
          Ends (.sealEnvelope c i) s fun s' =>
            s'.vault = { s.vault with sealCtr := s.vault.sealCtr + 1 }
              ∧ (l ≠ [] → Holds s' j fun h' => h'.toSeal = l ∧ h'.envelopes = out)
              ∧ (∀ a, l = [] → h.result = some a → out.length ≤ descOutCap d.bytes →
                  AnsweredBy s s' j { a with out := out, outLen := out.length })
              ∧ (∀ a, l = [] → h.result = some a → descOutCap d.bytes < out.length →
                  AnsweredBy s s' j { a with status := St.outTooSmall, out := [], outLen := out.length }))
        ∧ (h.toSeal ≠ [] → s.revoked = false → s.ready = true → s.vault.maySeal = true →
          (h.keys.head?).bind s.keyByHandle = none → Ends (.sealEnvelope c i) s fun s' => Answered s s' j St.keyHandleStale))
    ∧ (s.openDesc j = none → exec (.sealEnvelope c i) s = .next s)

/-- What extraction yields, cut up (R368, R369). Splitting a text into segments loses nothing; a part's passages hold all its
tokens or frames, each passage at most as many as a whole one; the sequences over a passage hold all its chunks, none of them
beyond the plan's shape; an image keeps its size where it fits, and fits once scaled. -/
def Sys2Proof.Claims.Passages : Prop :=
  (∀ l : List Nat, (segmentsFrom ⟨.other, .other, .other, false⟩ [] l).flatten = l)
  ∧ (∀ part modality n per : Nat, 1 ≤ per →
      total ((cutUnits part modality n per).map (·.units)) = n
        ∧ ∀ p ∈ cutUnits part modality n per, p.part = part ∧ p.modality = modality ∧ 1 ≤ p.units ∧ p.units ≤ per)
  ∧ (∀ (f : List Byte) (n : Nat), 1 ≤ planShapeMax f 0 → 1 ≤ planShapeMax f 1 →
      total ((unitShapes f n).map fun l => (l.getD 0 0 - 1) * planShapeMax f 1 + l.getD 1 0) = n
        ∧ ∀ l ∈ unitShapes f n, 1 ≤ l.getD 0 0 ∧ l.getD 0 0 ≤ planShapeMax f 0 ∧ 1 ≤ l.getD 1 0 ∧ l.getD 1 0 ≤ planShapeMax f 1)
  ∧ ∀ w h mw mh : Nat, 1 ≤ w → 1 ≤ h → 1 ≤ mw → 1 ≤ mh →
      let r := scaleImage w h mw mh
      1 ≤ r.1 ∧ r.1 ≤ mw ∧ 1 ≤ r.2 ∧ r.2 ≤ mh ∧ (w ≤ mw → h ≤ mh → r = (w, h)) ∧ (r ≠ (w, h) → r.1 = mw ∨ r.2 = mh)

/-- The services that return a record, and REKEY (R366 to R378, R388). Each waits until the sequences over every passage that
it computes are over, ends with the status of what fails, and otherwise leaves its record, of its kind, to be sealed with the
counts of what it holds. Where the spec leaves the order of NaN scores open, `top` is free. -/
def Sys2Proof.Claims.IndexServices : Prop :=
  ∀ (s : State) (c : Chan) (i : BitVec 16) (e : Extract),
    let j : JobId := (c.val, i.toNat)
    (∀ x : Instr × Nat, (x = (.ingestIndex c i e, 1) ∨ x = (.embed c i e, 2) ∨ x = (.classify c i e, 3) ∨ x = (.nearDup c i e, 4)
          ∨ ∃ l, x = (.rekey c i l, 6)) → s.svcJob j x.2 = none → exec x.1 s = .next s)
    ∧ (∀ d h, s.svcJob j 1 = some (d, h) →
        let l := s.jobPieces d h e
        (((∃ q ∈ s.ingestRuns d h l, q ∉ h.seqs) ∨ ∃ q ∈ h.seqs, q ∉ s.ingestRuns d h l) →
          exec (.ingestIndex c i e) s = .next s)
        ∧ ((∀ q, q ∈ h.seqs ↔ q ∈ s.ingestRuns d h l) →
            vectorsOf ((ingestVectors d h l).take (maxVectors (arg d.bytes 2 2))) e.vectors = true →
            e.languages.length = (if h.has 2 then (textPieces l).length else 0) →
          ((∃ p ∈ e.vectors, s.dimDiffers p.elems.length = true) → Ends (.ingestIndex c i e) s fun s' =>
            Answered s s' j St.dimMismatch)
          ∧ ((∀ p ∈ e.vectors, s.dimDiffers p.elems.length = false) → Ends (.ingestIndex c i e) s fun s' =>
            ∃ top, let r := s.ingestRecord d h e top
              Sealing s' j 1 (descRef d.bytes) r.1 r.2.1 r.2.2
                ∧ r.2.1 = min (maxVectors (arg d.bytes 2 2)) (ingestVectors d h l).length)))
    ∧ (∀ d h, s.svcJob j 2 = some (d, h) →
        let l := s.jobPieces d h e
        (e.suits = false → Ends (.embed c i e) s fun s' => Answered s s' j St.mediaUnsupported)
        ∧ (e.suits = true → e.malformed = true → Ends (.embed c i e) s fun s' => Answered s s' j St.extractFault)
        ∧ (e.suits = true → e.malformed = false → l = [] → h.ran = [] → Ends (.embed c i e) s fun s' =>
            Answered s s' j St.okEmpty)
        ∧ (e.suits = true → e.malformed = false → l ≠ [] → (∀ p ∈ l, p.modality = arg d.bytes 4 1) →
            (∀ q, q ∈ h.seqs ↔ ∃ p ∈ l.take (maxVectors (arg d.bytes 2 2)), q ∈ s.runs h (2 + arg d.bytes 4 1) p) →
            vectorsOf (l.take (maxVectors (arg d.bytes 2 2))) e.vectors = true →
          ((∃ p ∈ e.vectors, s.dimDiffers p.elems.length = true) → Ends (.embed c i e) s fun s' =>
            Answered s s' j St.dimMismatch)
          ∧ ((∀ p ∈ e.vectors, s.dimDiffers p.elems.length = false) → Ends (.embed c i e) s fun s' =>
            let r := s.embedRecord d h e
            Sealing s' j 2 (descRef d.bytes) r.1 r.2 0 ∧ r.2 = min (maxVectors (arg d.bytes 2 2)) l.length)))
    ∧ (∀ d h, s.svcJob j 3 = some (d, h) →
        let l := s.jobPieces d h e
        (e.suits = false → Ends (.classify c i e) s fun s' => Answered s s' j St.mediaUnsupported)
        ∧ (e.suits = true → e.malformed = true → Ends (.classify c i e) s fun s' => Answered s s' j St.extractFault)
        ∧ (e.suits = true → e.malformed = false → l = [] → h.ran = [] → Ends (.classify c i e) s fun s' =>
            Answered s s' j St.okEmpty)
        ∧ (e.suits = true → e.malformed = false → l ≠ [] → (∀ p ∈ l, p.modality = 1) →
            (∀ q, q ∈ h.seqs ↔ ∃ r ∈ classifyRoles d, ∃ p ∈ l, q ∈ s.runs h r p) → Ends (.classify c i e) s fun s' =>
          ∃ free top, let ls := classifyLabels d free top e
            Sealing s' j 3 (descRef d.bytes) (indexRecord ⟨2 * b2n e.limit, descRef d.bytes, objLen h.hdr, 0, 0, 0,
              s.modelDigest h⟩ [labelSection ls]) ls.length 0))
    ∧ (∀ d h, s.svcJob j 4 = some (d, h) →
        let n := min (objLen h.hdr) (s.dupReach h)
        ((∀ q, q ∈ h.seqs ↔ q ∈ s.runsBytes h 6 n) → Ends (.nearDup c i e) s fun s' =>
          let ms := s.dupHits j d (padTo 64 e.neardup)
          Sealing s' j 4 (descRef d.bytes) (indexRecord ⟨8 * b2n (s.dupReach h < objLen h.hdr), descRef d.bytes, objLen h.hdr,
            0, 0, 0, s.modelDigest h⟩ [neardupSection (padTo 64 e.neardup), matchSection ms]) ms.length 0
            ∧ ∀ m ∈ ms, m.2 ≤ arg d.bytes 6 2)
        ∧ ((∃ q ∈ s.runsBytes h 6 n, q ∉ h.seqs) → exec (.nearDup c i e) s = .next s))
    ∧ ∀ d h l, s.svcJob j 6 = some (d, h) →
        ((h.keys[1]?).bind s.keyByHandle = none → Ends (.rekey c i l) s fun s' => Answered s s' j St.keyHandleStale)
        ∧ (∀ k, (h.keys[1]?).bind s.keyByHandle = some k →
          (∀ n st, firstBadEnv k (descInLen d.bytes) (l.take 65536) = some (n, st) → Ends (.rekey c i l) s fun s' =>
            AnsweredBy s s' j (envAnswer st n))
          ∧ (firstBadEnv k (descInLen d.bytes) (l.take 65536) = none → Ends (.rekey c i l) s fun s' =>
            Holds s' j fun h' => h'.toSeal = l.map (fun e => ⟨envKind e.hdr, envRef e.hdr, envPlain k e⟩)
              ∧ h'.result = some { Answer.of St.ok with count0 := l.length }))

/-- Shards and searches (R379 to R387). An append waits for earlier ones to its shard, is taken whole or not at all, and its
entries show only once its completion is committed; a shard that is absent or being appended to is not dropped; a query that
is malformed, names an absent shard or has another dimension ends with its status, a text query also without a plan, without
tokens, or over its plan's shape; a query whose vector is known joins the batch of each of its shards, and a batch whose window is over is scanned for every search in it. -/
def Obligations.Searches : Prop :=
  ∀ (s : State) (c : Chan) (i : BitVec 16),
    let j : JobId := (c.val, i.toNat)
    (∀ l, s.queryJob j 1 = none → exec (.shardAppend c i l) s = .next s)
    ∧ (s.queryJob j 2 = none → exec (.shardDrop c i) s = .next s)
    ∧ (∀ v, s.queryJob j 0 = none → exec (.search c i v) s = .next s)
    ∧ (∀ d h l, s.queryJob j 1 = some (d, h) →
        let n := arg d.bytes 1 1
        (s.appendAhead n h.number = true → exec (.shardAppend c i l) s = .next s)
        ∧ (s.appendAhead n h.number = false → (h.keys.head?).bind s.keyByHandle = none → Ends (.shardAppend c i l) s fun s' =>
            Answered s s' j St.keyHandleStale)
        ∧ (∀ k, s.appendAhead n h.number = false → (h.keys.head?).bind s.keyByHandle = some k →
            cutEnvelope (descInLen d.bytes) 0 l = none →
          (∀ m e, s.readAppend k s.shardRoom 0 ([], []) l = .inl (m, e) → Ends (.shardAppend c i l) s fun s' =>
            AnsweredBy s s' j (envAnswer e m))
          ∧ (∀ a x, s.readAppend k s.shardRoom 0 ([], []) l = .inr a → s.shards = [x] → x.num = n → x.dropped = false →
            Ends (.shardAppend c i l) s fun s' =>
              s'.shards = [{ x with pending := x.pending ++ [(j, a.1, a.2)] }]
                ∧ AnsweredBy s s' j { Answer.of St.ok with count0 := a.1.length, count1 := a.2.length })))
    ∧ (∀ d h, s.queryJob j 2 = some (d, h) →
        let n := arg d.bytes 1 1
        ((∀ x ∈ s.shards, x.num = n → x.made = true → x.dropped = true) → Ends (.shardDrop c i) s fun s' =>
          Answered s s' j St.shardUnknown)
        ∧ ((∃ x ∈ s.shards, x.num = n ∧ x.made = true ∧ x.dropped = false) →
          (s.appendsTo n = true → Ends (.shardDrop c i) s fun s' => Answered s s' j St.shardBusy)
          ∧ (s.appendsTo n = false → Ends (.shardDrop c i) s fun s' =>
            AnsweredBy s s' j (Answer.of St.ok) ∧ (∀ x ∈ s'.shards, x.num = n → x.dropped = true)
              ∧ ∀ x ∈ s.shards, x.num ≠ n → x.gone = false → x ∈ s'.shards)))
    ∧ (∀ d h v, s.queryJob j 0 = some (d, h) → h.query = none →
        let x : Instr := .search c i v
        let begun := fun (n : Nat) (scale : Word) (elems : List Byte) (s' : State) =>
          s'.batches = [⟨n, [j]⟩] ∧ Holds s' j fun h' =>
            h'.query = some ⟨leAt h.plain 6 2, queryCands h.plain, scale, elems, [n], [], 0⟩
        (queryOk h.plain = false → Ends x s fun s' => Answered s s' j St.queryFormat)
        ∧ (queryOk h.plain = true →
          ((∃ n ∈ queryShards h.plain, s.seen j n = none) → Ends x s fun s' => Answered s s' j St.shardUnknown)
          ∧ ((∀ n ∈ queryShards h.plain, s.seen j n ≠ none) → leAt h.plain 5 1 ≠ 1 →
            (s.dimDiffers (leAt h.plain 68 2) = true → Ends x s fun s' => Answered s s' j St.dimMismatch)
            ∧ (∀ n, s.dimDiffers (leAt h.plain 68 2) = false → queryShards h.plain = [n] → s.batches = [] →
              Ends x s (begun n (BitVec.ofNat 32 (leAt h.plain 64 4)) (slice h.plain 128 (leAt h.plain 68 2)))))
          ∧ ((∀ n ∈ queryShards h.plain, s.seen j n ≠ none) → leAt h.plain 5 1 = 1 →
            let r := if h.has 7 then 7 else 3
            (h.planOf r = none → Ends x s fun s' => Answered s s' j St.chainUnbound)
            ∧ ∀ p, h.planOf r = some p →
              (readUtf8 0 0 0 (h.plain.drop 64) = none → Ends x s fun s' => Answered s s' j St.queryFormat)
              ∧ ∀ l, readUtf8 0 0 0 (h.plain.drop 64) = some l →
                let n := (words l).length
                (n = 0 → h.ran = [] → Ends x s fun s' => Answered s s' j St.okEmpty)
                ∧ (n ≠ 0 → planShapeMax (s.planFile p) 0 < ceilDiv n (max 1 (planShapeMax (s.planFile p) 1)) →
                  Ends x s fun s' => Answered s s' j St.shapeOverPlan ∧ Counted s s' K.shapeOverPlanCount 1)
                ∧ (n ≠ 0 → ceilDiv n (max 1 (planShapeMax (s.planFile p) 1)) ≤ planShapeMax (s.planFile p) 0 →
                    (∀ q, q ∈ h.seqs ↔ q ∈ s.runsBytes h r n) →
                  (s.dimDiffers v.elems.length = true → Ends x s fun s' => Answered s s' j St.dimMismatch)
                  ∧ ∀ m, s.dimDiffers v.elems.length = false → queryShards h.plain = [m] → s.batches = [] →
                    Ends x s (begun m v.scale v.elems)))))
    ∧ (∀ (sh : BitVec 8) us, (s.ready = false ∨ us < s.get K.queryBatchWindow) →
        exec (.queryBatchWindow sh us) s = .next s)
    ∧ ∀ (sh : BitVec 8) us d h q x n m, s.ready = true → s.get K.queryBatchWindow ≤ us → s.batches = [⟨sh.toNat, [j]⟩] →
        s.openDesc j = some d → d.hold = some h → h.query = some q → q.left = [sh.toNat] → s.seen j sh.toNat = some (x, n, m) →
        Ends (.queryBatchWindow sh us) s fun s' =>
          s'.batches = [] ∧ ∃ top rs,
            rs = (sortBy (resultBefore top) (q.kept ++ q.scan sh.toNat (x.entries.take n))).take q.k
              ∧ Sealing s' j 5 (descRef d.bytes) (searchAnswer (q.scanned + (x.entries.take n).length) rs) rs.length
                  (q.scanned + (x.entries.take n).length)

namespace Sys2Proof.Claims

/-- Buffers swapped at a commit: what was the next state is the committed one, and a new step begins (R438). -/
def Swapped (x y : Tune) : Prop :=
  y.committed = x.committed + 1 ∧ y.w = x.wn ∧ y.v = x.vn ∧ y.a = x.an ∧ y.e = x.en ∧ y.attempt = 1 ∧ y.state = .idle
    ∧ y.job = none ∧ y.sentDone = false ∧ y.wn = x.wn

/-- A new attempt of the running step begins from the committed state (R438, R450). -/
def Repeats (x y : Tune) (attempt : Nat) : Prop :=
  y.attempt = attempt ∧ y.repeats = x.repeats + 1 ∧ y.wn = x.w ∧ y.vn = x.v ∧ y.an = x.a ∧ y.en = x.e ∧ y.buckets = x.freshBuckets
    ∧ y.sentDone = false ∧ y.committed = x.committed ∧ y.w = x.w ∧ y.state = (if x.job.isSome then .stepping else .idle)

/-- The step failed; the committed state stands (R438, R450). -/
def Failed (x y : Tune) : Prop :=
  y.state = .idle ∧ y.job = none ∧ y.committed = x.committed ∧ y.w = x.w ∧ y.wn = x.w ∧ y.attempt = 1 ∧ y.buckets = x.freshBuckets

/-- The list of STEP_DONE messages that rank 0 holds with one more. -/
def doneWith (x : Tune) (rank : Nat) (crcs : List (BitVec 64)) : List (Nat × List (BitVec 64)) :=
  x.done.filter (fun p => p.1 ≠ rank) ++ [(rank, crcs)]

end Sys2Proof.Claims

/-- Tuning sessions (R434 to R437, R452, R455). An OPEN meets its checks in order; a member sends its digest to rank 0 and
waits; rank 0 answers once digests differ or all are there; a session that fails to open is freed; READ returns the committed
weights; CLOSE frees an idle session. -/
def Sys2Proof.Claims.TuneSessions : Prop :=
  ∀ (s : State) (c : Chan) (i : BitVec 16),
    let j : JobId := (c.val, i.toNat)
    (∀ x : Instr × Nat, (x = (.tuneOpen c i, 0) ∨ x = (.tuneRead c i, 2) ∨ x = (.tuneClose c i, 3)) →
        s.tuneJob j x.2 = none → exec x.1 s = .next s)
    ∧ (∀ d h, s.tuneJob j 0 = some (d, h) → (∀ n, n < 4 → (s.tune n).openJob ≠ some j) →
        let p := h.plain
        let n := descSession d
        let me := s.get K.endpointId
        let ms := (List.range (openMembers p)).map fun r => leAt p (64 + 2 * r) 2
        (openFormatOk p = false → Ends (.tuneOpen c i) s fun s' => Answered s s' j St.tuneSessionFormat)
        ∧ (openFormatOk p = true → (s.tune n).state ≠ .closed → Ends (.tuneOpen c i) s fun s' =>
            Answered s s' j St.tuneSessionActive)
        ∧ (openFormatOk p = true → (s.tune n).state = .closed → (ms.filter (· = me)).length ≠ 1 →
            Ends (.tuneOpen c i) s fun s' => Answered s s' j St.tuneGroupMismatch)
        ∧ (openFormatOk p = true → (s.tune n).state = .closed → (ms.filter (· = me)).length = 1 → s.tuneFree < openReserve p →
            Ends (.tuneOpen c i) s fun s' => Answered s s' j St.tuneStateFull)
        ∧ (openFormatOk p = true → (s.tune n).state = .closed → (ms.filter (· = me)).length = 1 → openReserve p ≤ s.tuneFree →
            (openSession p me j (s.tune n)).rank ≠ 0 → Ends (.tuneOpen c i) s fun s' =>
              (s'.tune n).state = .opening ∧ (s'.tune n).members = ms ∧ (s'.tune n).openJob = some j
                ∧ (s'.tune n).digest = Config.sm3 p ∧ (s'.tune n).reserve = openReserve p
                ∧ (∀ w, (s'.tune n).window = some w →
                    windowRegionOk ((s'.window w).base * 256) (s'.window w).bytes = true ∧ (s'.window w).kind = 2
                      ∧ (s'.window w).base = (s'.tune n).bBase.toNat)
                ∧ .link 6 [n, ms.getD 0 0, (openSession p me j (s.tune n)).rank] (leBytes 32 (Config.sm3 p).toNat) ∈ s'.out))
    ∧ (∀ (ses : Fin 4) (rank : Nat) (dg : BitVec 256), let x := s.tune ses.val
        (s.ready = false → exec (.tuneOpenDigest ses rank dg) s = .next s)
        ∧ (s.ready = true → x.state = .opening → x.rank = 0 → dg ≠ x.digest → ∀ k, x.openJob = some k →
            Ends (.tuneOpenDigest ses rank dg) s fun s' =>
              s'.tune ses.val = Tune.closed ∧ (x.window = none → Answered s s' k St.tuneGroupMismatch))
        ∧ (s.ready = true → x.state = .opening → x.rank = 0 → dg = x.digest → x.size = 2 → x.digests = [(0, x.digest)] →
            ∀ k, rank = 1 → x.openJob = some k → Ends (.tuneOpenDigest ses rank dg) s fun s' =>
              (s'.tune ses.val).state = .idle ∧ (s'.tune ses.val).w = x.w ∧ Answered s s' k St.ok
                ∧ .link 7 [ses.val, x.members.getD 1 0, 1] [] ∈ s'.out))
    ∧ (∀ (ses : Fin 4) (ok : Bool), let x := s.tune ses.val
        ((x.state ≠ .opening ∨ x.rank = 0) → exec (.tuneOpenAnswer ses ok) s = .next s)
        ∧ (∀ k, x.state = .opening → x.rank ≠ 0 → x.openJob = some k →
          (ok = true → Ends (.tuneOpenAnswer ses ok) s fun s' => (s'.tune ses.val).state = .idle
            ∧ (s'.tune ses.val).buckets = x.freshBuckets ∧ AnsweredBy s s' k { Answer.of St.ok with count0 := x.rank })
          ∧ (ok = false → Ends (.tuneOpenAnswer ses ok) s fun s' => s'.tune ses.val = Tune.closed
            ∧ (x.window = none → Answered s s' k St.tuneGroupMismatch))))
    ∧ (∀ (ses : Fin 4) (ms : Nat), let x := s.tune ses.val
        ((x.state ≠ .opening ∨ ms < s.get K.tuneOpenTimeout) → exec (.tuneOpenTimeout ses ms) s = .next s)
        ∧ (∀ k, x.state = .opening → s.get K.tuneOpenTimeout ≤ ms → x.openJob = some k →
          Ends (.tuneOpenTimeout ses ms) s fun s' => s'.tune ses.val = Tune.closed
            ∧ (x.window = none → Answered s s' k St.tuneOpenTimeout)))
    ∧ (∀ d h, s.tuneJob j 2 = some (d, h) → let x := s.tune (descSession d)
        (x.isOpen = false → Ends (.tuneRead c i) s fun s' => Answered s s' j St.tuneSessionUnknown)
        ∧ (x.isOpen = true → Ends (.tuneRead c i) s fun s' => Sealing s' j 7 (descRef d.bytes) x.readOutput 0 0))
    ∧ ∀ d h, s.tuneJob j 3 = some (d, h) → let x := s.tune (descSession d)
        (x.isOpen = false → Ends (.tuneClose c i) s fun s' => Answered s s' j St.tuneSessionUnknown)
        ∧ (x.isOpen = true → x.state = .stepping → Ends (.tuneClose c i) s fun s' => Answered s s' j St.tuneBusy)
        ∧ (x.isOpen = true → x.state ≠ .stepping → x.job = none → Ends (.tuneClose c i) s fun s' =>
            s'.tune (descSession d) = Tune.closed ∧ (x.window = none → Answered s s' j St.ok))

/-- Steps of a session (R438, R440, R443, R448 to R454, R474). A step begins with W in memory; parts join their bucket once;
rank 0 commits when every member's list is there and equal, repeats at the deadline while repeats are left, and then fails the
step; a commit swaps the buffers, a repeat and a failure leave the committed state; a member asks rank 0 for an outcome it has
not got. -/
def Sys2Proof.Claims.TuneSteps : Prop :=
  ∀ s : State,
    (∀ (c : Chan) (i : BitVec 16), let j : JobId := (c.val, i.toNat)
        (s.tuneJob j 1 = none → exec (.tuneStep c i) s = .next s)
        ∧ ∀ d h, s.tuneJob j 1 = some (d, h) → (∀ n, n < 4 → (s.tune n).job ≠ some j) → let x := s.tune (descSession d)
          (x.isOpen = false → Ends (.tuneStep c i) s fun s' => Answered s s' j St.tuneSessionUnknown)
          ∧ (x.isOpen = true → (s.stepAhead (descSession d) h.number = true ∨ x.state ≠ .idle ∨ x.suppressed = true
              ∨ s.fabric.epochPhase ≠ .none) → exec (.tuneStep c i) s = .next s)
          ∧ (x.state = .idle → s.stepAhead (descSession d) h.number = false → x.suppressed = false →
              s.fabric.epochPhase = .none →
            (arg d.bytes 4 4 ≠ x.committed → Ends (.tuneStep c i) s fun s' =>
              AnsweredBy s s' j { Answer.of St.tuneStepOrder with detail := x.committed })
            ∧ (arg d.bytes 4 4 = x.committed → x.window ≠ none → Ends (.tuneStep c i) s fun s' =>
              let b := x.w.flatMap fun v => leBytes 4 v.toNat
              (s'.tune (descSession d)).state = .stepping ∧ (s'.tune (descSession d)).job = some j
                ∧ (s'.tune (descSession d)).w = x.w ∧ (x.rank = 0 → (s'.tune (descSession d)).coord = true)
                ∧ (∀ k, k < b.length → s'.memByte (x.wBase.toNat * 256 + k) = b.getD k 0)
                ∧ ∀ a, (a < x.wBase.toNat * 256 ∨ x.wBase.toNat * 256 + roundUp b.length 64 ≤ a) → s'.memByte a = s.memByte a)))
    ∧ ∀ ses : Fin 4, let x := s.tune ses.val
        (∀ p, (x.bucket p.sparse p.bucket = none ∨ x.isOpen = false ∨ s.ready = false) →
            exec (.bucketPartArrive ses p) s = .next s)
        ∧ (∀ p k, x.bucket p.sparse p.bucket = some k → x.isOpen = true → s.ready = true → k.reported = false → x.job = none →
          (k.seen.contains p.tag = true → Ends (.bucketPartArrive ses p) s fun s' =>
            (s'.tune ses.val).bucket p.sparse p.bucket = some k ∧ s'.out = s.out)
          ∧ (k.seen.contains p.tag = false → p.sparse = false → 3 ≤ p.phase → k.held = [] →
              ringNext p.half x.px x.xLen = p.seg → Ends (.bucketPartArrive ses p) s fun s' =>
            (s'.tune ses.val).bucket p.sparse p.bucket
              = some { k with seen := k.seen ++ [p.tag], segs := k.segs ++ [(p.half, p.seg, p.values)] })
          ∧ (k.seen.contains p.tag = false → p.sparse = false → p.phase = 0 → k.held = [] →
              Ends (.bucketPartArrive ses p) s fun s' =>
            (s'.tune ses.val).bucket p.sparse p.bucket = some { k with seen := k.seen ++ [p.tag], held := [p] }))
        ∧ (∀ rank step att crcs, (x.rank ≠ 0 ∨ s.ready = false ∨ x.coord = false ∨ step ≠ x.committed ∨ att ≠ x.attempt
              ∨ x.size ≤ rank) → exec (.stepDone ses rank step att crcs) s = .next s)
        ∧ (∀ rank crcs, x.rank = 0 → s.ready = true → x.coord = true → rank < x.size →
          ((∃ r, r < x.size ∧ (∀ q ∈ doneWith x rank crcs, q.1 ≠ r)) →
            Ends (.stepDone ses rank x.committed x.attempt crcs) s fun s' =>
              (s'.tune ses.val).done = doneWith x rank crcs ∧ (s'.tune ses.val).committed = x.committed)
          ∧ ((∀ r, r < x.size → ((doneWith x rank crcs).find? fun q => q.1 = r).map (·.2) = some crcs) → x.retracted = [] →
              x.isOpen = true → x.sentDone = true → Ends (.stepDone ses rank x.committed x.attempt crcs) s fun s' =>
              Swapped x (s'.tune ses.val)
                ∧ (s'.tune ses.val).outcomes = ((x.committed, 1, 0) :: x.outcomes).take 2))
        ∧ (∀ us, (x.missing = none ∨ x.coord = false ∨ us < x.deadlineUs) → exec (.tuneDeadline ses us) s = .next s)
        ∧ (∀ us r, x.missing = some r → x.coord = true → x.deadlineUs ≤ us → x.isOpen = true → x.zeroShape = false →
          (x.attempt ≤ x.repeatLimit → Ends (.tuneDeadline ses us) s fun s' =>
            Repeats x (s'.tune ses.val) (x.attempt + 1) ∧ (s'.tune ses.val).done = [])
          ∧ (x.repeatLimit < x.attempt → Ends (.tuneDeadline ses us) s fun s' =>
            Failed x (s'.tune ses.val) ∧ (s'.tune ses.val).outcomes = ((x.committed, 2, r) :: x.outcomes).take 2
              ∧ ∀ k, x.job = some k → Answered s s' k 0x66 ∧ Counted s s' K.tuneStepsFailed 1))
        ∧ (∀ st att m, (x.rank = 0 ∨ x.isOpen = false ∨ st ≠ x.committed) →
            exec (.tuneCommit ses st) s = .next s ∧ exec (.tuneRepeat ses st att) s = .next s
              ∧ exec (.tuneFail ses st m) s = .next s)
        ∧ (x.rank ≠ 0 → x.isOpen = true →
          (x.sentDone = false → exec (.tuneCommit ses x.committed) s = .next s)
          ∧ (x.sentDone = true → Ends (.tuneCommit ses x.committed) s fun s' => Swapped x (s'.tune ses.val)
            ∧ ∀ k d h, x.job = some k → s.openDesc k = some d → d.hold = some h → Holds s' k fun h' =>
                h'.result.map (·.count0) = some (x.committed + 1) ∧ h'.toSeal.length = 1)
          ∧ (∀ att, x.zeroShape = false → Ends (.tuneRepeat ses x.committed att) s fun s' => Repeats x (s'.tune ses.val) att)
          ∧ (∀ m, Ends (.tuneFail ses x.committed m) s fun s' => Failed x (s'.tune ses.val)
            ∧ ∀ k, x.job = some k → AnsweredBy s s' k { Answer.of 0x66 with detail := m } ∧ Counted s s' K.tuneStepsFailed 1))
        ∧ (∀ us ok, x.rank ≠ 0 → x.sentDone = true → (x.state = .stepping ∨ x.state = .orphaned) → x.deadlineUs ≤ us →
            Ends (.tuneOutcomeQuery ses us ok) s fun s' =>
              s'.tune ses.val = { x with state := if ok then .stepping else .orphaned }
                ∧ s'.out = s.out ++ [.link 12 [ses.val, x.members.getD 0 0, x.rank, x.committed] []])
        ∧ (∀ us ok, (x.rank = 0 ∨ x.sentDone = false ∨ us < x.deadlineUs) → exec (.tuneOutcomeQuery ses us ok) s = .next s)
        ∧ (∀ us k, x.job = some k → x.rank ≠ 0 → x.state = .stepping → x.sentDone = false → 2 * x.deadlineUs ≤ us →
            Ends (.tuneCoordLost ses us) s fun s' => Answered s s' k St.tuneCoordLost ∧ (s'.tune ses.val).state = .idle
              ∧ (s'.tune ses.val).w = x.w ∧ (s'.tune ses.val).committed = x.committed)
        ∧ (∀ us, (x.job = none ∨ x.rank = 0 ∨ x.sentDone = true ∨ us < 2 * x.deadlineUs) →
            exec (.tuneCoordLost ses us) s = .next s)
        ∧ (∀ rank st, x.rank ≠ 0 → exec (.outcomeRequest ses rank st) s = .next s)
        ∧ (∀ rank st, x.rank = 0 →
          ((∀ o ∈ x.outcomes, o.1 ≠ st) → exec (.outcomeRequest ses rank st) s = .next s)
          ∧ (∀ m, (x.outcomes.find? fun o => o.1 = st) = some (st, 1, m) → exec (.outcomeRequest ses rank st) s
              = .next (s.emit (.link 9 [ses.val, x.members.getD rank 0, st] [])))
          ∧ (∀ m, (x.outcomes.find? fun o => o.1 = st) = some (st, 2, m) → exec (.outcomeRequest ses rank st) s
              = .next (s.emit (.link 11 [ses.val, x.members.getD rank 0, st, m] []))))
        ∧ (∀ msg r, leAt msg 6 1 = ses.val → (x.members.findIdx? fun e => e = leAt msg 4 2) = some r →
            slice msg 0 4 = [0x53, 0x4B, 0x52, 0x54] → x.rank = 0 → x.coord = true → leAt msg 8 4 = x.committed →
            leAt msg 7 1 = x.attempt → Ends (.retract msg) s fun s' =>
              r ∈ (s'.tune ses.val).retracted ∧ { s'.tune ses.val with retracted := x.retracted } = x)
        ∧ ∀ msg, leAt msg 6 1 = ses.val → (x.rank ≠ 0 ∨ x.coord = false ∨ leAt msg 8 4 ≠ x.committed ∨ leAt msg 4 2 ∉ x.members) →
            exec (.retract msg) s = .next s

/-- Checking (R348, R467 to R474, R481). Equal signatures pass a step; unequal ones make a dispute over it and mark both
tiles; the third tile's signature settles a dispute against the tile that differs, and where it agrees with neither, or its
tile faulted, no majority is counted; a held completion is freed once every check of its job has closed; a suspect that met
no criterion long enough is normal, and its pace falls back a step at a time. -/
def Sys2Proof.Claims.Checking : Prop :=
  ∀ s : State,
    (∀ (st : StrandId) (w sh : SigPost),
      ((s.comparable w sh = false ∨ s.strandOf w.tile.val ≠ st.val) → exec (.shadowCompare st w sh) s = .next s)
      ∧ (s.comparable w sh = true → s.strandOf w.tile.val = st.val →
        (w.sig = sh.sig → Ends (.shadowCompare st w sh) s fun s' =>
          Counted s s' K.shadowSteps 1 ∧ w ∉ s'.check.posted ∧ sh ∉ s'.check.posted
            ∧ s'.check.disputes = s.check.disputes ∧ s'.check.suspects = s.check.suspects)
        ∧ (w.sig ≠ sh.sig → Ends (.shadowCompare st w sh) s fun s' =>
          Counted s s' K.shadowSteps 1 ∧ Counted s s' K.shadowMismatches 1
            ∧ bit (s'.get (K.tileSuspectCause w.tile.val)) 1 = true ∧ bit (s'.get (K.tileSuspectCause sh.tile.val)) 1 = true
            ∧ ∃ d, s'.check.disputes = s.check.disputes ++ [d] ∧ d.working = w.tile.val ∧ d.shadow = sh.tile.val
              ∧ d.chunk = w.chunk.toNat ∧ d.sigW = w.sig ∧ d.sigS = sh.sig)))
    ∧ (∀ (i : Nat) (sig : BitVec 64), s.check.disputes[i]? = none → exec (.majoritySettle i sig) s = .next s)
    ∧ (∀ (i t : Nat) (d : Dispute) (sig : BitVec 64), s.check.disputes[i]? = some d → d.third = some t → t < 624 →
        d.working < 624 → d.shadow < 624 → (∀ p ∈ s.check.planLosses, p.tile < 624) →
        ((s.tile t).core.run ≠ .faulted → s.thirdPost d t sig = false → exec (.majoritySettle i sig) s = .next s)
        ∧ ((s.tile t).core.run ≠ .faulted → s.thirdPost d t sig = true → Ends (.majoritySettle i sig) s fun s' =>
          s'.check.disputes = s.check.disputes.erase d
            ∧ (sig = d.sigW → bit (s'.get (K.tileSuspectCause d.shadow)) 4 = true)
            ∧ (sig ≠ d.sigW → sig = d.sigS → bit (s'.get (K.tileSuspectCause d.working)) 4 = true)
            ∧ (sig ≠ d.sigW → sig ≠ d.sigS → Counted s s' K.noMajorityCount 1))
        ∧ ((s.tile t).core.run = .faulted → Ends (.majoritySettle i sig) s fun s' =>
          s'.check.disputes = s.check.disputes.erase d ∧ Counted s s' K.noMajorityCount 1))
    ∧ (∀ (c : Chan) (i : BitVec 16) (d : Desc), let j : JobId := (c.val, i.toNat)
        s.desc j = some d → s.tuneOf j = none →
        (d.held = true → s.checksClosed j = true → s.jobRuns j = false → Ends (.checkClose c i) s fun s' =>
          s'.desc j = some { d with held := false } ∧ (s.timeBase - d.since) / 1000 ≤ s'.get K.holdMaxUs
            ∧ s.get K.holdMaxUs ≤ s'.get K.holdMaxUs)
        ∧ ((d.held = false ∨ s.checksClosed j = false ∨ s.jobRuns j = true) → exec (.checkClose c i) s = .next s))
    ∧ (∀ (t : Slot) (hours : Nat), let h := s.get (K.tileHealth t.val)
        (h ≠ 0 → h ≠ 4 → h ≠ 5 → s.get K.suspectClearHours ≤ hours → Ends (.suspectClear t hours) s fun s' =>
          s'.get (K.tileHealth t.val) = 0 ∧ (s'.suspect t.val).rung = 0 ∧ s'.tiles = s.tiles
            ∧ s'.get (K.tileTrim t.val) = s.get (K.tileTrim t.val) ∧ s'.get (K.tilePace t.val) = s.get (K.tilePace t.val))
        ∧ ((h = 0 ∨ h = 4 ∨ h = 5 ∨ hours < s.get K.suspectClearHours) → exec (.suspectClear t hours) s = .next s))
    ∧ ∀ (t : Slot) (hours : Nat), let p := s.get (K.tilePace t.val)
        (s.get (K.tileHealth t.val) = 0 → (s.tile t.val).ownPace < p → s.get K.suspectClearHours ≤ hours →
          Ends (.suspectPaceLower t hours) s fun s' => s'.get (K.tilePace t.val) = p - 1 ∧ s'.tiles = s.tiles)
        ∧ ((s.get (K.tileHealth t.val) ≠ 0 ∨ p ≤ (s.tile t.val).ownPace ∨ hours < s.get K.suspectClearHours) →
          exec (.suspectPaceLower t hours) s = .next s)

/-- What the march and retention tests do to an array that holds what is written to it (R491, R502): every read, of a skim
slice and of the cold-start tests, sees the value expected, whatever the array held; with no read in error a slice's
signature is the reference, and none is found in error. -/
def Sys2Proof.Claims.MarchTests : Prop :=
  ∀ (n : Nat) (a : List (Nat × Byte)),
    let sees := fun (ops : List MarchOp) => ∀ (i : Nat) (o : MarchOp), ops[i]? = some o → o.write = false → (marchSees ops a)[i]? = some o.value
    sees (skimFirst n ++ skimSecond n) ∧ sees (coldMarch n)
      ∧ marchSign (marchFold [] (skimSecond n) (marchFold [] (skimFirst n) marchBegin)) = skimReference n
      ∧ firstBad [] (skimFirst n) = none ∧ firstBad [] (skimSecond n) = none ∧ firstBad [] (coldMarch n) = none
      ∧ ∀ i o errs, (marchReads (skimFirst n))[i]? = some o → marchRead errs i o ≠ List.replicate 64 o.value →
          (firstBad errs (skimFirst n)).isSome = true

/-- Skim slices (R491, R495 to R508). A slice starts on the next target of the schedule, in a free save slot; it saves,
marches and waits out a retention pause for each polarity, and is compared; a first difference repeats the run, a second one
fails the target: a bank leaves the repair map, any other
array puts the tile into frost; a match after a repeat is a transient; a restore ends the slice, which counts; an access to a
borrowed bank or to borrowed queue memory reads and writes what it would without the slice, and marks no line. Which accesses
go to the save slot follows the phase and the pointer. -/
def Sys2Proof.Claims.SkimSlices : Prop :=
  ∀ (s : State) (t : Slot),
    let x := s.tile t.val
    (∀ k : Fin 26, (s.skimOpen = false → exec (.skimSliceStart t k) s = .next s)
      ∧ (s.skimOpen = true → s.rotationOver = false → s.nextTarget ≠ some (t.val, k.val) →
          exec (.skimSliceStart t k) s = .next s)
      ∧ (s.skimOpen = true → s.rotationOver = false → s.nextTarget = some (t.val, k.val) →
          (∃ i, i < 8 ∧ ∀ p ∈ s.selftest.saveSlots, p.1 ≠ i) → Ends (.skimSliceStart t k) s fun s' =>
            (s'.tile t.val).skim = { x.skim with stat := skStat k.val 1, phase := .saving, target := k.val, repeated := false }
              ∧ (∀ u, u ≠ t.val → s'.tile u = s.tile u)
              ∧ ∃ i, i < 8 ∧ (∀ p ∈ s.selftest.saveSlots, p.1 ≠ i)
                ∧ s'.selftest.saveSlots = s.selftest.saveSlots ++ [(i, t.val)]))
    ∧ (x.skim.phase = .saving → Leaves (.skimSaveDone t) s t
        { x with skim := { x.skim with
            stat := skStat x.skim.target 2
            phase := .marching
            repeated := false
            crc := marchBegin
            caught := false } })
    ∧ (x.skim.phase ≠ .saving → exec (.skimSaveDone t) s = .next s)
    ∧ (∀ us errs, (us < s.get K.skimRetentionUs
          ∨ (x.skim.phase ≠ .marching ∧ x.skim.phase ≠ .retaining)) → exec (.skimRetentionPause t us errs) s = .next s)
    ∧ (∀ us errs, s.get K.skimRetentionUs ≤ us →
        let k := x.skim.target
        let n := targetLines k
        let found := fun (ops : List MarchOp) =>
          if x.skim.caught then x.skim.fail else ((firstBad errs ops).map fun p => skFail k p.1 p.2).getD x.skim.fail
        (x.skim.phase = .marching → Leaves (.skimRetentionPause t us errs) s t
          { x with skim := { x.skim with
              stat := if x.skim.repeated then x.skim.stat else skStat k 3
              phase := .retaining
              crc := marchFold errs (skimFirst n) x.skim.crc
              caught := x.skim.caught || (firstBad errs (skimFirst n)).isSome
              fail := found (skimFirst n) } })
        ∧ (x.skim.phase = .retaining →
          let sig := marchSign (marchFold errs (skimSecond n) x.skim.crc)
          (sig = skimReference n → Ends (.skimRetentionPause t us errs) s fun s' =>
            (s'.tile t.val).skim.sig = sig ∧ (s'.tile t.val).skim.stat = skStat k 5 ∧ (s'.tile t.val).skim.phase = .restoring
              ∧ { s'.tile t.val with skim := x.skim } = x
              ∧ (x.skim.repeated = true → Counted s s' K.skimTransients 1)
              ∧ (x.skim.repeated = false → s'.get K.skimTransients = s.get K.skimTransients))
          ∧ (sig ≠ skimReference n →
            (x.skim.repeated = false → Leaves (.skimRetentionPause t us errs) s t
              { x with skim := { x.skim with
                  sig := sig
                  fail := found (skimSecond n)
                  stat := skStat k 6
                  phase := .marching
                  repeated := true
                  crc := marchBegin
                  caught := false } })
            ∧ (x.skim.repeated = true → Ends (.skimRetentionPause t us errs) s fun s' =>
              Counted s s' K.skimFailures 1 ∧ Counted s s' (K.tileSkimFails t.val) 1 ∧ (s'.tile t.val).skim.phase = .idle
                ∧ (k < 24 → bit (s'.repairWord t.val).toNat k = false)
                ∧ (24 ≤ k → s.slotEnabled t.val = true → s.slotFrost t.val = false →
                  s'.slotFrost t.val = true ∧ (s'.tile t.val).enabled = false)))))
    ∧ (∀ bad, x.skim.phase ≠ .restoring → exec (.skimRestoreDone t bad) s = .next s)
    ∧ (x.skim.phase = .restoring → Ends (.skimRestoreDone t false) s fun s' =>
        s'.tile t.val = { x with skim := { x.skim with stat := 0, phase := .idle, repeated := false } }
          ∧ Counted s s' K.skimSlicesDone 1 ∧ s'.lastPass t.val x.skim.target = s.timeBase
          ∧ (∀ p ∈ s'.selftest.saveSlots, p.2 ≠ t.val) ∧ ∀ u, u ≠ t.val → s'.tile u = s.tile u)
    ∧ (x.skim.phase = .restoring → (∃ i, (i, t.val) ∈ s.selftest.saveSlots) → Ends (.skimRestoreDone t true) s fun s' =>
        (s'.tile t.val).skim.phase = .idle)
    ∧ (∀ (line : Fin 2048) (d : List Byte), exec (.redirectedAccess t line false d) s = .next s)
    ∧ (∀ (line : Fin 2048) (d : List Byte) (a : Nat), d.length = 64 → x.skim.phase ≠ .idle → x.skim.target < 24 →
        bankAddress x.pad.bankOk x.skim.target line.val = some a → Ends (.redirectedAccess t line true d) s fun s' =>
          (s'.tile t.val).read a 64 = d ∧ (s'.tile t.val).pad.fill = x.pad.fill ∧ (s'.tile t.val).core = x.core
            ∧ OnlyTile s s' t)
    ∧ (∀ (line : Fin 2048) (d : List Byte), line.val < 1536 → x.skim.phase ≠ .idle → x.skim.target = 24 →
        Ends (.redirectedAccess t line true d) s fun s' =>
          (∀ i, i < 64 → look (fun _ => 0) (s'.tile t.val).qmem (64 * line.val + i) = d.getD i 0)
            ∧ { s'.tile t.val with qmem := x.qmem } = x ∧ OnlyTile s s' t)
    ∧ (∀ (line : Fin 2048) (d : List Byte), (x.skim.phase = .idle ∨ 25 ≤ x.skim.target) →
        exec (.redirectedAccess t line true d) s = .next s)
    ∧ ∀ n i, toSaveSlot .idle n i = false ∧ toSaveSlot .marching n i = true ∧ toSaveSlot .retaining n i = true
        ∧ (toSaveSlot .saving n i = true ↔ i < n) ∧ (toSaveSlot .restoring n i = true ↔ n ≤ i)

namespace Sys2Proof.Claims

/-- A fresh request of an open session whose TAG verifies (R537, R540, R542). -/
def InSession (s : State) (r : BjReq) (x : Session) : Prop :=
  s.serves = true ∧ s.reached r = true ∧ s.dropsFrom r = false ∧ r.console = false ∧ r.session ≠ 0
    ∧ s.session r.session = some x ∧ r.tagOk = true ∧ r.wellFormed = true ∧ ∀ q, x.lastSeq = some q → q < r.seq

/-- A WRITE that passes every common check of its entry (R531, R533, R544, R547). -/
def Passes (s : State) (r : BjReq) (k : Nat) (x : Session) : Prop :=
  InSession s r x ∧ r.key = k ∧ headFails r (some x.level) = none ∧ r.ends = false ∧ s.imageStop r = false
    ∧ s.valueFails r r.payload = none

/-- The command answers the request with `a`, keeps the answer under its SEQ (R542), and beside that leaves a state with the
property. -/
def Served (c : Instr) (s : State) (r : BjReq) (x : Session) (a : BjAns) (P : State → Prop) : Prop :=
  ∃ s1, P s1 ∧
    let o := replyOf r Op.write r.session (some x.kid) a
    exec c s = .next ((s1.keepReply x.num r.seq o).emit o)

/-- The request is refused with a status and nothing else happens. -/
def Refused (c : Instr) (s : State) (r : BjReq) (x : Session) (st : Nat) : Prop := Served c s r x (BjAns.of st) (· = s)

/-- A number written to an entry. -/
def written (r : BjReq) : Nat := leNat r.payload

/-- Rows that stand for a write of one entry: its key, the request, and the values that belong to another row. -/
def entryRow : Instr → Option (Nat × BjReq × List Nat)
  | .fabricEpochRequest r => some (K.fabricEpochRequest, r, [])
  | .frostTile r => some (K.frostTile, r, [])
  | .unfrostTile r => some (K.unfrostTile, r, [])
  | .bankRestore r => some (K.bankRestore, r, [])
  | .vcoreSetpoint r => some (K.vcoreSetpoint, r, [])
  | .forceSafePacing r => some (K.forceSafePacing, r, [])
  | .powerLimit r => some (K.powerLimit, r, [])
  | .tileTrim t r => some (K.tileTrim t.val, r, [])
  | .tilePace t r => some (K.tilePace t.val, r, [])
  | .vectorDim r => some (K.vectorDim, r, [])
  | .rolePlan n r => some (K.rolePlan n.val, r, [])
  | .defaultsRestore r => some (K.defaultsRestore, r, [])
  | .identify r => some (K.identify, r, [])
  | .ownerClaim r _ => some (K.ownerClaim, r, [])
  | .ownerRelease r _ => some (K.ownerRelease, r, [])
  | .keyInstall (.entry r) _ => some (K.keyInstall, r, [])
  | .keyRemove r => some (K.keyRemove, r, [])
  | .licenceInstall r _ _ => some (K.licenceInstall, r, [])
  | .commitSvn r => some (K.commitSvn, r, [])
  | .quoteRequest r => some (K.quote, r, [])
  | .scanClear r _ => some (K.scanClear, r, [])
  | .resetRequestThaw r => some (K.resetRequest, r, [2])
  | .resetRequestModule r => some (K.resetRequest, r, [1])
  | .quiesceRequest r => some (K.quiesceControl, r, [2, 3])
  | .quiesceForce r => some (K.quiesceControl, r, [1, 3])
  | .quiesceCancel r => some (K.quiesceControl, r, [1, 2])
  | .recorderClearFar r => some (K.recorderClear, r, [2])
  | .recorderClearAll r => some (K.recorderClear, r, [1])
  | .copyResolveA r => some (K.copyResolve, r, [2, 3])
  | .copyResolveB r => some (K.copyResolve, r, [1, 3])
  | .copyResolveKeep r => some (K.copyResolve, r, [1, 2])
  | _ => none

end Sys2Proof.Claims

/-- Writes of entries with a row of their own (R533, R537, R542 to R544). A request for another entry, or for a value of
another row, does nothing here; one that the boot node does not take does nothing; the checks of the entry and then those of the
value refuse it with their status, and a refused write changes nothing. -/
def Obligations.EntryWrites : Prop :=
  ∀ (c : Instr) (s : State) (k : Nat) (r : BjReq) (others : List Nat), entryRow c = some (k, r, others) →
    ((r.key ≠ k ∨ leNat (s.valueOf r) ∈ others) → exec c s = .next s)
    ∧ ((s.serves = false ∨ s.reached r = false ∨ s.dropsFrom r = true) → exec c s = .next s)
    ∧ (r.key = k → leNat (s.valueOf r) ∉ others → ∀ x, InSession s r x → r.ends = false →
        (∀ st, headFails r (some x.level) = some st → Refused c s r x st)
        ∧ (headFails r (some x.level) = none → s.imageStop r = false → ∀ st, s.valueFails r r.payload = some st →
            Refused c s r x st))

/-- Writes of the operating point, of fencing, of vectors and roles, and of defaults (R32 to R38, R364, R365, R412, R483, R494,
R536). -/
def Sys2Proof.Claims.OperatingPoint : Prop :=
  ∀ (s : State) (r : BjReq) (x : Session),
    let v := written r
    (∀ p : Instr × Nat, (p = (.vcoreSetpoint r, K.vcoreSetpoint) ∨ p = (.forceSafePacing r, K.forceSafePacing)
          ∨ p = (.powerLimit r, K.powerLimit)) → Passes s r p.2 x → Served p.1 s r x (BjAns.of Bj.ok) fun s1 =>
        s1.get p.2 = v ∧ (∀ k, k ≠ p.2 → s1.get k = s.get k) ∧ (s.get p.2 ≠ v → Blk.dictionary ∈ s1.flash.waiting)
          ∧ { s1 with dict := s.dict, flash := s.flash } = s)
    ∧ (∀ t : Slot, Passes s r (K.tileTrim t.val) x → Served (.tileTrim t r) s r x (BjAns.of Bj.ok) fun s1 =>
        s1.tile t.val = { s.tile t.val with trimAsked := v }
          ∧ (s.dipping = false → s1.get (K.tileTrim t.val) = min v s.trimCap)
          ∧ (s.dipping = true → s1.get (K.tileTrim t.val) = s.get (K.tileTrim t.val))
          ∧ (∀ k, k ≠ K.tileTrim t.val → s1.get k = s.get k))
    ∧ (∀ t : Slot, Passes s r (K.tilePace t.val) x → Served (.tilePace t r) s r x (BjAns.of Bj.ok) fun s1 =>
        s1.tile t.val = { s.tile t.val with ownPace := v } ∧ s1.get (K.tilePace t.val) = v
          ∧ (∀ k, k ≠ K.tilePace t.val → s1.get k = s.get k))
    ∧ (∀ t, Passes s r K.frostTile x → slotOfCode v = some t →
        ((s.slotFrost t = true ∨ s.slotEnabled t = false) → Served (.frostTile r) s r x (BjAns.of Bj.ok) (· = s))
        ∧ (s.slotFrost t = false → s.slotEnabled t = true → Served (.frostTile r) s r x (BjAns.of Bj.ok) fun s1 =>
          s1.slotFrost t = true ∧ bits (s1.repairWord t).toNat 26 3 = Cause.owner ∧ (s1.tile t).enabled = false
            ∧ s1.get (K.tileHealth t) = 4 ∧ Counted s s1 K.frostTiles 1 ∧ Blk.repairMap ∈ s1.flash.waiting
            ∧ (∀ u, u ≠ t → s1.tile u = s.tile u)))
    ∧ (∀ t, Passes s r K.unfrostTile x → slotOfCode v = some t →
        ((s.slotFrost t = false ∨ s.check.fencing.contains t = true ∨ s.spareUsable (halfRow t) = true) →
          Refused (.unfrostTile r) s r x Bj.entryBusy)
        ∧ (s.slotFrost t = true → s.check.fencing.contains t = false → s.spareUsable (halfRow t) = false →
          Served (.unfrostTile r) s r x (BjAns.of Bj.ok) fun s1 =>
            s1.slotFrost t = false ∧ s1.spareSlot (halfRow t) = t ∧ s1.get (K.tileHealth t) = 0
              ∧ s1.suspect t = Suspect.none ∧ (s1.tile t).core = Tile.reset.core ∧ Blk.repairMap ∈ s1.flash.waiting))
    ∧ (∀ t, Passes s r K.bankRestore x → slotOfCode v = some t → Served (.bankRestore r) s r x (BjAns.of Bj.ok) fun s1 =>
        (t, bits v 10 5) ∈ s1.selftest.restore ∧ { s1 with selftest := s.selftest } = s)
    ∧ (Passes s r K.fabricEpochRequest x → v = 1 →
        (s.fabric.known ≠ Config.serial → Served (.fabricEpochRequest r) s r x (BjAns.of Bj.ok) (· = s.emit (.link 13 [] [])))
        ∧ (s.fabric.known = Config.serial → s.get K.fabricState ≠ 2 → Served (.fabricEpochRequest r) s r x (BjAns.of Bj.ok)
            (· = { s with fabric := { s.fabric with requested := true } })))
    ∧ (Passes s r K.vectorDim x →
        (s.shards ≠ [] → Refused (.vectorDim r) s r x Bj.entryBusy)
        ∧ (s.shards = [] → Served (.vectorDim r) s r x (BjAns.of Bj.ok) fun s1 =>
          s1.get K.vectorDim = v ∧ ∀ k, k ≠ K.vectorDim → s1.get k = s.get k))
    ∧ (∀ n : Fin 24, Passes s r (K.rolePlan n.val) x →
        (v = 0 → Served (.rolePlan n r) s r x (BjAns.of Bj.ok) (· = s.set (K.rolePlan n.val) 0))
        ∧ (∀ p, v ≠ 0 → s.plan v = some p → meetsRole p.file n.val = true →
          Served (.rolePlan n r) s r x (BjAns.of Bj.ok) (· = s.set (K.rolePlan n.val) v))
        ∧ (v ≠ 0 → (∀ p, s.plan v = some p → meetsRole p.file n.val = false) → Refused (.rolePlan n r) s r x Bj.roleMismatch))
    ∧ (Passes s r K.defaultsRestore x → Served (.defaultsRestore r) s r x (BjAns.of Bj.ok) fun s1 =>
        s1.get K.powerLimit = dflt K.powerLimit ∧ s1.get K.vcoreSetpoint = dflt K.vcoreSetpoint
          ∧ s1.get K.coldStartCount = s.get K.coldStartCount ∧ s1.octet K.ownerKey = s.octet K.ownerKey)

/-- Writes that reset, quiesce, identify, clear the recorder and end a copy conflict (R513, R519, R568, R577 to R580). -/
def Sys2Proof.Claims.ControlEntries : Prop :=
  ∀ (s : State) (r : BjReq) (x : Session),
    let v := written r
    (Passes s r K.resetRequest x → v = 1 → s.boot = .ready → Served (.resetRequestThaw r) s r x (BjAns.of Bj.ok) fun s1 =>
        s1.boot = .thawing ∧ s1.get K.lastResetKind = 3 ∧ s1.get K.lastResetCause = 11)
    ∧ (Passes s r K.resetRequest x → v = 2 → Served (.resetRequestModule r) s r x (BjAns.of Bj.ok) fun s1 => Restarts s s1 2 9)
    ∧ (Passes s r K.quiesceControl x → v = 1 →
        (s.ready = true → s.front.quiesce = .none → Served (.quiesceRequest r) s r x (BjAns.of Bj.ok) fun s1 =>
          s1.front.quiesce = .requested ∧ (s.fabric.windows = [] → s1.host.channels = s.host.channels))
        ∧ (s.ready = true → s.front.quiesce ≠ .none → Served (.quiesceRequest r) s r x (BjAns.of Bj.ok) (· = s))
        ∧ (s.ready = false → s.front.waitQuiesce = none → Served (.quiesceRequest r) s r x (BjAns.of Bj.ok)
            (· = { s with front := { s.front with waitQuiesce := some (false, .dictionary) } })))
    ∧ (Passes s r K.quiesceControl x → v = 2 →
        (s.ready = true → (s.front.quiesce = .none ∨ s.front.quiesce = .requested) →
          Served (.quiesceForce r) s r x (BjAns.of Bj.ok) fun s1 => s1.front.quiesce = .forcing
            ∧ (s.fabric.windows = [] → ∀ j d, s.desc j = some d → d.stoppable = true → ∃ d', s1.desc j = some d'
              ∧ d'.answer = some (Answer.of quiesceAborted) ∧ d'.hold = none))
        ∧ (s.ready = true → (s.front.quiesce = .forcing ∨ s.front.quiesce = .quiesced) →
          Served (.quiesceForce r) s r x (BjAns.of Bj.ok) (· = s)))
    ∧ (Passes s r K.quiesceControl x → v = 3 → Served (.quiesceCancel r) s r x (BjAns.of Bj.ok) fun s1 =>
        s1.front.quiesce = .none ∧ s1.front.waitQuiesce = none ∧ (s.front.quiesce ≠ .none → s1.front.modSafe = false)
          ∧ s1.host.channels = s.host.channels)
    ∧ (Passes s r K.identify x → Served (.identify r) s r x (BjAns.of Bj.ok) fun s1 =>
        s1.front = { s.front with flashing := decide (v = 1) } ∧ s1.get K.identify = v)
    ∧ (∀ p : Instr × Nat, (p = (.recorderClearFar r, 1) ∨ p = (.recorderClearAll r, 2)) → Passes s r K.recorderClear x → v = p.2 →
        ((s.recorder.clearing = 1 ∨ s.recorder.clearing = 2) → Refused p.1 s r x Bj.entryBusy)
        ∧ (s.recorder.clearing ≠ 1 → s.recorder.clearing ≠ 2 → Served p.1 s r x (BjAns.of Bj.ok)
            (· = { s with recorder := { s.recorder with clearing := v } })))
    ∧ ∀ p : Instr × Nat, (p = (.copyResolveA r, 1) ∨ p = (.copyResolveB r, 2) ∨ p = (.copyResolveKeep r, 3)) →
        Passes s r K.copyResolve x → v = p.2 →
        (s.get K.bootFlashState ≠ 2 → Refused p.1 s r x Bj.entryBusy)
        ∧ (s.get K.bootFlashState = 2 → Served p.1 s r x (BjAns.of Bj.ok) fun s1 =>
          s1.get K.bootFlashState = 0 ∧ Blk.dictionary ∈ s1.flash.waiting
            ∧ (v = 1 → s1.get K.powerLimit = look dflt (s.block Blk.dictionary).a.body K.powerLimit)
            ∧ (v = 2 → s1.get K.powerLimit = look dflt (s.block Blk.dictionary).b.body K.powerLimit)
            ∧ (v = 3 → s1.get K.powerLimit = s.get K.powerLimit))

/-- Owner, keys and licences (R289, R290, R295, R298, R299, R313, R314). A claim needs an unowned module and its signature; a
release needs a quiet module and its signature, and takes keys, plans, shards, sessions and what the tiers hold away, but
neither Abano's regions nor the recorder ring; a key is installed with its code, and leaves by its number; a handle names
SLOT and CLASS, and is stale once its entry is filled again and after a thaw (R298); a licence adds its features once. -/
def Obligations.Ownership : Prop :=
  ∀ (s : State) (r : BjReq) (x : Session),
    (∀ sigOk : Bool, Passes s r K.ownerClaim x →
        (s.get K.ownerState ≠ 0 → Refused (.ownerClaim r sigOk) s r x Bj.ownerPresent)
        ∧ (s.get K.ownerState = 0 → sigOk = false → Refused (.ownerClaim r sigOk) s r x Bj.ownerSig)
        ∧ (s.get K.ownerState = 0 → sigOk = true → Served (.ownerClaim r sigOk) s r x (BjAns.of Bj.ok) fun s1 =>
          s1.get K.ownerState = 1 ∧ Counted s s1 K.ownerEpoch 1 ∧ s1.octet K.ownerKey = r.payload.take 64
            ∧ s1.mgmt.sessions = [] ∧ Blk.security ∈ s1.flash.waiting))
    ∧ (∀ sigOk : Bool, Passes s r K.ownerRelease x →
        (s.noWork = false → Refused (.ownerRelease r sigOk) s r x Bj.notQuiesced)
        ∧ (s.noWork = true → sigOk = false → Refused (.ownerRelease r sigOk) s r x Bj.ownerSig)
        ∧ (s.noWork = true → sigOk = true → Served (.ownerRelease r sigOk) s r x (BjAns.of Bj.ok) fun s1 =>
          s1.vault.keys = [] ∧ s1.vault.fabricActive = [] ∧ s1.vault.fabricPending = [] ∧ s1.plans = [] ∧ s1.shards = []
            ∧ s1.tunes = [] ∧ s1.mgmt.sessions = [] ∧ s1.host.apertures = [] ∧ s1.net.clusters = []
            ∧ (∀ t, t < 624 → (s1.tile t).core = Tile.reset.core ∧ (s1.tile t).pad.bytes = [] ∧ (s1.tile t).qmem = [])
            ∧ s1.get K.ownerState = 0 ∧ s1.octet K.ownerKey = zeros 64 ∧ s1.get K.rawChannelsAuthorised = 0
            ∧ (∀ n, n < 24 → s1.get (K.rolePlan n) = 0)
            ∧ ∀ a, s1.memByte a = if keptByRelease a then s.memByte a else 0))
    ∧ (∀ (c : Chan) (i : BitVec 16) (blob : List Byte) (chk : KeyCheck),
        let j : JobId := (c.val, i.toNat)
        let code := s.keyCode blob chk
        (s.opDesc j 3 0x12 = none → exec (.keyInstall (.channel c i blob) chk) s = .next s)
        ∧ (∀ d, s.opDesc j 3 0x12 = some d → Ends (.keyInstall (.channel c i blob) chk) s fun s' =>
          s'.get K.lastKeyStatus = code
            ∧ AnsweredBy s s' j (if code = 0 then Answer.of St.ok else { Answer.of St.keyRejected with count0 := code })
            ∧ (code ≠ 0 → s'.vault = s.vault)
            ∧ (code = 0 → ∃ k, s'.key (leAt blob 8 8) = some k ∧ k.blob = blob)
            ∧ (code = 0 → s.key (leAt blob 8 8) = none → leAt blob 5 1 = 3 → s'.vault.fabricPending = keyBytes blob)))
    ∧ (∀ chk : KeyCheck, Passes s r K.keyInstall x →
        let code := s.keyCode r.payload chk
        Served (.keyInstall (.entry r) chk) s r x (if code = 0 then BjAns.of Bj.ok else ⟨Bj.domainRejected, code, []⟩) fun s1 =>
          s1.get K.lastKeyStatus = code ∧ (code ≠ 0 → s1.vault = s.vault)
            ∧ (code = 0 → ∃ k, s1.key (leAt r.payload 8 8) = some k ∧ k.blob = r.payload)
            ∧ (code = 0 → s.key (leAt r.payload 8 8) = none → leAt r.payload 5 1 = 3 →
                s1.vault.fabricPending = keyBytes r.payload))
    ∧ (Passes s r K.keyRemove x → Served (.keyRemove r) s r x (BjAns.of Bj.ok) fun s1 =>
        s1.key (written r) = none ∧ (∀ n, n ≠ written r → s1.key n = s.key n)
          ∧ (∀ k ∈ s.vault.keys, k.id = written r → k.removed = false → k.pins ≠ 0 →
            { k with removed := true } ∈ s1.vault.keys)
          ∧ { s1 with vault := { s1.vault with keys := s.vault.keys } } = s)
    ∧ (∀ (v : Vault) (k : VKey), k.slot < 4096 → k.cls < 4 →
        v.handle k % 4096 = k.slot ∧ v.handle k / 2 ^ 24 = k.cls
          ∧ ((v.fill k.slot).handles (v.handle k) k = false)
          ∧ (∀ n, 1 ≤ n → n < 4096 → ({ v with thawGen := v.thawGen + n } : Vault).handles (v.handle k) k = false))
    ∧ ∀ endorseOk sigOk : Bool, Passes s r K.licenceInstall x →
        let k := s.licCode r.payload (endorseOk && sigOk)
        let code := (Config.licenceCode k).toNat
        (s.get K.identityState = 2 → Refused (.licenceInstall r endorseOk sigOk) s r x Bj.identityRevoked)
        ∧ (s.get K.identityState ≠ 2 → k ≠ 0 →
          Served (.licenceInstall r endorseOk sigOk) s r x ⟨Bj.domainRejected, code, []⟩ fun s1 =>
            s1.get K.lastLicenceStatus = code ∧ s1.vault = s.vault)
        ∧ (s.get K.identityState ≠ 2 → k = 0 → (∀ l ∈ s.vault.licences, l.serial ≠ licSerial r.payload) →
          Served (.licenceInstall r endorseOk sigOk) s r x (BjAns.of Bj.ok) fun s1 =>
            (∃ l, s1.vault.licences = s.vault.licences ++ [l] ∧ l.serial = licSerial r.payload ∧ l.digest = Config.sm3 r.payload)
              ∧ s1.vault.meas.getD 3 0 = (if s.vault.meas.length ≤ 3 then 0 else
                  extend (s.vault.meas.getD 3 0) (Config.sm3 r.payload))
              ∧ Blk.licences ∈ s1.flash.waiting ∧ s1.get K.licenceFeatures = featuresOf s1.vault.inForce)
        ∧ (s.get K.identityState ≠ 2 → k = 0 → (∃ l ∈ s.vault.licences, l.serial = licSerial r.payload) →
          Served (.licenceInstall r endorseOk sigOk) s r x (BjAns.of Bj.ok) fun s1 => s1.vault = s.vault)

/-- min_svn, quotes, clearing before scan and firmware (R288, R310, R312, R316, R317, R520, R523). min_svn goes up to the
lowest image that runs and never falls; sixteen quotes wait at most; clearing needs a quiet module and takes everything
secret away, one step of R316 after another while nothing is asked of the block (log 122); an image is written B and A, or
not at all. -/
def Obligations.ModuleSecurity : Prop :=
  ∀ (s : State) (r : BjReq) (x : Session),
    (Passes s r K.commitSvn x → Served (.commitSvn r) s r x (BjAns.of Bj.ok) fun s1 =>
        s1.get K.minSvn = (if written r = 1 then max (s.get K.minSvn) s.lowestSvn else s.get K.minSvn)
          ∧ (∀ k, k ≠ K.minSvn → s1.get k = s.get k) ∧ { s1 with dict := s.dict } = s)
    ∧ (Passes s r K.quote x →
        (16 ≤ s.vault.quotes.length → Refused (.quoteRequest r) s r x Bj.quoteBusy)
        ∧ (s.vault.quotes.length < 16 → s.get K.identityState = 2 → Refused (.quoteRequest r) s r x Bj.identityRevoked)
        ∧ (s.vault.quotes.length < 16 → s.get K.identityState ≠ 2 → Served (.quoteRequest r) s r x (BjAns.of Bj.ok)
            (· = { s with vault := { s.vault with quotes := s.vault.quotes ++ [(false, 0, r.payload)] } })))
    ∧ (∀ readBackOk : Bool, Passes s r K.scanClear x →
        (written r = 0 → Served (.scanClear r readBackOk) s r x (BjAns.of Bj.ok) (· = s))
        ∧ (written r ≠ 0 → s.noWork = false → Refused (.scanClear r readBackOk) s r x Bj.notQuiesced)
        ∧ (written r ≠ 0 → s.noWork = true → s.vault.clearStep ≠ 0 →
            Served (.scanClear r readBackOk) s r x (BjAns.of Bj.ok) (· = s))
        ∧ (written r ≠ 0 → s.noWork = true → s.vault.clearStep = 0 →
            Served (.scanClear r readBackOk) s r x (BjAns.of Bj.ok) fun s1 => s1.vault.clearStep = 1
              ∧ s1.get K.scanState = (if s.get K.scanState = 3 then 3 else 1)
              ∧ s1.vault.readBack = (readBackOk && decide (s.get K.scanState ≠ 3))
              ∧ { s1 with dict := s.dict, vault := s.vault } = s))
    ∧ (s.pending = [] → ∃ s', step s = .next s' ∧
        let n := s.vault.clearStep
        (n = 1 → s'.vault.clearStep = 2 ∧ s'.vault.clearBegun = true ∧ s'.ready = false ∧ s'.boot = .clearing
          ∧ s'.get K.priorityClassState = 2)
        ∧ (n = 2 → s'.vault.clearStep = 3 ∧ s'.vault.keys = [] ∧ s'.vault.meas = List.replicate 8 0 ∧ s'.vault.quotes = []
          ∧ s'.vault.fabricActive = [] ∧ s'.vault.fabricPending = [] ∧ s'.plans = [] ∧ s'.shards = [] ∧ s'.tunes = []
          ∧ s'.mem.keyPresent = false)
        ∧ (n = 3 → s'.vault.clearStep = 4 ∧ s'.net.clusters = [] ∧ s'.net.nodeSends = [] ∧ s'.fabric.transfers = []
          ∧ ∀ t, t < 624 → (s'.tile t).core = Tile.reset.core ∧ (s'.tile t).pad.bytes = [] ∧ (s'.tile t).qmem = [])
        ∧ (n = 4 → s'.vault.clearStep = 5 ∧ s'.get K.identityState = 2 ∧ s'.get K.frontFaultCode = 7)
        ∧ (n = 5 → s.vault.readBack = false → s'.vault.clearStep = 0 ∧ s'.boot = .cleared ∧ s'.get K.scanState = 3)
        ∧ (n = 5 → s.vault.readBack = true → s.get K.scanState ≠ 3 → s'.vault.clearStep = 6)
        ∧ (n = 6 → s'.vault.clearStep = 0 ∧ s'.boot = .cleared ∧ s'.get K.scanState = 2))
    ∧ (∀ chk : FwCheck, s.dipping = true → exec (.firmwareInstall r chk) s = .next s)
    ∧ (∀ chk : FwCheck, s.dipping = false → Passes s r K.firmwareInstall x →
        let code := s.fwCode r.payload chk
        let n := fwType r.payload
        Served (.firmwareInstall r chk) s r x (if code = 0 then BjAns.of Bj.ok else ⟨Bj.domainRejected, code, []⟩) fun s1 =>
          s1.get K.lastFirmwareStatus = code
            ∧ (∀ b, b ≠ n → s1.block b = s.block b)
            ∧ ((code = 1 ∨ code = 2) → s1.flash = s.flash)
            ∧ (code = 3 → (s1.block n).a = (s.block n).a ∧ (s1.block n).b.intact = false)
            ∧ (code = 0 → (s1.block n).a = (s1.block n).b ∧ 1 ≤ n ∧ n ≤ 3
              ∧ (s1.block n).a
                = ⟨true, (s.block n).nextSeq, [(0, fwSvn r.payload), (1, leNat (sm3Bytes (r.payload.drop 256)))]⟩))
    ∧ ∀ chk : FwCheck, s.dipping = false → s.recovers r = true → r.ends = true → s.endMismatch r = false →
        let b := s.uploaded r
        s.fwCode b chk = 0 → fwType b = 1 → Ends (.firmwareInstall r chk) s fun s' =>
          s'.boot = .booting ∧ s'.get K.lastResetKind = 2
            ∧ (s'.block 1).a = ⟨true, (s.block 1).nextSeq, [(0, fwSvn b), (1, leNat (fwDigest b))]⟩

namespace Sys2Proof.Claims

/-- The boot node takes the request: it serves, the link is there, and the address is not dropped (R539, R546, R547). -/
def Taken (s : State) (r : BjReq) : Prop := s.serves = true ∧ s.reached r = true ∧ s.dropsFrom r = false

/-- A well-formed request of the M-port outside any session. -/
def Plain (s : State) (r : BjReq) : Prop := Taken s r ∧ r.console = false ∧ r.session = 0 ∧ r.wellFormed = true

/-- A request of the M-port that names an open session. -/
def Named (s : State) (r : BjReq) (x : Session) : Prop :=
  Taken s r ∧ r.console = false ∧ r.session ≠ 0 ∧ s.session r.session = some x

/-- Rows of requests with a request and the operation that its reply names. -/
def requestRow : Instr → Option (BjReq × Nat)
  | .bjRead r => some (r, Op.read)
  | .readSeg r => some (r, Op.readSeg)
  | .bjWrite r => if ownRow r then none else some (r, Op.write)
  | .writeSeg r => some (r, Op.writeSeg)
  | .writeEnd r => if ownRow r then none else some (r, Op.writeEnd)
  | .sessionOpen r _ _ _ => some (r, Op.sessionOpen)
  | .sessionClose r => some (r, Op.sessionClose)
  | _ => none

/-- A fresh request of a session is answered with `a`; the answer is kept under its SEQ (R542). -/
def Replied (c : Instr) (s : State) (r : BjReq) (x : Session) (op : Nat) (a : BjAns) (P : State → Prop) : Prop :=
  ∃ s1, P s1 ∧
    let o := replyOf r op r.session (some x.kid) a
    exec c s = .next ((s1.keepReply x.num r.seq o).emit o)

/-- The reply of a request outside any session. -/
def plainReply (r : BjReq) (op : Nat) (a : BjAns) : Out := replyOf r op 0 none a

end Sys2Proof.Claims

/-- Words of tile instructions (R83, R87 to R103, R598). Word 0 and word 1 of every instruction, its reserved bits among them,
decode to that instruction; and words that decode to an instruction are its words, so no bit of them is without a meaning. -/
def Obligations.TileEncoding : Prop :=
  (∀ i : Tis, Tis.ofWords i.word i.word1 = some i)
  ∧ ∀ (w v : Word) (i : Tis), Tis.ofWords w v = some i → i.word = w ∧ (i.words = 2 → i.word1 = v)

/-- A raw program that runs into words that are no instruction, or one with a reserved bit set, is over with TILE_FAULT: the
tile faults with ILLEGAL_INSTRUCTION while the block idles (R87, R105; log 138, the model's choice of the moment). -/
def Sys2Proof.Claims.FetchFaults : Prop :=
  ∀ (s : State) (t : Nat) (x : Tile) (j : JobId), s.pending = [] → s.tiles = [(t, x)] → s.check.disputes = [] →
    s.vault.clearStep = 0 → s.vault.quotes = [] → x.enabled = true → x.core.run = .running → x.units.meq = [] →
    x.units.vuq = [] → x.units.mu = [] → x.role ≠ 2 → x.role ≠ 3 → s.rawOwner t = some j →
    (∀ i, Tis.ofWords (x.instr x.core.pc.toNat) (x.instr (x.core.pc.toNat + 1)) = some i → i.legal = false) →
    ∃ s', step s = .next s' ∧ AnsweredBy s s' j { Answer.of St.tileFault with
      mstat := x.core.mstat.toNat
      detail := faultDetail FaultCode.illegalInstruction.code t }

/-- The routers (R211, R212, R217). A message has one path, along its row and then along its column, over links of
neighbours, which crosses each stitch between its rows once. An output serves a class that has waited 32 handshakes before any
other, else the first in the order RSP-P, REQ-P, RSP-O, REQ-O; so a class that waits is served within 36 handshakes, whatever
else keeps arriving. -/
def Sys2Proof.Claims.Routers : Prop :=
  (∀ a b : Node, let p := pathOf a b
    p.head? = some a ∧ p.getLast? = some b ∧ p.Nodup ∧ (∀ n ∈ p, n.1 = a.1 ∨ n.2 = b.2)
      ∧ p.length = (max a.2 b.2 - min a.2 b.2) + (max a.1 b.1 - min a.1 b.1) + 1
      ∧ stitches a b = max (fieldOf a.1) (fieldOf b.1) - min (fieldOf a.1) (fieldOf b.1)
      ∧ (routerAt a = true → routerAt b = true → (∀ n ∈ p, routerAt n = true)
        ∧ ∀ q ∈ p.zip (p.drop 1), q.2 ∈ routerLinks q.1))
  ∧ ∀ o : RouterOut,
    (o.next = none ↔ o.waits = [])
    ∧ (∀ c, o.next = some c →
        (∃ n, (c, n) ∈ o.waits)
        ∧ ((∃ w ∈ o.waits, 32 ≤ w.2) → ∃ n, (c, n) ∈ o.waits ∧ 32 ≤ n)
        ∧ ((∀ w ∈ o.waits, w.2 < 32) → ∀ d ∈ NetClass.order.takeWhile (fun x => x ≠ c), ∀ n, (d, n) ∉ o.waits)
        ∧ ∀ (more : Bool) (d : NetClass) (n : Nat), (d ≠ c → ((d, n) ∈ o.waits ↔ (d, n + 1) ∈ (o.serve more).waits))
          ∧ ((c, n) ∈ (o.serve more).waits ↔ more = true ∧ n = 0))
    ∧ ∀ (ms : List Bool) (c : NetClass) (n : Nat), (o.waits.map (·.1)).Nodup → ms.length = 36 → (c, n) ∈ o.waits →
        ∃ k, k < 36 ∧ ((ms.take k).foldl RouterOut.serve o).next = some c

/-- How module memory lies in its packages (R251, R254 to R258, R263). Two lines never share a place: sub-channel, local
granule and line within it tell them apart, and column block, bank and row the granules of a sub-channel; near lines lie in
sub-channels 32 to 63, far ones in the rest, each within the sub-channel's size. The regions follow each other without a gap
over both tiers; spill rings lie in theirs, apart from each other. A line takes two bursts of 32 bytes with 32 check bits. -/
def Sys2Proof.Claims.MemoryLayout : Prop :=
  (∀ a b : Nat, a < 2 ^ 34 → b < 2 ^ 34 → subChannel a = subChannel b → localGranule a = localGranule b → a % 4 = b % 4 → a = b)
  ∧ (∀ m n : Nat, columnOf m = columnOf n → bankIn m = bankIn n → rowIn m = rowIn n → m = n)
  ∧ (∀ a : Nat, a < 2 ^ 34 → subChannel a < 96 ∧ (32 ≤ subChannel a ∧ subChannel a < 64 ↔ a < 2 ^ 32)
      ∧ (a < 2 ^ 32 → localGranule a < 8 * 2 ^ 22) ∧ (2 ^ 32 ≤ a → localGranule a < 12 * 2 ^ 22)
      ∧ bankIn (localGranule a) < 16 ∧ columnOf (localGranule a) < 8)
  ∧ (∀ a : Nat, a < 2 ^ 40 → ∃ r, Region.holds r a 1 = true ∧ ∀ q, Region.holds q a 1 = true → q = r)
  ∧ (∀ t u k l : Nat, t < 624 → u < 624 → t ≠ u → k < 2 ^ 20 → l < 2 ^ 20 →
      Region.holds .spillRings (spillRing t) (2 ^ 20) = true ∧ spillRing t + k ≠ spillRing u + l)
  ∧ ∀ (key line : Nat) (data : List Byte), (lineBursts key line data).length = 2
      ∧ (∀ p ∈ lineBursts key line data, p.1.length = 32 ∧ p.2.length = 4)
      ∧ (lineBursts key line data).flatMap (·.1) = lineCipher key line data
      ∧ (lineBursts key line data).flatMap (·.2) = checkBits (lineCipher key line data)

/-- How requests are taken (R537, R539, R540, R542). Nothing happens while the boot node does not serve, without the link,
or from an address that is dropped. A console asks without a session. An unknown session and a wrong TAG are failures, the
sixteenth of which within 60 s drops the address; a SEQ answered already gets its reply again, an older one is dropped and
counted. -/
def Obligations.RequestGate : Prop :=
  ∀ (c : Instr) (s : State) (r : BjReq) (op : Nat), requestRow c = some (r, op) →
    (s.recovers r = false → ¬ Taken s r → exec c s = .next s)
    ∧ (Taken s r → r.console = true → r.session ≠ 0 →
        exec c s = .next (s.emit (replyOf r op r.session none (BjAns.of Bj.accessDenied))))
    ∧ (Taken s r → r.console = false → r.session ≠ 0 → s.session r.session = none → r.wellFormed = true →
        Ends c s fun s' => Counted s s' K.authFailures 1 ∧ s'.mgmt.sessions = s.mgmt.sessions
          ∧ s'.out = s.out ++ [replyOf r op r.session none (BjAns.of Bj.sessionUnknown)])
    ∧ ∀ x, Named s r x →
        (r.tagOk = false → r.wellFormed = true → Ends c s fun s' =>
          Counted s s' K.authFailures 1 ∧ s'.mgmt.sessions = s.mgmt.sessions
            ∧ s'.out = s.out ++ [replyOf r op r.session none (BjAns.of Bj.authFail)]
            ∧ (∀ f, (s.mgmt.fails.find? fun f => f.ip = r.ip) = some f →
              15 ≤ (f.times.filter fun t => decide (s.timeBase < t + 60000000000)).length → s'.dropsFrom r = true))
        ∧ (r.tagOk = false → r.wellFormed = false → exec c s = .next s)
        ∧ (r.tagOk = true → r.wellFormed = false →
          exec c s = .next (s.emit (replyOf r op r.session (some x.kid) (BjAns.of Bj.format))))
        ∧ (∀ o, r.tagOk = true → r.wellFormed = true → x.lastSeq = some r.seq → x.lastReply = some o →
          exec c s = .next (s.emit o))
        ∧ (∀ q, r.tagOk = true → r.wellFormed = true → x.lastSeq = some q → r.seq < q →
          exec c s = .next (s.bump K.berjorStaleDrops 1))

/-- Reads and writes of entries without a row of their own, and uploads (R533, R541, R543, R544, R547, R557). A read that
fails a check is refused with its status; one that passes changes nothing and answers the value. A written value is in force.
Segments follow each other, one session at a time; a wrong length or digest ends an upload; one idle for 60 s is dropped. -/
def Obligations.EntryAccess : Prop :=
  ∀ (s : State) (r : BjReq) (x : Session),
    (∀ c op, ((c = .bjRead r ∧ op = Op.read) ∨ (c = .readSeg r ∧ op = Op.readSeg)) → InSession s r x →
        ∀ st, s.readFails r (some x.level) = some st → Replied c s r x op (BjAns.of st) (· = s))
    ∧ (InSession s r x → s.readFails r (some x.level) = none →
        let v := s.valueAt r
        Replied (.bjRead r) s r x Op.read ⟨Bj.ok, v.2, v.1⟩ (· = s)
        ∧ (entryAt r.index.toNat r.sub.toNat = none → ∀ n, highestSub r.index.toNat = some n → v = ([BitVec.ofNat 8 n], 0))
        ∧ (r.key = K.powerLimit → leNat v.1 = s.get K.powerLimit % 2 ^ keyBits K.powerLimit)
        ∧ (isDomain r = true → Replied (.readSeg r) s r x Op.readSeg
            ⟨Bj.ok, detailLength (s.domainLength r.key), s.domainBytes r.key r.offset (min r.len 1024)⟩ (· = s))
        ∧ (isDomain r = false → Replied (.readSeg r) s r x Op.readSeg
            ⟨Bj.ok, v.1.length, (v.1.drop r.offset).take (min r.len 1024)⟩ (· = s)))
    ∧ (Passes s r r.key x → ownRow r = false →
        Served (.bjWrite r) s r x (BjAns.of Bj.ok) fun s1 =>
          (r.key ≠ K.operatorKeys → r.key ≠ K.notifyMask → s1.get r.key = written r ∧ ∀ k, k ≠ r.key → s1.get k = s.get k)
            ∧ ((r.key = K.operatorKeys ∨ r.key = K.notifyMask) → s1.octet r.key = r.payload)
            ∧ (r.key = K.operatorKeys → ∀ y ∈ s1.mgmt.sessions, y.level = .operator →
              y.key ∈ s.operatorKeyList → y.key ∈ s1.operatorKeyList))
    ∧ (InSession s r x → headFails r (some x.level) = none → s.imageStop r = false →
        (ownRow r = false → isDomain r = false → Replied (.writeEnd r) s r x Op.writeEnd (BjAns.of Bj.typeMismatch) (· = s))
        ∧ (ownRow r = false → isDomain r = true → s.endMismatch r = true →
          Replied (.writeEnd r) s r x Op.writeEnd (BjAns.of Bj.digestMismatch) fun s1 => s1.uploaded r = [])
        ∧ (r.key = K.operatorKeys → s.endMismatch r = false → s.valueFails r (s.uploaded r) = none →
          Replied (.writeEnd r) s r x Op.writeEnd (BjAns.of Bj.ok) fun s1 =>
            s1.octet K.operatorKeys = s.uploaded r ∧ s1.uploaded r = [])
        ∧ (isDomain r = true → r.offset + r.payload.length ≤ domainLimit r.key → s.abanoAway r = false →
          (s.uploadBusy r = true → Replied (.writeSeg r) s r x Op.writeSeg (BjAns.of Bj.entryBusy) (· = s))
          ∧ (s.uploadBusy r = false → r.offset ≠ (s.uploaded r).length →
            Replied (.writeSeg r) s r x Op.writeSeg (BjAns.of Bj.segmentOrder) (· = s))
          ∧ (s.uploadBusy r = false → r.offset = (s.uploaded r).length →
            Replied (.writeSeg r) s r x Op.writeSeg (BjAns.of Bj.ok) fun s1 => s1.uploaded r = s.uploaded r ++ r.payload)))
    ∧ (s.recovers r = true → r.offset + r.payload.length ≤ domainLimit r.key → s.uploadBusy r = false →
        r.offset = (s.uploaded r).length → Ends (.writeSeg r) s fun s' =>
          s'.uploaded r = s.uploaded r ++ r.payload ∧ s'.out = s.out ++ [plainReply r Op.writeSeg (BjAns.of Bj.ok)])
    ∧ ∀ entry idleS : Nat,
        (idleS < 60 → exec (.uploadAbandon entry idleS) s = .next s)
        ∧ (60 ≤ idleS → Ends (.uploadAbandon entry idleS) s fun s' =>
          (∀ u, u ∈ s'.mgmt.uploads ↔ u ∈ s.mgmt.uploads ∧ u.key ≠ entry)
            ∧ { s' with mgmt := { s'.mgmt with uploads := s.mgmt.uploads } } = s)

/-- Sessions (R537 to R539). An open gives a nonce; its proof gives a session of the level the key may have; a close, a lapse
and an idle time end what they name; a dropped address is heard again after 60 s. -/
def Obligations.Sessions : Prop :=
  ∀ (s : State) (r : BjReq),
    (∀ (level : Level) (key : List Byte) (endorsed : Bool), Plain s r →
        let c := Instr.sessionOpen r level key endorsed
        ((level = .observer ∨ key.length ≠ 64) → exec c s = .next (s.emit (plainReply r Op.sessionOpen (BjAns.of Bj.format))))
        ∧ (level ≠ .observer → key.length = 64 →
          (8 ≤ s.mgmt.sessions.length + s.mgmt.opens.length →
            exec c s = .next (s.emit (plainReply r Op.sessionOpen (BjAns.of Bj.sessionLimit))))
          ∧ (s.mgmt.sessions.length + s.mgmt.opens.length < 8 → s.revoked = true →
            exec c s = .next (s.emit (plainReply r Op.sessionOpen (BjAns.of Bj.identityRevoked))))
          ∧ (s.mgmt.sessions.length + s.mgmt.opens.length < 8 → s.revoked = false → Ends c s fun s' =>
            s'.mgmt = { s.mgmt with opens := s.mgmt.opens ++ [⟨r.ip, s.freeCount, level, key, endorsed⟩] }
              ∧ s'.out = s.out ++ [plainReply r Op.sessionOpen ⟨Bj.ok, 0, openReply s.freeCount key⟩]
              ∧ { s' with mgmt := s.mgmt, out := s.out, freeCount := s.freeCount } = s)))
    ∧ (∀ sigOk : Bool, Plain s r →
        let c := Instr.sessionProve r sigOk
        let mine := s.mgmt.opens.filter fun o => o.ip = r.ip
        (mine.getLast? = none → Ends c s fun s' => Counted s s' K.authFailures 1 ∧ s'.mgmt.sessions = s.mgmt.sessions
            ∧ s'.out = s.out ++ [plainReply r Op.sessionProve (BjAns.of Bj.authFail)])
        ∧ (∀ o, mine.getLast? = some o →
          ((sigOk = false ∨ s.keyGranted o = false) → Ends c s fun s' => Counted s s' K.authFailures 1
            ∧ s'.mgmt.sessions = s.mgmt.sessions ∧ (∀ p ∈ s'.mgmt.opens, p.num ≠ o.num)
            ∧ s'.out = s.out ++ [plainReply r Op.sessionProve (BjAns.of Bj.authFail)])
          ∧ (sigOk = true → s.keyGranted o = true → Ends c s fun s' =>
            s'.mgmt.sessions = s.mgmt.sessions ++ [⟨s.mgmt.nextSession, s.freeCount, o.level, o.key, none, none⟩]
              ∧ s'.mgmt.nextSession = s.mgmt.nextSession + 1 ∧ (∀ p ∈ s'.mgmt.opens, p.num ≠ o.num)
              ∧ s'.out = s.out ++ [replyOf r Op.sessionProve s.mgmt.nextSession (some s.freeCount) (BjAns.of Bj.ok)])))
    ∧ (∀ x, InSession s r x → Replied (.sessionClose r) s r x Op.sessionClose (BjAns.of Bj.ok) fun s1 =>
        s1.session r.session = none ∧ (∀ n, n ≠ r.session → s1.session n = s.session n)
          ∧ (∀ u ∈ s1.mgmt.uploads, u.session ≠ r.session))
    ∧ (∀ n elapsedMs : Nat,
        (elapsedMs < 10000 → exec (.sessionOpenLapse n elapsedMs) s = .next s)
        ∧ (10000 ≤ elapsedMs → exec (.sessionOpenLapse n elapsedMs) s =
          .next { s with mgmt := { s.mgmt with opens := s.mgmt.opens.filter fun o => o.num ≠ n } }))
    ∧ (∀ n idleS : Nat,
        (idleS < s.get K.sessionIdleS → exec (.sessionIdle n idleS) s = .next s)
        ∧ (s.get K.sessionIdleS ≤ idleS → Ends (.sessionIdle n idleS) s fun s' =>
          s'.session n = none ∧ ∀ m, m ≠ n → s'.session m = s.session m))
    ∧ ∀ (ip : BitVec 32) (elapsedS : Nat),
        (elapsedS < 60 → exec (.addressDropExpire ip elapsedS) s = .next s)
        ∧ (60 ≤ elapsedS → Ends (.addressDropExpire ip elapsedS) s fun s' =>
          (∀ q : BjReq, q.ip = ip → s'.dropsFrom q = false)
            ∧ { s' with mgmt := { s'.mgmt with fails := s.mgmt.fails } } = s)

/-- Notifications and links (R546, R549 to R551, R557, R584). An acknowledgement from a destination stops an alarm; an alarm
without one is sent again once a second, eight times in all; suppressed events leave as one message; messages that waited go
out when the link comes up. -/
def Sys2Proof.Claims.Notifications : Prop :=
  ∀ s : State,
    (∀ r : BjReq, Taken s r → r.console = false → r.wellFormed = true →
        (s.isDest r.ip = false → exec (.notifyAck r) s = .next s)
        ∧ (s.isDest r.ip = true → exec (.notifyAck r) s = .next { s with mgmt := { s.mgmt with
            unacked := s.mgmt.unacked.filter fun u => u.nseq ≠ leAt r.payload 0 4 } }))
    ∧ (∀ nseq ms : Nat,
        let f := s.mgmt.unacked.find? fun n => n.nseq = nseq
        (f = none → exec (.alarmResend nseq ms) s = .next s)
        ∧ (∀ n, f = some n →
          ((ms < 1000 ∨ 8 ≤ n.sends ∨ s.get K.mportLink ≠ 1 ∨ 64 ≤ s.sentNow) → exec (.alarmResend nseq ms) s = .next s)
          ∧ (1000 ≤ ms → n.sends < 8 → s.get K.mportLink = 1 → s.sentNow < 64 → n.alarm = true →
            Ends (.alarmResend nseq ms) s fun s' => { n with sends := n.sends + 1 } ∈ s'.mgmt.unacked
              ∧ s'.sentNow = s.sentNow + 1 ∧ (n.sends = 7 → Counted s s' K.alarmsUnacked 1)
              ∧ (n.sends < 7 → s'.get K.alarmsUnacked = s.get K.alarmsUnacked)
              ∧ (∀ i, i < 4 → s.get (K.notifyDest (i + 1)) ≠ 0 →
                .notify (s.get (K.notifyDest (i + 1))) { n with sends := n.sends + 1 }.bytes ∈ s'.out))))
    ∧ (∀ code : Nat,
        let b := s.bucket code
        (b.supp = 0 → Ends (.notifyTokenRefill code) s fun s' => s'.bucket code = { b with spent := b.spent - 1 }
          ∧ ∀ d, d ≠ code → s'.bucket d = s.bucket d)
        ∧ (b.supp ≠ 0 → s.sentNow < 64 → s.get K.mportLink ≠ 1 → s.mgmt.queue.length < 256 →
          Ends (.notifyTokenRefill code) s fun s' => (s'.bucket code).supp = 0
            ∧ s'.mgmt.queue = s.mgmt.queue ++ [⟨code, isAlarm code, 0, s.mgmt.nseq + 1, b.time, b.cal, b.supp, b.arg⟩]))
    ∧ (∀ up : Bool,
        (s.power.phase ≠ .up → exec (.mportLinkChange up) s = .next s)
        ∧ (s.power.phase = .up → Ends (.mportLinkChange up) s fun s' => s'.get K.mportLink = (if up then 1 else 0)
          ∧ (up = false → s' = s.set K.mportLink 0)
          ∧ (up = true → s.mgmt.queue.length + s.sentNow ≤ 64 → s'.mgmt.queue = [])))
    ∧ ∀ vbus : Bool, exec (.consoleAttach vbus) s = .next { s with front := { s.front with console := vbus } }

/-- Boot flash and the recorder (R305, R515 to R517, R563 to R565, R568). A block is written B then A, read back, and waits
until both are good; an interval ends in records and starts anew; a page goes to both rings; a clear ends in its CLEARED
record. Held flash writes wait. -/
def Obligations.FlashAndRecorder : Prop :=
  ∀ s : State,
    (∀ okB okA : Bool,
        ((s.flashFree = false ∨ s.flash.waiting.find? s.mayWrite = none) → exec (.flashBlockWrite okB okA) s = .next s)
        ∧ (∀ b, s.flashFree = true → s.flash.waiting.find? s.mayWrite = some b →
          let c : FlashCopy := ⟨true, (s.block b).nextSeq, s.blockBody b⟩
          Ends (.flashBlockWrite okB okA) s fun s' =>
            (∀ d, d ≠ b → s'.block d = s.block d)
              ∧ (okB = false → (s'.block b).a = (s.block b).a ∧ (s'.block b).b.intact = false ∧ s'.flash.waiting = s.flash.waiting)
              ∧ (okB = true → okA = false → (s'.block b).b = c ∧ (s'.block b).a.intact = false
                ∧ s'.flash.waiting = s.flash.waiting)
              ∧ (okB = true → okA = true → s'.block b = ⟨c, c⟩ ∧ ∀ d, d ∈ s'.flash.waiting ↔ d ∈ s.flash.waiting ∧ d ≠ b)
              ∧ (okB = true → b = Blk.security → s'.vault.sealBlock = s.vault.reserved)))
    ∧ (s.power.phase = .up → s.serves = true → Ends .persistFlush s fun s' =>
        Blk.dictionary ∈ s'.flash.waiting ∧ { s' with flash := s.flash } = s)
    ∧ ((s.power.phase ≠ .up ∨ s.serves = false) → exec .persistFlush s = .next s)
    ∧ (s.power.phase = .up → s.ready = true → Ends .recorderIntervalEnd s fun s' =>
        s'.recorder.hists = [] ∧ s'.recorder.notices = [] ∧ s'.recorder.began = s.timeBase
          ∧ s'.recorder.interval = s.get K.recorderIntervalS
          ∧ (s.recorder.clearing = 0 → s.recorder.notices = [] → s'.recorder.next = s.recorder.next + 10)
          ∧ (s.recorder.clearing ≠ 0 → s'.recorder.next = s.recorder.next ∧ s'.recorder.far = s.recorder.far))
    ∧ ((s.power.phase ≠ .up ∨ s.ready = false) → exec .recorderIntervalEnd s = .next s)
    ∧ (s.flashFree = false → exec .recorderFlashPage s = .next s)
    ∧ (s.flashFree = true → Ends .recorderFlashPage s fun s' =>
        let p := pageOf s.recorder.buffer
        s'.recorder.buffer = s.recorder.buffer.drop p.length ∧ s'.recorder.far = s.recorder.far
          ∧ (s.recorder.buffer = [] → s' = s)
          ∧ (∀ b, p = [b] → look (fun _ => []) s'.recorder.flashA (flashSlot b) = b
            ∧ look (fun _ => []) s'.recorder.flashB (flashSlot b) = b))
    ∧ (s.recorder.clearing = 1 → Ends .recorderClearDone s fun s' =>
        s'.recorder.clearing = 0 ∧ s'.recorder.behind = [] ∧ s'.recorder.flashA = s.recorder.flashA
          ∧ s'.recorder.flashB = s.recorder.flashB
          ∧ (s.recorder.behind = [] → s'.recorder.next = s.recorder.next + 1 ∧ s'.recorder.far.length = 1))
    ∧ (s.recorder.clearing = 2 → s.flashFree = true → Ends .recorderClearDone s fun s' =>
        s'.recorder.clearing = 0 ∧ s'.recorder.flashA = [] ∧ s'.recorder.flashB = []
          ∧ (s.recorder.behind = [] → s'.recorder.next = s.recorder.next + 1 ∧ s'.recorder.far.length = 1
            ∧ s'.recorder.buffer.length = 1))
    ∧ ((s.recorder.clearing ≠ 1 ∧ (s.recorder.clearing ≠ 2 ∨ s.flashFree = false)) → exec .recorderClearDone s = .next s)

/-- The test port (R315, R513). Without rails it does nothing. EXTEST, CLAMP and HIGHZ take the pins of a quiesced module
only and close the P classes; internal scan opens after clearing only; a code that is not listed acts as BYPASS; leaving an
instruction that took the pins cycles the rails and starts the module cold with cause 3. -/
def Obligations.TestInstructions : Prop :=
  ∀ s : State,
    let drives : List (Instr × Nat) := [(.extest, Jtag.extest), (.clamp, Jtag.clamp), (.highz, Jtag.highz)]
    (∀ c ∈ [Instr.extest, .clamp, .highz, .idcode, .samplePreload, .inscan, .bypass], s.power.phase ≠ .up → exec c s = .next s)
    ∧ (∀ p ∈ [((0x00 : BitVec 8), Instr.extest), (0x01, .idcode), (0x02, .samplePreload), (0x04, .clamp), (0x05, .highz),
        (0x20, .inscan), (0xFF, .bypass)], exec p.2 s = .next (s.testPort fun s => s.shiftIr p.1))
    ∧ (∀ code : BitVec 8, code ∉ ([0x00, 0x01, 0x02, 0x04, 0x05, 0x20] : List (BitVec 8)) → s.shiftIr code = s.shiftIr 0xFF)
    ∧ (s.power.phase = .up →
        (∀ p ∈ drives, s.vault.testInstr = p.2 → exec p.1 s = .next s)
        ∧ (takesPins s.vault.testInstr = false →
          (∀ p ∈ drives,
            (s.quiesced = true → Ends p.1 s fun s' => s'.vault = { s.vault with testInstr := p.2, pinsFromRegister := true }
              ∧ (s'.get K.priorityClassState = 1 ∨ s'.get K.priorityClassState = 2)
              ∧ { s' with vault := s.vault, dict := s.dict } = s)
            ∧ (s.quiesced = false → exec p.1 s = .next (s.setTest Jtag.bypass)))
          ∧ exec .idcode s = .next ((s.setTest Jtag.idcode).emit (.testData idcodeWord))
          ∧ (idcodeWord % 2 = 1 ∧ idcodeWord / 4096 % 65536 = 0xA048)
          ∧ (Ends .samplePreload s fun s' => s'.vault.testInstr = Jtag.sample
            ∧ { s' with vault := s.vault, freeCount := s.freeCount } = s)
          ∧ (s.get K.scanState = 2 → exec .inscan s = .next (s.setTest Jtag.inscan))
          ∧ (s.get K.scanState ≠ 2 → Ends .inscan s fun s' => s'.vault = { s.vault with testInstr := Jtag.bypass })
          ∧ exec .bypass s = .next (s.setTest Jtag.bypass))
        ∧ (takesPins s.vault.testInstr = true → ∀ p ∈ [(Instr.bypass, Jtag.bypass), (.idcode, Jtag.idcode)],
          Ends p.1 s fun s' => Restarts s s' 1 3 ∧ s'.vault.testInstr = p.2))

/-- Calendar time (R553 to R555). An estimate shows its master, offset and rate; sixteen within 1 µs in a row lock the port
and set calendar time; while locked an offset beyond 1 ms steps the clock and a smaller one only turns its rate; three seconds
of silence begin holdover. -/
def Sys2Proof.Claims.CalendarTime : Prop :=
  ∀ s : State,
    let p := s.mgmt.ptp
    (∀ (master : BitVec 64) (off rate : Int) (scale : Bool),
        let c := Instr.ptpSync master off rate scale
        ((scale = false ∨ s.ptpOn = false) → exec c s = .next s)
        ∧ (scale = true → s.ptpOn = true → Ends c s fun s' =>
          s'.get K.ptpMaster = master.toNat ∧ s'.mgmt.ptp.rate = max (-500000) (min 500000 rate)
            ∧ s'.mgmt.ptp.anchor = s.timeBase
            ∧ (-(2 ^ 31) ≤ off → off < 2 ^ 31 → s'.get K.ptpOffsetNs = ofInt 32 off)
            ∧ (s.get K.ptpState = 2 → -1000000 ≤ off → off ≤ 1000000 → s'.get K.ptpState = 2 ∧ s'.calendar = s.calendar
              ∧ s'.get K.calendarSteps = s.get K.calendarSteps)
            ∧ (s.get K.ptpState = 2 → p.isSet = true → (off < -1000000 ∨ 1000000 < off) →
              s'.calendar = (p.clockAt s.timeBase + off).toNat % 2 ^ 64 ∧ Counted s s' K.calendarSteps 1)
            ∧ (s.get K.ptpState ≠ 2 → -1000 ≤ off → off ≤ 1000 → 15 ≤ p.good →
              s'.get K.ptpState = 2 ∧ s'.mgmt.ptp.isSet = true
                ∧ s'.calendar = (p.clockAt s.timeBase + if p.isSet then 0 else off).toNat % 2 ^ 64)
            ∧ (s.get K.ptpState ≠ 2 → -1000 ≤ off → off ≤ 1000 → p.good < 15 →
              s'.get K.ptpState = 1 ∧ s'.mgmt.ptp.good = p.good + 1 ∧ s'.mgmt.ptp.isSet = p.isSet)
            ∧ (s.get K.ptpState ≠ 2 → (off < -1000 ∨ 1000 < off) → s'.get K.ptpState = 1 ∧ s'.mgmt.ptp.good = 0)))
    ∧ ∀ ms : Nat,
        ((ms < 3000 ∨ s.get K.ptpState ≠ 2) → exec (.ptpHoldover ms) s = .next s)
        ∧ (3000 ≤ ms → s.get K.ptpState = 2 → Ends (.ptpHoldover ms) s fun s' =>
          s'.get K.ptpState = 3 ∧ s'.mgmt.ptp = { p with good := 0 } ∧ s'.calendar = s.calendar)

/-- The light bar (R581, R582). A segment is red for a retired strand of its row; else amber for a half-row without a usable
spare, a tile at tile_health 1, 2, 3 or 6, or a sub-channel with an uncorrectable error or without training; else green. A
fault code shows before quiesce, quiesce before a start, and a start before the rows. -/
def Sys2Proof.Claims.LightBarShows : Prop :=
  ∀ s : State,
    (∀ r, r < 24 →
        let red := (s.strand (2 * r)).phase = .retired ∨ (s.strand (2 * r + 1)).phase = .retired
        let amber := s.spareUsable (2 * r) = false ∨ s.spareUsable (2 * r + 1) = false
          ∨ (∃ t, 26 * r ≤ t ∧ t < 26 * r + 26 ∧ s.healthOf t ∈ [1, 2, 3, 6])
          ∨ ∃ n, 4 * r ≤ n ∧ n < 4 * r + 4 ∧ (s.get (K.subchUncorrectable n) ≠ 0 ∨ s.get (K.subchTrainState n) = 2)
        (red → s.rowColour r = .red) ∧ (¬ red → amber → s.rowColour r = .amber) ∧ (¬ red → ¬ amber → s.rowColour r = .green))
    ∧ (s.get K.frontFaultCode ≠ 0 → s.lightBar = .fault (s.get K.frontFaultCode))
    ∧ (s.get K.frontFaultCode = 0 → s.quiesced = true → s.lightBar = .quiesced)
    ∧ (s.get K.frontFaultCode = 0 → s.quiesced = false → s.quiesceReq = true → s.lightBar = .quiesceReq)
    ∧ (s.get K.frontFaultCode = 0 → s.quiesced = false → s.quiesceReq = false →
        ((s.boot = .booting ∨ s.boot = .thawing) → s.lightBar = .starting)
        ∧ (s.boot = .ready → (s.front.awake = true ∨ s.get K.lightBarSleepS = 0) →
          ∃ l, s.lightBar = .rows l ∧ l.length = 24 ∧ ∀ r, r < 24 → l[r]? = some (s.rowColour r))
        ∧ (s.boot = .ready → s.front.awake = false → s.get K.lightBarSleepS ≠ 0 → s.lightBar = .asleep))

/-- The front face (R573, R576 to R581). A press asks for quiesce and a hold forces it; a button held for 30 s is stuck until
its release; a drained module writes flash and may be pulled; a touch lights the ring for 30 s. -/
def Sys2Proof.Claims.FrontFace : Prop :=
  ∀ s : State,
    (∀ (ms : Nat) (src : QSource),
        (s.front.stuck = true → exec (.serviceButtonPress ms src) s = .next { s with front := { s.front with stuck := false } })
        ∧ ((s.front.stuck = false ∧ (s.buttonActs src = false ∨ ms < 50 ∨ 2000 ≤ ms)) →
          exec (.serviceButtonPress ms src) s = .next s)
        ∧ (s.buttonActs src = true → 50 ≤ ms → ms < 2000 → Ends (.serviceButtonPress ms src) s fun s' =>
          Counted s s' K.buttonPresses 1
            ∧ (s.ready = true → s.front.quiesce = .none → s'.front.quiesce = .requested)
            ∧ (s.ready = true → s.front.quiesce ≠ .none → s'.front = s.front)
            ∧ (s.ready = false → s.front.waitQuiesce = none → s'.front = { s.front with waitQuiesce := some (false, src) }))
        ∧ ((s.buttonActs src = false ∨ ms < 5000) → exec (.serviceButtonHold ms src) s = .next s)
        ∧ (s.buttonActs src = true → 5000 ≤ ms → Ends (.serviceButtonHold ms src) s fun s' =>
          Counted s s' K.buttonPresses 1
            ∧ (s.ready = true → (s.front.quiesce = .none ∨ s.front.quiesce = .requested) → s'.front.quiesce = .forcing)
            ∧ (s.ready = false → s'.front = { s.front with waitQuiesce := some (true, src) })))
    ∧ (∀ ms : Nat,
        (s.power.phase = .up → s.front.stuck = false → 30000 < ms → Ends (.buttonStuck ms) s fun s' =>
          s'.front = { s.front with stuck := true })
        ∧ ((s.power.phase ≠ .up ∨ s.front.stuck = true ∨ ms ≤ 30000) → exec (.buttonStuck ms) s = .next s))
    ∧ (s.drained = true → Ends .quiesceDrained s fun s' => s'.front = { s.front with quiesce := .quiesced, modSafe := true }
        ∧ s'.recorder.buffer = [] ∧ ∀ b ∈ s'.flash.waiting, s.mayWrite b = false)
    ∧ (s.drained = false → exec .quiesceDrained s = .next s)
    ∧ (∀ ms : Nat,
        ((ms < 200 ∨ s.power.phase = .dark) → exec (.touch ms) s = .next s)
        ∧ (200 ≤ ms → s.power.phase ≠ .dark → Ends (.touch ms) s fun s' =>
          s'.front = { s.front with ringS := 30, flashing := false, awake := true }
            ∧ (s.power.phase = .up → s'.get K.identify = 0)))
    ∧ (∀ e : Nat,
        (e < 30 → exec (.identifyTimeout e) s = .next s)
        ∧ (30 ≤ e → exec (.identifyTimeout e) s = .next { s with front := { s.front with ringS := 0 } })
        ∧ ((s.get K.lightBarSleepS = 0 ∨ e < s.get K.lightBarSleepS) → exec (.lightBarSleep e) s = .next s)
        ∧ (s.get K.lightBarSleepS ≠ 0 → s.get K.lightBarSleepS ≤ e →
          exec (.lightBarSleep e) s = .next { s with front := { s.front with awake := false } }))

/-- Coolant and connector (R571 to R573, R589). Readings show as entries; no flow, low flow, a hot inlet and a failed sensor
each stand as a condition until they have been absent for 10 s, and cap the governor; an open signal is counted once. -/
def Sys2Proof.Claims.CoolantAndConnector : Prop :=
  ∀ s : State,
    (∀ (inlet outlet : Int) (flow lowFor absent : Nat) (ok : Bool),
        let c := Instr.coolantSample inlet outlet flow ok lowFor absent
        (s.power.phase ≠ .up → exec c s = .next s)
        ∧ (s.power.phase = .up → Ends c s fun s' =>
          (ok = true → s'.get K.coolantInlet = ofInt 16 inlet ∧ s'.get K.coolantOutlet = ofInt 16 outlet
            ∧ s'.get K.coolantFlow = flow % 65536)
          ∧ (ok = false → s'.get K.coolantState = 4 ∧ s'.power.flowCap = true ∧ s'.power.noFlow = false)
          ∧ (ok = true → flow < 50 → 2000 ≤ lowFor → s'.get K.coolantState = 2 ∧ s'.power.flowCap = true
            ∧ s'.power.noFlow = true)
          ∧ (ok = true → flow < 150 → (50 ≤ flow ∨ lowFor < 2000) → (s.get K.coolantState ≠ 2 ∨ 10000 ≤ absent) →
            s'.get K.coolantState = 1 ∧ s'.power.flowCap = true ∧ s'.power.noFlow = false)
          ∧ (ok = true → 150 ≤ flow → 450 < inlet → s'.get K.coolantState = 3 ∧ s'.power.flowCap = false)
          ∧ (ok = true → 150 ≤ flow → inlet ≤ 450 → 10000 ≤ absent → s'.get K.coolantState = 0 ∧ s'.power.flowCap = false)
          ∧ (ok = true → 150 ≤ flow → inlet ≤ 450 → absent < 10000 → s'.get K.coolantState = s.get K.coolantState)))
    ∧ (∀ (b : Fin 8) (ms : Nat),
        let v := s.get K.sidebandState
        ((ms < 10 ∨ v.testBit b.val = true ∨ s.power.phase = .dark) → exec (.sidebandOpen b ms) s = .next s)
        ∧ (10 ≤ ms → v.testBit b.val = false → s.power.phase ≠ .dark → Ends (.sidebandOpen b ms) s fun s' =>
          s'.get K.sidebandState = v + 2 ^ b.val
            ∧ (b.val = 0 → s.power.phase = .standby → s'.front.pwrEn = true)
            ∧ (3 ≤ b.val → b.val < 6 → (s'.get K.slotId).testBit (b.val - 3) = false)))
    ∧ (∀ id : BitVec 3,
        (s.power.phase ≠ .dark → exec (.moduleInsert id) s = .next s)
        ∧ (s.power.phase = .dark → bits (s.get K.sidebandState) 3 3 = 0 → Ends (.moduleInsert id) s fun s' =>
          s'.front = { s.front with slotId := id.toNat } ∧ s'.get K.slotId = id.toNat ∧ ∀ k, k ≠ K.slotId → s'.get k = s.get k))
    ∧ (s.power.phase = .dark → exec .smbFruRead s = .next s)
    ∧ (s.power.phase ≠ .dark → exec .smbFruRead s = .next (s.emit (.smbus (padTo 256 Config.fru))))

namespace Sys2Proof.Claims

/-- Rows that may write module memory or start the time base again: power and resets, thaws, memory accesses, segments of an
input, windows, tuning steps, firmware, a release, and the test port. -/
def loud : Instr → Bool
  | .powerUp .. | .railShort .. | .railRetry .. | .inputLost .. | .thermalShutdown .. | .pwrEnLow .. | .pwrEnRise ..
  | .vsocLow .. | .bootWatchdog .. | .serviceCoreWatchdog .. | .functionLevelReset | .hotReset | .fundamentalReset
  | .dipReset .. | .coldStart .. | .moduleReset .. | .thaw .. | .memRequest .. | .memWriteAck .. | .memReadReturn ..
  | .patrolScrub .. | .ingestSegment .. | .windowWrite ..
  | .tuneStep .. | .resetRequestThaw .. | .resetRequestModule .. | .fabricPacketArrive .. | .windowWriteLand ..
  | .firmwareInstall .. | .ownerRelease .. | .extest | .clamp | .highz | .idcode | .samplePreload | .inscan | .bypass => true
  | _ => false

/-- What every step keeps: module memory lists its bytes in rising order and none that reads as unlisted. -/
def Inv (s : State) : Prop := Memory.wf s.mem.cells

/-- A scratchpad address that the repair map leaves unmapped (R115, R116). -/
def Hole (ok : BitVec 24) (a : Nat) : Prop :=
  a < 0x300000 ∧
    let g := a / 0x100000
    let low := ∃ b, b < 4 ∧ ok.getLsbD (8 * g + b) = false
    let high := ∃ b, b < 4 ∧ ok.getLsbD (8 * g + 4 + b) = false
    (low ∧ high) ∨ ((low ∨ high) ∧ a / 0x80000 % 2 = 1)

end Sys2Proof.Claims

/-- A step runs the command at the front of the queue on the state with the rest of the queue; on an empty queue one
nanosecond passes, and neither the queue nor memory changes. -/
def Obligations.StepRunsTheFront : Prop :=
  (∀ (c : Instr) (q : List Instr) (s : State), step (s.withPending (c :: q)) = exec c (s.withPending q))
  ∧ ∀ s : State, s.pending = [] → ∃ s', step s = .next s' ∧ s'.pending = [] ∧ s'.timeBase = (s.timeBase + 1) % 2 ^ 64
      ∧ s'.mem.cells = s.mem.cells

/-- The state after reset: the queue is empty, the invariant holds, the time base is 0, the module boots without a memory
key, every entry reads its default, no key, plan, shard, session or window is there, and every tile is as a tile reset leaves
it. That registers which the spec gives no reset value are 0 is the model's choice (log entries 6, 9 and 10). -/
def Obligations.ResetState : Prop :=
  let s := State.reset
  Inv s ∧ s.pending = [] ∧ s.timeBase = 0 ∧ s.boot = .booting ∧ s.mem.keyPresent = false ∧ s.ready = false
    ∧ (∀ k, s.get k = dflt k) ∧ (∀ a, s.memByte a = 0) ∧ (∀ t, s.tile t = Tile.reset) ∧ (∀ st, s.strand st = Strand.reset)
    ∧ s.vault.keys = [] ∧ s.plans = [] ∧ s.shards = [] ∧ s.mgmt.sessions = [] ∧ (∀ w, s.window w = Window.closed)
    ∧ (∀ c, s.chan c = Channel.reset) ∧ s.out = []

/-- Every step goes on, takes exactly the front of the queue, keeps the invariant of module memory, and leaves the time base,
counts it up by one, or starts it again at 0: it is never stepped or set back otherwise (R52, R265). -/
def Obligations.StepInvariant : Prop :=
  ∀ s : State, ∃ s', step s = .next s' ∧ (Inv s → Inv s') ∧ s'.pending = s.pending.tail
    ∧ (s'.timeBase = s.timeBase ∨ (s.pending = [] ∧ s'.timeBase = (s.timeBase + 1) % 2 ^ 64) ∨ s'.timeBase = 0)

/-- Commands that touch neither module memory nor the time base: every row but those that power, reset, thaw, access memory,
take a segment, land in windows, open a tuning step, install firmware, release the owner, or use the test port. -/
def Obligations.MemoryFrame : Prop :=
  ∀ (c : Instr) (s : State), loud c = false → Ends c s fun s' =>
    (∀ a, s'.memByte a = s.memByte a) ∧ s'.mem.cells = s.mem.cells ∧ s'.timeBase = s.timeBase ∧ s'.pending = s.pending

/-- R326, while the module is ready and its BAR open: CHTBL_BASE and CHTBL_COUNT are written only while no channel has a
descriptor in flight; a write that is accepted empties the entry cache; a thaw, from its start to its end, keeps both. -/
def Obligations.ChannelTable : Prop :=
  ∀ (s : State) (v : BitVec 64) (w : Word),
    (s.barOpen = true → s.ready = true →
      ((∃ p ∈ s.host.channels, p.2.fly ≠ []) →
        exec (.chtblBaseWrite v) s = .next s ∧ exec (.chtblCountWrite w) s = .next s)
      ∧ ((∀ p ∈ s.host.channels, p.2.fly = []) →
        (Ends (.chtblBaseWrite v) s fun s' => s'.host.base = v &&& 0xFFFFFFFFFFFFF000 ∧ s'.host.count = s.host.count
          ∧ s'.host.lru = [])
        ∧ (Ends (.chtblCountWrite w) s fun s' => s'.host.count = min 4096 (w.toNat % 8192) ∧ s'.host.base = s.host.base
          ∧ s'.host.lru = [])))
    ∧ (Ends .functionLevelReset s fun s' => s'.host.base = s.host.base ∧ s'.host.count = s.host.count)
    ∧ (∀ ms, 500 ≤ ms → Ends (.serviceCoreWatchdog ms) s fun s' =>
        s'.host.base = s.host.base ∧ s'.host.count = s.host.count)
    ∧ ∀ ms, Ends (.thaw true ms) s fun s' => s'.host.base = s.host.base ∧ s'.host.count = s.host.count

/-- R336: a SUBMIT whose tail lies more than D ahead of the oldest descriptor not yet answered puts the channel in ERROR with
DOORBELL_RANGE; a CACK that moves the completion head past CTAIL is dropped and counted. -/
def Obligations.DoorbellRange : Prop :=
  ∀ (s : State) (c : Chan) (v : BitVec 16) (e : EntryRead), Rings s c 0 →
    let ch := s.chan c.val
    (ringD ch.ent < (v - ch.oldest).toNat → Ends (.submit c v 0 e) s fun s' =>
      (s'.chan c.val).state = 2 ∧ (s'.chan c.val).error = 2 ∧ (s'.chan c.val).tail = ch.tail ∧ OnlyChan s s' c.val)
    ∧ ((v - ch.oldest).toNat ≤ ringD ch.ent → Ends (.submit c v 0 e) s fun s' =>
      (s'.chan c.val).error = ch.error ∧ (s'.chan c.val).tail = v)
    ∧ ((ch.ctail - ch.cack).toNat < (v - ch.cack).toNat → Ends (.cack c v 0 e) s fun s' =>
      s'.chan c.val = ch ∧ Counted s s' K.barWritesDropped 1)
    ∧ ((v - ch.cack).toNat ≤ (ch.ctail - ch.cack).toNat → Ends (.cack c v 0 e) s fun s' =>
      (s'.chan c.val).cack = v ∧ s'.get K.barWritesDropped = s.get K.barWritesDropped)

/-- R222: a reply queue takes only replies, and every reply must go to one; a request to a reply queue and a reply to any
other queue are refused with QUEUE_KIND (status 5), whatever message of a tile's unit it is, at the first offer and at the
repeat. -/
def Obligations.ReplyQueues : Prop :=
  ∀ (s : State) (t : Slot) (i : Nat) (e : MuEntry) (m : Msg) (d : Nat), ∀ p ∈ offers (.tile t i),
    s.srcEntry (.tile t i) = some (m, p.2) → (s.tile t.val).units.mu[i]? = some e → m.hdr.token = false → m.hdr.dstEp = 0 →
    s.behind (.tile t i) m.hdr = false → slotOf m.hdr.dstRow.toNat m.hdr.dstPos.toNat = some d →
    let x := s.tile d
    let q := m.hdr.dstQ.toNat
    let c := x.queue q
    x.enabled = true → x.started = true → c.qsize ≠ 0 → c.isOpen = true → c.gen = m.hdr.gen →
    c.replyOnly ≠ m.hdr.reply → Ends p.1 s fun s' =>
      (s'.tile t.val).units.mu[i]? = some { e with phase := .done 5 } ∧ (s'.tile d).queue q = c
        ∧ (∀ u, u ≠ t.val → s'.tile u = s.tile u)

/-- R116: a tile-core access to a hole faults with ADDRESS_FAULT, and an HSET whose scratchpad range includes one faults with
HANDLE_RANGE. The access is aligned and the entry passes the earlier checks of R120. -/
def Obligations.Holes : Prop :=
  ∀ (s : State) (t : Slot) (r base : BitVec 5) (imm : BitVec 12), Issues s t →
    let x := s.tile t.val
    let a := address s t base imm
    (Usable s t [base] → Hole x.pad.bankOk a → ∀ p ∈ loadRows t r base imm, a % p.2.size = 0 →
      Faults p.1 s t .addressFault (.load p.2 r base imm) 0)
    ∧ (Usable s t [r, base] → Hole x.pad.bankOk a → ∀ p ∈ storeRows t r base imm, a % p.2.size = 0 →
      Faults p.1 s t .addressFault (.store p.2 r base imm) 0)
    ∧ ∀ (h h2 : BitVec 6) (ra rb : BitVec 5), ra.toNat ≤ 29 → Usable s t [ra, ra + 1, ra + 2] → x.handleBusy h = false →
        let w := (x.reg ra).toNat
        let b := (x.reg (ra + 1)).toNat
        let n := (x.reg (ra + 2)).toNat
        w % 4 = 1 → w / 4 % 4 ≠ 3 → w / 16 = 0 → b % 64 = 0 →
        (∃ l, b ≤ l ∧ l < b + n ∧ Hole x.pad.bankOk l) →
        Faults (.hset t (handleOp h h2 ra rb)) s t .handleRange (.hset (handleOp h h2 ra rb)) 0

/-- R533: a read of a WO entry is refused with WRITE_ONLY, and a write to an RO entry with READ_ONLY, of a level that has the
entry's authority; only the quote entry is RW at observer authority. -/
def Obligations.AccessKinds : Prop :=
  (∀ i sub e, entryAt i sub = some e → e.kind = .rw → e.auth = .observer → i * 256 + sub = K.quote)
  ∧ ∀ (s : State) (r : BjReq) (x : Session) (e : Entry), InSession s r x → entryAt r.index.toNat r.sub.toNat = some e →
      x.level.grants e.auth = true →
      (e.kind = .wo → Replied (.bjRead r) s r x Op.read (BjAns.of Bj.writeOnly) (· = s)
        ∧ Replied (.readSeg r) s r x Op.readSeg (BjAns.of Bj.writeOnly) (· = s))
      ∧ (e.kind = .ro → (ownRow r = false → Replied (.bjWrite r) s r x Op.write (BjAns.of Bj.readOnly) (· = s)
          ∧ Replied (.writeEnd r) s r x Op.writeEnd (BjAns.of Bj.readOnly) (· = s))
        ∧ Replied (.writeSeg r) s r x Op.writeSeg (BjAns.of Bj.readOnly) (· = s))


/-- Integer arithmetic in registers and with immediates, branches, jumps and loop counters. -/
def Obligations.ScalarCore : Prop :=
  (Claims.RegisterArithmetic ∧ Claims.ImmediateArithmetic) ∧ Claims.BranchTargets ∧ Claims.JumpAndLink ∧ Claims.LoopCounters

/-- Loads and stores of the tile core. -/
def Obligations.LoadsAndStores : Prop := Claims.Loads ∧ Claims.Stores

/-- Handles moved, filled and waited for. -/
def Obligations.HandleTable : Prop := Claims.HandleMoves ∧ Claims.FillMarks ∧ Claims.HandleStalls

/-- Tokens and messages from a tile core. -/
def Obligations.Sending : Prop := Claims.Tokens ∧ Claims.Sends ∧ Claims.SendRetires

/-- Issue of vector and integer work. -/
def Obligations.VectorUnits : Prop := Claims.VectorIssue ∧ Claims.VectorMemoryIssue ∧ Claims.IntegerLanes

/-- What ends a vector or memory instruction. -/
def Obligations.VectorResults : Prop := Claims.VectorRetire ∧ Claims.MemoryReadReturn

/-- Matrix work from issue to retirement. -/
def Obligations.MatrixEngine : Prop := Claims.MatrixIssue ∧ Claims.MatrixRetire ∧ Claims.ResidueMismatch

/-- Faults of accesses and of words that are no instruction, and their report. -/
def Obligations.TileFaults : Prop := Claims.AccessFaults ∧ Claims.FaultReport ∧ Claims.FetchFaults

/-- Fences, stalls that end, and halts. -/
def Obligations.TileStops : Prop := Claims.Fences ∧ Claims.StallEnds ∧ Claims.Halts

/-- Control registers of a tile, read and written. -/
def Obligations.TileRegisters : Prop := Claims.ControlRegisters ∧ Claims.RegisterClears ∧ Claims.TileRegisterWrite

/-- Queue control, steering configuration and stage reports. -/
def Obligations.QueueAndStage : Prop := Claims.SteeringConfig ∧ Claims.QueueControl ∧ Claims.StageReports

/-- Requests to memory nodes, their upkeep, and where lines lie. -/
def Obligations.MemoryNode : Prop := Claims.MemoryRequests ∧ Claims.MemoryUpkeep ∧ Claims.MemoryLayout

/-- Tokens for steering units and what they fire. -/
def Obligations.SteeringUnits : Prop := Claims.TokenArrival ∧ Claims.SteeringFires

/-- How messages end, wait, are classed and pass the routers. -/
def Obligations.MessageLife : Prop :=
  Claims.MessageEnds ∧ Claims.WaitingMessages ∧ Claims.PriorityClasses ∧ Claims.Routers

/-- Windows written and closed. -/
def Obligations.Windows : Prop := Claims.WindowWrites ∧ Claims.WindowClosing

/-- Packets in transit, answers and timers of flows. -/
def Obligations.PacketFlow : Prop := Claims.PacketTransit ∧ Claims.FlowAnswers ∧ Claims.FlowTimers

/-- Ports, discovery and epochs. -/
def Obligations.FabricLinks : Prop := Claims.FabricPorts ∧ Claims.Discovery ∧ Claims.EpochBarrier

/-- A strand's sections, stalls, fusion and re-placement. -/
def Obligations.StrandLife : Prop := Claims.StrandProgress ∧ Claims.FusionAndReplacement

/-- Descriptors, and the host's registers. -/
def Obligations.ChannelEngine : Prop := Claims.DescriptorFlow ∧ Claims.HostRegisters

/-- The governor, margins and supply dips. -/
def Obligations.PowerControl : Prop := Claims.Governor ∧ Claims.DipsAndMargins

/-- Administrative and raw descriptors. -/
def Obligations.HostOperations : Prop := Claims.AdminOperations ∧ Claims.RawOperations

/-- Sealed data in and out, the passages of what extraction yields, and the services without a search. -/
def Obligations.Services : Prop := Claims.SealedPath ∧ Claims.Passages ∧ Claims.IndexServices

/-- Tuning sessions and their steps. -/
def Obligations.Tuning : Prop := Claims.TuneSessions ∧ Claims.TuneSteps

/-- Shadow checks, march tests and self-test slices. -/
def Obligations.SelfChecking : Prop := Claims.Checking ∧ Claims.MarchTests ∧ Claims.SkimSlices

/-- Writes of entries with a row of their own: operating point, fencing, services, resets, quiesce, recorder, copies. -/
def Obligations.EntryRows : Prop := Claims.OperatingPoint ∧ Claims.ControlEntries

/-- Notifications, links and calendar time. -/
def Obligations.Management : Prop := Claims.Notifications ∧ Claims.CalendarTime

/-- Front face, light bar, coolant and connector. -/
def Obligations.ModuleFront : Prop := Claims.FrontFace ∧ Claims.LightBarShows ∧ Claims.CoolantAndConnector
end

