-- ==== Sys2Proof/Laws/SMap.lean ====
section
/-! SUPPORT. What reading, writing and the canonical form of sparse maps do, once for all of them. -/

namespace Sys2Proof.Machine

variable {β : Type}

theorem look_place_same (d : Nat → β) (l : List (Nat × β)) (k : Nat) (v : β) :
    look d (place k v l) k = v := by
  induction l with
  | nil => simp [place, look]
  | cons p l ih =>
    obtain ⟨j, w⟩ := p
    simp only [place]
    split
    · simp [look]
    · split
      · simp [look]
      · rename_i h1 h2
        simp [look, Ne.symm h2, ih]

theorem look_place_other (d : Nat → β) (l : List (Nat × β)) (k j : Nat) (v : β) (h : j ≠ k) :
    look d (place k v l) j = look d l j := by
  induction l with
  | nil => simp [place, look, Ne.symm h]
  | cons p l ih =>
    obtain ⟨i, w⟩ := p
    simp only [place]
    split
    · simp [look, Ne.symm h]
    · split
      · rename_i h2
        subst h2
        simp [look, Ne.symm h]
      · simp [look, ih]

theorem look_remove_other (d : Nat → β) (l : List (Nat × β)) (k j : Nat) (h : j ≠ k) :
    look d (remove k l) j = look d l j := by
  induction l with
  | nil => rfl
  | cons p l ih =>
    obtain ⟨i, w⟩ := p
    simp only [remove]
    split
    · rename_i h2
      subst h2
      simp [look, Ne.symm h, ih]
    · simp [look, ih]

theorem look_absent (d : Nat → β) (l : List (Nat × β)) (k : Nat) (h : ∀ p ∈ l, p.1 ≠ k) :
    look d l k = d k := by
  induction l with
  | nil => rfl
  | cons p l ih =>
    have hp := h p (by simp)
    obtain ⟨j, w⟩ := p
    simp only [look]
    rw [if_neg hp]
    exact ih fun q hq => h q (by simp [hq])

theorem mem_remove {l : List (Nat × β)} {k : Nat} {p : Nat × β} (h : p ∈ remove k l) :
    p ∈ l ∧ p.1 ≠ k := by
  induction l with
  | nil => simp [remove] at h
  | cons q l ih =>
    obtain ⟨j, w⟩ := q
    simp only [remove] at h
    split at h
    · exact ⟨by simp [(ih h).1], (ih h).2⟩
    · rename_i hj
      rcases List.mem_cons.1 h with h | h
      · exact ⟨by simp [h], by simp [h, hj]⟩
      · exact ⟨by simp [(ih h).1], (ih h).2⟩

theorem pairwise_remove {l : List (Nat × β)} (k : Nat) (h : l.Pairwise (fun p q => p.1 < q.1)) :
    (remove k l).Pairwise (fun p q => p.1 < q.1) := by
  induction l with
  | nil => simp [remove]
  | cons q l ih =>
    obtain ⟨j, w⟩ := q
    rw [List.pairwise_cons] at h
    simp only [remove]
    split
    · exact ih h.2
    · exact List.pairwise_cons.2 ⟨fun p hp => h.1 p (mem_remove hp).1, ih h.2⟩

theorem mem_place {l : List (Nat × β)} {k : Nat} {v : β} {p : Nat × β} (h : p ∈ place k v l) :
    p = (k, v) ∨ p ∈ l := by
  induction l with
  | nil => simpa [place] using h
  | cons q l ih =>
    obtain ⟨j, w⟩ := q
    simp only [place] at h
    split at h
    · simpa using h
    · split at h
      · rcases List.mem_cons.1 h with h | h
        · exact .inl h
        · exact .inr (by simp [h])
      · rcases List.mem_cons.1 h with h | h
        · exact .inr (by simp [h])
        · rcases ih h with h | h
          · exact .inl h
          · exact .inr (by simp [h])

theorem pairwise_place {l : List (Nat × β)} (k : Nat) (v : β) (h : l.Pairwise (fun p q => p.1 < q.1)) :
    (place k v l).Pairwise (fun p q => p.1 < q.1) := by
  induction l with
  | nil => simp [place]
  | cons q l ih =>
    obtain ⟨j, w⟩ := q
    have h' := List.pairwise_cons.1 h
    simp only [place]
    split
    · rename_i hk
      refine List.pairwise_cons.2 ⟨fun p hp => ?_, h⟩
      rcases List.mem_cons.1 hp with hp | hp
      · simpa [hp] using hk
      · have := h'.1 p hp
        simp only at this ⊢
        omega
    · split
      · rename_i hk
        subst hk
        exact List.pairwise_cons.2 ⟨h'.1, h'.2⟩
      · rename_i hk1 hk2
        refine List.pairwise_cons.2 ⟨fun p hp => ?_, ih h'.2⟩
        rcases mem_place hp with hp | hp
        · simp only [hp]
          omega
        · exact h'.1 p hp

variable [DecidableEq β]

/-- A write keeps the canonical form. -/
theorem put_canon {d : Nat → β} {l : List (Nat × β)} (k : Nat) (v : β) (h : canon d l) :
    canon d (put d l k v) := by
  unfold put
  split
  · exact ⟨pairwise_remove k h.1, fun p hp => h.2 p (mem_remove hp).1⟩
  · rename_i hv
    refine ⟨pairwise_place k v h.1, fun p hp => ?_⟩
    rcases mem_place hp with hp | hp
    · simpa [hp] using hv
    · exact h.2 p hp

/-- A read at another key is not changed by a write. -/
theorem look_put_other (d : Nat → β) (l : List (Nat × β)) {k j : Nat} (v : β) (h : j ≠ k) :
    look d (put d l k v) j = look d l j := by
  unfold put
  split
  · exact look_remove_other d l k j h
  · exact look_place_other d l k j v h

/-- A read at the key just written gives the value written. -/
theorem look_put_same (d : Nat → β) (l : List (Nat × β)) (k : Nat) (v : β) :
    look d (put d l k v) k = v := by
  unfold put
  split
  · rename_i hv
    rw [look_absent d _ k fun p hp => (mem_remove hp).2, hv]
  · exact look_place_same d l k v

theorem canon_nil (d : Nat → β) : canon d [] := by simp [canon]

end Sys2Proof.Machine
end

