-- ==== Sys2Proof/Laws/Reads.lean ====
section
/-! SUPPORT. Reading what was written: one lemma for each keyed part of the state and of a tile. -/

namespace Sys2Proof.Machine

/-- A read of a map after a write of one key. -/
theorem look_put {β : Type} [DecidableEq β] (d : Nat → β) (l : List (Nat × β)) (k j : Nat) (v : β) :
    look d (put d l k v) j = if j = k then v else look d l j := by
  by_cases h : j = k
  · rw [if_pos h, h, look_put_same]
  · rw [if_neg h, look_put_other d l v h]

theorem State.get_set (s : State) (k j : Nat) (v : Nat) : (s.set k v).get j = if j = k then v else s.get j :=
  look_put _ _ k j v

theorem State.octet_setOctet (s : State) (k j : Nat) (v : List Byte) : (s.setOctet k v).octet j = if j = k then v else s.octet j :=
  look_put _ _ k j v

theorem State.tile_setTile (s : State) (k j : Nat) (v : Tile) : (s.setTile k v).tile j = if j = k then v else s.tile j :=
  look_put _ _ k j v

theorem State.strand_setStrand (s : State) (k j : Nat) (v : Strand) : (s.setStrand k v).strand j = if j = k then v else s.strand j :=
  look_put _ _ k j v

theorem State.chan_setChan (s : State) (k j : Nat) (v : Channel) : (s.setChan k v).chan j = if j = k then v else s.chan j :=
  look_put _ _ k j v

theorem State.repairWord_setRepair (s : State) (k j : Nat) (v : Word) : (s.setRepair k v).repairWord j = if j = k then v else s.repairWord j :=
  look_put _ _ k j v

theorem State.spareSlot_setSpare (s : State) (k j : Nat) (v : Nat) : (s.setSpare k v).spareSlot j = if j = k then v else s.spareSlot j :=
  look_put _ _ k j v

theorem State.bucket_setBucket (s : State) (k j : Nat) (v : Bucket) : (s.setBucket k v).bucket j = if j = k then v else s.bucket j :=
  look_put _ _ k j v

theorem State.port_setPort (s : State) (k j : Nat) (v : FPort) : (s.setPort k v).port j = if j = k then v else s.port j :=
  look_put _ _ k j v

theorem State.window_setWindow (s : State) (k j : Nat) (v : Window) : (s.setWindow k v).window j = if j = k then v else s.window j :=
  look_put _ _ k j v

theorem State.tune_setTune (s : State) (k j : Nat) (v : Tune) : (s.setTune k v).tune j = if j = k then v else s.tune j :=
  look_put _ _ k j v

theorem State.suspect_setSuspect (s : State) (k j : Nat) (v : Suspect) : (s.setSuspect k v).suspect j = if j = k then v else s.suspect j :=
  look_put _ _ k j v

theorem State.block_setBlock (s : State) (k j : Nat) (v : FlashBlock) : (s.setBlock k v).block j = if j = k then v else s.block j :=
  look_put _ _ k j v

theorem Tile.queue_setQueue (t : Tile) (k j : Nat) (v : Queue) : (t.setQueue k v).queue j = if j = k then v else t.queue j :=
  look_put _ _ k j v

theorem Tile.su_setSu (t : Tile) (k j : Nat) (v : Su) : (t.setSu k v).su j = if j = k then v else t.su j :=
  look_put _ _ k j v

theorem Tile.reg_setReg (t : Tile) (k j : BitVec 5) (v : Word) : (t.setReg k v).reg j = if j = k then v else t.reg j := by
  refine (look_put _ _ k.toNat j.toNat v).trans ?_
  by_cases h : j = k
  · rw [if_pos h, if_pos (congrArg _ h)]
  · rw [if_neg h, if_neg fun e => h (BitVec.eq_of_toNat_eq e)]
    rfl

theorem Tile.lc_setLc (t : Tile) (k j : BitVec 4) (v : BitVec 24) : (t.setLc k v).lc j = if j = k then v else t.lc j := by
  refine (look_put _ _ k.toNat j.toNat v).trans ?_
  by_cases h : j = k
  · rw [if_pos h, if_pos (congrArg _ h)]
  · rw [if_neg h, if_neg fun e => h (BitVec.eq_of_toNat_eq e)]
    rfl

theorem Tile.handle_setHandle (t : Tile) (k j : BitVec 6) (v : Handle) : (t.setHandle k v).handle j = if j = k then v else t.handle j := by
  refine (look_put _ _ k.toNat j.toNat v).trans ?_
  by_cases h : j = k
  · rw [if_pos h, if_pos (congrArg _ h)]
  · rw [if_neg h, if_neg fun e => h (BitVec.eq_of_toNat_eq e)]
    rfl

theorem State.tile_onTile (s : State) (t u : Nat) (f : Tile → Tile) :
    (s.onTile t f).tile u = if u = t then f (s.tile t) else s.tile u := s.tile_setTile t u _

theorem State.strand_onStrand (s : State) (k j : Nat) (f : Strand → Strand) :
    (s.onStrand k f).strand j = if j = k then f (s.strand k) else s.strand j := s.strand_setStrand k j _

theorem State.chan_onChan (s : State) (k j : Nat) (f : Channel → Channel) :
    (s.onChan k f).chan j = if j = k then f (s.chan k) else s.chan j := s.chan_setChan k j _

theorem State.tune_onTune (s : State) (k j : Nat) (f : Tune → Tune) :
    (s.onTune k f).tune j = if j = k then f (s.tune k) else s.tune j := s.tune_setTune k j _

/-- A counter that does not pass the top of its type. -/
theorem State.get_bump_same (s : State) (k n : Nat) (h : s.get k + n < 2 ^ keyBits k) : (s.bump k n).get k = s.get k + n := by
  unfold State.bump
  rw [State.get_set, if_pos rfl, if_pos h]

theorem State.get_bump_other (s : State) (k n : Nat) {j : Nat} (h : j ≠ k) : (s.bump k n).get j = s.get j := by
  unfold State.bump
  rw [State.get_set, if_neg h]

/-- A block waits to be written, and nothing else changes. -/
theorem State.dirty_waits (s : State) (b : Nat) : b ∈ (s.dirty b).flash.waiting ∧ { s.dirty b with flash := s.flash } = s := by
  unfold State.dirty
  split
  · rename_i h
    exact ⟨by simpa using h, rfl⟩
  · exact ⟨by simp, rfl⟩

theorem State.get_setEntry (s : State) (k v j : Nat) : (s.setEntry k v).get j = if j = k then v else s.get j := by
  unfold State.setEntry
  split
  · rename_i h
    split
    · rename_i e
      rw [e, h]
    · rfl
  · split
    · unfold State.dirty
      split <;> exact s.get_set k j v
    · exact s.get_set k j v

theorem State.get_setKept (s : State) (k v j : Nat) : (s.setKept k v).get j = if j = k then v else s.get j := by
  unfold State.setKept
  split
  · rename_i h
    split
    · rename_i e
      rw [e, h]
    · rfl
  · unfold State.dirty
    split <;> exact s.get_set k j v

end Sys2Proof.Machine
end

