-- ==== Sys2Proof/Laws/Issue.lean ====
section
/-! SUPPORT. What the issue of an instruction of a tile can do: what it needs to issue, and what it then leaves. -/

namespace Sys2Proof.Machine

theorem Tile.setRun_running {x : Tile} (h : x.core.run = .running) : x.setRun .running = x := by
  unfold Tile.setRun
  rw [← h]

/-- A tile that does not issue is left as it is. -/
theorem State.issue_idle (s : State) (t : Nat) (i : Tis) (h : (s.tile t).enabled = false ∨ (s.tile t).core.run ≠ .running) :
    s.issue t i = s := by
  unfold State.issue
  rcases h with h | h <;> simp [h]

/-- An instruction that sends nothing counts no NO_TARGET (R231). -/
theorem State.countNoTarget_same (s : State) (x y : Tile) (h : y.units.mu.length ≤ x.units.mu.length) :
    s.countNoTarget x y = s := by
  unfold State.countNoTarget
  exact if_neg fun c => absurd c.1 (Nat.not_lt.mpr h)

theorem State.countNoTarget_tile (s : State) (x y : Tile) (t : Nat) : (s.countNoTarget x y).tile t = s.tile t := by
  unfold State.countNoTarget
  split <;> rfl

/-- A legal instruction that waits for no register and is no stop of the whole stage leaves its tile as `Tile.local` says. -/
theorem State.issue_local {s : State} {t : Nat} {i : Tis} {x : Tile} (he : (s.tile t).enabled = true)
    (hr : (s.tile t).core.run = .running) (hl : i.legal = true)
    (hu : ∀ r ∈ i.reads, (s.tile t).core.held.contains r = false) (hx : (s.tile t).local (s.ctx t) i = x)
    (hn : x.core.run ≠ .faulted) (hrt : s.regTarget t i = none) (hb : ∀ b r, i ≠ .bar b r) (hh : ∀ a b c, i ≠ .halt a b c)
    (ht : ∀ a b c, i ≠ .trap a b c) (hc : ∀ a b c, i ≠ .csrw a b c) :
    s.issue t i = (s.setTile t x).countNoTarget (s.tile t) x := by
  have hu' : i.reads.any ((s.tile t).core.held.contains ·) = false := by
    simp only [List.any_eq_false]
    intro r hm
    simpa using hu r hm
  unfold State.issue State.issueNow
  simp only [he, hr, hl, hu', hrt]
  cases i <;> simp_all [State.issueLocal, State.settle, State.countNoTarget_tile, State.tile_setTile]

/-- One that `Tile.local` stops stops its tile, which reports the fault. -/
theorem State.issue_fails {s : State} {t : Nat} {i : Tis} {code : FaultCode} {arg : Nat} (he : (s.tile t).enabled = true)
    (hr : (s.tile t).core.run = .running) (hl : i.legal = true)
    (hu : ∀ r ∈ i.reads, (s.tile t).core.held.contains r = false)
    (hx : (s.tile t).local (s.ctx t) i = (s.tile t).fail code i arg) (hrt : s.regTarget t i = none)
    (hb : ∀ b r, i ≠ .bar b r) (hh : ∀ a b c, i ≠ .halt a b c) (ht : ∀ a b c, i ≠ .trap a b c)
    (hc : ∀ a b c, i ≠ .csrw a b c) : s.issue t i = (s.onTile t fun x => x.fail code i arg).stopTile t := by
  have hu' : i.reads.any ((s.tile t).core.held.contains ·) = false := by
    simp only [List.any_eq_false]
    intro r hm
    simpa using hu r hm
  unfold State.issue State.issueNow
  simp only [he, hr, hl, hu', hrt]
  have hf : ∀ u : State, u.countNoTarget (s.tile t) ((s.tile t).fail code i arg) = u := fun u =>
    State.countNoTarget_same _ _ _ (Nat.le_refl _)
  cases i <;> simp_all [State.issueLocal, State.settle, State.tile_setTile, State.onTile, Tile.fail]

end Sys2Proof.Machine
end

