-- ==== Sys2Proof/Laws/KeptOps.lean ====
section
/-! SUPPORT. One lemma for each operation that leaves the queue and module memory as they were: the named operations over the state. -/

namespace Sys2Proof.Machine

/-- What most operations leave: the queue, module memory and the time base. -/
def State.kept (s : State) : List Instr × List (Nat × Byte) × Nat := (s.pending, s.mem.cells, s.timeBase)
@[simp] theorem State.kept_mk (a b c d e f g h i j k l m n o p q r t u v w x y z aa bb) :
    State.kept ⟨a, b, c, d, e, f, g, h, i, j, k, l, m, n, o, p, q, r, t, u, v, w, x, y, z, aa, bb⟩ = (bb, j.cells, a) := rfl
@[simp] theorem State.mk_kept (s : State) : (s.pending, s.mem.cells, s.timeBase) = s.kept := rfl

@[simp] theorem foldl_kept {α : Type} (f : State → α → State) (l : List α) (s : State)
    (h : ∀ s x, (f s x).kept = s.kept) : (l.foldl f s).kept = s.kept := by
  induction l generalizing s with
  | nil => rfl
  | cons a l ih => simp [ih, h]
@[simp] theorem State.ite_kept (c : Prop) [Decidable c] (a b : State) :
    (if c then a else b).kept = if c then a.kept else b.kept := by split <;> rfl
@[simp] theorem foldl_kept_fst {α β : Type} (f : State × β → α → State × β) (l : List α) (s : State × β)
    (h : ∀ s x, (f s x).1.kept = s.1.kept) : (l.foldl f s).1.kept = s.1.kept := by
  induction l generalizing s with
  | nil => rfl
  | cons a l ih => simp [ih, h]

@[simp] theorem State.setTile_kept (s : State) (t : ℕ) (v : Tile) :
    (State.setTile s t v).kept = s.kept := by simp [State.setTile]

@[simp] theorem State.onTile_kept (s : State) (t : ℕ) (f : Tile → Tile) :
    (State.onTile s t f).kept = s.kept := by simp [State.onTile]

@[simp] theorem State.onTiles_kept (s : State) (ts : List ℕ) (f : Tile → Tile) :
    (State.onTiles s ts f).kept = s.kept := by simp [State.onTiles]

@[simp] theorem State.set_kept (s : State) (k : ℕ) (v : ℕ) :
    (State.set s k v).kept = s.kept := by simp [State.set]

@[simp] theorem State.setOctet_kept (s : State) (k : ℕ) (v : List Byte) :
    (State.setOctet s k v).kept = s.kept := by simp [State.setOctet]

@[simp] theorem State.bump_kept (s : State) (k : ℕ) (n : ℕ) :
    (State.bump s k n).kept = s.kept := by simp [State.bump]

@[simp] theorem State.peak_kept (s : State) (k : ℕ) (v : ℕ) :
    (State.peak s k v).kept = s.kept := by
  unfold State.peak
  repeat' split
  all_goals simp_all

@[simp] theorem State.draw_kept (s : State) :
    (State.draw s).2.kept = s.kept := by simp [State.draw]

theorem State.pick_kept (s : State) (id : ℕ) (l : List ℕ) :
    ∀ post, State.pick s id l = some post → post.2.kept = s.kept := by simp [State.pick]

@[simp] theorem State.emit_kept (s : State) (o : Out) :
    (State.emit s o).kept = s.kept := by simp [State.emit]

@[simp] theorem State.toHost_kept (s : State) (o : Out) :
    (State.toHost s o).kept = s.kept := by simp [State.toHost]

@[simp] theorem State.setPoison_kept (s : State) (line : ℕ) (v : Bool) :
    (State.setPoison s line v).kept = s.kept := by simp [State.setPoison]

@[simp] theorem State.drawMany_kept (s : State) (k : ℕ) :
    (State.drawMany s k).2.kept = s.kept := by simp [State.drawMany]

@[simp] theorem State.freeBytes_kept (s : State) (k : ℕ) :
    (State.freeBytes s k).2.kept = s.kept := by simp [State.freeBytes]

@[simp] theorem State.setRepair_kept (s : State) (t : ℕ) (w : Word) :
    (State.setRepair s t w).kept = s.kept := by simp [State.setRepair]

@[simp] theorem State.setSpare_kept (s : State) (st : ℕ) (t : ℕ) :
    (State.setSpare s st t).kept = s.kept := by simp [State.setSpare]

@[simp] theorem State.setStrand_kept (s : State) (st : ℕ) (v : Strand) :
    (State.setStrand s st v).kept = s.kept := by simp [State.setStrand]

@[simp] theorem State.onStrand_kept (s : State) (st : ℕ) (f : Strand → Strand) :
    (State.onStrand s st f).kept = s.kept := by simp [State.onStrand]

@[simp] theorem State.setChan_kept (s : State) (c : ℕ) (v : Channel) :
    (State.setChan s c v).kept = s.kept := by simp [State.setChan]

@[simp] theorem State.onChan_kept (s : State) (c : ℕ) (f : Channel → Channel) :
    (State.onChan s c f).kept = s.kept := by simp [State.onChan]

@[simp] theorem State.onDesc_kept (s : State) (j : JobId) (f : Desc → Desc) :
    (State.onDesc s j f).kept = s.kept := by simp [State.onDesc]

@[simp] theorem State.writeRecord_kept (s : State) (rtype : ℕ) (stamp : ℕ) (flags : ℕ) (payload : List Byte) :
    (State.writeRecord s rtype stamp flags payload).kept = s.kept := by simp [State.writeRecord]

@[simp] theorem State.record_kept (s : State) (rtype : ℕ) (payload : List Byte) :
    (State.record s rtype payload).kept = s.kept := by
  unfold State.record
  repeat' split
  all_goals simp_all

@[simp] theorem State.transmit_kept (s : State) (n : Note) :
    (State.transmit s n).kept = s.kept := by simp [State.transmit]

@[simp] theorem State.post_kept (s : State) (n : Note) :
    (State.post s n).kept = s.kept := by simp [State.post]

@[simp] theorem State.setBucket_kept (s : State) (code : ℕ) (b : Bucket) :
    (State.setBucket s code b).kept = s.kept := by simp [State.setBucket]

@[simp] theorem State.nextNseq_kept (s : State) :
    (State.nextNseq s).2.kept = s.kept := by simp [State.nextNseq]

@[simp] theorem State.alarmRecord_kept (s : State) (code : ℕ) (nseq : ℕ) (sent : Bool) (arg : List Byte) :
    (State.alarmRecord s code nseq sent arg).kept = s.kept := by simp [State.alarmRecord]

@[simp] theorem State.noticed_kept (s : State) (code : ℕ) :
    (State.noticed s code).kept = s.kept := by simp [State.noticed]

@[simp] theorem State.raise_kept (s : State) (code : ℕ) (arg : List Byte) :
    (State.raise s code arg).kept = s.kept := by
  unfold State.raise
  simp only []
  repeat' split
  all_goals first | rfl | simp_all | grind [State.post_kept, State.bump_kept, State.setBucket_kept, State.noticed_kept, State.nextNseq_kept, State.alarmRecord_kept]

@[simp] theorem State.signal_kept (s : State) (v : ℕ) :
    (State.signal s v).kept = s.kept := by
  unfold State.signal
  repeat' split
  all_goals simp_all

@[simp] theorem State.deviceEvent_kept (s : State) :
    (State.deviceEvent s).kept = s.kept := by simp [State.deviceEvent]

@[simp] theorem State.putRecord_kept (s : State) (c : ℕ) (e : List Byte) (r : List Byte) :
    (State.putRecord s c e r).kept = s.kept := by simp [State.putRecord]

@[simp] theorem State.countIrq_kept (s : State) (c : ℕ) (e : List Byte) :
    (State.countIrq s c e).kept = s.kept := by grind [State.countIrq, State.setChan_kept, State.signal_kept]

@[simp] theorem State.flushAbort_kept (s : State) (c : ℕ) :
    (State.flushAbort s c).kept = s.kept := by grind [State.flushAbort, State.setChan_kept, State.putRecord_kept]

@[simp] theorem State.flushAborts_kept (s : State) (c : ℕ) :
    (State.flushAborts s c).kept = s.kept := by simp [State.flushAborts]

@[simp] theorem State.abortResult_kept (s : State) (c : ℕ) (id : ℕ) (idx : ℕ) (st : ℕ) :
    (State.abortResult s c id idx st).kept = s.kept := by
  unfold State.abortResult
  repeat' split
  all_goals simp_all

@[simp] theorem State.channelError_kept (s : State) (c : ℕ) (code : ℕ) :
    (State.channelError s c code).kept = s.kept := by simp [State.channelError]

@[simp] theorem State.dropDoorbell_kept (s : State) :
    (State.dropDoorbell s).kept = s.kept := by simp [State.dropDoorbell]

@[simp] theorem State.setKeys_kept (s : State) (l : List VKey) :
    (State.setKeys s l).kept = s.kept := by simp [State.setKeys]

@[simp] theorem State.unpin_kept (s : State) (handles : List ℕ) :
    (State.unpin s handles).kept = s.kept := by simp [State.unpin]

@[simp] theorem State.answer_kept (s : State) (j : JobId) (a : Answer) :
    (State.answer s j a).kept = s.kept := by simp [State.answer]

@[simp] theorem State.endWith_kept (s : State) (j : JobId) (st : ℕ) :
    (State.endWith s j st).kept = s.kept := by simp [State.endWith]

@[simp] theorem State.answerOut_kept (s : State) (j : JobId) (a : Answer) (out : List Byte) :
    (State.answerOut s j a out).kept = s.kept := by
  unfold State.answerOut
  repeat' split
  all_goals simp_all

@[simp] theorem State.onHold_kept (s : State) (j : JobId) (f : JobHold → JobHold) :
    (State.onHold s j f).kept = s.kept := by simp [State.onHold]

@[simp] theorem State.retireDesc_kept (s : State) (j : JobId) (d : Desc) :
    (State.retireDesc s j d).kept = s.kept := by simp [State.retireDesc]

@[simp] theorem State.abandonSlice_kept (s : State) (t : ℕ) :
    (State.abandonSlice s t).kept = s.kept := by
  unfold State.abandonSlice
  repeat' split
  all_goals simp_all

@[simp] theorem State.dropWatch_kept (s : State) (ts : List ℕ) :
    (State.dropWatch s ts).kept = s.kept := by simp [State.dropWatch]

@[simp] theorem State.keepMstat_kept (s : State) (t : ℕ) :
    (State.keepMstat s t).kept = s.kept := by
  unfold State.keepMstat
  repeat' split
  all_goals simp_all

@[simp] theorem State.forgetArrivals_kept (s : State) (t : ℕ) :
    (State.forgetArrivals s t).kept = s.kept := by simp [State.forgetArrivals]

@[simp] theorem State.leaveBarriers_kept (s : State) (t : ℕ) :
    (State.leaveBarriers s t).kept = s.kept := by simp [State.leaveBarriers]

@[simp] theorem State.resetOne_kept (s : State) (t : ℕ) :
    (State.resetOne s t).kept = s.kept := by simp [State.resetOne]

@[simp] theorem State.resetTiles_kept (s : State) (ts : List ℕ) :
    (State.resetTiles s ts).kept = s.kept := by simp [State.resetTiles]

@[simp] theorem State.closeP_kept (s : State) :
    (State.closeP s).kept = s.kept := by grind [State.closeP, State.bump_kept, State.set_kept]

@[simp] theorem State.loadTables_kept (s : State) :
    (State.loadTables s).kept = s.kept := by simp [State.loadTables]

@[simp] theorem State.keepSets_kept (s : State) (st : ℕ) (n : ℕ) :
    (State.keepSets s st n).kept = s.kept := by simp [State.keepSets]

@[simp] theorem State.takeSlot_kept (s : State) (st : ℕ) (n : ℕ) :
    (State.takeSlot s st n).kept = s.kept := by grind [State.takeSlot, State.setStrand_kept]

@[simp] theorem State.parkStage_kept (s : State) (st : ℕ) (k : ℕ) (t : ℕ) :
    (State.parkStage s st k t).kept = s.kept := by simp [State.parkStage]

@[simp] theorem State.mapStage_kept (s : State) (st : ℕ) (k : ℕ) (t : ℕ) :
    (State.mapStage s st k t).kept = s.kept := by simp [State.mapStage]

@[simp] theorem State.writeMap_kept (s : State) (st : ℕ) :
    (State.writeMap s st).kept = s.kept := by simp [State.writeMap]

@[simp] theorem State.ckptHandles_kept (s : State) (st : ℕ) (k : ℕ) (t : ℕ) :
    (State.ckptHandles s st k t).kept = s.kept := by simp [State.ckptHandles]

@[simp] theorem State.loadStage_kept (s : State) (st : ℕ) (k : ℕ) (t : ℕ) :
    (State.loadStage s st k t).kept = s.kept := by
  unfold State.loadStage
  simp only []
  repeat' split
  all_goals first | rfl | simp_all | grind [State.ckptHandles_kept, State.onTile_kept]

@[simp] theorem State.configStage_kept (s : State) (st : ℕ) (k : ℕ) (t : ℕ) :
    (State.configStage s st k t).kept = s.kept := by
  unfold State.configStage
  repeat' split
  all_goals simp_all

@[simp] theorem State.nodeSend_kept (s : State) (m : Msg) (job : Option JobId) (flow : Option FlowRef) :
    (State.nodeSend s m job flow).kept = s.kept := by simp [State.nodeSend]

@[simp] theorem State.jobHandles_kept (s : State) (st : ℕ) (k : ℕ) (t : ℕ) (h : JobHold) :
    (State.jobHandles s st k t h).kept = s.kept := by simp [State.jobHandles]

@[simp] theorem State.tuneHandles_kept (s : State) (t : ℕ) (j : Option JobId) :
    (State.tuneHandles s t j).kept = s.kept := by
  unfold State.tuneHandles
  repeat' split
  all_goals simp_all

@[simp] theorem State.sendJobBlock_kept (s : State) (t : ℕ) (number : ℕ) (shape : List ℕ) (place : ℕ × ℕ) :
    (State.sendJobBlock s t number shape place).kept = s.kept := by simp [State.sendJobBlock]

@[simp] theorem State.startStage_kept (s : State) (st : ℕ) (k : ℕ) (t : ℕ) (entry : ℕ) :
    (State.startStage s st k t entry).kept = s.kept := by grind [State.startStage, State.jobHandles_kept, State.sendJobBlock_kept, State.onTile_kept, State.tuneHandles_kept]

@[simp] theorem State.newEpoch_kept (s : State) (st : ℕ) :
    (State.newEpoch s st).kept = s.kept := by simp [State.newEpoch]

@[simp] theorem State.beginSeq_kept (s : State) (st : ℕ) (job : JobId) (n : ℕ) (shape : List ℕ) (sec : ℕ)
    (place : ℕ × ℕ) :
    (State.beginSeq s st job n shape sec place).kept = s.kept := by simp [State.beginSeq]

@[simp] theorem State.queueNext_kept (s : State) (st : ℕ) (job : JobId) (n : ℕ) (shape : List ℕ) (place : ℕ × ℕ) :
    (State.queueNext s st job n shape place).kept = s.kept := by simp [State.queueNext]

@[simp] theorem State.tidyGroup_kept (s : State) (g : ℕ) :
    (State.tidyGroup s g).kept = s.kept := by grind [State.tidyGroup, State.onTiles_kept, State.onStrand_kept]

@[simp] theorem State.tidyGroups_kept (s : State) :
    (State.tidyGroups s).kept = s.kept := by simp [State.tidyGroups]

@[simp] theorem State.idleStrand_kept (s : State) (st : ℕ) :
    (State.idleStrand s st).kept = s.kept := by simp [State.idleStrand]

@[simp] theorem State.seqOver_kept (s : State) (st : ℕ) :
    (State.seqOver s st).kept = s.kept := by grind [State.seqOver, State.idleStrand_kept, State.takeSlot_kept, State.setStrand_kept, State.newEpoch_kept]

@[simp] theorem State.resetStrand_kept (s : State) (st : ℕ) :
    (State.resetStrand s st).kept = s.kept := by simp [State.resetStrand]

@[simp] theorem State.dropSeq_kept (s : State) (st : ℕ) :
    (State.dropSeq s st).kept = s.kept := by
  unfold State.dropSeq
  grind [foldl_kept, State.onStrand_kept, State.idleStrand_kept, State.resetStrand_kept, State.beginSeq_kept, State.setStrand_kept]

@[simp] theorem State.dropNext_kept (s : State) (st : ℕ) :
    (State.dropNext s st).kept = s.kept := by simp [State.dropNext]

@[simp] theorem State.leaveStrand_kept (s : State) (st : ℕ) (j : JobId) :
    (State.leaveStrand s st j).kept = s.kept := by simp [State.leaveStrand]

@[simp] theorem State.stopSeqs_kept (s : State) (j : JobId) :
    (State.stopSeqs s j).kept = s.kept := by simp [State.stopSeqs]

@[simp] theorem State.gatherMstat_kept (s : State) (j : JobId) :
    (State.gatherMstat s j).kept = s.kept := by simp [State.gatherMstat]

@[simp] theorem State.endJob_kept (s : State) (j : JobId) (a : Answer) :
    (State.endJob s j a).kept = s.kept := by simp [State.endJob]

@[simp] theorem State.restartStages_kept (s : State) (st : ℕ) :
    (State.restartStages s st).kept = s.kept := by
  unfold State.restartStages
  grind [foldl_kept, State.startStage_kept, State.configStage_kept, State.onTile_kept]

@[simp] theorem State.resumeMarks_kept (s : State) (st : ℕ) :
    (State.resumeMarks s st).kept = s.kept := by simp [State.resumeMarks]

@[simp] theorem State.resumeStrand_kept (s : State) (st : ℕ) :
    (State.resumeStrand s st).kept = s.kept := by grind [State.resumeStrand, State.resetStrand_kept, State.writeMap_kept, State.resumeMarks_kept, State.restartStages_kept, State.endJob_kept, State.dropSeq_kept]

@[simp] theorem State.dirty_kept (s : State) (b : ℕ) :
    (State.dirty s b).kept = s.kept := by
  unfold State.dirty
  repeat' split
  all_goals simp_all

@[simp] theorem State.setKept_kept (s : State) (k : ℕ) (v : ℕ) :
    (State.setKept s k v).kept = s.kept := by
  unfold State.setKept
  repeat' split
  all_goals simp_all

@[simp] theorem State.applyTrim_kept (s : State) (t : ℕ) :
    (State.applyTrim s t).kept = s.kept := by simp [State.applyTrim]

@[simp] theorem State.askTrim_kept (s : State) (t : ℕ) (step : ℕ) :
    (State.askTrim s t step).kept = s.kept := by
  unfold State.askTrim
  grind [foldl_kept, State.applyTrim_kept, State.onTile_kept]

@[simp] theorem State.setSuspect_kept (s : State) (t : ℕ) (v : Suspect) :
    (State.setSuspect s t v).kept = s.kept := by simp [State.setSuspect]

@[simp] theorem State.addCause_kept (s : State) (t : ℕ) (b : ℕ) :
    (State.addCause s t b).kept = s.kept := by simp [State.addCause]

@[simp] theorem State.meet_kept (s : State) (t : ℕ) (b : ℕ) :
    (State.meet s t b).kept = s.kept := by
  unfold State.meet
  simp only []
  repeat' split
  all_goals first | rfl | simp_all | grind [State.setKept_kept, State.addCause_kept, State.setSuspect_kept]

@[simp] theorem State.fence_kept (s : State) (t : ℕ) (cause : ℕ) :
    (State.fence s t cause).kept = s.kept := by simp [State.fence]

@[simp] theorem State.skimFirst_kept (s : State) (t : ℕ) :
    (State.skimFirst s t).kept = s.kept := by simp [State.skimFirst]

@[simp] theorem State.climb_kept (s : State) (t : ℕ) (cause : ℕ) :
    (State.climb s t cause).kept = s.kept := by simp [State.climb]

@[simp] theorem State.runThird_kept (s : State) (t : ℕ) (d : Dispute) :
    (State.runThird s t d).kept = s.kept := by grind [State.runThird, State.onTile_kept]

@[simp] theorem State.seekThird_kept (s : State) (d : Dispute) :
    (State.seekThird s d).1.kept = s.kept := by
  unfold State.seekThird
  repeat' split
  all_goals simp_all

@[simp] theorem State.mismatch_kept (s : State) (d : Dispute) :
    (State.mismatch s d).kept = s.kept := by simp [State.mismatch]

@[simp] theorem State.unwatch_kept (s : State) (w : ℕ) (chunk : ℕ) :
    (State.unwatch s w chunk).kept = s.kept := by simp [State.unwatch]

@[simp] theorem State.countFault_kept (s : State) (c : FaultCode) :
    (State.countFault s c).kept = s.kept := by
  unfold State.countFault
  repeat' split
  all_goals simp_all

@[simp] theorem State.dropRaw_kept (s : State) (t : ℕ) :
    (State.dropRaw s t).kept = s.kept := by simp [State.dropRaw]

@[simp] theorem State.residueSuspect_kept (s : State) (t : ℕ) :
    (State.residueSuspect s t).kept = s.kept := by simp [State.residueSuspect]

@[simp] theorem State.faultOutcome_kept (s : State) (t : ℕ) (c : FaultCode) :
    (State.faultOutcome s t c).kept = s.kept := by grind [State.faultOutcome, State.answer_kept, State.resumeStrand_kept, State.dropRaw_kept, State.endJob_kept, State.dropSeq_kept]

@[simp] theorem State.tileFaulted_kept (s : State) (t : ℕ) (c : FaultCode) :
    (State.tileFaulted s t c).kept = s.kept := by grind [State.tileFaulted, State.faultOutcome_kept, State.countFault_kept, State.unwatch_kept, State.residueSuspect_kept, State.mismatch_kept]

@[simp] theorem State.reportFault_kept (s : State) (t : ℕ) :
    (State.reportFault s t).kept = s.kept := by
  unfold State.reportFault
  repeat' split
  all_goals simp_all

end Sys2Proof.Machine
end

