-- ==== Sys2Proof/Laws/KeptWork.lean ====
section
/-! SUPPORT. One lemma for each operation that leaves the queue and module memory as they were: the fabric, tuning, issue, memory and messages. -/

namespace Sys2Proof.Machine

@[simp] theorem State.setPort_kept (s : State) (n : ℕ) (p : FPort) :
    (State.setPort s n p).kept = s.kept := by simp [State.setPort]

@[simp] theorem State.onFabric_kept (s : State) (f : Fabric → Fabric) :
    (State.onFabric s f).kept = s.kept := by simp [State.onFabric]

@[simp] theorem State.sendBy_kept (s : State) (n : ℕ) (p : Packet) :
    (State.sendBy s n p).kept = s.kept := by
  unfold State.sendBy
  simp only []
  repeat' split
  all_goals first | rfl | simp_all | grind [State.onFabric_kept, State.emit_kept]

@[simp] theorem State.setWindow_kept (s : State) (w : ℕ) (v : Window) :
    (State.setWindow s w v).kept = s.kept := by simp [State.setWindow]

theorem State.freeWindow_kept (s : State) :
    ∀ post, State.freeWindow s = some post → post.2.kept = s.kept := by
  unfold State.freeWindow
  intro u h
  repeat' split at h
  all_goals first | (simp at h; done) | (simp at h; subst h; simp; done) | (simp at h; subst h; simp_all; done) | grind [State.pick_kept]

@[simp] theorem State.closeComplete_kept (s : State) (w : ℕ) :
    (State.closeComplete s w).kept = s.kept := by
  unfold State.closeComplete
  simp only []
  repeat' split
  all_goals first | rfl | simp_all | grind [State.onFabric_kept, State.setWindow_kept, State.onTile_kept, State.endWith_kept]

@[simp] theorem State.closeAck_kept (s : State) (w : ℕ) (eps : List ℕ) :
    (State.closeAck s w eps).kept = s.kept := by
  unfold State.closeAck
  try dsimp only
  try intro u h
  repeat' split
  all_goals first | (simp_all; done)

@[simp] theorem State.sealFor_kept (s : State) (n : ℕ) (p : Packet) :
    (State.sealFor s n p).1.kept = s.kept := by simp [State.sealFor]

theorem State.egress_kept (s : State) (p : Packet) (w : ℕ) :
    ∀ post, State.egress s p w = some post → post.1.kept = s.kept := by grind [State.egress, State.sealFor_kept, State.onFabric_kept, State.sendBy_kept]

@[simp] theorem State.resend_kept (s : State) (p : Packet) :
    (State.resend s p).kept = s.kept := by
  unfold State.resend
  repeat' split
  all_goals simp_all

@[simp] theorem State.sendControl_kept (s : State) (ty : PType) (dst : ℕ) (flow : ℕ) (a : Word) (inner : List Byte) :
    (State.sendControl s ty dst flow a inner).kept = s.kept := by
  unfold State.sendControl
  dsimp only
  split
  · rfl
  · split
    · rename_i h
      exact State.egress_kept _ _ _ _ h
    · rfl

@[simp] theorem State.freeFlow_kept (s : State) :
    (State.freeFlow s).2.kept = s.kept := by simp [State.freeFlow]

@[simp] theorem State.sendCloseAck_kept (s : State) (owner : BitVec 16) (w : ℕ) :
    (State.sendCloseAck s owner w).kept = s.kept := by simp [State.sendCloseAck]

@[simp] theorem State.tryReady_kept (s : State) :
    (State.tryReady s).kept = s.kept := by
  unfold State.tryReady
  repeat' split
  all_goals simp_all

@[simp] theorem State.closeWaits_kept (s : State) (t : Transfer) :
    (State.closeWaits s t).kept = s.kept := by
  unfold State.closeWaits
  grind [foldl_kept, State.sendCloseAck_kept, State.onFabric_kept]

@[simp] theorem State.countCode_kept (s : State) (code : ℕ) :
    (State.countCode s code).kept = s.kept := by
  unfold State.countCode
  repeat' split
  all_goals simp_all

@[simp] theorem State.endTransfer_kept (s : State) (t : Transfer) (code : ℕ) :
    (State.endTransfer s t code).kept = s.kept := by
  unfold State.endTransfer
  repeat' split
  all_goals simp_all

theorem State.egressAll_kept (s : State) (w : ℕ) (x2 : List Packet) :
    ∀ post, State.egressAll s w x2 = some post → post.1.kept = s.kept := by
  induction x2 generalizing s with
  | nil => intro u h; simp [State.egressAll] at h; subst h; rfl
  | cons a l ih =>
    intro u h
    simp only [State.egressAll] at h
    split at h
    · simp at h
    · rename_i p q hq
      obtain ⟨r, hr, rfl⟩ := Option.map_eq_some_iff.1 h
      have h1 := ih _ r hr
      have h2 := State.egress_kept s _ _ _ hq
      simp_all

@[simp] theorem State.launch_kept (s : State) (t : Transfer) :
    (State.launch s t).kept = s.kept := by
  unfold State.launch
  dsimp only
  split
  · simp
  · split
    · simp
    · rename_i h
      have := State.egressAll_kept _ _ _ _ h
      simp_all

@[simp] theorem State.launchHeld_kept (s : State) :
    (State.launchHeld s).kept = s.kept := by
  unfold State.launchHeld
  grind [foldl_kept, State.launch_kept]

@[simp] theorem State.takeTransfer_kept (s : State) (dst : ℕ) (flow : ℕ) (p : Packet) (parts : List (List Byte))
    (owner : TOwner) (tag : ℕ) (credit : Option (ℕ × ℕ × ℕ)) (window : Option ℕ) :
    (State.takeTransfer s dst flow p parts owner tag credit window).kept = s.kept := by grind [State.takeTransfer, State.launch_kept, State.onFabric_kept]

@[simp] theorem State.windowStore_kept (s : State) (t : ℕ) (ep : ℕ) (w : ℕ) (off : ℕ) (bs : List Byte) :
    (State.windowStore s t ep w off bs).kept = s.kept := by simp [State.windowStore]

@[simp] theorem State.placeReport_kept (s : State) (m : Mcast) (st : ℕ) :
    (State.placeReport s m st).kept = s.kept := by
  unfold State.placeReport
  repeat' split
  all_goals simp_all

@[simp] theorem State.endMcast_kept (s : State) (m : Mcast) :
    (State.endMcast s m).kept = s.kept := by
  unfold State.endMcast
  simp only []
  repeat' split
  all_goals first | rfl | simp_all | grind [State.placeReport_kept, State.bump_kept, State.onFabric_kept]

@[simp] theorem State.ringSend_kept (s : State) (x : Bool) (ps : List Packet) (dests : BitVec 64) :
    (State.ringSend s x ps dests).kept = s.kept := by
  unfold State.ringSend
  grind [foldl_kept, State.sealFor_kept, State.sendBy_kept]

@[simp] theorem State.sendMcast_kept (s : State) (m : Mcast) (dests : BitVec 64) :
    (State.sendMcast s m dests).kept = s.kept := by simp [State.sendMcast]

@[simp] theorem State.takeMcast_kept (s : State) (t : ℕ) (m : Msg) (credit : Option ℕ) :
    (State.takeMcast s t m credit).kept = s.kept := by
  unfold State.takeMcast
  grind [foldl_kept, State.placeReport_kept, State.sendMcast_kept, State.onFabric_kept, State.onTile_kept, State.countCode_kept]

@[simp] theorem State.sendClose_kept (s : State) (w : ℕ) (e : ℕ) :
    (State.sendClose s w e).kept = s.kept := by simp [State.sendClose]

@[simp] theorem State.sendCloses_kept (s : State) (w : ℕ) (v : Window) :
    (State.sendCloses s w v).kept = s.kept := by
  unfold State.sendCloses
  dsimp only
  split <;> simp

@[simp] theorem State.beginClose_kept (s : State) (w : ℕ) :
    (State.beginClose s w).kept = s.kept := by grind [State.beginClose, State.sendCloses_kept, State.setWindow_kept, State.closeComplete_kept, State.onTile_kept]

theorem State.fabricTake_kept (s : State) (owner : TOwner) (m : Msg) (credit : Option ℕ) :
    ∀ post, State.fabricTake s owner m credit = some post → post.kept = s.kept := by
  unfold State.fabricTake
  grind [foldl_kept, State.takeMcast_kept, State.takeTransfer_kept]

@[simp] theorem State.setTune_kept (s : State) (n : ℕ) (x : Tune) :
    (State.setTune s n x).kept = s.kept := by simp [State.setTune]

@[simp] theorem State.onTune_kept (s : State) (n : ℕ) (f : Tune → Tune) :
    (State.onTune s n f).kept = s.kept := by simp [State.onTune]

@[simp] theorem State.freeTune_kept (s : State) (n : ℕ) :
    (State.freeTune s n).kept = s.kept := by
  unfold State.freeTune
  try dsimp only
  repeat' split
  all_goals first | rfl | (simp; done) | (simp_all; done) | grind [State.beginClose_kept, State.setTune_kept]

@[simp] theorem State.tuneLoses_kept (s : State) (j : JobId) :
    (State.tuneLoses s j).kept = s.kept := by
  unfold State.tuneLoses
  grind [foldl_kept, State.freeTune_kept, State.onTune_kept]

@[simp] theorem State.sendPart_kept (s : State) (n : ℕ) (to' : ℕ) (p : BucketPart) :
    (State.sendPart s n to' p).kept = s.kept := by simp [State.sendPart]

@[simp] theorem State.sendParts_kept (s : State) (n : ℕ) (l : List (ℕ × BucketPart)) :
    (State.sendParts s n l).kept = s.kept := by simp [State.sendParts]

@[simp] theorem State.resendPart_kept (s : State) (t : Transfer) (code : ℕ) :
    (State.resendPart s t code).kept = s.kept := by
  unfold State.resendPart
  repeat' split
  all_goals simp_all

@[simp] theorem State.sendTune_kept (s : State) (name : ℕ) (n : ℕ) (rank : ℕ) (args : List ℕ) (bs : List Byte) :
    (State.sendTune s name n rank args bs).kept = s.kept := by simp [State.sendTune]

@[simp] theorem State.sendGroup_kept (s : State) (name : ℕ) (n : ℕ) (args : List ℕ) :
    (State.sendGroup s name n args).kept = s.kept := by
  unfold State.sendGroup
  refine foldl_kept _ _ _ fun s x => ?_
  split <;> simp

@[simp] theorem State.lastArrival_kept (s : State) (key : ℕ) (m : ℕ) (ep : ℕ) :
    (State.lastArrival s key m ep).kept = s.kept := by simp [State.lastArrival]

@[simp] theorem State.reportBucket_kept (s : State) (n : ℕ) (sparse : Bool) (b : ℕ) :
    (State.reportBucket s n sparse b).kept = s.kept := by
  unfold State.reportBucket
  grind [foldl_kept, State.setTune_kept, State.sendParts_kept]

@[simp] theorem State.stepResult_kept (s : State) (j : JobId) (x : Tune) :
    (State.stepResult s j x).kept = s.kept := by simp [State.stepResult]

@[simp] theorem State.doCommit_kept (s : State) (n : ℕ) (step : ℕ) :
    (State.doCommit s n step).kept = s.kept := by grind [State.doCommit, State.setTune_kept, State.stepResult_kept]

@[simp] theorem State.againJob_kept (s : State) (j : JobId) :
    (State.againJob s j).kept = s.kept := by simp [State.againJob]

@[simp] theorem State.contributeZeros_kept (s : State) (n : ℕ) :
    (State.contributeZeros s n).kept = s.kept := by simp [State.contributeZeros]

@[simp] theorem State.doRepeat_kept (s : State) (n : ℕ) (step : ℕ) (attempt : ℕ) :
    (State.doRepeat s n step attempt).kept = s.kept := by
  unfold State.doRepeat
  grind [foldl_kept, State.contributeZeros_kept, State.setTune_kept, State.againJob_kept]

@[simp] theorem State.doFail_kept (s : State) (n : ℕ) (step : ℕ) (missing : ℕ) :
    (State.doFail s n step missing).kept = s.kept := by grind [State.doFail, State.bump_kept, State.setTune_kept, State.endJob_kept]

@[simp] theorem State.keepOutcome_kept (s : State) (n : ℕ) (step : ℕ) (code : ℕ) (missing : ℕ) :
    (State.keepOutcome s n step code missing).kept = s.kept := by simp [State.keepOutcome]

@[simp] theorem State.repeatOrFail_kept (s : State) (n : ℕ) (missing : ℕ) :
    (State.repeatOrFail s n missing).kept = s.kept := by
  unfold State.repeatOrFail
  dsimp only
  split <;> simp

@[simp] theorem State.decideStep_kept (s : State) (n : ℕ) :
    (State.decideStep s n).kept = s.kept := by
  unfold State.decideStep
  simp only []
  repeat' split
  all_goals first | rfl | simp_all | grind [State.bump_kept, State.keepOutcome_kept, State.repeatOrFail_kept, State.sendGroup_kept, State.raise_kept, State.doCommit_kept]

@[simp] theorem State.takeDone_kept (s : State) (n : ℕ) (rank : ℕ) (step : ℕ) (attempt : ℕ) (crcs : List
    (BitVec 64)) :
    (State.takeDone s n rank step attempt crcs).kept = s.kept := by grind [State.takeDone, State.decideStep_kept, State.onTune_kept, State.lastArrival_kept]

@[simp] theorem State.tryDone_kept (s : State) (n : ℕ) :
    (State.tryDone s n).kept = s.kept := by grind [State.tryDone, State.sendTune_kept, State.onTune_kept, State.takeDone_kept]

@[simp] theorem State.zeroStep_kept (s : State) (n : ℕ) :
    (State.zeroStep s n).kept = s.kept := by simp [State.zeroStep]

@[simp] theorem State.tryDoneJob_kept (s : State) (j : JobId) :
    (State.tryDoneJob s j).kept = s.kept := by
  unfold State.tryDoneJob
  repeat' split
  all_goals simp_all

@[simp] theorem State.touchLine_kept (s : State) (line : ℕ) :
    (State.touchLine s line).kept = s.kept := by simp [State.touchLine]

@[simp] theorem State.lineData_kept (s : State) (line : ℕ) :
    (State.lineData s line).2.kept = s.kept := by grind [State.lineData, State.draw_kept]

@[simp] theorem State.corrected_kept (s : State) (line : ℕ) :
    (State.corrected s line).kept = s.kept := by simp [State.corrected]

@[simp] theorem State.uncorrectable_kept (s : State) (line : ℕ) :
    (State.uncorrectable s line).kept = s.kept := by simp [State.uncorrectable]

@[simp] theorem State.wrongLine_kept (s : State) (line : ℕ) (n : ℕ) :
    (State.wrongLine s line n).2.kept = s.kept := by simp [State.wrongLine]

@[simp] theorem State.holdWrites_kept (s : State) (a : ℕ) (bs : List Byte) (tile : Option ℕ) :
    (State.holdWrites s a bs tile).kept = s.kept := by simp [State.holdWrites]

@[simp] theorem State.vecRetire_kept (s : State) (t : ℕ) (j : VecJob) (rest : List VecJob) :
    (State.vecRetire s t j rest).kept = s.kept := by
  unfold State.vecRetire
  simp only []
  repeat' split
  all_goals first | rfl | simp_all | grind [State.onTile_kept, State.holdWrites_kept, State.windowStore_kept]

/-- A read with no symbol in error leaves memory: only a wrong codeword is written back (R266). -/
theorem State.readLine_clean_kept (s : State) (line : ℕ) : (State.readLine s line 0).2.kept = s.kept := by
  unfold State.readLine
  dsimp only
  split
  · simp
  · simp

theorem State.readLines_clean_kept (s : State) (line n : ℕ) : (State.readLines s line n 0).2.kept = s.kept := by
  induction n generalizing s line with
  | zero => simp [State.readLines]
  | succ n ih =>
    unfold State.readLines
    dsimp only
    split <;> exact (ih _ _).trans (State.readLine_clean_kept s line)

@[simp] theorem State.finishVec_kept (s : State) (t : ℕ) (j : VecJob) (rest : List VecJob) :
    (State.finishVec s t j rest).kept = s.kept := by
  unfold State.finishVec
  split
  · dsimp only
    split <;> simp [State.readLines_clean_kept]
  · simp

@[simp] theorem State.drainVec_kept (s : State) (t : ℕ) (x2 : ℕ) :
    (State.drainVec s t x2).kept = s.kept := by
  induction x2 generalizing s with
  | zero => simp [State.drainVec]
  | succ n ih =>
    unfold State.drainVec
    split <;> simp [ih]

@[simp] theorem State.drainUnits_kept (s : State) (t : ℕ) :
    (State.drainUnits s t).kept = s.kept := by simp [State.drainUnits]

@[simp] theorem State.stopTile_kept (s : State) (t : ℕ) :
    (State.stopTile s t).kept = s.kept := by simp [State.stopTile]

@[simp] theorem State.vldFault_kept (s : State) (t : ℕ) (j : VecJob) (rest : List VecJob) :
    (State.vldFault s t j rest).kept = s.kept := by simp [State.vldFault]

@[simp] theorem State.setFlag_kept (s : State) (v : Word) :
    (State.setFlag s v).kept = s.kept := by simp [State.setFlag]

@[simp] theorem State.addCount_kept (s : State) (c : ℕ) (v : Word) :
    (State.addCount s c v).kept = s.kept := by simp [State.addCount]

@[simp] theorem State.reportEpoch_kept (s : State) (t : ℕ) (v : Word) :
    (State.reportEpoch s t v).kept = s.kept := by grind [State.reportEpoch, State.onStrand_kept, State.onTile_kept]

@[simp] theorem State.tuneReport_kept (s : State) (t : ℕ) (v : Word) :
    (State.tuneReport s t v).kept = s.kept := by
  unfold State.tuneReport
  repeat' split
  all_goals simp_all

@[simp] theorem State.closeStep_kept (s : State) (t : ℕ) :
    (State.closeStep s t).kept = s.kept := by
  unfold State.closeStep
  simp only []
  repeat' split
  all_goals first | rfl | simp_all | grind

@[simp] theorem State.openStep_kept (s : State) (t : ℕ) (v : Word) :
    (State.openStep s t v).kept = s.kept := by grind [State.openStep, State.onStrand_kept, State.closeStep_kept, State.onTile_kept]

@[simp] theorem State.chkStep_kept (s : State) (t : ℕ) (v : Word) :
    (State.chkStep s t v).kept = s.kept := by
  unfold State.chkStep
  repeat' split
  all_goals simp_all

@[simp] theorem State.writeReg_kept (s : State) (t : ℕ) (o : ℕ) (v : Word) :
    (State.writeReg s t o v).kept = s.kept := by
  unfold State.writeReg
  repeat' split
  all_goals simp_all

@[simp] theorem State.setBarrier_kept (s : State) (b : ℕ) (v : Barrier) :
    (State.setBarrier s b v).kept = s.kept := by simp [State.setBarrier]

@[simp] theorem State.arrive_kept (s : State) (t : ℕ) (b : BitVec 6) :
    (State.arrive s t b).kept = s.kept := by simp [State.arrive]

@[simp] theorem State.barIssue_kept (s : State) (t : ℕ) (b : BitVec 6) :
    (State.barIssue s t b).kept = s.kept := by
  unfold State.barIssue
  try dsimp only
  repeat' split
  all_goals first | rfl | (simp; done) | (simp_all; done) | grind [State.arrive_kept, State.onTile_kept]

@[simp] theorem State.countLastChunk_kept (s : State) (st : ℕ) (k : ℕ) (x : Tile) :
    (State.countLastChunk s st k x).kept = s.kept := by
  unfold State.countLastChunk
  repeat' split
  all_goals simp_all

@[simp] theorem State.haltStage_kept (s : State) (t : ℕ) :
    (State.haltStage s t).kept = s.kept := by
  unfold State.haltStage
  dsimp only
  split
  · simp
  · simp
  · split <;> split <;> (try split) <;> simp

@[simp] theorem State.issueReg_kept (s : State) (t : ℕ) (i : Tis) (o : ℕ) (v : Word) :
    (State.issueReg s t i o v).kept = s.kept := by
  unfold State.issueReg
  repeat' split
  all_goals simp_all

@[simp] theorem State.issueFault_kept (s : State) (t : ℕ) (c : FaultCode) (i : Tis) (a : ℕ) :
    (State.issueFault s t c i a).kept = s.kept := by simp [State.issueFault]

@[simp] theorem State.settle_kept (s : State) (t : ℕ) :
    (State.settle s t).kept = s.kept := by
  unfold State.settle
  repeat' split
  all_goals simp_all

@[simp] theorem State.countNoTarget_kept (s : State) (x : Tile) (y : Tile) :
    (State.countNoTarget s x y).kept = s.kept := by simp [State.countNoTarget]

@[simp] theorem State.issueLocal_kept (s : State) (t : ℕ) (i : Tis) :
    (State.issueLocal s t i).kept = s.kept := by simp [State.issueLocal]

@[simp] theorem State.issueNow_kept (s : State) (t : ℕ) (i : Tis) :
    (State.issueNow s t i).kept = s.kept := by
  unfold State.issueNow
  repeat' split
  all_goals simp_all

@[simp] theorem State.issue_kept (s : State) (t : ℕ) (i : Tis) :
    (State.issue s t i).kept = s.kept := by
  unfold State.issue
  repeat' split
  all_goals simp_all

@[simp] theorem State.residueFault_kept (s : State) (t : ℕ) (j : MmbJob) (rest : List MmbJob) :
    (State.residueFault s t j rest).kept = s.kept := by simp [State.residueFault]

theorem execMmbRetire_kept (t : Slot) (residueBad : Bool) (s : State) :
    ∀ post, execMmbRetire t residueBad s = .next post → post.kept = s.kept := by
  intro u h
  unfold execMmbRetire at h
  repeat' split at h
  all_goals cases h
  all_goals simp

theorem execVectorRetire_kept (t : Slot) (s : State) :
    ∀ post, execVectorRetire t s = .next post → post.kept = s.kept := by
  unfold execVectorRetire
  repeat' split
  all_goals simp_all

theorem execStalledIssueRetry_kept (t : Slot) (s : State) :
    ∀ post, execStalledIssueRetry t s = .next post → post.kept = s.kept := by
  intro u h
  unfold execStalledIssueRetry at h
  repeat' split at h
  all_goals cases h
  all_goals simp

@[simp] theorem State.stallTimeout_kept (s : State) (t : ℕ) (i : Tis) :
    (State.stallTimeout s t i).kept = s.kept := by simp [State.stallTimeout]

theorem execScoreboardTimeout_kept (t : Slot) (elapsedNs : ℕ) (s : State) :
    ∀ post, execScoreboardTimeout t elapsedNs s = .next post → post.kept = s.kept := by
  unfold execScoreboardTimeout
  grind [foldl_kept, State.stallTimeout_kept]

@[simp] theorem State.fetchFault_kept (s : State) (t : ℕ) :
    (State.fetchFault s t).kept = s.kept := by simp [State.fetchFault]

@[simp] theorem State.tileBeats_kept (s : State) (t : ℕ) :
    (State.tileBeats s t).kept = s.kept := by simp [State.tileBeats]

@[simp] theorem State.beats_kept (s : State) :
    (State.beats s).kept = s.kept := by simp [State.beats]

theorem execFenceComplete_kept (t : Slot) (s : State) :
    ∀ post, execFenceComplete t s = .next post → post.kept = s.kept := by
  intro u h
  unfold execFenceComplete at h
  repeat' split at h
  all_goals cases h
  all_goals simp

@[simp] theorem State.lateRecord_kept (s : State) (t : ℕ) (n : ℕ) (last : Bool) :
    (State.lateRecord s t n last).kept = s.kept := by grind [State.lateRecord, State.set_kept, State.climb_kept, State.setSuspect_kept, State.meet_kept]

@[simp] theorem State.releaseBarrier_kept (s : State) (b : ℕ) (x : Barrier) :
    (State.releaseBarrier s b x).kept = s.kept := by simp [State.releaseBarrier]

theorem execBarComplete_kept (b : Fin 64) (s : State) :
    ∀ post, execBarComplete b s = .next post → post.kept = s.kept := by
  unfold execBarComplete
  simp only []
  repeat' split
  all_goals first | rfl | simp_all | grind [State.releaseBarrier_kept]

theorem execRecvselComplete_kept (t : Slot) (s : State) :
    ∀ post, execRecvselComplete t s = .next post → post.kept = s.kept := by
  intro u h
  unfold execRecvselComplete at h
  repeat' split at h
  all_goals cases h
  all_goals simp

theorem execSendRetire_kept (t : Slot) (s : State) :
    ∀ post, execSendRetire t s = .next post → post.kept = s.kept := by
  intro u h
  unfold execSendRetire at h
  repeat' split at h
  all_goals cases h
  all_goals simp

@[simp] theorem State.noteSpill_kept (s : State) :
    (State.noteSpill s).kept = s.kept := by simp [State.noteSpill]

@[simp] theorem State.noteDepth_kept (s : State) (t : ℕ) (n : ℕ) :
    (State.noteDepth s t n).kept = s.kept := by simp [State.noteDepth]

theorem State.put236_kept (s : State) (t : ℕ) (q : ℕ) (m : Msg) :
    ∀ post, State.put236 s t q m = some post → post.kept = s.kept := by
  unfold State.put236
  grind [foldl_kept, State.noteSpill_kept, State.onTile_kept, State.noteDepth_kept]

@[simp] theorem State.refuse_kept (s : State) (st : ℕ) :
    (State.refuse s st).1.kept = s.kept := by
  unfold State.refuse
  try dsimp only
  try intro u h
  repeat' split
  all_goals first | (simp_all; done)

@[simp] theorem State.offerQueue_kept (s : State) (t : ℕ) (m : Msg) (gen : Bool) :
    (State.offerQueue s t m gen).1.kept = s.kept := by grind [State.offerQueue, State.refuse_kept, State.put236_kept, State.onTile_kept, State.noteDepth_kept]

@[simp] theorem State.setClusterQueue_kept (s : State) (c : ℕ) (q : ℕ) (v : Queue) :
    (State.setClusterQueue s c q v).kept = s.kept := by simp [State.setClusterQueue]

@[simp] theorem State.clusterVerdict_kept (s : State) (c : ℕ) (q : ℕ) (v : Queue) (m : Msg) :
    (State.clusterVerdict s c q v m).1.kept = s.kept := by
  unfold State.clusterVerdict
  repeat' split
  all_goals simp_all

@[simp] theorem State.offerCluster_kept (s : State) (c : ℕ) (q : ℕ) (m : Msg) :
    (State.offerCluster s c q m).1.kept = s.kept := by simp [State.offerCluster]

@[simp] theorem State.offer_kept (s : State) (m : Msg) :
    (State.offer s m).1.kept = s.kept := by
  unfold State.offer
  try dsimp only
  try intro u h
  repeat' split
  all_goals first | (simp_all; done)

@[simp] theorem State.offerToken_kept (s : State) (m : Msg) :
    (State.offerToken s m).1.kept = s.kept := by
  unfold State.offerToken
  try dsimp only
  try intro u h
  repeat' split
  all_goals first | (simp_all; done)

@[simp] theorem State.onSu_kept (s : State) (t : ℕ) (u : ℕ) (f : Su → Su) :
    (State.onSu s t u f).kept = s.kept := by simp [State.onSu]

@[simp] theorem State.offerLocal_kept (s : State) (t : ℕ) (m : Msg) (q : ℕ) :
    (State.offerLocal s t m q).1.kept = s.kept := by grind [State.offerLocal, State.refuse_kept, State.put236_kept, State.onTile_kept, State.noteDepth_kept]

@[simp] theorem State.steerFail_kept (s : State) (t : ℕ) (u : ℕ) (st : ℕ) :
    (State.steerFail s t u st).kept = s.kept := by simp [State.steerFail]

@[simp] theorem State.serve_kept (s : State) (t : ℕ) (u : ℕ) (f : Firing) (x4 : List ℕ) :
    (State.serve s t u f x4).kept = s.kept := by
  induction x4 generalizing s with
  | nil => simp [State.serve]
  | cons o l ih =>
    unfold State.serve
    dsimp only
    have h := fun q => State.offerLocal_kept s t f.msg q
    split
    · simp [ih]
    · split <;> rename_i hx <;> have h2 := h (wbits (f.acts.getD o (0, 0)).1 26 4) <;>
        rw [hx] at h2 <;> simp_all
    · split <;> simp
    · repeat' split
      all_goals simp_all

@[simp] theorem State.beginFiring_kept (s : State) (t : ℕ) (u : ℕ) :
    (State.beginFiring s t u).kept = s.kept := by
  unfold State.beginFiring
  grind [foldl_kept, State.serve_kept, State.onSu_kept, State.onTile_kept]

@[simp] theorem State.fire_kept (s : State) (t : ℕ) (u : ℕ) :
    (State.fire s t u).kept = s.kept := by grind [State.fire, State.serve_kept, State.beginFiring_kept]

@[simp] theorem State.fireGoesOn_kept (s : State) (t : ℕ) (u : ℕ) (st : ℕ) :
    (State.fireGoesOn s t u st).kept = s.kept := by
  unfold State.fireGoesOn
  repeat' split
  all_goals simp_all

@[simp] theorem State.sendStatus_kept (s : State) (src : ℕ) (flow : ℕ) (first : ℕ) (code : ℕ) :
    (State.sendStatus s src flow first code).kept = s.kept := by
  unfold State.sendStatus
  repeat' split
  all_goals simp_all

@[simp] theorem State.nodeOutcome_kept (s : State) (n : Option NodeSend) (st : ℕ) :
    (State.nodeOutcome s n st).kept = s.kept := by
  unfold State.nodeOutcome
  repeat' split
  all_goals simp_all

@[simp] theorem State.srcDone_kept (s : State) (src : MsgSrc) (st : ℕ) :
    (State.srcDone s src st).kept = s.kept := by
  unfold State.srcDone
  repeat' split
  all_goals simp_all

@[simp] theorem State.srcRefused_kept (s : State) (src : MsgSrc) :
    (State.srcRefused s src).kept = s.kept := by
  unfold State.srcRefused
  repeat' split
  all_goals simp_all

@[simp] theorem State.settleOffer_kept (s : State) (src : MsgSrc) (st : Option ℕ) :
    (State.settleOffer s src st).kept = s.kept := by
  unfold State.settleOffer
  repeat' split
  all_goals simp_all

@[simp] theorem State.offerAt_kept (s : State) (src : MsgSrc) (m : Msg) :
    (State.offerAt s src m).1.kept = s.kept := by
  unfold State.offerAt
  grind [foldl_kept, State.offer_kept, State.offerToken_kept, State.offerLocal_kept, State.fabricTake_kept]

@[simp] theorem State.offerFrom_kept (s : State) (src : MsgSrc) (phase : MuPhase) (token : Bool) :
    (State.offerFrom s src phase token).kept = s.kept := by
  unfold State.offerFrom
  split
  · rfl
  · split <;> simp

end Sys2Proof.Machine
end

