-- ==== Sys2Proof/Laws/KeptLife.lean ====
section
/-! SUPPORT. One lemma for each operation that leaves the queue and module memory as they were: receiving, boot, resets, the governor, strands. -/

namespace Sys2Proof.Machine

@[simp] theorem State.setRflow_kept (s : State) (v : RFlow) :
    (State.setRflow s v).kept = s.kept := by simp [State.setRflow]

@[simp] theorem State.sendAck_kept (s : State) (src : BitVec 16) (flow : BitVec 16) :
    (State.sendAck s src flow).kept = s.kept := by simp [State.sendAck]

@[simp] theorem State.takeClose_kept (s : State) (owner : BitVec 16) (w : ℕ) :
    (State.takeClose s owner w).kept = s.kept := by grind [State.takeClose, State.sendCloseAck_kept, State.onFabric_kept]

@[simp] theorem State.placeMcast_kept (s : State) (m : Msg) :
    (State.placeMcast s m).1.kept = s.kept := by
  unfold State.placeMcast
  split
  · simp
  · dsimp only; split <;> simp

@[simp] theorem State.deliverWhole_kept (s : State) (l : List Packet) :
    (State.deliverWhole s l).kept = s.kept := by
  unfold State.deliverWhole
  simp only []
  repeat' split
  all_goals first | rfl | simp_all | grind [State.takeClose_kept, State.sendStatus_kept, State.placeMcast_kept, State.nodeSend_kept]

@[simp] theorem State.advanceFlow_kept (s : State) (src : BitVec 16) (flow : BitVec 16) (x3 : ℕ) :
    (State.advanceFlow s src flow x3).kept = s.kept := by
  induction x3 generalizing s with
  | zero => rfl
  | succ n ih => unfold State.advanceFlow; dsimp only; split <;> simp_all

@[simp] theorem State.onMcast_kept (s : State) (id : ℕ) (f : Mcast → Mcast) :
    (State.onMcast s id f).kept = s.kept := by grind [State.onMcast, State.onFabric_kept, State.endMcast_kept]

@[simp] theorem State.takeAck_kept (s : State) (src : BitVec 16) (flow : BitVec 16) (seq : BitVec 16) :
    (State.takeAck s src flow seq).kept = s.kept := by
  unfold State.takeAck
  split
  · refine foldl_kept _ _ _ fun s x => ?_
    split <;> simp
  · simp

@[simp] theorem State.takeNack_kept (s : State) (src : BitVec 16) (flow : BitVec 16) (seq : BitVec 16) (count : ℕ) :
    (State.takeNack s src flow seq count).kept = s.kept := by simp [State.takeNack]

@[simp] theorem State.takeStatus_kept (s : State) (src : BitVec 16) (flow : BitVec 16) (seq : BitVec 16) (code : ℕ) :
    (State.takeStatus s src flow seq code).kept = s.kept := by
  unfold State.takeStatus
  repeat' split
  all_goals simp_all

@[simp] theorem State.forward_kept (s : State) (port : ℕ) (p : Packet) (l : List ℕ) :
    (State.forward s port p l).kept = s.kept := by
  unfold State.forward
  repeat' split
  all_goals simp_all

@[simp] theorem State.onShards_kept (s : State) (f : Shard → Shard) :
    (State.onShards s f).kept = s.kept := by simp [State.onShards]

@[simp] theorem State.lostDone_kept (s : State) :
    (State.lostDone s).kept = s.kept := by simp [State.lostDone]

@[simp] theorem State.writeAnswer_kept (s : State) (j : JobId) (d : Desc) (a : Answer) (ringError : Bool) :
    (State.writeAnswer s j d a ringError).kept = s.kept := by
  unfold State.writeAnswer
  grind [foldl_kept, State.channelError_kept, State.onShards_kept, State.retireDesc_kept, State.lostDone_kept, State.toHost_kept, State.putRecord_kept, State.flushAborts_kept, State.countIrq_kept]

@[simp] theorem State.commit_kept (s : State) (j : JobId) (ringError : Bool) :
    (State.commit s j ringError).kept = s.kept := by
  unfold State.commit
  repeat' split
  all_goals simp_all

@[simp] theorem State.stopStrand_kept (s : State) (st : ℕ) (j : JobId) :
    (State.stopStrand s st j).kept = s.kept := by grind [State.stopStrand, State.onStrand_kept, State.resetTiles_kept, State.leaveStrand_kept]

@[simp] theorem State.stopWork_kept (s : State) (j : JobId) :
    (State.stopWork s j).kept = s.kept := by simp [State.stopWork]

@[simp] theorem State.letGo_kept (s : State) (j : JobId) :
    (State.letGo s j).kept = s.kept := by
  unfold State.letGo
  repeat' split
  all_goals simp_all

@[simp] theorem State.overrule_kept (s : State) (j : JobId) (st : ℕ) :
    (State.overrule s j st).kept = s.kept := by simp [State.overrule]

@[simp] theorem State.closeWindows_kept (s : State) :
    (State.closeWindows s).kept = s.kept := by simp [State.closeWindows]

@[simp] theorem State.setQuiesce_kept (s : State) (q : Quiesce) :
    (State.setQuiesce s q).kept = s.kept := by simp [State.setQuiesce]

@[simp] theorem State.askQuiesce_kept (s : State) (src : QSource) :
    (State.askQuiesce s src).kept = s.kept := by
  unfold State.askQuiesce
  try dsimp only
  repeat' split
  all_goals first | rfl | (simp; done) | (simp_all; done) | grind [State.closeWindows_kept, State.raise_kept, State.setQuiesce_kept, State.deviceEvent_kept]

@[simp] theorem State.forceQuiesce_kept (s : State) (src : QSource) :
    (State.forceQuiesce s src).kept = s.kept := by
  unfold State.forceQuiesce
  simp only []
  repeat' split
  all_goals first | rfl | simp_all | grind [State.closeWindows_kept, State.stopWork_kept, State.raise_kept, State.setQuiesce_kept, State.overrule_kept, State.deviceEvent_kept]

@[simp] theorem State.cancelQuiesce_kept (s : State) :
    (State.cancelQuiesce s).kept = s.kept := by simp [State.cancelQuiesce]

@[simp] theorem State.waitedQuiesce_kept (s : State) :
    (State.waitedQuiesce s).kept = s.kept := by
  unfold State.waitedQuiesce
  repeat' split
  all_goals simp_all

@[simp] theorem State.onRecorder_kept (s : State) (f : Recorder → Recorder) :
    (State.onRecorder s f).kept = s.kept := by simp [State.onRecorder]

@[simp] theorem State.sample_kept (s : State) (q : ℕ) (v : ℤ) (b : ℕ) (w : ℕ) :
    (State.sample s q v b w).kept = s.kept := by simp [State.sample]

@[simp] theorem State.shareRecord_kept (s : State) (q : ℕ) :
    (State.shareRecord s q).kept = s.kept := by simp [State.shareRecord]

@[simp] theorem State.countsRecord_kept (s : State) :
    (State.countsRecord s).kept = s.kept := by simp [State.countsRecord]

@[simp] theorem State.tileRecords_kept (s : State) :
    (State.tileRecords s).kept = s.kept := by simp [State.tileRecords]

@[simp] theorem State.beginInterval_kept (s : State) :
    (State.beginInterval s).kept = s.kept := by simp [State.beginInterval]

@[simp] theorem State.endInterval_kept (s : State) :
    (State.endInterval s).kept = s.kept := by simp [State.endInterval]

@[simp] theorem State.flushBehind_kept (s : State) :
    (State.flushBehind s).kept = s.kept := by
  unfold State.flushBehind
  split <;> simp

@[simp] theorem State.resetRecord_kept (s : State) :
    (State.resetRecord s).kept = s.kept := by
  unfold State.resetRecord
  grind [foldl_kept, State.onRecorder_kept, State.writeRecord_kept]

@[simp] theorem State.licenseStrands_kept (s : State) :
    (State.licenseStrands s).kept = s.kept := by
  unfold State.licenseStrands
  grind [foldl_kept, State.setStrand_kept]

@[simp] theorem State.applyLicences_kept (s : State) :
    (State.applyLicences s).kept = s.kept := by simp [State.applyLicences]

@[simp] theorem State.setBlock_kept (s : State) (b : ℕ) (v : FlashBlock) :
    (State.setBlock s b v).kept = s.kept := by simp [State.setBlock]

@[simp] theorem State.loadDict_kept (s : State) (body : List (ℕ × ℕ)) :
    (State.loadDict s body).kept = s.kept := by simp [State.loadDict]

@[simp] theorem State.loadSecurity_kept (s : State) (body : List (ℕ × ℕ)) :
    (State.loadSecurity s body).kept = s.kept := by simp [State.loadSecurity]

@[simp] theorem State.useFlash_kept (s : State) (r : BootRead) :
    (State.useFlash s r).kept = s.kept := by
  unfold State.useFlash
  dsimp only
  split <;> simp

@[simp] theorem State.flashEvents_kept (s : State) (r : BootRead) :
    (State.flashEvents s r).kept = s.kept := by simp [State.flashEvents]

@[simp] theorem State.measureBoot_kept (s : State) (firmware : List Taken) :
    (State.measureBoot s firmware).kept = s.kept := by simp [State.measureBoot]

@[simp] theorem State.startSeal_kept (s : State) :
    (State.startSeal s).kept = s.kept := by
  unfold State.startSeal
  simp only []
  repeat' split
  all_goals first | rfl | simp_all | grind [State.setBlock_kept]

@[simp] theorem State.finishClear_kept (s : State) :
    (State.finishClear s).kept = s.kept := by
  unfold State.finishClear
  repeat' split
  all_goals simp_all

@[simp] theorem State.laySpares_kept (s : State) :
    (State.laySpares s).kept = s.kept := by simp [State.laySpares]

@[simp] theorem State.layRetired_kept (s : State) :
    (State.layRetired s).kept = s.kept := by
  unfold State.layRetired
  grind [foldl_kept, State.onStrand_kept, State.set_kept]

@[simp] theorem State.marchFrost_kept (s : State) (t : ℕ) :
    (State.marchFrost s t).kept = s.kept := by grind [State.marchFrost, State.bump_kept, State.setKept_kept, State.draw_kept, State.dirty_kept, State.raise_kept, State.setRepair_kept]

@[simp] theorem State.marchBank_kept (s : State) (t : ℕ) (b : ℕ) :
    (State.marchBank s t b).kept = s.kept := by
  unfold State.marchBank
  repeat' split
  all_goals simp_all

@[simp] theorem State.restoreBank_kept (s : State) (t : ℕ) (b : ℕ) :
    (State.restoreBank s t b).kept = s.kept := by simp [State.restoreBank]

@[simp] theorem State.march_kept (s : State) (b : BootIn) (kind : ℕ) :
    (State.march s b kind).kept = s.kept := by simp [State.march]

@[simp] theorem State.freshTiles_kept (s : State) :
    (State.freshTiles s).kept = s.kept := by simp [State.freshTiles]

@[simp] theorem State.loadSuspects_kept (s : State) :
    (State.loadSuspects s).kept = s.kept := by
  unfold State.loadSuspects
  grind [foldl_kept, State.setSuspect_kept]

@[simp] theorem State.bootStop_kept (s : State) (phase : BootPhase) (code : ℕ) :
    (State.bootStop s phase code).kept = s.kept := by simp [State.bootStop]

@[simp] theorem State.lightPorts_kept (s : State) :
    (State.lightPorts s).kept = s.kept := by
  unfold State.lightPorts
  grind [foldl_kept, State.setPort_kept, State.set_kept]

@[simp] theorem State.becomeReady_kept (s : State) (ms : ℕ) (first : State → State) (hfirst : ∀ (a0 : State),
    (first a0).kept = a0.kept) :
    (State.becomeReady s ms first).kept = s.kept := by
  unfold State.becomeReady
  repeat' split
  all_goals simp_all

@[simp] theorem State.readPkg_kept (s : State) (i : ℕ) (t : ℤ) :
    (State.readPkg s i t).kept = s.kept := by simp [State.readPkg]

@[simp] theorem State.showTemps_kept (s : State) :
    (State.showTemps s).kept = s.kept := by simp [State.showTemps]

@[simp] theorem State.readTemps_kept (s : State) (temps : List ℤ) :
    (State.readTemps s temps).kept = s.kept := by simp [State.readTemps]

@[simp] theorem State.trainSub_kept (s : State) (sub : ℕ) :
    (State.trainSub s sub).kept = s.kept := by simp [State.trainSub]

@[simp] theorem State.callRetrain_kept (s : State) (tenths : ℕ) :
    (State.callRetrain s tenths).kept = s.kept := by simp [State.callRetrain]

@[simp] theorem State.trainAll_kept (s : State) :
    (State.trainAll s).kept = s.kept := by simp [State.trainAll]

@[simp] theorem State.bootLoad_kept (s : State) (b : BootIn) (r : BootRead) :
    (State.bootLoad s b r).kept = s.kept := by simp [State.bootLoad]

@[simp] theorem State.keepScan_kept (s : State) (old : State) (kind : ℕ) :
    (State.keepScan s old kind).kept = s.kept := by
  unfold State.keepScan
  repeat' split
  all_goals simp_all

@[simp] theorem State.thawWindows_kept (s : State) :
    (State.thawWindows s).kept = s.kept := by simp [State.thawWindows]

@[simp] theorem State.thawWork_kept (s : State) :
    (State.thawWork s).kept = s.kept := by simp [State.thawWork]

@[simp] theorem State.moveSpares_kept (s : State) :
    (State.moveSpares s).kept = s.kept := by
  unfold State.moveSpares
  grind [foldl_kept, State.setSpare_kept]

@[simp] theorem State.thawRetired_kept (s : State) :
    (State.thawRetired s).kept = s.kept := by
  unfold State.thawRetired
  grind [foldl_kept, State.moveSpares_kept, State.layRetired_kept, State.raise_kept]

@[simp] theorem State.loseAll_kept (s : State) :
    (State.loseAll s).kept = s.kept := by simp [State.loseAll]

@[simp] theorem State.commitAll_kept (s : State) (js : List JobId) :
    (State.commitAll s js).kept = s.kept := by simp [State.commitAll]

@[simp] theorem State.endThaw_kept (s : State) (ms : ℕ) :
    (State.endThaw s ms).kept = s.kept := by simp [State.endThaw]

@[simp] theorem State.onPower_kept (s : State) (f : Power → Power) :
    (State.onPower s f).kept = s.kept := by simp [State.onPower]

@[simp] theorem State.setInput_kept (s : State) (mv : ℕ) :
    (State.setInput s mv).kept = s.kept := by simp [State.setInput]

@[simp] theorem State.noteShort_kept (s : State) (r : Rail) :
    (State.noteShort s r).kept = s.kept := by simp [State.noteShort]

theorem execInputLow_kept (mv : ℕ) (s : State) :
    ∀ post, execInputLow mv s = .next post → post.kept = s.kept := by
  unfold execInputLow
  try dsimp only
  repeat' split
  all_goals first | rfl | (simp; done) | (simp_all; done) | grind [State.setInput_kept, State.raise_kept]

theorem execInputHigh_kept (mv : ℕ) (s : State) :
    ∀ post, execInputHigh mv s = .next post → post.kept = s.kept := by
  unfold execInputHigh
  repeat' split
  all_goals simp_all

@[simp] theorem State.dipFall_kept (s : State) (row : ℕ) (mv : ℕ) :
    (State.dipFall s row mv).kept = s.kept := by simp [State.dipFall]

@[simp] theorem State.reportShort_kept (s : State) :
    (State.reportShort s).kept = s.kept := by
  unfold State.reportShort
  repeat' split
  all_goals simp_all

@[simp] theorem State.retriesFree_kept (s : State) :
    (State.retriesFree s).kept = s.kept := by grind [State.retriesFree, State.onPower_kept]

@[simp] theorem State.setVcore_kept (s : State) (mv : ℕ) :
    (State.setVcore s mv).kept = s.kept := by
  unfold State.setVcore
  grind [foldl_kept, State.applyTrim_kept, State.set_kept]

@[simp] theorem State.showGovernor_kept (s : State) :
    (State.showGovernor s).kept = s.kept := by simp [State.showGovernor]

@[simp] theorem State.heat_kept (s : State) (tj : ℤ) :
    (State.heat s tj).kept = s.kept := by grind [State.heat, State.set_kept, State.raise_kept, State.onPower_kept]

@[simp] theorem State.limitStep_kept (s : State) (avgW : ℕ) :
    (State.limitStep s avgW).kept = s.kept := by grind [State.limitStep, State.setVcore_kept, State.raise_kept, State.onPower_kept]

@[simp] theorem State.followSetpoint_kept (s : State) :
    (State.followSetpoint s).kept = s.kept := by grind [State.followSetpoint, State.setVcore_kept]

@[simp] theorem State.easeFast_kept (s : State) (above : Bool) :
    (State.easeFast s above).kept = s.kept := by
  unfold State.easeFast
  repeat' split
  all_goals simp_all

@[simp] theorem State.loopSamples_kept (s : State) :
    (State.loopSamples s).kept = s.kept := by grind [State.loopSamples, State.draw_kept, State.sample_kept]

@[simp] theorem State.governorLoop_kept (s : State) (avgW : ℕ) (tj : ℤ) :
    (State.governorLoop s avgW tj).kept = s.kept := by grind [State.governorLoop, State.setVcore_kept, State.easeFast_kept, State.showGovernor_kept, State.set_kept, State.limitStep_kept, State.onPower_kept, State.followSetpoint_kept, State.loopSamples_kept, State.heat_kept]

theorem execGovernorLoop_kept (avgW : ℕ) (tj : ℤ) (s : State) :
    ∀ post, execGovernorLoop avgW tj s = .next post → post.kept = s.kept := by
  intro u h
  simp [execGovernorLoop] at h
  grind [State.governorLoop_kept]

@[simp] theorem State.releaseStep_kept (s : State) :
    (State.releaseStep s).kept = s.kept := by grind [State.releaseStep, State.setVcore_kept, State.onPower_kept]

theorem execGovernorRelease_kept (maxAvgW : ℕ) (s : State) :
    ∀ post, execGovernorRelease maxAvgW s = .next post → post.kept = s.kept := by
  unfold execGovernorRelease
  grind [foldl_kept, State.releaseStep_kept, State.showGovernor_kept]

theorem execPowerSample_kept (watts : ℕ) (s : State) :
    ∀ post, execPowerSample watts s = .next post → post.kept = s.kept := by
  intro u h
  unfold execPowerSample at h
  repeat' split at h
  all_goals cases h
  all_goals simp

theorem execFastThrottle_kept (watts : ℕ) (us : ℕ) (s : State) :
    ∀ post, execFastThrottle watts us s = .next post → post.kept = s.kept := by
  intro u h
  unfold execFastThrottle at h
  repeat' split at h
  all_goals cases h
  all_goals simp

theorem execThermalLimit_kept (tj : ℤ) (s : State) :
    ∀ post, execThermalLimit tj s = .next post → post.kept = s.kept := by
  intro u h
  unfold execThermalLimit at h
  repeat' split at h
  all_goals cases h
  all_goals simp

@[simp] theorem State.abandonAll_kept (s : State) :
    (State.abandonAll s).kept = s.kept := by simp [State.abandonAll]

theorem execWarningLevelFall_kept (row : Fin 24) (mv : ℕ) (s : State) :
    ∀ post, execWarningLevelFall row mv s = .next post → post.kept = s.kept := by
  unfold execWarningLevelFall
  repeat' split
  all_goals simp_all

@[simp] theorem State.gapRecord_kept (s : State) :
    (State.gapRecord s).kept = s.kept := by grind [State.gapRecord, State.onRecorder_kept, State.record_kept]

@[simp] theorem State.dipRecord_kept (s : State) (d : Dip) (us : ℕ) :
    (State.dipRecord s d us).kept = s.kept := by
  unfold State.dipRecord
  repeat' split
  all_goals simp_all

@[simp] theorem State.heldTrims_kept (s : State) :
    (State.heldTrims s).kept = s.kept := by
  unfold State.heldTrims
  grind [foldl_kept, State.applyTrim_kept]

@[simp] theorem State.endDip_kept (s : State) (d : Dip) (us : ℕ) :
    (State.endDip s d us).kept = s.kept := by
  unfold State.endDip
  grind [foldl_kept, State.bump_kept, State.gapRecord_kept, State.set_kept, State.heldTrims_kept, State.onPower_kept, State.dipRecord_kept]

theorem execSafePacingExit_kept (heldUs : ℕ) (durationUs : ℕ) (s : State) :
    ∀ post, execSafePacingExit heldUs durationUs s = .next post → post.kept = s.kept := by grind [execSafePacingExit, State.endDip_kept]

@[simp] theorem State.marginEntry_kept (s : State) (t : ℕ) :
    (State.marginEntry s t).kept = s.kept := by grind [State.marginEntry, State.climb_kept, State.setSuspect_kept, State.meet_kept]

@[simp] theorem State.readMargins_kept (s : State) (t : ℕ) (m : Margins) :
    (State.readMargins s t m).kept = s.kept := by simp [State.readMargins]

@[simp] theorem State.paceSafe_kept (s : State) (t : ℕ) :
    (State.paceSafe s t).kept = s.kept := by simp [State.paceSafe]

theorem execMarginLow_kept (t : Slot) (m : Margins) (s : State) :
    ∀ post, execMarginLow t m s = .next post → post.kept = s.kept := by
  unfold execMarginLow
  try dsimp only
  repeat' split
  all_goals first | rfl | (simp; done) | (simp_all; done) | grind [State.onRecorder_kept, State.marginEntry_kept, State.set_kept, State.raise_kept, State.onTile_kept]

theorem execMarginRecover_kept (t : Slot) (m : Margins) (heldUs : ℕ) (s : State) :
    ∀ post, execMarginRecover t m heldUs s = .next post → post.kept = s.kept := by
  intro u h
  unfold execMarginRecover at h
  repeat' split at h
  all_goals cases h
  all_goals simp

@[simp] theorem State.setMembers_kept (s : State) (st : ℕ) :
    (State.setMembers s st).kept = s.kept := by simp [State.setMembers]

@[simp] theorem State.yieldSlice_kept (s : State) (t : ℕ) :
    (State.yieldSlice s t).kept = s.kept := by
  unfold State.yieldSlice
  repeat' split
  all_goals simp_all

@[simp] theorem State.beginPriming_kept (s : State) (st : ℕ) (n : ℕ) :
    (State.beginPriming s st n).kept = s.kept := by simp [State.beginPriming]

theorem execPrimeStage_kept (st : StrandId) (k : Fin 24) (s : State) :
    ∀ post, execPrimeStage st k s = .next post → post.kept = s.kept := by
  intro u h
  unfold execPrimeStage at h
  try dsimp only at h
  repeat' split at h
  all_goals cases h
  all_goals try simp_all

@[simp] theorem State.segmentBad_kept (s : State) (st : ℕ) (k : ℕ) :
    (State.segmentBad s st k).kept = s.kept := by grind [State.segmentBad, State.onStrand_kept, State.bump_kept, State.raise_kept, State.endJob_kept, State.dropSeq_kept]

@[simp] theorem State.segmentGood_kept (s : State) (st : ℕ) (k : ℕ) (t : ℕ) :
    (State.segmentGood s st k t).kept = s.kept := by grind [State.segmentGood, State.onStrand_kept, State.startStage_kept, State.loadStage_kept, State.takeSlot_kept, State.parkStage_kept]

theorem execPrimerSegmentDone_kept (st : StrandId) (k : Fin 24) (flips : Word) (s : State) :
    ∀ post, execPrimerSegmentDone st k flips s = .next post → post.kept = s.kept := by
  unfold execPrimerSegmentDone
  simp only []
  repeat' split
  all_goals first | rfl | simp_all | grind [State.segmentGood_kept, State.segmentBad_kept]

@[simp] theorem State.switchStage_kept (s : State) (st : ℕ) (k : ℕ) (t : ℕ) :
    (State.switchStage s st k t).kept = s.kept := by
  unfold State.switchStage
  repeat' split
  all_goals simp_all

theorem execResidentSwitch_kept (st : StrandId) (s : State) :
    ∀ post, execResidentSwitch st s = .next post → post.kept = s.kept := by
  unfold execResidentSwitch
  try dsimp only
  repeat' split
  all_goals first | rfl | (simp; done) | (simp_all; done) | grind [State.onStrand_kept, State.setMembers_kept, State.switchStage_kept]

theorem execSectionAdvance_kept (st : StrandId) (s : State) :
    ∀ post, execSectionAdvance st s = .next post → post.kept = s.kept := by
  intro u h
  unfold execSectionAdvance at h
  dsimp only at h
  repeat' split at h
  all_goals cases h
  all_goals first | (simp_all; done)

theorem execStrandStall_kept (st : StrandId) (elapsedUs : ℕ) (s : State) :
    ∀ post, execStrandStall st elapsedUs s = .next post → post.kept = s.kept := by
  intro u h
  unfold execStrandStall at h
  dsimp only at h
  repeat' split at h
  all_goals cases h
  all_goals first | (simp_all; done)

theorem execStrandResume_kept (st : StrandId) (s : State) :
    ∀ post, execStrandResume st s = .next post → post.kept = s.kept := by
  intro u h
  unfold execStrandResume at h
  dsimp only at h
  repeat' split at h
  all_goals cases h
  all_goals first | (simp_all; done)

@[simp] theorem State.loseCheckpoint_kept (s : State) (st : ℕ) :
    (State.loseCheckpoint s st).kept = s.kept := by simp [State.loseCheckpoint]

theorem execStrandFuse_kept (row : Fin 24) (s : State) :
    ∀ post, execStrandFuse row s = .next post → post.kept = s.kept := by
  intro u h
  unfold execStrandFuse at h
  dsimp only at h
  repeat' split at h
  all_goals cases h
  all_goals first | (simp_all; done)

@[simp] theorem State.unfuse_kept (s : State) (e : ℕ) :
    (State.unfuse s e).kept = s.kept := by simp [State.unfuse]

@[simp] theorem State.moveSpare_kept (s : State) (t : ℕ) :
    (State.moveSpare s t).kept = s.kept := by simp [State.moveSpare]

@[simp] theorem State.readmit_kept (s : State) (r : Readmit) :
    (State.readmit s r).kept = s.kept := by simp [State.readmit]

@[simp] theorem State.readmitAll_kept (s : State) (st : ℕ) :
    (State.readmitAll s st).kept = s.kept := by grind [State.readmitAll, State.readmit_kept]

@[simp] theorem State.retire_kept (s : State) (st : ℕ) :
    (State.retire s st).kept = s.kept := by grind [State.retire, State.onStrand_kept, State.tidyGroups_kept, State.set_kept, State.raise_kept, State.readmitAll_kept]

@[simp] theorem State.moveAway_kept (s : State) (st : ℕ) :
    (State.moveAway s st).kept = s.kept := by simp [State.moveAway]

@[simp] theorem State.reload_kept (s : State) (st : ℕ) (moved : List ℕ) :
    (State.reload s st moved).kept = s.kept := by
  unfold State.reload
  grind [foldl_kept, State.onStrand_kept, State.writeMap_kept, State.resumeMarks_kept, State.setMembers_kept, State.loadStage_kept, State.moveAway_kept, State.restartStages_kept, State.endJob_kept]

@[simp] theorem State.replace_kept (s : State) (st : ℕ) (us : ℕ) :
    (State.replace s st us).kept = s.kept := by
  unfold State.replace
  grind [foldl_kept, State.onStrand_kept, State.bump_kept, State.resetTiles_kept, State.retire_kept, State.moveSpare_kept, State.raise_kept, State.peak_kept, State.reload_kept, State.closeP_kept]

theorem execReplacement_kept (st : StrandId) (durationUs : ℕ) (s : State) :
    ∀ post, execReplacement st durationUs s = .next post → post.kept = s.kept := by
  simp only [execReplacement]
  repeat' split
  all_goals first | rfl | (simp; done) | (simp_all; done) | grind [State.replace_kept]

theorem execDramTempReadout_kept (temps : List ℤ) (s : State) :
    ∀ post, execDramTempReadout temps s = .next post → post.kept = s.kept := by
  intro u h
  unfold execDramTempReadout at h
  repeat' split at h
  all_goals cases h
  all_goals simp

theorem execRefresh_kept (sub : SubCh) (s : State) :
    ∀ post, execRefresh sub s = .next post → post.kept = s.kept := by
  intro u h
  unfold execRefresh at h
  try dsimp only at h
  repeat' split at h
  all_goals cases h
  all_goals try simp_all

theorem execRetrain_kept (sub : SubCh) (ok : Bool) (s : State) :
    ∀ post, execRetrain sub ok s = .next post → post.kept = s.kept := by
  intro u h
  unfold execRetrain at h
  repeat' split at h
  all_goals cases h
  all_goals simp

end Sys2Proof.Machine
end

