-- ==== Sys2Proof/Laws/KeptHost.lean ====
section
/-! SUPPORT. One lemma for each operation that leaves the queue and module memory as they were: the host path, services, tuning, checking and skim. -/

namespace Sys2Proof.Machine

@[simp] theorem State.onHost_kept (s : State) (f : HostLink → HostLink) :
    (State.onHost s f).kept = s.kept := by simp [State.onHost]

@[simp] theorem State.setClaims_kept (s : State) (c : ℕ) (l : List ℕ) :
    (State.setClaims s c l).kept = s.kept := by
  unfold State.setClaims
  grind [foldl_kept, State.setStrand_kept]

@[simp] theorem State.rejectEntry_kept (s : State) (c : ℕ) (code : ℕ) :
    (State.rejectEntry s c code).kept = s.kept := by simp [State.rejectEntry]

@[simp] theorem State.readEntry_kept (s : State) (c : ℕ) (e : EntryRead) (inval : Bool) :
    (State.readEntry s c e inval).kept = s.kept := by
  unfold State.readEntry
  grind [foldl_kept, State.onChan_kept, State.setClaims_kept, State.onHost_kept, State.rejectEntry_kept]

@[simp] theorem State.doorbell_kept (s : State) (c : ℕ) (rsv : ℕ) (e : EntryRead) (act : State → State) (hact : ∀
    (a0 : State), (act a0).kept = a0.kept) :
    (State.doorbell s c rsv e act).kept = s.kept := by
  unfold State.doorbell
  grind [foldl_kept, State.bump_kept, State.onHost_kept, State.readEntry_kept, State.dropDoorbell_kept]

@[simp] theorem State.submitTail_kept (s : State) (c : ℕ) (tail : BitVec 16) :
    (State.submitTail s c tail).kept = s.kept := by grind [State.submitTail, State.channelError_kept, State.onChan_kept]

theorem execSubmit_kept (c : Chan) (tail : BitVec 16) (rsv : BitVec 44) (e : EntryRead) (s : State) :
    ∀ post, execSubmit c tail rsv e s = .next post → post.kept = s.kept := by
  unfold execSubmit
  intro u h
  repeat' split at h
  all_goals first | (simp at h; done) | (simp at h; subst h; simp; done) | (simp at h; subst h; simp_all; done) | grind [State.doorbell_kept, State.submitTail_kept]

theorem execInvalidate_kept (c : Chan) (rsv : BitVec 44) (e : EntryRead) (s : State) :
    ∀ post, execInvalidate c rsv e s = .next post → post.kept = s.kept := by
  unfold execInvalidate State.invalidate
  intro u h
  repeat' split at h
  all_goals first | (simp at h; done) | (simp at h; subst h; simp; done) | (simp at h; subst h; simp_all; done) | grind [State.readEntry_kept, State.dropDoorbell_kept]

@[simp] theorem State.ackTo_kept (s : State) (c : ℕ) (head : BitVec 16) :
    (State.ackTo s c head).kept = s.kept := by grind [State.ackTo, State.onChan_kept, State.flushAborts_kept, State.dropDoorbell_kept]

theorem execCack_kept (c : Chan) (head : BitVec 16) (rsv : BitVec 44) (e : EntryRead) (s : State) :
    ∀ post, execCack c head rsv e s = .next post → post.kept = s.kept := by simp [execCack]

@[simp] theorem State.abortFlying_kept (s : State) (c : ℕ) (i : ℕ) (d : Desc) :
    (State.abortFlying s c i d).kept = s.kept := by simp [State.abortFlying]

@[simp] theorem State.takeAbort_kept (s : State) (c : ℕ) (i : ℕ) :
    (State.takeAbort s c i).kept = s.kept := by
  unfold State.takeAbort
  dsimp only
  repeat' split
  all_goals simp

theorem execAbortD_kept (c : Chan) (i : BitVec 16) (rsv : BitVec 44) (e : EntryRead) (s : State) :
    ∀ post, execAbortD c i rsv e s = .next post → post.kept = s.kept := by
  unfold execAbortD
  repeat' split
  all_goals simp_all

@[simp] theorem State.takeDesc_kept (s : State) (c : ℕ) (bytes : List Byte) :
    (State.takeDesc s c bytes).kept = s.kept := by
  unfold State.takeDesc
  grind [foldl_kept, State.onChan_kept, State.endWith_kept]

@[simp] theorem State.skipDesc_kept (s : State) (c : ℕ) (bytes : List Byte) :
    (State.skipDesc s c bytes).kept = s.kept := by simp [State.skipDesc]

theorem execDescFetch_kept (c : Chan) (bytes : List Byte) (error : Bool) (s : State) :
    ∀ post, execDescFetch c bytes error s = .next post → post.kept = s.kept := by
  unfold execDescFetch
  try dsimp only
  repeat' split
  all_goals first | rfl | (simp; done) | (simp_all; done) | grind [State.channelError_kept, State.onHost_kept, State.takeDesc_kept, State.skipDesc_kept]

theorem execCompletionCommit_kept (c : Chan) (i : BitVec 16) (ringError : Bool) (s : State) :
    ∀ post, execCompletionCommit c i ringError s = .next post → post.kept = s.kept := by
  intro u h
  unfold execCompletionCommit at h
  cases h
  simp

theorem execCoalTimeout_kept (c : Chan) (elapsedUs : ℕ) (s : State) :
    ∀ post, execCoalTimeout c elapsedUs s = .next post → post.kept = s.kept := by
  intro u h
  unfold execCoalTimeout at h
  dsimp only at h
  repeat' split at h
  all_goals cases h
  all_goals first | (simp_all; done)

@[simp] theorem State.barWrite_kept (s : State) (act : State → State) (hact : ∀ (a0 : State),
    (act a0).kept = a0.kept) :
    (State.barWrite s act).kept = s.kept := by
  unfold State.barWrite
  repeat' split
  all_goals simp_all

@[simp] theorem State.tableWrite_kept (s : State) (f : HostLink → HostLink) :
    (State.tableWrite s f).kept = s.kept := by
  unfold State.tableWrite
  repeat' split
  all_goals simp_all

theorem execChtblBaseWrite_kept (v : BitVec 64) (s : State) :
    ∀ post, execChtblBaseWrite v s = .next post → post.kept = s.kept := by
  unfold execChtblBaseWrite
  intro u h
  repeat' split at h
  all_goals first | (simp at h; done) | (simp at h; subst h; simp; done) | (simp at h; subst h; simp_all; done) | grind [State.tableWrite_kept, State.barWrite_kept]

theorem execChtblCountWrite_kept (v : Word) (s : State) :
    ∀ post, execChtblCountWrite v s = .next post → post.kept = s.kept := by grind [execChtblCountWrite, State.tableWrite_kept, State.barWrite_kept]

theorem execD3hotEnter_kept (s : State) :
    ∀ post, execD3hotEnter s = .next post → post.kept = s.kept := by
  intro u h
  unfold execD3hotEnter at h
  repeat' split at h
  all_goals cases h
  all_goals simp

theorem execD0Restore_kept (s : State) :
    ∀ post, execD0Restore s = .next post → post.kept = s.kept := by
  intro u h
  unfold execD0Restore at h
  repeat' split at h
  all_goals cases h
  all_goals simp

theorem execApertureWrite_kept (a : Fin 8) (offset : ℕ) (data : List Byte) (s : State) :
    ∀ post, execApertureWrite a offset data s = .next post → post.kept = s.kept := by grind [execApertureWrite, State.onHost_kept, State.barWrite_kept, State.dropDoorbell_kept]

theorem State.pinKey_kept (s : State) (id : ℕ) :
    ∀ post, State.pinKey s id = some post → post.1.kept = s.kept := by
  unfold State.pinKey
  simp only []
  repeat' split
  all_goals first | rfl | simp_all | grind [State.setKeys_kept]

theorem State.pinKeys_kept (s : State) (x1 : List ℕ) :
    ∀ post, State.pinKeys s x1 = some post → post.1.kept = s.kept := by
  induction x1 generalizing s with
  | nil => intro u h; simp [State.pinKeys] at h; subst h; rfl
  | cons a l ih =>
    intro u h
    simp only [State.pinKeys] at h
    split at h
    · simp at h
    · rename_i p q hq
      obtain ⟨r, hr, rfl⟩ := Option.map_eq_some_iff.1 h
      have h1 := ih _ r hr
      have h2 := State.pinKey_kept s _ _ hq
      simp_all

@[simp] theorem State.countAuth_kept (s : State) (st : ℕ) :
    (State.countAuth s st).kept = s.kept := by
  unfold State.countAuth
  repeat' split
  all_goals simp_all

@[simp] theorem State.bufferFor_kept (s : State) (n : ℕ) :
    (State.bufferFor s n).2.kept = s.kept := by simp [State.bufferFor]

@[simp] theorem State.joinShards_kept (s : State) (j : JobId) (names : ℕ → Bool) :
    (State.joinShards s j names).kept = s.kept := by simp [State.joinShards]

@[simp] theorem State.admitJob_kept (s : State) (j : JobId) (d : Desc) (inp : Sealed) (plans : List (ℕ × ℕ)) :
    (State.admitJob s j d inp plans).kept = s.kept := by
  simp only [State.admitJob]
  split
  · rfl
  · split
    · split <;> simp
    · rename_i h
      have h2 := State.pinKeys_kept _ _ _ h
      simp only at h2
      simp [h2]

@[simp] theorem State.checkJob_kept (s : State) (j : JobId) (d : Desc) (inp : Sealed) :
    (State.checkJob s j d inp).kept = s.kept := by grind [State.checkJob, State.answer_kept, State.endWith_kept, State.admitJob_kept]

@[simp] theorem State.beginShadow_kept (s : State) (g : ℕ) (n : ℕ) :
    (State.beginShadow s g n).kept = s.kept := by simp [State.beginShadow]

theorem State.groupFor_kept (s : State) (st : ℕ) (n : ℕ) :
    ∀ post, State.groupFor s st n = some post → post.1.kept = s.kept := by
  unfold State.groupFor
  intro u h
  dsimp only at h
  split at h
  · simp at h; subst h; rfl
  · split at h
    · simp at h
    · obtain ⟨r, hr, rfl⟩ := Option.map_eq_some_iff.1 h
      simpa using State.pick_kept _ _ _ _ hr

@[simp] theorem State.splitFor_kept (s : State) (st : ℕ) (n : ℕ) :
    (State.splitFor s st n).kept = s.kept := by grind [State.splitFor, State.unfuse_kept]

theorem State.placeSeq_kept (s : State) (st : ℕ) (j : JobId) (n : ℕ) (shape : List ℕ) (sec : ℕ) (place : ℕ × ℕ) :
    ∀ post, State.placeSeq s st j n shape sec place = some post → post.kept = s.kept := by
  unfold State.placeSeq
  intro u h
  dsimp only at h
  split at h
  · simp at h
  · split at h
    · simp at h; subst h; simp
    · split at h
      · simp at h
      · split at h
        · obtain ⟨r, hr, rfl⟩ := Option.map_eq_some_iff.1 h
          simpa using State.groupFor_kept _ _ _ _ hr
        · simp at h; subst h; simp

@[simp] theorem State.emptySeq_kept (s : State) (j : JobId) (h : JobHold) :
    (State.emptySeq s j h).kept = s.kept := by
  unfold State.emptySeq
  repeat' split
  all_goals simp_all

@[simp] theorem State.startSeq_kept (s : State) (j : JobId) (h : JobHold) (st : ℕ) (role : ℕ) (shape : List ℕ)
    (place : ℕ × ℕ) :
    (State.startSeq s j h st role shape place).kept = s.kept := by grind [State.startSeq, State.bump_kept, State.onHold_kept, State.placeSeq_kept, State.emptySeq_kept, State.endJob_kept]

@[simp] theorem State.startAgain_kept (s : State) (r : Readmit) (st : ℕ) :
    (State.startAgain s r st).kept = s.kept := by
  unfold State.startAgain
  try dsimp only
  try intro u h
  repeat' split
  all_goals first | (simp_all; done) | (simp_all; exact State.placeSeq_kept _ _ _ _ _ _ _ _ ‹_›) | exact State.placeSeq_kept _ _ _ _ _ _ _ _ ‹_›

theorem execJobAdmit_kept (c : Chan) (i : BitVec 16) (inp : Sealed) (st : StrandId) (role : Byte) (shape : List ℕ)
    (part : BitVec 16) (passage : BitVec 16) (s : State) :
    ∀ post, execJobAdmit c i inp st role shape part passage s = .next post → post.kept = s.kept := by
  intro u h
  simp [execJobAdmit] at h
  grind [State.startAgain_kept, State.checkJob_kept, State.startSeq_kept]

@[simp] theorem State.withKeys_kept (s : State) (j : JobId) (d : Desc) (ids : List ℕ) (act : State → State)
    (hact : ∀ (a0 : State), (act a0).kept = a0.kept) :
    (State.withKeys s j d ids act).kept = s.kept := by
  unfold State.withKeys
  try dsimp only
  try intro u h
  repeat' split
  all_goals first | (simp_all; done) | (simp_all; exact State.pinKeys_kept _ _ _ ‹_›) | exact State.pinKeys_kept _ _ _ ‹_›

@[simp] theorem State.withInput_kept (s : State) (j : JobId) (d : Desc) (inp : Sealed)
    (act : List Byte → State → State) (hact : ∀ (a0 : List Byte) (a1 : State), (act a0 a1).kept = a1.kept) :
    (State.withInput s j d inp act).kept = s.kept := by grind [State.withInput, State.withObject, State.withKeys_kept, State.endWith_kept, State.countAuth_kept]

@[simp] theorem State.storePlan_kept (s : State) (f : List Byte) :
    (State.storePlan s f).1.kept = s.kept := by
  unfold State.storePlan
  try dsimp only
  try intro u h
  repeat' split
  all_goals first | (simp_all; done) | (simp_all; exact State.pick_kept _ _ _ _ ‹_›) | exact State.pick_kept _ _ _ _ ‹_›

@[simp] theorem State.loadPlan_kept (s : State) (f : List Byte) :
    (State.loadPlan s f).1.kept = s.kept := by
  unfold State.loadPlan
  repeat' split
  all_goals simp_all

@[simp] theorem State.loadAnswer_kept (s : State) (j : JobId) (f : List Byte) :
    (State.loadAnswer s j f).kept = s.kept := by
  unfold State.loadAnswer
  try dsimp only
  repeat' split
  all_goals first | rfl | (simp; done) | (simp_all; done) | grind [State.bump_kept, State.answer_kept, State.loadPlan_kept, State.set_kept]

theorem execPlanLoad_kept (c : Chan) (i : BitVec 16) (inp : Sealed) (s : State) :
    ∀ post, execPlanLoad c i inp s = .next post → post.kept = s.kept := by
  intro u h
  simp only [execPlanLoad] at h
  split at h
  · cases h; rfl
  · cases h
    exact State.withInput_kept _ _ _ _ _ fun f s => State.loadAnswer_kept s _ f

@[simp] theorem State.dropResident_kept (s : State) (n : ℕ) :
    (State.dropResident s n).kept = s.kept := by simp [State.dropResident]

@[simp] theorem State.unloadPlan_kept (s : State) (n : ℕ) :
    (State.unloadPlan s n).kept = s.kept := by simp [State.unloadPlan]

theorem execPlanUnload_kept (c : Chan) (i : BitVec 16) (s : State) :
    ∀ post, execPlanUnload c i s = .next post → post.kept = s.kept := by
  unfold execPlanUnload
  grind [foldl_kept, State.endWith_kept, State.unloadPlan_kept]

theorem execLoadedPlans_kept (c : Chan) (i : BitVec 16) (s : State) :
    ∀ post, execLoadedPlans c i s = .next post → post.kept = s.kept := by
  intro u h
  unfold execLoadedPlans at h
  dsimp only at h
  repeat' split at h
  all_goals cases h
  all_goals first | (simp_all; done)

@[simp] theorem State.installKey_kept (s : State) (b : List Byte) (k : KeyCheck) :
    (State.installKey s b k).1.kept = s.kept := by
  unfold State.installKey
  try dsimp only
  try intro u h
  repeat' split
  all_goals first | (simp_all; done)

@[simp] theorem State.keyByDesc_kept (s : State) (j : JobId) (blob : List Byte) (chk : KeyCheck) :
    (State.keyByDesc s j blob chk).kept = s.kept := by
  unfold State.keyByDesc
  repeat' split
  all_goals simp_all

theorem State.askQuote_kept (s : State) (host : Bool) (who : ℕ) (challenge : List Byte) :
    ∀ post, State.askQuote s host who challenge = some post → post.kept = s.kept := by simp [State.askQuote]

@[simp] theorem State.signQuote_kept (s : State) :
    (State.signQuote s).kept = s.kept := by
  unfold State.signQuote
  repeat' split
  all_goals simp_all

theorem execQuote_kept (c : Chan) (i : BitVec 16) (challenge : List Byte) (s : State) :
    ∀ post, execQuote c i challenge s = .next post → post.kept = s.kept := by
  intro u h
  unfold execQuote at h
  dsimp only at h
  repeat' split at h
  all_goals cases h
  all_goals first | (simp_all; done) | (simp_all; exact State.askQuote_kept _ _ _ _ _ ‹_›) | exact State.askQuote_kept _ _ _ _ _ ‹_›

@[simp] theorem State.rawLoad_kept (s : State) (j : JobId) (t : ℕ) (seg : List Byte) :
    (State.rawLoad s j t seg).kept = s.kept := by
  unfold State.rawLoad
  repeat' split
  all_goals simp_all

@[simp] theorem State.tileLoad_kept (s : State) (j : JobId) (t : ℕ) (seg : List Byte) :
    (State.tileLoad s j t seg).kept = s.kept := by
  unfold State.tileLoad
  simp only []
  repeat' split
  all_goals first | rfl | simp_all | grind [State.answer_kept, State.rawLoad_kept]

theorem execTileLoad_kept (c : Chan) (i : BitVec 16) (inp : Sealed) (s : State) :
    ∀ post, execTileLoad c i inp s = .next post → post.kept = s.kept := by
  simp only [execTileLoad]
  repeat' split
  all_goals first | rfl | (simp; done) | (simp_all; done) | grind [State.tileLoad_kept, State.endWith_kept, State.withInput_kept]

@[simp] theorem State.injectNow_kept (s : State) (j : JobId) (d : List Byte) (p : List Byte) :
    (State.injectNow s j d p).kept = s.kept := by grind [State.injectNow, State.nodeSend_kept, State.endWith_kept]

theorem execInject_kept (c : Chan) (i : BitVec 16) (inp : Sealed) (s : State) :
    ∀ post, execInject c i inp s = .next post → post.kept = s.kept := by
  intro u h
  simp only [execInject] at h
  split at h
  · cases h; rfl
  · cases h
    exact State.withInput_kept _ _ _ _ _ fun p s => State.injectNow_kept s _ _ p

@[simp] theorem State.openNumber_kept (s : State) (j : JobId) (v : Window) :
    (State.openNumber s j v).kept = s.kept := by
  unfold State.openNumber
  try dsimp only
  try intro u h
  repeat' split
  all_goals first | (simp_all; done) | (simp_all; exact State.freeWindow_kept _ _ ‹_›) | exact State.freeWindow_kept _ _ ‹_›

@[simp] theorem State.openRaw_kept (s : State) (j : JobId) (d : List Byte) :
    (State.openRaw s j d).kept = s.kept := by grind [State.openRaw, State.openNumber_kept, State.endWith_kept]

theorem execWindowOpen_kept (c : Chan) (i : BitVec 16) (s : State) :
    ∀ post, execWindowOpen c i s = .next post → post.kept = s.kept := by grind [execWindowOpen, State.openRaw_kept]

theorem execWindowClose_kept (c : Chan) (i : BitVec 16) (s : State) :
    ∀ post, execWindowClose c i s = .next post → post.kept = s.kept := by
  intro u h
  unfold execWindowClose at h
  dsimp only at h
  repeat' split at h
  all_goals cases h
  all_goals first | (simp_all; done)

@[simp] theorem State.readRaw_kept (s : State) (j : JobId) (d : Desc) :
    (State.readRaw s j d).kept = s.kept := by grind [State.readRaw, State.onHold_kept, State.withKeys_kept, State.endWith_kept, State.uncorrectable_kept]

theorem execWindowRead_kept (c : Chan) (i : BitVec 16) (s : State) :
    ∀ post, execWindowRead c i s = .next post → post.kept = s.kept := by
  unfold execWindowRead
  simp only []
  repeat' split
  all_goals first | rfl | simp_all | grind [State.readRaw_kept]

@[simp] theorem State.sendRaw_kept (s : State) (j : JobId) (d : List Byte) (p : List Byte) :
    (State.sendRaw s j d p).kept = s.kept := by simp [State.sendRaw]

theorem execFabricPacket_kept (c : Chan) (i : BitVec 16) (inp : Sealed) (s : State) :
    ∀ post, execFabricPacket c i inp s = .next post → post.kept = s.kept := by grind [execFabricPacket, State.endWith_kept, State.sendRaw_kept, State.withInput_kept]

@[simp] theorem State.advanceSeal_kept (s : State) :
    (State.advanceSeal s).kept = s.kept := by simp [State.advanceSeal]

@[simp] theorem State.sealItem_kept (s : State) (j : JobId) (h : JobHold) (k : VKey) (x : SealItem)
    (l : List SealItem) :
    (State.sealItem s j h k x l).kept = s.kept := by
  unfold State.sealItem
  repeat' split
  all_goals simp_all

theorem execSealEnvelope_kept (c : Chan) (i : BitVec 16) (s : State) :
    ∀ post, execSealEnvelope c i s = .next post → post.kept = s.kept := by
  unfold execSealEnvelope
  intro u h
  repeat' split at h
  all_goals first | (simp at h; done) | (simp at h; subst h; simp; done) | (simp at h; subst h; simp_all; done) | grind [State.sealItem_kept, State.endJob_kept]

@[simp] theorem State.giveRecord_kept (s : State) (j : JobId) (d : Desc) (kind : ℕ) (r : List Byte) (count0 : ℕ)
    (count1 : ℕ) :
    (State.giveRecord s j d kind r count0 count1).kept = s.kept := by simp [State.giveRecord]

@[simp] theorem State.ingest_kept (s : State) (j : JobId) (d : Desc) (h : JobHold) (x : Extract) :
    (State.ingest s j d h x).kept = s.kept := by
  unfold State.ingest
  try dsimp only
  try intro u h
  repeat' split
  all_goals first | (simp_all; done)

theorem execIngestIndex_kept (c : Chan) (i : BitVec 16) (x : Extract) (s : State) :
    ∀ post, execIngestIndex c i x s = .next post → post.kept = s.kept := by
  unfold execIngestIndex
  grind [foldl_kept, State.ingest_kept]

@[simp] theorem State.embed_kept (s : State) (j : JobId) (d : Desc) (h : JobHold) (x : Extract) :
    (State.embed s j d h x).kept = s.kept := by
  unfold State.embed
  repeat' split
  all_goals simp_all

theorem execEmbed_kept (c : Chan) (i : BitVec 16) (x : Extract) (s : State) :
    ∀ post, execEmbed c i x s = .next post → post.kept = s.kept := by
  intro u h
  simp only [execEmbed] at h
  split at h
  · cases h; rfl
  · cases h; simp

@[simp] theorem State.classify_kept (s : State) (j : JobId) (d : Desc) (h : JobHold) (x : Extract) :
    (State.classify s j d h x).kept = s.kept := by grind [State.classify, State.draw_kept, State.giveRecord_kept, State.endJob_kept]

theorem execClassify_kept (c : Chan) (i : BitVec 16) (x : Extract) (s : State) :
    ∀ post, execClassify c i x s = .next post → post.kept = s.kept := by
  unfold execClassify
  grind [foldl_kept, State.classify_kept]

@[simp] theorem State.nearDup_kept (s : State) (j : JobId) (d : Desc) (h : JobHold) (x : Extract) :
    (State.nearDup s j d h x).kept = s.kept := by
  unfold State.nearDup
  grind [foldl_kept, State.giveRecord_kept]

theorem execNearDup_kept (c : Chan) (i : BitVec 16) (x : Extract) (s : State) :
    ∀ post, execNearDup c i x s = .next post → post.kept = s.kept := by grind [execNearDup, State.nearDup_kept]

@[simp] theorem State.rekey_kept (s : State) (j : JobId) (d : Desc) (h : JobHold) (es : List Envelope) :
    (State.rekey s j d h es).kept = s.kept := by
  unfold State.rekey
  repeat' split
  all_goals simp_all

theorem execRekey_kept (c : Chan) (i : BitVec 16) (envs : List Envelope) (s : State) :
    ∀ post, execRekey c i envs s = .next post → post.kept = s.kept := by
  intro u h
  unfold execRekey at h
  dsimp only at h
  repeat' split at h
  all_goals cases h
  all_goals first | (simp_all; done)

@[simp] theorem State.addAppend_kept (s : State) (j : JobId) (n : ℕ) (a : Added) :
    (State.addAppend s j n a).kept = s.kept := by simp [State.addAppend]

@[simp] theorem State.append_kept (s : State) (j : JobId) (d : Desc) (h : JobHold) (es : List Envelope) :
    (State.append s j d h es).kept = s.kept := by grind [State.append, State.answer_kept, State.addAppend_kept, State.endJob_kept]

theorem execShardAppend_kept (c : Chan) (i : BitVec 16) (envs : List Envelope) (s : State) :
    ∀ post, execShardAppend c i envs s = .next post → post.kept = s.kept := by
  intro u h
  simp only [execShardAppend] at h
  split at h
  · cases h; rfl
  · split at h
    · cases h; rfl
    · cases h; simp

@[simp] theorem State.dropShard_kept (s : State) (n : ℕ) :
    (State.dropShard s n).kept = s.kept := by simp [State.dropShard]

theorem execShardDrop_kept (c : Chan) (i : BitVec 16) (s : State) :
    ∀ post, execShardDrop c i s = .next post → post.kept = s.kept := by
  intro u h
  simp [execShardDrop] at h
  grind [State.answer_kept, State.dropShard_kept, State.endJob_kept]

@[simp] theorem State.finishSearch_kept (s : State) (j : JobId) (q : Query) :
    (State.finishSearch s j q).kept = s.kept := by grind [State.finishSearch, State.draw_kept, State.giveRecord_kept]

@[simp] theorem State.scanJob_kept (s : State) (num : ℕ) (j : JobId) :
    (State.scanJob s num j).kept = s.kept := by grind [State.scanJob, State.onHold_kept, State.finishSearch_kept]

@[simp] theorem State.scanBatch_kept (s : State) (num : ℕ) :
    (State.scanBatch s num).kept = s.kept := by
  unfold State.scanBatch
  repeat' split
  all_goals simp_all

@[simp] theorem State.joinBatch_kept (s : State) (j : JobId) (num : ℕ) :
    (State.joinBatch s j num).kept = s.kept := by
  unfold State.joinBatch
  repeat' split
  all_goals simp_all

@[simp] theorem State.beginSearch_kept (s : State) (j : JobId) (p : List Byte) (scale : Word) (elems : List Byte) :
    (State.beginSearch s j p scale elems).kept = s.kept := by simp [State.beginSearch]

@[simp] theorem State.searchText_kept (s : State) (j : JobId) (h : JobHold) (p : List Byte) (scale : Word)
    (elems : List Byte) :
    (State.searchText s j h p scale elems).kept = s.kept := by grind [State.searchText, State.bump_kept, State.beginSearch_kept, State.endJob_kept]

@[simp] theorem State.search_kept (s : State) (j : JobId) (h : JobHold) (scale : Word) (elems : List Byte) :
    (State.search s j h scale elems).kept = s.kept := by
  unfold State.search
  dsimp only
  repeat' split
  all_goals simp

theorem execSearch_kept (c : Chan) (i : BitVec 16) (embedded : Embedded) (s : State) :
    ∀ post, execSearch c i embedded s = .next post → post.kept = s.kept := by
  unfold execSearch
  simp only []
  repeat' split
  all_goals first | rfl | simp_all | grind [State.search_kept]

theorem execQueryBatchWindow_kept (shard : BitVec 8) (elapsedUs : ℕ) (s : State) :
    ∀ post, execQueryBatchWindow shard elapsedUs s = .next post → post.kept = s.kept := by
  simp only [execQueryBatchWindow]
  repeat' split
  all_goals first | rfl | (simp; done) | (simp_all; done) | grind [State.scanBatch_kept]

@[simp] theorem State.tuneWindow_kept (s : State) (n : ℕ) :
    (State.tuneWindow s n).kept = s.kept := by
  unfold State.tuneWindow
  try dsimp only
  try intro u h
  repeat' split
  all_goals first | (simp_all; done) | (simp_all; exact State.freeWindow_kept _ _ ‹_›) | exact State.freeWindow_kept _ _ ‹_›

@[simp] theorem State.tunePlaces_kept (s : State) (n : ℕ) :
    (State.tunePlaces s n).kept = s.kept := by simp [State.tunePlaces]

@[simp] theorem State.openOk_kept (s : State) (n : ℕ) :
    (State.openOk s n).kept = s.kept := by grind [State.openOk, State.answer_kept, State.setTune_kept]

@[simp] theorem State.openFail_kept (s : State) (n : ℕ) (st : ℕ) :
    (State.openFail s n st).kept = s.kept := by
  unfold State.openFail
  repeat' split
  all_goals simp_all

@[simp] theorem State.tryOpen_kept (s : State) (n : ℕ) :
    (State.tryOpen s n).kept = s.kept := by
  unfold State.tryOpen
  simp only []
  repeat' split
  all_goals first | rfl | simp_all | grind [State.sendGroup_kept, State.openFail_kept, State.openOk_kept]

@[simp] theorem State.takeDigest_kept (s : State) (n : ℕ) (rank : ℕ) (d : BitVec 256) :
    (State.takeDigest s n rank d).kept = s.kept := by simp [State.takeDigest]

@[simp] theorem State.tuneOpen_kept (s : State) (j : JobId) (d : Desc) (p : List Byte) :
    (State.tuneOpen s j d p).kept = s.kept := by
  unfold State.tuneOpen
  dsimp only
  repeat' split
  all_goals simp

theorem execTuneOpen_kept (c : Chan) (i : BitVec 16) (s : State) :
    ∀ post, execTuneOpen c i s = .next post → post.kept = s.kept := by
  unfold execTuneOpen
  simp only []
  repeat' split
  all_goals first | rfl | simp_all | grind [State.tuneOpen_kept]

theorem execTuneOpenDigest_kept (ses : Fin 4) (rank : ℕ) (digest : BitVec 256) (s : State) :
    ∀ post, execTuneOpenDigest ses rank digest s = .next post → post.kept = s.kept := by
  unfold execTuneOpenDigest
  repeat' split
  all_goals simp_all

theorem execTuneOpenAnswer_kept (ses : Fin 4) (agreed : Bool) (s : State) :
    ∀ post, execTuneOpenAnswer ses agreed s = .next post → post.kept = s.kept := by
  unfold execTuneOpenAnswer
  grind [foldl_kept, State.openFail_kept, State.openOk_kept]

theorem execTuneOpenTimeout_kept (ses : Fin 4) (elapsedMs : ℕ) (s : State) :
    ∀ post, execTuneOpenTimeout ses elapsedMs s = .next post → post.kept = s.kept := by
  intro u h
  unfold execTuneOpenTimeout at h
  repeat' split at h
  all_goals cases h
  all_goals simp

theorem execTuneRead_kept (c : Chan) (i : BitVec 16) (s : State) :
    ∀ post, execTuneRead c i s = .next post → post.kept = s.kept := by grind [execTuneRead, State.giveRecord_kept, State.endJob_kept]

@[simp] theorem State.tuneClose_kept (s : State) (j : JobId) (n : ℕ) :
    (State.tuneClose s j n).kept = s.kept := by grind [State.tuneClose, State.answer_kept, State.freeTune_kept, State.endJob_kept]

theorem execTuneClose_kept (c : Chan) (i : BitVec 16) (s : State) :
    ∀ post, execTuneClose c i s = .next post → post.kept = s.kept := by grind [execTuneClose, State.tuneClose_kept]

theorem execBucketPartArrive_kept (ses : Fin 4) (p : BucketPart) (s : State) :
    ∀ post, execBucketPartArrive ses p s = .next post → post.kept = s.kept := by
  intro u h
  unfold execBucketPartArrive at h
  dsimp only at h
  repeat' split at h
  all_goals cases h
  all_goals first | (simp_all; done)

theorem execStepDone_kept (ses : Fin 4) (rank : ℕ) (step : ℕ) (attempt : ℕ) (crcs : List (BitVec 64)) (s : State) :
    ∀ post, execStepDone ses rank step attempt crcs s = .next post → post.kept = s.kept := by
  intro u h
  unfold execStepDone at h
  repeat' split at h
  all_goals cases h
  all_goals simp

theorem execTuneDeadline_kept (ses : Fin 4) (elapsedUs : ℕ) (s : State) :
    ∀ post, execTuneDeadline ses elapsedUs s = .next post → post.kept = s.kept := by
  intro u h
  unfold execTuneDeadline at h
  dsimp only at h
  repeat' split at h
  all_goals cases h
  all_goals first | (simp_all; done)

theorem execTuneCommit_kept (ses : Fin 4) (step : ℕ) (s : State) :
    ∀ post, execTuneCommit ses step s = .next post → post.kept = s.kept := by
  intro u h
  unfold execTuneCommit at h
  repeat' split at h
  all_goals cases h
  all_goals simp

theorem execTuneRepeat_kept (ses : Fin 4) (step : ℕ) (attempt : ℕ) (s : State) :
    ∀ post, execTuneRepeat ses step attempt s = .next post → post.kept = s.kept := by
  intro u h
  unfold execTuneRepeat at h
  repeat' split at h
  all_goals cases h
  all_goals simp

theorem execTuneFail_kept (ses : Fin 4) (step : ℕ) (missing : ℕ) (s : State) :
    ∀ post, execTuneFail ses step missing s = .next post → post.kept = s.kept := by
  intro u h
  unfold execTuneFail at h
  repeat' split at h
  all_goals cases h
  all_goals simp

theorem execTuneOutcomeQuery_kept (ses : Fin 4) (elapsedUs : ℕ) (reached : Bool) (s : State) :
    ∀ post, execTuneOutcomeQuery ses elapsedUs reached s = .next post → post.kept = s.kept := by
  intro u h
  unfold execTuneOutcomeQuery at h
  dsimp only at h
  repeat' split at h
  all_goals cases h
  all_goals first | (simp_all; done)

theorem execTuneCoordLost_kept (ses : Fin 4) (elapsedUs : ℕ) (s : State) :
    ∀ post, execTuneCoordLost ses elapsedUs s = .next post → post.kept = s.kept := by grind [execTuneCoordLost, State.setTune_kept, State.endJob_kept]

theorem execOutcomeRequest_kept (ses : Fin 4) (rank : ℕ) (step : ℕ) (s : State) :
    ∀ post, execOutcomeRequest ses rank step s = .next post → post.kept = s.kept := by
  intro u h
  unfold execOutcomeRequest at h
  dsimp only at h
  repeat' split at h
  all_goals cases h
  all_goals first | (simp_all; done)

theorem execRetract_kept (msg : List Byte) (s : State) :
    ∀ post, execRetract msg s = .next post → post.kept = s.kept := by
  intro u h
  unfold execRetract at h
  dsimp only at h
  repeat' split at h
  all_goals cases h
  all_goals first | (simp_all; done)

@[simp] theorem State.tryAllDone_kept (s : State) :
    (State.tryAllDone s).kept = s.kept := by simp [State.tryAllDone]

theorem execShadowCompare_kept (st : StrandId) (work : SigPost) (shadow : SigPost) (s : State) :
    ∀ post, execShadowCompare st work shadow s = .next post → post.kept = s.kept := by
  intro u h
  rw [execShadowCompare] at h
  split at h
  · have h := Host.Outcome.next.inj h
    subst h
    simp only [State.tryAllDone_kept, State.tidyGroups_kept, State.ite_kept, State.mismatch_kept,
      State.bump_kept, State.unwatch_kept, ite_self]
  · have h := Host.Outcome.next.inj h; subst h; rfl

@[simp] theorem State.loseMajority_kept (s : State) (t : ℕ) :
    (State.loseMajority s t).kept = s.kept := by grind [State.loseMajority, State.climb_kept, State.addCause_kept, State.fence_kept, State.setSuspect_kept]

@[simp] theorem State.withdraw_kept (s : State) (d : Dispute) :
    (State.withdraw s d).kept = s.kept := by grind [State.withdraw, State.setKept_kept, State.setSuspect_kept]

@[simp] theorem State.restoreRung_kept (s : State) (p : PlanLoss) :
    (State.restoreRung s p).kept = s.kept := by
  unfold State.restoreRung
  repeat' split
  all_goals simp_all

@[simp] theorem State.countPlanLoss_kept (s : State) (d : Dispute) (p : PlanLoss) :
    (State.countPlanLoss s d p).kept = s.kept := by simp [State.countPlanLoss]

@[simp] theorem State.retractStep_kept (s : State) (d : Dispute) :
    (State.retractStep s d).kept = s.kept := by
  unfold State.retractStep
  repeat' split
  all_goals simp_all

@[simp] theorem State.reopen_kept (s : State) (j : JobId) :
    (State.reopen s j).kept = s.kept := by simp [State.reopen]

@[simp] theorem State.resumeDispute_kept (s : State) (d : Dispute) :
    (State.resumeDispute s d).kept = s.kept := by
  unfold State.resumeDispute
  simp only []
  repeat' split
  all_goals first | rfl | simp_all | grind [State.resumeStrand_kept, State.readmit_kept, State.reopen_kept]

@[simp] theorem State.freeThird_kept (s : State) (t : ℕ) :
    (State.freeThird s t).kept = s.kept := by simp [State.freeThird]

@[simp] theorem State.settleDispute_kept (s : State) (d : Dispute) (t : ℕ) (third : Option (BitVec 64)) :
    (State.settleDispute s d t third).kept = s.kept := by
  unfold State.settleDispute
  repeat' split
  all_goals simp_all

@[simp] theorem State.retryThird_kept (s : State) (d : Dispute) :
    (State.retryThird s d).kept = s.kept := by simp [State.retryThird]

theorem execMajoritySettle_kept (i : ℕ) (third : BitVec 64) (s : State) :
    ∀ post, execMajoritySettle i third s = .next post → post.kept = s.kept := by
  unfold execMajoritySettle
  repeat' split
  all_goals simp_all

@[simp] theorem State.closeCheck_kept (s : State) (j : JobId) :
    (State.closeCheck s j).kept = s.kept := by
  unfold State.closeCheck
  repeat' split
  all_goals simp_all

theorem execCheckClose_kept (c : Chan) (i : BitVec 16) (s : State) :
    ∀ post, execCheckClose c i s = .next post → post.kept = s.kept := by
  intro u h
  unfold execCheckClose at h
  repeat' split at h
  all_goals cases h
  all_goals simp

theorem execSuspectClear_kept (t : Slot) (elapsedH : ℕ) (s : State) :
    ∀ post, execSuspectClear t elapsedH s = .next post → post.kept = s.kept := by
  intro u h
  unfold execSuspectClear at h
  dsimp only at h
  repeat' split at h
  all_goals cases h
  all_goals first | (simp_all; done)

theorem execSuspectPaceLower_kept (t : Slot) (elapsedH : ℕ) (s : State) :
    ∀ post, execSuspectPaceLower t elapsedH s = .next post → post.kept = s.kept := by
  intro u h
  unfold execSuspectPaceLower at h
  dsimp only at h
  repeat' split at h
  all_goals cases h
  all_goals first | (simp_all; done)

@[simp] theorem State.turnRotation_kept (s : State) :
    (State.turnRotation s).kept = s.kept := by
  unfold State.turnRotation
  repeat' split
  all_goals simp_all

theorem execSkimSliceStart_kept (t : Slot) (target : Fin 26) (s : State) :
    ∀ post, execSkimSliceStart t target s = .next post → post.kept = s.kept := by
  intro u h
  simp only [execSkimSliceStart] at h
  split at h
  · split at h
    · split at h
      · have h := Host.Outcome.next.inj h; subst h; simp
      · rename_i hp
        have h2 := State.pick_kept _ _ _ _ hp
        have h := Host.Outcome.next.inj h
        subst h
        simpa using h2
    · have h := Host.Outcome.next.inj h; subst h; simp
  · have h := Host.Outcome.next.inj h; subst h; rfl

@[simp] theorem State.beginRun_kept (s : State) (t : ℕ) (stat : ℕ) (again : Bool) :
    (State.beginRun s t stat again).kept = s.kept := by simp [State.beginRun]

theorem execSkimSaveDone_kept (t : Slot) (s : State) :
    ∀ post, execSkimSaveDone t s = .next post → post.kept = s.kept := by
  intro u h
  unfold execSkimSaveDone at h
  repeat' split at h
  all_goals cases h
  all_goals simp

@[simp] theorem State.endSlice_kept (s : State) (t : ℕ) :
    (State.endSlice s t).kept = s.kept := by simp [State.endSlice]

@[simp] theorem State.wasTested_kept (s : State) (t : ℕ) (k : ℕ) :
    (State.wasTested s t k).kept = s.kept := by simp [State.wasTested]

@[simp] theorem State.skimPassed_kept (s : State) (t : ℕ) (k : ℕ) :
    (State.skimPassed s t k).kept = s.kept := by simp [State.skimPassed]

@[simp] theorem State.dropSets_kept (s : State) (st : ℕ) (k : ℕ) (t : ℕ) :
    (State.dropSets s st k t).kept = s.kept := by simp [State.dropSets]

@[simp] theorem State.restartWhole_kept (s : State) (st : ℕ) (k : ℕ) (t : ℕ) :
    (State.restartWhole s st k t).kept = s.kept := by grind [State.restartWhole, State.resetStrand_kept, State.writeMap_kept, State.resumeMarks_kept, State.loadStage_kept, State.moveAway_kept, State.restartStages_kept, State.endJob_kept]

@[simp] theorem State.moveReduced_kept (s : State) (st : ℕ) (t : ℕ) :
    (State.moveReduced s st t).kept = s.kept := by simp [State.moveReduced]

@[simp] theorem State.bankFailed_kept (s : State) (t : ℕ) (b : ℕ) :
    (State.bankFailed s t b).kept = s.kept := by grind [State.bankFailed, State.resetTiles_kept, State.dirty_kept, State.moveReduced_kept, State.dropSets_kept, State.setRepair_kept, State.onTile_kept, State.restartWhole_kept]

@[simp] theorem State.skimFailed_kept (s : State) (t : ℕ) (k : ℕ) :
    (State.skimFailed s t k).kept = s.kept := by grind [State.skimFailed, State.bump_kept, State.wasTested_kept, State.raise_kept, State.fence_kept, State.endSlice_kept, State.bankFailed_kept]

@[simp] theorem State.skimCompare_kept (s : State) (t : ℕ) :
    (State.skimCompare s t).kept = s.kept := by simp [State.skimCompare]

theorem execSkimRetentionPause_kept (t : Slot) (us : ℕ) (errs : List (ℕ × List Byte)) (s : State) :
    ∀ post, execSkimRetentionPause t us errs s = .next post → post.kept = s.kept := by
  intro u h
  unfold execSkimRetentionPause at h
  try dsimp only at h
  repeat' split at h
  all_goals cases h
  all_goals try simp_all

@[simp] theorem State.loseLine_kept (s : State) (t : ℕ) (k : ℕ) (line : ℕ) :
    (State.loseLine s t k line).kept = s.kept := by grind [State.loseLine, State.freeBytes_kept, State.onTile_kept]

@[simp] theorem State.restoreFailed_kept (s : State) (t : ℕ) (slot : ℕ) :
    (State.restoreFailed s t slot).kept = s.kept := by grind [State.restoreFailed, State.draw_kept, State.resetTiles_kept, State.abandonSlice_kept, State.resetStrand_kept, State.loseLine_kept, State.uncorrectable_kept, State.restartWhole_kept]

theorem execSkimRestoreDone_kept (t : Slot) (uncorrectable : Bool) (s : State) :
    ∀ post, execSkimRestoreDone t uncorrectable s = .next post → post.kept = s.kept := by
  simp only [execSkimRestoreDone]
  repeat' split
  all_goals first | rfl | (simp; done) | (simp_all; done) | grind [State.skimPassed_kept, State.endSlice_kept, State.restoreFailed_kept]

theorem execRedirectedAccess_kept (t : Slot) (line : Fin 2048) (write : Bool) (data : List Byte) (s : State) :
    ∀ post, execRedirectedAccess t line write data s = .next post → post.kept = s.kept := by
  intro u h
  unfold execRedirectedAccess at h
  dsimp only at h
  repeat' split at h
  all_goals cases h
  all_goals first | (simp_all; done)

end Sys2Proof.Machine
end

