-- ==== Sys2Proof/Laws/KeptEntries.lean ====
section
/-! SUPPORT. One lemma for each operation that leaves the queue and module memory as they were: Berjor, the dictionary, the fabric leader, flash, owner, test port and front face. -/

namespace Sys2Proof.Machine

@[simp] theorem State.onMgmt_kept (s : State) (f : Mgmt → Mgmt) :
    (State.onMgmt s f).kept = s.kept := by simp [State.onMgmt]

@[simp] theorem State.endSession_kept (s : State) (n : ℕ) :
    (State.endSession s n).kept = s.kept := by simp [State.endSession]

@[simp] theorem State.endSessions_kept (s : State) (p : Session → Bool) :
    (State.endSessions s p).kept = s.kept := by simp [State.endSessions]

@[simp] theorem State.countFailure_kept (s : State) (r : BjReq) :
    (State.countFailure s r).kept = s.kept := by simp [State.countFailure]

@[simp] theorem State.keepReply_kept (s : State) (n : ℕ) (seq : BitVec 32) (o : Out) :
    (State.keepReply s n seq o).kept = s.kept := by simp [State.keepReply]

@[simp] theorem State.inSession_kept (s : State) (r : BjReq) (op : ℕ) (x : Session) (act : State → State × BjAns)
    (hact : ∀ (a0 : State), (act a0).1.kept = a0.kept) :
    (State.inSession s r op x act).kept = s.kept := by
  simp only [State.inSession]
  repeat' split
  all_goals first | rfl | (simp; done) | (simp_all; done) | grind [State.bump_kept, State.emit_kept, State.keepReply_kept]

@[simp] theorem State.handle_kept (s : State) (r : BjReq) (op : ℕ) (act : Option Level → State → State × BjAns)
    (hact : ∀ (a0 : Option Level) (a1 : State), (act a0 a1).1.kept = a1.kept) :
    (State.handle s r op act).kept = s.kept := by
  unfold State.handle
  simp only []
  repeat' split
  all_goals first | rfl | simp_all | grind [State.countFailure_kept, State.inSession_kept, State.emit_kept]

@[simp] theorem State.dropUpload_kept (s : State) (r : BjReq) :
    (State.dropUpload s r).kept = s.kept := by simp [State.dropUpload]

@[simp] theorem State.someRefusal_kept (s : State) :
    (State.someRefusal s).1.kept = s.kept := by simp [State.someRefusal]

@[simp] theorem State.serveWrite_kept (s : State) (r : BjReq) (own : List Byte → State → State × BjAns) (hown : ∀
    (a0 : List Byte) (a1 : State), (own a0 a1).1.kept = a1.kept) :
    (State.serveWrite s r own).kept = s.kept := by grind [State.serveWrite, State.dropUpload_kept, State.someRefusal_kept, State.handle_kept]

@[simp] theorem applied_kept (f : ℕ → State → State) (val : List Byte) (s : State) (hf : ∀ (a0 : ℕ) (a1 : State),
    (f a0 a1).kept = a1.kept) :
    (applied f val s).1.kept = s.kept := by
  unfold applied
  repeat' split
  all_goals simp_all

@[simp] theorem State.rowWrite_kept (s : State) (k : ℕ) (r : BjReq) (own : List Byte → State → State × BjAns)
    (hown : ∀ (a0 : List Byte) (a1 : State), (own a0 a1).1.kept = a1.kept) :
    (State.rowWrite s k r own).kept = s.kept := by
  unfold State.rowWrite
  repeat' split
  all_goals simp_all

@[simp] theorem State.setEntry_kept (s : State) (k : ℕ) (v : ℕ) :
    (State.setEntry s k v).kept = s.kept := by
  unfold State.setEntry
  repeat' split
  all_goals simp_all

@[simp] theorem State.setBytes_kept (s : State) (k : ℕ) (v : List Byte) :
    (State.setBytes s k v).kept = s.kept := by
  unfold State.setBytes
  repeat' split
  all_goals simp_all

@[simp] theorem State.pruneOperators_kept (s : State) (old : List (List Byte)) :
    (State.pruneOperators s old).kept = s.kept := by simp [State.pruneOperators]

theorem execBjRead_kept (r : BjReq) (s : State) :
    ∀ post, execBjRead r s = .next post → post.kept = s.kept := by grind [execBjRead, State.handle_kept]

theorem execReadSeg_kept (r : BjReq) (s : State) :
    ∀ post, execReadSeg r s = .next post → post.kept = s.kept := by grind [execReadSeg, State.handle_kept]

@[simp] theorem plainWrite_kept (r : BjReq) (val : List Byte) (s : State) :
    (plainWrite r val s).1.kept = s.kept := by grind [plainWrite, State.setEntry_kept, State.pruneOperators_kept, State.setBytes_kept]

theorem execBjWrite_kept (r : BjReq) (s : State) :
    ∀ post, execBjWrite r s = .next post → post.kept = s.kept := by
  intro u h
  unfold execBjWrite at h
  split at h
  · cases h; rfl
  · cases h
    exact State.serveWrite_kept _ _ _ fun v s => plainWrite_kept _ v s

theorem execWriteEnd_kept (r : BjReq) (s : State) :
    ∀ post, execWriteEnd r s = .next post → post.kept = s.kept := by
  unfold execWriteEnd
  grind [foldl_kept, State.serveWrite_kept, plainWrite_kept]

@[simp] theorem State.addSegment_kept (s : State) (r : BjReq) :
    (State.addSegment s r).kept = s.kept := by simp [State.addSegment]

@[simp] theorem State.takePiece_kept (s : State) (r : BjReq) :
    (State.takePiece s r).1.kept = s.kept := by
  unfold State.takePiece
  grind [foldl_kept, State.addSegment_kept]

theorem execWriteSeg_kept (r : BjReq) (s : State) :
    ∀ post, execWriteSeg r s = .next post → post.kept = s.kept := by
  simp only [execWriteSeg]
  repeat' split
  all_goals first | rfl | (simp; done) | (simp_all; done) | grind [State.someRefusal_kept, State.handle_kept, State.takePiece_kept, State.emit_kept]

theorem execUploadAbandon_kept (entry : ℕ) (idleS : ℕ) (s : State) :
    ∀ post, execUploadAbandon entry idleS s = .next post → post.kept = s.kept := by
  intro u h
  unfold execUploadAbandon at h
  repeat' split at h
  all_goals cases h
  all_goals simp

theorem execSessionOpen_kept (r : BjReq) (level : Level) (key : List Byte) (endorsed : Bool) (s : State) :
    ∀ post, execSessionOpen r level key endorsed s = .next post → post.kept = s.kept := by grind [execSessionOpen, State.draw_kept, State.handle_kept, State.onMgmt_kept]

@[simp] theorem State.openSession_kept (s : State) (r : BjReq) (o : SessOpen) :
    (State.openSession s r o).kept = s.kept := by simp [State.openSession]

theorem execSessionProve_kept (r : BjReq) (sigOk : Bool) (s : State) :
    ∀ post, execSessionProve r sigOk s = .next post → post.kept = s.kept := by
  unfold execSessionProve
  try dsimp only
  repeat' split
  all_goals first | rfl | (simp; done) | (simp_all; done) | grind [State.handle_kept, State.openSession_kept, State.countFailure_kept, State.emit_kept, State.onMgmt_kept]

theorem execSessionClose_kept (r : BjReq) (s : State) :
    ∀ post, execSessionClose r s = .next post → post.kept = s.kept := by
  intro u h
  unfold execSessionClose at h
  repeat' split at h
  all_goals cases h
  all_goals simp

theorem execSessionOpenLapse_kept (n : ℕ) (elapsedMs : ℕ) (s : State) :
    ∀ post, execSessionOpenLapse n elapsedMs s = .next post → post.kept = s.kept := by
  intro u h
  unfold execSessionOpenLapse at h
  repeat' split at h
  all_goals cases h
  all_goals simp

theorem execSessionIdle_kept (n : ℕ) (idleS : ℕ) (s : State) :
    ∀ post, execSessionIdle n idleS s = .next post → post.kept = s.kept := by
  intro u h
  unfold execSessionIdle at h
  repeat' split at h
  all_goals cases h
  all_goals simp

theorem execAddressDropExpire_kept (ip : BitVec 32) (elapsedS : ℕ) (s : State) :
    ∀ post, execAddressDropExpire ip elapsedS s = .next post → post.kept = s.kept := by
  intro u h
  unfold execAddressDropExpire at h
  repeat' split at h
  all_goals cases h
  all_goals simp

@[simp] theorem State.flushNotes_kept (s : State) :
    (State.flushNotes s).kept = s.kept := by
  unfold State.flushNotes
  grind [foldl_kept, State.transmit_kept, State.onMgmt_kept]

theorem execMportLinkChange_kept (up : Bool) (s : State) :
    ∀ post, execMportLinkChange up s = .next post → post.kept = s.kept := by
  unfold execMportLinkChange
  intro u h
  repeat' split at h
  all_goals first | (simp at h; done) | (simp at h; subst h; simp; done) | (simp at h; subst h; simp_all; done) | grind [State.set_kept, State.flushNotes_kept]

theorem execConsoleAttach_kept (vbus : Bool) (s : State) :
    ∀ post, execConsoleAttach vbus s = .next post → post.kept = s.kept := by
  intro u h
  unfold execConsoleAttach at h
  cases h
  simp

theorem execNotifyAck_kept (r : BjReq) (s : State) :
    ∀ post, execNotifyAck r s = .next post → post.kept = s.kept := by
  intro u h
  unfold execNotifyAck at h
  repeat' split at h
  all_goals cases h
  all_goals simp

theorem execAlarmResend_kept (nseq : ℕ) (elapsedMs : ℕ) (s : State) :
    ∀ post, execAlarmResend nseq elapsedMs s = .next post → post.kept = s.kept := by
  intro u h
  unfold execAlarmResend at h
  repeat' split at h
  all_goals cases h
  all_goals simp

@[simp] theorem State.sendFolded_kept (s : State) (code : ℕ) (b : Bucket) :
    (State.sendFolded s code b).kept = s.kept := by simp [State.sendFolded]

theorem execNotifyTokenRefill_kept (code : ℕ) (s : State) :
    ∀ post, execNotifyTokenRefill code s = .next post → post.kept = s.kept := by
  intro u h
  simp [execNotifyTokenRefill] at h
  grind [State.setBucket_kept, State.flushNotes_kept, State.sendFolded_kept]

@[simp] theorem State.onPtp_kept (s : State) (f : Ptp → Ptp) :
    (State.onPtp s f).kept = s.kept := by simp [State.onPtp]

@[simp] theorem State.showOffset_kept (s : State) (off : ℤ) :
    (State.showOffset s off).kept = s.kept := by grind [State.showOffset, State.draw_kept, State.set_kept]

@[simp] theorem State.acquire_kept (s : State) (off : ℤ) (rate : ℤ) :
    (State.acquire s off rate).kept = s.kept := by
  unfold State.acquire
  try dsimp only
  repeat' split
  all_goals first | rfl | (simp; done) | (simp_all; done) | grind [State.set_kept, State.raise_kept, State.onPtp_kept]

@[simp] theorem State.track_kept (s : State) (off : ℤ) (rate : ℤ) :
    (State.track s off rate).kept = s.kept := by
  unfold State.track
  repeat' split
  all_goals simp_all

theorem execPtpSync_kept (master : BitVec 64) (offsetNs : ℤ) (ratePpb : ℤ) (ptpScale : Bool) (s : State) :
    ∀ post, execPtpSync master offsetNs ratePpb ptpScale s = .next post → post.kept = s.kept := by
  intro u h
  unfold execPtpSync at h
  repeat' split at h
  all_goals cases h
  all_goals simp

theorem execPtpHoldover_kept (silentMs : ℕ) (s : State) :
    ∀ post, execPtpHoldover silentMs s = .next post → post.kept = s.kept := by
  intro u h
  unfold execPtpHoldover at h
  repeat' split at h
  all_goals cases h
  all_goals simp

@[simp] theorem State.setPortState_kept (s : State) (n : ℕ) (v : ℕ) :
    (State.setPortState s n v).kept = s.kept := by simp [State.setPortState]

@[simp] theorem State.portDown_kept (s : State) (n : ℕ) (st : ℕ) :
    (State.portDown s n st).kept = s.kept := by simp [State.portDown]

@[simp] theorem State.countFec_kept (s : State) (n : Nat) : (s.countFec n).kept = s.kept := by simp [State.countFec]

theorem execLinkReplay_kept (port : Port) (s : State) :
    ∀ post, execLinkReplay port s = .next post → post.kept = s.kept := by grind [execLinkReplay, State.countFec_kept, State.bump_kept, State.setPort_kept, State.portDown_kept]

theorem execLaneLoss_kept (port : Port) (lane : Fin 4) (s : State) :
    ∀ post, execLaneLoss port lane s = .next post → post.kept = s.kept := by grind [execLaneLoss, State.setPort_kept, State.portDown_kept, State.set_kept]

theorem execLightDetect_kept (port : Port) (s : State) :
    ∀ post, execLightDetect port s = .next post → post.kept = s.kept := by grind [execLightDetect, State.setPort_kept, State.setPortState_kept]

theorem execPortTrained_kept (port : Port) (nb : Neighbour) (s : State) :
    ∀ post, execPortTrained port nb s = .next post → post.kept = s.kept := by grind [execPortTrained, State.setPort_kept, State.setPortState_kept, State.set_kept]

theorem execDiscoveryOffer_kept (s : State) :
    ∀ post, execDiscoveryOffer s = .next post → post.kept = s.kept := by
  unfold execDiscoveryOffer
  grind [foldl_kept, State.set_kept, State.emit_kept]

@[simp] theorem State.startBarrier_kept (s : State) :
    (State.startBarrier s).kept = s.kept := by simp [State.startBarrier]

@[simp] theorem State.leaderTables_kept (s : State) :
    (State.leaderTables s).kept = s.kept := by
  unfold State.leaderTables
  try dsimp only
  try intro u h
  repeat' split at h
  all_goals first | (simp_all; done)

theorem execElectionSettled_kept (quietUs : ℕ) (s : State) :
    ∀ post, execElectionSettled quietUs s = .next post → post.kept = s.kept := by
  unfold execElectionSettled
  grind [foldl_kept, State.leaderTables_kept, State.emit_kept]

@[simp] theorem State.takeOffer_kept (s : State) (port : ℕ) (serial : BitVec 48) (dist : ℕ) :
    (State.takeOffer s port serial dist).kept = s.kept := by grind [State.takeOffer, State.onFabric_kept]

theorem execDisc_kept (d : DiscMsg) (s : State) :
    ∀ post, execDisc d s = .next post → post.kept = s.kept := by
  intro u h
  unfold execDisc at h
  dsimp only at h
  repeat' split at h
  all_goals cases h
  all_goals first | (simp_all; done)

theorem execLeaderLost_kept (lostUs : ℕ) (s : State) :
    ∀ post, execLeaderLost lostUs s = .next post → post.kept = s.kept := by
  intro u h
  unfold execLeaderLost at h
  repeat' split at h
  all_goals cases h
  all_goals simp

theorem execPrepare_kept (s : State) :
    ∀ post, execPrepare s = .next post → post.kept = s.kept := by
  intro u h
  unfold execPrepare at h
  repeat' split at h
  all_goals cases h
  all_goals simp

@[simp] theorem State.refreshPort_kept (s : State) (n : ℕ) :
    (State.refreshPort s n).kept = s.kept := by grind [State.refreshPort, State.setPortState_kept]

@[simp] theorem State.swapKey_kept (s : State) :
    (State.swapKey s).kept = s.kept := by simp [State.swapKey]

@[simp] theorem State.swapTables_kept (s : State) :
    (State.swapTables s).kept = s.kept := by
  unfold State.swapTables
  repeat' split
  all_goals simp_all

theorem execFabSwap_kept (s : State) :
    ∀ post, execFabSwap s = .next post → post.kept = s.kept := by
  intro u h
  unfold execFabSwap at h
  split at h
  · cases h; simp
  · cases h; rfl

theorem execFabReady_kept (serial : BitVec 48) (s : State) :
    ∀ post, execFabReady serial s = .next post → post.kept = s.kept := by
  unfold execFabReady
  grind [foldl_kept, State.onFabric_kept, State.launchHeld_kept, State.swapTables_kept, State.emit_kept, State.lastArrival_kept]

@[simp] theorem judged_kept (f : ℕ → State → State ⊕ ℕ) (val : List Byte) (s : State) (hf : ∀ (a0 : ℕ)
    (a1 : State), ∀ post, f a0 a1 = .inl post → post.kept = a1.kept) :
    (judged f val s).1.kept = s.kept := by grind [judged]

@[simp] theorem State.askEpoch_kept (s : State) :
    (State.askEpoch s).kept = s.kept := by
  unfold State.askEpoch
  repeat' split
  all_goals simp_all

theorem execFabricEpochRequest_kept (r : BjReq) (s : State) :
    ∀ post, execFabricEpochRequest r s = .next post → post.kept = s.kept := by grind [execFabricEpochRequest, applied_kept, State.rowWrite_kept, State.askEpoch_kept]

theorem execFrostTile_kept (r : BjReq) (s : State) :
    ∀ post, execFrostTile r s = .next post → post.kept = s.kept := by grind [execFrostTile, applied_kept, State.rowWrite_kept, State.fence_kept]

theorem State.returnTile_kept (s : State) (t : ℕ) :
    ∀ post, State.returnTile s t = .inl post → post.kept = s.kept := by grind [State.returnTile, State.setKept_kept, State.setSpare_kept, State.dirty_kept, State.setTile_kept, State.setRepair_kept, State.setSuspect_kept]

theorem execUnfrostTile_kept (r : BjReq) (s : State) :
    ∀ post, execUnfrostTile r s = .next post → post.kept = s.kept := by
  unfold execUnfrostTile
  intro u h
  repeat' split at h
  all_goals first | (simp at h; done) | (simp at h; subst h; simp; done) | (simp at h; subst h; simp_all; done) | grind [State.rowWrite_kept, State.returnTile_kept, judged_kept]

theorem execBankRestore_kept (r : BjReq) (s : State) :
    ∀ post, execBankRestore r s = .next post → post.kept = s.kept := by
  intro u h
  unfold execBankRestore at h
  have h := Host.Outcome.next.inj h
  subst h
  refine State.rowWrite_kept _ _ _ _ fun v s => applied_kept _ v s fun a b => ?_
  dsimp only
  split <;> rfl

theorem execVcoreSetpoint_kept (r : BjReq) (s : State) :
    ∀ post, execVcoreSetpoint r s = .next post → post.kept = s.kept := by
  intro u h
  unfold execVcoreSetpoint at h
  cases h
  simp

theorem execForceSafePacing_kept (r : BjReq) (s : State) :
    ∀ post, execForceSafePacing r s = .next post → post.kept = s.kept := by
  intro u h
  unfold execForceSafePacing at h
  cases h
  simp

theorem execPowerLimit_kept (r : BjReq) (s : State) :
    ∀ post, execPowerLimit r s = .next post → post.kept = s.kept := by
  intro u h
  unfold execPowerLimit at h
  cases h
  simp

theorem execTileTrim_kept (t : Slot) (r : BjReq) (s : State) :
    ∀ post, execTileTrim t r s = .next post → post.kept = s.kept := by
  intro u h
  unfold execTileTrim at h
  cases h
  simp

@[simp] theorem State.askPace_kept (s : State) (t : ℕ) (v : ℕ) :
    (State.askPace s t v).kept = s.kept := by simp [State.askPace]

theorem execTilePace_kept (t : Slot) (r : BjReq) (s : State) :
    ∀ post, execTilePace t r s = .next post → post.kept = s.kept := by
  intro u h
  cases h
  exact State.rowWrite_kept _ _ _ _ fun v s => applied_kept _ v s fun a b => State.askPace_kept b _ a

theorem execVectorDim_kept (r : BjReq) (s : State) :
    ∀ post, execVectorDim r s = .next post → post.kept = s.kept := by grind [execVectorDim, State.setEntry_kept, State.rowWrite_kept, judged_kept]

theorem State.bindRole_kept (s : State) (role : ℕ) (v : ℕ) :
    ∀ post, State.bindRole s role v = .inl post → post.kept = s.kept := by
  unfold State.bindRole
  repeat' split
  all_goals simp_all

theorem execRolePlan_kept (role : Fin 24) (r : BjReq) (s : State) :
    ∀ post, execRolePlan role r s = .next post → post.kept = s.kept := by
  intro u h
  cases h
  exact State.rowWrite_kept _ _ _ _ fun v s => judged_kept _ v s fun a b => State.bindRole_kept b _ a

@[simp] theorem State.takeValue_kept (s : State) (k : ℕ) (v : ℕ) :
    (State.takeValue s k v).kept = s.kept := by grind [State.takeValue, State.askPace_kept, State.setEntry_kept, State.askTrim_kept]

@[simp] theorem State.toDefault_kept (s : State) (k : ℕ) :
    (State.toDefault s k).kept = s.kept := by
  unfold State.toDefault
  repeat' split
  all_goals simp_all

theorem execDefaultsRestore_kept (r : BjReq) (s : State) :
    ∀ post, execDefaultsRestore r s = .next post → post.kept = s.kept := by
  unfold execDefaultsRestore
  grind [foldl_kept, applied_kept, State.rowWrite_kept, State.toDefault_kept]

theorem execQuiesceRequest_kept (r : BjReq) (s : State) :
    ∀ post, execQuiesceRequest r s = .next post → post.kept = s.kept := by
  intro u h
  unfold execQuiesceRequest at h
  repeat' split at h
  all_goals cases h
  all_goals simp

theorem execQuiesceForce_kept (r : BjReq) (s : State) :
    ∀ post, execQuiesceForce r s = .next post → post.kept = s.kept := by
  intro u h
  unfold execQuiesceForce at h
  repeat' split at h
  all_goals cases h
  all_goals simp

theorem execQuiesceCancel_kept (r : BjReq) (s : State) :
    ∀ post, execQuiesceCancel r s = .next post → post.kept = s.kept := by
  intro u h
  unfold execQuiesceCancel at h
  repeat' split at h
  all_goals cases h
  all_goals simp

theorem execIdentify_kept (r : BjReq) (s : State) :
    ∀ post, execIdentify r s = .next post → post.kept = s.kept := by
  intro u h
  unfold execIdentify at h
  cases h
  simp

theorem State.startClear_kept (s : State) (v : ℕ) :
    ∀ post, State.startClear s v = .inl post → post.kept = s.kept := by
  unfold State.startClear
  repeat' split
  all_goals simp_all

theorem execRecorderClearFar_kept (r : BjReq) (s : State) :
    ∀ post, execRecorderClearFar r s = .next post → post.kept = s.kept := by grind [execRecorderClearFar, State.rowWrite_kept, judged_kept, State.startClear_kept]

theorem execRecorderClearAll_kept (r : BjReq) (s : State) :
    ∀ post, execRecorderClearAll r s = .next post → post.kept = s.kept := by grind [execRecorderClearAll, State.rowWrite_kept, judged_kept, State.startClear_kept]

theorem execPacketLifetimeDiscard_kept (p : Packet) (waitUs : ℕ) (s : State) :
    ∀ post, execPacketLifetimeDiscard p waitUs s = .next post → post.kept = s.kept := by
  intro u h
  unfold execPacketLifetimeDiscard at h
  repeat' split at h
  all_goals cases h
  all_goals simp

theorem execAckTimer_kept (src : BitVec 16) (flow : BitVec 16) (s : State) :
    ∀ post, execAckTimer src flow s = .next post → post.kept = s.kept := by
  intro u h
  unfold execAckTimer at h
  dsimp only at h
  repeat' split at h
  all_goals cases h
  all_goals first | (simp_all; done)

theorem execFabAck_kept (src : BitVec 16) (flow : BitVec 16) (seq : BitVec 16) (s : State) :
    ∀ post, execFabAck src flow seq s = .next post → post.kept = s.kept := by
  intro u h
  unfold execFabAck at h
  cases h
  simp

theorem execFabNack_kept (src : BitVec 16) (flow : BitVec 16) (seq : BitVec 16) (count : ℕ) (s : State) :
    ∀ post, execFabNack src flow seq count s = .next post → post.kept = s.kept := by
  intro u h
  unfold execFabNack at h
  cases h
  simp

theorem execFabStatus_kept (src : BitVec 16) (flow : BitVec 16) (seq : BitVec 16) (code : Byte) (s : State) :
    ∀ post, execFabStatus src flow seq code s = .next post → post.kept = s.kept := by
  intro u h
  unfold execFabStatus at h
  cases h
  simp

@[simp] theorem State.loseGap_kept (s : State) (f : RFlow) :
    (State.loseGap s f).kept = s.kept := by simp [State.loseGap]

theorem execReorderTimeout_kept (src : BitVec 16) (flow : BitVec 16) (elapsedUs : ℕ) (s : State) :
    ∀ post, execReorderTimeout src flow elapsedUs s = .next post → post.kept = s.kept := by grind [execReorderTimeout, State.sendControl_kept, State.loseGap_kept, State.setRflow_kept]

theorem execRetransmitTimeout_kept (dst : BitVec 16) (flow : BitVec 16) (elapsedUs : ℕ) (s : State) :
    ∀ post, execRetransmitTimeout dst flow elapsedUs s = .next post → post.kept = s.kept := by
  intro u h
  unfold execRetransmitTimeout at h
  repeat' split at h
  all_goals cases h
  all_goals simp

theorem execTransferLossTimeout_kept (dst : BitVec 16) (flow : BitVec 16) (elapsedUs : ℕ) (s : State) :
    ∀ post, execTransferLossTimeout dst flow elapsedUs s = .next post → post.kept = s.kept := by
  intro u h
  unfold execTransferLossTimeout at h
  repeat' split at h
  all_goals cases h
  all_goals simp

theorem execMulticastRetry_kept (i : ℕ) (elapsedUs : ℕ) (s : State) :
    ∀ post, execMulticastRetry i elapsedUs s = .next post → post.kept = s.kept := by
  intro u h
  unfold execMulticastRetry at h
  repeat' split at h
  all_goals cases h
  all_goals simp

theorem execWindowCloseComplete_kept (w : Fin 256) (s : State) :
    ∀ post, execWindowCloseComplete w s = .next post → post.kept = s.kept := by
  intro u h
  unfold execWindowCloseComplete at h
  dsimp only at h
  repeat' split at h
  all_goals cases h
  all_goals first | (simp_all; done)

theorem execWclose_kept (owner : BitVec 16) (w : Fin 256) (s : State) :
    ∀ post, execWclose owner w s = .next post → post.kept = s.kept := by
  intro u h
  unfold execWclose at h
  cases h
  simp

theorem execWcloseAck_kept (peer : BitVec 16) (w : Fin 256) (s : State) :
    ∀ post, execWcloseAck peer w s = .next post → post.kept = s.kept := by
  intro u h
  unfold execWcloseAck at h
  cases h
  simp

theorem execWindowReuseHold_kept (w : Fin 256) (elapsedMs : ℕ) (s : State) :
    ∀ post, execWindowReuseHold w elapsedMs s = .next post → post.kept = s.kept := by
  intro u h
  unfold execWindowReuseHold at h
  dsimp only at h
  repeat' split at h
  all_goals cases h
  all_goals first | (simp_all; done)

@[simp] theorem State.written_kept (s : State) (b : ℕ) :
    (State.written s b).kept = s.kept := by simp [State.written]

@[simp] theorem State.recordSeal_kept (s : State) (b : ℕ) :
    (State.recordSeal s b).kept = s.kept := by
  unfold State.recordSeal
  repeat' split
  all_goals simp_all

@[simp] theorem State.writeBlock_kept (s : State) (b : ℕ) (okB : Bool) (okA : Bool) :
    (State.writeBlock s b okB okA).kept = s.kept := by
  unfold State.writeBlock
  grind [foldl_kept, State.recordSeal_kept, State.setBlock_kept, State.written_kept]

theorem execFlashBlockWrite_kept (readBackB : Bool) (readBackA : Bool) (s : State) :
    ∀ post, execFlashBlockWrite readBackB readBackA s = .next post → post.kept = s.kept := by
  unfold execFlashBlockWrite
  repeat' split
  all_goals simp_all

theorem execPersistFlush_kept (s : State) :
    ∀ post, execPersistFlush s = .next post → post.kept = s.kept := by
  intro u h
  unfold execPersistFlush at h
  repeat' split at h
  all_goals cases h
  all_goals simp

@[simp] theorem State.takeCopy_kept (s : State) (body : List (ℕ × ℕ)) (e : Entry) (k : ℕ) :
    (State.takeCopy s body e k).kept = s.kept := by
  unfold State.takeCopy
  repeat' split
  all_goals simp_all

@[simp] theorem State.takeBody_kept (s : State) (body : List (ℕ × ℕ)) :
    (State.takeBody s body).kept = s.kept := by simp [State.takeBody]

@[simp] theorem State.endConflict_kept (s : State) :
    (State.endConflict s).kept = s.kept := by simp [State.endConflict]

theorem State.resolve_kept (s : State) (f : State → State) (hf : ∀ (a0 : State), (f a0).kept = a0.kept) :
    ∀ post, State.resolve s f = .inl post → post.kept = s.kept := by grind [State.resolve, State.endConflict_kept]

theorem execCopyResolveA_kept (r : BjReq) (s : State) :
    ∀ post, execCopyResolveA r s = .next post → post.kept = s.kept := by grind [execCopyResolveA, State.rowWrite_kept, State.resolve_kept, State.takeBody_kept, judged_kept]

theorem execCopyResolveB_kept (r : BjReq) (s : State) :
    ∀ post, execCopyResolveB r s = .next post → post.kept = s.kept := by grind [execCopyResolveB, State.rowWrite_kept, State.resolve_kept, State.takeBody_kept, judged_kept]

theorem execCopyResolveKeep_kept (r : BjReq) (s : State) :
    ∀ post, execCopyResolveKeep r s = .next post → post.kept = s.kept := by
  unfold execCopyResolveKeep
  grind [foldl_kept, State.rowWrite_kept, State.resolve_kept, judged_kept]

@[simp] theorem State.writeImage_kept (s : State) (b : List Byte) (k : FwCheck) :
    (State.writeImage s b k).kept = s.kept := by
  unfold State.writeImage
  repeat' split
  all_goals simp_all

@[simp] theorem State.installImage_kept (s : State) (b : List Byte) (k : FwCheck) :
    (State.installImage s b k).1.kept = s.kept := by
  unfold State.installImage
  grind [foldl_kept, State.set_kept, State.writeImage_kept]

@[simp] theorem State.wipeTile_kept (s : State) (t : ℕ) :
    (State.wipeTile s t).kept = s.kept := by simp [State.wipeTile]

theorem State.kept_check (s : State) (c : Check) : State.kept { s with check := c } = s.kept := rfl

@[simp] theorem State.wipeTiles_kept (s : State) :
    (State.wipeTiles s).kept = s.kept := by
  unfold State.wipeTiles
  generalize allSlots = l
  generalize List.range 48 = m
  dsimp only
  refine (State.kept_check _ _).trans ?_
  rw [foldl_kept _ _ _ fun s x => by simp, foldl_kept _ _ _ fun s x => by simp]

@[simp] theorem State.wipeCores_kept (s : State) :
    (State.wipeCores s).kept = s.kept := by simp [State.wipeCores]

@[simp] theorem State.dropPlans_kept (s : State) :
    (State.dropPlans s).kept = s.kept := by simp [State.dropPlans]

@[simp] theorem State.dropTunes_kept (s : State) :
    (State.dropTunes s).kept = s.kept := by simp [State.dropTunes]

@[simp] theorem State.dropKeys_kept (s : State) :
    (State.dropKeys s).kept = s.kept := by simp [State.dropKeys]

@[simp] theorem State.endAllSessions_kept (s : State) :
    (State.endAllSessions s).kept = s.kept := by simp [State.endAllSessions]

@[simp] theorem State.claim_kept (s : State) (sigOk : Bool) (val : List Byte) :
    (State.claim s sigOk val).1.kept = s.kept := by grind [State.claim, State.bump_kept, State.dirty_kept, State.set_kept, State.endAllSessions_kept, State.setOctet_kept]

theorem execOwnerClaim_kept (r : BjReq) (sigOk : Bool) (s : State) :
    ∀ post, execOwnerClaim r sigOk s = .next post → post.kept = s.kept := by
  unfold execOwnerClaim
  intro u h
  repeat' split at h
  all_goals first | (simp at h; done) | (simp at h; subst h; simp; done) | (simp at h; subst h; simp_all; done) | grind [State.rowWrite_kept, State.claim_kept]

@[simp] theorem State.keyByEntry_kept (s : State) (val : List Byte) (chk : KeyCheck) :
    (State.keyByEntry s val chk).1.kept = s.kept := by simp [State.keyByEntry]

theorem execKeyInstall_kept (src : KeySource) (chk : KeyCheck) (s : State) :
    ∀ post, execKeyInstall src chk s = .next post → post.kept = s.kept := by
  unfold execKeyInstall
  grind [foldl_kept, State.keyByEntry_kept, State.rowWrite_kept, State.keyByDesc_kept]

@[simp] theorem State.removeKey_kept (s : State) (id : ℕ) :
    (State.removeKey s id).kept = s.kept := by simp [State.removeKey]

theorem execKeyRemove_kept (r : BjReq) (s : State) :
    ∀ post, execKeyRemove r s = .next post → post.kept = s.kept := by
  unfold execKeyRemove
  repeat' split
  all_goals simp_all

@[simp] theorem State.addLicence_kept (s : State) (b : List Byte) :
    (State.addLicence s b).kept = s.kept := by
  unfold State.addLicence
  repeat' split
  all_goals simp_all

@[simp] theorem State.installLicence_kept (s : State) (b : List Byte) (sigOk : Bool) :
    (State.installLicence s b sigOk).1.kept = s.kept := by
  simp only [State.installLicence]
  repeat' split
  all_goals first | rfl | (simp; done) | (simp_all; done) | grind [State.addLicence_kept, State.set_kept, State.raise_kept]

theorem execLicenceInstall_kept (r : BjReq) (endorseOk sigOk : Bool) (s : State) :
    ∀ post, execLicenceInstall r endorseOk sigOk s = .next post → post.kept = s.kept := by
  unfold execLicenceInstall
  intro u h
  repeat' split at h
  all_goals first | (simp at h; done) | (simp at h; subst h; simp; done) | (simp at h; subst h; simp_all; done) | grind [State.rowWrite_kept, State.installLicence_kept]

theorem execCommitSvn_kept (r : BjReq) (s : State) :
    ∀ post, execCommitSvn r s = .next post → post.kept = s.kept := by
  intro u h
  unfold execCommitSvn at h
  cases h
  simp

@[simp] theorem State.challenge_kept (s : State) (val : List Byte) :
    (State.challenge s val).1.kept = s.kept := by grind [State.challenge, State.askQuote_kept]

theorem execQuoteRequest_kept (r : BjReq) (s : State) :
    ∀ post, execQuoteRequest r s = .next post → post.kept = s.kept := by
  intro u h
  unfold execQuoteRequest at h
  repeat' split at h
  all_goals cases h
  all_goals simp

@[simp] theorem State.onVault_kept (s : State) (f : Vault → Vault) :
    (State.onVault s f).kept = s.kept := by simp [State.onVault]

@[simp] theorem State.clearBegin_kept (s : State) :
    (State.clearBegin s).kept = s.kept := by simp [State.clearBegin]

@[simp] theorem State.clearVault_kept (s : State) :
    (State.clearVault s).kept = s.kept := by simp [State.clearVault]

theorem State.kept_clear (s : State) (c : Check) (n : Net) (f : Fabric) :
    State.kept { s with check := c, net := n, fabric := f } = s.kept := rfl

@[simp] theorem State.clearTiles_kept (s : State) :
    (State.clearTiles s).kept = s.kept := by
  unfold State.clearTiles
  dsimp only
  refine (State.kept_clear _ _ _ _).trans ?_
  rw [State.wipeCores_kept, State.wipeTiles_kept]

@[simp] theorem State.clearIdentity_kept (s : State) :
    (State.clearIdentity s).kept = s.kept := by simp [State.clearIdentity]

@[simp] theorem State.clearReadBack_kept (s : State) :
    (State.clearReadBack s).kept = s.kept := by simp [State.clearReadBack]

@[simp] theorem State.clearDone_kept (s : State) :
    (State.clearDone s).kept = s.kept := by simp [State.clearDone]

@[simp] theorem State.clearNext_kept (s : State) :
    (State.clearNext s).kept = s.kept := by
  unfold State.clearNext
  repeat' split
  all_goals simp_all

@[simp] theorem State.beginClear_kept (s : State) (readBackOk : Bool) :
    (State.beginClear s readBackOk).kept = s.kept := by simp [State.beginClear]

theorem execScanClear_kept (r : BjReq) (readBackOk : Bool) (s : State) :
    ∀ post, execScanClear r readBackOk s = .next post → post.kept = s.kept := by grind [execScanClear, State.rowWrite_kept, State.beginClear_kept, judged_kept]

@[simp] theorem State.setTest_kept (s : State) (i : ℕ) :
    (State.setTest s i).kept = s.kept := by simp [State.setTest]

@[simp] theorem State.testPort_kept (s : State) (f : State → State) (hf : ∀ (a0 : State), (f a0).kept = a0.kept) :
    (State.testPort s f).kept = s.kept := by
  unfold State.testPort
  repeat' split
  all_goals simp_all

theorem execRecorderIntervalEnd_kept (s : State) :
    ∀ post, execRecorderIntervalEnd s = .next post → post.kept = s.kept := by
  unfold execRecorderIntervalEnd
  repeat' split
  all_goals simp_all

theorem execRecorderFlashPage_kept (s : State) :
    ∀ post, execRecorderFlashPage s = .next post → post.kept = s.kept := by
  intro u h
  unfold execRecorderFlashPage at h
  repeat' split at h
  all_goals cases h
  all_goals simp

@[simp] theorem State.endClear_kept (s : State) (v : ℕ) :
    (State.endClear s v).kept = s.kept := by simp [State.endClear]

theorem execRecorderClearDone_kept (s : State) :
    ∀ post, execRecorderClearDone s = .next post → post.kept = s.kept := by
  simp only [execRecorderClearDone]
  repeat' split
  all_goals first | rfl | (simp; done) | (simp_all; done) | grind [State.endClear_kept]

@[simp] theorem State.onFront_kept (s : State) (f : Front → Front) :
    (State.onFront s f).kept = s.kept := by simp [State.onFront]

theorem execServiceButtonPress_kept (ms : ℕ) (src : QSource) (s : State) :
    ∀ post, execServiceButtonPress ms src s = .next post → post.kept = s.kept := by
  intro u h
  unfold execServiceButtonPress at h
  try dsimp only at h
  repeat' split at h
  all_goals cases h
  all_goals try simp_all

theorem execServiceButtonHold_kept (ms : ℕ) (src : QSource) (s : State) :
    ∀ post, execServiceButtonHold ms src s = .next post → post.kept = s.kept := by
  intro u h
  unfold execServiceButtonHold at h
  repeat' split at h
  all_goals cases h
  all_goals simp

theorem execButtonStuck_kept (ms : ℕ) (s : State) :
    ∀ post, execButtonStuck ms s = .next post → post.kept = s.kept := by
  unfold execButtonStuck
  grind [foldl_kept, State.raise_kept, State.onFront_kept]

@[simp] theorem State.flushFlash_kept (s : State) :
    (State.flushFlash s).kept = s.kept := by simp [State.flushFlash]

theorem execQuiesceDrained_kept (s : State) :
    ∀ post, execQuiesceDrained s = .next post → post.kept = s.kept := by
  intro u h
  unfold execQuiesceDrained at h
  repeat' split at h
  all_goals cases h
  all_goals simp

theorem execTouch_kept (ms : ℕ) (s : State) :
    ∀ post, execTouch ms s = .next post → post.kept = s.kept := by
  intro u h
  unfold execTouch at h
  repeat' split at h
  all_goals cases h
  all_goals simp

theorem execIdentifyTimeout_kept (elapsedS : ℕ) (s : State) :
    ∀ post, execIdentifyTimeout elapsedS s = .next post → post.kept = s.kept := by
  intro u h
  unfold execIdentifyTimeout at h
  repeat' split at h
  all_goals cases h
  all_goals simp

theorem execLightBarSleep_kept (elapsedS : ℕ) (s : State) :
    ∀ post, execLightBarSleep elapsedS s = .next post → post.kept = s.kept := by
  intro u h
  unfold execLightBarSleep at h
  dsimp only at h
  repeat' split at h
  all_goals cases h
  all_goals first | (simp_all; done)

@[simp] theorem State.showCoolant_kept (s : State) (inlet : ℤ) (outlet : ℤ) (flow : ℕ) (ok : Bool) :
    (State.showCoolant s inlet outlet flow ok).kept = s.kept := by grind [State.showCoolant, State.draw_kept, State.set_kept]

@[simp] theorem State.coolant_kept (s : State) (c : ℕ) :
    (State.coolant s c).kept = s.kept := by grind [State.coolant, State.set_kept, State.raise_kept, State.onPower_kept]

theorem execCoolantSample_kept (inlet : ℤ) (outlet : ℤ) (flow : ℕ) (ok : Bool) (lowForMs : ℕ) (absentMs : ℕ)
    (s : State) :
    ∀ post, execCoolantSample inlet outlet flow ok lowForMs absentMs s = .next post → post.kept = s.kept := by
  intro u h
  unfold execCoolantSample at h
  repeat' split at h
  all_goals cases h
  all_goals simp

@[simp] theorem State.showSlot_kept (s : State) (id : ℕ) :
    (State.showSlot s id).kept = s.kept := by simp [State.showSlot]

theorem execSidebandOpen_kept (bit : Fin 8) (ms : ℕ) (s : State) :
    ∀ post, execSidebandOpen bit ms s = .next post → post.kept = s.kept := by grind [execSidebandOpen, State.set_kept, State.showSlot_kept, State.raise_kept, State.onFront_kept]

theorem execModuleInsert_kept (slotId : BitVec 3) (s : State) :
    ∀ post, execModuleInsert slotId s = .next post → post.kept = s.kept := by
  unfold execModuleInsert
  repeat' split
  all_goals simp_all

theorem execSmbFruRead_kept (s : State) :
    ∀ post, execSmbFruRead s = .next post → post.kept = s.kept := by
  intro u h
  unfold execSmbFruRead at h
  repeat' split at h
  all_goals cases h
  all_goals simp

end Sys2Proof.Machine
end

