-- ==== Sys2Proof/Laws/KeptTile.lean ====
section
/-! SUPPORT. One lemma for each operation that leaves the queue and module memory as they were: what tiles do. -/

namespace Sys2Proof.Machine

theorem execTokenArrive_kept (src : MsgSrc) (s : State) :
    ∀ post, execTokenArrive src s = .next post → post.kept = s.kept := by
  intro u h
  unfold execTokenArrive at h
  cases h
  simp

theorem execTokenRetry_kept (src : MsgSrc) (s : State) :
    ∀ post, execTokenRetry src s = .next post → post.kept = s.kept := by
  intro u h
  unfold execTokenRetry at h
  cases h
  simp

theorem execSuFire_kept (t : Slot) (u : Fin 4) (s : State) :
    ∀ post, execSuFire t u s = .next post → post.kept = s.kept := by
  intro u h
  unfold execSuFire at h
  cases h
  simp

@[simp] theorem State.nodeInject_kept (s : State) (i : ℕ) (n : NodeSend) :
    (State.nodeInject s i n).kept = s.kept := by simp [State.nodeInject]

@[simp] theorem State.tryInject_kept (s : State) (src : MsgSrc) :
    (State.tryInject s src).kept = s.kept := by
  unfold State.tryInject
  repeat' split
  all_goals simp_all

theorem execMsgDeliver_kept (src : MsgSrc) (s : State) :
    ∀ post, execMsgDeliver src s = .next post → post.kept = s.kept := by
  intro u h
  unfold execMsgDeliver at h
  cases h
  simp

theorem execSendReoffer_kept (src : MsgSrc) (s : State) :
    ∀ post, execSendReoffer src s = .next post → post.kept = s.kept := by
  intro u h
  unfold execSendReoffer at h
  cases h
  simp

@[simp] theorem State.stallOut_kept (s : State) (src : MsgSrc) :
    (State.stallOut s src).kept = s.kept := by simp [State.stallOut]

theorem execSendStallTimeout_kept (src : MsgSrc) (elapsedNs : ℕ) (s : State) :
    ∀ post, execSendStallTimeout src elapsedNs s = .next post → post.kept = s.kept := by
  intro u h
  simp only [execSendStallTimeout] at h
  repeat' split at h
  all_goals cases h
  all_goals try simp_all

theorem execReplyCreditTimeout_kept (src : MsgSrc) (elapsedNs : ℕ) (s : State) :
    ∀ post, execReplyCreditTimeout src elapsedNs s = .next post → post.kept = s.kept := by
  intro u h
  unfold execReplyCreditTimeout at h
  repeat' split at h
  all_goals cases h
  all_goals simp

@[simp] theorem State.ringLine_kept (s : State) (t : ℕ) :
    (State.ringLine s t).2.kept = s.kept := by simp [State.ringLine]

@[simp] theorem State.loseSpilled_kept (s : State) (t : ℕ) (q : ℕ) :
    (State.loseSpilled s t q).kept = s.kept := by simp [State.loseSpilled]

@[simp] theorem State.readSpilled_kept (s : State) (t : ℕ) (q : ℕ) (m : Msg) (errs : ℕ) :
    (State.readSpilled s t q m errs).kept = s.kept := by
  unfold State.readSpilled
  try dsimp only
  repeat' split
  all_goals first | rfl | (simp; done) | (simp_all; done) | grind [State.draw_kept, State.freeBytes_kept, State.loseSpilled_kept, State.corrected_kept, State.onTile_kept, State.uncorrectable_kept, State.ringLine_kept, State.noteDepth_kept]

theorem execSpillReturn_kept (t : Slot) (q : Fin 16) (errs : ℕ) (s : State) :
    ∀ post, execSpillReturn t q errs s = .next post → post.kept = s.kept := by
  intro u h
  simp [execSpillReturn] at h
  grind [State.readSpilled_kept]

theorem execTokenInjectWait_kept (src : MsgSrc) (s : State) :
    ∀ post, execTokenInjectWait src s = .next post → post.kept = s.kept := by
  intro u h
  unfold execTokenInjectWait at h
  repeat' split at h
  all_goals cases h
  all_goals simp

theorem execPclassClosed_kept (s : State) :
    ∀ post, execPclassClosed s = .next post → post.kept = s.kept := by
  intro u h
  unfold execPclassClosed at h
  repeat' split at h
  all_goals cases h
  all_goals simp

theorem execPclassReopen_kept (s : State) :
    ∀ post, execPclassReopen s = .next post → post.kept = s.kept := by
  intro u h
  unfold execPclassReopen at h
  dsimp only at h
  repeat' split at h
  all_goals cases h
  all_goals first | (simp_all; done)

theorem execMstatClear_kept (t : Slot) (v : Word) (s : State) :
    ∀ post, execMstatClear t v s = .next post → post.kept = s.kept := by
  intro u h
  unfold execMstatClear at h
  cases h
  simp

theorem execConflictClear_kept (t : Slot) (b : Fin 24) (v : Word) (s : State) :
    ∀ post, execConflictClear t b v s = .next post → post.kept = s.kept := by
  intro u h
  unfold execConflictClear at h
  cases h
  simp

theorem execSbfaultClear_kept (t : Slot) (v : Word) (s : State) :
    ∀ post, execSbfaultClear t v s = .next post → post.kept = s.kept := by
  intro u h
  unfold execSbfaultClear at h
  cases h
  simp

theorem execFxfailClear_kept (t : Slot) (v : Word) (s : State) :
    ∀ post, execFxfailClear t v s = .next post → post.kept = s.kept := by
  intro u h
  unfold execFxfailClear at h
  cases h
  simp

theorem execSkfailClear_kept (t : Slot) (v : Word) (s : State) :
    ∀ post, execSkfailClear t v s = .next post → post.kept = s.kept := by
  intro u h
  unfold execSkfailClear at h
  cases h
  simp

theorem execSnfset_kept (t : Slot) (v : Word) (s : State) :
    ∀ post, execSnfset t v s = .next post → post.kept = s.kept := by
  intro u h
  unfold execSnfset at h
  cases h
  simp

theorem execSncountAdd_kept (t : Slot) (c : Fin 16) (v : Word) (s : State) :
    ∀ post, execSncountAdd t c v s = .next post → post.kept = s.kept := by
  intro u h
  unfold execSncountAdd at h
  cases h
  simp

theorem execCkptEpochWrite_kept (t : Slot) (v : Word) (s : State) :
    ∀ post, execCkptEpochWrite t v s = .next post → post.kept = s.kept := by
  intro u h
  unfold execCkptEpochWrite at h
  cases h
  simp

theorem execSucfgWrite_kept (t : Slot) (u : Fin 4) (v : Word) (s : State) :
    ∀ post, execSucfgWrite t u v s = .next post → post.kept = s.kept := by
  intro u h
  unfold execSucfgWrite at h
  cases h
  simp

theorem execQctlWrite_kept (t : Slot) (q : Fin 16) (v : Word) (s : State) :
    ∀ post, execQctlWrite t q v s = .next post → post.kept = s.kept := by
  intro u h
  unfold execQctlWrite at h
  cases h
  simp

theorem execTunerep_kept (t : Slot) (v : Word) (s : State) :
    ∀ post, execTunerep t v s = .next post → post.kept = s.kept := by
  intro u h
  unfold execTunerep at h
  cases h
  simp

theorem execChkstep_kept (t : Slot) (v : Word) (s : State) :
    ∀ post, execChkstep t v s = .next post → post.kept = s.kept := by
  intro u h
  unfold execChkstep at h
  cases h
  simp

theorem execTileRegWrite_kept (t : Slot) (addr : Word) (v : Word) (s : State) :
    ∀ post, execTileRegWrite t addr v s = .next post → post.kept = s.kept := by
  intro u h
  unfold execTileRegWrite at h
  dsimp only at h
  repeat' split at h
  all_goals cases h
  all_goals first | (simp_all; done)

theorem execBeq_kept (t : Slot) (ra : BitVec 5) (rb : BitVec 5) (off : BitVec 13) (s : State) :
    ∀ post, execBeq t ra rb off s = .next post → post.kept = s.kept := by
  intro u h
  unfold execBeq at h
  cases h
  simp

theorem execBne_kept (t : Slot) (ra : BitVec 5) (rb : BitVec 5) (off : BitVec 13) (s : State) :
    ∀ post, execBne t ra rb off s = .next post → post.kept = s.kept := by
  intro u h
  unfold execBne at h
  cases h
  simp

theorem execBlt_kept (t : Slot) (ra : BitVec 5) (rb : BitVec 5) (off : BitVec 13) (s : State) :
    ∀ post, execBlt t ra rb off s = .next post → post.kept = s.kept := by
  intro u h
  unfold execBlt at h
  cases h
  simp

theorem execBge_kept (t : Slot) (ra : BitVec 5) (rb : BitVec 5) (off : BitVec 13) (s : State) :
    ∀ post, execBge t ra rb off s = .next post → post.kept = s.kept := by
  intro u h
  unfold execBge at h
  cases h
  simp

theorem execBltu_kept (t : Slot) (ra : BitVec 5) (rb : BitVec 5) (off : BitVec 13) (s : State) :
    ∀ post, execBltu t ra rb off s = .next post → post.kept = s.kept := by
  intro u h
  unfold execBltu at h
  cases h
  simp

theorem execBgeu_kept (t : Slot) (ra : BitVec 5) (rb : BitVec 5) (off : BitVec 13) (s : State) :
    ∀ post, execBgeu t ra rb off s = .next post → post.kept = s.kept := by
  intro u h
  unfold execBgeu at h
  cases h
  simp

theorem execJal_kept (t : Slot) (rd : BitVec 5) (off : BitVec 20) (s : State) :
    ∀ post, execJal t rd off s = .next post → post.kept = s.kept := by
  intro u h
  unfold execJal at h
  cases h
  simp

theorem execJr_kept (t : Slot) (rd : BitVec 5) (ra : BitVec 5) (rsv : BitVec 15) (s : State) :
    ∀ post, execJr t rd ra rsv s = .next post → post.kept = s.kept := by
  intro u h
  unfold execJr at h
  cases h
  simp

theorem execLseti_kept (t : Slot) (lc : BitVec 4) (opnd : BitVec 19) (s : State) :
    ∀ post, execLseti t lc opnd s = .next post → post.kept = s.kept := by
  intro u h
  unfold execLseti at h
  cases h
  simp

theorem execLsetr_kept (t : Slot) (lc : BitVec 4) (r : BitVec 5) (rsv : BitVec 14) (s : State) :
    ∀ post, execLsetr t lc r rsv s = .next post → post.kept = s.kept := by
  intro u h
  unfold execLsetr at h
  cases h
  simp

theorem execLoopC_kept (t : Slot) (lc : BitVec 4) (off : BitVec 19) (s : State) :
    ∀ post, execLoopC t lc off s = .next post → post.kept = s.kept := by
  intro u h
  unfold execLoopC at h
  cases h
  simp

theorem execLinc_kept (t : Slot) (lc : BitVec 4) (imm : BitVec 19) (s : State) :
    ∀ post, execLinc t lc imm s = .next post → post.kept = s.kept := by
  intro u h
  unfold execLinc at h
  cases h
  simp

theorem execLget_kept (t : Slot) (lc : BitVec 4) (r : BitVec 5) (rsv : BitVec 14) (s : State) :
    ∀ post, execLget t lc r rsv s = .next post → post.kept = s.kept := by
  intro u h
  unfold execLget at h
  cases h
  simp

theorem execLbz_kept (t : Slot) (lc : BitVec 4) (off : BitVec 19) (s : State) :
    ∀ post, execLbz t lc off s = .next post → post.kept = s.kept := by
  intro u h
  unfold execLbz at h
  cases h
  simp

theorem execLb_kept (t : Slot) (rd : BitVec 5) (base : BitVec 5) (imm : BitVec 12) (s : State) :
    ∀ post, execLb t rd base imm s = .next post → post.kept = s.kept := by
  intro u h
  unfold execLb at h
  cases h
  simp

theorem execLh_kept (t : Slot) (rd : BitVec 5) (base : BitVec 5) (imm : BitVec 12) (s : State) :
    ∀ post, execLh t rd base imm s = .next post → post.kept = s.kept := by
  intro u h
  unfold execLh at h
  cases h
  simp

theorem execLw_kept (t : Slot) (rd : BitVec 5) (base : BitVec 5) (imm : BitVec 12) (s : State) :
    ∀ post, execLw t rd base imm s = .next post → post.kept = s.kept := by
  intro u h
  unfold execLw at h
  cases h
  simp

theorem execLbu_kept (t : Slot) (rd : BitVec 5) (base : BitVec 5) (imm : BitVec 12) (s : State) :
    ∀ post, execLbu t rd base imm s = .next post → post.kept = s.kept := by
  intro u h
  unfold execLbu at h
  cases h
  simp

theorem execLhu_kept (t : Slot) (rd : BitVec 5) (base : BitVec 5) (imm : BitVec 12) (s : State) :
    ∀ post, execLhu t rd base imm s = .next post → post.kept = s.kept := by
  intro u h
  unfold execLhu at h
  cases h
  simp

theorem execSb_kept (t : Slot) (data : BitVec 5) (base : BitVec 5) (imm : BitVec 12) (s : State) :
    ∀ post, execSb t data base imm s = .next post → post.kept = s.kept := by
  intro u h
  unfold execSb at h
  cases h
  simp

theorem execSh_kept (t : Slot) (data : BitVec 5) (base : BitVec 5) (imm : BitVec 12) (s : State) :
    ∀ post, execSh t data base imm s = .next post → post.kept = s.kept := by
  intro u h
  unfold execSh at h
  cases h
  simp

theorem execSw_kept (t : Slot) (data : BitVec 5) (base : BitVec 5) (imm : BitVec 12) (s : State) :
    ∀ post, execSw t data base imm s = .next post → post.kept = s.kept := by
  intro u h
  unfold execSw at h
  cases h
  simp

theorem execToki_kept (t : Slot) (o : TokOp) (s : State) :
    ∀ post, execToki t o s = .next post → post.kept = s.kept := by
  intro u h
  unfold execToki at h
  cases h
  simp

theorem execTokr_kept (t : Slot) (o : TokOp) (s : State) :
    ∀ post, execTokr t o s = .next post → post.kept = s.kept := by
  intro u h
  unfold execTokr at h
  cases h
  simp

theorem execTokl_kept (t : Slot) (o : TokOp) (s : State) :
    ∀ post, execTokl t o s = .next post → post.kept = s.kept := by
  intro u h
  unfold execTokl at h
  cases h
  simp

theorem execTstat_kept (t : Slot) (o : TokOp) (s : State) :
    ∀ post, execTstat t o s = .next post → post.kept = s.kept := by
  intro u h
  unfold execTstat at h
  cases h
  simp

theorem execSend_kept (t : Slot) (o : SendOp) (s : State) :
    ∀ post, execSend t o s = .next post → post.kept = s.kept := by
  intro u h
  unfold execSend at h
  cases h
  simp

theorem execRecvsel_kept (t : Slot) (o : RecvOp) (s : State) :
    ∀ post, execRecvsel t o s = .next post → post.kept = s.kept := by
  intro u h
  unfold execRecvsel at h
  cases h
  simp

theorem execQrel_kept (t : Slot) (o : RecvOp) (s : State) :
    ∀ post, execQrel t o s = .next post → post.kept = s.kept := by
  intro u h
  unfold execQrel at h
  cases h
  simp

theorem execAdd_kept (t : Slot) (rd : BitVec 5) (ra : BitVec 5) (rb : BitVec 5) (rsv : BitVec 7) (s : State) :
    ∀ post, execAdd t rd ra rb rsv s = .next post → post.kept = s.kept := by
  intro u h
  unfold execAdd at h
  cases h
  simp

theorem execSub_kept (t : Slot) (rd : BitVec 5) (ra : BitVec 5) (rb : BitVec 5) (rsv : BitVec 7) (s : State) :
    ∀ post, execSub t rd ra rb rsv s = .next post → post.kept = s.kept := by
  intro u h
  unfold execSub at h
  cases h
  simp

theorem execAndR_kept (t : Slot) (rd : BitVec 5) (ra : BitVec 5) (rb : BitVec 5) (rsv : BitVec 7) (s : State) :
    ∀ post, execAndR t rd ra rb rsv s = .next post → post.kept = s.kept := by
  intro u h
  unfold execAndR at h
  cases h
  simp

theorem execOrR_kept (t : Slot) (rd : BitVec 5) (ra : BitVec 5) (rb : BitVec 5) (rsv : BitVec 7) (s : State) :
    ∀ post, execOrR t rd ra rb rsv s = .next post → post.kept = s.kept := by
  intro u h
  unfold execOrR at h
  cases h
  simp

theorem execXorR_kept (t : Slot) (rd : BitVec 5) (ra : BitVec 5) (rb : BitVec 5) (rsv : BitVec 7) (s : State) :
    ∀ post, execXorR t rd ra rb rsv s = .next post → post.kept = s.kept := by
  intro u h
  unfold execXorR at h
  cases h
  simp

theorem execShl_kept (t : Slot) (rd : BitVec 5) (ra : BitVec 5) (rb : BitVec 5) (rsv : BitVec 7) (s : State) :
    ∀ post, execShl t rd ra rb rsv s = .next post → post.kept = s.kept := by
  intro u h
  unfold execShl at h
  cases h
  simp

theorem execShr_kept (t : Slot) (rd : BitVec 5) (ra : BitVec 5) (rb : BitVec 5) (rsv : BitVec 7) (s : State) :
    ∀ post, execShr t rd ra rb rsv s = .next post → post.kept = s.kept := by
  intro u h
  unfold execShr at h
  cases h
  simp

theorem execSra_kept (t : Slot) (rd : BitVec 5) (ra : BitVec 5) (rb : BitVec 5) (rsv : BitVec 7) (s : State) :
    ∀ post, execSra t rd ra rb rsv s = .next post → post.kept = s.kept := by
  intro u h
  unfold execSra at h
  cases h
  simp

theorem execMul_kept (t : Slot) (rd : BitVec 5) (ra : BitVec 5) (rb : BitVec 5) (rsv : BitVec 7) (s : State) :
    ∀ post, execMul t rd ra rb rsv s = .next post → post.kept = s.kept := by
  intro u h
  unfold execMul at h
  cases h
  simp

theorem execSlt_kept (t : Slot) (rd : BitVec 5) (ra : BitVec 5) (rb : BitVec 5) (rsv : BitVec 7) (s : State) :
    ∀ post, execSlt t rd ra rb rsv s = .next post → post.kept = s.kept := by
  intro u h
  unfold execSlt at h
  cases h
  simp

theorem execSltu_kept (t : Slot) (rd : BitVec 5) (ra : BitVec 5) (rb : BitVec 5) (rsv : BitVec 7) (s : State) :
    ∀ post, execSltu t rd ra rb rsv s = .next post → post.kept = s.kept := by
  intro u h
  unfold execSltu at h
  cases h
  simp

theorem execMinR_kept (t : Slot) (rd : BitVec 5) (ra : BitVec 5) (rb : BitVec 5) (rsv : BitVec 7) (s : State) :
    ∀ post, execMinR t rd ra rb rsv s = .next post → post.kept = s.kept := by
  intro u h
  unfold execMinR at h
  cases h
  simp

theorem execMaxR_kept (t : Slot) (rd : BitVec 5) (ra : BitVec 5) (rb : BitVec 5) (rsv : BitVec 7) (s : State) :
    ∀ post, execMaxR t rd ra rb rsv s = .next post → post.kept = s.kept := by
  intro u h
  unfold execMaxR at h
  cases h
  simp

theorem execMinu_kept (t : Slot) (rd : BitVec 5) (ra : BitVec 5) (rb : BitVec 5) (rsv : BitVec 7) (s : State) :
    ∀ post, execMinu t rd ra rb rsv s = .next post → post.kept = s.kept := by
  intro u h
  unfold execMinu at h
  cases h
  simp

theorem execMaxu_kept (t : Slot) (rd : BitVec 5) (ra : BitVec 5) (rb : BitVec 5) (rsv : BitVec 7) (s : State) :
    ∀ post, execMaxu t rd ra rb rsv s = .next post → post.kept = s.kept := by
  intro u h
  unfold execMaxu at h
  cases h
  simp

theorem execAddi_kept (t : Slot) (rd : BitVec 5) (ra : BitVec 5) (imm : BitVec 12) (s : State) :
    ∀ post, execAddi t rd ra imm s = .next post → post.kept = s.kept := by
  intro u h
  unfold execAddi at h
  cases h
  simp

theorem execAndi_kept (t : Slot) (rd : BitVec 5) (ra : BitVec 5) (imm : BitVec 12) (s : State) :
    ∀ post, execAndi t rd ra imm s = .next post → post.kept = s.kept := by
  intro u h
  unfold execAndi at h
  cases h
  simp

theorem execOri_kept (t : Slot) (rd : BitVec 5) (ra : BitVec 5) (imm : BitVec 12) (s : State) :
    ∀ post, execOri t rd ra imm s = .next post → post.kept = s.kept := by
  intro u h
  unfold execOri at h
  cases h
  simp

theorem execXori_kept (t : Slot) (rd : BitVec 5) (ra : BitVec 5) (imm : BitVec 12) (s : State) :
    ∀ post, execXori t rd ra imm s = .next post → post.kept = s.kept := by
  intro u h
  unfold execXori at h
  cases h
  simp

theorem execShli_kept (t : Slot) (rd : BitVec 5) (ra : BitVec 5) (imm : BitVec 12) (s : State) :
    ∀ post, execShli t rd ra imm s = .next post → post.kept = s.kept := by
  intro u h
  unfold execShli at h
  cases h
  simp

theorem execShri_kept (t : Slot) (rd : BitVec 5) (ra : BitVec 5) (imm : BitVec 12) (s : State) :
    ∀ post, execShri t rd ra imm s = .next post → post.kept = s.kept := by
  intro u h
  unfold execShri at h
  cases h
  simp

theorem execSrai_kept (t : Slot) (rd : BitVec 5) (ra : BitVec 5) (imm : BitVec 12) (s : State) :
    ∀ post, execSrai t rd ra imm s = .next post → post.kept = s.kept := by
  intro u h
  unfold execSrai at h
  cases h
  simp

theorem execMuli_kept (t : Slot) (rd : BitVec 5) (ra : BitVec 5) (imm : BitVec 12) (s : State) :
    ∀ post, execMuli t rd ra imm s = .next post → post.kept = s.kept := by
  intro u h
  unfold execMuli at h
  cases h
  simp

theorem execSlti_kept (t : Slot) (rd : BitVec 5) (ra : BitVec 5) (imm : BitVec 12) (s : State) :
    ∀ post, execSlti t rd ra imm s = .next post → post.kept = s.kept := by
  intro u h
  unfold execSlti at h
  cases h
  simp

theorem execSltui_kept (t : Slot) (rd : BitVec 5) (ra : BitVec 5) (imm : BitVec 12) (s : State) :
    ∀ post, execSltui t rd ra imm s = .next post → post.kept = s.kept := by
  intro u h
  unfold execSltui at h
  cases h
  simp

theorem execMini_kept (t : Slot) (rd : BitVec 5) (ra : BitVec 5) (imm : BitVec 12) (s : State) :
    ∀ post, execMini t rd ra imm s = .next post → post.kept = s.kept := by
  intro u h
  unfold execMini at h
  cases h
  simp

theorem execMaxi_kept (t : Slot) (rd : BitVec 5) (ra : BitVec 5) (imm : BitVec 12) (s : State) :
    ∀ post, execMaxi t rd ra imm s = .next post → post.kept = s.kept := by
  intro u h
  unfold execMaxi at h
  cases h
  simp

theorem execMinui_kept (t : Slot) (rd : BitVec 5) (ra : BitVec 5) (imm : BitVec 12) (s : State) :
    ∀ post, execMinui t rd ra imm s = .next post → post.kept = s.kept := by
  intro u h
  unfold execMinui at h
  cases h
  simp

theorem execMaxui_kept (t : Slot) (rd : BitVec 5) (ra : BitVec 5) (imm : BitVec 12) (s : State) :
    ∀ post, execMaxui t rd ra imm s = .next post → post.kept = s.kept := by
  intro u h
  unfold execMaxui at h
  cases h
  simp

theorem execLui_kept (t : Slot) (rd : BitVec 5) (rsv : BitVec 1) (imm : BitVec 20) (s : State) :
    ∀ post, execLui t rd rsv imm s = .next post → post.kept = s.kept := by
  intro u h
  unfold execLui at h
  cases h
  simp

theorem execHset_kept (t : Slot) (o : HandleOp) (s : State) :
    ∀ post, execHset t o s = .next post → post.kept = s.kept := by
  intro u h
  unfold execHset at h
  cases h
  simp

theorem execHget_kept (t : Slot) (o : HandleOp) (s : State) :
    ∀ post, execHget t o s = .next post → post.kept = s.kept := by
  intro u h
  unfold execHget at h
  cases h
  simp

theorem execHswap_kept (t : Slot) (o : HandleOp) (s : State) :
    ∀ post, execHswap t o s = .next post → post.kept = s.kept := by
  intro u h
  unfold execHswap at h
  cases h
  simp

theorem execHfill_kept (t : Slot) (o : HandleOp) (s : State) :
    ∀ post, execHfill t o s = .next post → post.kept = s.kept := by
  intro u h
  unfold execHfill at h
  cases h
  simp

theorem execHunfill_kept (t : Slot) (o : HandleOp) (s : State) :
    ∀ post, execHunfill t o s = .next post → post.kept = s.kept := by
  intro u h
  unfold execHunfill at h
  cases h
  simp

theorem execHinv_kept (t : Slot) (o : HandleOp) (s : State) :
    ∀ post, execHinv t o s = .next post → post.kept = s.kept := by
  intro u h
  unfold execHinv at h
  cases h
  simp

theorem execFence_kept (t : Slot) (remote : Bool) (mem : Bool) (net : Bool) (scratch : Bool) (rsv : BitVec 22)
    (s : State) :
    ∀ post, execFence t remote mem net scratch rsv s = .next post → post.kept = s.kept := by
  intro u h
  unfold execFence at h
  cases h
  simp

theorem execBar_kept (t : Slot) (bid : BitVec 6) (rsv : BitVec 20) (s : State) :
    ∀ post, execBar t bid rsv s = .next post → post.kept = s.kept := by
  intro u h
  unfold execBar at h
  cases h
  simp

theorem execHalt_kept (t : Slot) (rd : BitVec 5) (ra : BitVec 5) (csr : BitVec 12) (s : State) :
    ∀ post, execHalt t rd ra csr s = .next post → post.kept = s.kept := by
  intro u h
  unfold execHalt at h
  cases h
  simp

theorem execCsrr_kept (t : Slot) (rd : BitVec 5) (ra : BitVec 5) (csr : BitVec 12) (s : State) :
    ∀ post, execCsrr t rd ra csr s = .next post → post.kept = s.kept := by
  intro u h
  unfold execCsrr at h
  cases h
  simp

theorem execCsrw_kept (t : Slot) (rd : BitVec 5) (ra : BitVec 5) (csr : BitVec 12) (s : State) :
    ∀ post, execCsrw t rd ra csr s = .next post → post.kept = s.kept := by
  intro u h
  unfold execCsrw at h
  cases h
  simp

theorem execTrap_kept (t : Slot) (rd : BitVec 5) (ra : BitVec 5) (csr : BitVec 12) (s : State) :
    ∀ post, execTrap t rd ra csr s = .next post → post.kept = s.kept := by
  intro u h
  unfold execTrap at h
  cases h
  simp

theorem execMmb_kept (t : Slot) (o : MmbOp) (s : State) :
    ∀ post, execMmb t o s = .next post → post.kept = s.kept := by
  intro u h
  unfold execMmb at h
  cases h
  simp

theorem execVadd_kept (t : Slot) (o : VecOp) (s : State) :
    ∀ post, execVadd t o s = .next post → post.kept = s.kept := by
  intro u h
  unfold execVadd at h
  cases h
  simp

theorem execVsub_kept (t : Slot) (o : VecOp) (s : State) :
    ∀ post, execVsub t o s = .next post → post.kept = s.kept := by
  intro u h
  unfold execVsub at h
  cases h
  simp

theorem execVmul_kept (t : Slot) (o : VecOp) (s : State) :
    ∀ post, execVmul t o s = .next post → post.kept = s.kept := by
  intro u h
  unfold execVmul at h
  cases h
  simp

theorem execVfma_kept (t : Slot) (o : VecOp) (s : State) :
    ∀ post, execVfma t o s = .next post → post.kept = s.kept := by
  intro u h
  unfold execVfma at h
  cases h
  simp

theorem execVmin_kept (t : Slot) (o : VecOp) (s : State) :
    ∀ post, execVmin t o s = .next post → post.kept = s.kept := by
  intro u h
  unfold execVmin at h
  cases h
  simp

theorem execVmax_kept (t : Slot) (o : VecOp) (s : State) :
    ∀ post, execVmax t o s = .next post → post.kept = s.kept := by
  intro u h
  unfold execVmax at h
  cases h
  simp

theorem execVabs_kept (t : Slot) (o : VecOp) (s : State) :
    ∀ post, execVabs t o s = .next post → post.kept = s.kept := by
  intro u h
  unfold execVabs at h
  cases h
  simp

theorem execVneg_kept (t : Slot) (o : VecOp) (s : State) :
    ∀ post, execVneg t o s = .next post → post.kept = s.kept := by
  intro u h
  unfold execVneg at h
  cases h
  simp

theorem execVcmplt_kept (t : Slot) (o : VecOp) (s : State) :
    ∀ post, execVcmplt t o s = .next post → post.kept = s.kept := by
  intro u h
  unfold execVcmplt at h
  cases h
  simp

theorem execVcmpeq_kept (t : Slot) (o : VecOp) (s : State) :
    ∀ post, execVcmpeq t o s = .next post → post.kept = s.kept := by
  intro u h
  unfold execVcmpeq at h
  cases h
  simp

theorem execVsel_kept (t : Slot) (o : VecOp) (s : State) :
    ∀ post, execVsel t o s = .next post → post.kept = s.kept := by
  intro u h
  unfold execVsel at h
  cases h
  simp

theorem execVbcast_kept (t : Slot) (o : VecOp) (s : State) :
    ∀ post, execVbcast t o s = .next post → post.kept = s.kept := by
  intro u h
  unfold execVbcast at h
  cases h
  simp

theorem execViadd_kept (t : Slot) (o : VecOp) (s : State) :
    ∀ post, execViadd t o s = .next post → post.kept = s.kept := by
  intro u h
  unfold execViadd at h
  cases h
  simp

theorem execVimul_kept (t : Slot) (o : VecOp) (s : State) :
    ∀ post, execVimul t o s = .next post → post.kept = s.kept := by
  intro u h
  unfold execVimul at h
  cases h
  simp

theorem execVshift_kept (t : Slot) (o : VecOp) (s : State) :
    ∀ post, execVshift t o s = .next post → post.kept = s.kept := by
  intro u h
  unfold execVshift at h
  cases h
  simp

theorem execVlogic_kept (t : Slot) (o : VecOp) (s : State) :
    ∀ post, execVlogic t o s = .next post → post.kept = s.kept := by
  intro u h
  unfold execVlogic at h
  cases h
  simp

theorem execVpopc_kept (t : Slot) (o : VecOp) (s : State) :
    ∀ post, execVpopc t o s = .next post → post.kept = s.kept := by
  intro u h
  unfold execVpopc at h
  cases h
  simp

theorem execVcvt_kept (t : Slot) (o : VecOp) (s : State) :
    ∀ post, execVcvt t o s = .next post → post.kept = s.kept := by
  intro u h
  unfold execVcvt at h
  cases h
  simp

theorem execVqb_kept (t : Slot) (o : VecOp) (s : State) :
    ∀ post, execVqb t o s = .next post → post.kept = s.kept := by
  intro u h
  unfold execVqb at h
  cases h
  simp

theorem execVdqb_kept (t : Slot) (o : VecOp) (s : State) :
    ∀ post, execVdqb t o s = .next post → post.kept = s.kept := by
  intro u h
  unfold execVdqb at h
  cases h
  simp

theorem execVexp_kept (t : Slot) (o : VecOp) (s : State) :
    ∀ post, execVexp t o s = .next post → post.kept = s.kept := by
  intro u h
  unfold execVexp at h
  cases h
  simp

theorem execVexp2_kept (t : Slot) (o : VecOp) (s : State) :
    ∀ post, execVexp2 t o s = .next post → post.kept = s.kept := by
  intro u h
  unfold execVexp2 at h
  cases h
  simp

theorem execVlog_kept (t : Slot) (o : VecOp) (s : State) :
    ∀ post, execVlog t o s = .next post → post.kept = s.kept := by
  intro u h
  unfold execVlog at h
  cases h
  simp

theorem execVlog2_kept (t : Slot) (o : VecOp) (s : State) :
    ∀ post, execVlog2 t o s = .next post → post.kept = s.kept := by
  intro u h
  unfold execVlog2 at h
  cases h
  simp

theorem execVrsqrt_kept (t : Slot) (o : VecOp) (s : State) :
    ∀ post, execVrsqrt t o s = .next post → post.kept = s.kept := by
  intro u h
  unfold execVrsqrt at h
  cases h
  simp

theorem execVrecip_kept (t : Slot) (o : VecOp) (s : State) :
    ∀ post, execVrecip t o s = .next post → post.kept = s.kept := by
  intro u h
  unfold execVrecip at h
  cases h
  simp

theorem execVsqrt_kept (t : Slot) (o : VecOp) (s : State) :
    ∀ post, execVsqrt t o s = .next post → post.kept = s.kept := by
  intro u h
  unfold execVsqrt at h
  cases h
  simp

theorem execVsigm_kept (t : Slot) (o : VecOp) (s : State) :
    ∀ post, execVsigm t o s = .next post → post.kept = s.kept := by
  intro u h
  unfold execVsigm at h
  cases h
  simp

theorem execVtanh_kept (t : Slot) (o : VecOp) (s : State) :
    ∀ post, execVtanh t o s = .next post → post.kept = s.kept := by
  intro u h
  unfold execVtanh at h
  cases h
  simp

theorem execVgelu_kept (t : Slot) (o : VecOp) (s : State) :
    ∀ post, execVgelu t o s = .next post → post.kept = s.kept := by
  intro u h
  unfold execVgelu at h
  cases h
  simp

theorem execVsilu_kept (t : Slot) (o : VecOp) (s : State) :
    ∀ post, execVsilu t o s = .next post → post.kept = s.kept := by
  intro u h
  unfold execVsilu at h
  cases h
  simp

theorem execVsoftplus_kept (t : Slot) (o : VecOp) (s : State) :
    ∀ post, execVsoftplus t o s = .next post → post.kept = s.kept := by
  intro u h
  unfold execVsoftplus at h
  cases h
  simp

theorem execVrsum_kept (t : Slot) (o : VecOp) (s : State) :
    ∀ post, execVrsum t o s = .next post → post.kept = s.kept := by
  intro u h
  unfold execVrsum at h
  cases h
  simp

theorem execVrmax_kept (t : Slot) (o : VecOp) (s : State) :
    ∀ post, execVrmax t o s = .next post → post.kept = s.kept := by
  intro u h
  unfold execVrmax at h
  cases h
  simp

theorem execVrmin_kept (t : Slot) (o : VecOp) (s : State) :
    ∀ post, execVrmin t o s = .next post → post.kept = s.kept := by
  intro u h
  unfold execVrmin at h
  cases h
  simp

theorem execVrargmax_kept (t : Slot) (o : VecOp) (s : State) :
    ∀ post, execVrargmax t o s = .next post → post.kept = s.kept := by
  intro u h
  unfold execVrargmax at h
  cases h
  simp

theorem execVrargmin_kept (t : Slot) (o : VecOp) (s : State) :
    ∀ post, execVrargmin t o s = .next post → post.kept = s.kept := by
  intro u h
  unfold execVrargmin at h
  cases h
  simp

theorem execVld_kept (t : Slot) (o : VecOp) (s : State) :
    ∀ post, execVld t o s = .next post → post.kept = s.kept := by
  intro u h
  unfold execVld at h
  cases h
  simp

theorem execVst_kept (t : Slot) (o : VecOp) (s : State) :
    ∀ post, execVst t o s = .next post → post.kept = s.kept := by
  intro u h
  unfold execVst at h
  cases h
  simp

theorem execVperm_kept (t : Slot) (o : VecOp) (s : State) :
    ∀ post, execVperm t o s = .next post → post.kept = s.kept := by
  intro u h
  unfold execVperm at h
  cases h
  simp

@[simp] theorem State.seekAll_kept (s : State) :
    (State.seekAll s).kept = s.kept := by simp [State.seekAll]

end Sys2Proof.Machine
end

