-- ==== Sys2Proof/Laws/Memory.lean ====
section
/-! SUPPORT. Module memory: every operation over its cells keeps the canonical form, and what a read gives after a
write. -/

namespace Sys2Proof.Machine

theorem memory_wf_nil : Memory.wf [] := canon_nil _

/-- A write of bytes keeps the canonical form. -/
theorem cellsWrite_wf (bs : List Byte) (c : List (Nat × Byte)) (a : Nat) (h : Memory.wf c) :
    Memory.wf (cellsWrite c a bs) := by
  induction bs generalizing c a with
  | nil => exact h
  | cons b l ih => exact ih _ _ (put_canon a b h)

/-- Dropping entries keeps the canonical form. -/
theorem filter_wf (p : Nat × Byte → Bool) (c : List (Nat × Byte)) (h : Memory.wf c) : Memory.wf (c.filter p) :=
  ⟨h.1.filter p, fun q hq => h.2 q (List.mem_filter.1 hq).1⟩

/-- A read below or above the bytes written gives what it gave before. -/
theorem look_cellsWrite_outside (bs : List Byte) (c : List (Nat × Byte)) (a x : Nat)
    (h : x < a ∨ a + bs.length ≤ x) : look memDflt (cellsWrite c a bs) x = look memDflt c x := by
  induction bs generalizing c a with
  | nil => rfl
  | cons b l ih =>
    simp only [List.length_cons] at h
    rw [cellsWrite, ih _ _ (by omega), look_put_other _ _ _ (by omega)]

/-- A read of a byte written gives that byte. -/
theorem look_cellsWrite_inside (bs : List Byte) (c : List (Nat × Byte)) (a i : Nat) (h : i < bs.length) :
    look memDflt (cellsWrite c a bs) (a + i) = bs[i] := by
  induction bs generalizing c a i with
  | nil => simp at h
  | cons b l ih =>
    cases i with
    | zero =>
      rw [cellsWrite, look_cellsWrite_outside _ _ _ _ (by omega)]
      simp [look_put_same]
    | succ n =>
      have := ih (put memDflt c a b) (a + 1) n (by simpa using h)
      simpa [cellsWrite, Nat.add_assoc, Nat.add_comm 1] using this

/-- What a store in module memory does to the cells: the bytes, and nothing else. -/
@[simp] theorem State.memWrite_cells (s : State) (a : Nat) (bs : List Byte) :
    (s.memWrite a bs).mem.cells = cellsWrite s.mem.cells a bs := by
  unfold State.memWrite
  generalize List.range (bs.length / 64) = l
  generalize hs : ({ s with mem := { s.mem with cells := cellsWrite s.mem.cells a bs } } : State) = t
  have ht : t.mem.cells = cellsWrite s.mem.cells a bs := by subst hs; rfl
  clear hs
  induction l generalizing t with
  | nil => exact ht
  | cons i l ih =>
    simp only [List.foldl_cons]
    apply ih
    split
    · exact ht
    · exact ht

/-- A byte just stored reads back. -/
theorem State.memByte_memWrite_inside (s : State) (a i : Nat) (bs : List Byte) (h : i < bs.length) :
    (s.memWrite a bs).memByte (a + i) = bs[i] := by
  simp [State.memByte, look_cellsWrite_inside _ _ _ _ h]

/-- Every other byte reads as before. -/
theorem State.memByte_memWrite_outside (s : State) (a x : Nat) (bs : List Byte) (h : x < a ∨ a + bs.length ≤ x) :
    (s.memWrite a bs).memByte x = s.memByte x := by
  simp [State.memByte, look_cellsWrite_outside _ _ _ _ h]

theorem State.memWrite_wf (s : State) (a : Nat) (bs : List Byte) (h : Memory.wf s.mem.cells) :
    Memory.wf (s.memWrite a bs).mem.cells := by
  rw [State.memWrite_cells]
  exact cellsWrite_wf _ _ _ h

theorem State.zeroTiers_wf (s : State) (h : Memory.wf s.mem.cells) : Memory.wf s.zeroTiers.mem.cells :=
  filter_wf _ _ h

theorem State.clearAll_wf (s : State) (kind : Nat) (dip : Bool) : Memory.wf (s.clearAll kind dip).mem.cells :=
  memory_wf_nil

theorem reset_wf : Memory.wf State.reset.mem.cells := memory_wf_nil

end Sys2Proof.Machine
end

