-- ==== Sys2Proof/Laws/Keeps.lean ====
section
/-! SUPPORT. The commands that touch module memory: they too leave the queue as it was, and they keep the canonical form
of memory. `Keeps` says both. -/

namespace Sys2Proof.Machine

/-- The queue is the same, memory is canonical if it was, and the time base stands or starts again at 0. -/
structure Keeps (s t : State) : Prop where
  pending : t.pending = s.pending
  wf : Memory.wf s.mem.cells → Memory.wf t.mem.cells
  clock : t.timeBase = s.timeBase ∨ t.timeBase = 0

theorem Keeps.refl (s : State) : Keeps s s := ⟨rfl, id, .inl rfl⟩

theorem Keeps.trans {s t u : State} (h : Keeps s t) (k : Keeps t u) : Keeps s u :=
  ⟨k.pending.trans h.pending, fun w => k.wf (h.wf w), by
    rcases k.clock with e | e
    · rcases h.clock with f | f
      · exact .inl (e.trans f)
      · exact .inr (e.trans f)
    · exact .inr e⟩

theorem keeps_of_kept {s t : State} (h : t.kept = s.kept) : Keeps s t := by
  have h1 : t.pending = s.pending := congrArg Prod.fst h
  have h2 : t.mem.cells = s.mem.cells := congrArg (fun p => p.2.1) h
  exact ⟨h1, fun w => h2 ▸ w, .inl (congrArg (fun p => p.2.2) h)⟩

/-- A calm operation after one that keeps. -/
theorem Keeps.calm {s t u : State} (h : Keeps s t) (k : u.kept = t.kept) : Keeps s u := h.trans (keeps_of_kept k)

/-- A calm operation before one that keeps. -/
theorem Keeps.after {s t u : State} (h : Keeps t u) (k : t.kept = s.kept) : Keeps s u := (keeps_of_kept k).trans h

theorem keeps_foldl {α : Type} (f : State → α → State) (l : List α) (s : State) (h : ∀ s x, Keeps s (f s x)) :
    Keeps s (l.foldl f s) := by
  induction l generalizing s with
  | nil => exact .refl s
  | cons a l ih => exact (h s a).trans (ih _)

theorem keeps_ite (c : Prop) [Decidable c] {s a b : State} (h : Keeps s a) (k : Keeps s b) :
    Keeps s (if c then a else b) := by split <;> assumption

/-! ### Memory and windows -/

theorem setPoison_keeps (s : State) (l : Nat) (v : Bool) : Keeps s (s.setPoison l v) := ⟨rfl, id, .inl rfl⟩

theorem memWrite_keeps (s : State) (a : Nat) (bs : List Byte) : Keeps s (s.memWrite a bs) := by
  refine ⟨?_, s.memWrite_wf a bs, ?_⟩
  · unfold State.memWrite
    refine Eq.trans (Keeps.pending (keeps_foldl _ _ _ fun s i => ?_)) rfl
    exact keeps_ite _ (setPoison_keeps _ _ _) (.refl _)
  · unfold State.memWrite
    refine Keeps.clock (s := { s with mem := { s.mem with cells := cellsWrite s.mem.cells a bs } })
      (keeps_foldl _ _ _ fun s i => ?_)
    exact keeps_ite _ (setPoison_keeps _ _ _) (.refl _)

theorem writeLines_keeps (s : State) (a : Nat) (bs : List Byte) : Keeps s (s.writeLines a bs) := by
  unfold State.writeLines
  exact (memWrite_keeps _ _ _).after (State.freeBytes_kept _ _)

/-- A read of a line writes memory only with the wrong codeword that the decoder made (R266). -/
theorem readLine_keeps (s : State) (line errs : Nat) : Keeps s (s.readLine line errs).2 := by
  unfold State.readLine
  dsimp only
  split
  · exact keeps_of_kept (by simp)
  · split
    · exact keeps_of_kept (by split <;> simp)
    · split
      · exact keeps_of_kept (by simp)
      · split
        · exact keeps_of_kept (by simp)
        · exact keeps_of_kept (by simp)
        · exact Keeps.calm ((memWrite_keeps _ _ _).after (by simp)) (State.corrected_kept _ _)

theorem readLines_keeps (s : State) (line n errs : Nat) : Keeps s (s.readLines line n errs).2 := by
  induction n generalizing s line errs with
  | zero => exact .refl s
  | succ n ih =>
    unfold State.readLines
    dsimp only
    split <;> exact (readLine_keeps s line errs).trans (ih _ _ _)

theorem landWindow_keeps (s : State) (w : Window) (off : Nat) (bs : List Byte) : Keeps s (s.landWindow w off bs) := by
  unfold State.landWindow
  exact keeps_ite _ (keeps_of_kept (by simp)) (writeLines_keeps _ _ _)

theorem takeWrite_keeps (s : State) (w src off : Nat) (bs : List Byte) : Keeps s (s.takeWrite w src off bs).1 := by
  simp only [State.takeWrite]
  split
  · exact landWindow_keeps _ _ _ _
  · exact keeps_of_kept (by simp)

theorem recvData_keeps (s : State) (p : Packet) : Keeps s (s.recvData p) := by
  unfold State.recvData
  dsimp only
  generalize (if p.mcast && p.first && decide ((p.seq - (s.rflow p.src p.flow).next).toNat < 32768) then
    { s.rflow p.src p.flow with next := p.seq, held := [] } else s.rflow p.src p.flow) = f
  refine keeps_ite _ (keeps_of_kept (by simp)) (keeps_ite _ (.refl _) (keeps_ite _ (keeps_of_kept (by simp)) ?_))
  have h : Keeps s (if p.ptype = .wwrite then s.takeWrite (leAt p.inner 0 1) p.src.toNat (leAt p.inner 4 4 * 64) p.payload
      else (s, 0)).1 := by
    split
    · exact takeWrite_keeps _ _ _ _ _
    · exact .refl _
  refine h.calm ?_
  split <;> simp

theorem deliver_keeps (s : State) (p : Packet) : Keeps s (s.deliver p) := by
  unfold State.deliver
  split
  case h_6 => exact recvData_keeps _ _
  all_goals exact keeps_of_kept (by simp)

theorem deliverSealed_keeps (s : State) (p : Packet) : Keeps s (s.deliverSealed p) := by
  unfold State.deliverSealed
  split
  · exact deliver_keeps _ _
  · exact .refl _

theorem mcastIn_keeps (s : State) (port : Nat) (p : Packet) : Keeps s (s.mcastIn port p) := by
  unfold State.mcastIn
  dsimp only
  have h := keeps_ite (p.targets.getLsbD (s.myDistance (decide (p.dst.toNat = 0xF001)) p.src.toNat) = true)
    (deliverSealed_keeps s p) (.refl s)
  exact keeps_ite _ (h.calm (by simp)) h

theorem packetIn_keeps (s : State) (port : Nat) (p : Packet) : Keeps s (s.packetIn port p) := by
  unfold State.packetIn
  dsimp only
  have h : Keeps s (s.setPort port { s.port port with failed := 0 }) := keeps_of_kept (by simp)
  exact keeps_ite _ (h.trans (mcastIn_keeps _ _ _)) (keeps_ite _ (h.trans (deliverSealed_keeps _ _)) (h.calm (by simp)))

/-! ### Boot, resets, thaw -/

theorem clearAll_keeps (s : State) (kind : Nat) (dip : Bool) : Keeps s (s.clearAll kind dip) :=
  ⟨rfl, fun _ => s.clearAll_wf kind dip, .inr rfl⟩

theorem startWith_keeps (s : State) (kind cause : Nat) (dip : Bool) : Keeps s (s.startWith kind cause dip) := by
  unfold State.startWith
  dsimp only
  exact keeps_ite _ (.refl _) ((clearAll_keeps s kind dip).calm (by simp))

theorem startReset_keeps (s : State) (kind cause : Nat) : Keeps s (s.startReset kind cause) :=
  startWith_keeps s kind cause _

theorem railsOff_keeps (s : State) (phase : PowerPhase) : Keeps s (s.railsOff phase) := by
  unfold State.railsOff
  exact (clearAll_keeps s 1 false).calm rfl

theorem railsUp_keeps (s : State) (cause : Nat) : Keeps s (s.railsUp cause) := by
  unfold State.railsUp
  exact (startWith_keeps _ _ _ _).after rfl

theorem thawWrites_keeps (s : State) : Keeps s s.thawWrites := by
  unfold State.thawWrites
  refine Keeps.after (keeps_foldl _ _ _ fun t w => ?_) rfl
  exact keeps_ite _ (keeps_of_kept rfl) ((memWrite_keeps _ _ _).after rfl)

/-- The body of `thawTiles` over any lists of slots and strands. -/
theorem thawLists_keeps (s : State) (l m : List Nat) (f : Tile → Nat → State → Tile) (g : Net → Net) (k : SelfTest → SelfTest) :
    Keeps s (
      let s := l.foldl (fun s t => s.abandonSlice t) s
      let s := s.thawWrites
      let s := { s with net := g s.net, selftest := k s.selftest }
      let s := m.foldl (fun s st => s.onStrand st Strand.thawed) s
      l.foldl (fun s t => s.setTile t (f (s.tile t) t s)) s) := by
  dsimp only
  refine Keeps.calm (t := (l.foldl (fun s t => s.abandonSlice t) s).thawWrites)
    ((thawWrites_keeps _).after (foldl_kept _ _ _ fun _ _ => by simp)) ?_
  rw [foldl_kept _ _ _ fun s x => by simp, foldl_kept _ _ _ fun s x => by simp]
  rfl

theorem thawTiles_keeps (s : State) : Keeps s s.thawTiles :=
  thawLists_keeps s allSlots (List.range 48)
    (fun x t s => { Tile.reset with
      pad := { Pad.reset with bankOk := BitVec.ofNat 24 (s.repairWord t).toNat }
      enabled := s.slotEnabled t && !s.slotFrost t
      safe := x.safe
      trimAsked := x.trimAsked
      ownPace := x.ownPace })
    (fun n => { Net.reset with spillPeak := n.spillPeak }) (fun x => { x with saveSlots := [] })

theorem kept_thawing (s : State) (b : BootPhase) (h : HostLink) (r : Bool) :
    State.kept { s with boot := b, host := h, mem := { s.mem with selfRefresh := r } } = s.kept := rfl

theorem beginThaw_keeps (s : State) (cause : Nat) : Keeps s (s.beginThaw cause) := by
  unfold State.beginThaw
  dsimp only
  refine Keeps.calm (Keeps.after (thawTiles_keeps _) ?_) (by rw [State.thawRetired_kept, State.thawWork_kept])
  rw [State.thawWindows_kept, State.set_kept, State.closeP_kept, State.deviceEvent_kept, State.set_kept, State.set_kept]
  refine (kept_thawing _ _ _ _).trans ?_
  rw [State.onRecorder_kept, State.endInterval_kept]

theorem startThaw_keeps (s : State) (cause : Nat) : Keeps s (s.startThaw cause) := by
  unfold State.startThaw
  split
  · exact beginThaw_keeps _ _
  · exact keeps_of_kept rfl
  · exact keeps_of_kept (by simp)

theorem bootFinish_keeps (s : State) (b : BootIn) (kind : Nat) : Keeps s (s.bootFinish b kind) := by
  unfold State.bootFinish
  dsimp only
  refine Keeps.trans (t := { s with mem := { Mem.reset with keyCount := s.mem.keyCount + 1, allRefreshed := s.timeBase } })
    ⟨rfl, fun _ => memory_wf_nil, .inl rfl⟩ (keeps_of_kept ?_)
  generalize ({ s with mem := { Mem.reset with keyCount := s.mem.keyCount + 1, allRefreshed := s.timeBase } } : State) = t
  rw [State.dirty_kept]
  refine (State.becomeReady_kept _ _ _ fun a => ?_).trans ?_
  · split <;> simp
  · simp

theorem bootUp_keeps (s : State) (b : BootIn) (kind : Nat) : Keeps s (s.bootUp b kind) := by
  unfold State.bootUp
  dsimp only
  refine keeps_ite _ (keeps_of_kept (by simp)) (keeps_ite _ (keeps_of_kept (by simp))
    (keeps_ite _ (keeps_of_kept (by simp)) (keeps_ite _ (keeps_of_kept (by simp)) ?_)))
  exact (bootFinish_keeps _ _ _).after (by simp)

theorem leavePins_keeps (s : State) : Keeps s s.leavePins := by
  unfold State.leavePins
  exact keeps_ite _ ((railsOff_keeps _ _).trans (railsUp_keeps _ _)) (.refl _)

theorem kept_vault (s : State) (v : Vault) : State.kept { s with vault := v } = s.kept := rfl

theorem drivePins_keeps (s : State) (i : Nat) : Keeps s (s.drivePins i) := by
  unfold State.drivePins
  dsimp only
  refine keeps_ite _ (.refl _) (keeps_ite _ ((leavePins_keeps s).calm ?_) ((leavePins_keeps s).calm ?_))
  · exact (kept_vault _ _).trans (by simp)
  · simp

theorem testPort_keeps (s : State) (f : State → State) (h : ∀ s, Keeps s (f s)) : Keeps s (s.testPort f) := by
  unfold State.testPort
  exact keeps_ite _ (h s) (.refl _)

/-! ### Reads of memory, host writes, tuning, release -/

theorem readFailed_keeps (s : State) (r : Reader) : Keeps s (s.readFailed r) := by
  unfold State.readFailed
  split
  case h_6 => exact startThaw_keeps _ _
  case h_7 | h_8 => exact .refl s
  case h_1 =>
    split
    · split
      · exact keeps_of_kept (State.vldFault_kept _ _ _ _)
      · exact .refl s
    · exact .refl s
  case h_2 => exact keeps_of_kept (State.resumeStrand_kept _ _)
  case h_3 => exact keeps_ite _ (keeps_of_kept (State.segmentBad_kept _ _ _)) (.refl s)
  case h_4 => exact keeps_ite _ (keeps_of_kept (State.loseCheckpoint_kept _ _)) (.refl s)
  case h_5 => exact keeps_of_kept (State.endJob_kept _ _ _)

theorem serveRead_keeps (s : State) (line errs : Nat) (r : Reader) : Keeps s (s.serveRead line errs r) := by
  unfold State.serveRead
  refine keeps_ite _ ?_ (keeps_of_kept (by simp))
  dsimp only
  split
  · exact (readLine_keeps s line errs).calm (State.emit_kept _ _)
  · exact (readLine_keeps s line errs).trans (readFailed_keeps _ _)

theorem vldReturn_keeps (s : State) (t : Nat) (j : VecJob) (rest : List VecJob) (a errs : Nat) :
    Keeps s (s.vldReturn t j rest a errs) := by
  unfold State.vldReturn
  dsimp only
  split
  · exact (readLines_keeps _ _ _ _).calm (State.onTile_kept _ _ _)
  · exact (readLines_keeps _ _ _ _).calm (State.vldFault_kept _ _ _ _)

theorem takeSegment_keeps (s : State) (j : JobId) (d : Desc) (h : JobHold) (wire : List Byte) (error : Bool) :
    Keeps s (s.takeSegment j d h wire error) := by
  unfold State.takeSegment
  split
  · exact keeps_of_kept (by simp)
  · exact (writeLines_keeps _ _ _).calm (State.onHold_kept _ _ _)

theorem ackWrite_keeps (s : State) (i : Nat) (w : MemWrite) : Keeps s (s.ackWrite i w) := by
  unfold State.ackWrite
  dsimp only
  refine Keeps.calm (t := (({ s with mem := { s.mem with writes := s.mem.writes.eraseIdx i } } : State).touchLine
    w.line).memWrite (w.line * 64) w.data) ((memWrite_keeps _ _ _).after ?_) ?_
  · exact (State.touchLine_kept _ _).trans rfl
  · split
    · rw [State.onTile_kept]
    · rfl

theorem writeRaw_keeps (s : State) (j : JobId) (d p : List Byte) : Keeps s (s.writeRaw j d p) := by
  unfold State.writeRaw
  dsimp only
  exact keeps_ite _ (keeps_of_kept (by simp)) (keeps_ite _ (keeps_of_kept (by simp)) (keeps_ite _ (keeps_of_kept (by simp))
    ((landWindow_keeps _ _ _ _).calm (State.endWith_kept _ _ _))))

theorem beginStep_keeps (s : State) (j : JobId) (n : Nat) : Keeps s (s.beginStep j n) := by
  unfold State.beginStep
  dsimp only
  have hk : (if (s.tune n).window.isNone then s.tuneWindow n else s).kept = s.kept := by simp
  generalize (if (s.tune n).window.isNone then s.tuneWindow n else s) = u at hk ⊢
  exact Keeps.calm ((writeLines_keeps u _ _).after hk) (State.setTune_kept _ _ _)

theorem tuneStep_keeps (s : State) (j : JobId) (d : Desc) (h : JobHold) : Keeps s (s.tuneStep j d h) := by
  unfold State.tuneStep
  exact keeps_ite _ (keeps_of_kept (by simp)) (keeps_ite _ (.refl _) (keeps_ite _ (keeps_of_kept (by simp))
    (beginStep_keeps _ _ _)))

theorem zeroTiers_keeps (s : State) : Keeps s s.zeroTiers := ⟨rfl, s.zeroTiers_wf, .inl rfl⟩

theorem kept_noShards (s : State) (a : List Shard) (b : List Batch) (h : HostLink) :
    State.kept { s with shards := a, batches := b, host := h } = s.kept := rfl

theorem release_keeps (s : State) : Keeps s s.release := by
  unfold State.release
  dsimp only
  refine Keeps.calm ((zeroTiers_keeps _).after ?_) (by
    rw [State.endAllSessions_kept, State.dirty_kept, State.set_kept, State.setOctet_kept])
  rw [State.wipeCores_kept, State.wipeTiles_kept]
  refine (kept_noShards _ _ _ _).trans ?_
  rw [State.setKept_kept, State.dropTunes_kept, State.dropPlans_kept, State.dropKeys_kept]

/-! ### Requests and input objects -/

theorem withInput_keeps (s : State) (j : JobId) (d : Desc) (inp : Sealed) (act : List Byte → State → State)
    (h : ∀ p s, Keeps s (act p s)) : Keeps s (s.withInput j d inp act) := by
  unfold State.withInput State.withObject
  split
  · exact keeps_of_kept (by simp)
  · unfold State.withKeys
    split
    · exact keeps_of_kept (by split <;> simp)
    · rename_i u tags hk
      have h2 := State.pinKeys_kept _ _ _ hk
      simp only at h2
      refine Keeps.after (t := u.onDesc j fun e => { e with hold := some (opHold (descOp d.bytes) tags) }) ?_ (by simp [h2])
      dsimp only
      split
      · exact keeps_of_kept (by simp)
      · exact h _ _

theorem inSession_keeps (s : State) (r : BjReq) (op : Nat) (x : Session) (act : State → State × BjAns)
    (h : ∀ s, Keeps s (act s).1) : Keeps s (s.inSession r op x act) := by
  unfold State.inSession
  dsimp only
  refine keeps_ite _ ((h s).calm (by simp)) (keeps_ite _ ?_ (keeps_of_kept (by simp)))
  split
  · exact keeps_of_kept (by simp)
  · exact .refl _

theorem handle_keeps (s : State) (r : BjReq) (op : Nat) (act : Option Level → State → State × BjAns)
    (h : ∀ l s, Keeps s (act l s).1) : Keeps s (s.handle r op act) := by
  unfold State.handle
  dsimp only
  refine keeps_ite _ (.refl _) (keeps_ite _ (keeps_of_kept (by simp)) (keeps_ite _
    (keeps_ite _ (keeps_of_kept (by simp)) ((h _ s).calm (State.emit_kept _ _))) ?_))
  split
  · exact keeps_of_kept (by simp)
  · exact keeps_ite _ (keeps_of_kept (by simp)) (keeps_ite _ (keeps_of_kept (by simp)) (inSession_keeps _ _ _ _ _ (h _)))

theorem serveWrite_keeps (s : State) (r : BjReq) (own : List Byte → State → State × BjAns)
    (h : ∀ v s, Keeps s (own v s).1) : Keeps s (s.serveWrite r own) := by
  unfold State.serveWrite
  refine handle_keeps _ _ _ _ fun l s => ?_
  dsimp only
  split
  · exact .refl _
  · split
    · exact .refl _
    · split
      · exact keeps_of_kept (by simp)
      · split
        · exact keeps_of_kept (by simp)
        · split
          · exact .refl _
          · refine Keeps.calm (h (s.valueOf r) s) ?_
            split <;> simp

theorem rowWrite_keeps (s : State) (k : Nat) (r : BjReq) (own : List Byte → State → State × BjAns)
    (h : ∀ v s, Keeps s (own v s).1) : Keeps s (s.rowWrite k r own) := by
  unfold State.rowWrite
  exact keeps_ite _ (serveWrite_keeps _ _ _ h) (.refl _)

theorem recoverImage_keeps (s : State) (r : BjReq) (k : FwCheck) : Keeps s (s.recoverImage r k) := by
  unfold State.recoverImage
  dsimp only
  refine keeps_ite _ (keeps_of_kept (by simp)) (keeps_ite _ ?_ (keeps_of_kept (by simp)))
  exact (startWith_keeps _ _ _ _).after (by simp)

/-! ### The commands -/

/-- What a command answers, where it goes on, keeps. -/
theorem keeps_next {s t u : State} (h : Keeps s t)
    (e : (Host.Outcome.next t : Host.Outcome State Fault Refusal) = .next u) : Keeps s u := by
  have e := Host.Outcome.next.inj e
  subst e
  exact h

theorem execPowerUp_keeps (mv ms : Nat) (badRail : Bool) (s : State) :
    ∀ post, execPowerUp mv ms badRail s = .next post → Keeps s post := by
  intro u h
  simp only [execPowerUp] at h
  split at h
  · split at h
    · exact keeps_next (keeps_of_kept (by simp)) h
    · split at h
      · exact keeps_next (keeps_of_kept (by simp)) h
      · exact keeps_next ((railsUp_keeps _ _).after (by simp)) h
  · exact keeps_next (.refl s) h

theorem execRailShort_keeps (rail : Rail) (s : State) :
    ∀ post, execRailShort rail s = .next post → Keeps s post := by
  intro u h
  simp only [execRailShort] at h
  split at h
  · split at h
    · exact keeps_next (.refl s) h
    · exact keeps_next ((railsOff_keeps _ _).after (by simp)) h
  · split at h
    · exact keeps_next (.refl s) h
    · have k : Keeps s ((s.noteShort rail).railsOff .standby) := (railsOff_keeps _ _).after (by simp)
      exact keeps_next (keeps_ite _ (k.calm (by simp)) (k.calm (by simp))) h

theorem execRailRetry_keeps (ok : Bool) (elapsedMs : Nat) (s : State) :
    ∀ post, execRailRetry ok elapsedMs s = .next post → Keeps s post := by
  intro u h
  simp only [execRailRetry] at h
  split at h
  · exact keeps_next (.refl s) h
  · split at h
    · exact keeps_next (keeps_ite _ ((railsUp_keeps _ _).after (by simp)) (keeps_of_kept (by simp))) h
    · split at h
      · split at h
        · exact keeps_next ((railsUp_keeps _ _).after (by simp)) h
        · exact keeps_next (keeps_of_kept (by simp)) h
      · exact keeps_next (.refl s) h

theorem execInputLost_keeps (mv : Nat) (s : State) : ∀ post, execInputLost mv s = .next post → Keeps s post := by
  intro u h
  simp only [execInputLost] at h
  split at h
  · exact keeps_next (.refl s) h
  · split at h
    · exact keeps_next (keeps_of_kept (by simp)) h
    · exact keeps_next (Keeps.calm ((railsOff_keeps _ .dark).after (by simp)) (State.setInput_kept _ _)) h

theorem execThermalShutdown_keeps (tj : Int) (s : State) :
    ∀ post, execThermalShutdown tj s = .next post → Keeps s post := by
  intro u h
  simp only [execThermalShutdown] at h
  split at h
  · exact keeps_next (.refl s) h
  · exact keeps_next (Keeps.calm ((railsOff_keeps _ .standby).after (by simp))
      ((State.set_kept _ _ _).trans (State.onPower_kept _ _))) h

theorem execPwrEnLow_keeps (ms : Nat) (s : State) : ∀ post, execPwrEnLow ms s = .next post → Keeps s post := by
  intro u h
  simp only [execPwrEnLow] at h
  split at h
  · exact keeps_next (.refl s) h
  · refine keeps_next ?_ h
    exact keeps_ite _ ((railsOff_keeps _ _).after rfl) (keeps_of_kept rfl)

theorem execPwrEnRise_keeps (tj : Int) (s : State) : ∀ post, execPwrEnRise tj s = .next post → Keeps s post := by
  intro u h
  simp only [execPwrEnRise] at h
  split at h
  · refine keeps_next ?_ h
    exact (railsUp_keeps _ _).after rfl
  · refine keeps_next ?_ h
    exact keeps_of_kept rfl

theorem execVsocLow_keeps (mv ns : Nat) (s : State) : ∀ post, execVsocLow mv ns s = .next post → Keeps s post := by
  intro u h
  unfold execVsocLow at h
  split at h
  · exact keeps_next (startReset_keeps _ _ _) h
  · exact keeps_next (.refl s) h

theorem execBootWatchdog_keeps (ms : Nat) (s : State) : ∀ post, execBootWatchdog ms s = .next post → Keeps s post := by
  intro u h
  unfold execBootWatchdog at h
  split at h
  · exact keeps_next (startReset_keeps _ _ _) h
  · exact keeps_next (.refl s) h

theorem execServiceCoreWatchdog_keeps (ms : Nat) (s : State) :
    ∀ post, execServiceCoreWatchdog ms s = .next post → Keeps s post := by
  intro u h
  unfold execServiceCoreWatchdog at h
  split at h
  · exact keeps_next (startThaw_keeps _ _) h
  · exact keeps_next (.refl s) h

theorem execFunctionLevelReset_keeps (s : State) : ∀ post, execFunctionLevelReset s = .next post → Keeps s post :=
  fun _ h => keeps_next (startThaw_keeps _ _) h

theorem execHotReset_keeps (s : State) : ∀ post, execHotReset s = .next post → Keeps s post :=
  fun _ h => keeps_next (startReset_keeps _ _ _) h

theorem execFundamentalReset_keeps (s : State) : ∀ post, execFundamentalReset s = .next post → Keeps s post := by
  intro u h
  unfold execFundamentalReset at h
  split at h
  · exact keeps_next (.refl s) h
  · exact keeps_next (startReset_keeps _ _ _) h

theorem execDipReset_keeps (row : Fin 24) (mv ns : Nat) (s : State) :
    ∀ post, execDipReset row mv ns s = .next post → Keeps s post := by
  intro u h
  simp only [execDipReset] at h
  split at h
  · exact keeps_next (.refl s) h
  · exact keeps_next ((startReset_keeps _ _ _).after (by simp)) h

theorem execColdStart_keeps (b : BootIn) (s : State) : ∀ post, execColdStart b s = .next post → Keeps s post := by
  intro u h
  unfold execColdStart at h
  split at h
  · exact keeps_next ((bootUp_keeps _ _ _).calm ((State.retriesFree_kept _).trans (State.reportShort_kept _))) h
  · exact keeps_next (.refl s) h

theorem execModuleReset_keeps (b : BootIn) (s : State) : ∀ post, execModuleReset b s = .next post → Keeps s post := by
  intro u h
  unfold execModuleReset at h
  split at h
  · exact keeps_next ((bootUp_keeps _ _ _).calm ((State.retriesFree_kept _).trans (State.reportShort_kept _))) h
  · exact keeps_next (.refl s) h

theorem execThaw_keeps (digestOk : Bool) (readyMs : Nat) (s : State) :
    ∀ post, execThaw digestOk readyMs s = .next post → Keeps s post := by
  intro u h
  unfold execThaw at h
  split at h
  · exact keeps_next (.refl s) h
  · split at h
    · exact keeps_next (keeps_of_kept (by simp)) h
    · exact keeps_next (startReset_keeps _ _ _) h

theorem execMemRequest_keeps (q : MemReq) (s : State) : ∀ post, execMemRequest q s = .next post → Keeps s post := by
  intro u h
  unfold execMemRequest at h
  split at h
  · exact keeps_next (.refl s) h
  · split at h
    · exact keeps_next (keeps_of_kept (by simp)) h
    · exact keeps_next (serveRead_keeps _ _ _ _) h

theorem execMemWriteAck_keeps (i : Nat) (s : State) : ∀ post, execMemWriteAck i s = .next post → Keeps s post := by
  intro u h
  unfold execMemWriteAck at h
  split at h
  · exact keeps_next (ackWrite_keeps _ _ _) h
  · exact keeps_next (.refl s) h

theorem execWindowWrite_keeps (c : Chan) (i : BitVec 16) (inp : Sealed) (s : State) :
    ∀ post, execWindowWrite c i inp s = .next post → Keeps s post := by
  intro u h
  simp only [execWindowWrite] at h
  split at h
  · exact keeps_next (.refl s) h
  · split at h
    · exact keeps_next (keeps_of_kept (by simp)) h
    · exact keeps_next (withInput_keeps _ _ _ _ _ fun p s => writeRaw_keeps s _ _ p) h

theorem execTuneStep_keeps (c : Chan) (i : BitVec 16) (s : State) :
    ∀ post, execTuneStep c i s = .next post → Keeps s post := by
  intro u h
  simp only [execTuneStep] at h
  split at h
  · exact keeps_next (.refl s) h
  · split at h
    · exact keeps_next (.refl s) h
    · exact keeps_next (tuneStep_keeps _ _ _ _) h

theorem execResetRequestThaw_keeps (r : BjReq) (s : State) :
    ∀ post, execResetRequestThaw r s = .next post → Keeps s post := by
  intro u h
  unfold execResetRequestThaw at h
  split at h
  · exact keeps_next (.refl s) h
  · exact keeps_next (rowWrite_keeps _ _ _ _ fun _ s => startThaw_keeps s 11) h

theorem execResetRequestModule_keeps (r : BjReq) (s : State) :
    ∀ post, execResetRequestModule r s = .next post → Keeps s post := by
  intro u h
  unfold execResetRequestModule at h
  split at h
  · exact keeps_next (.refl s) h
  · exact keeps_next (rowWrite_keeps _ _ _ _ fun _ s => startReset_keeps s 2 9) h

theorem execFabricPacketArrive_keeps (port : Port) (p : Packet) (tag : BitVec 128) (s : State) :
    ∀ post, execFabricPacketArrive port p tag s = .next post → Keeps s post := by
  intro u h
  unfold execFabricPacketArrive at h
  split at h
  · exact keeps_next (packetIn_keeps _ _ _) h
  · exact keeps_next (.refl s) h

theorem execWindowWriteLand_keeps (w : Fin 256) (src : BitVec 16) (offset : Nat) (data : List Byte) (s : State) :
    ∀ post, execWindowWriteLand w src offset data s = .next post → Keeps s post :=
  fun _ h => keeps_next (takeWrite_keeps _ _ _ _ _) h

theorem execFirmwareInstall_keeps (r : BjReq) (chk : FwCheck) (s : State) :
    ∀ post, execFirmwareInstall r chk s = .next post → Keeps s post := by
  intro u h
  unfold execFirmwareInstall at h
  split at h
  · exact keeps_next (.refl s) h
  · split at h
    · exact keeps_next (keeps_ite _ (recoverImage_keeps _ _ _) (.refl s)) h
    · exact keeps_next (keeps_of_kept (State.rowWrite_kept _ _ _ _ fun b s => State.installImage_kept s b chk)) h

theorem execOwnerRelease_keeps (r : BjReq) (sigOk : Bool) (s : State) :
    ∀ post, execOwnerRelease r sigOk s = .next post → Keeps s post := by
  intro u h
  unfold execOwnerRelease at h
  refine keeps_next ?_ h
  refine rowWrite_keeps _ _ _ _ fun _ s => ?_
  have h2 := release_keeps s
  generalize s.release = t at h2 ⊢
  split
  · exact Keeps.refl s
  · split
    · exact Keeps.refl s
    · exact h2

theorem samplePins_keeps (s : State) : Keeps s s.samplePins := by
  unfold State.samplePins
  exact (leavePins_keeps s).calm ((kept_vault _ _).trans ((State.setTest_kept _ _).trans (State.draw_kept _)))

theorem scanChains_keeps (s : State) : Keeps s s.scanChains := by
  unfold State.scanChains
  exact keeps_ite _ ((leavePins_keeps s).calm (State.setTest_kept _ _))
    ((leavePins_keeps s).calm ((State.raise_kept _ _ _).trans (State.setTest_kept _ _)))

/-- Every instruction of the test port leaves the queue and keeps memory canonical (R315). -/
theorem shiftIr_keeps (s : State) (code : BitVec 8) : Keeps s (s.shiftIr code) := by
  unfold State.shiftIr
  exact keeps_ite _ (drivePins_keeps s _) (keeps_ite _
    ((leavePins_keeps s).calm ((State.emit_kept _ _).trans (State.setTest_kept _ _)))
    (keeps_ite _ (samplePins_keeps s) (keeps_ite _ (scanChains_keeps s) ((leavePins_keeps s).calm (State.setTest_kept _ _)))))

theorem execExtest_keeps (s : State) : ∀ post, execExtest s = .next post → Keeps s post :=
  fun _ h => keeps_next (testPort_keeps _ _ fun s => shiftIr_keeps s _) h

theorem execClamp_keeps (s : State) : ∀ post, execClamp s = .next post → Keeps s post :=
  fun _ h => keeps_next (testPort_keeps _ _ fun s => shiftIr_keeps s _) h

theorem execHighz_keeps (s : State) : ∀ post, execHighz s = .next post → Keeps s post :=
  fun _ h => keeps_next (testPort_keeps _ _ fun s => shiftIr_keeps s _) h

theorem execIdcode_keeps (s : State) : ∀ post, execIdcode s = .next post → Keeps s post :=
  fun _ h => keeps_next (testPort_keeps _ _ fun s => shiftIr_keeps s _) h

theorem execSamplePreload_keeps (s : State) : ∀ post, execSamplePreload s = .next post → Keeps s post :=
  fun _ h => keeps_next (testPort_keeps _ _ fun s => shiftIr_keeps s _) h

theorem execInscan_keeps (s : State) : ∀ post, execInscan s = .next post → Keeps s post :=
  fun _ h => keeps_next (testPort_keeps _ _ fun s => shiftIr_keeps s _) h

theorem execBypass_keeps (s : State) : ∀ post, execBypass s = .next post → Keeps s post :=
  fun _ h => keeps_next (testPort_keeps _ _ fun s => shiftIr_keeps s _) h

theorem execMemReadReturn_keeps (t : Slot) (errs : Nat) (s : State) :
    ∀ post, execMemReadReturn t errs s = .next post → Keeps s post := by
  intro u h
  unfold execMemReadReturn at h
  split at h
  · split at h
    · exact keeps_next (vldReturn_keeps _ _ _ _ _ _) h
    · exact keeps_next (.refl s) h
  · exact keeps_next (.refl s) h

theorem State.kept_scrub (s : State) (n : Nat) : State.kept { s with mem := { s.mem with scrub := n } } = s.kept := rfl

theorem execPatrolScrub_keeps (errs : Nat) (s : State) : ∀ post, execPatrolScrub errs s = .next post → Keeps s post := by
  intro u h
  simp only [execPatrolScrub] at h
  split at h
  · exact keeps_next (.refl s) h
  · have h := Host.Outcome.next.inj h
    subst h
    exact (readLine_keeps _ _ _).after (State.kept_scrub s _)

theorem execIngestSegment_keeps (c : Chan) (i : BitVec 16) (seg : Nat) (body : List Byte) (tag : BitVec 128) (error : Bool)
    (s : State) : ∀ post, execIngestSegment c i seg body tag error s = .next post → Keeps s post := by
  intro u h
  simp only [execIngestSegment] at h
  split at h
  · exact keeps_next (.refl s) h
  · split at h
    · exact keeps_next (.refl s) h
    · split at h
      · exact keeps_next (takeSegment_keeps _ _ _ _ _ _) h
      · exact keeps_next (.refl s) h

end Sys2Proof.Machine
end

