-- ==== Sys2Proof/Laws/Requests.lean ====
section
/-! SUPPORT. How a request of a session is answered, said once for every row that is one. -/

namespace Sys2Proof.Machine

/-- A fresh request of a session whose TAG verifies is answered by what the operation makes of it, and the answer is kept. -/
theorem State.handle_fresh {s : State} {r : BjReq} {x : Session} (op : Nat) (act : Option Level → State → State × BjAns)
    (h1 : s.serves = true) (h2 : s.reached r = true) (h3 : s.dropsFrom r = false) (h4 : r.console = false)
    (h5 : r.session ≠ 0) (h6 : s.session r.session = some x) (h7 : r.tagOk = true) (h8 : r.wellFormed = true)
    (h9 : ∀ q, x.lastSeq = some q → q < r.seq) :
    s.handle r op act =
      (let o := replyOf r op r.session (some x.kid) (act (some x.level) s).2
       ((act (some x.level) s).1.keepReply x.num r.seq o).emit o) := by
  unfold State.handle State.inSession
  cases hq : x.lastSeq with
  | none => simp [h1, h2, h3, h4, h5, h6, h7, h8, hq]
  | some q => simp [h1, h2, h3, h4, h5, h6, h7, h8, hq, h9 q hq]

/-- A write that passes the checks of its entry and of its value takes the effect of its row. -/
theorem State.rowWrite_passes {s : State} {r : BjReq} {x : Session} {k : Nat} (own : List Byte → State → State × BjAns)
    (h1 : s.serves = true) (h2 : s.reached r = true) (h3 : s.dropsFrom r = false) (h4 : r.console = false)
    (h5 : r.session ≠ 0) (h6 : s.session r.session = some x) (h7 : r.tagOk = true) (h8 : r.wellFormed = true)
    (h9 : ∀ q, x.lastSeq = some q → q < r.seq) (hk : r.key = k) (hh : headFails r (some x.level) = none)
    (he : r.ends = false) (hi : s.imageStop r = false) (hv : s.valueFails r r.payload = none) :
    s.rowWrite k r own =
      (let o := replyOf r Op.write r.session (some x.kid) (own r.payload s).2
       ((own r.payload s).1.keepReply x.num r.seq o).emit o) := by
  unfold State.rowWrite State.serveWrite
  rw [if_pos hk, State.handle_fresh _ _ h1 h2 h3 h4 h5 h6 h7 h8 h9]
  simp [hh, he, hi, hv, State.valueOf, BjReq.writeOp]

end Sys2Proof.Machine
end

