-- ==== Sys2Proof/Laws/Sealed.lean ====
section
/-! SUPPORT. What sealing and opening do to each other (R301, R304, R306), what a fault-free march reads and what its
signature keeps (R502). -/

namespace Sys2Proof.Machine

@[simp] theorem leBytes_length (n v : Nat) : (leBytes n v).length = n := by
  induction n generalizing v with
  | zero => rfl
  | succ n ih => simp [leBytes, ih]

@[simp] theorem gcmXor_length (alg : Nat) (key nonce l : List Byte) : (gcmXor alg key nonce l).length = l.length := by
  simp [gcmXor]

/-- The key stream taken twice is gone. -/
theorem gcmXor_gcmXor (alg : Nat) (key nonce l : List Byte) :
    gcmXor alg key nonce (gcmXor alg key nonce l) = l := by
  apply List.ext_getElem
  · simp
  · intro i h1 h2
    simp [gcmXor]

@[simp] theorem gcmTag_length (alg : Nat) (key nonce aad c : List Byte) : (gcmTag alg key nonce aad c).length = 16 := by
  simp [gcmTag]

/-- Ciphertext as long as the plaintext, and 16 bytes of tag. -/
@[simp] theorem gcmSeal_length (alg : Nat) (key nonce aad p : List Byte) :
    (gcmSeal alg key nonce aad p).length = p.length + 16 := by simp [gcmSeal]

/-- What was sealed opens under the same key, nonce and associated data. -/
theorem gcmOpen_gcmSeal (alg : Nat) (key nonce aad p : List Byte) :
    gcmOpen alg key nonce aad (gcmSeal alg key nonce aad p) = some p := by
  have h : p.length + 16 - 16 = (gcmXor alg key nonce p).length := by simp
  unfold gcmOpen
  simp only [gcmSeal_length, h]
  simp only [gcmSeal, List.drop_left, List.take_left]
  simp [gcmXor_gcmXor]

theorem slice_all {l : List Byte} {n : Nat} (h : l.length = n) : slice l 0 n = l := by
  apply List.ext_getElem
  · simp [slice, h]
  · intro i h1 h2
    simp [slice, List.getElem?_eq_getElem h2]

/-- A segment that the owner sealed opens to its plaintext. -/
theorem openSegment_sealSegment {key h p : List Byte} {i : Nat} (e : p.length = segBytes h i) :
    openSegment key h i (sealSegment key h i p) = some p := by
  have l : (sealSegment key h i p).length = segBytes h i + 16 := by simp [sealSegment, e]
  rw [openSegment, show padTo (segBytes h i + 16) (sealSegment key h i p) = sealSegment key h i p by rw [padTo, slice_all l]]
  exact gcmOpen_gcmSeal _ _ _ _ _

/-- A run of the march and retention phases without a read in error ends in the reference signature. -/
theorem marchSign_clean (n : Nat) :
    marchSign (marchFold [] (skimSecond n) (marchFold [] (skimFirst n) marchBegin)) = skimReference n := rfl

/-- It finds no line in error. -/
theorem firstBad_clean (ops : List MarchOp) : firstBad [] ops = none := by
  simp only [firstBad, Option.map_eq_none_iff, List.find?_eq_none]
  intro p _
  simp [marchRead]

/-! ### A CRC loses nothing -/

theorem crcBit_lt {p c : Nat} (h : p < 2 ^ 32) (hc : c < 2 ^ 32) : crcBit p c < 2 ^ 32 := by
  unfold crcBit
  split
  · exact Nat.xor_lt_two_pow (by omega) h
  · omega

theorem crcBit_inj {p c d : Nat} (h : p.testBit 31 = true) (hc : c < 2 ^ 32) (hd : d < 2 ^ 32)
    (e : crcBit p c = crcBit p d) : c = d := by
  have low : ∀ a, a < 2 ^ 32 → (a / 2).testBit 31 = false := fun a ha => Nat.testBit_lt_two_pow (by omega)
  have hl := low c hc
  have hm := low d hd
  unfold crcBit at e
  split at e <;> split at e
  · have : c / 2 = d / 2 := Nat.xor_left_inj.mp e
    omega
  · have := congrArg (Nat.testBit · 31) e
    simp [Nat.testBit_xor, hl, hm, h] at this
  · have := congrArg (Nat.testBit · 31) e
    simp [Nat.testBit_xor, hl, hm, h] at this
  · omega

/-- A fold whose steps lose nothing loses nothing. -/
theorem foldl_keeps {α : Type} (f : Nat → α → Nat) (lt : ∀ c a, c < 2 ^ 32 → f c a < 2 ^ 32)
    (inj : ∀ c d a, c < 2 ^ 32 → d < 2 ^ 32 → f c a = f d a → c = d) (l : List α) :
    ∀ c d, c < 2 ^ 32 → d < 2 ^ 32 → l.foldl f c < 2 ^ 32 ∧ (l.foldl f c = l.foldl f d → c = d) := by
  induction l with
  | nil => exact fun c d hc _ => ⟨hc, id⟩
  | cons a l ih =>
    intro c d hc hd
    have := ih (f c a) (f d a) (lt c a hc) (lt d a hd)
    exact ⟨this.1, fun e => inj c d a hc hd (this.2 e)⟩

theorem crcByteR_keeps (b : Byte) (c d : Nat) (hc : c < 2 ^ 32) (hd : d < 2 ^ 32) :
    crcByteR 0x82F63B78 c b < 2 ^ 32 ∧ (crcByteR 0x82F63B78 c b = crcByteR 0x82F63B78 d b → c = d) := by
  have hb : b.toNat < 2 ^ 32 := by omega
  have := foldl_keeps (fun c (_ : Nat) => crcBit 0x82F63B78 c) (fun c _ hc => crcBit_lt (by decide) hc)
    (fun c d _ hc hd e => crcBit_inj (by decide) hc hd e) (List.range 8) _ _ (Nat.xor_lt_two_pow hc hb) (Nat.xor_lt_two_pow hd hb)
  exact ⟨this.1, fun e => Nat.xor_left_inj.mp (this.2 e)⟩

/-- Two running signatures that differ before the same reads differ after them. -/
theorem marchFold_keeps (errs : List (Nat × List Byte)) (ops : List MarchOp) (c d : Nat) (hc : c < 2 ^ 32) (hd : d < 2 ^ 32) :
    marchFold errs ops c < 2 ^ 32 ∧ (marchFold errs ops c = marchFold errs ops d → c = d) :=
  have line := fun (l : List Byte) => foldl_keeps _ (fun c b h => (crcByteR_keeps b c c h h).1)
    (fun c d b hc hd e => (crcByteR_keeps b c d hc hd).2 e) l
  foldl_keeps (fun c (p : MarchOp × Nat) => (marchRead errs p.2 p.1).foldl (crcByteR 0x82F63B78) c) (fun c _ h => (line _ c c h h).1)
    (fun c d _ hc hd e => (line _ c d hc hd).2 e) _ _ _ hc hd

theorem marchSign_inj {c d : Nat} (hc : c < 2 ^ 32) (hd : d < 2 ^ 32) (e : marchSign c = marchSign d) : c = d := by
  have := congrArg BitVec.toNat e
  simp only [marchSign, BitVec.toNat_ofNat] at this
  rw [Nat.mod_eq_of_lt (Nat.xor_lt_two_pow hc (by decide)), Nat.mod_eq_of_lt (Nat.xor_lt_two_pow hd (by decide))] at this
  exact Nat.xor_left_inj.mp this

end Sys2Proof.Machine
end

