-- ==== Sys2Proof/Laws/State.lean ====
section
/-! SUPPORT. What the updates of the state leave alone: one lemma for each update and each field it does not touch. -/

namespace Sys2Proof.Machine

/-! ### setTile -/

@[simp] theorem State.setTile_timeBase (s : State) (t : Nat) (v : Tile) : (s.setTile t v).timeBase = s.timeBase := rfl
@[simp] theorem State.setTile_freeCount (s : State) (t : Nat) (v : Tile) : (s.setTile t v).freeCount = s.freeCount := rfl
@[simp] theorem State.setTile_dict (s : State) (t : Nat) (v : Tile) : (s.setTile t v).dict = s.dict := rfl
@[simp] theorem State.setTile_octets (s : State) (t : Nat) (v : Tile) : (s.setTile t v).octets = s.octets := rfl
@[simp] theorem State.setTile_repair (s : State) (t : Nat) (v : Tile) : (s.setTile t v).repair = s.repair := rfl
@[simp] theorem State.setTile_spares (s : State) (t : Nat) (v : Tile) : (s.setTile t v).spares = s.spares := rfl
@[simp] theorem State.setTile_out (s : State) (t : Nat) (v : Tile) : (s.setTile t v).out = s.out := rfl
@[simp] theorem State.setTile_net (s : State) (t : Nat) (v : Tile) : (s.setTile t v).net = s.net := rfl
@[simp] theorem State.setTile_mem (s : State) (t : Nat) (v : Tile) : (s.setTile t v).mem = s.mem := rfl
@[simp] theorem State.setTile_power (s : State) (t : Nat) (v : Tile) : (s.setTile t v).power = s.power := rfl
@[simp] theorem State.setTile_boot (s : State) (t : Nat) (v : Tile) : (s.setTile t v).boot = s.boot := rfl
@[simp] theorem State.setTile_flash (s : State) (t : Nat) (v : Tile) : (s.setTile t v).flash = s.flash := rfl
@[simp] theorem State.setTile_mgmt (s : State) (t : Nat) (v : Tile) : (s.setTile t v).mgmt = s.mgmt := rfl
@[simp] theorem State.setTile_recorder (s : State) (t : Nat) (v : Tile) : (s.setTile t v).recorder = s.recorder := rfl
@[simp] theorem State.setTile_front (s : State) (t : Nat) (v : Tile) : (s.setTile t v).front = s.front := rfl
@[simp] theorem State.setTile_strands (s : State) (t : Nat) (v : Tile) : (s.setTile t v).strands = s.strands := rfl
@[simp] theorem State.setTile_plans (s : State) (t : Nat) (v : Tile) : (s.setTile t v).plans = s.plans := rfl
@[simp] theorem State.setTile_vault (s : State) (t : Nat) (v : Tile) : (s.setTile t v).vault = s.vault := rfl
@[simp] theorem State.setTile_host (s : State) (t : Nat) (v : Tile) : (s.setTile t v).host = s.host := rfl
@[simp] theorem State.setTile_shards (s : State) (t : Nat) (v : Tile) : (s.setTile t v).shards = s.shards := rfl
@[simp] theorem State.setTile_batches (s : State) (t : Nat) (v : Tile) : (s.setTile t v).batches = s.batches := rfl
@[simp] theorem State.setTile_check (s : State) (t : Nat) (v : Tile) : (s.setTile t v).check = s.check := rfl
@[simp] theorem State.setTile_selftest (s : State) (t : Nat) (v : Tile) : (s.setTile t v).selftest = s.selftest := rfl
@[simp] theorem State.setTile_fabric (s : State) (t : Nat) (v : Tile) : (s.setTile t v).fabric = s.fabric := rfl
@[simp] theorem State.setTile_tunes (s : State) (t : Nat) (v : Tile) : (s.setTile t v).tunes = s.tunes := rfl
@[simp] theorem State.setTile_pending (s : State) (t : Nat) (v : Tile) : (s.setTile t v).pending = s.pending := rfl

/-! ### onTile -/

@[simp] theorem State.onTile_timeBase (s : State) (t : Nat) (f : Tile → Tile) : (s.onTile t f).timeBase = s.timeBase := rfl
@[simp] theorem State.onTile_freeCount (s : State) (t : Nat) (f : Tile → Tile) : (s.onTile t f).freeCount = s.freeCount := rfl
@[simp] theorem State.onTile_dict (s : State) (t : Nat) (f : Tile → Tile) : (s.onTile t f).dict = s.dict := rfl
@[simp] theorem State.onTile_octets (s : State) (t : Nat) (f : Tile → Tile) : (s.onTile t f).octets = s.octets := rfl
@[simp] theorem State.onTile_repair (s : State) (t : Nat) (f : Tile → Tile) : (s.onTile t f).repair = s.repair := rfl
@[simp] theorem State.onTile_spares (s : State) (t : Nat) (f : Tile → Tile) : (s.onTile t f).spares = s.spares := rfl
@[simp] theorem State.onTile_out (s : State) (t : Nat) (f : Tile → Tile) : (s.onTile t f).out = s.out := rfl
@[simp] theorem State.onTile_net (s : State) (t : Nat) (f : Tile → Tile) : (s.onTile t f).net = s.net := rfl
@[simp] theorem State.onTile_mem (s : State) (t : Nat) (f : Tile → Tile) : (s.onTile t f).mem = s.mem := rfl
@[simp] theorem State.onTile_power (s : State) (t : Nat) (f : Tile → Tile) : (s.onTile t f).power = s.power := rfl
@[simp] theorem State.onTile_boot (s : State) (t : Nat) (f : Tile → Tile) : (s.onTile t f).boot = s.boot := rfl
@[simp] theorem State.onTile_flash (s : State) (t : Nat) (f : Tile → Tile) : (s.onTile t f).flash = s.flash := rfl
@[simp] theorem State.onTile_mgmt (s : State) (t : Nat) (f : Tile → Tile) : (s.onTile t f).mgmt = s.mgmt := rfl
@[simp] theorem State.onTile_recorder (s : State) (t : Nat) (f : Tile → Tile) : (s.onTile t f).recorder = s.recorder := rfl
@[simp] theorem State.onTile_front (s : State) (t : Nat) (f : Tile → Tile) : (s.onTile t f).front = s.front := rfl
@[simp] theorem State.onTile_strands (s : State) (t : Nat) (f : Tile → Tile) : (s.onTile t f).strands = s.strands := rfl
@[simp] theorem State.onTile_plans (s : State) (t : Nat) (f : Tile → Tile) : (s.onTile t f).plans = s.plans := rfl
@[simp] theorem State.onTile_vault (s : State) (t : Nat) (f : Tile → Tile) : (s.onTile t f).vault = s.vault := rfl
@[simp] theorem State.onTile_host (s : State) (t : Nat) (f : Tile → Tile) : (s.onTile t f).host = s.host := rfl
@[simp] theorem State.onTile_shards (s : State) (t : Nat) (f : Tile → Tile) : (s.onTile t f).shards = s.shards := rfl
@[simp] theorem State.onTile_batches (s : State) (t : Nat) (f : Tile → Tile) : (s.onTile t f).batches = s.batches := rfl
@[simp] theorem State.onTile_check (s : State) (t : Nat) (f : Tile → Tile) : (s.onTile t f).check = s.check := rfl
@[simp] theorem State.onTile_selftest (s : State) (t : Nat) (f : Tile → Tile) : (s.onTile t f).selftest = s.selftest := rfl
@[simp] theorem State.onTile_fabric (s : State) (t : Nat) (f : Tile → Tile) : (s.onTile t f).fabric = s.fabric := rfl
@[simp] theorem State.onTile_tunes (s : State) (t : Nat) (f : Tile → Tile) : (s.onTile t f).tunes = s.tunes := rfl
@[simp] theorem State.onTile_pending (s : State) (t : Nat) (f : Tile → Tile) : (s.onTile t f).pending = s.pending := rfl

/-! ### set -/

@[simp] theorem State.set_timeBase (s : State) (k v : Nat) : (s.set k v).timeBase = s.timeBase := rfl
@[simp] theorem State.set_freeCount (s : State) (k v : Nat) : (s.set k v).freeCount = s.freeCount := rfl
@[simp] theorem State.set_tiles (s : State) (k v : Nat) : (s.set k v).tiles = s.tiles := rfl
@[simp] theorem State.set_octets (s : State) (k v : Nat) : (s.set k v).octets = s.octets := rfl
@[simp] theorem State.set_repair (s : State) (k v : Nat) : (s.set k v).repair = s.repair := rfl
@[simp] theorem State.set_spares (s : State) (k v : Nat) : (s.set k v).spares = s.spares := rfl
@[simp] theorem State.set_out (s : State) (k v : Nat) : (s.set k v).out = s.out := rfl
@[simp] theorem State.set_net (s : State) (k v : Nat) : (s.set k v).net = s.net := rfl
@[simp] theorem State.set_mem (s : State) (k v : Nat) : (s.set k v).mem = s.mem := rfl
@[simp] theorem State.set_power (s : State) (k v : Nat) : (s.set k v).power = s.power := rfl
@[simp] theorem State.set_boot (s : State) (k v : Nat) : (s.set k v).boot = s.boot := rfl
@[simp] theorem State.set_flash (s : State) (k v : Nat) : (s.set k v).flash = s.flash := rfl
@[simp] theorem State.set_mgmt (s : State) (k v : Nat) : (s.set k v).mgmt = s.mgmt := rfl
@[simp] theorem State.set_recorder (s : State) (k v : Nat) : (s.set k v).recorder = s.recorder := rfl
@[simp] theorem State.set_front (s : State) (k v : Nat) : (s.set k v).front = s.front := rfl
@[simp] theorem State.set_strands (s : State) (k v : Nat) : (s.set k v).strands = s.strands := rfl
@[simp] theorem State.set_plans (s : State) (k v : Nat) : (s.set k v).plans = s.plans := rfl
@[simp] theorem State.set_vault (s : State) (k v : Nat) : (s.set k v).vault = s.vault := rfl
@[simp] theorem State.set_host (s : State) (k v : Nat) : (s.set k v).host = s.host := rfl
@[simp] theorem State.set_shards (s : State) (k v : Nat) : (s.set k v).shards = s.shards := rfl
@[simp] theorem State.set_batches (s : State) (k v : Nat) : (s.set k v).batches = s.batches := rfl
@[simp] theorem State.set_check (s : State) (k v : Nat) : (s.set k v).check = s.check := rfl
@[simp] theorem State.set_selftest (s : State) (k v : Nat) : (s.set k v).selftest = s.selftest := rfl
@[simp] theorem State.set_fabric (s : State) (k v : Nat) : (s.set k v).fabric = s.fabric := rfl
@[simp] theorem State.set_tunes (s : State) (k v : Nat) : (s.set k v).tunes = s.tunes := rfl
@[simp] theorem State.set_pending (s : State) (k v : Nat) : (s.set k v).pending = s.pending := rfl

/-! ### setOctet -/

@[simp] theorem State.setOctet_timeBase (s : State) (k : Nat) (v : List Byte) : (s.setOctet k v).timeBase = s.timeBase := rfl
@[simp] theorem State.setOctet_freeCount (s : State) (k : Nat) (v : List Byte) : (s.setOctet k v).freeCount = s.freeCount := rfl
@[simp] theorem State.setOctet_tiles (s : State) (k : Nat) (v : List Byte) : (s.setOctet k v).tiles = s.tiles := rfl
@[simp] theorem State.setOctet_dict (s : State) (k : Nat) (v : List Byte) : (s.setOctet k v).dict = s.dict := rfl
@[simp] theorem State.setOctet_repair (s : State) (k : Nat) (v : List Byte) : (s.setOctet k v).repair = s.repair := rfl
@[simp] theorem State.setOctet_spares (s : State) (k : Nat) (v : List Byte) : (s.setOctet k v).spares = s.spares := rfl
@[simp] theorem State.setOctet_out (s : State) (k : Nat) (v : List Byte) : (s.setOctet k v).out = s.out := rfl
@[simp] theorem State.setOctet_net (s : State) (k : Nat) (v : List Byte) : (s.setOctet k v).net = s.net := rfl
@[simp] theorem State.setOctet_mem (s : State) (k : Nat) (v : List Byte) : (s.setOctet k v).mem = s.mem := rfl
@[simp] theorem State.setOctet_power (s : State) (k : Nat) (v : List Byte) : (s.setOctet k v).power = s.power := rfl
@[simp] theorem State.setOctet_boot (s : State) (k : Nat) (v : List Byte) : (s.setOctet k v).boot = s.boot := rfl
@[simp] theorem State.setOctet_flash (s : State) (k : Nat) (v : List Byte) : (s.setOctet k v).flash = s.flash := rfl
@[simp] theorem State.setOctet_mgmt (s : State) (k : Nat) (v : List Byte) : (s.setOctet k v).mgmt = s.mgmt := rfl
@[simp] theorem State.setOctet_recorder (s : State) (k : Nat) (v : List Byte) : (s.setOctet k v).recorder = s.recorder := rfl
@[simp] theorem State.setOctet_front (s : State) (k : Nat) (v : List Byte) : (s.setOctet k v).front = s.front := rfl
@[simp] theorem State.setOctet_strands (s : State) (k : Nat) (v : List Byte) : (s.setOctet k v).strands = s.strands := rfl
@[simp] theorem State.setOctet_plans (s : State) (k : Nat) (v : List Byte) : (s.setOctet k v).plans = s.plans := rfl
@[simp] theorem State.setOctet_vault (s : State) (k : Nat) (v : List Byte) : (s.setOctet k v).vault = s.vault := rfl
@[simp] theorem State.setOctet_host (s : State) (k : Nat) (v : List Byte) : (s.setOctet k v).host = s.host := rfl
@[simp] theorem State.setOctet_shards (s : State) (k : Nat) (v : List Byte) : (s.setOctet k v).shards = s.shards := rfl
@[simp] theorem State.setOctet_batches (s : State) (k : Nat) (v : List Byte) : (s.setOctet k v).batches = s.batches := rfl
@[simp] theorem State.setOctet_check (s : State) (k : Nat) (v : List Byte) : (s.setOctet k v).check = s.check := rfl
@[simp] theorem State.setOctet_selftest (s : State) (k : Nat) (v : List Byte) : (s.setOctet k v).selftest = s.selftest := rfl
@[simp] theorem State.setOctet_fabric (s : State) (k : Nat) (v : List Byte) : (s.setOctet k v).fabric = s.fabric := rfl
@[simp] theorem State.setOctet_tunes (s : State) (k : Nat) (v : List Byte) : (s.setOctet k v).tunes = s.tunes := rfl
@[simp] theorem State.setOctet_pending (s : State) (k : Nat) (v : List Byte) : (s.setOctet k v).pending = s.pending := rfl

/-! ### bump -/

@[simp] theorem State.bump_timeBase (s : State) (k n : Nat) : (s.bump k n).timeBase = s.timeBase := rfl
@[simp] theorem State.bump_freeCount (s : State) (k n : Nat) : (s.bump k n).freeCount = s.freeCount := rfl
@[simp] theorem State.bump_tiles (s : State) (k n : Nat) : (s.bump k n).tiles = s.tiles := rfl
@[simp] theorem State.bump_octets (s : State) (k n : Nat) : (s.bump k n).octets = s.octets := rfl
@[simp] theorem State.bump_repair (s : State) (k n : Nat) : (s.bump k n).repair = s.repair := rfl
@[simp] theorem State.bump_spares (s : State) (k n : Nat) : (s.bump k n).spares = s.spares := rfl
@[simp] theorem State.bump_out (s : State) (k n : Nat) : (s.bump k n).out = s.out := rfl
@[simp] theorem State.bump_net (s : State) (k n : Nat) : (s.bump k n).net = s.net := rfl
@[simp] theorem State.bump_mem (s : State) (k n : Nat) : (s.bump k n).mem = s.mem := rfl
@[simp] theorem State.bump_power (s : State) (k n : Nat) : (s.bump k n).power = s.power := rfl
@[simp] theorem State.bump_boot (s : State) (k n : Nat) : (s.bump k n).boot = s.boot := rfl
@[simp] theorem State.bump_flash (s : State) (k n : Nat) : (s.bump k n).flash = s.flash := rfl
@[simp] theorem State.bump_mgmt (s : State) (k n : Nat) : (s.bump k n).mgmt = s.mgmt := rfl
@[simp] theorem State.bump_recorder (s : State) (k n : Nat) : (s.bump k n).recorder = s.recorder := rfl
@[simp] theorem State.bump_front (s : State) (k n : Nat) : (s.bump k n).front = s.front := rfl
@[simp] theorem State.bump_strands (s : State) (k n : Nat) : (s.bump k n).strands = s.strands := rfl
@[simp] theorem State.bump_plans (s : State) (k n : Nat) : (s.bump k n).plans = s.plans := rfl
@[simp] theorem State.bump_vault (s : State) (k n : Nat) : (s.bump k n).vault = s.vault := rfl
@[simp] theorem State.bump_host (s : State) (k n : Nat) : (s.bump k n).host = s.host := rfl
@[simp] theorem State.bump_shards (s : State) (k n : Nat) : (s.bump k n).shards = s.shards := rfl
@[simp] theorem State.bump_batches (s : State) (k n : Nat) : (s.bump k n).batches = s.batches := rfl
@[simp] theorem State.bump_check (s : State) (k n : Nat) : (s.bump k n).check = s.check := rfl
@[simp] theorem State.bump_selftest (s : State) (k n : Nat) : (s.bump k n).selftest = s.selftest := rfl
@[simp] theorem State.bump_fabric (s : State) (k n : Nat) : (s.bump k n).fabric = s.fabric := rfl
@[simp] theorem State.bump_tunes (s : State) (k n : Nat) : (s.bump k n).tunes = s.tunes := rfl
@[simp] theorem State.bump_pending (s : State) (k n : Nat) : (s.bump k n).pending = s.pending := rfl

/-! ### emit -/

@[simp] theorem State.emit_timeBase (s : State) (o : Out) : (s.emit o).timeBase = s.timeBase := rfl
@[simp] theorem State.emit_freeCount (s : State) (o : Out) : (s.emit o).freeCount = s.freeCount := rfl
@[simp] theorem State.emit_tiles (s : State) (o : Out) : (s.emit o).tiles = s.tiles := rfl
@[simp] theorem State.emit_dict (s : State) (o : Out) : (s.emit o).dict = s.dict := rfl
@[simp] theorem State.emit_octets (s : State) (o : Out) : (s.emit o).octets = s.octets := rfl
@[simp] theorem State.emit_repair (s : State) (o : Out) : (s.emit o).repair = s.repair := rfl
@[simp] theorem State.emit_spares (s : State) (o : Out) : (s.emit o).spares = s.spares := rfl
@[simp] theorem State.emit_net (s : State) (o : Out) : (s.emit o).net = s.net := rfl
@[simp] theorem State.emit_mem (s : State) (o : Out) : (s.emit o).mem = s.mem := rfl
@[simp] theorem State.emit_power (s : State) (o : Out) : (s.emit o).power = s.power := rfl
@[simp] theorem State.emit_boot (s : State) (o : Out) : (s.emit o).boot = s.boot := rfl
@[simp] theorem State.emit_flash (s : State) (o : Out) : (s.emit o).flash = s.flash := rfl
@[simp] theorem State.emit_mgmt (s : State) (o : Out) : (s.emit o).mgmt = s.mgmt := rfl
@[simp] theorem State.emit_recorder (s : State) (o : Out) : (s.emit o).recorder = s.recorder := rfl
@[simp] theorem State.emit_front (s : State) (o : Out) : (s.emit o).front = s.front := rfl
@[simp] theorem State.emit_strands (s : State) (o : Out) : (s.emit o).strands = s.strands := rfl
@[simp] theorem State.emit_plans (s : State) (o : Out) : (s.emit o).plans = s.plans := rfl
@[simp] theorem State.emit_vault (s : State) (o : Out) : (s.emit o).vault = s.vault := rfl
@[simp] theorem State.emit_host (s : State) (o : Out) : (s.emit o).host = s.host := rfl
@[simp] theorem State.emit_shards (s : State) (o : Out) : (s.emit o).shards = s.shards := rfl
@[simp] theorem State.emit_batches (s : State) (o : Out) : (s.emit o).batches = s.batches := rfl
@[simp] theorem State.emit_check (s : State) (o : Out) : (s.emit o).check = s.check := rfl
@[simp] theorem State.emit_selftest (s : State) (o : Out) : (s.emit o).selftest = s.selftest := rfl
@[simp] theorem State.emit_fabric (s : State) (o : Out) : (s.emit o).fabric = s.fabric := rfl
@[simp] theorem State.emit_tunes (s : State) (o : Out) : (s.emit o).tunes = s.tunes := rfl
@[simp] theorem State.emit_pending (s : State) (o : Out) : (s.emit o).pending = s.pending := rfl

/-! ### draw -/

@[simp] theorem State.draw_timeBase (s : State) : s.draw.2.timeBase = s.timeBase := rfl
@[simp] theorem State.draw_tiles (s : State) : s.draw.2.tiles = s.tiles := rfl
@[simp] theorem State.draw_dict (s : State) : s.draw.2.dict = s.dict := rfl
@[simp] theorem State.draw_octets (s : State) : s.draw.2.octets = s.octets := rfl
@[simp] theorem State.draw_repair (s : State) : s.draw.2.repair = s.repair := rfl
@[simp] theorem State.draw_spares (s : State) : s.draw.2.spares = s.spares := rfl
@[simp] theorem State.draw_out (s : State) : s.draw.2.out = s.out := rfl
@[simp] theorem State.draw_net (s : State) : s.draw.2.net = s.net := rfl
@[simp] theorem State.draw_mem (s : State) : s.draw.2.mem = s.mem := rfl
@[simp] theorem State.draw_power (s : State) : s.draw.2.power = s.power := rfl
@[simp] theorem State.draw_boot (s : State) : s.draw.2.boot = s.boot := rfl
@[simp] theorem State.draw_flash (s : State) : s.draw.2.flash = s.flash := rfl
@[simp] theorem State.draw_mgmt (s : State) : s.draw.2.mgmt = s.mgmt := rfl
@[simp] theorem State.draw_recorder (s : State) : s.draw.2.recorder = s.recorder := rfl
@[simp] theorem State.draw_front (s : State) : s.draw.2.front = s.front := rfl
@[simp] theorem State.draw_strands (s : State) : s.draw.2.strands = s.strands := rfl
@[simp] theorem State.draw_plans (s : State) : s.draw.2.plans = s.plans := rfl
@[simp] theorem State.draw_vault (s : State) : s.draw.2.vault = s.vault := rfl
@[simp] theorem State.draw_host (s : State) : s.draw.2.host = s.host := rfl
@[simp] theorem State.draw_shards (s : State) : s.draw.2.shards = s.shards := rfl
@[simp] theorem State.draw_batches (s : State) : s.draw.2.batches = s.batches := rfl
@[simp] theorem State.draw_check (s : State) : s.draw.2.check = s.check := rfl
@[simp] theorem State.draw_selftest (s : State) : s.draw.2.selftest = s.selftest := rfl
@[simp] theorem State.draw_fabric (s : State) : s.draw.2.fabric = s.fabric := rfl
@[simp] theorem State.draw_tunes (s : State) : s.draw.2.tunes = s.tunes := rfl
@[simp] theorem State.draw_pending (s : State) : s.draw.2.pending = s.pending := rfl

/-! ### setPoison -/

@[simp] theorem State.setPoison_timeBase (s : State) (line : Nat) (v : Bool) : (s.setPoison line v).timeBase = s.timeBase := rfl
@[simp] theorem State.setPoison_freeCount (s : State) (line : Nat) (v : Bool) : (s.setPoison line v).freeCount = s.freeCount := rfl
@[simp] theorem State.setPoison_tiles (s : State) (line : Nat) (v : Bool) : (s.setPoison line v).tiles = s.tiles := rfl
@[simp] theorem State.setPoison_dict (s : State) (line : Nat) (v : Bool) : (s.setPoison line v).dict = s.dict := rfl
@[simp] theorem State.setPoison_octets (s : State) (line : Nat) (v : Bool) : (s.setPoison line v).octets = s.octets := rfl
@[simp] theorem State.setPoison_repair (s : State) (line : Nat) (v : Bool) : (s.setPoison line v).repair = s.repair := rfl
@[simp] theorem State.setPoison_spares (s : State) (line : Nat) (v : Bool) : (s.setPoison line v).spares = s.spares := rfl
@[simp] theorem State.setPoison_out (s : State) (line : Nat) (v : Bool) : (s.setPoison line v).out = s.out := rfl
@[simp] theorem State.setPoison_net (s : State) (line : Nat) (v : Bool) : (s.setPoison line v).net = s.net := rfl
@[simp] theorem State.setPoison_power (s : State) (line : Nat) (v : Bool) : (s.setPoison line v).power = s.power := rfl
@[simp] theorem State.setPoison_boot (s : State) (line : Nat) (v : Bool) : (s.setPoison line v).boot = s.boot := rfl
@[simp] theorem State.setPoison_flash (s : State) (line : Nat) (v : Bool) : (s.setPoison line v).flash = s.flash := rfl
@[simp] theorem State.setPoison_mgmt (s : State) (line : Nat) (v : Bool) : (s.setPoison line v).mgmt = s.mgmt := rfl
@[simp] theorem State.setPoison_recorder (s : State) (line : Nat) (v : Bool) : (s.setPoison line v).recorder = s.recorder := rfl
@[simp] theorem State.setPoison_front (s : State) (line : Nat) (v : Bool) : (s.setPoison line v).front = s.front := rfl
@[simp] theorem State.setPoison_strands (s : State) (line : Nat) (v : Bool) : (s.setPoison line v).strands = s.strands := rfl
@[simp] theorem State.setPoison_plans (s : State) (line : Nat) (v : Bool) : (s.setPoison line v).plans = s.plans := rfl
@[simp] theorem State.setPoison_vault (s : State) (line : Nat) (v : Bool) : (s.setPoison line v).vault = s.vault := rfl
@[simp] theorem State.setPoison_host (s : State) (line : Nat) (v : Bool) : (s.setPoison line v).host = s.host := rfl
@[simp] theorem State.setPoison_shards (s : State) (line : Nat) (v : Bool) : (s.setPoison line v).shards = s.shards := rfl
@[simp] theorem State.setPoison_batches (s : State) (line : Nat) (v : Bool) : (s.setPoison line v).batches = s.batches := rfl
@[simp] theorem State.setPoison_check (s : State) (line : Nat) (v : Bool) : (s.setPoison line v).check = s.check := rfl
@[simp] theorem State.setPoison_selftest (s : State) (line : Nat) (v : Bool) : (s.setPoison line v).selftest = s.selftest := rfl
@[simp] theorem State.setPoison_fabric (s : State) (line : Nat) (v : Bool) : (s.setPoison line v).fabric = s.fabric := rfl
@[simp] theorem State.setPoison_tunes (s : State) (line : Nat) (v : Bool) : (s.setPoison line v).tunes = s.tunes := rfl
@[simp] theorem State.setPoison_pending (s : State) (line : Nat) (v : Bool) : (s.setPoison line v).pending = s.pending := rfl

/-! ### setRepair -/

@[simp] theorem State.setRepair_timeBase (s : State) (t : Nat) (w : Word) : (s.setRepair t w).timeBase = s.timeBase := rfl
@[simp] theorem State.setRepair_freeCount (s : State) (t : Nat) (w : Word) : (s.setRepair t w).freeCount = s.freeCount := rfl
@[simp] theorem State.setRepair_tiles (s : State) (t : Nat) (w : Word) : (s.setRepair t w).tiles = s.tiles := rfl
@[simp] theorem State.setRepair_dict (s : State) (t : Nat) (w : Word) : (s.setRepair t w).dict = s.dict := rfl
@[simp] theorem State.setRepair_octets (s : State) (t : Nat) (w : Word) : (s.setRepair t w).octets = s.octets := rfl
@[simp] theorem State.setRepair_spares (s : State) (t : Nat) (w : Word) : (s.setRepair t w).spares = s.spares := rfl
@[simp] theorem State.setRepair_out (s : State) (t : Nat) (w : Word) : (s.setRepair t w).out = s.out := rfl
@[simp] theorem State.setRepair_net (s : State) (t : Nat) (w : Word) : (s.setRepair t w).net = s.net := rfl
@[simp] theorem State.setRepair_mem (s : State) (t : Nat) (w : Word) : (s.setRepair t w).mem = s.mem := rfl
@[simp] theorem State.setRepair_power (s : State) (t : Nat) (w : Word) : (s.setRepair t w).power = s.power := rfl
@[simp] theorem State.setRepair_boot (s : State) (t : Nat) (w : Word) : (s.setRepair t w).boot = s.boot := rfl
@[simp] theorem State.setRepair_flash (s : State) (t : Nat) (w : Word) : (s.setRepair t w).flash = s.flash := rfl
@[simp] theorem State.setRepair_mgmt (s : State) (t : Nat) (w : Word) : (s.setRepair t w).mgmt = s.mgmt := rfl
@[simp] theorem State.setRepair_recorder (s : State) (t : Nat) (w : Word) : (s.setRepair t w).recorder = s.recorder := rfl
@[simp] theorem State.setRepair_front (s : State) (t : Nat) (w : Word) : (s.setRepair t w).front = s.front := rfl
@[simp] theorem State.setRepair_strands (s : State) (t : Nat) (w : Word) : (s.setRepair t w).strands = s.strands := rfl
@[simp] theorem State.setRepair_plans (s : State) (t : Nat) (w : Word) : (s.setRepair t w).plans = s.plans := rfl
@[simp] theorem State.setRepair_vault (s : State) (t : Nat) (w : Word) : (s.setRepair t w).vault = s.vault := rfl
@[simp] theorem State.setRepair_host (s : State) (t : Nat) (w : Word) : (s.setRepair t w).host = s.host := rfl
@[simp] theorem State.setRepair_shards (s : State) (t : Nat) (w : Word) : (s.setRepair t w).shards = s.shards := rfl
@[simp] theorem State.setRepair_batches (s : State) (t : Nat) (w : Word) : (s.setRepair t w).batches = s.batches := rfl
@[simp] theorem State.setRepair_check (s : State) (t : Nat) (w : Word) : (s.setRepair t w).check = s.check := rfl
@[simp] theorem State.setRepair_selftest (s : State) (t : Nat) (w : Word) : (s.setRepair t w).selftest = s.selftest := rfl
@[simp] theorem State.setRepair_fabric (s : State) (t : Nat) (w : Word) : (s.setRepair t w).fabric = s.fabric := rfl
@[simp] theorem State.setRepair_tunes (s : State) (t : Nat) (w : Word) : (s.setRepair t w).tunes = s.tunes := rfl
@[simp] theorem State.setRepair_pending (s : State) (t : Nat) (w : Word) : (s.setRepair t w).pending = s.pending := rfl

/-! ### setSpare -/

@[simp] theorem State.setSpare_timeBase (s : State) (st t : Nat) : (s.setSpare st t).timeBase = s.timeBase := rfl
@[simp] theorem State.setSpare_freeCount (s : State) (st t : Nat) : (s.setSpare st t).freeCount = s.freeCount := rfl
@[simp] theorem State.setSpare_tiles (s : State) (st t : Nat) : (s.setSpare st t).tiles = s.tiles := rfl
@[simp] theorem State.setSpare_dict (s : State) (st t : Nat) : (s.setSpare st t).dict = s.dict := rfl
@[simp] theorem State.setSpare_octets (s : State) (st t : Nat) : (s.setSpare st t).octets = s.octets := rfl
@[simp] theorem State.setSpare_repair (s : State) (st t : Nat) : (s.setSpare st t).repair = s.repair := rfl
@[simp] theorem State.setSpare_out (s : State) (st t : Nat) : (s.setSpare st t).out = s.out := rfl
@[simp] theorem State.setSpare_net (s : State) (st t : Nat) : (s.setSpare st t).net = s.net := rfl
@[simp] theorem State.setSpare_mem (s : State) (st t : Nat) : (s.setSpare st t).mem = s.mem := rfl
@[simp] theorem State.setSpare_power (s : State) (st t : Nat) : (s.setSpare st t).power = s.power := rfl
@[simp] theorem State.setSpare_boot (s : State) (st t : Nat) : (s.setSpare st t).boot = s.boot := rfl
@[simp] theorem State.setSpare_flash (s : State) (st t : Nat) : (s.setSpare st t).flash = s.flash := rfl
@[simp] theorem State.setSpare_mgmt (s : State) (st t : Nat) : (s.setSpare st t).mgmt = s.mgmt := rfl
@[simp] theorem State.setSpare_recorder (s : State) (st t : Nat) : (s.setSpare st t).recorder = s.recorder := rfl
@[simp] theorem State.setSpare_front (s : State) (st t : Nat) : (s.setSpare st t).front = s.front := rfl
@[simp] theorem State.setSpare_strands (s : State) (st t : Nat) : (s.setSpare st t).strands = s.strands := rfl
@[simp] theorem State.setSpare_plans (s : State) (st t : Nat) : (s.setSpare st t).plans = s.plans := rfl
@[simp] theorem State.setSpare_vault (s : State) (st t : Nat) : (s.setSpare st t).vault = s.vault := rfl
@[simp] theorem State.setSpare_host (s : State) (st t : Nat) : (s.setSpare st t).host = s.host := rfl
@[simp] theorem State.setSpare_shards (s : State) (st t : Nat) : (s.setSpare st t).shards = s.shards := rfl
@[simp] theorem State.setSpare_batches (s : State) (st t : Nat) : (s.setSpare st t).batches = s.batches := rfl
@[simp] theorem State.setSpare_check (s : State) (st t : Nat) : (s.setSpare st t).check = s.check := rfl
@[simp] theorem State.setSpare_selftest (s : State) (st t : Nat) : (s.setSpare st t).selftest = s.selftest := rfl
@[simp] theorem State.setSpare_fabric (s : State) (st t : Nat) : (s.setSpare st t).fabric = s.fabric := rfl
@[simp] theorem State.setSpare_tunes (s : State) (st t : Nat) : (s.setSpare st t).tunes = s.tunes := rfl
@[simp] theorem State.setSpare_pending (s : State) (st t : Nat) : (s.setSpare st t).pending = s.pending := rfl

/-! ### setStrand -/

@[simp] theorem State.setStrand_timeBase (s : State) (st : Nat) (v : Strand) : (s.setStrand st v).timeBase = s.timeBase := rfl
@[simp] theorem State.setStrand_freeCount (s : State) (st : Nat) (v : Strand) : (s.setStrand st v).freeCount = s.freeCount := rfl
@[simp] theorem State.setStrand_tiles (s : State) (st : Nat) (v : Strand) : (s.setStrand st v).tiles = s.tiles := rfl
@[simp] theorem State.setStrand_dict (s : State) (st : Nat) (v : Strand) : (s.setStrand st v).dict = s.dict := rfl
@[simp] theorem State.setStrand_octets (s : State) (st : Nat) (v : Strand) : (s.setStrand st v).octets = s.octets := rfl
@[simp] theorem State.setStrand_repair (s : State) (st : Nat) (v : Strand) : (s.setStrand st v).repair = s.repair := rfl
@[simp] theorem State.setStrand_spares (s : State) (st : Nat) (v : Strand) : (s.setStrand st v).spares = s.spares := rfl
@[simp] theorem State.setStrand_out (s : State) (st : Nat) (v : Strand) : (s.setStrand st v).out = s.out := rfl
@[simp] theorem State.setStrand_net (s : State) (st : Nat) (v : Strand) : (s.setStrand st v).net = s.net := rfl
@[simp] theorem State.setStrand_mem (s : State) (st : Nat) (v : Strand) : (s.setStrand st v).mem = s.mem := rfl
@[simp] theorem State.setStrand_power (s : State) (st : Nat) (v : Strand) : (s.setStrand st v).power = s.power := rfl
@[simp] theorem State.setStrand_boot (s : State) (st : Nat) (v : Strand) : (s.setStrand st v).boot = s.boot := rfl
@[simp] theorem State.setStrand_flash (s : State) (st : Nat) (v : Strand) : (s.setStrand st v).flash = s.flash := rfl
@[simp] theorem State.setStrand_mgmt (s : State) (st : Nat) (v : Strand) : (s.setStrand st v).mgmt = s.mgmt := rfl
@[simp] theorem State.setStrand_recorder (s : State) (st : Nat) (v : Strand) : (s.setStrand st v).recorder = s.recorder := rfl
@[simp] theorem State.setStrand_front (s : State) (st : Nat) (v : Strand) : (s.setStrand st v).front = s.front := rfl
@[simp] theorem State.setStrand_plans (s : State) (st : Nat) (v : Strand) : (s.setStrand st v).plans = s.plans := rfl
@[simp] theorem State.setStrand_vault (s : State) (st : Nat) (v : Strand) : (s.setStrand st v).vault = s.vault := rfl
@[simp] theorem State.setStrand_host (s : State) (st : Nat) (v : Strand) : (s.setStrand st v).host = s.host := rfl
@[simp] theorem State.setStrand_shards (s : State) (st : Nat) (v : Strand) : (s.setStrand st v).shards = s.shards := rfl
@[simp] theorem State.setStrand_batches (s : State) (st : Nat) (v : Strand) : (s.setStrand st v).batches = s.batches := rfl
@[simp] theorem State.setStrand_check (s : State) (st : Nat) (v : Strand) : (s.setStrand st v).check = s.check := rfl
@[simp] theorem State.setStrand_selftest (s : State) (st : Nat) (v : Strand) : (s.setStrand st v).selftest = s.selftest := rfl
@[simp] theorem State.setStrand_fabric (s : State) (st : Nat) (v : Strand) : (s.setStrand st v).fabric = s.fabric := rfl
@[simp] theorem State.setStrand_tunes (s : State) (st : Nat) (v : Strand) : (s.setStrand st v).tunes = s.tunes := rfl
@[simp] theorem State.setStrand_pending (s : State) (st : Nat) (v : Strand) : (s.setStrand st v).pending = s.pending := rfl

/-! ### onStrand -/

@[simp] theorem State.onStrand_timeBase (s : State) (st : Nat) (f : Strand → Strand) : (s.onStrand st f).timeBase = s.timeBase := rfl
@[simp] theorem State.onStrand_freeCount (s : State) (st : Nat) (f : Strand → Strand) : (s.onStrand st f).freeCount = s.freeCount := rfl
@[simp] theorem State.onStrand_tiles (s : State) (st : Nat) (f : Strand → Strand) : (s.onStrand st f).tiles = s.tiles := rfl
@[simp] theorem State.onStrand_dict (s : State) (st : Nat) (f : Strand → Strand) : (s.onStrand st f).dict = s.dict := rfl
@[simp] theorem State.onStrand_octets (s : State) (st : Nat) (f : Strand → Strand) : (s.onStrand st f).octets = s.octets := rfl
@[simp] theorem State.onStrand_repair (s : State) (st : Nat) (f : Strand → Strand) : (s.onStrand st f).repair = s.repair := rfl
@[simp] theorem State.onStrand_spares (s : State) (st : Nat) (f : Strand → Strand) : (s.onStrand st f).spares = s.spares := rfl
@[simp] theorem State.onStrand_out (s : State) (st : Nat) (f : Strand → Strand) : (s.onStrand st f).out = s.out := rfl
@[simp] theorem State.onStrand_net (s : State) (st : Nat) (f : Strand → Strand) : (s.onStrand st f).net = s.net := rfl
@[simp] theorem State.onStrand_mem (s : State) (st : Nat) (f : Strand → Strand) : (s.onStrand st f).mem = s.mem := rfl
@[simp] theorem State.onStrand_power (s : State) (st : Nat) (f : Strand → Strand) : (s.onStrand st f).power = s.power := rfl
@[simp] theorem State.onStrand_boot (s : State) (st : Nat) (f : Strand → Strand) : (s.onStrand st f).boot = s.boot := rfl
@[simp] theorem State.onStrand_flash (s : State) (st : Nat) (f : Strand → Strand) : (s.onStrand st f).flash = s.flash := rfl
@[simp] theorem State.onStrand_mgmt (s : State) (st : Nat) (f : Strand → Strand) : (s.onStrand st f).mgmt = s.mgmt := rfl
@[simp] theorem State.onStrand_recorder (s : State) (st : Nat) (f : Strand → Strand) : (s.onStrand st f).recorder = s.recorder := rfl
@[simp] theorem State.onStrand_front (s : State) (st : Nat) (f : Strand → Strand) : (s.onStrand st f).front = s.front := rfl
@[simp] theorem State.onStrand_plans (s : State) (st : Nat) (f : Strand → Strand) : (s.onStrand st f).plans = s.plans := rfl
@[simp] theorem State.onStrand_vault (s : State) (st : Nat) (f : Strand → Strand) : (s.onStrand st f).vault = s.vault := rfl
@[simp] theorem State.onStrand_host (s : State) (st : Nat) (f : Strand → Strand) : (s.onStrand st f).host = s.host := rfl
@[simp] theorem State.onStrand_shards (s : State) (st : Nat) (f : Strand → Strand) : (s.onStrand st f).shards = s.shards := rfl
@[simp] theorem State.onStrand_batches (s : State) (st : Nat) (f : Strand → Strand) : (s.onStrand st f).batches = s.batches := rfl
@[simp] theorem State.onStrand_check (s : State) (st : Nat) (f : Strand → Strand) : (s.onStrand st f).check = s.check := rfl
@[simp] theorem State.onStrand_selftest (s : State) (st : Nat) (f : Strand → Strand) : (s.onStrand st f).selftest = s.selftest := rfl
@[simp] theorem State.onStrand_fabric (s : State) (st : Nat) (f : Strand → Strand) : (s.onStrand st f).fabric = s.fabric := rfl
@[simp] theorem State.onStrand_tunes (s : State) (st : Nat) (f : Strand → Strand) : (s.onStrand st f).tunes = s.tunes := rfl
@[simp] theorem State.onStrand_pending (s : State) (st : Nat) (f : Strand → Strand) : (s.onStrand st f).pending = s.pending := rfl

/-! ### setChan -/

@[simp] theorem State.setChan_timeBase (s : State) (c : Nat) (v : Channel) : (s.setChan c v).timeBase = s.timeBase := rfl
@[simp] theorem State.setChan_freeCount (s : State) (c : Nat) (v : Channel) : (s.setChan c v).freeCount = s.freeCount := rfl
@[simp] theorem State.setChan_tiles (s : State) (c : Nat) (v : Channel) : (s.setChan c v).tiles = s.tiles := rfl
@[simp] theorem State.setChan_dict (s : State) (c : Nat) (v : Channel) : (s.setChan c v).dict = s.dict := rfl
@[simp] theorem State.setChan_octets (s : State) (c : Nat) (v : Channel) : (s.setChan c v).octets = s.octets := rfl
@[simp] theorem State.setChan_repair (s : State) (c : Nat) (v : Channel) : (s.setChan c v).repair = s.repair := rfl
@[simp] theorem State.setChan_spares (s : State) (c : Nat) (v : Channel) : (s.setChan c v).spares = s.spares := rfl
@[simp] theorem State.setChan_out (s : State) (c : Nat) (v : Channel) : (s.setChan c v).out = s.out := rfl
@[simp] theorem State.setChan_net (s : State) (c : Nat) (v : Channel) : (s.setChan c v).net = s.net := rfl
@[simp] theorem State.setChan_mem (s : State) (c : Nat) (v : Channel) : (s.setChan c v).mem = s.mem := rfl
@[simp] theorem State.setChan_power (s : State) (c : Nat) (v : Channel) : (s.setChan c v).power = s.power := rfl
@[simp] theorem State.setChan_boot (s : State) (c : Nat) (v : Channel) : (s.setChan c v).boot = s.boot := rfl
@[simp] theorem State.setChan_flash (s : State) (c : Nat) (v : Channel) : (s.setChan c v).flash = s.flash := rfl
@[simp] theorem State.setChan_mgmt (s : State) (c : Nat) (v : Channel) : (s.setChan c v).mgmt = s.mgmt := rfl
@[simp] theorem State.setChan_recorder (s : State) (c : Nat) (v : Channel) : (s.setChan c v).recorder = s.recorder := rfl
@[simp] theorem State.setChan_front (s : State) (c : Nat) (v : Channel) : (s.setChan c v).front = s.front := rfl
@[simp] theorem State.setChan_strands (s : State) (c : Nat) (v : Channel) : (s.setChan c v).strands = s.strands := rfl
@[simp] theorem State.setChan_plans (s : State) (c : Nat) (v : Channel) : (s.setChan c v).plans = s.plans := rfl
@[simp] theorem State.setChan_vault (s : State) (c : Nat) (v : Channel) : (s.setChan c v).vault = s.vault := rfl
@[simp] theorem State.setChan_shards (s : State) (c : Nat) (v : Channel) : (s.setChan c v).shards = s.shards := rfl
@[simp] theorem State.setChan_batches (s : State) (c : Nat) (v : Channel) : (s.setChan c v).batches = s.batches := rfl
@[simp] theorem State.setChan_check (s : State) (c : Nat) (v : Channel) : (s.setChan c v).check = s.check := rfl
@[simp] theorem State.setChan_selftest (s : State) (c : Nat) (v : Channel) : (s.setChan c v).selftest = s.selftest := rfl
@[simp] theorem State.setChan_fabric (s : State) (c : Nat) (v : Channel) : (s.setChan c v).fabric = s.fabric := rfl
@[simp] theorem State.setChan_tunes (s : State) (c : Nat) (v : Channel) : (s.setChan c v).tunes = s.tunes := rfl
@[simp] theorem State.setChan_pending (s : State) (c : Nat) (v : Channel) : (s.setChan c v).pending = s.pending := rfl

/-! ### setBucket -/

@[simp] theorem State.setBucket_timeBase (s : State) (code : Nat) (b : Bucket) : (s.setBucket code b).timeBase = s.timeBase := rfl
@[simp] theorem State.setBucket_freeCount (s : State) (code : Nat) (b : Bucket) : (s.setBucket code b).freeCount = s.freeCount := rfl
@[simp] theorem State.setBucket_tiles (s : State) (code : Nat) (b : Bucket) : (s.setBucket code b).tiles = s.tiles := rfl
@[simp] theorem State.setBucket_dict (s : State) (code : Nat) (b : Bucket) : (s.setBucket code b).dict = s.dict := rfl
@[simp] theorem State.setBucket_octets (s : State) (code : Nat) (b : Bucket) : (s.setBucket code b).octets = s.octets := rfl
@[simp] theorem State.setBucket_repair (s : State) (code : Nat) (b : Bucket) : (s.setBucket code b).repair = s.repair := rfl
@[simp] theorem State.setBucket_spares (s : State) (code : Nat) (b : Bucket) : (s.setBucket code b).spares = s.spares := rfl
@[simp] theorem State.setBucket_out (s : State) (code : Nat) (b : Bucket) : (s.setBucket code b).out = s.out := rfl
@[simp] theorem State.setBucket_net (s : State) (code : Nat) (b : Bucket) : (s.setBucket code b).net = s.net := rfl
@[simp] theorem State.setBucket_mem (s : State) (code : Nat) (b : Bucket) : (s.setBucket code b).mem = s.mem := rfl
@[simp] theorem State.setBucket_power (s : State) (code : Nat) (b : Bucket) : (s.setBucket code b).power = s.power := rfl
@[simp] theorem State.setBucket_boot (s : State) (code : Nat) (b : Bucket) : (s.setBucket code b).boot = s.boot := rfl
@[simp] theorem State.setBucket_flash (s : State) (code : Nat) (b : Bucket) : (s.setBucket code b).flash = s.flash := rfl
@[simp] theorem State.setBucket_recorder (s : State) (code : Nat) (b : Bucket) : (s.setBucket code b).recorder = s.recorder := rfl
@[simp] theorem State.setBucket_front (s : State) (code : Nat) (b : Bucket) : (s.setBucket code b).front = s.front := rfl
@[simp] theorem State.setBucket_strands (s : State) (code : Nat) (b : Bucket) : (s.setBucket code b).strands = s.strands := rfl
@[simp] theorem State.setBucket_plans (s : State) (code : Nat) (b : Bucket) : (s.setBucket code b).plans = s.plans := rfl
@[simp] theorem State.setBucket_vault (s : State) (code : Nat) (b : Bucket) : (s.setBucket code b).vault = s.vault := rfl
@[simp] theorem State.setBucket_host (s : State) (code : Nat) (b : Bucket) : (s.setBucket code b).host = s.host := rfl
@[simp] theorem State.setBucket_shards (s : State) (code : Nat) (b : Bucket) : (s.setBucket code b).shards = s.shards := rfl
@[simp] theorem State.setBucket_batches (s : State) (code : Nat) (b : Bucket) : (s.setBucket code b).batches = s.batches := rfl
@[simp] theorem State.setBucket_check (s : State) (code : Nat) (b : Bucket) : (s.setBucket code b).check = s.check := rfl
@[simp] theorem State.setBucket_selftest (s : State) (code : Nat) (b : Bucket) : (s.setBucket code b).selftest = s.selftest := rfl
@[simp] theorem State.setBucket_fabric (s : State) (code : Nat) (b : Bucket) : (s.setBucket code b).fabric = s.fabric := rfl
@[simp] theorem State.setBucket_tunes (s : State) (code : Nat) (b : Bucket) : (s.setBucket code b).tunes = s.tunes := rfl
@[simp] theorem State.setBucket_pending (s : State) (code : Nat) (b : Bucket) : (s.setBucket code b).pending = s.pending := rfl

/-! ### noticed -/

@[simp] theorem State.noticed_timeBase (s : State) (code : Nat) : (s.noticed code).timeBase = s.timeBase := rfl
@[simp] theorem State.noticed_freeCount (s : State) (code : Nat) : (s.noticed code).freeCount = s.freeCount := rfl
@[simp] theorem State.noticed_tiles (s : State) (code : Nat) : (s.noticed code).tiles = s.tiles := rfl
@[simp] theorem State.noticed_dict (s : State) (code : Nat) : (s.noticed code).dict = s.dict := rfl
@[simp] theorem State.noticed_octets (s : State) (code : Nat) : (s.noticed code).octets = s.octets := rfl
@[simp] theorem State.noticed_repair (s : State) (code : Nat) : (s.noticed code).repair = s.repair := rfl
@[simp] theorem State.noticed_spares (s : State) (code : Nat) : (s.noticed code).spares = s.spares := rfl
@[simp] theorem State.noticed_out (s : State) (code : Nat) : (s.noticed code).out = s.out := rfl
@[simp] theorem State.noticed_net (s : State) (code : Nat) : (s.noticed code).net = s.net := rfl
@[simp] theorem State.noticed_mem (s : State) (code : Nat) : (s.noticed code).mem = s.mem := rfl
@[simp] theorem State.noticed_power (s : State) (code : Nat) : (s.noticed code).power = s.power := rfl
@[simp] theorem State.noticed_boot (s : State) (code : Nat) : (s.noticed code).boot = s.boot := rfl
@[simp] theorem State.noticed_flash (s : State) (code : Nat) : (s.noticed code).flash = s.flash := rfl
@[simp] theorem State.noticed_mgmt (s : State) (code : Nat) : (s.noticed code).mgmt = s.mgmt := rfl
@[simp] theorem State.noticed_front (s : State) (code : Nat) : (s.noticed code).front = s.front := rfl
@[simp] theorem State.noticed_strands (s : State) (code : Nat) : (s.noticed code).strands = s.strands := rfl
@[simp] theorem State.noticed_plans (s : State) (code : Nat) : (s.noticed code).plans = s.plans := rfl
@[simp] theorem State.noticed_vault (s : State) (code : Nat) : (s.noticed code).vault = s.vault := rfl
@[simp] theorem State.noticed_host (s : State) (code : Nat) : (s.noticed code).host = s.host := rfl
@[simp] theorem State.noticed_shards (s : State) (code : Nat) : (s.noticed code).shards = s.shards := rfl
@[simp] theorem State.noticed_batches (s : State) (code : Nat) : (s.noticed code).batches = s.batches := rfl
@[simp] theorem State.noticed_check (s : State) (code : Nat) : (s.noticed code).check = s.check := rfl
@[simp] theorem State.noticed_selftest (s : State) (code : Nat) : (s.noticed code).selftest = s.selftest := rfl
@[simp] theorem State.noticed_fabric (s : State) (code : Nat) : (s.noticed code).fabric = s.fabric := rfl
@[simp] theorem State.noticed_tunes (s : State) (code : Nat) : (s.noticed code).tunes = s.tunes := rfl
@[simp] theorem State.noticed_pending (s : State) (code : Nat) : (s.noticed code).pending = s.pending := rfl

/-! ### setKeys -/

@[simp] theorem State.setKeys_timeBase (s : State) (l : List VKey) : (s.setKeys l).timeBase = s.timeBase := rfl
@[simp] theorem State.setKeys_freeCount (s : State) (l : List VKey) : (s.setKeys l).freeCount = s.freeCount := rfl
@[simp] theorem State.setKeys_tiles (s : State) (l : List VKey) : (s.setKeys l).tiles = s.tiles := rfl
@[simp] theorem State.setKeys_dict (s : State) (l : List VKey) : (s.setKeys l).dict = s.dict := rfl
@[simp] theorem State.setKeys_octets (s : State) (l : List VKey) : (s.setKeys l).octets = s.octets := rfl
@[simp] theorem State.setKeys_repair (s : State) (l : List VKey) : (s.setKeys l).repair = s.repair := rfl
@[simp] theorem State.setKeys_spares (s : State) (l : List VKey) : (s.setKeys l).spares = s.spares := rfl
@[simp] theorem State.setKeys_out (s : State) (l : List VKey) : (s.setKeys l).out = s.out := rfl
@[simp] theorem State.setKeys_net (s : State) (l : List VKey) : (s.setKeys l).net = s.net := rfl
@[simp] theorem State.setKeys_mem (s : State) (l : List VKey) : (s.setKeys l).mem = s.mem := rfl
@[simp] theorem State.setKeys_power (s : State) (l : List VKey) : (s.setKeys l).power = s.power := rfl
@[simp] theorem State.setKeys_boot (s : State) (l : List VKey) : (s.setKeys l).boot = s.boot := rfl
@[simp] theorem State.setKeys_flash (s : State) (l : List VKey) : (s.setKeys l).flash = s.flash := rfl
@[simp] theorem State.setKeys_mgmt (s : State) (l : List VKey) : (s.setKeys l).mgmt = s.mgmt := rfl
@[simp] theorem State.setKeys_recorder (s : State) (l : List VKey) : (s.setKeys l).recorder = s.recorder := rfl
@[simp] theorem State.setKeys_front (s : State) (l : List VKey) : (s.setKeys l).front = s.front := rfl
@[simp] theorem State.setKeys_strands (s : State) (l : List VKey) : (s.setKeys l).strands = s.strands := rfl
@[simp] theorem State.setKeys_plans (s : State) (l : List VKey) : (s.setKeys l).plans = s.plans := rfl
@[simp] theorem State.setKeys_host (s : State) (l : List VKey) : (s.setKeys l).host = s.host := rfl
@[simp] theorem State.setKeys_shards (s : State) (l : List VKey) : (s.setKeys l).shards = s.shards := rfl
@[simp] theorem State.setKeys_batches (s : State) (l : List VKey) : (s.setKeys l).batches = s.batches := rfl
@[simp] theorem State.setKeys_check (s : State) (l : List VKey) : (s.setKeys l).check = s.check := rfl
@[simp] theorem State.setKeys_selftest (s : State) (l : List VKey) : (s.setKeys l).selftest = s.selftest := rfl
@[simp] theorem State.setKeys_fabric (s : State) (l : List VKey) : (s.setKeys l).fabric = s.fabric := rfl
@[simp] theorem State.setKeys_tunes (s : State) (l : List VKey) : (s.setKeys l).tunes = s.tunes := rfl
@[simp] theorem State.setKeys_pending (s : State) (l : List VKey) : (s.setKeys l).pending = s.pending := rfl

/-! ### setSuspect -/

@[simp] theorem State.setSuspect_timeBase (s : State) (t : Nat) (v : Suspect) : (s.setSuspect t v).timeBase = s.timeBase := rfl
@[simp] theorem State.setSuspect_freeCount (s : State) (t : Nat) (v : Suspect) : (s.setSuspect t v).freeCount = s.freeCount := rfl
@[simp] theorem State.setSuspect_tiles (s : State) (t : Nat) (v : Suspect) : (s.setSuspect t v).tiles = s.tiles := rfl
@[simp] theorem State.setSuspect_dict (s : State) (t : Nat) (v : Suspect) : (s.setSuspect t v).dict = s.dict := rfl
@[simp] theorem State.setSuspect_octets (s : State) (t : Nat) (v : Suspect) : (s.setSuspect t v).octets = s.octets := rfl
@[simp] theorem State.setSuspect_repair (s : State) (t : Nat) (v : Suspect) : (s.setSuspect t v).repair = s.repair := rfl
@[simp] theorem State.setSuspect_spares (s : State) (t : Nat) (v : Suspect) : (s.setSuspect t v).spares = s.spares := rfl
@[simp] theorem State.setSuspect_out (s : State) (t : Nat) (v : Suspect) : (s.setSuspect t v).out = s.out := rfl
@[simp] theorem State.setSuspect_net (s : State) (t : Nat) (v : Suspect) : (s.setSuspect t v).net = s.net := rfl
@[simp] theorem State.setSuspect_mem (s : State) (t : Nat) (v : Suspect) : (s.setSuspect t v).mem = s.mem := rfl
@[simp] theorem State.setSuspect_power (s : State) (t : Nat) (v : Suspect) : (s.setSuspect t v).power = s.power := rfl
@[simp] theorem State.setSuspect_boot (s : State) (t : Nat) (v : Suspect) : (s.setSuspect t v).boot = s.boot := rfl
@[simp] theorem State.setSuspect_flash (s : State) (t : Nat) (v : Suspect) : (s.setSuspect t v).flash = s.flash := rfl
@[simp] theorem State.setSuspect_mgmt (s : State) (t : Nat) (v : Suspect) : (s.setSuspect t v).mgmt = s.mgmt := rfl
@[simp] theorem State.setSuspect_recorder (s : State) (t : Nat) (v : Suspect) : (s.setSuspect t v).recorder = s.recorder := rfl
@[simp] theorem State.setSuspect_front (s : State) (t : Nat) (v : Suspect) : (s.setSuspect t v).front = s.front := rfl
@[simp] theorem State.setSuspect_strands (s : State) (t : Nat) (v : Suspect) : (s.setSuspect t v).strands = s.strands := rfl
@[simp] theorem State.setSuspect_plans (s : State) (t : Nat) (v : Suspect) : (s.setSuspect t v).plans = s.plans := rfl
@[simp] theorem State.setSuspect_vault (s : State) (t : Nat) (v : Suspect) : (s.setSuspect t v).vault = s.vault := rfl
@[simp] theorem State.setSuspect_host (s : State) (t : Nat) (v : Suspect) : (s.setSuspect t v).host = s.host := rfl
@[simp] theorem State.setSuspect_shards (s : State) (t : Nat) (v : Suspect) : (s.setSuspect t v).shards = s.shards := rfl
@[simp] theorem State.setSuspect_batches (s : State) (t : Nat) (v : Suspect) : (s.setSuspect t v).batches = s.batches := rfl
@[simp] theorem State.setSuspect_selftest (s : State) (t : Nat) (v : Suspect) : (s.setSuspect t v).selftest = s.selftest := rfl
@[simp] theorem State.setSuspect_fabric (s : State) (t : Nat) (v : Suspect) : (s.setSuspect t v).fabric = s.fabric := rfl
@[simp] theorem State.setSuspect_tunes (s : State) (t : Nat) (v : Suspect) : (s.setSuspect t v).tunes = s.tunes := rfl
@[simp] theorem State.setSuspect_pending (s : State) (t : Nat) (v : Suspect) : (s.setSuspect t v).pending = s.pending := rfl

/-! ### setPort -/

@[simp] theorem State.setPort_timeBase (s : State) (n : Nat) (p : FPort) : (s.setPort n p).timeBase = s.timeBase := rfl
@[simp] theorem State.setPort_freeCount (s : State) (n : Nat) (p : FPort) : (s.setPort n p).freeCount = s.freeCount := rfl
@[simp] theorem State.setPort_tiles (s : State) (n : Nat) (p : FPort) : (s.setPort n p).tiles = s.tiles := rfl
@[simp] theorem State.setPort_dict (s : State) (n : Nat) (p : FPort) : (s.setPort n p).dict = s.dict := rfl
@[simp] theorem State.setPort_octets (s : State) (n : Nat) (p : FPort) : (s.setPort n p).octets = s.octets := rfl
@[simp] theorem State.setPort_repair (s : State) (n : Nat) (p : FPort) : (s.setPort n p).repair = s.repair := rfl
@[simp] theorem State.setPort_spares (s : State) (n : Nat) (p : FPort) : (s.setPort n p).spares = s.spares := rfl
@[simp] theorem State.setPort_out (s : State) (n : Nat) (p : FPort) : (s.setPort n p).out = s.out := rfl
@[simp] theorem State.setPort_net (s : State) (n : Nat) (p : FPort) : (s.setPort n p).net = s.net := rfl
@[simp] theorem State.setPort_mem (s : State) (n : Nat) (p : FPort) : (s.setPort n p).mem = s.mem := rfl
@[simp] theorem State.setPort_power (s : State) (n : Nat) (p : FPort) : (s.setPort n p).power = s.power := rfl
@[simp] theorem State.setPort_boot (s : State) (n : Nat) (p : FPort) : (s.setPort n p).boot = s.boot := rfl
@[simp] theorem State.setPort_flash (s : State) (n : Nat) (p : FPort) : (s.setPort n p).flash = s.flash := rfl
@[simp] theorem State.setPort_mgmt (s : State) (n : Nat) (p : FPort) : (s.setPort n p).mgmt = s.mgmt := rfl
@[simp] theorem State.setPort_recorder (s : State) (n : Nat) (p : FPort) : (s.setPort n p).recorder = s.recorder := rfl
@[simp] theorem State.setPort_front (s : State) (n : Nat) (p : FPort) : (s.setPort n p).front = s.front := rfl
@[simp] theorem State.setPort_strands (s : State) (n : Nat) (p : FPort) : (s.setPort n p).strands = s.strands := rfl
@[simp] theorem State.setPort_plans (s : State) (n : Nat) (p : FPort) : (s.setPort n p).plans = s.plans := rfl
@[simp] theorem State.setPort_vault (s : State) (n : Nat) (p : FPort) : (s.setPort n p).vault = s.vault := rfl
@[simp] theorem State.setPort_host (s : State) (n : Nat) (p : FPort) : (s.setPort n p).host = s.host := rfl
@[simp] theorem State.setPort_shards (s : State) (n : Nat) (p : FPort) : (s.setPort n p).shards = s.shards := rfl
@[simp] theorem State.setPort_batches (s : State) (n : Nat) (p : FPort) : (s.setPort n p).batches = s.batches := rfl
@[simp] theorem State.setPort_check (s : State) (n : Nat) (p : FPort) : (s.setPort n p).check = s.check := rfl
@[simp] theorem State.setPort_selftest (s : State) (n : Nat) (p : FPort) : (s.setPort n p).selftest = s.selftest := rfl
@[simp] theorem State.setPort_tunes (s : State) (n : Nat) (p : FPort) : (s.setPort n p).tunes = s.tunes := rfl
@[simp] theorem State.setPort_pending (s : State) (n : Nat) (p : FPort) : (s.setPort n p).pending = s.pending := rfl

/-! ### onFabric -/

@[simp] theorem State.onFabric_timeBase (s : State) (f : Fabric → Fabric) : (s.onFabric f).timeBase = s.timeBase := rfl
@[simp] theorem State.onFabric_freeCount (s : State) (f : Fabric → Fabric) : (s.onFabric f).freeCount = s.freeCount := rfl
@[simp] theorem State.onFabric_tiles (s : State) (f : Fabric → Fabric) : (s.onFabric f).tiles = s.tiles := rfl
@[simp] theorem State.onFabric_dict (s : State) (f : Fabric → Fabric) : (s.onFabric f).dict = s.dict := rfl
@[simp] theorem State.onFabric_octets (s : State) (f : Fabric → Fabric) : (s.onFabric f).octets = s.octets := rfl
@[simp] theorem State.onFabric_repair (s : State) (f : Fabric → Fabric) : (s.onFabric f).repair = s.repair := rfl
@[simp] theorem State.onFabric_spares (s : State) (f : Fabric → Fabric) : (s.onFabric f).spares = s.spares := rfl
@[simp] theorem State.onFabric_out (s : State) (f : Fabric → Fabric) : (s.onFabric f).out = s.out := rfl
@[simp] theorem State.onFabric_net (s : State) (f : Fabric → Fabric) : (s.onFabric f).net = s.net := rfl
@[simp] theorem State.onFabric_mem (s : State) (f : Fabric → Fabric) : (s.onFabric f).mem = s.mem := rfl
@[simp] theorem State.onFabric_power (s : State) (f : Fabric → Fabric) : (s.onFabric f).power = s.power := rfl
@[simp] theorem State.onFabric_boot (s : State) (f : Fabric → Fabric) : (s.onFabric f).boot = s.boot := rfl
@[simp] theorem State.onFabric_flash (s : State) (f : Fabric → Fabric) : (s.onFabric f).flash = s.flash := rfl
@[simp] theorem State.onFabric_mgmt (s : State) (f : Fabric → Fabric) : (s.onFabric f).mgmt = s.mgmt := rfl
@[simp] theorem State.onFabric_recorder (s : State) (f : Fabric → Fabric) : (s.onFabric f).recorder = s.recorder := rfl
@[simp] theorem State.onFabric_front (s : State) (f : Fabric → Fabric) : (s.onFabric f).front = s.front := rfl
@[simp] theorem State.onFabric_strands (s : State) (f : Fabric → Fabric) : (s.onFabric f).strands = s.strands := rfl
@[simp] theorem State.onFabric_plans (s : State) (f : Fabric → Fabric) : (s.onFabric f).plans = s.plans := rfl
@[simp] theorem State.onFabric_vault (s : State) (f : Fabric → Fabric) : (s.onFabric f).vault = s.vault := rfl
@[simp] theorem State.onFabric_host (s : State) (f : Fabric → Fabric) : (s.onFabric f).host = s.host := rfl
@[simp] theorem State.onFabric_shards (s : State) (f : Fabric → Fabric) : (s.onFabric f).shards = s.shards := rfl
@[simp] theorem State.onFabric_batches (s : State) (f : Fabric → Fabric) : (s.onFabric f).batches = s.batches := rfl
@[simp] theorem State.onFabric_check (s : State) (f : Fabric → Fabric) : (s.onFabric f).check = s.check := rfl
@[simp] theorem State.onFabric_selftest (s : State) (f : Fabric → Fabric) : (s.onFabric f).selftest = s.selftest := rfl
@[simp] theorem State.onFabric_tunes (s : State) (f : Fabric → Fabric) : (s.onFabric f).tunes = s.tunes := rfl
@[simp] theorem State.onFabric_pending (s : State) (f : Fabric → Fabric) : (s.onFabric f).pending = s.pending := rfl

/-! ### setWindow -/

@[simp] theorem State.setWindow_timeBase (s : State) (w : Nat) (v : Window) : (s.setWindow w v).timeBase = s.timeBase := rfl
@[simp] theorem State.setWindow_freeCount (s : State) (w : Nat) (v : Window) : (s.setWindow w v).freeCount = s.freeCount := rfl
@[simp] theorem State.setWindow_tiles (s : State) (w : Nat) (v : Window) : (s.setWindow w v).tiles = s.tiles := rfl
@[simp] theorem State.setWindow_dict (s : State) (w : Nat) (v : Window) : (s.setWindow w v).dict = s.dict := rfl
@[simp] theorem State.setWindow_octets (s : State) (w : Nat) (v : Window) : (s.setWindow w v).octets = s.octets := rfl
@[simp] theorem State.setWindow_repair (s : State) (w : Nat) (v : Window) : (s.setWindow w v).repair = s.repair := rfl
@[simp] theorem State.setWindow_spares (s : State) (w : Nat) (v : Window) : (s.setWindow w v).spares = s.spares := rfl
@[simp] theorem State.setWindow_out (s : State) (w : Nat) (v : Window) : (s.setWindow w v).out = s.out := rfl
@[simp] theorem State.setWindow_net (s : State) (w : Nat) (v : Window) : (s.setWindow w v).net = s.net := rfl
@[simp] theorem State.setWindow_mem (s : State) (w : Nat) (v : Window) : (s.setWindow w v).mem = s.mem := rfl
@[simp] theorem State.setWindow_power (s : State) (w : Nat) (v : Window) : (s.setWindow w v).power = s.power := rfl
@[simp] theorem State.setWindow_boot (s : State) (w : Nat) (v : Window) : (s.setWindow w v).boot = s.boot := rfl
@[simp] theorem State.setWindow_flash (s : State) (w : Nat) (v : Window) : (s.setWindow w v).flash = s.flash := rfl
@[simp] theorem State.setWindow_mgmt (s : State) (w : Nat) (v : Window) : (s.setWindow w v).mgmt = s.mgmt := rfl
@[simp] theorem State.setWindow_recorder (s : State) (w : Nat) (v : Window) : (s.setWindow w v).recorder = s.recorder := rfl
@[simp] theorem State.setWindow_front (s : State) (w : Nat) (v : Window) : (s.setWindow w v).front = s.front := rfl
@[simp] theorem State.setWindow_strands (s : State) (w : Nat) (v : Window) : (s.setWindow w v).strands = s.strands := rfl
@[simp] theorem State.setWindow_plans (s : State) (w : Nat) (v : Window) : (s.setWindow w v).plans = s.plans := rfl
@[simp] theorem State.setWindow_vault (s : State) (w : Nat) (v : Window) : (s.setWindow w v).vault = s.vault := rfl
@[simp] theorem State.setWindow_host (s : State) (w : Nat) (v : Window) : (s.setWindow w v).host = s.host := rfl
@[simp] theorem State.setWindow_shards (s : State) (w : Nat) (v : Window) : (s.setWindow w v).shards = s.shards := rfl
@[simp] theorem State.setWindow_batches (s : State) (w : Nat) (v : Window) : (s.setWindow w v).batches = s.batches := rfl
@[simp] theorem State.setWindow_check (s : State) (w : Nat) (v : Window) : (s.setWindow w v).check = s.check := rfl
@[simp] theorem State.setWindow_selftest (s : State) (w : Nat) (v : Window) : (s.setWindow w v).selftest = s.selftest := rfl
@[simp] theorem State.setWindow_tunes (s : State) (w : Nat) (v : Window) : (s.setWindow w v).tunes = s.tunes := rfl
@[simp] theorem State.setWindow_pending (s : State) (w : Nat) (v : Window) : (s.setWindow w v).pending = s.pending := rfl

/-! ### setTune -/

@[simp] theorem State.setTune_timeBase (s : State) (n : Nat) (x : Tune) : (s.setTune n x).timeBase = s.timeBase := rfl
@[simp] theorem State.setTune_freeCount (s : State) (n : Nat) (x : Tune) : (s.setTune n x).freeCount = s.freeCount := rfl
@[simp] theorem State.setTune_tiles (s : State) (n : Nat) (x : Tune) : (s.setTune n x).tiles = s.tiles := rfl
@[simp] theorem State.setTune_dict (s : State) (n : Nat) (x : Tune) : (s.setTune n x).dict = s.dict := rfl
@[simp] theorem State.setTune_octets (s : State) (n : Nat) (x : Tune) : (s.setTune n x).octets = s.octets := rfl
@[simp] theorem State.setTune_repair (s : State) (n : Nat) (x : Tune) : (s.setTune n x).repair = s.repair := rfl
@[simp] theorem State.setTune_spares (s : State) (n : Nat) (x : Tune) : (s.setTune n x).spares = s.spares := rfl
@[simp] theorem State.setTune_out (s : State) (n : Nat) (x : Tune) : (s.setTune n x).out = s.out := rfl
@[simp] theorem State.setTune_net (s : State) (n : Nat) (x : Tune) : (s.setTune n x).net = s.net := rfl
@[simp] theorem State.setTune_mem (s : State) (n : Nat) (x : Tune) : (s.setTune n x).mem = s.mem := rfl
@[simp] theorem State.setTune_power (s : State) (n : Nat) (x : Tune) : (s.setTune n x).power = s.power := rfl
@[simp] theorem State.setTune_boot (s : State) (n : Nat) (x : Tune) : (s.setTune n x).boot = s.boot := rfl
@[simp] theorem State.setTune_flash (s : State) (n : Nat) (x : Tune) : (s.setTune n x).flash = s.flash := rfl
@[simp] theorem State.setTune_mgmt (s : State) (n : Nat) (x : Tune) : (s.setTune n x).mgmt = s.mgmt := rfl
@[simp] theorem State.setTune_recorder (s : State) (n : Nat) (x : Tune) : (s.setTune n x).recorder = s.recorder := rfl
@[simp] theorem State.setTune_front (s : State) (n : Nat) (x : Tune) : (s.setTune n x).front = s.front := rfl
@[simp] theorem State.setTune_strands (s : State) (n : Nat) (x : Tune) : (s.setTune n x).strands = s.strands := rfl
@[simp] theorem State.setTune_plans (s : State) (n : Nat) (x : Tune) : (s.setTune n x).plans = s.plans := rfl
@[simp] theorem State.setTune_vault (s : State) (n : Nat) (x : Tune) : (s.setTune n x).vault = s.vault := rfl
@[simp] theorem State.setTune_host (s : State) (n : Nat) (x : Tune) : (s.setTune n x).host = s.host := rfl
@[simp] theorem State.setTune_shards (s : State) (n : Nat) (x : Tune) : (s.setTune n x).shards = s.shards := rfl
@[simp] theorem State.setTune_batches (s : State) (n : Nat) (x : Tune) : (s.setTune n x).batches = s.batches := rfl
@[simp] theorem State.setTune_check (s : State) (n : Nat) (x : Tune) : (s.setTune n x).check = s.check := rfl
@[simp] theorem State.setTune_selftest (s : State) (n : Nat) (x : Tune) : (s.setTune n x).selftest = s.selftest := rfl
@[simp] theorem State.setTune_fabric (s : State) (n : Nat) (x : Tune) : (s.setTune n x).fabric = s.fabric := rfl
@[simp] theorem State.setTune_pending (s : State) (n : Nat) (x : Tune) : (s.setTune n x).pending = s.pending := rfl

/-! ### setFlag -/

@[simp] theorem State.setFlag_timeBase (s : State) (v : Word) : (s.setFlag v).timeBase = s.timeBase := rfl
@[simp] theorem State.setFlag_freeCount (s : State) (v : Word) : (s.setFlag v).freeCount = s.freeCount := rfl
@[simp] theorem State.setFlag_tiles (s : State) (v : Word) : (s.setFlag v).tiles = s.tiles := rfl
@[simp] theorem State.setFlag_dict (s : State) (v : Word) : (s.setFlag v).dict = s.dict := rfl
@[simp] theorem State.setFlag_octets (s : State) (v : Word) : (s.setFlag v).octets = s.octets := rfl
@[simp] theorem State.setFlag_repair (s : State) (v : Word) : (s.setFlag v).repair = s.repair := rfl
@[simp] theorem State.setFlag_spares (s : State) (v : Word) : (s.setFlag v).spares = s.spares := rfl
@[simp] theorem State.setFlag_out (s : State) (v : Word) : (s.setFlag v).out = s.out := rfl
@[simp] theorem State.setFlag_mem (s : State) (v : Word) : (s.setFlag v).mem = s.mem := rfl
@[simp] theorem State.setFlag_power (s : State) (v : Word) : (s.setFlag v).power = s.power := rfl
@[simp] theorem State.setFlag_boot (s : State) (v : Word) : (s.setFlag v).boot = s.boot := rfl
@[simp] theorem State.setFlag_flash (s : State) (v : Word) : (s.setFlag v).flash = s.flash := rfl
@[simp] theorem State.setFlag_mgmt (s : State) (v : Word) : (s.setFlag v).mgmt = s.mgmt := rfl
@[simp] theorem State.setFlag_recorder (s : State) (v : Word) : (s.setFlag v).recorder = s.recorder := rfl
@[simp] theorem State.setFlag_front (s : State) (v : Word) : (s.setFlag v).front = s.front := rfl
@[simp] theorem State.setFlag_strands (s : State) (v : Word) : (s.setFlag v).strands = s.strands := rfl
@[simp] theorem State.setFlag_plans (s : State) (v : Word) : (s.setFlag v).plans = s.plans := rfl
@[simp] theorem State.setFlag_vault (s : State) (v : Word) : (s.setFlag v).vault = s.vault := rfl
@[simp] theorem State.setFlag_host (s : State) (v : Word) : (s.setFlag v).host = s.host := rfl
@[simp] theorem State.setFlag_shards (s : State) (v : Word) : (s.setFlag v).shards = s.shards := rfl
@[simp] theorem State.setFlag_batches (s : State) (v : Word) : (s.setFlag v).batches = s.batches := rfl
@[simp] theorem State.setFlag_check (s : State) (v : Word) : (s.setFlag v).check = s.check := rfl
@[simp] theorem State.setFlag_selftest (s : State) (v : Word) : (s.setFlag v).selftest = s.selftest := rfl
@[simp] theorem State.setFlag_fabric (s : State) (v : Word) : (s.setFlag v).fabric = s.fabric := rfl
@[simp] theorem State.setFlag_tunes (s : State) (v : Word) : (s.setFlag v).tunes = s.tunes := rfl
@[simp] theorem State.setFlag_pending (s : State) (v : Word) : (s.setFlag v).pending = s.pending := rfl

/-! ### addCount -/

@[simp] theorem State.addCount_timeBase (s : State) (c : Nat) (v : Word) : (s.addCount c v).timeBase = s.timeBase := rfl
@[simp] theorem State.addCount_freeCount (s : State) (c : Nat) (v : Word) : (s.addCount c v).freeCount = s.freeCount := rfl
@[simp] theorem State.addCount_tiles (s : State) (c : Nat) (v : Word) : (s.addCount c v).tiles = s.tiles := rfl
@[simp] theorem State.addCount_dict (s : State) (c : Nat) (v : Word) : (s.addCount c v).dict = s.dict := rfl
@[simp] theorem State.addCount_octets (s : State) (c : Nat) (v : Word) : (s.addCount c v).octets = s.octets := rfl
@[simp] theorem State.addCount_repair (s : State) (c : Nat) (v : Word) : (s.addCount c v).repair = s.repair := rfl
@[simp] theorem State.addCount_spares (s : State) (c : Nat) (v : Word) : (s.addCount c v).spares = s.spares := rfl
@[simp] theorem State.addCount_out (s : State) (c : Nat) (v : Word) : (s.addCount c v).out = s.out := rfl
@[simp] theorem State.addCount_mem (s : State) (c : Nat) (v : Word) : (s.addCount c v).mem = s.mem := rfl
@[simp] theorem State.addCount_power (s : State) (c : Nat) (v : Word) : (s.addCount c v).power = s.power := rfl
@[simp] theorem State.addCount_boot (s : State) (c : Nat) (v : Word) : (s.addCount c v).boot = s.boot := rfl
@[simp] theorem State.addCount_flash (s : State) (c : Nat) (v : Word) : (s.addCount c v).flash = s.flash := rfl
@[simp] theorem State.addCount_mgmt (s : State) (c : Nat) (v : Word) : (s.addCount c v).mgmt = s.mgmt := rfl
@[simp] theorem State.addCount_recorder (s : State) (c : Nat) (v : Word) : (s.addCount c v).recorder = s.recorder := rfl
@[simp] theorem State.addCount_front (s : State) (c : Nat) (v : Word) : (s.addCount c v).front = s.front := rfl
@[simp] theorem State.addCount_strands (s : State) (c : Nat) (v : Word) : (s.addCount c v).strands = s.strands := rfl
@[simp] theorem State.addCount_plans (s : State) (c : Nat) (v : Word) : (s.addCount c v).plans = s.plans := rfl
@[simp] theorem State.addCount_vault (s : State) (c : Nat) (v : Word) : (s.addCount c v).vault = s.vault := rfl
@[simp] theorem State.addCount_host (s : State) (c : Nat) (v : Word) : (s.addCount c v).host = s.host := rfl
@[simp] theorem State.addCount_shards (s : State) (c : Nat) (v : Word) : (s.addCount c v).shards = s.shards := rfl
@[simp] theorem State.addCount_batches (s : State) (c : Nat) (v : Word) : (s.addCount c v).batches = s.batches := rfl
@[simp] theorem State.addCount_check (s : State) (c : Nat) (v : Word) : (s.addCount c v).check = s.check := rfl
@[simp] theorem State.addCount_selftest (s : State) (c : Nat) (v : Word) : (s.addCount c v).selftest = s.selftest := rfl
@[simp] theorem State.addCount_fabric (s : State) (c : Nat) (v : Word) : (s.addCount c v).fabric = s.fabric := rfl
@[simp] theorem State.addCount_tunes (s : State) (c : Nat) (v : Word) : (s.addCount c v).tunes = s.tunes := rfl
@[simp] theorem State.addCount_pending (s : State) (c : Nat) (v : Word) : (s.addCount c v).pending = s.pending := rfl

/-! ### setBarrier -/

@[simp] theorem State.setBarrier_timeBase (s : State) (b : Nat) (v : Barrier) : (s.setBarrier b v).timeBase = s.timeBase := rfl
@[simp] theorem State.setBarrier_freeCount (s : State) (b : Nat) (v : Barrier) : (s.setBarrier b v).freeCount = s.freeCount := rfl
@[simp] theorem State.setBarrier_tiles (s : State) (b : Nat) (v : Barrier) : (s.setBarrier b v).tiles = s.tiles := rfl
@[simp] theorem State.setBarrier_dict (s : State) (b : Nat) (v : Barrier) : (s.setBarrier b v).dict = s.dict := rfl
@[simp] theorem State.setBarrier_octets (s : State) (b : Nat) (v : Barrier) : (s.setBarrier b v).octets = s.octets := rfl
@[simp] theorem State.setBarrier_repair (s : State) (b : Nat) (v : Barrier) : (s.setBarrier b v).repair = s.repair := rfl
@[simp] theorem State.setBarrier_spares (s : State) (b : Nat) (v : Barrier) : (s.setBarrier b v).spares = s.spares := rfl
@[simp] theorem State.setBarrier_out (s : State) (b : Nat) (v : Barrier) : (s.setBarrier b v).out = s.out := rfl
@[simp] theorem State.setBarrier_mem (s : State) (b : Nat) (v : Barrier) : (s.setBarrier b v).mem = s.mem := rfl
@[simp] theorem State.setBarrier_power (s : State) (b : Nat) (v : Barrier) : (s.setBarrier b v).power = s.power := rfl
@[simp] theorem State.setBarrier_boot (s : State) (b : Nat) (v : Barrier) : (s.setBarrier b v).boot = s.boot := rfl
@[simp] theorem State.setBarrier_flash (s : State) (b : Nat) (v : Barrier) : (s.setBarrier b v).flash = s.flash := rfl
@[simp] theorem State.setBarrier_mgmt (s : State) (b : Nat) (v : Barrier) : (s.setBarrier b v).mgmt = s.mgmt := rfl
@[simp] theorem State.setBarrier_recorder (s : State) (b : Nat) (v : Barrier) : (s.setBarrier b v).recorder = s.recorder := rfl
@[simp] theorem State.setBarrier_front (s : State) (b : Nat) (v : Barrier) : (s.setBarrier b v).front = s.front := rfl
@[simp] theorem State.setBarrier_strands (s : State) (b : Nat) (v : Barrier) : (s.setBarrier b v).strands = s.strands := rfl
@[simp] theorem State.setBarrier_plans (s : State) (b : Nat) (v : Barrier) : (s.setBarrier b v).plans = s.plans := rfl
@[simp] theorem State.setBarrier_vault (s : State) (b : Nat) (v : Barrier) : (s.setBarrier b v).vault = s.vault := rfl
@[simp] theorem State.setBarrier_host (s : State) (b : Nat) (v : Barrier) : (s.setBarrier b v).host = s.host := rfl
@[simp] theorem State.setBarrier_shards (s : State) (b : Nat) (v : Barrier) : (s.setBarrier b v).shards = s.shards := rfl
@[simp] theorem State.setBarrier_batches (s : State) (b : Nat) (v : Barrier) : (s.setBarrier b v).batches = s.batches := rfl
@[simp] theorem State.setBarrier_check (s : State) (b : Nat) (v : Barrier) : (s.setBarrier b v).check = s.check := rfl
@[simp] theorem State.setBarrier_selftest (s : State) (b : Nat) (v : Barrier) : (s.setBarrier b v).selftest = s.selftest := rfl
@[simp] theorem State.setBarrier_fabric (s : State) (b : Nat) (v : Barrier) : (s.setBarrier b v).fabric = s.fabric := rfl
@[simp] theorem State.setBarrier_tunes (s : State) (b : Nat) (v : Barrier) : (s.setBarrier b v).tunes = s.tunes := rfl
@[simp] theorem State.setBarrier_pending (s : State) (b : Nat) (v : Barrier) : (s.setBarrier b v).pending = s.pending := rfl

/-! ### setRflow -/

@[simp] theorem State.setRflow_timeBase (s : State) (v : RFlow) : (s.setRflow v).timeBase = s.timeBase := rfl
@[simp] theorem State.setRflow_freeCount (s : State) (v : RFlow) : (s.setRflow v).freeCount = s.freeCount := rfl
@[simp] theorem State.setRflow_tiles (s : State) (v : RFlow) : (s.setRflow v).tiles = s.tiles := rfl
@[simp] theorem State.setRflow_dict (s : State) (v : RFlow) : (s.setRflow v).dict = s.dict := rfl
@[simp] theorem State.setRflow_octets (s : State) (v : RFlow) : (s.setRflow v).octets = s.octets := rfl
@[simp] theorem State.setRflow_repair (s : State) (v : RFlow) : (s.setRflow v).repair = s.repair := rfl
@[simp] theorem State.setRflow_spares (s : State) (v : RFlow) : (s.setRflow v).spares = s.spares := rfl
@[simp] theorem State.setRflow_out (s : State) (v : RFlow) : (s.setRflow v).out = s.out := rfl
@[simp] theorem State.setRflow_net (s : State) (v : RFlow) : (s.setRflow v).net = s.net := rfl
@[simp] theorem State.setRflow_mem (s : State) (v : RFlow) : (s.setRflow v).mem = s.mem := rfl
@[simp] theorem State.setRflow_power (s : State) (v : RFlow) : (s.setRflow v).power = s.power := rfl
@[simp] theorem State.setRflow_boot (s : State) (v : RFlow) : (s.setRflow v).boot = s.boot := rfl
@[simp] theorem State.setRflow_flash (s : State) (v : RFlow) : (s.setRflow v).flash = s.flash := rfl
@[simp] theorem State.setRflow_mgmt (s : State) (v : RFlow) : (s.setRflow v).mgmt = s.mgmt := rfl
@[simp] theorem State.setRflow_recorder (s : State) (v : RFlow) : (s.setRflow v).recorder = s.recorder := rfl
@[simp] theorem State.setRflow_front (s : State) (v : RFlow) : (s.setRflow v).front = s.front := rfl
@[simp] theorem State.setRflow_strands (s : State) (v : RFlow) : (s.setRflow v).strands = s.strands := rfl
@[simp] theorem State.setRflow_plans (s : State) (v : RFlow) : (s.setRflow v).plans = s.plans := rfl
@[simp] theorem State.setRflow_vault (s : State) (v : RFlow) : (s.setRflow v).vault = s.vault := rfl
@[simp] theorem State.setRflow_host (s : State) (v : RFlow) : (s.setRflow v).host = s.host := rfl
@[simp] theorem State.setRflow_shards (s : State) (v : RFlow) : (s.setRflow v).shards = s.shards := rfl
@[simp] theorem State.setRflow_batches (s : State) (v : RFlow) : (s.setRflow v).batches = s.batches := rfl
@[simp] theorem State.setRflow_check (s : State) (v : RFlow) : (s.setRflow v).check = s.check := rfl
@[simp] theorem State.setRflow_selftest (s : State) (v : RFlow) : (s.setRflow v).selftest = s.selftest := rfl
@[simp] theorem State.setRflow_tunes (s : State) (v : RFlow) : (s.setRflow v).tunes = s.tunes := rfl
@[simp] theorem State.setRflow_pending (s : State) (v : RFlow) : (s.setRflow v).pending = s.pending := rfl

/-! ### onShards -/

@[simp] theorem State.onShards_timeBase (s : State) (f : Shard → Shard) : (s.onShards f).timeBase = s.timeBase := rfl
@[simp] theorem State.onShards_freeCount (s : State) (f : Shard → Shard) : (s.onShards f).freeCount = s.freeCount := rfl
@[simp] theorem State.onShards_tiles (s : State) (f : Shard → Shard) : (s.onShards f).tiles = s.tiles := rfl
@[simp] theorem State.onShards_dict (s : State) (f : Shard → Shard) : (s.onShards f).dict = s.dict := rfl
@[simp] theorem State.onShards_octets (s : State) (f : Shard → Shard) : (s.onShards f).octets = s.octets := rfl
@[simp] theorem State.onShards_repair (s : State) (f : Shard → Shard) : (s.onShards f).repair = s.repair := rfl
@[simp] theorem State.onShards_spares (s : State) (f : Shard → Shard) : (s.onShards f).spares = s.spares := rfl
@[simp] theorem State.onShards_out (s : State) (f : Shard → Shard) : (s.onShards f).out = s.out := rfl
@[simp] theorem State.onShards_net (s : State) (f : Shard → Shard) : (s.onShards f).net = s.net := rfl
@[simp] theorem State.onShards_mem (s : State) (f : Shard → Shard) : (s.onShards f).mem = s.mem := rfl
@[simp] theorem State.onShards_power (s : State) (f : Shard → Shard) : (s.onShards f).power = s.power := rfl
@[simp] theorem State.onShards_boot (s : State) (f : Shard → Shard) : (s.onShards f).boot = s.boot := rfl
@[simp] theorem State.onShards_flash (s : State) (f : Shard → Shard) : (s.onShards f).flash = s.flash := rfl
@[simp] theorem State.onShards_mgmt (s : State) (f : Shard → Shard) : (s.onShards f).mgmt = s.mgmt := rfl
@[simp] theorem State.onShards_recorder (s : State) (f : Shard → Shard) : (s.onShards f).recorder = s.recorder := rfl
@[simp] theorem State.onShards_front (s : State) (f : Shard → Shard) : (s.onShards f).front = s.front := rfl
@[simp] theorem State.onShards_strands (s : State) (f : Shard → Shard) : (s.onShards f).strands = s.strands := rfl
@[simp] theorem State.onShards_plans (s : State) (f : Shard → Shard) : (s.onShards f).plans = s.plans := rfl
@[simp] theorem State.onShards_vault (s : State) (f : Shard → Shard) : (s.onShards f).vault = s.vault := rfl
@[simp] theorem State.onShards_host (s : State) (f : Shard → Shard) : (s.onShards f).host = s.host := rfl
@[simp] theorem State.onShards_batches (s : State) (f : Shard → Shard) : (s.onShards f).batches = s.batches := rfl
@[simp] theorem State.onShards_check (s : State) (f : Shard → Shard) : (s.onShards f).check = s.check := rfl
@[simp] theorem State.onShards_selftest (s : State) (f : Shard → Shard) : (s.onShards f).selftest = s.selftest := rfl
@[simp] theorem State.onShards_fabric (s : State) (f : Shard → Shard) : (s.onShards f).fabric = s.fabric := rfl
@[simp] theorem State.onShards_tunes (s : State) (f : Shard → Shard) : (s.onShards f).tunes = s.tunes := rfl
@[simp] theorem State.onShards_pending (s : State) (f : Shard → Shard) : (s.onShards f).pending = s.pending := rfl

/-! ### setQuiesce -/

@[simp] theorem State.setQuiesce_timeBase (s : State) (q : Quiesce) : (s.setQuiesce q).timeBase = s.timeBase := rfl
@[simp] theorem State.setQuiesce_freeCount (s : State) (q : Quiesce) : (s.setQuiesce q).freeCount = s.freeCount := rfl
@[simp] theorem State.setQuiesce_tiles (s : State) (q : Quiesce) : (s.setQuiesce q).tiles = s.tiles := rfl
@[simp] theorem State.setQuiesce_dict (s : State) (q : Quiesce) : (s.setQuiesce q).dict = s.dict := rfl
@[simp] theorem State.setQuiesce_octets (s : State) (q : Quiesce) : (s.setQuiesce q).octets = s.octets := rfl
@[simp] theorem State.setQuiesce_repair (s : State) (q : Quiesce) : (s.setQuiesce q).repair = s.repair := rfl
@[simp] theorem State.setQuiesce_spares (s : State) (q : Quiesce) : (s.setQuiesce q).spares = s.spares := rfl
@[simp] theorem State.setQuiesce_out (s : State) (q : Quiesce) : (s.setQuiesce q).out = s.out := rfl
@[simp] theorem State.setQuiesce_net (s : State) (q : Quiesce) : (s.setQuiesce q).net = s.net := rfl
@[simp] theorem State.setQuiesce_mem (s : State) (q : Quiesce) : (s.setQuiesce q).mem = s.mem := rfl
@[simp] theorem State.setQuiesce_power (s : State) (q : Quiesce) : (s.setQuiesce q).power = s.power := rfl
@[simp] theorem State.setQuiesce_boot (s : State) (q : Quiesce) : (s.setQuiesce q).boot = s.boot := rfl
@[simp] theorem State.setQuiesce_flash (s : State) (q : Quiesce) : (s.setQuiesce q).flash = s.flash := rfl
@[simp] theorem State.setQuiesce_mgmt (s : State) (q : Quiesce) : (s.setQuiesce q).mgmt = s.mgmt := rfl
@[simp] theorem State.setQuiesce_recorder (s : State) (q : Quiesce) : (s.setQuiesce q).recorder = s.recorder := rfl
@[simp] theorem State.setQuiesce_strands (s : State) (q : Quiesce) : (s.setQuiesce q).strands = s.strands := rfl
@[simp] theorem State.setQuiesce_plans (s : State) (q : Quiesce) : (s.setQuiesce q).plans = s.plans := rfl
@[simp] theorem State.setQuiesce_vault (s : State) (q : Quiesce) : (s.setQuiesce q).vault = s.vault := rfl
@[simp] theorem State.setQuiesce_host (s : State) (q : Quiesce) : (s.setQuiesce q).host = s.host := rfl
@[simp] theorem State.setQuiesce_shards (s : State) (q : Quiesce) : (s.setQuiesce q).shards = s.shards := rfl
@[simp] theorem State.setQuiesce_batches (s : State) (q : Quiesce) : (s.setQuiesce q).batches = s.batches := rfl
@[simp] theorem State.setQuiesce_check (s : State) (q : Quiesce) : (s.setQuiesce q).check = s.check := rfl
@[simp] theorem State.setQuiesce_selftest (s : State) (q : Quiesce) : (s.setQuiesce q).selftest = s.selftest := rfl
@[simp] theorem State.setQuiesce_fabric (s : State) (q : Quiesce) : (s.setQuiesce q).fabric = s.fabric := rfl
@[simp] theorem State.setQuiesce_tunes (s : State) (q : Quiesce) : (s.setQuiesce q).tunes = s.tunes := rfl
@[simp] theorem State.setQuiesce_pending (s : State) (q : Quiesce) : (s.setQuiesce q).pending = s.pending := rfl

/-! ### onRecorder -/

@[simp] theorem State.onRecorder_timeBase (s : State) (f : Recorder → Recorder) : (s.onRecorder f).timeBase = s.timeBase := rfl
@[simp] theorem State.onRecorder_freeCount (s : State) (f : Recorder → Recorder) : (s.onRecorder f).freeCount = s.freeCount := rfl
@[simp] theorem State.onRecorder_tiles (s : State) (f : Recorder → Recorder) : (s.onRecorder f).tiles = s.tiles := rfl
@[simp] theorem State.onRecorder_dict (s : State) (f : Recorder → Recorder) : (s.onRecorder f).dict = s.dict := rfl
@[simp] theorem State.onRecorder_octets (s : State) (f : Recorder → Recorder) : (s.onRecorder f).octets = s.octets := rfl
@[simp] theorem State.onRecorder_repair (s : State) (f : Recorder → Recorder) : (s.onRecorder f).repair = s.repair := rfl
@[simp] theorem State.onRecorder_spares (s : State) (f : Recorder → Recorder) : (s.onRecorder f).spares = s.spares := rfl
@[simp] theorem State.onRecorder_out (s : State) (f : Recorder → Recorder) : (s.onRecorder f).out = s.out := rfl
@[simp] theorem State.onRecorder_net (s : State) (f : Recorder → Recorder) : (s.onRecorder f).net = s.net := rfl
@[simp] theorem State.onRecorder_mem (s : State) (f : Recorder → Recorder) : (s.onRecorder f).mem = s.mem := rfl
@[simp] theorem State.onRecorder_power (s : State) (f : Recorder → Recorder) : (s.onRecorder f).power = s.power := rfl
@[simp] theorem State.onRecorder_boot (s : State) (f : Recorder → Recorder) : (s.onRecorder f).boot = s.boot := rfl
@[simp] theorem State.onRecorder_flash (s : State) (f : Recorder → Recorder) : (s.onRecorder f).flash = s.flash := rfl
@[simp] theorem State.onRecorder_mgmt (s : State) (f : Recorder → Recorder) : (s.onRecorder f).mgmt = s.mgmt := rfl
@[simp] theorem State.onRecorder_front (s : State) (f : Recorder → Recorder) : (s.onRecorder f).front = s.front := rfl
@[simp] theorem State.onRecorder_strands (s : State) (f : Recorder → Recorder) : (s.onRecorder f).strands = s.strands := rfl
@[simp] theorem State.onRecorder_plans (s : State) (f : Recorder → Recorder) : (s.onRecorder f).plans = s.plans := rfl
@[simp] theorem State.onRecorder_vault (s : State) (f : Recorder → Recorder) : (s.onRecorder f).vault = s.vault := rfl
@[simp] theorem State.onRecorder_host (s : State) (f : Recorder → Recorder) : (s.onRecorder f).host = s.host := rfl
@[simp] theorem State.onRecorder_shards (s : State) (f : Recorder → Recorder) : (s.onRecorder f).shards = s.shards := rfl
@[simp] theorem State.onRecorder_batches (s : State) (f : Recorder → Recorder) : (s.onRecorder f).batches = s.batches := rfl
@[simp] theorem State.onRecorder_check (s : State) (f : Recorder → Recorder) : (s.onRecorder f).check = s.check := rfl
@[simp] theorem State.onRecorder_selftest (s : State) (f : Recorder → Recorder) : (s.onRecorder f).selftest = s.selftest := rfl
@[simp] theorem State.onRecorder_fabric (s : State) (f : Recorder → Recorder) : (s.onRecorder f).fabric = s.fabric := rfl
@[simp] theorem State.onRecorder_tunes (s : State) (f : Recorder → Recorder) : (s.onRecorder f).tunes = s.tunes := rfl
@[simp] theorem State.onRecorder_pending (s : State) (f : Recorder → Recorder) : (s.onRecorder f).pending = s.pending := rfl

/-! ### onPower -/

@[simp] theorem State.onPower_timeBase (s : State) (f : Power → Power) : (s.onPower f).timeBase = s.timeBase := rfl
@[simp] theorem State.onPower_freeCount (s : State) (f : Power → Power) : (s.onPower f).freeCount = s.freeCount := rfl
@[simp] theorem State.onPower_tiles (s : State) (f : Power → Power) : (s.onPower f).tiles = s.tiles := rfl
@[simp] theorem State.onPower_dict (s : State) (f : Power → Power) : (s.onPower f).dict = s.dict := rfl
@[simp] theorem State.onPower_octets (s : State) (f : Power → Power) : (s.onPower f).octets = s.octets := rfl
@[simp] theorem State.onPower_repair (s : State) (f : Power → Power) : (s.onPower f).repair = s.repair := rfl
@[simp] theorem State.onPower_spares (s : State) (f : Power → Power) : (s.onPower f).spares = s.spares := rfl
@[simp] theorem State.onPower_out (s : State) (f : Power → Power) : (s.onPower f).out = s.out := rfl
@[simp] theorem State.onPower_net (s : State) (f : Power → Power) : (s.onPower f).net = s.net := rfl
@[simp] theorem State.onPower_mem (s : State) (f : Power → Power) : (s.onPower f).mem = s.mem := rfl
@[simp] theorem State.onPower_boot (s : State) (f : Power → Power) : (s.onPower f).boot = s.boot := rfl
@[simp] theorem State.onPower_flash (s : State) (f : Power → Power) : (s.onPower f).flash = s.flash := rfl
@[simp] theorem State.onPower_mgmt (s : State) (f : Power → Power) : (s.onPower f).mgmt = s.mgmt := rfl
@[simp] theorem State.onPower_recorder (s : State) (f : Power → Power) : (s.onPower f).recorder = s.recorder := rfl
@[simp] theorem State.onPower_front (s : State) (f : Power → Power) : (s.onPower f).front = s.front := rfl
@[simp] theorem State.onPower_strands (s : State) (f : Power → Power) : (s.onPower f).strands = s.strands := rfl
@[simp] theorem State.onPower_plans (s : State) (f : Power → Power) : (s.onPower f).plans = s.plans := rfl
@[simp] theorem State.onPower_vault (s : State) (f : Power → Power) : (s.onPower f).vault = s.vault := rfl
@[simp] theorem State.onPower_host (s : State) (f : Power → Power) : (s.onPower f).host = s.host := rfl
@[simp] theorem State.onPower_shards (s : State) (f : Power → Power) : (s.onPower f).shards = s.shards := rfl
@[simp] theorem State.onPower_batches (s : State) (f : Power → Power) : (s.onPower f).batches = s.batches := rfl
@[simp] theorem State.onPower_check (s : State) (f : Power → Power) : (s.onPower f).check = s.check := rfl
@[simp] theorem State.onPower_selftest (s : State) (f : Power → Power) : (s.onPower f).selftest = s.selftest := rfl
@[simp] theorem State.onPower_fabric (s : State) (f : Power → Power) : (s.onPower f).fabric = s.fabric := rfl
@[simp] theorem State.onPower_tunes (s : State) (f : Power → Power) : (s.onPower f).tunes = s.tunes := rfl
@[simp] theorem State.onPower_pending (s : State) (f : Power → Power) : (s.onPower f).pending = s.pending := rfl

/-! ### onHost -/

@[simp] theorem State.onHost_timeBase (s : State) (f : HostLink → HostLink) : (s.onHost f).timeBase = s.timeBase := rfl
@[simp] theorem State.onHost_freeCount (s : State) (f : HostLink → HostLink) : (s.onHost f).freeCount = s.freeCount := rfl
@[simp] theorem State.onHost_tiles (s : State) (f : HostLink → HostLink) : (s.onHost f).tiles = s.tiles := rfl
@[simp] theorem State.onHost_dict (s : State) (f : HostLink → HostLink) : (s.onHost f).dict = s.dict := rfl
@[simp] theorem State.onHost_octets (s : State) (f : HostLink → HostLink) : (s.onHost f).octets = s.octets := rfl
@[simp] theorem State.onHost_repair (s : State) (f : HostLink → HostLink) : (s.onHost f).repair = s.repair := rfl
@[simp] theorem State.onHost_spares (s : State) (f : HostLink → HostLink) : (s.onHost f).spares = s.spares := rfl
@[simp] theorem State.onHost_out (s : State) (f : HostLink → HostLink) : (s.onHost f).out = s.out := rfl
@[simp] theorem State.onHost_net (s : State) (f : HostLink → HostLink) : (s.onHost f).net = s.net := rfl
@[simp] theorem State.onHost_mem (s : State) (f : HostLink → HostLink) : (s.onHost f).mem = s.mem := rfl
@[simp] theorem State.onHost_power (s : State) (f : HostLink → HostLink) : (s.onHost f).power = s.power := rfl
@[simp] theorem State.onHost_boot (s : State) (f : HostLink → HostLink) : (s.onHost f).boot = s.boot := rfl
@[simp] theorem State.onHost_flash (s : State) (f : HostLink → HostLink) : (s.onHost f).flash = s.flash := rfl
@[simp] theorem State.onHost_mgmt (s : State) (f : HostLink → HostLink) : (s.onHost f).mgmt = s.mgmt := rfl
@[simp] theorem State.onHost_recorder (s : State) (f : HostLink → HostLink) : (s.onHost f).recorder = s.recorder := rfl
@[simp] theorem State.onHost_front (s : State) (f : HostLink → HostLink) : (s.onHost f).front = s.front := rfl
@[simp] theorem State.onHost_strands (s : State) (f : HostLink → HostLink) : (s.onHost f).strands = s.strands := rfl
@[simp] theorem State.onHost_plans (s : State) (f : HostLink → HostLink) : (s.onHost f).plans = s.plans := rfl
@[simp] theorem State.onHost_vault (s : State) (f : HostLink → HostLink) : (s.onHost f).vault = s.vault := rfl
@[simp] theorem State.onHost_shards (s : State) (f : HostLink → HostLink) : (s.onHost f).shards = s.shards := rfl
@[simp] theorem State.onHost_batches (s : State) (f : HostLink → HostLink) : (s.onHost f).batches = s.batches := rfl
@[simp] theorem State.onHost_check (s : State) (f : HostLink → HostLink) : (s.onHost f).check = s.check := rfl
@[simp] theorem State.onHost_selftest (s : State) (f : HostLink → HostLink) : (s.onHost f).selftest = s.selftest := rfl
@[simp] theorem State.onHost_fabric (s : State) (f : HostLink → HostLink) : (s.onHost f).fabric = s.fabric := rfl
@[simp] theorem State.onHost_tunes (s : State) (f : HostLink → HostLink) : (s.onHost f).tunes = s.tunes := rfl
@[simp] theorem State.onHost_pending (s : State) (f : HostLink → HostLink) : (s.onHost f).pending = s.pending := rfl

/-! ### onMgmt -/

@[simp] theorem State.onMgmt_timeBase (s : State) (f : Mgmt → Mgmt) : (s.onMgmt f).timeBase = s.timeBase := rfl
@[simp] theorem State.onMgmt_freeCount (s : State) (f : Mgmt → Mgmt) : (s.onMgmt f).freeCount = s.freeCount := rfl
@[simp] theorem State.onMgmt_tiles (s : State) (f : Mgmt → Mgmt) : (s.onMgmt f).tiles = s.tiles := rfl
@[simp] theorem State.onMgmt_dict (s : State) (f : Mgmt → Mgmt) : (s.onMgmt f).dict = s.dict := rfl
@[simp] theorem State.onMgmt_octets (s : State) (f : Mgmt → Mgmt) : (s.onMgmt f).octets = s.octets := rfl
@[simp] theorem State.onMgmt_repair (s : State) (f : Mgmt → Mgmt) : (s.onMgmt f).repair = s.repair := rfl
@[simp] theorem State.onMgmt_spares (s : State) (f : Mgmt → Mgmt) : (s.onMgmt f).spares = s.spares := rfl
@[simp] theorem State.onMgmt_out (s : State) (f : Mgmt → Mgmt) : (s.onMgmt f).out = s.out := rfl
@[simp] theorem State.onMgmt_net (s : State) (f : Mgmt → Mgmt) : (s.onMgmt f).net = s.net := rfl
@[simp] theorem State.onMgmt_mem (s : State) (f : Mgmt → Mgmt) : (s.onMgmt f).mem = s.mem := rfl
@[simp] theorem State.onMgmt_power (s : State) (f : Mgmt → Mgmt) : (s.onMgmt f).power = s.power := rfl
@[simp] theorem State.onMgmt_boot (s : State) (f : Mgmt → Mgmt) : (s.onMgmt f).boot = s.boot := rfl
@[simp] theorem State.onMgmt_flash (s : State) (f : Mgmt → Mgmt) : (s.onMgmt f).flash = s.flash := rfl
@[simp] theorem State.onMgmt_recorder (s : State) (f : Mgmt → Mgmt) : (s.onMgmt f).recorder = s.recorder := rfl
@[simp] theorem State.onMgmt_front (s : State) (f : Mgmt → Mgmt) : (s.onMgmt f).front = s.front := rfl
@[simp] theorem State.onMgmt_strands (s : State) (f : Mgmt → Mgmt) : (s.onMgmt f).strands = s.strands := rfl
@[simp] theorem State.onMgmt_plans (s : State) (f : Mgmt → Mgmt) : (s.onMgmt f).plans = s.plans := rfl
@[simp] theorem State.onMgmt_vault (s : State) (f : Mgmt → Mgmt) : (s.onMgmt f).vault = s.vault := rfl
@[simp] theorem State.onMgmt_host (s : State) (f : Mgmt → Mgmt) : (s.onMgmt f).host = s.host := rfl
@[simp] theorem State.onMgmt_shards (s : State) (f : Mgmt → Mgmt) : (s.onMgmt f).shards = s.shards := rfl
@[simp] theorem State.onMgmt_batches (s : State) (f : Mgmt → Mgmt) : (s.onMgmt f).batches = s.batches := rfl
@[simp] theorem State.onMgmt_check (s : State) (f : Mgmt → Mgmt) : (s.onMgmt f).check = s.check := rfl
@[simp] theorem State.onMgmt_selftest (s : State) (f : Mgmt → Mgmt) : (s.onMgmt f).selftest = s.selftest := rfl
@[simp] theorem State.onMgmt_fabric (s : State) (f : Mgmt → Mgmt) : (s.onMgmt f).fabric = s.fabric := rfl
@[simp] theorem State.onMgmt_tunes (s : State) (f : Mgmt → Mgmt) : (s.onMgmt f).tunes = s.tunes := rfl
@[simp] theorem State.onMgmt_pending (s : State) (f : Mgmt → Mgmt) : (s.onMgmt f).pending = s.pending := rfl

/-! ### onFront -/

@[simp] theorem State.onFront_timeBase (s : State) (f : Front → Front) : (s.onFront f).timeBase = s.timeBase := rfl
@[simp] theorem State.onFront_freeCount (s : State) (f : Front → Front) : (s.onFront f).freeCount = s.freeCount := rfl
@[simp] theorem State.onFront_tiles (s : State) (f : Front → Front) : (s.onFront f).tiles = s.tiles := rfl
@[simp] theorem State.onFront_dict (s : State) (f : Front → Front) : (s.onFront f).dict = s.dict := rfl
@[simp] theorem State.onFront_octets (s : State) (f : Front → Front) : (s.onFront f).octets = s.octets := rfl
@[simp] theorem State.onFront_repair (s : State) (f : Front → Front) : (s.onFront f).repair = s.repair := rfl
@[simp] theorem State.onFront_spares (s : State) (f : Front → Front) : (s.onFront f).spares = s.spares := rfl
@[simp] theorem State.onFront_out (s : State) (f : Front → Front) : (s.onFront f).out = s.out := rfl
@[simp] theorem State.onFront_net (s : State) (f : Front → Front) : (s.onFront f).net = s.net := rfl
@[simp] theorem State.onFront_mem (s : State) (f : Front → Front) : (s.onFront f).mem = s.mem := rfl
@[simp] theorem State.onFront_power (s : State) (f : Front → Front) : (s.onFront f).power = s.power := rfl
@[simp] theorem State.onFront_boot (s : State) (f : Front → Front) : (s.onFront f).boot = s.boot := rfl
@[simp] theorem State.onFront_flash (s : State) (f : Front → Front) : (s.onFront f).flash = s.flash := rfl
@[simp] theorem State.onFront_mgmt (s : State) (f : Front → Front) : (s.onFront f).mgmt = s.mgmt := rfl
@[simp] theorem State.onFront_recorder (s : State) (f : Front → Front) : (s.onFront f).recorder = s.recorder := rfl
@[simp] theorem State.onFront_strands (s : State) (f : Front → Front) : (s.onFront f).strands = s.strands := rfl
@[simp] theorem State.onFront_plans (s : State) (f : Front → Front) : (s.onFront f).plans = s.plans := rfl
@[simp] theorem State.onFront_vault (s : State) (f : Front → Front) : (s.onFront f).vault = s.vault := rfl
@[simp] theorem State.onFront_host (s : State) (f : Front → Front) : (s.onFront f).host = s.host := rfl
@[simp] theorem State.onFront_shards (s : State) (f : Front → Front) : (s.onFront f).shards = s.shards := rfl
@[simp] theorem State.onFront_batches (s : State) (f : Front → Front) : (s.onFront f).batches = s.batches := rfl
@[simp] theorem State.onFront_check (s : State) (f : Front → Front) : (s.onFront f).check = s.check := rfl
@[simp] theorem State.onFront_selftest (s : State) (f : Front → Front) : (s.onFront f).selftest = s.selftest := rfl
@[simp] theorem State.onFront_fabric (s : State) (f : Front → Front) : (s.onFront f).fabric = s.fabric := rfl
@[simp] theorem State.onFront_tunes (s : State) (f : Front → Front) : (s.onFront f).tunes = s.tunes := rfl
@[simp] theorem State.onFront_pending (s : State) (f : Front → Front) : (s.onFront f).pending = s.pending := rfl

/-! ### onPtp -/

@[simp] theorem State.onPtp_timeBase (s : State) (f : Ptp → Ptp) : (s.onPtp f).timeBase = s.timeBase := rfl
@[simp] theorem State.onPtp_freeCount (s : State) (f : Ptp → Ptp) : (s.onPtp f).freeCount = s.freeCount := rfl
@[simp] theorem State.onPtp_tiles (s : State) (f : Ptp → Ptp) : (s.onPtp f).tiles = s.tiles := rfl
@[simp] theorem State.onPtp_dict (s : State) (f : Ptp → Ptp) : (s.onPtp f).dict = s.dict := rfl
@[simp] theorem State.onPtp_octets (s : State) (f : Ptp → Ptp) : (s.onPtp f).octets = s.octets := rfl
@[simp] theorem State.onPtp_repair (s : State) (f : Ptp → Ptp) : (s.onPtp f).repair = s.repair := rfl
@[simp] theorem State.onPtp_spares (s : State) (f : Ptp → Ptp) : (s.onPtp f).spares = s.spares := rfl
@[simp] theorem State.onPtp_out (s : State) (f : Ptp → Ptp) : (s.onPtp f).out = s.out := rfl
@[simp] theorem State.onPtp_net (s : State) (f : Ptp → Ptp) : (s.onPtp f).net = s.net := rfl
@[simp] theorem State.onPtp_mem (s : State) (f : Ptp → Ptp) : (s.onPtp f).mem = s.mem := rfl
@[simp] theorem State.onPtp_power (s : State) (f : Ptp → Ptp) : (s.onPtp f).power = s.power := rfl
@[simp] theorem State.onPtp_boot (s : State) (f : Ptp → Ptp) : (s.onPtp f).boot = s.boot := rfl
@[simp] theorem State.onPtp_flash (s : State) (f : Ptp → Ptp) : (s.onPtp f).flash = s.flash := rfl
@[simp] theorem State.onPtp_recorder (s : State) (f : Ptp → Ptp) : (s.onPtp f).recorder = s.recorder := rfl
@[simp] theorem State.onPtp_front (s : State) (f : Ptp → Ptp) : (s.onPtp f).front = s.front := rfl
@[simp] theorem State.onPtp_strands (s : State) (f : Ptp → Ptp) : (s.onPtp f).strands = s.strands := rfl
@[simp] theorem State.onPtp_plans (s : State) (f : Ptp → Ptp) : (s.onPtp f).plans = s.plans := rfl
@[simp] theorem State.onPtp_vault (s : State) (f : Ptp → Ptp) : (s.onPtp f).vault = s.vault := rfl
@[simp] theorem State.onPtp_host (s : State) (f : Ptp → Ptp) : (s.onPtp f).host = s.host := rfl
@[simp] theorem State.onPtp_shards (s : State) (f : Ptp → Ptp) : (s.onPtp f).shards = s.shards := rfl
@[simp] theorem State.onPtp_batches (s : State) (f : Ptp → Ptp) : (s.onPtp f).batches = s.batches := rfl
@[simp] theorem State.onPtp_check (s : State) (f : Ptp → Ptp) : (s.onPtp f).check = s.check := rfl
@[simp] theorem State.onPtp_selftest (s : State) (f : Ptp → Ptp) : (s.onPtp f).selftest = s.selftest := rfl
@[simp] theorem State.onPtp_fabric (s : State) (f : Ptp → Ptp) : (s.onPtp f).fabric = s.fabric := rfl
@[simp] theorem State.onPtp_tunes (s : State) (f : Ptp → Ptp) : (s.onPtp f).tunes = s.tunes := rfl
@[simp] theorem State.onPtp_pending (s : State) (f : Ptp → Ptp) : (s.onPtp f).pending = s.pending := rfl

/-! ### setBlock -/

@[simp] theorem State.setBlock_timeBase (s : State) (b : Nat) (v : FlashBlock) : (s.setBlock b v).timeBase = s.timeBase := rfl
@[simp] theorem State.setBlock_freeCount (s : State) (b : Nat) (v : FlashBlock) : (s.setBlock b v).freeCount = s.freeCount := rfl
@[simp] theorem State.setBlock_tiles (s : State) (b : Nat) (v : FlashBlock) : (s.setBlock b v).tiles = s.tiles := rfl
@[simp] theorem State.setBlock_dict (s : State) (b : Nat) (v : FlashBlock) : (s.setBlock b v).dict = s.dict := rfl
@[simp] theorem State.setBlock_octets (s : State) (b : Nat) (v : FlashBlock) : (s.setBlock b v).octets = s.octets := rfl
@[simp] theorem State.setBlock_repair (s : State) (b : Nat) (v : FlashBlock) : (s.setBlock b v).repair = s.repair := rfl
@[simp] theorem State.setBlock_spares (s : State) (b : Nat) (v : FlashBlock) : (s.setBlock b v).spares = s.spares := rfl
@[simp] theorem State.setBlock_out (s : State) (b : Nat) (v : FlashBlock) : (s.setBlock b v).out = s.out := rfl
@[simp] theorem State.setBlock_net (s : State) (b : Nat) (v : FlashBlock) : (s.setBlock b v).net = s.net := rfl
@[simp] theorem State.setBlock_mem (s : State) (b : Nat) (v : FlashBlock) : (s.setBlock b v).mem = s.mem := rfl
@[simp] theorem State.setBlock_power (s : State) (b : Nat) (v : FlashBlock) : (s.setBlock b v).power = s.power := rfl
@[simp] theorem State.setBlock_boot (s : State) (b : Nat) (v : FlashBlock) : (s.setBlock b v).boot = s.boot := rfl
@[simp] theorem State.setBlock_mgmt (s : State) (b : Nat) (v : FlashBlock) : (s.setBlock b v).mgmt = s.mgmt := rfl
@[simp] theorem State.setBlock_recorder (s : State) (b : Nat) (v : FlashBlock) : (s.setBlock b v).recorder = s.recorder := rfl
@[simp] theorem State.setBlock_front (s : State) (b : Nat) (v : FlashBlock) : (s.setBlock b v).front = s.front := rfl
@[simp] theorem State.setBlock_strands (s : State) (b : Nat) (v : FlashBlock) : (s.setBlock b v).strands = s.strands := rfl
@[simp] theorem State.setBlock_plans (s : State) (b : Nat) (v : FlashBlock) : (s.setBlock b v).plans = s.plans := rfl
@[simp] theorem State.setBlock_vault (s : State) (b : Nat) (v : FlashBlock) : (s.setBlock b v).vault = s.vault := rfl
@[simp] theorem State.setBlock_host (s : State) (b : Nat) (v : FlashBlock) : (s.setBlock b v).host = s.host := rfl
@[simp] theorem State.setBlock_shards (s : State) (b : Nat) (v : FlashBlock) : (s.setBlock b v).shards = s.shards := rfl
@[simp] theorem State.setBlock_batches (s : State) (b : Nat) (v : FlashBlock) : (s.setBlock b v).batches = s.batches := rfl
@[simp] theorem State.setBlock_check (s : State) (b : Nat) (v : FlashBlock) : (s.setBlock b v).check = s.check := rfl
@[simp] theorem State.setBlock_selftest (s : State) (b : Nat) (v : FlashBlock) : (s.setBlock b v).selftest = s.selftest := rfl
@[simp] theorem State.setBlock_fabric (s : State) (b : Nat) (v : FlashBlock) : (s.setBlock b v).fabric = s.fabric := rfl
@[simp] theorem State.setBlock_tunes (s : State) (b : Nat) (v : FlashBlock) : (s.setBlock b v).tunes = s.tunes := rfl
@[simp] theorem State.setBlock_pending (s : State) (b : Nat) (v : FlashBlock) : (s.setBlock b v).pending = s.pending := rfl

/-! ### setTest -/

@[simp] theorem State.setTest_timeBase (s : State) (i : Nat) : (s.setTest i).timeBase = s.timeBase := rfl
@[simp] theorem State.setTest_freeCount (s : State) (i : Nat) : (s.setTest i).freeCount = s.freeCount := rfl
@[simp] theorem State.setTest_tiles (s : State) (i : Nat) : (s.setTest i).tiles = s.tiles := rfl
@[simp] theorem State.setTest_dict (s : State) (i : Nat) : (s.setTest i).dict = s.dict := rfl
@[simp] theorem State.setTest_octets (s : State) (i : Nat) : (s.setTest i).octets = s.octets := rfl
@[simp] theorem State.setTest_repair (s : State) (i : Nat) : (s.setTest i).repair = s.repair := rfl
@[simp] theorem State.setTest_spares (s : State) (i : Nat) : (s.setTest i).spares = s.spares := rfl
@[simp] theorem State.setTest_out (s : State) (i : Nat) : (s.setTest i).out = s.out := rfl
@[simp] theorem State.setTest_net (s : State) (i : Nat) : (s.setTest i).net = s.net := rfl
@[simp] theorem State.setTest_mem (s : State) (i : Nat) : (s.setTest i).mem = s.mem := rfl
@[simp] theorem State.setTest_power (s : State) (i : Nat) : (s.setTest i).power = s.power := rfl
@[simp] theorem State.setTest_boot (s : State) (i : Nat) : (s.setTest i).boot = s.boot := rfl
@[simp] theorem State.setTest_flash (s : State) (i : Nat) : (s.setTest i).flash = s.flash := rfl
@[simp] theorem State.setTest_mgmt (s : State) (i : Nat) : (s.setTest i).mgmt = s.mgmt := rfl
@[simp] theorem State.setTest_recorder (s : State) (i : Nat) : (s.setTest i).recorder = s.recorder := rfl
@[simp] theorem State.setTest_front (s : State) (i : Nat) : (s.setTest i).front = s.front := rfl
@[simp] theorem State.setTest_strands (s : State) (i : Nat) : (s.setTest i).strands = s.strands := rfl
@[simp] theorem State.setTest_plans (s : State) (i : Nat) : (s.setTest i).plans = s.plans := rfl
@[simp] theorem State.setTest_host (s : State) (i : Nat) : (s.setTest i).host = s.host := rfl
@[simp] theorem State.setTest_shards (s : State) (i : Nat) : (s.setTest i).shards = s.shards := rfl
@[simp] theorem State.setTest_batches (s : State) (i : Nat) : (s.setTest i).batches = s.batches := rfl
@[simp] theorem State.setTest_check (s : State) (i : Nat) : (s.setTest i).check = s.check := rfl
@[simp] theorem State.setTest_selftest (s : State) (i : Nat) : (s.setTest i).selftest = s.selftest := rfl
@[simp] theorem State.setTest_fabric (s : State) (i : Nat) : (s.setTest i).fabric = s.fabric := rfl
@[simp] theorem State.setTest_tunes (s : State) (i : Nat) : (s.setTest i).tunes = s.tunes := rfl
@[simp] theorem State.setTest_pending (s : State) (i : Nat) : (s.setTest i).pending = s.pending := rfl

/-! ### withPending -/

@[simp] theorem State.withPending_timeBase (s : State) (q : List Instr) : (s.withPending q).timeBase = s.timeBase := rfl
@[simp] theorem State.withPending_freeCount (s : State) (q : List Instr) : (s.withPending q).freeCount = s.freeCount := rfl
@[simp] theorem State.withPending_tiles (s : State) (q : List Instr) : (s.withPending q).tiles = s.tiles := rfl
@[simp] theorem State.withPending_dict (s : State) (q : List Instr) : (s.withPending q).dict = s.dict := rfl
@[simp] theorem State.withPending_octets (s : State) (q : List Instr) : (s.withPending q).octets = s.octets := rfl
@[simp] theorem State.withPending_repair (s : State) (q : List Instr) : (s.withPending q).repair = s.repair := rfl
@[simp] theorem State.withPending_spares (s : State) (q : List Instr) : (s.withPending q).spares = s.spares := rfl
@[simp] theorem State.withPending_out (s : State) (q : List Instr) : (s.withPending q).out = s.out := rfl
@[simp] theorem State.withPending_net (s : State) (q : List Instr) : (s.withPending q).net = s.net := rfl
@[simp] theorem State.withPending_mem (s : State) (q : List Instr) : (s.withPending q).mem = s.mem := rfl
@[simp] theorem State.withPending_power (s : State) (q : List Instr) : (s.withPending q).power = s.power := rfl
@[simp] theorem State.withPending_boot (s : State) (q : List Instr) : (s.withPending q).boot = s.boot := rfl
@[simp] theorem State.withPending_flash (s : State) (q : List Instr) : (s.withPending q).flash = s.flash := rfl
@[simp] theorem State.withPending_mgmt (s : State) (q : List Instr) : (s.withPending q).mgmt = s.mgmt := rfl
@[simp] theorem State.withPending_recorder (s : State) (q : List Instr) : (s.withPending q).recorder = s.recorder := rfl
@[simp] theorem State.withPending_front (s : State) (q : List Instr) : (s.withPending q).front = s.front := rfl
@[simp] theorem State.withPending_strands (s : State) (q : List Instr) : (s.withPending q).strands = s.strands := rfl
@[simp] theorem State.withPending_plans (s : State) (q : List Instr) : (s.withPending q).plans = s.plans := rfl
@[simp] theorem State.withPending_vault (s : State) (q : List Instr) : (s.withPending q).vault = s.vault := rfl
@[simp] theorem State.withPending_host (s : State) (q : List Instr) : (s.withPending q).host = s.host := rfl
@[simp] theorem State.withPending_shards (s : State) (q : List Instr) : (s.withPending q).shards = s.shards := rfl
@[simp] theorem State.withPending_batches (s : State) (q : List Instr) : (s.withPending q).batches = s.batches := rfl
@[simp] theorem State.withPending_check (s : State) (q : List Instr) : (s.withPending q).check = s.check := rfl
@[simp] theorem State.withPending_selftest (s : State) (q : List Instr) : (s.withPending q).selftest = s.selftest := rfl
@[simp] theorem State.withPending_fabric (s : State) (q : List Instr) : (s.withPending q).fabric = s.fabric := rfl
@[simp] theorem State.withPending_tunes (s : State) (q : List Instr) : (s.withPending q).tunes = s.tunes := rfl

/-! ### nodeSend -/

@[simp] theorem State.nodeSend_timeBase (s : State) (m : Msg) (job : Option JobId) (flow : Option FlowRef) : (s.nodeSend m job flow).timeBase = s.timeBase := rfl
@[simp] theorem State.nodeSend_freeCount (s : State) (m : Msg) (job : Option JobId) (flow : Option FlowRef) : (s.nodeSend m job flow).freeCount = s.freeCount := rfl
@[simp] theorem State.nodeSend_tiles (s : State) (m : Msg) (job : Option JobId) (flow : Option FlowRef) : (s.nodeSend m job flow).tiles = s.tiles := rfl
@[simp] theorem State.nodeSend_dict (s : State) (m : Msg) (job : Option JobId) (flow : Option FlowRef) : (s.nodeSend m job flow).dict = s.dict := rfl
@[simp] theorem State.nodeSend_octets (s : State) (m : Msg) (job : Option JobId) (flow : Option FlowRef) : (s.nodeSend m job flow).octets = s.octets := rfl
@[simp] theorem State.nodeSend_repair (s : State) (m : Msg) (job : Option JobId) (flow : Option FlowRef) : (s.nodeSend m job flow).repair = s.repair := rfl
@[simp] theorem State.nodeSend_spares (s : State) (m : Msg) (job : Option JobId) (flow : Option FlowRef) : (s.nodeSend m job flow).spares = s.spares := rfl
@[simp] theorem State.nodeSend_out (s : State) (m : Msg) (job : Option JobId) (flow : Option FlowRef) : (s.nodeSend m job flow).out = s.out := rfl
@[simp] theorem State.nodeSend_mem (s : State) (m : Msg) (job : Option JobId) (flow : Option FlowRef) : (s.nodeSend m job flow).mem = s.mem := rfl
@[simp] theorem State.nodeSend_power (s : State) (m : Msg) (job : Option JobId) (flow : Option FlowRef) : (s.nodeSend m job flow).power = s.power := rfl
@[simp] theorem State.nodeSend_boot (s : State) (m : Msg) (job : Option JobId) (flow : Option FlowRef) : (s.nodeSend m job flow).boot = s.boot := rfl
@[simp] theorem State.nodeSend_flash (s : State) (m : Msg) (job : Option JobId) (flow : Option FlowRef) : (s.nodeSend m job flow).flash = s.flash := rfl
@[simp] theorem State.nodeSend_mgmt (s : State) (m : Msg) (job : Option JobId) (flow : Option FlowRef) : (s.nodeSend m job flow).mgmt = s.mgmt := rfl
@[simp] theorem State.nodeSend_recorder (s : State) (m : Msg) (job : Option JobId) (flow : Option FlowRef) : (s.nodeSend m job flow).recorder = s.recorder := rfl
@[simp] theorem State.nodeSend_front (s : State) (m : Msg) (job : Option JobId) (flow : Option FlowRef) : (s.nodeSend m job flow).front = s.front := rfl
@[simp] theorem State.nodeSend_strands (s : State) (m : Msg) (job : Option JobId) (flow : Option FlowRef) : (s.nodeSend m job flow).strands = s.strands := rfl
@[simp] theorem State.nodeSend_plans (s : State) (m : Msg) (job : Option JobId) (flow : Option FlowRef) : (s.nodeSend m job flow).plans = s.plans := rfl
@[simp] theorem State.nodeSend_vault (s : State) (m : Msg) (job : Option JobId) (flow : Option FlowRef) : (s.nodeSend m job flow).vault = s.vault := rfl
@[simp] theorem State.nodeSend_host (s : State) (m : Msg) (job : Option JobId) (flow : Option FlowRef) : (s.nodeSend m job flow).host = s.host := rfl
@[simp] theorem State.nodeSend_shards (s : State) (m : Msg) (job : Option JobId) (flow : Option FlowRef) : (s.nodeSend m job flow).shards = s.shards := rfl
@[simp] theorem State.nodeSend_batches (s : State) (m : Msg) (job : Option JobId) (flow : Option FlowRef) : (s.nodeSend m job flow).batches = s.batches := rfl
@[simp] theorem State.nodeSend_check (s : State) (m : Msg) (job : Option JobId) (flow : Option FlowRef) : (s.nodeSend m job flow).check = s.check := rfl
@[simp] theorem State.nodeSend_selftest (s : State) (m : Msg) (job : Option JobId) (flow : Option FlowRef) : (s.nodeSend m job flow).selftest = s.selftest := rfl
@[simp] theorem State.nodeSend_fabric (s : State) (m : Msg) (job : Option JobId) (flow : Option FlowRef) : (s.nodeSend m job flow).fabric = s.fabric := rfl
@[simp] theorem State.nodeSend_tunes (s : State) (m : Msg) (job : Option JobId) (flow : Option FlowRef) : (s.nodeSend m job flow).tunes = s.tunes := rfl
@[simp] theorem State.nodeSend_pending (s : State) (m : Msg) (job : Option JobId) (flow : Option FlowRef) : (s.nodeSend m job flow).pending = s.pending := rfl

/-! ### onVault -/

@[simp] theorem State.onVault_timeBase (s : State) (f : Vault → Vault) : (s.onVault f).timeBase = s.timeBase := rfl
@[simp] theorem State.onVault_freeCount (s : State) (f : Vault → Vault) : (s.onVault f).freeCount = s.freeCount := rfl
@[simp] theorem State.onVault_tiles (s : State) (f : Vault → Vault) : (s.onVault f).tiles = s.tiles := rfl
@[simp] theorem State.onVault_dict (s : State) (f : Vault → Vault) : (s.onVault f).dict = s.dict := rfl
@[simp] theorem State.onVault_octets (s : State) (f : Vault → Vault) : (s.onVault f).octets = s.octets := rfl
@[simp] theorem State.onVault_repair (s : State) (f : Vault → Vault) : (s.onVault f).repair = s.repair := rfl
@[simp] theorem State.onVault_spares (s : State) (f : Vault → Vault) : (s.onVault f).spares = s.spares := rfl
@[simp] theorem State.onVault_out (s : State) (f : Vault → Vault) : (s.onVault f).out = s.out := rfl
@[simp] theorem State.onVault_net (s : State) (f : Vault → Vault) : (s.onVault f).net = s.net := rfl
@[simp] theorem State.onVault_mem (s : State) (f : Vault → Vault) : (s.onVault f).mem = s.mem := rfl
@[simp] theorem State.onVault_power (s : State) (f : Vault → Vault) : (s.onVault f).power = s.power := rfl
@[simp] theorem State.onVault_boot (s : State) (f : Vault → Vault) : (s.onVault f).boot = s.boot := rfl
@[simp] theorem State.onVault_flash (s : State) (f : Vault → Vault) : (s.onVault f).flash = s.flash := rfl
@[simp] theorem State.onVault_mgmt (s : State) (f : Vault → Vault) : (s.onVault f).mgmt = s.mgmt := rfl
@[simp] theorem State.onVault_recorder (s : State) (f : Vault → Vault) : (s.onVault f).recorder = s.recorder := rfl
@[simp] theorem State.onVault_front (s : State) (f : Vault → Vault) : (s.onVault f).front = s.front := rfl
@[simp] theorem State.onVault_strands (s : State) (f : Vault → Vault) : (s.onVault f).strands = s.strands := rfl
@[simp] theorem State.onVault_plans (s : State) (f : Vault → Vault) : (s.onVault f).plans = s.plans := rfl
@[simp] theorem State.onVault_host (s : State) (f : Vault → Vault) : (s.onVault f).host = s.host := rfl
@[simp] theorem State.onVault_shards (s : State) (f : Vault → Vault) : (s.onVault f).shards = s.shards := rfl
@[simp] theorem State.onVault_batches (s : State) (f : Vault → Vault) : (s.onVault f).batches = s.batches := rfl
@[simp] theorem State.onVault_check (s : State) (f : Vault → Vault) : (s.onVault f).check = s.check := rfl
@[simp] theorem State.onVault_selftest (s : State) (f : Vault → Vault) : (s.onVault f).selftest = s.selftest := rfl
@[simp] theorem State.onVault_fabric (s : State) (f : Vault → Vault) : (s.onVault f).fabric = s.fabric := rfl
@[simp] theorem State.onVault_tunes (s : State) (f : Vault → Vault) : (s.onVault f).tunes = s.tunes := rfl
@[simp] theorem State.onVault_pending (s : State) (f : Vault → Vault) : (s.onVault f).pending = s.pending := rfl

/-! ### setClusterQueue -/

@[simp] theorem State.setClusterQueue_timeBase (s : State) (c q : Nat) (v : Queue) : (s.setClusterQueue c q v).timeBase = s.timeBase := rfl
@[simp] theorem State.setClusterQueue_freeCount (s : State) (c q : Nat) (v : Queue) : (s.setClusterQueue c q v).freeCount = s.freeCount := rfl
@[simp] theorem State.setClusterQueue_tiles (s : State) (c q : Nat) (v : Queue) : (s.setClusterQueue c q v).tiles = s.tiles := rfl
@[simp] theorem State.setClusterQueue_dict (s : State) (c q : Nat) (v : Queue) : (s.setClusterQueue c q v).dict = s.dict := rfl
@[simp] theorem State.setClusterQueue_octets (s : State) (c q : Nat) (v : Queue) : (s.setClusterQueue c q v).octets = s.octets := rfl
@[simp] theorem State.setClusterQueue_repair (s : State) (c q : Nat) (v : Queue) : (s.setClusterQueue c q v).repair = s.repair := rfl
@[simp] theorem State.setClusterQueue_spares (s : State) (c q : Nat) (v : Queue) : (s.setClusterQueue c q v).spares = s.spares := rfl
@[simp] theorem State.setClusterQueue_out (s : State) (c q : Nat) (v : Queue) : (s.setClusterQueue c q v).out = s.out := rfl
@[simp] theorem State.setClusterQueue_mem (s : State) (c q : Nat) (v : Queue) : (s.setClusterQueue c q v).mem = s.mem := rfl
@[simp] theorem State.setClusterQueue_power (s : State) (c q : Nat) (v : Queue) : (s.setClusterQueue c q v).power = s.power := rfl
@[simp] theorem State.setClusterQueue_boot (s : State) (c q : Nat) (v : Queue) : (s.setClusterQueue c q v).boot = s.boot := rfl
@[simp] theorem State.setClusterQueue_flash (s : State) (c q : Nat) (v : Queue) : (s.setClusterQueue c q v).flash = s.flash := rfl
@[simp] theorem State.setClusterQueue_mgmt (s : State) (c q : Nat) (v : Queue) : (s.setClusterQueue c q v).mgmt = s.mgmt := rfl
@[simp] theorem State.setClusterQueue_recorder (s : State) (c q : Nat) (v : Queue) : (s.setClusterQueue c q v).recorder = s.recorder := rfl
@[simp] theorem State.setClusterQueue_front (s : State) (c q : Nat) (v : Queue) : (s.setClusterQueue c q v).front = s.front := rfl
@[simp] theorem State.setClusterQueue_strands (s : State) (c q : Nat) (v : Queue) : (s.setClusterQueue c q v).strands = s.strands := rfl
@[simp] theorem State.setClusterQueue_plans (s : State) (c q : Nat) (v : Queue) : (s.setClusterQueue c q v).plans = s.plans := rfl
@[simp] theorem State.setClusterQueue_vault (s : State) (c q : Nat) (v : Queue) : (s.setClusterQueue c q v).vault = s.vault := rfl
@[simp] theorem State.setClusterQueue_host (s : State) (c q : Nat) (v : Queue) : (s.setClusterQueue c q v).host = s.host := rfl
@[simp] theorem State.setClusterQueue_shards (s : State) (c q : Nat) (v : Queue) : (s.setClusterQueue c q v).shards = s.shards := rfl
@[simp] theorem State.setClusterQueue_batches (s : State) (c q : Nat) (v : Queue) : (s.setClusterQueue c q v).batches = s.batches := rfl
@[simp] theorem State.setClusterQueue_check (s : State) (c q : Nat) (v : Queue) : (s.setClusterQueue c q v).check = s.check := rfl
@[simp] theorem State.setClusterQueue_selftest (s : State) (c q : Nat) (v : Queue) : (s.setClusterQueue c q v).selftest = s.selftest := rfl
@[simp] theorem State.setClusterQueue_fabric (s : State) (c q : Nat) (v : Queue) : (s.setClusterQueue c q v).fabric = s.fabric := rfl
@[simp] theorem State.setClusterQueue_tunes (s : State) (c q : Nat) (v : Queue) : (s.setClusterQueue c q v).tunes = s.tunes := rfl
@[simp] theorem State.setClusterQueue_pending (s : State) (c q : Nat) (v : Queue) : (s.setClusterQueue c q v).pending = s.pending := rfl

/-! ### noteSpill -/

@[simp] theorem State.noteSpill_timeBase (s : State) : (s.noteSpill).timeBase = s.timeBase := rfl
@[simp] theorem State.noteSpill_freeCount (s : State) : (s.noteSpill).freeCount = s.freeCount := rfl
@[simp] theorem State.noteSpill_tiles (s : State) : (s.noteSpill).tiles = s.tiles := rfl
@[simp] theorem State.noteSpill_dict (s : State) : (s.noteSpill).dict = s.dict := rfl
@[simp] theorem State.noteSpill_octets (s : State) : (s.noteSpill).octets = s.octets := rfl
@[simp] theorem State.noteSpill_repair (s : State) : (s.noteSpill).repair = s.repair := rfl
@[simp] theorem State.noteSpill_spares (s : State) : (s.noteSpill).spares = s.spares := rfl
@[simp] theorem State.noteSpill_out (s : State) : (s.noteSpill).out = s.out := rfl
@[simp] theorem State.noteSpill_mem (s : State) : (s.noteSpill).mem = s.mem := rfl
@[simp] theorem State.noteSpill_power (s : State) : (s.noteSpill).power = s.power := rfl
@[simp] theorem State.noteSpill_boot (s : State) : (s.noteSpill).boot = s.boot := rfl
@[simp] theorem State.noteSpill_flash (s : State) : (s.noteSpill).flash = s.flash := rfl
@[simp] theorem State.noteSpill_mgmt (s : State) : (s.noteSpill).mgmt = s.mgmt := rfl
@[simp] theorem State.noteSpill_recorder (s : State) : (s.noteSpill).recorder = s.recorder := rfl
@[simp] theorem State.noteSpill_front (s : State) : (s.noteSpill).front = s.front := rfl
@[simp] theorem State.noteSpill_strands (s : State) : (s.noteSpill).strands = s.strands := rfl
@[simp] theorem State.noteSpill_plans (s : State) : (s.noteSpill).plans = s.plans := rfl
@[simp] theorem State.noteSpill_vault (s : State) : (s.noteSpill).vault = s.vault := rfl
@[simp] theorem State.noteSpill_host (s : State) : (s.noteSpill).host = s.host := rfl
@[simp] theorem State.noteSpill_shards (s : State) : (s.noteSpill).shards = s.shards := rfl
@[simp] theorem State.noteSpill_batches (s : State) : (s.noteSpill).batches = s.batches := rfl
@[simp] theorem State.noteSpill_check (s : State) : (s.noteSpill).check = s.check := rfl
@[simp] theorem State.noteSpill_selftest (s : State) : (s.noteSpill).selftest = s.selftest := rfl
@[simp] theorem State.noteSpill_fabric (s : State) : (s.noteSpill).fabric = s.fabric := rfl
@[simp] theorem State.noteSpill_tunes (s : State) : (s.noteSpill).tunes = s.tunes := rfl
@[simp] theorem State.noteSpill_pending (s : State) : (s.noteSpill).pending = s.pending := rfl

/-! ### written -/

@[simp] theorem State.written_timeBase (s : State) (b : Nat) : (s.written b).timeBase = s.timeBase := rfl
@[simp] theorem State.written_freeCount (s : State) (b : Nat) : (s.written b).freeCount = s.freeCount := rfl
@[simp] theorem State.written_tiles (s : State) (b : Nat) : (s.written b).tiles = s.tiles := rfl
@[simp] theorem State.written_dict (s : State) (b : Nat) : (s.written b).dict = s.dict := rfl
@[simp] theorem State.written_octets (s : State) (b : Nat) : (s.written b).octets = s.octets := rfl
@[simp] theorem State.written_repair (s : State) (b : Nat) : (s.written b).repair = s.repair := rfl
@[simp] theorem State.written_spares (s : State) (b : Nat) : (s.written b).spares = s.spares := rfl
@[simp] theorem State.written_out (s : State) (b : Nat) : (s.written b).out = s.out := rfl
@[simp] theorem State.written_net (s : State) (b : Nat) : (s.written b).net = s.net := rfl
@[simp] theorem State.written_mem (s : State) (b : Nat) : (s.written b).mem = s.mem := rfl
@[simp] theorem State.written_power (s : State) (b : Nat) : (s.written b).power = s.power := rfl
@[simp] theorem State.written_boot (s : State) (b : Nat) : (s.written b).boot = s.boot := rfl
@[simp] theorem State.written_mgmt (s : State) (b : Nat) : (s.written b).mgmt = s.mgmt := rfl
@[simp] theorem State.written_recorder (s : State) (b : Nat) : (s.written b).recorder = s.recorder := rfl
@[simp] theorem State.written_front (s : State) (b : Nat) : (s.written b).front = s.front := rfl
@[simp] theorem State.written_strands (s : State) (b : Nat) : (s.written b).strands = s.strands := rfl
@[simp] theorem State.written_plans (s : State) (b : Nat) : (s.written b).plans = s.plans := rfl
@[simp] theorem State.written_vault (s : State) (b : Nat) : (s.written b).vault = s.vault := rfl
@[simp] theorem State.written_host (s : State) (b : Nat) : (s.written b).host = s.host := rfl
@[simp] theorem State.written_shards (s : State) (b : Nat) : (s.written b).shards = s.shards := rfl
@[simp] theorem State.written_batches (s : State) (b : Nat) : (s.written b).batches = s.batches := rfl
@[simp] theorem State.written_check (s : State) (b : Nat) : (s.written b).check = s.check := rfl
@[simp] theorem State.written_selftest (s : State) (b : Nat) : (s.written b).selftest = s.selftest := rfl
@[simp] theorem State.written_fabric (s : State) (b : Nat) : (s.written b).fabric = s.fabric := rfl
@[simp] theorem State.written_tunes (s : State) (b : Nat) : (s.written b).tunes = s.tunes := rfl
@[simp] theorem State.written_pending (s : State) (b : Nat) : (s.written b).pending = s.pending := rfl

/-! ### wipeCores -/

@[simp] theorem State.wipeCores_timeBase (s : State) : (s.wipeCores).timeBase = s.timeBase := rfl
@[simp] theorem State.wipeCores_freeCount (s : State) : (s.wipeCores).freeCount = s.freeCount := rfl
@[simp] theorem State.wipeCores_tiles (s : State) : (s.wipeCores).tiles = s.tiles := rfl
@[simp] theorem State.wipeCores_dict (s : State) : (s.wipeCores).dict = s.dict := rfl
@[simp] theorem State.wipeCores_octets (s : State) : (s.wipeCores).octets = s.octets := rfl
@[simp] theorem State.wipeCores_repair (s : State) : (s.wipeCores).repair = s.repair := rfl
@[simp] theorem State.wipeCores_spares (s : State) : (s.wipeCores).spares = s.spares := rfl
@[simp] theorem State.wipeCores_out (s : State) : (s.wipeCores).out = s.out := rfl
@[simp] theorem State.wipeCores_mem (s : State) : (s.wipeCores).mem = s.mem := rfl
@[simp] theorem State.wipeCores_power (s : State) : (s.wipeCores).power = s.power := rfl
@[simp] theorem State.wipeCores_boot (s : State) : (s.wipeCores).boot = s.boot := rfl
@[simp] theorem State.wipeCores_flash (s : State) : (s.wipeCores).flash = s.flash := rfl
@[simp] theorem State.wipeCores_mgmt (s : State) : (s.wipeCores).mgmt = s.mgmt := rfl
@[simp] theorem State.wipeCores_recorder (s : State) : (s.wipeCores).recorder = s.recorder := rfl
@[simp] theorem State.wipeCores_front (s : State) : (s.wipeCores).front = s.front := rfl
@[simp] theorem State.wipeCores_strands (s : State) : (s.wipeCores).strands = s.strands := rfl
@[simp] theorem State.wipeCores_plans (s : State) : (s.wipeCores).plans = s.plans := rfl
@[simp] theorem State.wipeCores_vault (s : State) : (s.wipeCores).vault = s.vault := rfl
@[simp] theorem State.wipeCores_host (s : State) : (s.wipeCores).host = s.host := rfl
@[simp] theorem State.wipeCores_shards (s : State) : (s.wipeCores).shards = s.shards := rfl
@[simp] theorem State.wipeCores_batches (s : State) : (s.wipeCores).batches = s.batches := rfl
@[simp] theorem State.wipeCores_check (s : State) : (s.wipeCores).check = s.check := rfl
@[simp] theorem State.wipeCores_selftest (s : State) : (s.wipeCores).selftest = s.selftest := rfl
@[simp] theorem State.wipeCores_fabric (s : State) : (s.wipeCores).fabric = s.fabric := rfl
@[simp] theorem State.wipeCores_tunes (s : State) : (s.wipeCores).tunes = s.tunes := rfl
@[simp] theorem State.wipeCores_pending (s : State) : (s.wipeCores).pending = s.pending := rfl

/-! ### zeroTiers -/

@[simp] theorem State.zeroTiers_timeBase (s : State) : (s.zeroTiers).timeBase = s.timeBase := rfl
@[simp] theorem State.zeroTiers_freeCount (s : State) : (s.zeroTiers).freeCount = s.freeCount := rfl
@[simp] theorem State.zeroTiers_tiles (s : State) : (s.zeroTiers).tiles = s.tiles := rfl
@[simp] theorem State.zeroTiers_dict (s : State) : (s.zeroTiers).dict = s.dict := rfl
@[simp] theorem State.zeroTiers_octets (s : State) : (s.zeroTiers).octets = s.octets := rfl
@[simp] theorem State.zeroTiers_repair (s : State) : (s.zeroTiers).repair = s.repair := rfl
@[simp] theorem State.zeroTiers_spares (s : State) : (s.zeroTiers).spares = s.spares := rfl
@[simp] theorem State.zeroTiers_out (s : State) : (s.zeroTiers).out = s.out := rfl
@[simp] theorem State.zeroTiers_net (s : State) : (s.zeroTiers).net = s.net := rfl
@[simp] theorem State.zeroTiers_power (s : State) : (s.zeroTiers).power = s.power := rfl
@[simp] theorem State.zeroTiers_boot (s : State) : (s.zeroTiers).boot = s.boot := rfl
@[simp] theorem State.zeroTiers_flash (s : State) : (s.zeroTiers).flash = s.flash := rfl
@[simp] theorem State.zeroTiers_mgmt (s : State) : (s.zeroTiers).mgmt = s.mgmt := rfl
@[simp] theorem State.zeroTiers_recorder (s : State) : (s.zeroTiers).recorder = s.recorder := rfl
@[simp] theorem State.zeroTiers_front (s : State) : (s.zeroTiers).front = s.front := rfl
@[simp] theorem State.zeroTiers_strands (s : State) : (s.zeroTiers).strands = s.strands := rfl
@[simp] theorem State.zeroTiers_plans (s : State) : (s.zeroTiers).plans = s.plans := rfl
@[simp] theorem State.zeroTiers_vault (s : State) : (s.zeroTiers).vault = s.vault := rfl
@[simp] theorem State.zeroTiers_host (s : State) : (s.zeroTiers).host = s.host := rfl
@[simp] theorem State.zeroTiers_shards (s : State) : (s.zeroTiers).shards = s.shards := rfl
@[simp] theorem State.zeroTiers_batches (s : State) : (s.zeroTiers).batches = s.batches := rfl
@[simp] theorem State.zeroTiers_check (s : State) : (s.zeroTiers).check = s.check := rfl
@[simp] theorem State.zeroTiers_selftest (s : State) : (s.zeroTiers).selftest = s.selftest := rfl
@[simp] theorem State.zeroTiers_fabric (s : State) : (s.zeroTiers).fabric = s.fabric := rfl
@[simp] theorem State.zeroTiers_tunes (s : State) : (s.zeroTiers).tunes = s.tunes := rfl
@[simp] theorem State.zeroTiers_pending (s : State) : (s.zeroTiers).pending = s.pending := rfl

/-! ### forgetArrivals -/

@[simp] theorem State.forgetArrivals_timeBase (s : State) (t : Nat) : (s.forgetArrivals t).timeBase = s.timeBase := rfl
@[simp] theorem State.forgetArrivals_freeCount (s : State) (t : Nat) : (s.forgetArrivals t).freeCount = s.freeCount := rfl
@[simp] theorem State.forgetArrivals_tiles (s : State) (t : Nat) : (s.forgetArrivals t).tiles = s.tiles := rfl
@[simp] theorem State.forgetArrivals_dict (s : State) (t : Nat) : (s.forgetArrivals t).dict = s.dict := rfl
@[simp] theorem State.forgetArrivals_octets (s : State) (t : Nat) : (s.forgetArrivals t).octets = s.octets := rfl
@[simp] theorem State.forgetArrivals_repair (s : State) (t : Nat) : (s.forgetArrivals t).repair = s.repair := rfl
@[simp] theorem State.forgetArrivals_spares (s : State) (t : Nat) : (s.forgetArrivals t).spares = s.spares := rfl
@[simp] theorem State.forgetArrivals_out (s : State) (t : Nat) : (s.forgetArrivals t).out = s.out := rfl
@[simp] theorem State.forgetArrivals_mem (s : State) (t : Nat) : (s.forgetArrivals t).mem = s.mem := rfl
@[simp] theorem State.forgetArrivals_power (s : State) (t : Nat) : (s.forgetArrivals t).power = s.power := rfl
@[simp] theorem State.forgetArrivals_boot (s : State) (t : Nat) : (s.forgetArrivals t).boot = s.boot := rfl
@[simp] theorem State.forgetArrivals_flash (s : State) (t : Nat) : (s.forgetArrivals t).flash = s.flash := rfl
@[simp] theorem State.forgetArrivals_mgmt (s : State) (t : Nat) : (s.forgetArrivals t).mgmt = s.mgmt := rfl
@[simp] theorem State.forgetArrivals_recorder (s : State) (t : Nat) : (s.forgetArrivals t).recorder = s.recorder := rfl
@[simp] theorem State.forgetArrivals_front (s : State) (t : Nat) : (s.forgetArrivals t).front = s.front := rfl
@[simp] theorem State.forgetArrivals_strands (s : State) (t : Nat) : (s.forgetArrivals t).strands = s.strands := rfl
@[simp] theorem State.forgetArrivals_plans (s : State) (t : Nat) : (s.forgetArrivals t).plans = s.plans := rfl
@[simp] theorem State.forgetArrivals_vault (s : State) (t : Nat) : (s.forgetArrivals t).vault = s.vault := rfl
@[simp] theorem State.forgetArrivals_host (s : State) (t : Nat) : (s.forgetArrivals t).host = s.host := rfl
@[simp] theorem State.forgetArrivals_shards (s : State) (t : Nat) : (s.forgetArrivals t).shards = s.shards := rfl
@[simp] theorem State.forgetArrivals_batches (s : State) (t : Nat) : (s.forgetArrivals t).batches = s.batches := rfl
@[simp] theorem State.forgetArrivals_check (s : State) (t : Nat) : (s.forgetArrivals t).check = s.check := rfl
@[simp] theorem State.forgetArrivals_selftest (s : State) (t : Nat) : (s.forgetArrivals t).selftest = s.selftest := rfl
@[simp] theorem State.forgetArrivals_fabric (s : State) (t : Nat) : (s.forgetArrivals t).fabric = s.fabric := rfl
@[simp] theorem State.forgetArrivals_tunes (s : State) (t : Nat) : (s.forgetArrivals t).tunes = s.tunes := rfl
@[simp] theorem State.forgetArrivals_pending (s : State) (t : Nat) : (s.forgetArrivals t).pending = s.pending := rfl

end Sys2Proof.Machine
end

