-- ==== Sys2Proof/WellFormed.lean ====
section
/-! DEFINITION. Well-formed commands: the operands that the interfaces of the module can carry at all. Bounds that
operand types already hold are not repeated. -/

namespace Sys2Proof

open Machine

/-- A byte string of a given length. -/
def lenOk (l : List Byte) (n : Nat) : Bool := l.length = n

/-- A memory request names a line, and a write carries its 64 bytes (R254). -/
def MemReq.wf (q : MemReq) : Bool := if q.write then lenOk q.data 64 else lenOk q.data 0

/-- A Berjor request carries at most 1,024 bytes (R540). -/
def BjReq.wf (r : BjReq) : Bool := r.payload.length ≤ 1024

/-- A fabric packet carries at most 1,024 payload bytes, and 16 bytes of INNER (R402). -/
def Packet.wf (p : Packet) : Bool := p.payload.length ≤ 1024 && lenOk p.inner 16

/-- An entry read is 128 bytes unless it ended in an error (R329, R330). -/
def EntryRead.wf (e : EntryRead) : Bool := e.error || lenOk e.bytes 128

/-- Header bytes of a sealed object (R300). -/
def Sealed.wf (x : Sealed) : Bool := lenOk x.hdr 64

/-- Well-formed commands. -/
def WellFormed (i : Instr) : Bool :=
  match i with
  | .memRequest q => MemReq.wf q
  | .submit _ _ _ e | .invalidate _ _ e | .abortD _ _ _ e | .cack _ _ _ e => EntryRead.wf e
  | .descFetch _ b error => error || lenOk b 64
  | .tileLoad _ _ x | .inject _ _ x | .windowWrite _ _ x | .fabricPacket _ _ x => Sealed.wf x
  | .fabricPacketArrive _ p _ => Packet.wf p
  | .bjRead r | .bjWrite r | .readSeg r | .writeSeg r | .writeEnd r | .sessionClose r | .notifyAck r => BjReq.wf r
  | .fabricEpochRequest r | .frostTile r | .unfrostTile r | .bankRestore r | .vcoreSetpoint r | .forceSafePacing r
  | .powerLimit r | .resetRequestThaw r | .resetRequestModule r | .copyResolveA r | .copyResolveB r | .copyResolveKeep r
  | .keyRemove r | .commitSvn r | .quoteRequest r | .vectorDim r | .defaultsRestore r | .recorderClearFar r
  | .recorderClearAll r | .quiesceRequest r | .quiesceForce r | .quiesceCancel r | .identify r => BjReq.wf r
  | .tileTrim _ r | .tilePace _ r | .rolePlan _ r | .firmwareInstall r _ | .ownerClaim r _ | .ownerRelease r _
  | .licenceInstall r _ _ | .scanClear r _ | .sessionProve r _ => BjReq.wf r
  | .sessionOpen r _ _ _ => BjReq.wf r
  | .keyInstall (.entry r) _ => BjReq.wf r
  | .redirectedAccess _ _ w d => if w then lenOk d 64 else lenOk d 0
  | .retract m => lenOk m 16
  | _ => true

end Sys2Proof
end

