-- ==== Sys2Proof/Tests/Slice0.lean ====
section
/-! SUPPORT. Tests: what well-formedness refuses, single commands against the numbers of the spec, and for each statement
with hypotheses a state and operands that meet them. -/

open Sys2Proof Sys2Proof.Machine Sys2Proof.Claims

namespace Sys2Proof.Tests

set_option Elab.async false

/-! ### Small states -/

/-- A tile whose core runs, with some registers. -/
def tile1 (regs : List (Nat × Word)) : Tile :=
  { Tile.reset with core := { Core.reset with run := .running, regs := regs }, started := true }

/-- A module that is ready, with one tile in slot 0. -/
def at0 (x : Tile) : State := { State.reset with boot := .ready, tiles := [(0, x)] }

/-- Register 1 is 5, register 2 is 7, register 3 is 2^32 - 1. -/
def regs1 : List (Nat × Word) := [(1, 5), (2, 7), (3, 0xFFFFFFFF)]

/-- The tile that a command leaves in slot 0. -/
def after (c : Instr) (s : State) : Tile :=
  match exec c s with
  | .next s' => s'.tile 0
  | _ => Tile.reset

/-! ### The tile core (R88, R101) -/

theorem test_add_wraps : (after (.add 0 4 3 1 0) (at0 (tile1 regs1))).reg 4 = 4 := by decide
theorem test_sra_signed : (after (.sra 0 4 3 1 0) (at0 (tile1 regs1))).reg 4 = 0xFFFFFFFF := by decide
theorem test_shr_unsigned : (after (.shr 0 4 3 1 0) (at0 (tile1 regs1))).reg 4 = 0x07FFFFFF := by decide
theorem test_slt_signed : (after (.slt 0 4 3 1 0) (at0 (tile1 regs1))).reg 4 = 1 := by decide
theorem test_sltu_unsigned : (after (.sltu 0 4 3 1 0) (at0 (tile1 regs1))).reg 4 = 0 := by decide
theorem test_addi_sign_extends : (after (.addi 0 1 1 0xFFF) (at0 (tile1 regs1))).reg 1 = 4 := by decide
theorem test_andi_zero_extends : (after (.andi 0 4 3 0xFFF) (at0 (tile1 regs1))).reg 4 = 0xFFF := by decide
theorem test_reserved_field_faults : ((after (.add 0 4 3 1 1) (at0 (tile1 regs1))).core.fault.map (·.code)) =
    some .illegalInstruction := by decide +kernel
theorem test_blt_taken_backwards :
    (after (.blt 0 3 1 0x1FFF) (at0 { tile1 regs1 with core := { (tile1 regs1).core with pc := 9 } })).core.pc = 8 := by decide
theorem test_linc_saturates_low : (after (.linc 0 0 0x7FFFF) (at0 (tile1 regs1))).lc 0 = 0 := by decide

theorem witness_ScalarCore : Issues (at0 (tile1 regs1)) 0 ∧ Usable (at0 (tile1 regs1)) 0 [1, 2] := by
  unfold Issues Usable
  decide

/-! ### Witnesses: the tile core -/

theorem witness_ScalarCore_branches : Issues (at0 (tile1 regs1)) 0 ∧ Usable (at0 (tile1 regs1)) 0 [1, 2]
    ∧ ((tile1 regs1).reg 1).toInt < ((tile1 regs1).reg 2).toInt := by
  unfold Issues Usable
  decide

/-- Bases at the edge of the scratchpad, off a word, in a control register, and where nothing stands. -/
def edge : State := at0 (tile1 [(1, 0x2FFFFC), (2, 0x2FFFFD), (3, 0x700000), (4, 0x800000), (5, 0x700380)])

theorem witness_LoadsAndStores_scratchpad : Issues edge 0 ∧ Usable edge 0 [1] ∧ address edge 0 1 0 % 4 = 0
    ∧ address edge 0 1 0 < 0x300000 ∧ padMapped (edge.tile 0).pad.bankOk (address edge 0 1 0) = true
    ∧ (edge.tile 0).standing (address edge 0 1 0 / 64) = false
    ∧ (edge.tile 0).sbCheck [] [[(address edge 0 1 0, 4)]] 0 = .go := by
  unfold Issues Usable
  decide +kernel

theorem witness_LoadsAndStores_filled :
    let x := { tile1 [(1, 0x2FFFFC)] with pad := { Pad.reset with fill := [(0x2FFFFC / 64, true)] } }
    x.sbCheck [[(0x2FFFFC, 4)]] [] 0 = .go ∧ (at0 x).tile 0 = x := by decide +kernel

theorem witness_LoadsAndStores_register : address edge 0 5 0 = 0x700000 + 0x380
    ∧ ((edge.tile 0).regRead (edge.ctx 0) 0x380).isSome = true ∧ ¬ ((0x380 : Nat) = 0x390 ∧ edge.stepWaits 0 = true)
    ∧ ∀ k, k < 4 → ((edge.tile 0).outerByte (edge.ctx 0) (0x700380 + k)).isSome = true := by decide +kernel

theorem witness_TileFaults : Issues edge 0 ∧ Usable edge 0 [2] ∧ Usable edge 0 [4] ∧ address edge 0 2 0 % 4 ≠ 0
    ∧ address edge 0 4 0 % 4 = 0 ∧ 0x300000 ≤ address edge 0 4 0
    ∧ (edge.tile 0).outerByte (edge.ctx 0) (address edge 0 4 0) = none := by
  unfold Issues Usable
  decide +kernel

/-- Bank 3 unusable: the upper half of its group is a hole. -/
def holed : State :=
  at0 { tile1 [(1, 0x80000), (2, 0x7FFFC), (8, 1), (9, 0x7FFC0), (10, 65)] with pad := { Pad.reset with bankOk := 0xFFFFF7 } }

theorem witness_Holes : Issues holed 0 ∧ Usable holed 0 [1] ∧ Hole (holed.tile 0).pad.bankOk (address holed 0 1 0)
    ∧ address holed 0 1 0 % 4 = 0 ∧ ¬ Hole (holed.tile 0).pad.bankOk (address holed 0 2 0) := by
  refine ⟨by unfold Issues; decide, by unfold Usable; decide, ⟨by decide, .inr ⟨.inl ⟨3, by decide⟩, by decide⟩⟩, by decide, ?_⟩
  rintro ⟨-, ⟨-, b, h, e⟩ | ⟨-, e⟩⟩
  · revert b
    decide
  · revert e
    decide

theorem witness_Holes_handle : Usable holed 0 [8, 9, 10] ∧ (holed.tile 0).handleBusy 5 = false ∧ ((8 : BitVec 5)).toNat ≤ 29
    ∧ ((holed.tile 0).reg 8).toNat % 4 = 1 ∧ ((holed.tile 0).reg 8).toNat / 16 = 0 ∧ ((holed.tile 0).reg 9).toNat % 64 = 0
    ∧ Hole (holed.tile 0).pad.bankOk 0x80000 ∧ 0x7FFC0 ≤ 0x80000 ∧ 0x80000 < 0x7FFC0 + 65 := by
  refine ⟨by unfold Usable; decide, by decide, by decide, by decide, by decide, by decide,
    ⟨by decide, .inr ⟨.inl ⟨3, by decide⟩, by decide⟩⟩, by decide, by decide⟩

theorem test_load_hole_faults : ((after (.lw 0 4 1 0) holed).core.fault.map (·.code)) = some .addressFault := by decide +kernel
theorem test_hset_over_hole_faults : ((after (.hset 0 (handleOp 5 0 8 0)) holed).core.fault.map (·.code)) = some .handleRange := by
  decide +kernel

/-- One producer over lines 1 and 2. -/
def guarded : Tile := { tile1 [] with pad := { Pad.reset with sb := [(0, ⟨1, 2, true, 1, 9⟩)], fill := [(4, true)] } }

theorem witness_ScoreboardGate : 0 < 4 ∧ 188 % 64 + 4 ≤ 64 ∧ guarded.pad.winslots = [] ∧ (∀ p ∈ guarded.pad.sb, p.2.unit ≠ 3)
    ∧ guarded.pad.sb.length ≤ 32 := by decide +kernel
theorem test_read_waits_for_producer : guarded.sbCheck [[(128, 4)]] [] 0 = .hold 2 9 1 := by decide +kernel
theorem test_read_of_unfilled : guarded.sbCheck [[(192, 4)]] [] 0 = .unfilled 3 := by decide +kernel
theorem test_write_past_producer : guarded.sbCheck [] [[(192, 4)]] 0 = .go := by decide +kernel

/-! ### Witnesses: handles -/

/-- Registers 8 to 10 a scratchpad entry of 128 bytes at 0x1000, 12 to 14 a bad PERM, 16 to 18 off a line, 20 to 22 kind 0. -/
def forHandles : State :=
  at0 { tile1 [(8, 1), (9, 0x1000), (10, 128), (12, 13), (16, 1), (17, 0x1001), (18, 4), (24, 1), (25, 0x2FFFC0), (26, 65), (1, 64), (2, 64)]
    with pad := { Pad.reset with handles := [(3, ⟨9, 0x1000, 128⟩)] } }

theorem witness_HandleSetChecks : Issues forHandles 0 ∧ Usable forHandles 0 [8, 9, 10] ∧ (forHandles.tile 0).handleBusy 3 = false
    ∧ ((forHandles.tile 0).reg 20).toNat % 4 = 0 ∧ ((forHandles.tile 0).reg 12).toNat % 4 = 1
    ∧ ((forHandles.tile 0).reg 12).toNat / 4 % 4 = 3 ∧ ((forHandles.tile 0).reg 17).toNat % 64 ≠ 0
    ∧ padMapped (forHandles.tile 0).pad.bankOk 0x300000 = false ∧ 0x2FFFC0 + 65 = 0x300001 := by
  unfold Issues Usable
  decide +kernel

theorem witness_HandleTable : ((forHandles.tile 0).handle 3).kind = 1 ∧ ((forHandles.tile 0).handle 3).canWrite = true
    ∧ ((forHandles.tile 0).handle 4).kind ≠ 1 ∧ ((forHandles.tile 0).reg 1).toNat + ((forHandles.tile 0).reg 2).toNat ≤
      ((forHandles.tile 0).handle 3).size ∧ ((forHandles.tile 0).handle 3).size < ((forHandles.tile 0).reg 1).toNat + 65
    ∧ (forHandles.tile 0).sbCheck [] [[(0x1040, 64)]] 0 = .go ∧ (forHandles.tile 0).handleBusy 3 = false := by decide +kernel

/-- A vector load under way through handle 3. -/
def busy3 : Tile := { tile1 [] with units := { Units.reset with vuq := [⟨.vld, ⟨0, 0, 0, 0, 0, 0, 3, 0⟩, .mem 0, 0, []⟩] } }

theorem witness_HandleTable_stall : Issues (at0 busy3) 0 ∧ ((at0 busy3).tile 0).handleBusy 3 = true := by
  unfold Issues
  decide +kernel

theorem test_hset_writes : ((after (.hset 0 (handleOp 5 0 8 0)) forHandles).handle 5) = ⟨1, 0x1000, 128⟩ := by decide +kernel
theorem test_hfill_marks : (after (.hfill 0 (handleOp 3 0 1 2)) forHandles).filled 65 = true
    ∧ (after (.hfill 0 (handleOp 3 0 1 2)) forHandles).filled 64 = false := by decide +kernel

/-! ### Witnesses: messages of the tile core -/

def hdr0 : Header := ⟨0, 0, 0, 2, false, false, 7, 0, 0, false, false, false, false, 0, 0, 0, 0, 3, 0, 0⟩
def msg0 : Msg := ⟨hdr0, [1, 2, 3], false⟩

/-- Queues 2 and 3 are open; 2 holds a message and 3 one that is selected. Register 1 masks both, register 2 masks queue 5. -/
def receiving : Tile := { tile1 [(1, 12), (2, 32)] with
  queues := [(2, ⟨1, true, false, 0, 0, [msg0], [], 0, false, 0, 0, 0⟩), (3, ⟨1, true, false, 0, 0, [msg0], [], 0, true, 0, 0, 0⟩)] }

theorem witness_ReceiveSelect : Issues (at0 receiving) 0 ∧ Usable (at0 receiving) 0 [1] ∧ ((4 : BitVec 5)).toNat % 2 = 0
    ∧ (receiving.queue 2).held = [msg0] ∧ (receiving.queue 2).selected = false ∧ (receiving.queue 3).selected = true
    ∧ (receiving.reg 1).toNat.testBit 2 = true ∧ (receiving.reg 2).toNat.testBit 5 = true ∧ (receiving.queue 5).held = []
    ∧ (∀ u, u < 4 → (receiving.su u).enable = false) ∧ (receiving.reg 3).toNat % 65536 = 0 := by
  unfold Issues Usable
  decide +kernel

theorem test_recvsel_takes_queue_2 : (after (.recvsel 0 ⟨4, 1, false, false, 0, 0⟩) (at0 receiving)).reg 4 = 0x00030002 := by
  decide +kernel
theorem test_recvsel_nb_empty : (after (.recvsel 0 ⟨4, 2, false, true, 0, 0⟩) (at0 receiving)).reg 4 = 0xFFFFFFFF := by
  decide +kernel

/-- Register 2 names row 1, position 2, queue 4; register 4 is a payload of 64 bytes; handle 3 may be read. -/
def sender : State := at0 { tile1 [(2, 0x10410000), (4, 64), (5, 1), (6, 8192 - 1)] with
  pad := { Pad.reset with handles := [(3, ⟨5, 0x1000, 128⟩)], fill := [(64, true), (65, true)] } }

theorem witness_Sending : Issues sender 0 ∧ Usable sender 0 [2, 3, 4] ∧ ((2 : BitVec 5)).toNat % 2 = 0
    ∧ (sender.tile 0).units.mu.length < 8 ∧ ((sender.tile 0).handle 3).kind = 1 ∧ ((sender.tile 0).handle 3).canRead = true
    ∧ (sender.tile 0).sbCheck [[(0x1000, 64)]] [] 1 = .go ∧ (sender.tile 0).shadowing = false
    ∧ 4096 < ((sender.tile 0).reg 6).toNat % 8192 ∧ ((sender.tile 0).reg 2).toNat % 65536 = 0
    ∧ ((sender.tile 0).reg 5).toNat % 65536 ≠ 0 ∧ ((sender.tile 0).handle 4).kind ≠ 1 := by
  unfold Issues Usable
  decide +kernel

def muEntry (ph : MuPhase) : MuEntry := ⟨msg0, ph, some 6, some 3, 0x1000, [], none, 1024, 0⟩

theorem witness_Sending_retires :
    let x := { tile1 [] with core := { (tile1 []).core with held := [6] }, units := { Units.reset with mu := [muEntry (.done 0)] } }
    ((at0 x).tile 0).units.mu = [muEntry (.done 0)] ∧ (muEntry (.done 0)).phase = .done 0 := by decide +kernel

/-! ### Witnesses: units -/

theorem witness_VectorUnits : Issues forHandles 0 ∧ VecFree (forHandles.tile 0) [0, 1, 2, 3]
    ∧ VecFn.vadd.assigned 2 0 = true ∧ VecFn.vlogic.assigned 3 3 = true ∧ VecFn.vcvt.assigned 3 6 = true := by
  unfold Issues VecFree
  decide +kernel

/-- Handles of each kind: scratchpad of 512 bytes, memory of 2 units of 256 bytes, a window. -/
def vecMem : Tile := { tile1 [] with
  pad := { Pad.reset with
    handles := [(1, ⟨1, 0x1000, 512⟩), (2, ⟨2, 0x100, 2⟩), (3, ⟨0x10003, 0x301, 512⟩), (4, ⟨1, 0x1000, 511⟩)]
    fill := (List.range 8).map fun i => (64 + i, true) } }

theorem witness_VectorUnits_memory : (vecMem.handle 1).kind = 1 ∧ (vecMem.handle 1).canWrite = true ∧ (vecMem.handle 1).canRead = true
    ∧ 512 ≤ (vecMem.handle 1).size ∧ (vecMem.handle 2).kind = 2 ∧ 512 ≤ 256 * (vecMem.handle 2).size ∧ (vecMem.handle 3).kind = 3
    ∧ (vecMem.handle 4).size < 512 ∧ (vecMem.handle 5).kind = 0 ∧ vecMem.sbCheck [[(0x1000, 512)]] [] 1 = .go
    ∧ vecMem.spanStanding (64, 71) = false ∧ (1 : Nat) % 4 ≠ 0 := by decide +kernel

/-- A window slot stands over lines 64 to 71. -/
theorem witness_VectorUnits_standing : ({ vecMem with pad := { vecMem.pad with sb := [(0, ⟨64, 71, true, 3, 0⟩)] } } : Tile).spanStanding
    (64, 71) = true ∨ vecMem.spanStanding (64, 71) = false := by decide +kernel

def vop : VecOp := ⟨0, 1, 2, 3, 3, 0, 0, 0⟩
def withJob (j : VecJob) : State := at0 { tile1 [] with units := { Units.reset with vuq := [j] } }

theorem witness_VectorResults : ((withJob ⟨.viadd, vop, .none, 0, []⟩).tile 0).units.vuq = [⟨.viadd, vop, .none, 0, []⟩]
    ∧ ((withJob ⟨.vst, vop, .mem 64, 0, []⟩).tile 0).shadowing = false ∧ (64 : Nat) % 64 = 0
    ∧ (∀ i, i < 8 → (withJob ⟨.vld, vop, .mem 64, 0, []⟩).poisoned (1 + i) = false
      ∧ ∀ w ∈ (withJob ⟨.vld, vop, .mem 64, 0, []⟩).mem.writes, w.line ≠ 1 + i) := by decide +kernel

theorem witness_VectorUnits_lanes : (127 : Nat) < 128 ∧ vop.ty.toNat = 3 := by decide


/-! ### Witnesses: the matrix engine -/

def mop : MmbOp := ⟨1, 2, 3, 0, 1, 0, 2, 2, 0, false, true, false, false, false, 0⟩

/-- Group 1 asks for a product of 1 by 1 by 1 elements of I8 over handles 1 to 3; 2 × (-3) lies there. -/
def mmbTile : Tile := { tile1 [(8, 0x00010001), (9, 0x00010001), (13, 0x00400040), (14, 0x40)] with
  pad := { Pad.reset with
    handles := [(1, ⟨5, 0x1000, 64⟩), (2, ⟨5, 0x1040, 64⟩), (3, ⟨1, 0x1080, 64⟩)]
    bytes := [(0x1000, 2), (0x1040, 0xFD)]
    fill := [(64, true), (65, true)] } }

theorem witness_MatrixEngine : Issues (at0 mmbTile) 0 ∧ Usable (at0 mmbTile) 0 (regRun 8 8)
    ∧ mmbCheck mmbTile (mmbJob mmbTile mop) = none
    ∧ mmbTile.sbCheck (mmbJob mmbTile mop).reads [(mmbJob mmbTile mop).writes] (mmbJob mmbTile mop).entries.length = .go
    ∧ mmbCheck mmbTile (mmbJob mmbTile { mop with fmtB := 5 }) = some .mmbFormat
    ∧ mmbTile.units.meq.length < 2 := by
  unfold Issues Usable
  decide +kernel

/-- That job at the head of the engine. -/
def mmbAt : State := at0 { mmbTile with units := { Units.reset with meq := [mmbJob mmbTile mop] } }

theorem witness_MatrixEngine_retire : (mmbAt.tile 0).units.meq = [mmbJob mmbTile mop]
    ∧ (mmbJob mmbTile mop).colsC * (mmbJob mmbTile mop).cw ≤ (mmbJob mmbTile mop).pitchC
    ∧ (mmbJob mmbTile mop).isInt = true ∧ (mmbJob mmbTile mop).batch = 1 ∧ (mmbJob (tile1 []) mop).m = 0 := by decide +kernel

theorem test_mmb_product : (after (.mmbRetire 0 false) mmbAt).readNat 0x1080 4 = 0xFFFFFFFA := by decide +kernel

/-! ### Witnesses: what stands before an instruction, fences, barriers, halts -/

theorem witness_InstructionGate : instruction (.add 0 4 3 1 1) = some (0, .alu .add 4 3 1 1)
    ∧ (Tis.alu .add 4 3 1 1).legal = false ∧ Issues (at0 (tile1 [])) 0 ∧ ¬ Issues (at0 Tile.reset) 0
    ∧ ∃ r ∈ (Tis.alu .add 4 3 1 0).reads, (sender.tile 0).core.held.contains r = false := by
  unfold Issues
  refine ⟨rfl, by decide, by decide +kernel, by decide +kernel, 3, by decide, by decide⟩

theorem witness_InstructionGate_held :
    let x := { tile1 [] with core := { (tile1 []).core with held := [6] } }
    Issues (at0 x) 0 ∧ (Tis.alu .add 4 6 1 0).legal = true
      ∧ ∃ r ∈ (Tis.alu .add 4 6 1 0).reads, ((at0 x).tile 0).core.held.contains r = true := by
  unfold Issues
  refine ⟨by decide +kernel, by decide, 6, by decide, by decide⟩

theorem witness_InstructionFrame : instruction (.hinv 0 (handleOp 5 0 0 0)) = some (0, .hinv (handleOp 5 0 0 0))
    ∧ (∃ s', exec (.hinv 0 (handleOp 5 0 0 0)) forHandles = .next s') := ⟨rfl, _, rfl⟩

theorem witness_TileStops : Issues (at0 (tile1 [])) 0 ∧ Complete (tile1 []) true true true true
    ∧ ¬ Complete { tile1 [] with units := { Units.reset with memWrites := 1 } } false true false false
    ∧ Complete { tile1 [] with units := { Units.reset with memWrites := 1 } } true false true true := by
  refine ⟨by unfold Issues; decide, ⟨?_, ?_, ?_, ?_⟩, fun h => absurd (h.2.1 rfl).1 (by decide), ⟨?_, ?_, ?_, ?_⟩⟩ <;>
    simp [tile1, Tile.reset, Units.reset]

theorem witness_TileStops_fencing : ((at0 ((tile1 []).setRun (.fencing true false false true))).tile 0).core.run
    = .fencing true false false true := by decide

/-- Tile 0 and tile 1 are the members of barrier 5. -/
def forBar : State := { at0 (tile1 []) with net := { Net.reset with barriers := [(5, ⟨[0, 1], [1]⟩)] } }

theorem witness_Barriers : Issues forBar 0 ∧ (0 ∈ (forBar.barrierAt 5).members) ∧ 0 ∉ (forBar.barrierAt 63).members
    ∧ (forBar.barrierAt 5).members.Nodup ∧ (forBar.suspect 0).window.length < 9999
    ∧ ((at0 ((tile1 []).setRun (.barFence 5))).tile 0).core.run = .barFence 5 := by
  unfold Issues
  decide +kernel

theorem test_bar_arrives : (after (.bar 0 5 0) forBar).core.run = .barrier 5 := by decide +kernel

/-- Bytes of a plan of two sections of two stages each. -/
def planBytes2 : List Byte :=
  (List.range 800).map fun i => match i with
    | 48 | 49 | 100 | 258 | 288 | 290 => 2
    | 96 => 1
    | 577 | 705 => 1
    | 640 | 704 => 1
    | _ => 0

/-- Strand 0 runs job (0, 0) of plan 1 on slots 12 to 1, stage 0 at slot 12; slot 0 is its spare. -/
def onJob (v : Strand) : State := { State.reset with
  boot := .ready
  tiles := [(0, tile1 []), (12, tile1 [])]
  plans := [⟨1, planBytes2, false, [], false⟩]
  strands := [(0, { v with plan := 1, job := some (0, 0) })] }

def forHalt : State := onJob { Strand.reset with phase := .running }

theorem witness_TileStops_halts : Issues forHalt 0 ∧ Issues forHalt 12 ∧ forHalt.rawOwner 12 = none ∧ forHalt.stageAt 0 = none
    ∧ forHalt.stageAt 12 = some 0 ∧ (1 : Nat) < forHalt.secStageCount 0 ∧ (forHalt.strand 0).job = some (0, 0)
    ∧ (forHalt.strand 0).next = none ∧ (forHalt.tile 12).chk.stepOpen = false := by
  unfold Issues
  decide +kernel

theorem witness_TileStops_stall :
    let x := { tile1 [(1, 0x2FFFFC)] with
      core := { (tile1 [(1, 0x2FFFFC)]).core with run := .stalled (.load .lw 4 1 0) true, stallLimitUs := 3 }
      pad := { Pad.reset with fill := [(0x2FFFFC / 64, true)] } }
    x.core.run = .stalled (.load .lw 4 1 0) true ∧ x.core.held.contains 1 = false ∧ address (at0 x) 0 1 0 % 4 = 0
      ∧ address (at0 x) 0 1 0 < 0x300000 ∧ padMapped x.pad.bankOk 0x2FFFFC = true
      ∧ x.sbCheck [[(0x2FFFFC, 4)]] [] 0 = .go ∧ (3 : Nat) ≤ 3000 ∧ (tile1 []).sbCheck [[(0x2FFFFC, 4)]] [] 0 = .unfilled 0xBFFF := by
  decide +kernel

/-! ### Witnesses: control registers -/

theorem witness_TileRegisters : Issues (at0 (tile1 [])) 0 ∧ Usable (at0 (tile1 [])) 0 [1]
    ∧ ((tile1 []).regRead ((at0 (tile1 [])).ctx 0) 0x380).isSome = true ∧ (0x380 : BitVec 12).toNat % 4 = 0
    ∧ (at0 (tile1 [])).stepWaits 0 = false ∧ (0x381 : BitVec 12).toNat % 4 ≠ 0
    ∧ (tile1 []).regRead ((at0 (tile1 [])).ctx 0) 0xFFC = none := by
  unfold Issues Usable
  decide +kernel

theorem witness_TileRegisters_outputs : ((tile1 []).su 3).enable = false ∧ ((tile1 []).su 3).outs.length = 4
    ∧ (0x700400 + 32 * 3 + 8 * 3 + 4 : Nat) = 0x70047C := by decide

theorem test_mstat_clear : (after (.mstatClear 0 0x12)
    (at0 { tile1 [] with core := { (tile1 []).core with mstat := 0x1F } })).core.mstat = 0x0D := by decide

/-- Unit 1 is enabled on queue 3; unit 0 has two LAND outputs. -/
def steering : Tile := { tile1 [] with
  sus := [(0, { Su.reset with outs := [(3, 0), (3, 0), (1, 0), (0, 0)] }), (1, { Su.reset with enable := true, iq := 3 })] }

theorem witness_QueueAndStage : (steering.su 0).enable = false ∧ (steering.su 1).enable = true
    ∧ (∃ w, w < 4 ∧ w ≠ 0 ∧ (steering.su w).enable = true ∧ (steering.su w).iq = 0x0D / 4 % 16)
    ∧ (¬ ∃ w, w < 4 ∧ w ≠ 0 ∧ (steering.su w).enable = true ∧ (steering.su w).iq = 0x01 / 4 % 16)
    ∧ steering.pad.sb.length + 2 ≤ 32 := by
  refine ⟨by decide, by decide, ⟨1, by decide⟩, ?_, by decide⟩
  rintro ⟨w, h, k, e, f⟩
  have : w = 1 ∨ w = 2 ∨ w = 3 := by omega
  rcases this with rfl | rfl | rfl <;> revert e f <;> decide

theorem test_sucfg_takes_entries : (after (.sucfgWrite 0 0 0x01) (at0 steering)).pad.sb.length = 2
    ∧ ((after (.sucfgWrite 0 0 0x0D) (at0 steering)).su 0).enable = false := by decide +kernel

theorem witness_QueueAndStage_queue : (receiving.queue 3).isOpen = true ∧ (receiving.queue 3).held ≠ []
    ∧ ((Tile.reset.setQueue 4 { Queue.reset with qsize := 1 }).queue 4).isOpen = false ∧ (receiving.queue 5).qsize = 0 := by
  decide

theorem test_qctl_opens : ((after (.qctlWrite 0 4 0x101)
    (at0 ((tile1 []).setQueue 4 { Queue.reset with qsize := 1, gen := 15, held := [msg0] }))).queue 4)
      = { Queue.reset with qsize := 1, isOpen := true, resv := 1, advances := 1 } := by decide +kernel

theorem witness_QueueAndStage_reports : forHalt.stageAt 12 = some 0 ∧ (forHalt.strand 0).job.isSome = true
    ∧ (forHalt.strand 0).ownerOf 0 = some (0, 0) ∧ (State.reset.strand 0).ownerOf 0 = none ∧ forHalt.stepWaits 12 = false := by
  decide +kernel

/-! ### Witnesses: module memory -/

/-- Line 9 holds a write of a tile; the key is present. -/
def memory : State := { at0 (tile1 []) with
  mem := { Mem.reset with cells := [(64, 7)], writes := [⟨9, List.replicate 64 3, some 0⟩] } }

theorem witness_MemoryNode : memory.memUp = true ∧ memory.mem.keyPresent = true ∧ memory.poisoned 1 = false
    ∧ (∀ w ∈ memory.mem.writes, w.line ≠ 1) ∧ memory.mem.writes[0]? = some ⟨9, List.replicate 64 3, some 0⟩
    ∧ (List.replicate 64 (3 : Byte)).length = 64 ∧ memory.get K.eccCorrectedCount + 1 < 2 ^ keyBits K.eccCorrectedCount
    ∧ memory.get K.eccUncorrectableCount + 1 < 2 ^ keyBits K.eccUncorrectableCount
    ∧ memory.get (K.subchCorrected (subChannel 1)) + 1 < 2 ^ keyBits (K.subchCorrected (subChannel 1)) := by decide +kernel

theorem witness_MemoryNode_upkeep : memory.memUp = true ∧ memory.poisoned memory.mem.scrub = false
    ∧ (∀ w ∈ memory.mem.writes, w.line ≠ memory.mem.scrub) ∧ memory.get K.retrainCount + 1 < 2 ^ keyBits K.retrainCount := by
  decide +kernel

def readBack (c : Instr) (s : State) (a : Nat) : Byte :=
  match exec c s with
  | .next s' => s'.memByte a
  | _ => 0

theorem test_ack_lands : readBack (.memWriteAck 0) memory (9 * 64 + 63) = 3 ∧ readBack (.memWriteAck 0) memory (9 * 64 + 64) = 0
    ∧ readBack (.memWriteAck 0) memory 64 = 7 := by decide +kernel
theorem test_poison_line_1 : (match exec (.memRequest ⟨false, 1, [], 3, .plain⟩) memory with
    | .next s' => s'.poisoned 1 | _ => false) = true := by decide +kernel

/-! ### Witnesses: messages under way -/

/-- A message of 3 bytes for queue 2 of the tile at row 0, position 3, and its place in a unit. -/
def msg2 : Msg := ⟨{ hdr0 with dstPos := 3 }, [1, 2, 3], false⟩
def entry2 (m : Msg) (ph : MuPhase) : MuEntry := ⟨m, ph, some 6, some 3, 0x1000, [], none, 2, 0⟩

/-- Tile 0 sends; tile 2 has queue 2 with `c`. -/
def delivering (m : Msg) (ph : MuPhase) (c : Queue) : State := { at0 (tile1 []) with
  tiles := [(0, { tile1 [] with units := { Units.reset with mu := [entry2 m ph] } }), (2, { tile1 [] with queues := [(2, c)] })] }

def open2 : Queue := ⟨1, true, false, 0, 0, [], [], 0, false, 0, 0, 0⟩
def reply2 : Msg := ⟨{ hdr0 with dstPos := 3, reply := true }, [1, 2, 3], false⟩

theorem witness_Delivery :
    let s := delivering msg2 .flying open2
    s.srcEntry (.tile 0 0) = some (msg2, .flying) ∧ s.behind (.tile 0 0) msg2.hdr = false
      ∧ slotOf msg2.hdr.dstRow.toNat msg2.hdr.dstPos.toNat = some 2 ∧ firstFailure s 2 msg2 = none
      ∧ ((s.tile 2).queue 2).spilled = [] ∧ ((s.tile 2).queue 2).room msg2.space = true
      ∧ (msg2.hdr.token = false ∧ msg2.hdr.dstEp = 0 ∧ msg2.hdr.reply = false) := by decide +kernel

theorem witness_Delivery_refused :
    firstFailure (delivering msg2 .flying { open2 with isOpen := false }) 2 msg2 = some 2
    ∧ firstFailure (delivering msg2 .flying { open2 with gen := 15 }) 2 msg2 = some 3
    ∧ firstFailure (delivering msg2 .flying { open2 with replyOnly := true }) 2 msg2 = some 5
    ∧ firstFailure (delivering reply2 .flying { open2 with replyOnly := true }) 2 reply2 = some 7
    ∧ firstFailure (delivering reply2 .flying { open2 with replyOnly := true, credits := 1, resv := 1 }) 2 reply2 = none := by
  decide +kernel

theorem witness_Delivery_spills :
    let s := delivering msg2 .refused { open2 with held := List.replicate 8 msg2 }
    s.srcEntry (.tile 0 0) = some (msg2, .refused) ∧ firstFailure s 2 msg2 = none
      ∧ ((s.tile 2).queue 2).room msg2.space = false ∧ (s.tile 2).ringRoom 2 msg2 = true
      ∧ ({ s.tile 2 with ringBytes := 0 } : Tile).ringRoom 2 msg2 = false := by decide +kernel

theorem witness_ReplyQueues : (delivering msg2 .flying { open2 with replyOnly := true }).srcEntry (.tile 0 0) = some (msg2, .flying)
    ∧ (delivering reply2 .refused open2).srcEntry (.tile 0 0) = some (reply2, .refused)
    ∧ ((delivering reply2 .refused open2).tile 2).enabled = true ∧ ((delivering reply2 .refused open2).tile 2).started = true := by
  decide +kernel

def token2 : Msg := ⟨{ hdr0 with dstPos := 3, token := true, su := 3, tval := 0x41 }, [], false⟩

theorem witness_SteeringUnits :
    let s := delivering token2 .flying open2
    s.srcEntry (.tile 0 0) = some (token2, .flying) ∧ s.behind (.tile 0 0) token2.hdr = false
      ∧ slotOf token2.hdr.dstRow.toNat token2.hdr.dstPos.toNat = some 2 ∧ (s.tile 2).started = true
      ∧ ((s.tile 2).su 3).enable = false ∧ ({ Su.reset with enable := true, tokens := [] } : Su).tokenless = false
      ∧ (List.replicate 8 ((0x41 : Byte), false)).length = 8 := by decide +kernel

/-- Unit 0 steers queue 2 to queue 4 with output 0. -/
def firing (k : Byte) : Tile := { tile1 [] with
  queues := [(2, ⟨1, true, false, 0, 0, [msg0], [], 0, false, 0, 0, 0⟩), (4, ⟨1, true, false, 0, 0, [], [], 0, false, 0, 0, 0⟩)]
  sus := [(0, { Su.reset with enable := true, iq := 2, tokens := [(k, false)], outs := [(0x10000001, 0), (0, 0), (0, 0), (0, 0)] })] }

theorem witness_SteeringUnits_fires : ((firing 0x40).su 0).firing = none ∧ ((firing 0x40).su 0).tokens = [(0x40, false)]
    ∧ (0x40 : Byte).toNat / 64 = 1 ∧ ((firing 0x40).queue 2).held = [msg0] ∧ ((firing 0x40).queue 2).selected = false
    ∧ ((((firing 0).su 0).outs.getD 0 (0, 0)).1.toNat / 2 ^ 26) % 16 = 4 ∧ (((firing 0).su 0).outs.getD 0 (0, 0)).1.toNat % 4 = 1
    ∧ (firing 0).queueShut 4 = false ∧ ((firing 0).queue 4).replyOnly = msg0.hdr.reply ∧ ((firing 0).queue 4).room msg0.space = true
    ∧ msg0.space ≤ ((firing 0).queue 4).qsize * 512 ∧ ((firing 0).su 1).tokens = [] := by decide +kernel

theorem test_su_drop : ((after (.suFire 0 0) (at0 (firing 0x40))).su 0).discards = 1
    ∧ ((after (.suFire 0 0) (at0 (firing 0x40))).queue 2).held = [] := by decide +kernel

theorem witness_MessageLife : (delivering msg2 .refused open2).srcEntry (.tile 0 0) = some (msg2, .refused)
    ∧ (delivering msg2 .refused open2).srcLimit (.tile 0 0) = 2
    ∧ (delivering msg2 .credit open2).srcEntry (.tile 0 0) = some (msg2, .credit)
    ∧ ((delivering msg2 .flying open2).tile 0).units.mu[0]? = some (entry2 msg2 .flying) := by decide +kernel

theorem witness_MessageLife_waiting :
    let c := { open2 with spilled := [msg2] }
    c.spilled = [msg2] ∧ c.room msg2.space = true ∧ ({ c with qsize := 0 } : Queue).room msg2.space = false
      ∧ (entry2 msg2 .budget).phase = .budget ∧ msg2.hdr.flits ≤ msg2.hdr.flits := by decide +kernel

theorem witness_MessageLife_classes :
    let s := State.reset.set K.priorityClassState 1
    s.get K.priorityClassState = 1 ∧ s.pDrained = true ∧ (s.set K.priorityClassState 2).get K.priorityClassState = 2
      ∧ (State.reset.set K.priorityClassState 3).get K.priorityClassState = 3 := by decide +kernel

/-! ### Witnesses: windows and packets -/

/-- Window 7 over 256 bytes of memory is open to all; window 255 over the scratchpad of tile 0 is closing. -/
def forWindows : State := { at0 (tile1 []) with fabric := { Fabric.reset with
  windows := [(7, { Window.closed with state := 1, kind := 2, base := 4, size := 1 }),
    (9, { Window.closed with freedAt := some 0 }),
    (255, { Window.closed with state := 2, kind := 1, base := 0x2FFFC0, size := 64, waitAck := [5, 6], scope := 1, peer := 5 })] } }

theorem witness_Windows : windowFailure forWindows 7 9 0 256 = 0 ∧ windowFailure forWindows 7 9 1 256 = 0x20
    ∧ windowFailure forWindows 8 9 0 1 = 0x1E ∧ windowFailure forWindows 255 6 0 1 = 0x21 ∧ windowFailure forWindows 255 5 0 64 = 0
    ∧ (forWindows.window 7).kind ≠ 1 ∧ (forWindows.window 255).kind = 1 := by
  unfold windowFailure
  decide +kernel

theorem test_window_write_lands : readBack (.windowWriteLand 7 9 192 (List.replicate 64 0xAB)) forWindows (4 * 256 + 255) = 0xAB
    ∧ readBack (.windowWriteLand 7 9 256 (List.replicate 64 0xAB)) forWindows (4 * 256 + 256) = 0 := by decide +kernel

theorem witness_Windows_close : (forWindows.window 255).state = 2 ∧ (∃ e ∈ (forWindows.window 255).waitAck, e ≠ 5)
    ∧ (forWindows.window 255).owner = none ∧ (forWindows.window 9).freedAt.isSome = true
    ∧ (forWindows.window 9).state = 0 ∧ forWindows.get K.windowReuseHold ≤ 1000000 := by decide +kernel

theorem witness_Windows_last :
    let v := { Window.closed with state := 2, kind := 1, waitAck := [] }
    let s := { State.reset with fabric := { Fabric.reset with windows := [(3, v)] } }
    (s.window 3).state = 2 ∧ (s.window 3).waitAck = [] ∧ (∀ e ∈ (s.window 3).waitAck, e = 5) ∧ (s.window 3).owner = none := by
  decide +kernel

/-- A packet for endpoint 5, one for a window of this module. -/
def packet (dst seq : BitVec 16) (hops : Nat) : Packet :=
  ⟨dst, 4, .msg, true, true, false, false, false, false, hops, 1, seq, 1, 0, 0, 1000, 0, [], 0, [], []⟩

/-- Port 2 is up; endpoint 5 lies by it; a transfer to endpoint 4 is under way; a flow from there has a packet beyond a gap. -/
def forPackets : State := { State.reset.set (K.portState 2) 2 with fabric := { Fabric.reset with
  active := ⟨[(4, 0x20004)], 0, []⟩
  transfers := [⟨4, 1, [packet 4 7 0], .tile 0, 0, none, some 3, true⟩]
  flows := [⟨4, 1, 6, 3, [packet 1 8 0], 0, 0⟩]
  mcasts := [⟨1, hdr0, 0, true, 6, 0, 4, 0, 0, 0, 0, [], none, 1, 1⟩] } }

theorem witness_PacketFlow : forPackets.portUp 2 = true ∧ forPackets.portUp 3 = false
    ∧ (forPackets.route 5).testBit 8 = false ∧ forPackets.candidates (forPackets.route 5) false = [2]
    ∧ (packet 5 7 63).hops < 64 ∧ 64 ≤ (packet 5 7 64).hops ∧ (packet 5 7 0).age ≤ 1000 ∧ (packet 5 7 0).mcast = false := by
  decide +kernel

theorem witness_PacketFlow_answers : isMcastFlow 1 = false
    ∧ forPackets.fabric.transfers = [] ++ ⟨4, 1, [packet 4 7 0], .tile 0, 0, none, some 3, true⟩ :: []
    ∧ (⟨4, 1, [packet 4 7 0], .tile 0, 0, none, some 3, true⟩ : Transfer).first = 7 ∧ forPackets.fabric.closes = []
    ∧ forPackets.fabric.epochPhase = .none ∧ (forPackets.rflow 4 1).unacked = 0
    ∧ forPackets.ackPoint (forPackets.rflow 4 1) ≠ (forPackets.rflow 4 1).acked
    ∧ forPackets.ackPoint (forPackets.rflow 9 1) = (forPackets.rflow 9 1).acked := by decide +kernel

theorem witness_PacketFlow_timers : (forPackets.rflow 4 1).held ≠ [] ∧ (forPackets.rflow 4 1).missing = 2
    ∧ (forPackets.rflow 4 1).nacks < 3 ∧ (forPackets.rflow 9 1).held = [] ∧ forPackets.fabric.reorderUs = 20
    ∧ forPackets.highestUnacked 4 1 = some (packet 4 7 0)
    ∧ forPackets.fabric.mcasts[0]? = some ⟨1, hdr0, 0, true, 6, 0, 4, 0, 0, 0, 0, [], none, 1, 1⟩
    ∧ forPackets.get K.multicastRetryInterval ≤ 1000000 := by decide +kernel

def neighbour1 : Neighbour := ⟨1, 3, 0, 5, 0, 15, 0⟩

/-- Eight ports are licensed; port 2 is trained with two lanes, port 1 waits for light; this module is not the leader. -/
def forPorts : State := { State.reset with
  boot := .ready
  dict := [(K.portState 1, 1), (K.portState 2, 2), (K.licenceFeatures, 8)]
  fabric := { Fabric.reset with known := Config.serial + 1, ports := [(2, { FPort.dark with lanes := 3, failed := 7 })] } }

theorem serial_differs : Config.serial + 1 ≠ Config.serial := by
  intro h
  have := congrArg BitVec.toNat h
  simp only [BitVec.toNat_add] at this
  have := Config.serial.isLt
  simp at *

theorem witness_FabricLinks : forPorts.trained 2 = true ∧ forPorts.trained 3 = false ∧ 7 ≤ (forPorts.port 2).failed
    ∧ (forPorts.port 2).lanes &&& ~~~(BitVec.ofNat 4 (2 ^ 1)) ≠ 0 ∧ (FPort.dark.lanes &&& ~~~(BitVec.ofNat 4 (2 ^ 3))) = 0
    ∧ 1 < forPorts.licPorts ∧ forPorts.get (K.portState 1) = 1 ∧ State.reset.get (K.portState 1) = 0
    ∧ neighbour1.lanes ≠ 0 ∧ pairOk 2 3 = true ∧ forPorts.sameKey neighbour1 = false := by decide +kernel

theorem witness_FabricLinks_discovery : forPorts.fabric.known ≠ Config.serial ∧ State.reset.fabric.known = Config.serial
    ∧ forPorts.licPorts ≠ 0 ∧ forPorts.ready = true ∧ forPorts.trainedPorts = [2]
    ∧ (forPorts.set K.fabricState 1).get K.fabricState = 1 ∧ State.reset.ready = false :=
  ⟨serial_differs, rfl, by decide +kernel, by decide +kernel, by decide +kernel, by decide +kernel, by decide⟩

theorem witness_FabricLinks_epoch : forPorts.fabric.epochPhase = .none ∧ (∀ t ∈ forPorts.fabric.transfers, t.sent = false)
    ∧ (∃ t ∈ forPackets.fabric.transfers, t.sent = true) ∧ forPorts.fabric.shadow = none
    ∧ ({ Fabric.reset with shadow := some ⟨[], 0, []⟩ } : Fabric).shadow = some ⟨[], 0, []⟩
    ∧ forPorts.tunes = [] ∧ forPorts.get K.fabricEpoch + 1 < 2 ^ keyBits K.fabricEpoch := by decide +kernel

theorem witness_FabricLinks_ready : State.reset.fabric.known = Config.serial
    ∧ ({ State.reset with fabric := { State.reset.fabric with readies := [1] } } : State).allReady = false := ⟨rfl, by decide +kernel⟩

/-! ### Witnesses: strands -/

def priming1 : State := onJob { Strand.reset with phase := .priming }
def streaming1 : State := onJob { Strand.reset with phase := .priming, streaming := some 1, primed := 1, again := some 1 }

theorem witness_Priming : priming1.mayStream 0 0 = true ∧ priming1.mayStream 0 1 = false ∧ priming1.stageSlot 0 0 = some 12
    ∧ (streaming1.strand 0).streaming = some 1 ∧ streaming1.stageSlot 0 1 = some 11
    ∧ (stageOf (streaming1.planFile ((streaming1.strand 0).planOf 1).1) ((streaming1.strand 0).planOf 1).2 1).isSome = true
    ∧ ((stageOf (streaming1.planFile 1) 0 1).map (·.segCrc)) = some 0 ∧ (streaming1.strand 0).again = some 1
    ∧ (planSec (streaming1.planFile 1) 0).stages ≤ (streaming1.strand 0).primed + 1
    ∧ (priming1.strand 0).primed + 1 < (planSec (priming1.planFile 1) 0).stages := by decide +kernel

theorem witness_Priming_resident :
    let s := onJob { Strand.reset with phase := .priming, resA := 1 }
    s.ready = true ∧ s.isResident 0 (s.strand 0).plan = true ∧ (s.strand 0).streaming = none ∧ (s.strand 0).primed = 0
      ∧ priming1.isResident 0 1 = false ∧ (s.stageRec 0 1).isSome = true := by decide +kernel

theorem witness_StrandLife :
    let s := onJob { Strand.reset with phase := .running, halted := [0, 1], resumes := 2 }
    (s.strand 0).sec + 1 < planSections (s.planFile 1) ∧ s.sectionOver 0 = true ∧ (s.strand 0).resumes < 3
      ∧ s.get K.strandStallLimit ≤ 1000000000 ∧ s.host.d3 = false ∧ (s.strand 0).next = none
      ∧ forHalt.sectionOver 0 = false ∧ (State.reset.strand 3).job = none := by decide +kernel

theorem witness_StrandLife_pairs :
    let s := { State.reset with dict := [(K.licenceFeatures, 48 * 65536)] }
    (s.strand 46).mayFuse = true ∧ (s.strand 47).mayFuse = true ∧ s.busyCount + 2 ≤ s.busyCap ∧ State.reset.busyCount = 0 := by
  decide +kernel

def replacing (w : StrandPhase) (job : Option JobId) : State :=
  { State.reset with strands := [(0, { Strand.reset with phase := .replacing, was := w, job := job })] }

theorem witness_StrandLife_replacement : ((replacing .unlicensed none).strand 0).phase = .replacing
    ∧ ((replacing .idle none).strand 0).was = .idle
    ∧ ([0] : List Nat).any (fun st => (((replacing .idle none).resetTiles ((replacing .idle none).stageSlots 0)).closeP).tooShort st 0) = false
    ∧ (replacing .idle none).check.fencing = [] := by decide +kernel

/-! ### Witnesses: channels -/

/-- Bytes that are 0 but where a pair of an offset and a value says otherwise. -/
def bytesOf (n : Nat) (l : List (Nat × Nat)) : List Byte :=
  (List.range n).map fun i => BitVec.ofNat 8 (((l.find? fun p => p.1 = i).map (·.2)).getD 0)

/-- A valid entry of a type and service: rings of 64, vector 1, 16 in flight, index key 9, coalescing 5 µs. -/
def entryOf (ty svc : Nat) : List Byte :=
  let b := bytesOf 124 [(0, ty), (1, svc), (4, 6), (5, 6), (6, 1), (24, 9), (42, 5), (44, 16)]
  b ++ leBytes 4 (crc32c b).toNat

/-- A module that is ready with channel 0. -/
def hosted (c : Channel) : State := { State.reset with
  boot := .ready
  host := { HostLink.reset with count := 1, lru := [0], channels := [(0, c)] } }

/-- A channel of a type and service whose ring holds one descriptor not fetched. -/
def chanOf (ty svc : Nat) : Channel := { Channel.reset with entry := some (entryOf ty svc), seen := true, tail := 1 }

def desc0 (op : Nat) (l : List (Nat × Nat)) (e : List Byte) (h : Option JobHold) (a : Option Answer) : Desc :=
  ⟨0, bytesOf 64 ((0, op) :: l), e, false, h, a, false, 0⟩

/-- Descriptor 0 of a channel of that type is in flight. -/
def inFlight (ty svc op : Nat) (l : List (Nat × Nat)) (h : Option JobHold) : State :=
  hosted { chanOf ty svc with dhead := 1, fly := [desc0 op l (entryOf ty svc) h none] }

theorem test_entry_valid : entryValid (entryOf 1 5) = true ∧ entryValid (entryOf 1 0) = false ∧ entryValid (entryOf 2 0) = true := by
  decide +kernel

theorem witness_Doorbells : Rings (hosted (chanOf 1 2)) 0 0 ∧ ((64 : BitVec 16) - (chanOf 1 2).oldest).toNat ≤ ringD (entryOf 1 2)
    ∧ ringD (entryOf 1 2) < ((65 : BitVec 16) - (chanOf 1 2).oldest).toNat
    ∧ ((0 : BitVec 16) - (chanOf 1 2).dhead).toNat < ((chanOf 1 2).tail - (chanOf 1 2).dhead).toNat
    ∧ State.reset.ready = false ∧ State.reset.barOpen = true := by
  unfold Rings
  decide +kernel

theorem witness_Doorbells_flight : (inFlight 1 2 0 [] none).desc (0, 0) = some (desc0 0 [] (entryOf 1 2) none none)
    ∧ Rings (inFlight 1 2 0 [] none) 0 0 ∧ (hosted (chanOf 1 2)).rawConflict 0 (entryOf 1 2) = false
    ∧ (hosted (chanOf 2 0)).rawConflict 1 (entryOf 2 0) = true := by
  unfold Rings
  decide +kernel

theorem witness_DoorbellRange : Rings (hosted (chanOf 1 2)) 0 0
    ∧ ringD (entryOf 1 2) < ((65 : BitVec 16) - (chanOf 1 2).oldest).toNat
    ∧ ((chanOf 1 2).ctail - (chanOf 1 2).cack).toNat < ((1 : BitVec 16) - (chanOf 1 2).cack).toNat
    ∧ ((0 : BitVec 16) - (chanOf 1 2).cack).toNat ≤ ((chanOf 1 2).ctail - (chanOf 1 2).cack).toNat := by
  unfold Rings
  decide +kernel

theorem witness_ChannelEngine : Fetches (hosted (chanOf 1 2)) 0
    ∧ (hosted (chanOf 1 2)).descFails (entryOf 1 2) (bytesOf 64 []) = none
    ∧ (hosted (chanOf 1 2)).descFails (entryOf 1 2) (bytesOf 64 [(0, 1)]) = some St.descFormat ∧ (chanOf 1 2).fly = []
    ∧ ¬ Fetches (hosted { chanOf 1 2 with dhead := 1 }) 0 := by
  unfold Fetches
  decide +kernel

theorem witness_ChannelEngine_commit :
    let d := desc0 0 [] (entryOf 1 2) none (some (Answer.of St.ok))
    let s := hosted { chanOf 1 2 with dhead := 1, fly := [d] }
    s.desc (0, 0) = some d ∧ s.mayCommit (0, 0) d = true ∧ (chanOf 1 2).aborts = [] ∧ entCoalUs (entryOf 1 2) = 5
      ∧ (inFlight 1 2 0 [] none).mayCommit (0, 0) (desc0 0 [] (entryOf 1 2) none none) = false := by decide +kernel

theorem witness_ChannelEngine_registers : (hosted (chanOf 1 2)).barOpen = true ∧ (hosted (chanOf 1 2)).anyJob = false
    ∧ (inFlight 1 2 0 [] none).anyJob = true ∧ ({ hosted (chanOf 2 0) with dict := [(K.rawChannelsAuthorised, 1), (K.licenceFeatures, 256)] } : State).slotHasChannel 0 = true
    ∧ (hosted (chanOf 2 0)).slotHasChannel 7 = false ∧ (hosted (chanOf 1 2)).host.d3 = false ∧ State.reset.power.phase = .up := by
  decide +kernel

theorem witness_ChannelTable : (hosted (chanOf 1 2)).barOpen = true ∧ (hosted (chanOf 1 2)).ready = true
    ∧ (∀ p ∈ (hosted (chanOf 1 2)).host.channels, p.2.fly = [])
    ∧ ∃ p ∈ (inFlight 1 2 0 [] none).host.channels, p.2.fly ≠ [] := by decide +kernel

theorem test_submit_range : (match exec (.submit 0 65 0 ⟨[], false⟩) (hosted (chanOf 1 2)) with
    | .next s => (s.chan 0).error | _ => 0) = 2 := by decide +kernel
theorem test_chtbl_base_aligned : (match exec (.chtblBaseWrite 0x12345) (hosted (chanOf 1 2)) with
    | .next s => s.host.base | _ => 0) = 0x12000 := by decide +kernel

/-! ### Witnesses: supply, resets, governor -/

def dark : State := { State.reset with power := { Power.reset with phase := .dark, inputMv := 0 } }
def standby : State := { State.reset with power := { Power.reset with phase := .standby, inputMv := 48000 } }

theorem witness_SupplyEvents : dark.power.phase = .dark ∧ (39000 : Nat) < 39001 ∧ (39001 : Nat) ≤ 62000 ∧ dark.power.inputMv ≤ 62000
    ∧ dark.front.pwrEn = true ∧ State.reset.power.phase = .up ∧ (37000 : Nat) ≤ 39999 ∧ (39999 : Nat) < 40000
    ∧ ({ standby.power with seqFail := true } : Power).seqRetry = true
    ∧ ({ standby.power with railDown := 1 } : Power).railRetry = true ∧ standby.power.seqRetry = false
    ∧ standby.power.seqFail = false ∧ standby.power.railDown = 0 ∧ (849 : Int) < 850 := by decide

theorem test_power_up : (match exec (.powerUp 39000 100 false) dark with | .next s => s.power.phase | _ => .up) = .dark
    ∧ (match exec (.powerUp 39001 100 false) dark with | .next s => s.power.phase | _ => .dark) = .up := by decide +kernel

theorem witness_Resets : State.reset.power.phase = .up ∧ bit (State.reset.get K.sidebandState) 1 = false
    ∧ bit ((State.reset.set K.sidebandState 2).get K.sidebandState) 1 = true ∧ (549 : Nat) < 550 ∧ (719 : Nat) < 720
    ∧ State.reset.boot = .booting ∧ (hosted (chanOf 1 2)).boot = .ready ∧ State.reset.mem.writes = []
    ∧ State.reset.power.dip = none := by decide +kernel

/-- A cold start is under way. -/
def starting : State := State.reset.set K.lastResetKind 1
def bootIn (fails : List ((Slot × Fin 24) × List (Nat × List Byte))) : BootIn := ⟨[], [], fails, [], false, [], 900⟩

theorem witness_BootSequences : starting.mayBoot 1 = true ∧ starting.mayBoot 2 = false
    ∧ (bootIn []).otherArrayFail = false ∧ (bootIn []).trainFails = [] ∧ starting.front.waitQuiesce = none
    ∧ ({ starting with boot := .thawing } : State).boot = .thawing := by decide +kernel

/-- A module that runs at 750 mV under the default limits. -/
def running : State := { ((State.reset.set K.vcoreActual 750).set K.vcoreSetpoint 750) with boot := .ready }

theorem witness_PowerControl : running.governs = true ∧ State.reset.governs = false ∧ running.powerCap < 1201
    ∧ running.power.noFlow = false ∧ running.power.flowCap = false ∧ running.dramHot = false ∧ running.dipping = false
    ∧ running.power.minPace < 7 ∧ running.get K.vcoreActual = 750 ∧ 0 * 100 ≤ running.powerCap * 95
    ∧ running.power.hot95 = false ∧ running.power.hot100 = false ∧ running.power.fast = false := by decide +kernel

theorem witness_PowerControl_dips : running.power.dip = none ∧ (619 : Nat) < 620
    ∧ ({ running with power := { running.power with dip := some ⟨0, 0, 610, 3⟩ } } : State).power.dip = some ⟨0, 0, 610, 3⟩
    ∧ running.power.standby = none ∧ (running.tile 623).enabled = true ∧ (running.tile 623).safe = false
    ∧ ({ Tile.reset with safe := true } : Tile).safe = true := by decide +kernel

theorem test_governor_step : (match exec (.governorLoop 10000 0) running with | .next s => s.get K.vcoreActual | _ => 0) = 730 := by
  decide +kernel

/-! ### Witnesses: operations and jobs -/

theorem witness_HostOperations : (inFlight 3 0 0x14 [] none).opDesc (0, 0) 3 0x14 = some (desc0 0x14 [] (entryOf 3 0) none none)
    ∧ (inFlight 3 0 0x14 [] none).opDesc (0, 0) 3 0x11 = none
    ∧ (inFlight 3 0 0x11 [(48, 7)] none).opDesc (0, 0) 3 0x11 = some (desc0 0x11 [(48, 7)] (entryOf 3 0) none none)
    ∧ (inFlight 3 0 0x11 [(48, 7)] none).plan 7 = none
    ∧ ({ inFlight 3 0 0x11 [] none with plans := [⟨7, planBytes2, false, [], false⟩] } : State).planInUse 7 = false
    ∧ (inFlight 3 0 0x13 [] none).vault.quotes.length < 16 ∧ descOutCap (bytesOf 64 []) = 0
    ∧ (inFlight 3 0 0x10 [] none).headerFails (desc0 0x10 [] (entryOf 3 0) none none) ⟨[], [], true⟩ = some St.hostDmaError := by
  decide +kernel

/-- A sealed object under key 5 of class 1 that holds 64 bytes; that key and index key 9 are installed. -/
def object : Sealed := ⟨bytesOf 64 [(0, 0x53), (1, 0x4B), (2, 0x4F), (3, 0x42), (4, 1), (5, 1), (6, 12), (8, 5), (16, 64)],
  sealSegment (keyBytes []) (bytesOf 64 [(0, 0x53), (1, 0x4B), (2, 0x4F), (3, 0x42), (4, 1), (5, 1), (6, 12), (8, 5), (16, 64)]) 0
    (bytesOf 64 [(0, 0xAB)]), false⟩
def plain0 : List Byte := bytesOf 64 [(0, 0xAB)]
def withKeys (s : State) : State := { s with vault := { Vault.reset with
  keys := [⟨5, 1, 1, [], true, 0, 1, false⟩, ⟨9, 2, 1, [], true, 0, 2, false⟩] } }
def len144 : List (Nat × Nat) := [(17, 1), (24, 144)]

theorem witness_HostOperations_input : let s := withKeys (inFlight 3 0 0x10 len144 none)
    let d := desc0 0x10 len144 (entryOf 3 0) none none
    s.headerFails d object = none ∧ (s.pinKeys [objKey object.hdr]).isSome = true ∧ checkFormat plain0 ≠ none := by decide +kernel

theorem witness_HostOperations_reads : (withKeys (inFlight 3 0 0x10 len144 none)).readInput (desc0 0x10 len144 (entryOf 3 0) none none) object
    = .inr plain0 := by
  have h : (withKeys (inFlight 3 0 0x10 len144 none)).headerFails (desc0 0x10 len144 (entryOf 3 0) none none) object = none := by
    decide +kernel
  have k : (((withKeys (inFlight 3 0 0x10 len144 none)).key (objKey object.hdr)).map fun k => keyBytes k.blob).getD [] = keyBytes [] := rfl
  have l : object.body.length = 80 := gcmSeal_length _ _ _ _ _
  have p : slice object.body 0 80 = object.body := slice_all l
  have e : readSegments (keyBytes []) object.hdr object.body 144 0 1 = .inr (plain0 ++ []) := by
    have g : segEnd object.hdr 0 = 144 := by decide +kernel
    have b : segBytes object.hdr 0 = 64 := by decide +kernel
    simp only [readSegments, g, b, Nat.lt_irrefl, if_false, Nat.reduceSub, Nat.reduceAdd, p]
    rw [show object.body = sealSegment (keyBytes []) object.hdr 0 plain0 from rfl, openSegment_sealSegment rfl]
  simp only [State.readInput, h, k]
  exact e

theorem witness_HostOperations_windows : openArgsOk (bytesOf 64 [(0, 0x22), (48, 2), (60, 1)]) = true
    ∧ arg (bytesOf 64 [(0, 0x22), (48, 2), (60, 1)]) 0 1 = 2 ∧ openArgsOk (bytesOf 64 [(0, 0x22), (48, 3)]) = false
    ∧ ((inFlight 2 0 0x22 [] none).window 255).state = 0 ∧ ((inFlight 2 0 0x22 [] none).window 255).freedAt = none
    ∧ (forWindows.window 7).state = 1 ∧ (forWindows.window 7).bytes = 256 ∧ forWindows.scopeEndpoints (forWindows.window 7) = []
    ∧ (inFlight 2 0 0x23 [(49, 1)] none).opDesc (0, 0) 2 0x23 = some (desc0 0x23 [(49, 1)] (entryOf 2 0) none none)
    ∧ 256 ≤ arg (bytesOf 64 [(0, 0x23), (49, 1)]) 0 2 := by decide +kernel

theorem witness_HostOperations_tiles : slotOfCode 0x3FF = none ∧ slotOfCode (1 * 32) = some 0
    ∧ ({ (inFlight 2 0 0x20 [] none) with strands := [(0, { Strand.reset with claimed := some 0 })] } : State).loadable 0 12 = true
    ∧ (inFlight 2 0 0x20 [] none).loadable 0 12 = false ∧ (injectHeader (bytesOf 64 []) 64).cnet = false := by decide +kernel

theorem witness_JobAdmission : AtAdmission (inFlight 1 4 0 [] none) (0, 0) (desc0 0 [] (entryOf 1 4) none none)
    ∧ (inFlight 1 4 0 [] none).revoked = false ∧ (inFlight 1 4 0 [] none).ready = true
    ∧ (State.reset.openDesc (0, 0) = none) ∧ argsOk 6 (bytesOf 64 [(48, 9)]) 0 = true
    ∧ argsOk 6 (bytesOf 64 [(63, 1)]) 0 = false := by
  unfold AtAdmission
  decide +kernel

/-- REKEY from key 9 to itself: no plan, no object. -/
theorem witness_JobAdmission_passes : let s := withKeys (inFlight 1 6 0 [(48, 9)] none)
    let d := desc0 0 [(48, 9)] (entryOf 1 6) none none
    s.jobPlans 6 (entPlan d.entry) d.bytes = .inr [] ∧ s.shardFails 6 d.bytes = none ∧ s.reserved + jobReserve d object ≤ bufferBytes
      ∧ (s.pinKeys [9, 9]).isSome = true := by decide +kernel

def hold0 (svc : Nat) : JobHold :=
  ⟨svc, [(0, 1)], [(withKeys State.reset).vault.handle ⟨9, 2, 1, [], true, 0, 2, false⟩, (withKeys State.reset).vault.handle ⟨5, 1, 1, [], true, 0, 1, false⟩],
    1, 0, 0, [], [0], [], object.hdr, 1, 1, bytesOf 64 [(0, 0xAB)], [], [], none, 0, none⟩

/-- Service job (0, 0) with plan 1 admitted; every strand is licensed and free. -/
def admitted (svc : Nat) (l : List (Nat × Nat)) (h : JobHold) : State := { withKeys (inFlight 1 svc 0 l (some h)) with
  dict := [(K.checkFraction, 0), (K.licenceFeatures, 48 * 65536)]
  plans := [⟨1, planBytes2, false, [], false⟩] }

theorem witness_JobAdmission_sequence : let s := admitted 3 [] (hold0 3)
    s.openDesc (0, 0) = some (desc0 0 [] (entryOf 1 3) (some (hold0 3)) none) ∧ s.admits = true ∧ s.mayQueue 5 1 = false
      ∧ (s.strand 4).fused = none ∧ (s.strand 5).free = true ∧ s.strandFits 5 1 = true ∧ s.roomFor (planWeight planBytes2) = true
      ∧ s.shadows 1 = false ∧ shapeOver planBytes2 [1] = true ∧ shapeOver planBytes2 [0] = false
      ∧ shapeZero planBytes2 [0] = false ∧ (∀ r ∈ s.check.readmits, r.job ≠ (0, 0)) := by decide +kernel

theorem witness_Services : let h := { hold0 2 with segs := 0 }
    let s := admitted 2 len144 h
    s.openDesc (0, 0) = some (desc0 0 len144 (entryOf 1 2) (some h) none) ∧ h.segs < h.nsegs ∧ s.ready = true
      ∧ ((h.keys[1]?).bind s.keyByHandle).isSome = true ∧ segEnd h.hdr 0 ≤ 144 ∧ ((h.keys.head?).bind s.keyByHandle).isSome = true
      ∧ s.vault.maySeal = true ∧ (s.svcJob (0, 0) 2) = none ∧ (admitted 2 [] (hold0 2)).svcJob (0, 0) 2
        = some (desc0 0 [] (entryOf 1 2) (some (hold0 2)) none, hold0 2) := by decide +kernel

/-- A query of one vector for the 4 best of shard 3. -/
def query0 : List Byte := bytesOf 192
  [(0, 0x53), (1, 0x4B), (2, 0x51), (3, 0x59), (4, 1), (5, 2), (6, 4), (8, 1), (16, 3), (68, 64)]
def shard3 : Shard := ⟨3, [], [], [], [((0, 0), 0, 0)], true, false⟩

theorem witness_Searches : let h := { hold0 5 with plain := query0 }
    let s := { admitted 5 [] h with shards := [shard3] }
    s.queryJob (0, 0) 0 = some (desc0 0 [] (entryOf 1 5) (some h) none, h) ∧ queryOk query0 = true ∧ queryShards query0 = [3]
      ∧ queryOk (bytesOf 192 []) = false
      ∧ s.seen (0, 0) 3 = some (shard3, 0, 0) ∧ s.seen (0, 0) 4 = none ∧ leAt query0 5 1 ≠ 1 ∧ s.batches = []
      ∧ (s.dimDiffers 64 = true ∨ s.dimDiffers 64 = false) := by decide +kernel

theorem witness_Searches_shards : let s := { admitted 5 [(48, 2), (49, 3)] (hold0 5) with shards := [{ shard3 with searches := [] }] }
    s.queryJob (0, 0) 2 = some (desc0 0 [(48, 2), (49, 3)] (entryOf 1 5) (some (hold0 5)) none, hold0 5)
      ∧ s.appendsTo 3 = false ∧ (∃ x ∈ s.shards, x.num = 3 ∧ x.made = true ∧ x.dropped = false) ∧ s.appendAhead 3 1 = false
      ∧ s.queryJob (0, 0) 1 = none ∧ cutEnvelope 0 0 [] = none := by decide +kernel

/-! ### Witnesses: tuning -/

/-- A member of a group of two, at rank `r`. -/
def tune2 (r : Nat) (st : TuneState) : Tune := { Tune.closed with
  state := st, members := [7, 8], xLen := 2, yLen := 1, rank := r, deadlineUs := 100, repeatLimit := 1
  digests := [(0, 0)], openJob := some (0, 0), window := none, coord := true, sentDone := true, committed := 4 }
def tuning (x : Tune) : State := { hosted (chanOf 1 7) with tunes := [(0, x)] }

theorem witness_Tuning : let h := hold0 7
    (admitted 7 [] h).tuneJob (0, 0) 0 = some (desc0 0 [] (entryOf 1 7) (some h) none, h) ∧ openFormatOk h.plain = false
    ∧ (tuning (tune2 0 .opening)).ready = true ∧ (tune2 0 .opening).size = 2 ∧ (tune2 1 .opening).rank ≠ 0
    ∧ (tune2 0 .opening).digests = [(0, (tune2 0 .opening).digest)] ∧ (tuning (tune2 0 .opening)).get K.tuneOpenTimeout ≤ 1000000000
    ∧ Tune.closed.isOpen = false ∧ (tune2 0 .idle).isOpen = true := by decide +kernel

theorem witness_Tuning_steps : (tune2 0 .idle).missing = some 0 ∧ (tune2 0 .idle).attempt ≤ (tune2 0 .idle).repeatLimit
    ∧ (∃ r, r < (tune2 0 .idle).size ∧ ∀ q ∈ doneWith (tune2 0 .idle) 1 [], q.1 ≠ r)
    ∧ (∀ r, r < 2 → ((doneWith { tune2 0 .idle with done := [(0, [])] } 1 []).find? fun q => q.1 = r).map (·.2) = some [])
    ∧ (tune2 0 .idle).retracted = [] ∧ (tune2 0 .idle).coord = true ∧ (tuning (tune2 0 .idle)).stepAhead 0 1 = false
    ∧ (tune2 1 .stepping).sentDone = true ∧ (tune2 0 .idle).outcomes = [] ∧ (tune2 0 .idle).zeroShape = false := by decide +kernel

theorem witness_Tuning_parts : let k : TuneBucket := ⟨false, 0, false, [], [], [], [], [], [], [], [], false⟩
    let x := { tune2 1 .idle with buckets := [k] }
    x.bucket false 0 = some k ∧ x.bucket false 1 = none ∧ k.reported = false ∧ k.held = []
      ∧ ringNext 0 x.px x.xLen = 0 ∧ ringNext 1 x.px x.xLen = 0 ∧ x.job = none := by decide +kernel

theorem witness_Tuning_retract : let m := bytesOf 16 [(0, 0x53), (1, 0x4B), (2, 0x52), (3, 0x54), (4, 8), (7, 1), (8, 4)]
    leAt m 6 1 = 0 ∧ ((tune2 0 .idle).members.findIdx? fun e => e = leAt m 4 2) = some 1 ∧ leAt m 8 4 = (tune2 0 .idle).committed
      ∧ leAt m 7 1 = (tune2 0 .idle).attempt ∧ slice m 0 4 = [0x53, 0x4B, 0x52, 0x54] := by decide +kernel

/-! ### Witnesses: checking and slices -/

def post (t : Slot) (role : Nat) (sig : BitVec 64) : SigPost := ⟨t, role, 5, 1, sig⟩
def dispute0 : Dispute := ⟨0, 1, 0, 5, 1, 14, some 27, 1, 2, none, [], 0, (0, 0), 0, 0, 0, 0⟩
def checking : State := { hosted { chanOf 1 2 with dhead := 1, fly := [{ desc0 0 [] (entryOf 1 2) none none with held := true }] } with
  check := { Check.reset with posted := [post 1 1 7, post 14 2 7, post 27 3 2], disputes := [dispute0] } }

theorem witness_SelfChecking : checking.comparable (post 1 1 7) (post 14 2 7) = true ∧ checking.strandOf 1 = 0
    ∧ (post 1 1 7).sig = (post 14 2 7).sig ∧ checking.check.disputes[0]? = some dispute0 ∧ checking.check.disputes[1]? = none
    ∧ dispute0.third = some 27 ∧ (checking.tile 27).core.run ≠ .faulted ∧ checking.thirdPost dispute0 27 2 = true
    ∧ checking.thirdPost dispute0 27 1 = false ∧ (2 : BitVec 64) ≠ dispute0.sigW ∧ (2 : BitVec 64) = dispute0.sigS
    ∧ (∀ p ∈ checking.check.planLosses, p.tile < 624) := by decide +kernel

theorem witness_SelfChecking_close : let s := { checking with check := Check.reset }
    s.desc (0, 0) = some { desc0 0 [] (entryOf 1 2) none none with held := true } ∧ s.tuneOf (0, 0) = none
      ∧ s.checksClosed (0, 0) = true ∧ s.jobRuns (0, 0) = false := by decide +kernel

theorem witness_SelfChecking_suspects : let s := State.reset.set (K.tileHealth 3) 1
    s.get (K.tileHealth 3) = 1 ∧ s.get K.suspectClearHours ≤ 1000000 ∧ State.reset.get (K.tileHealth 3) = 0
      ∧ (State.reset.tile 3).ownPace < (State.reset.set (K.tilePace 3) 1).get (K.tilePace 3) := by decide +kernel

def slicing (ph : SkimPhase) (rep : Bool) : State := at0 { tile1 [] with skim := { Skim.reset with phase := ph, target := 23, repeated := rep } }

theorem witness_SelfChecking_slices : ((slicing .saving false).tile 0).skim.phase = .saving
    ∧ ((slicing .marching true).tile 0).skim.repeated = true ∧ ((slicing .marching true).tile 0).skim.target = 23
    ∧ bankAddress ((slicing .restoring false).tile 0).pad.bankOk 23 2047 = some (0x200000 + 2047 * 512 + 7 * 64)
    ∧ (List.replicate 64 (1 : Byte)).length = 64 ∧ (at0 (tile1 [])).skimOpen = (at0 (tile1 [])).skimOpen := by decide +kernel

theorem test_skim_save : (after (.skimSaveDone 0) (slicing .saving false)).skim.stat = 1 + 23 * 2 + 2 * 64 := by decide +kernel

/-! ### Witnesses: the dictionary -/

def owner1 : Session := ⟨1, 9, .owner, [], none, none⟩

/-- A module that is ready with its management link up and one session of the owner. -/
def managed : State := { State.reset with
  boot := .ready
  dict := [(K.mportLink, 1)]
  mgmt := { Mgmt.reset with sessions := [owner1] } }

/-- A request of that session for an entry. -/
def ask (op key : Nat) (payload : List Byte) : BjReq :=
  ⟨0x0A000001, false, true, true, true, BitVec.ofNat 7 op, 1, 5, BitVec.ofNat 16 (key / 256), BitVec.ofNat 8 (key % 256), 0,
    payload.length, payload⟩
def ask2 (key v : Nat) : BjReq := ask Op.write key (leBytes 2 v)
def ask1 (key v : Nat) : BjReq := ask Op.write key (leBytes 1 v)

/-- What the checks before an entry's own effect ask, in a form that evaluates. -/
def passes (s : State) (r : BjReq) (k : Nat) (x : Session) : Bool :=
  s.serves && s.reached r && !s.dropsFrom r && !r.console && r.session ≠ 0 && s.session r.session = some x && r.tagOk && r.wellFormed
    && x.lastSeq.isNone && r.key = k && headFails r (some x.level) = none && !r.ends && !s.imageStop r && s.valueFails r r.payload = none

theorem passes_sound {s : State} {r : BjReq} {k : Nat} {x : Session} (h : passes s r k x = true) : Passes s r k x := by
  simp only [passes, Bool.and_eq_true, decide_eq_true_eq, Bool.not_eq_true', Option.isNone_iff_eq_none] at h
  obtain ⟨⟨⟨⟨⟨⟨⟨⟨⟨⟨⟨⟨⟨a, b⟩, c⟩, d⟩, e⟩, f⟩, g⟩, i⟩, j⟩, k⟩, l⟩, m⟩, n⟩, o⟩ := h
  exact ⟨⟨a, b, c, d, by simpa using e, f, g, i, by simp [j]⟩, k, l, m, n, o⟩

theorem witness_EntryRows : Passes managed (ask2 K.vcoreSetpoint 700) K.vcoreSetpoint owner1
    ∧ Passes managed (ask2 K.powerLimit 900) K.powerLimit owner1
    ∧ Passes managed (ask1 (K.tileTrim 623) 1) (K.tileTrim 623) owner1 ∧ Passes managed (ask1 K.resetRequest 2) K.resetRequest owner1
    ∧ Passes managed (ask1 K.quiesceControl 3) K.quiesceControl owner1 ∧ Passes managed (ask1 K.copyResolve 1) K.copyResolve owner1
    ∧ managed.front.quiesce = .none ∧ managed.dipping = false ∧ managed.shards = [] ∧ managed.recorder.clearing = 0 := by
  refine ⟨passes_sound ?_, passes_sound ?_, passes_sound ?_, passes_sound ?_, passes_sound ?_, passes_sound ?_, ?_⟩ <;> decide +kernel

theorem witness_EntryRows_tiles : Passes managed (ask2 K.frostTile 32) K.frostTile owner1 ∧ slotOfCode (written (ask2 K.frostTile 32)) = some 0
    ∧ managed.slotFrost 0 = false ∧ managed.slotEnabled 0 = true ∧ managed.spareUsable (halfRow 0) = true
    ∧ (managed.set K.bootFlashState 2).get K.bootFlashState = 2 := by
  refine ⟨passes_sound ?_, ?_⟩ <;> decide +kernel

theorem witness_EntryWrites : entryRow (.powerLimit (ask2 K.powerLimit 900)) = some (K.powerLimit, ask2 K.powerLimit 900, [])
    ∧ (ask2 K.powerLimit 900).key = K.powerLimit ∧ State.reset.serves = false
    ∧ Passes managed (ask2 K.powerLimit 900) K.powerLimit owner1
    ∧ managed.valueFails (ask2 K.powerLimit 9999) (leBytes 2 9999) = some Bj.valueRange
    ∧ headFails (ask1 K.powerLimit 0) (some .observer) = some Bj.accessDenied := by
  refine ⟨rfl, by decide +kernel, by decide, passes_sound (by decide +kernel), ?_⟩
  decide +kernel

theorem test_power_limit : (match exec (.powerLimit (ask2 K.powerLimit 900)) managed with | .next s => s.get K.powerLimit | _ => 0) = 900 := by
  decide +kernel

theorem witness_Ownership : Passes managed (ask Op.write K.ownerClaim (List.replicate 128 1)) K.ownerClaim ⟨1, 9, .owner, [], none, none⟩
    ∧ managed.get K.ownerState = 0 ∧ managed.noWork = true ∧ managed.get K.identityState ≠ 2
    ∧ Passes managed (ask Op.write K.ownerRelease (List.replicate 64 1)) K.ownerRelease owner1
    ∧ managed.keyCode [] ⟨true, true⟩ = 6 ∧ managed.licCode [] true = 1
    ∧ (inFlight 3 0 0x12 [] none).opDesc (0, 0) 3 0x12 = some (desc0 0x12 [] (entryOf 3 0) none none) := by
  refine ⟨passes_sound ?_, ?_, ?_, ?_, passes_sound ?_, ?_⟩ <;> decide +kernel

def factory1 : Session := { owner1 with level := .factory }

theorem witness_ModuleSecurity : Passes { managed with mgmt := { managed.mgmt with sessions := [factory1] } }
      (ask1 K.scanClear 1) K.scanClear factory1
    ∧ Passes managed (ask1 K.commitSvn 1) K.commitSvn owner1
    ∧ managed.vault.quotes.length < 16 ∧ managed.noWork = true ∧ managed.dipping = false := by
  refine ⟨passes_sound ?_, passes_sound ?_, ?_⟩ <;> decide +kernel

/-- A firmware image of TYPE 3 with an empty body, and one of another TYPE. -/
def image (ty : Nat) : List Byte :=
  [0x53, 0x4B, 0x46, 0x57] ++ leBytes 4 ty ++ leBytes 8 0 ++ sm3Bytes [] ++ zeros 208

theorem witness_ModuleSecurity_images : managed.fwCode (image 3) ⟨true, true, true⟩ = 0 ∧ managed.fwCode (image 4) ⟨true, true, true⟩ = 1
    ∧ managed.fwCode (image 3) ⟨true, true, false⟩ = 3 ∧ managed.fwCode (image 3) ⟨true, false, true⟩ = 1 := by
  have d : fwDigest (image 3) = sm3Bytes ((image 3).drop 256) := rfl
  have f : fwFormat (image 3) = true := by decide +kernel
  have g : fwFormat (image 4) = false := by decide +kernel
  have v : fwSvn (image 3) < managed.get K.minSvn ↔ False := by decide +kernel
  simp [State.fwCode, fwSound, d, f, g, v]

theorem witness_RequestGate : requestRow (.bjRead (ask Op.read K.powerLimit [])) = some (ask Op.read K.powerLimit [], Op.read)
    ∧ Claims.Taken managed (ask Op.read K.powerLimit []) ∧ ¬ Claims.Taken State.reset (ask Op.read K.powerLimit [])
    ∧ Named managed (ask Op.read K.powerLimit []) owner1
    ∧ managed.session 2 = none ∧ managed.recovers (ask Op.read K.powerLimit []) = false := by
  unfold Named Claims.Taken
  decide +kernel

theorem witness_RequestGate_seq :
    let x : Session := { owner1 with lastSeq := some 5, lastReply := some (.testData 1) }
    ({ managed with mgmt := { managed.mgmt with sessions := [x] } } : State).session 1 = some x ∧ x.lastSeq = some (ask 0 0 []).seq
      ∧ (4 : BitVec 32) < 5 := by decide +kernel

theorem witness_EntryAccess : managed.readFails (ask Op.read K.powerLimit []) (some .owner) = none
    ∧ managed.readFails (ask Op.read K.resetRequest []) (some .owner) = some Bj.writeOnly
    ∧ isDomain (ask Op.read K.powerLimit []) = false ∧ isDomain (ask Op.writeSeg K.operatorKeys []) = true
    ∧ managed.uploadBusy (ask Op.writeSeg K.operatorKeys []) = false ∧ managed.uploaded (ask Op.writeSeg K.operatorKeys []) = []
    ∧ entryAt 0x2100 0 = none ∧ (highestSub 0x2100).isSome = true
    ∧ Passes managed (ask2 K.queryBatchWindow 7) (ask2 K.queryBatchWindow 7).key owner1 ∧ ownRow (ask2 K.queryBatchWindow 7) = false := by
  refine ⟨?_, ?_, ?_, ?_, ?_, ?_, ?_, ?_, passes_sound ?_, ?_⟩ <;> decide +kernel

theorem witness_EntryAccess_recovery : let r : BjReq := { ask Op.writeSeg K.firmwareInstall [] with console := true, session := 0 }
    ({ State.reset with boot := .recovery, front := { Front.reset with console := true } } : State).recovers r = true
      ∧ r.offset + r.payload.length ≤ domainLimit r.key := by decide +kernel

theorem witness_AccessKinds : (∃ e, entryAt (ask1 K.resetRequest 1).index.toNat (ask1 K.resetRequest 1).sub.toNat = some e
      ∧ e.kind = .wo ∧ Level.owner.grants e.auth = true)
    ∧ (∃ e, entryAt (ask1 K.coldStartCount 1).index.toNat (ask1 K.coldStartCount 1).sub.toNat = some e ∧ e.kind = .ro
      ∧ Level.owner.grants e.auth = true)
    ∧ ownRow (ask1 K.coldStartCount 1) = false ∧ InSession managed (ask1 K.resetRequest 1) owner1 := by
  refine ⟨⟨_, rfl, by decide +kernel⟩, ⟨_, rfl, by decide +kernel⟩, by decide +kernel, ?_⟩
  have : passes managed (ask1 K.resetRequest 1) K.resetRequest owner1 = true := by decide +kernel
  exact (passes_sound this).1

theorem witness_Sessions : Plain managed { ask 0 0 [] with session := 0 } ∧ managed.revoked = false
    ∧ managed.mgmt.sessions.length + managed.mgmt.opens.length < 8 ∧ Level.operator ≠ .observer
    ∧ (List.replicate 64 (1 : Byte)).length = 64
    ∧ managed.keyGranted ⟨0x0A000001, 3, .factory, [], true⟩ = true ∧ managed.keyGranted ⟨0x0A000001, 3, .factory, [], false⟩ = false
    ∧ managed.get K.sessionIdleS ≤ 1000000 := by
  unfold Plain Claims.Taken
  decide +kernel

def alarm0 : Note := ⟨0x05, true, 7, 3, 0, 0, 0, []⟩

theorem witness_Management : let s := { managed with mgmt := { managed.mgmt with unacked := [alarm0] } }
    Claims.Taken s (ask 0 0 []) ∧ s.isDest 0x0A000001 = false ∧ (s.mgmt.unacked.find? fun n => n.nseq = 3) = some alarm0
      ∧ s.get K.mportLink = 1 ∧ s.sentNow < 64 ∧ alarm0.sends < 8 ∧ (s.bucket 5).supp = 0 ∧ s.mgmt.queue.length + s.sentNow ≤ 64 := by
  unfold Claims.Taken
  decide +kernel

theorem witness_Management_time : let s := { managed with dict := [(K.mportLink, 1), (K.ptpTransport, 1)] }
    (s.ptpOn = true ∨ (managed.set K.ptpTransport 1).ptpOn = true) ∧ s.get K.ptpState ≠ 2 ∧ s.mgmt.ptp.good < 15
      ∧ (managed.set K.ptpState 2).get K.ptpState = 2 := by decide +kernel

theorem witness_FlashAndRecorder : let s := { managed with flash := { Flash.reset with waiting := [Blk.licences] } }
    s.flashFree = true ∧ s.flash.waiting.find? s.mayWrite = some Blk.licences ∧ managed.flash.waiting.find? managed.mayWrite = none
      ∧ s.power.phase = .up ∧ s.serves = true ∧ s.ready = true ∧ s.recorder.clearing = 0 ∧ s.recorder.notices = []
      ∧ pageOf ([] : List (List Byte)) = [] := by decide +kernel

theorem witness_TestInstructions : managed.power.phase = .up ∧ takesPins managed.vault.testInstr = false ∧ managed.quiesced = false
    ∧ managed.get K.scanState ≠ 2 ∧ takesPins Jtag.extest = true
    ∧ ({ managed with front := { Front.reset with quiesce := .quiesced } } : State).quiesced = true := by decide +kernel

theorem witness_ModuleFront : managed.buttonActs .button = true ∧ managed.front.stuck = false ∧ managed.ready = true
    ∧ ({ managed with front := { Front.reset with quiesce := .requested } } : State).drained = true ∧ managed.drained = false
    ∧ managed.get K.lightBarSleepS ≤ 1000000 ∧ managed.get K.coolantState = 0 ∧ (managed.get K.sidebandState).testBit 7 = false
    ∧ dark.power.phase = .dark ∧ bits (dark.get K.sidebandState) 3 3 = 0 := by decide +kernel

theorem test_button_2000_ms : (match exec (.serviceButtonPress 2000 .button) managed with | .next s => s.front.quiesce | _ => .forcing) = .none
    ∧ (match exec (.serviceButtonPress 50 .button) managed with | .next s => s.front.quiesce | _ => .none) = .requested := by decide +kernel

/-! ### The step, memory, well-formed commands -/

theorem witness_StepInvariant : Claims.Inv State.reset := by
  unfold Claims.Inv
  decide

theorem witness_StepRunsTheFront : State.reset.pending = [] ∧ (State.reset.withPending [.laneLoss 0 0]).pending ≠ [] := by decide +kernel

theorem witness_MemoryFrame : loud (.add 0 1 2 3 0) = false ∧ loud (.memWriteAck 0) = true := by decide

theorem test_idle_step : (match step State.reset with | .next s => s.timeBase | _ => 0) = 1 := by decide +kernel

theorem test_no_word_spells_a_command : decodeTableWord 32 0 = none ∧ State.reset.withFetchWord 32 0 = State.reset := ⟨rfl, rfl⟩

theorem test_mem_request_ill_formed : WellFormed (.memRequest ⟨true, 0, [], 0, .plain⟩) = false
    ∧ WellFormed (.memRequest ⟨false, 0, [1], 0, .plain⟩) = false
    ∧ WellFormed (.memRequest ⟨true, 0, List.replicate 64 1, 0, .plain⟩) = true := by decide +kernel
theorem test_entry_read_ill_formed : WellFormed (.submit 0 0 0 ⟨[], false⟩) = false ∧ WellFormed (.invalidate 0 0 ⟨[1], false⟩) = false
    ∧ WellFormed (.cack 0 0 0 ⟨[], true⟩) = true := by decide +kernel
theorem test_descriptor_ill_formed : WellFormed (.descFetch 0 [] false) = false ∧ WellFormed (.descFetch 0 [] true) = true := by
  decide +kernel
theorem test_sealed_ill_formed : WellFormed (.tileLoad 0 0 ⟨[], [], false⟩) = false ∧ WellFormed (.tileLoad 0 0 object) = true := by
  decide +kernel
theorem test_packet_ill_formed : WellFormed (.fabricPacketArrive 0 { packet 4 0 0 with inner := [] } 0) = false
    ∧ WellFormed (.fabricPacketArrive 0 { packet 4 0 0 with inner := List.replicate 16 0, payload := List.replicate 1025 0 } 0) = false
    ∧ WellFormed (.fabricPacketArrive 0 { packet 4 0 0 with inner := List.replicate 16 0 } 0) = true := by decide +kernel
theorem test_request_ill_formed : WellFormed (.bjWrite (ask Op.write 0 (List.replicate 1025 0))) = false
    ∧ WellFormed (.bjWrite (ask Op.write 0 (List.replicate 1024 0))) = true := by decide +kernel
theorem test_key_request_ill_formed : WellFormed (.keyInstall (.entry (ask Op.write 0 (List.replicate 1025 0))) ⟨true, true⟩) = false := by
  decide +kernel
theorem test_redirected_ill_formed : WellFormed (.redirectedAccess 0 0 true []) = false ∧ WellFormed (.redirectedAccess 0 0 false [1]) = false := by
  decide +kernel
theorem test_retract_ill_formed : WellFormed (.retract []) = false ∧ WellFormed (.retract (bytesOf 16 [])) = true := by decide +kernel

/-! ### Words of tile instructions, bit by bit from the tables of R88, R89, R95, R98 to R103 and R598 -/

theorem test_word_sub : Tis.ofWords 0b000000_00100_00011_00001_0000000_0001 0 = some (.alu .sub 4 3 1 0) := by decide +kernel
theorem test_word_addi : Tis.ofWords 0b000001_00100_00011_111111111111_0000 0 = some (.alui .add 4 3 0xFFF) := by decide +kernel
theorem test_word_lhu : Tis.ofWords 0b000010_00100_00011_000000000101_0101 0 = some (.load .lhu 4 3 5) := by decide +kernel
theorem test_word_sw : Tis.ofWords 0b000011_00100_00011_000000000101_0010 0 = some (.store .sw 4 3 5) := by decide +kernel
theorem test_word_bgeu : Tis.ofWords 0b000100_00100_00011_1111111111110_101 0 = some (.branch .bgeu 4 3 0x1FFE) := by decide +kernel
theorem test_word_jr : Tis.ofWords 0b000101_00100_1_00011_000000000000000 0 = some (.jr 4 3 0) := by decide +kernel
theorem test_word_loop : Tis.ofWords 0b001000_1010_010_1111111111111111111 0 = some (.loop 10 0x7FFFF) := by decide +kernel
theorem test_word_tokr : Tis.ofWords 0b001001_10_01_00101_00000111_00110_0000 0 = some (.tokr ⟨2, 5, 7, 6, 0⟩) := by decide +kernel
theorem test_word_send : Tis.ofWords 0b001100_00110_00010_00100_000011_1_0_1_00 0 = some (.send ⟨6, 2, 4, 3, true, false, true, 0⟩) := by
  decide +kernel
theorem test_word_mmb : Tis.ofWords 0b010000_000001_000010_000011_000_01_000 0b0010_0010_01_1_0_1_0_1_00000000000000000
    = some (.mmb ⟨1, 2, 3, 0, 1, 0, 2, 2, 1, true, false, true, false, true, 0⟩) := by decide +kernel
theorem test_word_hswap : Tis.ofWords 0b010100_000101_000110_010_01000_01001_0 0 = some (.hswap ⟨5, 6, 8, 9, 0⟩) := by decide +kernel
theorem test_word_fence : Tis.ofWords 0b011000_0_1_0_1_0000000000000000000000 0 = some (.fence false true false true 0) := by
  decide +kernel
theorem test_word_csrw : Tis.ofWords 0b011111_00000_00001_001110010000_0010 0 = some (.csrw 0 1 0x390) := by decide +kernel
theorem test_words_reserved : Tis.ofWords 0b000111_00000000000000000000000000 0 = none
    ∧ Tis.ofWords 0b001000_0000_110_0000000000000000000 0 = none ∧ Tis.ofWords 0b000010_00000_00000_000000000000_0011 0 = none
    ∧ (Tis.alui .sub 4 3 5).legal = false := by decide +kernel
theorem test_vector_codes : allVec.all (fun f => vecOf f.code = some f) = true ∧ allVec.length = 40 := by decide +kernel

theorem witness_TileEncoding : (Tis.ofWords 0b011001_000101_00000000000000000001 7).isSome = true
    ∧ (Tis.bar 5 1).legal = false ∧ (Tis.mmb mop).words = 2 := by decide +kernel

/-- A raw tile whose first word is no instruction. -/
def illegalTile : Tile := { tile1 [] with core := { (tile1 []).core with istore := [(0, 0xFFFFFFFF)] } }
def fetching : State := { State.reset with
  boot := .ready, tiles := [(0, illegalTile)], strands := [(0, { Strand.reset with rawLoads := [(0, (0, 0))] })] }

theorem witness_TileFaults_fetch : fetching.pending = [] ∧ fetching.tiles = [(0, illegalTile)] ∧ fetching.check.disputes = []
    ∧ fetching.vault.clearStep = 0 ∧ fetching.vault.quotes = [] ∧ illegalTile.enabled = true ∧ illegalTile.core.run = .running
    ∧ illegalTile.role = 0 ∧ fetching.rawOwner 0 = some (0, 0)
    ∧ Tis.ofWords (illegalTile.instr illegalTile.core.pc.toNat) (illegalTile.instr (illegalTile.core.pc.toNat + 1)) = none := by
  decide +kernel

/-! ### Texts, passages, sequences (R368, R369) -/

def ascii (s : String) : List Nat := s.toList.map Char.toNat

/-- Words of Annex #29: an apostrophe between letters and a point between digits do not break. -/
theorem test_words : words (ascii "It's 3.5, OK") = [ascii "it's", ascii "3.5", ascii ",", ascii "ok"] := by decide +kernel
theorem test_utf8 : readUtf8 0 0 0 [0x41, 0xC3, 0xA9, 0xE2, 0x82, 0xAC] = some [0x41, 0xE9, 0x20AC]
    ∧ readUtf8 0 0 0 [0xC1, 0x81] = none ∧ readUtf8 0 0 0 [0xED, 0xA0, 0x80] = none := by decide +kernel

/-- A plan of one section whose shape goes up to 4 chunks of 512 units. -/
def shapePlan : List Byte := bytesOf 300 [(48, 1), (49, 1), (64, 4), (69, 2), (72, 8), (76, 16)]

theorem test_sequences : unitShapes shapePlan 1000 = [[2, 488, 0, 0, 0, 0, 0, 0]]
    ∧ (unitShapes shapePlan 2049).map (·.take 2) = [[4, 512], [1, 1]] ∧ planShapeMax shapePlan 1 = 512 := by decide +kernel
theorem test_scale : scaleImage 1000 500 512 512 = (512, 256) ∧ scaleImage 300 200 512 512 = (300, 200) := by decide +kernel
theorem witness_Services_passages : 1 ≤ planShapeMax shapePlan 0 ∧ 1 ≤ planShapeMax shapePlan 1 ∧ 1 ≤ (512 : Nat) := by decide +kernel

/-! ### Witnesses: strands once more -/

/-- A job waits behind the one that runs; the segment of its first stage streams for the second time. -/
def waiting1 : State := onJob { Strand.reset with
  phase := .running, halted := [0], next := some (0, 1), nextPlan := 1, streaming := some 0, again := some 0 }

theorem witness_Priming_waiting : (waiting1.strand 0).phase = .running ∧ (waiting1.strand 0).next = some (0, 1)
    ∧ (waiting1.strand 0).job ≠ some (0, 1) ∧ (waiting1.strand 0).role = 0 ∧ (waiting1.strand 0).again = some 0
    ∧ waiting1.stageSlot 0 0 = some 12 ∧ ((waiting1.strand 0).planOf 0) = (1, 0)
    ∧ (stageOf (waiting1.planFile 1) 0 0).map (fun r => (decide ((crc32c (segment (waiting1.planFile 1) r) ^^^ 1).toNat = r.segCrc),
        decide ((crc32c (segment (waiting1.planFile 1) r) ^^^ crc32c (segment (waiting1.planFile 1) r)).toNat = r.segCrc)))
      = some (false, true) := by decide +kernel

theorem witness_StrandLife_unfenced :
    let s := { forHalt with tiles := [(12, { tile1 [] with units := { Units.reset with unfenced := true } })] }
    (s.strand 0).role ≠ 2 ∧ (∃ t ∈ s.stageSlots 0, (s.tile t).units.unfenced = true) := by decide +kernel

theorem witness_StrandLife_short :
    let s := { replacing .idle none with tiles := [(3, { Tile.reset with enabled := false }), (4, { Tile.reset with enabled := false })] }
    let s1 := (s.resetTiles (s.stageSlots 0)).closeP
    (s.check.fencing.filter fun t => s.strandOf t = 0) = [] ∧ s1.tooShort 0 1 = true ∧ s1.tooShort 0 0 = false := by decide +kernel

theorem witness_Resets_scan : (State.reset.set K.scanState 3).get K.scanState = 3 ∧ (State.reset.set K.scanState 3).power.phase = .up := by
  decide +kernel

theorem witness_BootSequences_images : (∀ k ∈ [1, 2, 3], ImageUsable starting (bootIn []) k)
    ∧ ¬ ImageUsable starting { bootIn [] with damaged := [(2, true), (2, false)] } 2
    ∧ ({ starting with vault := { Vault.reset with clearBegun := true } } : State).mayBoot 1 = true := by
  unfold ImageUsable
  refine ⟨fun k h => ⟨true, ?_⟩, ?_, by decide +kernel⟩
  · revert k
    decide +kernel
  · rintro ⟨a, h⟩
    revert h
    cases a <;> decide +kernel

theorem witness_PowerControl_rates : specRate 679 600 = none ∧ specRate 800 99 = none ∧ specRate (State.reset.get K.vcoreActual) (int16 (State.reset.get K.hottestTj)) = none
    ∧ (State.reset.tile 5).enabled = true := by decide +kernel

/-- R23 and R24 at 0.80 V: 60 °C, 75 °C, and 59 °C, where the fall is linear. -/
theorem test_spec_rate : specRate 800 600 = some 2120 ∧ specRate 800 750 = some 2050 ∧ specRate 800 590 = some 2118
    ∧ specRate 930 950 = some 2410 := by decide +kernel

/-! ### Witnesses: operations and jobs once more -/

/-- The input of an operation that verifies, as the state with its key pinned reads it. -/
def opening (op : Nat) : State := withKeys (inFlight 2 0 op len144 none)
def pinned (op : Nat) : State × List Nat := ((opening op).pinKeys [5]).getD (State.reset, [])

theorem reads_object {s : State} {d : Desc} (h : s.headerFails d object = none)
    (k : ((s.key 5).map (·.blob)).getD [] = []) (n : descInLen d.bytes = 144) : s.readInput d object = .inr plain0 := by
  have l : object.body.length = 80 := gcmSeal_length _ _ _ _ _
  have g : segEnd object.hdr 0 = 144 := by decide +kernel
  have b : segBytes object.hdr 0 = 64 := by decide +kernel
  have o : objKey object.hdr = 5 := by decide +kernel
  have c : objSegs object.hdr = 1 := by decide +kernel
  have y : ((s.key 5).map fun k => keyBytes k.blob).getD [] = keyBytes [] ∨ s.key 5 = none := by
    cases e : s.key 5 with
    | none => exact .inr rfl
    | some x => exact .inl (by rw [e] at k; simpa using congrArg keyBytes k)
  simp only [State.readInput, h, o, c, n]
  rcases y with y | y
  · simp only [y, readSegments, g, b, Nat.lt_irrefl, if_false, Nat.reduceSub, Nat.reduceAdd, slice_all l]
    rw [show object.body = sealSegment (keyBytes []) object.hdr 0 plain0 from rfl, openSegment_sealSegment rfl]
    simp
  · simp only [State.headerFails, State.keyFails, o, y] at h
    exact absurd h (by split_ifs <;> simp)

theorem witness_HostOperations_opened : Opened (opening 0x25) (0, 0) (desc0 0x25 len144 (entryOf 2 0) none none) object
    ((pinned 0x25).1.onDesc (0, 0) fun e => { e with hold := some (opHold 0x25 (pinned 0x25).2) }) plain0 := by
  have e : (opening 0x25).inputOf (desc0 0x25 len144 (entryOf 2 0) none none) object = object := by
    simp only [State.inputOf, show descAperture (desc0 0x25 len144 (entryOf 2 0) none none).bytes = false by decide +kernel,
      Bool.false_eq_true, if_false]
  unfold Opened
  rw [e]
  refine ⟨by decide +kernel, reads_object (by decide +kernel) (by decide +kernel) (by decide +kernel), (pinned 0x25).1, (pinned 0x25).2, ?_, ?_⟩
  · have : ((opening 0x25).pinKeys [5]).isSome = true := by decide +kernel
    obtain ⟨x, hx⟩ := Option.isSome_iff_exists.mp this
    rw [show objKey object.hdr = 5 by decide +kernel, pinned, hx]
    rfl
  · rw [show descOp (desc0 0x25 len144 (entryOf 2 0) none none).bytes = 0x25 by decide +kernel]

/-- Line 4 of memory is poisoned in a window over granules 1 and 2; window 9 lies over a scratchpad. -/
def readingWindow : State := { withKeys (inFlight 2 0 0x24 [] none) with
  mem := { Mem.reset with poison := [(4, true)] }
  fabric := { Fabric.reset with windows := [(3, { Window.closed with state := 1, kind := 2, base := 1, size := 2 }),
    (9, { Window.closed with state := 1, kind := 1, slot := 5, base := 64, size := 128 })] } }

theorem witness_HostOperations_window_reads : readingWindow.windowPoisoned (readingWindow.window 3) 0 64 = some 4
    ∧ readingWindow.windowPoisoned (readingWindow.window 3) 64 64 = none ∧ (readingWindow.window 9).kind = 1
    ∧ (readingWindow.window 9).bytes = 128 ∧ (Tile.reset.freeWinSlot).isSome = true ∧ Tile.reset.windowMeets 64 128 = false
    ∧ rangeMapped Tile.reset.pad.bankOk 64 128 = true ∧ rangeMapped Tile.reset.pad.bankOk 0x2FFFC0 128 = false
    ∧ windowRegionOk (0xFBFFFFF * 4096) 4096 = true := by decide +kernel

theorem witness_JobAdmission_buffer : BufferFree (inFlight 1 6 0 [] none) 4096 (objectBuffers.1 + 64)
    ∧ (inFlight 1 6 0 [] none).storesTested 5 = true := by
  refine ⟨⟨by decide, by decide, ?_⟩, by decide +kernel⟩
  simp [inFlight, hosted, desc0]

/-- EMBED over a text of two words, under the plan of its entry. -/
def embedding : JobHold := { hold0 2 with plans := [(3, 2)], ran := [3], seqs := [(3, 0, 0, [1, 2, 0, 0, 0, 0, 0, 0])] }
def embeds (svc : Nat) (l : List (Nat × Nat)) (h : JobHold) : State := { admitted svc l h with
  dict := [(K.checkFraction, 0), (K.licenceFeatures, 48 * 65536), (K.vectorDim, 64)]
  plans := [⟨2, shapePlan, false, [], false⟩] }
def extract0 : Extract := ⟨1, true, false, false, [.text (ascii "two words")], [⟨0, 0, 1, 0, 0, List.replicate 64 1⟩], [], [], []⟩

theorem witness_Services_embed : let d := desc0 0 [(52, 1)] (entryOf 1 2) (some embedding) none
    let s := embeds 2 [(52, 1)] embedding
    let l := s.jobPieces d embedding extract0
    s.svcJob (0, 0) 2 = some (d, embedding) ∧ l ≠ [] ∧ (∀ p ∈ l, p.modality = arg d.bytes 4 1)
      ∧ (∀ q, q ∈ embedding.seqs ↔ ∃ p ∈ l.take (maxVectors (arg d.bytes 2 2)), q ∈ s.runs embedding (2 + arg d.bytes 4 1) p)
      ∧ vectorsOf (l.take (maxVectors (arg d.bytes 2 2))) extract0.vectors = true
      ∧ ∀ p ∈ extract0.vectors, s.dimDiffers p.elems.length = false := by
  refine ⟨by decide +kernel, by decide +kernel, by decide +kernel, fun q => ?_, by decide +kernel, by decide +kernel⟩
  rw [← List.mem_flatMap]
  exact Iff.of_eq (congrArg (q ∈ ·) (by decide +kernel))

/-- INGEST_INDEX over the same text, once its sequences are over. -/
def ingesting : JobHold := { hold0 1 with
  plans := [(1, 2), (2, 2), (3, 2)]
  seqs := [(1, 0, 0, [1, 64, 0, 0, 0, 0, 0, 0]), (2, 0, 0, [1, 2, 0, 0, 0, 0, 0, 0]), (3, 0, 0, [1, 2, 0, 0, 0, 0, 0, 0])] }

theorem witness_Services_ingest : let d := desc0 0 [(54, 1)] (entryOf 1 1) (some ingesting) none
    let s := embeds 1 [(54, 1)] ingesting
    let e := { extract0 with languages := [1] }
    let l := s.jobPieces d ingesting e
    s.svcJob (0, 0) 1 = some (d, ingesting) ∧ (∀ q, q ∈ ingesting.seqs ↔ q ∈ s.ingestRuns d ingesting l)
      ∧ vectorsOf ((ingestVectors d ingesting l).take (maxVectors (arg d.bytes 2 2))) e.vectors = true
      ∧ e.languages.length = (if ingesting.has 2 then (textPieces l).length else 0) := by
  refine ⟨by decide +kernel, fun q => Iff.of_eq (congrArg (q ∈ ·) (by decide +kernel)), by decide +kernel, by decide +kernel⟩

/-- CLASSIFY and NEAR_DUP likewise; NEAR_DUP reads the 64 bytes of the object. -/
def classing : JobHold := { hold0 3 with plans := [(16, 2)], seqs := [(16, 0, 0, [1, 2, 0, 0, 0, 0, 0, 0])] }
def duping : JobHold := { hold0 4 with plans := [(6, 2)], seqs := [(6, 0, 0, [1, 64, 0, 0, 0, 0, 0, 0])] }

theorem witness_Services_classify : let d := desc0 0 [(52, 1)] (entryOf 1 3) (some classing) none
    let s := embeds 3 [(52, 1)] classing
    let l := cutUnits 0 1 2 4
    s.svcJob (0, 0) 3 = some (d, classing)
      ∧ (∀ q, q ∈ classing.seqs ↔ ∃ r ∈ classifyRoles d, ∃ p ∈ l, q ∈ s.runs classing r p) := by
  refine ⟨by decide +kernel, fun q => ?_⟩
  simp only [← List.mem_flatMap]
  exact Iff.of_eq (congrArg (q ∈ ·) (by decide +kernel))

theorem witness_Services_neardup : let d := desc0 0 [] (entryOf 1 4) (some duping) none
    let s := embeds 4 [] duping
    s.svcJob (0, 0) 4 = some (d, duping)
      ∧ ∀ q, q ∈ duping.seqs ↔ q ∈ s.runsBytes duping 6 (min (objLen duping.hdr) (s.dupReach duping)) := by
  refine ⟨by decide +kernel, fun q => Iff.of_eq (congrArg (q ∈ ·) (by decide +kernel))⟩

/-- A query of two words for the 4 best of shard 3. -/
def query1 : List Byte := bytesOf 64 [(0, 0x53), (1, 0x4B), (2, 0x51), (3, 0x59), (4, 1), (5, 1), (6, 4), (8, 1), (16, 3)] ++
  (ascii "two words").map (BitVec.ofNat 8)
def asking : JobHold := { hold0 5 with plans := [(3, 2)], plain := query1, seqs := [(3, 0, 0, [1, 2, 0, 0, 0, 0, 0, 0])] }

theorem witness_Searches_text : let s := { embeds 5 [] asking with shards := [shard3] }
    (∃ d, s.queryJob (0, 0) 0 = some (d, asking)) ∧ asking.query = none ∧ queryOk query1 = true
      ∧ (∀ n ∈ queryShards query1, s.seen (0, 0) n ≠ none) ∧ leAt query1 5 1 = 1 ∧ asking.has 7 = false ∧ asking.planOf 3 = some 2
      ∧ readUtf8 0 0 0 (query1.drop 64) = some (ascii "two words") ∧ (words (ascii "two words")).length = 2
      ∧ ceilDiv 2 (max 1 (planShapeMax (s.planFile 2) 1)) ≤ planShapeMax (s.planFile 2) 0
      ∧ (∀ q, q ∈ asking.seqs ↔ q ∈ s.runsBytes asking 3 2) ∧ s.dimDiffers 64 = false ∧ queryShards query1 = [3]
      ∧ s.batches = [] := by
  refine ⟨⟨desc0 0 [] (entryOf 1 5) (some asking) none, by decide +kernel⟩, by decide +kernel, by decide +kernel, by decide +kernel,
    by decide +kernel, by decide +kernel, by decide +kernel, by decide +kernel, by decide +kernel, by decide +kernel,
    fun q => Iff.of_eq (congrArg (q ∈ ·) (by decide +kernel)), by decide +kernel, by decide +kernel, by decide +kernel⟩

theorem witness_Services_segment : let h := { hold0 2 with segs := 0, plain := [] }
    let d := desc0 0 len144 (entryOf 1 2) (some h) none
    (admitted 2 len144 h).openDesc (0, 0) = some d ∧ h.segs < h.nsegs ∧ segEnd h.hdr 0 ≤ descInLen d.bytes
      ∧ openSegment (keyBytes []) h.hdr 0 object.body = some plain0 :=
  ⟨by decide +kernel, by decide +kernel, by decide +kernel, openSegment_sealSegment rfl⟩

theorem witness_Tuning_window : ({ tune2 0 .idle with window := some 3 } : Tune).window ≠ none
    ∧ (Fabric.reset.windows = []) := by decide +kernel

/-! ### Witnesses: checking, slices and clearing once more -/

theorem witness_SelfChecking_march : (marchReads (skimFirst 1))[0]? = some ⟨0, 1, false, 0⟩
    ∧ marchRead [(0, List.replicate 64 1)] 0 ⟨0, 1, false, 0⟩ ≠ List.replicate 64 0
    ∧ firstBad [(0, List.replicate 64 1)] (skimFirst 1) = some (0, 1) := by decide +kernel

/-- Of two running signatures that differ, one ends in another signature than the reference; a clean run ends in it. -/
theorem witness_SelfChecking_signatures : ((slicing .retaining false).tile 0).skim.phase = .retaining
    ∧ 0 + (slicing .retaining false).get K.skimRetentionUs * 1000 ≤ 10 ^ 12
    ∧ marchSign (marchFold [] (skimSecond 256) (marchFold [] (skimFirst 256) marchBegin)) = skimReference 256
    ∧ ∃ c, marchSign (marchFold [] (skimSecond 256) c) ≠ skimReference 256 := by
  refine ⟨by decide +kernel, by decide +kernel, marchSign_clean _, ?_⟩
  refine Classical.byContradiction fun h => ?_
  have e : ∀ c, marchSign (marchFold [] (skimSecond 256) c) = skimReference 256 := fun c => by
    by_contra k
    exact h ⟨c, k⟩
  have k := marchFold_keeps [] (skimSecond 256) 0 1 (by decide) (by decide)
  have n := marchFold_keeps [] (skimSecond 256) 1 0 (by decide) (by decide)
  exact absurd (k.2 (marchSign_inj k.1 n.1 ((e 0).trans (e 1).symm))) (by decide)

theorem witness_ModuleSecurity_steps : (∀ n ∈ [1, 2, 3, 4, 5, 6], ({ State.reset with vault := { Vault.reset with clearStep := n } } : State).pending = [])
    ∧ Vault.reset.readBack = true ∧ State.reset.get K.scanState ≠ 3 := by decide +kernel

/-! ### Witnesses: messages and memory once more -/

theorem witness_MessageLife_budget : let s := { at0 { tile1 [] with units := { Units.reset with mu := [entry2 msg2 .budget] } } with
      net := { Net.reset with pTables := some 1 } }
    s.net.pTables = some 1 ∧ (s.tile 0).units.mu[0]? = some (entry2 msg2 .budget) ∧ (s.tile 0).units.fwd = none
      ∧ (msg2.hdr.flits ≤ Config.pBudget 1 0 0 ∨ Config.pBudget 1 0 0 < msg2.hdr.flits) := by
  refine ⟨rfl, by decide +kernel, by decide +kernel, by omega⟩

theorem witness_MessageLife_reopen : (managed.set K.priorityClassState 2).pCauseLasts = false
    ∧ (∀ t, t < 624 → ((State.reset.tile t).units.demoted = false)) ∧ State.reset.net.nodeSends = [] := by decide +kernel

theorem witness_MessageLife_routers : let o : RouterOut := ⟨[(.rspO, 3), (.reqP, 32), (.rspP, 0)]⟩
    (o.waits.map (·.1)).Nodup ∧ o.next = some .reqP ∧ routerAt (0, 0) = true ∧ routerAt (23, 28) = true
      ∧ (pathOf (0, 0) (23, 28)).length = 52 := by decide +kernel

theorem witness_Delivery_one_byte : ∀ i j, i < 1 → j < 1 → (firing 0).queuePlace 2 i = (firing 0).queuePlace 2 j → i = j := by omega

theorem witness_MemoryNode_training : let s := { memory with mem := { memory.mem with trained := [(3, some (300, 0))] } }
    look (fun _ => none) s.mem.trained 3 = some (300, 0) ∧ (List.replicate 12 (400 : Int))[pkgOf 3]? = some 400 ∧ pkgOf 3 < 12
      ∧ 80 ≤ ((400 : Int) - 300).natAbs := by decide +kernel

theorem test_layout : subChannel 0 = 32 ∧ subChannel (2 ^ 32) = 0 ∧ localGranule 128 = 1 ∧ bankIn 128 = 1
    ∧ bankIn 8 = 1 ∧ columnOf 9 = 1 ∧ rowIn 255 = 1 := by decide +kernel

/-! ### Witnesses: the light bar -/

theorem witness_ModuleFront_bar : let s := { managed with strands := [(6, { Strand.reset with phase := .retired })] }
    s.rowColour 3 = .red ∧ (managed.set (K.subchTrainState 5) 2).rowColour 1 = .amber ∧ managed.rowColour 2 = .green
      ∧ managed.get K.frontFaultCode = 0 ∧ managed.quiesced = false ∧ managed.quiesceReq = false := by decide +kernel

theorem witness_ChannelEngine_window : let s : State := { State.reset with boot := .thawing, power := { Power.reset with phase := .up } }
    s.barOpen = true ∧ s.boot = .thawing ∧ s.barRead 0 0 = some 2 ∧ s.barRead 0 16 = some 0xFFFFFFFF
    ∧ descAperture (bytesOf 64 [(1, 4), (24, 144)]) = true := by decide +kernel

theorem witness_SelfChecking_queue : let s := at0 { tile1 [] with skim := { Skim.reset with phase := .saving, target := 24 } }
    (s.tile 0).skim.phase ≠ .idle ∧ (s.tile 0).skim.target = 24
      ∧ (s.tile 0).skStat 7 &&& 0xFFFF = (s.tile 0).skim.stat &&& 0xFFFF ∧ saveAddress 7 2047 = 0x03FF0FFFC0 := by
  refine ⟨by decide +kernel, by decide +kernel, ?_, by decide +kernel⟩
  simp only [Tile.skStat, show (at0 { tile1 [] with skim := { Skim.reset with phase := .saving, target := 24 } }).tile 0
    = { tile1 [] with skim := { Skim.reset with phase := .saving, target := 24 } } by decide +kernel]
  have low (n : Nat) : BitVec.ofNat 32 (fld n 16 16) &&& 65535#32 = 0#32 := by
    apply BitVec.eq_of_toNat_eq
    rw [BitVec.toNat_and, show (65535#32).toNat = 2 ^ 16 - 1 from rfl, Nat.and_two_pow_sub_one_eq_mod]
    simp [fld]
  simp [Skim.reset, low]

end Sys2Proof.Tests
end

section
/-! SUPPORT. What the claims about a boot and the end of a thaw read of a state, and the operations that leave it. -/

namespace Sys2Proof.Machine

/-- The entries that the claims about a boot read. -/
def faceKeys : List Nat :=
  [K.priorityClassState, K.frontFaultCode, K.coldMarchResult, K.lastReadyMs, K.identityState, K.licenceFeatures,
    K.resetLostCount]

/-- What the claims about a boot read of a state: the tiles, module memory, the boot phase, the quiesce that waits, the
licences and measurements of the vault, and the entries of `faceKeys`. The tiles stand first and module memory second, so
that `s.face.2` says nothing of the tiles and `s.face.2.2` nothing of memory either. -/
def State.face (s : State) :
    List (Nat × Tile) × Mem × BootPhase × Option (Bool × QSource) × List Licence × List Nat × List (BitVec 256) × List Nat :=
  (s.tiles, s.mem, s.boot, s.front.waitQuiesce, s.vault.licences, s.vault.licFails, s.vault.meas, faceKeys.map s.get)

@[simp] theorem State.face_mk (a b c d e f g h i j k l m n o p q r t u v w x y z aa bb) :
    State.face ⟨a, b, c, d, e, f, g, h, i, j, k, l, m, n, o, p, q, r, t, u, v, w, x, y, z, aa, bb⟩
      = (c, j, l, p.waitQuiesce, t.licences, t.licFails, t.meas, faceKeys.map (look dflt d)) := rfl

@[simp] theorem State.mk_face (s : State) :
    (s.tiles, s.mem, s.boot, s.front.waitQuiesce, s.vault.licences, s.vault.licFails, s.vault.meas,
      faceKeys.map (look dflt s.dict)) = s.face := rfl

/-- A view of the state that every step of a fold leaves is left by the fold. -/
theorem foldl_view {α β : Type} (g : State → β) {f : State → α → State} {l : List α}
    (h : ∀ s, ∀ x ∈ l, g (f s x) = g s) (s : State) : g (l.foldl f s) = g s := by
  induction l generalizing s with
  | nil => rfl
  | cons a l ih =>
    exact (ih (fun s x hx => h s x (List.mem_cons_of_mem a hx)) (f s a)).trans (h s a List.mem_cons_self)

@[simp] theorem foldl_face {α : Type} (f : State → α → State) (l : List α) (s : State)
    (h : ∀ s x, (f s x).face = s.face) : (l.foldl f s).face = s.face :=
  foldl_view State.face (fun s x _ => h s x) s

@[simp] theorem State.ite_face (c : Prop) [Decidable c] (a b : State) :
    (if c then a else b).face = if c then a.face else b.face := apply_ite State.face c a b

theorem State.set_face {s : State} {k v : Nat} (h : k ∉ faceKeys) : (s.set k v).face = s.face := by
  have keep : faceKeys.map (s.set k v).get = faceKeys.map s.get := by
    refine List.map_congr_left fun j hj => ?_
    rw [State.get_set, if_neg fun e : j = k => h (e ▸ hj)]
  simp only [State.face, keep]
  rfl

theorem State.bump_face {s : State} {k n : Nat} (h : k ∉ faceKeys) : (s.bump k n).face = s.face := State.set_face h

@[simp] theorem State.dirty_face (s : State) (b : Nat) : (s.dirty b).face = s.face := by simp [State.dirty]

theorem State.setKept_face {s : State} {k v : Nat} (h : k ∉ faceKeys) : (s.setKept k v).face = s.face := by
  unfold State.setKept
  split
  · rfl
  · rw [State.dirty_face, State.set_face h]

/-! ### Records and notifications -/

@[simp] theorem State.emit_face (s : State) (o : Out) : (s.emit o).face = s.face := rfl
@[simp] theorem State.toHost_face (s : State) (o : Out) : (s.toHost o).face = s.face := by simp [State.toHost]
@[simp] theorem State.onRecorder_face (s : State) (f : Recorder → Recorder) : (s.onRecorder f).face = s.face := rfl
@[simp] theorem State.writeRecord_face (s : State) (ty st fl : Nat) (p : List Byte) :
    (s.writeRecord ty st fl p).face = s.face := by
  unfold State.writeRecord
  dsimp only
  split
  · exact State.bump_face (by decide)
  · rfl

@[simp] theorem State.record_face (s : State) (ty : Nat) (p : List Byte) : (s.record ty p).face = s.face := by
  simp [State.record]

@[simp] theorem State.transmit_face (s : State) (n : Note) : (s.transmit n).face = s.face := by simp [State.transmit]

@[simp] theorem State.post_face (s : State) (n : Note) : (s.post n).face = s.face := by
  unfold State.post
  dsimp only
  split
  · simp
  · split
    · rfl
    · exact State.bump_face (by decide)

@[simp] theorem State.setBucket_face (s : State) (code : Nat) (b : Bucket) : (s.setBucket code b).face = s.face := rfl
@[simp] theorem State.noticed_face (s : State) (code : Nat) : (s.noticed code).face = s.face := rfl
@[simp] theorem State.nextNseq_face (s : State) : s.nextNseq.2.face = s.face := State.set_face (by decide)

@[simp] theorem State.alarmRecord_face (s : State) (code n : Nat) (sent : Bool) (arg : List Byte) :
    (s.alarmRecord code n sent arg).face = s.face := by simp [State.alarmRecord]

@[simp] theorem State.raise_face (s : State) (code : Nat) (arg : List Byte) : (s.raise code arg).face = s.face := by
  have suppressed : ∀ s : State, (s.bump K.notifySuppressed 1).face = s.face := fun _ => State.bump_face (by decide)
  simp [State.raise, suppressed]

/-! ### Descriptors and the link to the host -/

@[simp] theorem State.signal_face (s : State) (v : Nat) : (s.signal v).face = s.face := by simp [State.signal]
@[simp] theorem State.deviceEvent_face (s : State) : s.deviceEvent.face = s.face := State.signal_face s 0
@[simp] theorem State.setChan_face (s : State) (c : Nat) (v : Channel) : (s.setChan c v).face = s.face := rfl
@[simp] theorem State.onDesc_face (s : State) (j : JobId) (f : Desc → Desc) : (s.onDesc j f).face = s.face := rfl
@[simp] theorem State.onHold_face (s : State) (j : JobId) (f : JobHold → JobHold) : (s.onHold j f).face = s.face := rfl
@[simp] theorem State.answer_face (s : State) (j : JobId) (a : Answer) : (s.answer j a).face = s.face := rfl
@[simp] theorem State.endWith_face (s : State) (j : JobId) (st : Nat) : (s.endWith j st).face = s.face := rfl
@[simp] theorem State.unpin_face (s : State) (l : List Nat) : (s.unpin l).face = s.face := rfl
@[simp] theorem State.onShards_face (s : State) (f : Shard → Shard) : (s.onShards f).face = s.face := rfl
@[simp] theorem State.channelError_face (s : State) (c code : Nat) : (s.channelError c code).face = s.face := rfl

@[simp] theorem State.putRecord_face (s : State) (c : Nat) (e r : List Byte) : (s.putRecord c e r).face = s.face := by
  simp [State.putRecord]

@[simp] theorem State.countIrq_face (s : State) (c : Nat) (e : List Byte) : (s.countIrq c e).face = s.face := by
  simp [State.countIrq]

@[simp] theorem State.flushAbort_face (s : State) (c : Nat) : (s.flushAbort c).face = s.face := by
  unfold State.flushAbort
  dsimp only
  split
  · rfl
  · split <;> simp

@[simp] theorem State.flushAborts_face (s : State) (c : Nat) : (s.flushAborts c).face = s.face := by
  simp [State.flushAborts]

@[simp] theorem State.lostDone_face (s : State) : s.lostDone.face = s.face := by simp [State.lostDone]

@[simp] theorem State.retireDesc_face (s : State) (j : JobId) (d : Desc) : (s.retireDesc j d).face = s.face := rfl

@[simp] theorem State.writeAnswer_face (s : State) (j : JobId) (d : Desc) (a : Answer) (e : Bool) :
    (s.writeAnswer j d a e).face = s.face := by simp [State.writeAnswer]

@[simp] theorem State.commit_face (s : State) (j : JobId) (e : Bool) : (s.commit j e).face = s.face := by
  unfold State.commit
  split
  · rfl
  · split
    · rfl
    · simp

@[simp] theorem State.commitAll_face (s : State) (js : List JobId) : (s.commitAll js).face = s.face := by
  simp [State.commitAll]

@[simp] theorem State.letGo_face (s : State) (j : JobId) : (s.letGo j).face = s.face := by
  unfold State.letGo
  split <;> simp

@[simp] theorem State.overrule_face (s : State) (j : JobId) (st : Nat) : (s.overrule j st).face = s.face := by
  simp [State.overrule]

/-! ### Packets that leave -/

@[simp] theorem State.onFabric_face (s : State) (f : Fabric → Fabric) : (s.onFabric f).face = s.face := rfl
@[simp] theorem State.setPort_face (s : State) (n : Nat) (p : FPort) : (s.setPort n p).face = s.face := rfl
@[simp] theorem State.setWindow_face (s : State) (w : Nat) (v : Window) : (s.setWindow w v).face = s.face := rfl
@[simp] theorem State.freeFlow_face (s : State) : s.freeFlow.2.face = s.face := rfl
@[simp] theorem State.sealFor_face (s : State) (n : Nat) (p : Packet) : (s.sealFor n p).1.face = s.face := rfl

@[simp] theorem State.sendBy_face (s : State) (n : Nat) (p : Packet) : (s.sendBy n p).face = s.face := by
  unfold State.sendBy
  dsimp only
  split <;> simp

theorem State.egress_face {s : State} {p : Packet} {w : Nat} {r : State × Packet} (h : s.egress p w = some r) :
    r.1.face = s.face := by
  unfold State.egress at h
  dsimp only at h
  split at h
  · cases h
  · cases h
    simp

theorem State.egressAll_face {s : State} {w : Nat} {l : List Packet} {r : State × List Packet}
    (h : s.egressAll w l = some r) : r.1.face = s.face := by
  induction l generalizing s r with
  | nil =>
    cases h
    rfl
  | cons p l ih =>
    unfold State.egressAll at h
    split at h
    · cases h
    · rename_i u q hu
      obtain ⟨v, hv, rfl⟩ := Option.map_eq_some_iff.mp h
      exact (ih hv).trans (State.egress_face hu)

@[simp] theorem State.sendControl_face (s : State) (ty : PType) (dst flow : Nat) (a : Word) (inner : List Byte) :
    (s.sendControl ty dst flow a inner).face = s.face := by
  unfold State.sendControl
  dsimp only
  split
  · rfl
  · split
    · rename_i h
      exact State.egress_face h
    · rfl

@[simp] theorem State.sendCloseAck_face (s : State) (owner : BitVec 16) (w : Nat) :
    (s.sendCloseAck owner w).face = s.face := by
  simp [State.sendCloseAck]

@[simp] theorem State.closeWaits_face (s : State) (t : Transfer) : (s.closeWaits t).face = s.face := by
  simp [State.closeWaits]

@[simp] theorem State.tryReady_face (s : State) : s.tryReady.face = s.face := by simp [State.tryReady]

@[simp] theorem State.countCode_face (s : State) (code : Nat) : (s.countCode code).face = s.face := by
  have count : ∀ k ∈ [K.fabricLossCount, K.queueClosedDrops, K.queueStaleDrops, K.noTargetDrops, K.spillExhaustedCount],
      (s.bump k 1).face = s.face := fun k hk => State.bump_face ((by decide : ∀ k ∈ _, k ∉ faceKeys) k hk)
  simp [State.countCode, count]

@[simp] theorem State.ringSend_face (s : State) (x : Bool) (ps : List Packet) (d : BitVec 64) :
    (s.ringSend x ps d).face = s.face := by
  refine foldl_face _ _ _ fun s d => ?_
  split
  · rfl
  · refine foldl_face _ _ _ fun s p => ?_
    split <;> simp

/-! ### Strands, sessions and what a reset tile leaves -/

@[simp] theorem State.setStrand_face (s : State) (st : Nat) (v : Strand) : (s.setStrand st v).face = s.face := rfl
@[simp] theorem State.onStrand_face (s : State) (st : Nat) (f : Strand → Strand) : (s.onStrand st f).face = s.face := rfl
@[simp] theorem State.setTune_face (s : State) (n : Nat) (x : Tune) : (s.setTune n x).face = s.face := rfl
@[simp] theorem State.onTune_face (s : State) (n : Nat) (f : Tune → Tune) : (s.onTune n f).face = s.face := rfl
@[simp] theorem State.dropWatch_face (s : State) (ts : List Nat) : (s.dropWatch ts).face = s.face := rfl
@[simp] theorem State.forgetArrivals_face (s : State) (t : Nat) : (s.forgetArrivals t).face = s.face := rfl

@[simp] theorem State.beginSeq_face (s : State) (st : Nat) (j : JobId) (n : Nat) (shape : List Nat) (sec : Nat)
    (place : Nat × Nat) : (s.beginSeq st j n shape sec place).face = s.face := rfl

@[simp] theorem State.keepMstat_face (s : State) (t : Nat) : (s.keepMstat t).face = s.face := by
  unfold State.keepMstat
  split <;> simp

/-! ### Repair map, licences, ports -/

/-- The entries that a boot writes of a tile are none of `faceKeys`. -/
theorem tileKeys_not_face {t : Nat} (ht : t < 624) :
    K.tileTrim t ∉ faceKeys ∧ K.tileHealth t ∉ faceKeys ∧ K.tileSkimFails t ∉ faceKeys := by
  have row : rowOf t < 24 := Nat.div_lt_of_lt_mul ht
  have pos : posOf t < 28 := by
    unfold posOf
    split <;> omega
  refine ⟨?_, ?_, ?_⟩ <;>
    simp only [faceKeys, List.mem_cons, List.not_mem_nil, K.tileTrim, K.tileHealth, K.tileSkimFails, tileKey,
      K.priorityClassState, K.frontFaultCode, K.coldMarchResult, K.lastReadyMs, K.identityState, K.licenceFeatures,
      K.resetLostCount, or_false, not_or] <;>
    omega

@[simp] theorem State.setRepair_face (s : State) (t : Nat) (w : Word) : (s.setRepair t w).face = s.face := rfl
@[simp] theorem State.setSuspect_face (s : State) (t : Nat) (v : Suspect) : (s.setSuspect t v).face = s.face := rfl
@[simp] theorem State.draw_face (s : State) : s.draw.2.face = s.face := rfl
@[simp] theorem State.restoreBank_face (s : State) (t b : Nat) : (s.restoreBank t b).face = s.face := by
  simp [State.restoreBank]

theorem State.marchBank_face {s : State} {t b : Nat} (ht : t < 624) : (s.marchBank t b).face = s.face := by
  unfold State.marchBank
  split
  · rw [State.bump_face (tileKeys_not_face ht).2.2, State.dirty_face, State.setRepair_face]
  · rfl

theorem State.marchFrost_face {s : State} {t : Nat} (ht : t < 624) : (s.marchFrost t).face = s.face := by
  obtain ⟨-, health, fails⟩ := tileKeys_not_face ht
  unfold State.marchFrost
  split
  · rfl
  · dsimp only
    rw [State.raise_face, State.dirty_face, State.bump_face (by decide),
      State.setKept_face health, State.setRepair_face,
      State.bump_face fails, State.draw_face]

@[simp] theorem State.laySpares_face (s : State) : s.laySpares.face = s.face :=
  foldl_face _ _ _ fun _ _ => rfl

@[simp] theorem State.layRetired_face (s : State) : s.layRetired.face = s.face := by
  unfold State.layRetired
  dsimp only
  rw [State.set_face (by decide)]
  simp

@[simp] theorem State.licenseStrands_face (s : State) : s.licenseStrands.face = s.face := by simp [State.licenseStrands]
@[simp] theorem State.loadSuspects_face (s : State) : s.loadSuspects.face = s.face := by simp [State.loadSuspects]

@[simp] theorem State.lightPorts_face (s : State) : s.lightPorts.face = s.face := by
  refine foldl_view State.face (fun s n hn => ?_) s
  have key : ∀ n < 8, K.portState n ∉ faceKeys := by decide
  simp [State.set_face (key n (List.mem_range.mp hn))]

theorem State.applyTrim_face {s : State} {t : Nat} (ht : t < 624) : (s.applyTrim t).face = s.face :=
  State.setKept_face (tileKeys_not_face ht).1

/-! ### The power stages and the records of a boot -/

@[simp] theorem State.onPower_face (s : State) (f : Power → Power) : (s.onPower f).face = s.face := rfl
@[simp] theorem State.reportShort_face (s : State) : s.reportShort.face = s.face := by simp [State.reportShort]
@[simp] theorem State.retriesFree_face (s : State) : s.retriesFree.face = s.face := by simp [State.retriesFree]
@[simp] theorem State.beginInterval_face (s : State) : s.beginInterval.face = s.face := rfl
@[simp] theorem State.flushBehind_face (s : State) : s.flushBehind.face = s.face := by simp [State.flushBehind]
@[simp] theorem State.resetRecord_face (s : State) : s.resetRecord.face = s.face := by simp [State.resetRecord]

@[simp] theorem State.flashEvents_face (s : State) (r : BootRead) : (s.flashEvents r).face = s.face := by
  simp [State.flashEvents]

end Sys2Proof.Machine
end

section
/-! SUPPORT. What a quiesce that waited for READY leaves (R577 to R579). A forced one stops jobs: it resets tiles, closes
windows and the P classes, and answers descriptors. The rest of `State.face` stands, and a tile that holds nothing still
holds nothing. -/

namespace Sys2Proof.Machine

theorem State.face_eq_iff {s u : State} : s.face = u.face ↔ s.tiles = u.tiles ∧ s.mem = u.mem ∧ s.boot = u.boot
    ∧ s.front.waitQuiesce = u.front.waitQuiesce ∧ s.vault.licences = u.vault.licences
    ∧ s.vault.licFails = u.vault.licFails ∧ s.vault.meas = u.vault.meas ∧ ∀ k ∈ faceKeys, s.get k = u.get k := by
  simp only [State.face, Prod.mk.injEq, List.map_inj_left]

theorem State.tile_congr {s u : State} (h : s.tiles = u.tiles) (t : Nat) : s.tile t = u.tile t := by
  rw [State.tile, State.tile, h]

theorem State.tile_of_face {s u : State} (h : s.face = u.face) (t : Nat) : s.tile t = u.tile t :=
  State.tile_congr (State.face_eq_iff.mp h).1 t

/-- The scratchpad of a tile holds nothing and its core is as after reset. -/
def Tile.bare (x : Tile) : Prop := x.pad.bytes = [] ∧ x.core = Core.reset

theorem Tile.reset_bare : Tile.reset.bare := ⟨rfl, rfl⟩

theorem Tile.setQueues_bare (v : Tile → Nat → Queue) (l : List Nat) {x : Tile} (h : x.bare) :
    (l.foldl (fun y q => y.setQueue q (v y q)) x).bare := by
  induction l generalizing x with
  | nil => exact h
  | cons q l ih => exact ih (x := x.setQueue q (v x q)) h

theorem Tile.advanceQueues_bare {x : Tile} (h : x.bare) : x.advanceQueues.bare :=
  Tile.setQueues_bare (fun y q => (y.queue q).advance) _ h

theorem Tile.suClear_bare {x : Tile} (h : x.bare) : x.suClear.bare := h
theorem Tile.clearSb_bare {x : Tile} (h : x.bare) : x.clearSb.bare := h
theorem Tile.clearFill_bare {x : Tile} (h : x.bare) (keep : List Range) : (x.clearFill keep).bare := h
theorem Tile.endSlice_bare {x : Tile} (h : x.bare) (u : Units) (f : Word × Word) (c : Chk) :
    ({ x.endSlice with units := u, fxfail := f, chk := c } : Tile).bare := h

/-- A stage restart of a core as after reset leaves it so (R199). -/
theorem Tile.restartStage_bare {x : Tile} (h : x.bare) (keep : List Range) : (x.restartStage keep).bare := by
  obtain ⟨bytes, core⟩ := h
  unfold Tile.restartStage
  apply Tile.clearFill_bare
  apply Tile.clearSb_bare
  apply Tile.suClear_bare
  apply Tile.advanceQueues_bare
  exact ⟨bytes, by rw [core]; rfl⟩

theorem Tile.resetTile_bare {x : Tile} (h : x.bare) : x.resetTile.bare := by
  unfold Tile.resetTile
  exact Tile.endSlice_bare (Tile.setQueues_bare _ _ (Tile.restartStage_bare h [])) _ _ _

theorem Tile.fabricFail_bare {x : Tile} (h : x.bare) (code tag : Nat) : (x.fabricFail code tag).bare := by
  unfold Tile.fabricFail
  dsimp only
  split <;> exact ⟨h.1, h.2⟩

theorem Tile.releaseCredit_bare {x : Tile} (h : x.bare) (q n : Nat) : (x.releaseCredit q n).bare := by
  unfold Tile.releaseCredit
  dsimp only
  split <;> exact h

/-- `s'` is `s` with work stopped: phase, memory, licences, measurements and the entries of `faceKeys` stand, but for
priority_class_state, and tiles that held nothing hold nothing. -/
structure Calm (s s' : State) : Prop where
  boot : s'.boot = s.boot
  mem : s'.mem = s.mem
  licences : s'.vault.licences = s.vault.licences
  licFails : s'.vault.licFails = s.vault.licFails
  meas : s'.vault.meas = s.vault.meas
  get : ∀ k ∈ faceKeys, k ≠ K.priorityClassState → s'.get k = s.get k
  bare : (∀ t, (s.tile t).bare) → ∀ t, (s'.tile t).bare

namespace Calm

variable {s u v : State}

theorem of_face (h : u.face = s.face) : Calm s u := by
  obtain ⟨-, mem, boot, -, licences, licFails, meas, get⟩ := State.face_eq_iff.mp h
  exact ⟨boot, mem, licences, licFails, meas, fun k hk _ => get k hk, fun b t => State.tile_of_face h t ▸ b t⟩

theorem refl (s : State) : Calm s s := of_face rfl

theorem trans (h : Calm s u) (g : Calm u v) : Calm s v where
  boot := g.boot.trans h.boot
  mem := g.mem.trans h.mem
  licences := g.licences.trans h.licences
  licFails := g.licFails.trans h.licFails
  meas := g.meas.trans h.meas
  get k hk hp := (g.get k hk hp).trans (h.get k hk hp)
  bare := g.bare ∘ h.bare

/-- A further step that leaves `State.face`. -/
theorem face (h : Calm s u) (e : v.face = u.face) : Calm s v := h.trans (of_face e)

theorem ite {c : Prop} [Decidable c] (h : Calm s u) (g : Calm s v) : Calm s (if c then u else v) := by
  split <;> assumption

theorem foldl {α : Type} {f : State → α → State} (h : ∀ s x, Calm s (f s x)) (l : List α) (s : State) :
    Calm s (l.foldl f s) := by
  induction l generalizing s with
  | nil => exact refl s
  | cons x l ih => exact (h s x).trans (ih (f s x))

theorem onTile (s : State) (t : Nat) {f : Tile → Tile} (h : ∀ x, x.bare → (f x).bare) : Calm s (s.onTile t f) where
  boot := rfl
  mem := rfl
  licences := rfl
  licFails := rfl
  meas := rfl
  get _ _ _ := rfl
  bare b k := by
    rw [State.tile_onTile]
    split
    · exact h _ (b t)
    · exact b k

theorem front (s : State) (f : Front) : Calm s { s with front := f } :=
  ⟨rfl, rfl, rfl, rfl, rfl, fun _ _ _ => rfl, id⟩

theorem setClass (s : State) (p : Nat) : Calm s (s.set K.priorityClassState p) where
  boot := rfl
  mem := rfl
  licences := rfl
  licFails := rfl
  meas := rfl
  get k _ hp := by rw [State.get_set, if_neg hp]
  bare := id

/-! ### Windows and transfers -/

theorem closeComplete (s : State) (w : Nat) : Calm s (s.closeComplete w) := by
  have slot := ite (c := (s.window w).kind = 1) (onTile s (s.window w).slot
    (f := fun t => t.setWinSlot (s.window w).winslot WinSlot.free) fun _ h => h) (refl s)
  refine slot.face ?_
  unfold State.closeComplete
  dsimp only
  split <;> simp

theorem closeAck (s : State) (w : Nat) (eps : List Nat) : Calm s (s.closeAck w eps) := by
  unfold State.closeAck
  dsimp only
  split
  · exact refl s
  · split
    · exact (of_face (State.setWindow_face s w _)).trans (closeComplete _ w)
    · exact of_face rfl

theorem endTransfer (s : State) (t : Transfer) (code : Nat) : Calm s (s.endTransfer t code) := by
  unfold State.endTransfer
  dsimp only
  generalize hu : State.tryReady (State.closeWaits _ t) = u
  have ended : Calm s u := by
    rw [← hu]
    refine face ?_ ((State.tryReady_face _).trans (State.closeWaits_face _ t))
    refine (of_face (State.onFabric_face s fun f => { f with transfers := f.transfers.filter fun u => u ≠ t })).trans ?_
    split
    · split
      · refine onTile _ _ fun x h => ?_
        split
        · exact h
        · apply Tile.fabricFail_bare
          exact h
      · exact ite (refl _) (onTile _ _ fun _ h => Tile.fabricFail_bare h code t.tag)
    · exact of_face (State.answer_face _ _ _)
    · exact ite (refl _) (ite (closeAck _ _ _) (closeAck _ _ _))
    all_goals exact refl _
  split
  · exact ended
  · generalize hv : State.countCode _ code = v
    have counted : Calm s v := by
      rw [← hv]
      refine face ?_ (State.countCode_face _ code)
      split
      · exact ended.trans (onTile _ _ fun _ h => Tile.releaseCredit_bare h _ _)
      · exact ended
    exact ite (counted.face (State.raise_face v _ _)) counted

theorem launch (s : State) (t : Transfer) : Calm s (s.launch t) := by
  unfold State.launch
  dsimp only
  split
  · exact endTransfer s t _
  · split
    · exact endTransfer s t _
    · rename_i h
      exact of_face (State.egressAll_face h)

theorem takeTransfer (s : State) (dst flow : Nat) (p : Packet) (parts : List (List Byte)) (owner : TOwner) (tag : Nat)
    (credit : Option (Nat × Nat × Nat)) (window : Option Nat) :
    Calm s (s.takeTransfer dst flow p parts owner tag credit window) := by
  unfold State.takeTransfer
  dsimp only
  split
  · exact (of_face (State.onFabric_face s _)).trans (launch _ _)
  · exact of_face rfl

theorem sendClose (s : State) (w e : Nat) : Calm s (s.sendClose w e) :=
  (of_face s.freeFlow_face).trans (takeTransfer _ _ _ _ _ _ _ _ _)

theorem sendCloses (s : State) (w : Nat) (x : Window) : Calm s (s.sendCloses w x) := by
  unfold State.sendCloses
  split
  · exact of_face (by simp)
  · exact foldl (fun s e => sendClose s w e) _ s

theorem beginClose (s : State) (w : Nat) : Calm s (s.beginClose w) := by
  unfold State.beginClose
  dsimp only
  split
  · exact refl s
  · refine trans ?_ (ite (closeComplete _ w) (sendCloses _ w _))
    have begun := of_face (State.setWindow_face s w { s.window w with
      state := 2, waitAck := s.scopeEndpoints (s.window w), acked := [] })
    exact ite (begun.trans (onTile _ _ fun _ h => h)) begun

theorem closeWindows (s : State) : Calm s s.closeWindows := foldl beginClose _ s

/-! ### Tiles and strands -/

theorem closeP (s : State) : Calm s s.closeP := by
  unfold State.closeP
  dsimp only
  split
  · exact refl s
  · exact (setClass s 1).face (State.bump_face (by decide))

theorem abandonSlice (s : State) (t : Nat) : Calm s (s.abandonSlice t) := by
  unfold State.abandonSlice
  split
  · exact refl s
  · exact ((onTile s t (f := Tile.endSlice) fun _ h => h).face (State.bump_face (by decide))).face rfl

theorem resetOne (s : State) (t : Nat) : Calm s (s.resetOne t) :=
  ((of_face (by simp)).trans (abandonSlice _ t)).trans (onTile _ t fun _ => Tile.resetTile_bare)

theorem resetTiles (s : State) (ts : List Nat) : Calm s (s.resetTiles ts) :=
  (of_face (State.dropWatch_face s ts)).trans (foldl resetOne ts _)

theorem resetStrand (s : State) (st : Nat) : Calm s (s.resetStrand st) := (resetTiles s _).trans (closeP _)

theorem tidyGroup (s : State) (g : Nat) : Calm s (s.tidyGroup g) := by
  unfold State.tidyGroup
  dsimp only
  split
  · refine (foldl (fun s t => onTile s t fun x h => ?_) (s.stageSlots g) s).face (State.onStrand_face _ g _)
    exact Tile.restartStage_bare h []
  · exact refl s

theorem idleStrand (s : State) (st : Nat) : Calm s (s.idleStrand st) :=
  (of_face (State.onStrand_face s st _)).trans (foldl tidyGroup _ _)

theorem dropSeq (s : State) (st : Nat) : Calm s (s.dropSeq st) := by
  refine (resetStrand s st).trans ?_
  unfold State.dropSeq
  dsimp only
  split
  · exact idleStrand _ st
  · split <;> exact of_face (by simp)

theorem dropNext (s : State) (st : Nat) : Calm s (s.dropNext st) :=
  (resetTiles s _).face (State.onStrand_face _ st _)

theorem leaveStrand (s : State) (st : Nat) (j : JobId) : Calm s (s.leaveStrand st j) := by
  have next := ite (c := (s.strand st).next = some j) (dropNext s st) (refl s)
  exact next.trans (ite (dropSeq _ st) (refl _))

theorem stopStrand (s : State) (st : Nat) (j : JobId) : Calm s (s.stopStrand st j) := by
  unfold State.stopStrand
  dsimp only
  split
  · exact leaveStrand s st j
  · split
    · exact refl s
    · exact (resetTiles s _).face (State.onStrand_face _ st _)

/-! ### Sessions and jobs -/

theorem freeTune (s : State) (n : Nat) : Calm s (s.freeTune n) := by
  unfold State.freeTune
  dsimp only
  split
  · exact (beginClose s _).face (State.setTune_face _ n _)
  · exact of_face rfl

theorem tuneLoses (s : State) (j : JobId) : Calm s (s.tuneLoses j) :=
  foldl (fun s n => ite (freeTune s n) (of_face (State.onTune_face s n _))) _ s

theorem stopWork (s : State) (j : JobId) : Calm s (s.stopWork j) := by
  have strands : Calm s ((List.range 48).foldl (fun s st => s.stopStrand st j) s) :=
    foldl (fun s st => stopStrand s st j) _ s
  unfold State.stopWork
  dsimp only
  refine face ((strands.face (State.onShards_face _ fun x => x.leave j)).trans (tuneLoses _ j)) ?_
  simp

theorem askQuiesce (s : State) (src : QSource) : Calm s (s.askQuiesce src) := by
  unfold State.askQuiesce
  split
  · exact front s _
  · split
    · exact refl s
    · have asked : Calm s (s.setQuiesce .requested) := front s _
      exact (asked.face (by simp)).trans (closeWindows _)

theorem forceQuiesce (s : State) (src : QSource) : Calm s (s.forceQuiesce src) := by
  unfold State.forceQuiesce
  split
  · exact front s _
  · split
    · exact refl s
    · dsimp only
      have forcing : Calm s (if s.front.quiesce = .none then (s.setQuiesce .forcing).deviceEvent else s.setQuiesce .forcing) :=
        ite ((front s _).face (State.deviceEvent_face _)) (front s _)
      refine ((forcing.face (State.raise_face _ _ _)).trans (foldl (fun s j => ?_) _ _)).trans (closeWindows _)
      exact (stopWork s j).face (State.overrule_face _ j _)

theorem waitedQuiesce (s : State) : Calm s s.waitedQuiesce := by
  unfold State.waitedQuiesce
  split
  · exact refl s
  · dsimp only
    split
    · exact (front s _).trans (forceQuiesce _ _)
    · exact (front s _).trans (askQuiesce _ _)

end Calm

end Sys2Proof.Machine
end

section
/-! SUPPORT. The boot sequence step by step (R522): flash and the vault, the march, module memory and
tiles, READY, and its stops. -/

open Sys2Proof.Claims

namespace Sys2Proof.Machine

/-! ### Reading flash -/

theorem State.set_face_congr {s u : State} (h : s.face = u.face) (k v : Nat) : (s.set k v).face = (u.set k v).face := by
  obtain ⟨tiles, mem, boot, quiesce, licences, licFails, meas, get⟩ := State.face_eq_iff.mp h
  refine State.face_eq_iff.mpr ⟨tiles, mem, boot, quiesce, licences, licFails, meas, fun j hj => ?_⟩
  rw [State.get_set, State.get_set, get j hj]

theorem State.inForce_of_face {s u : State} (h : s.face = u.face) : s.vault.inForce = u.vault.inForce := by
  obtain ⟨-, -, -, -, licences, licFails, -⟩ := State.face_eq_iff.mp h
  rw [Vault.inForce, Vault.inForce, licences, licFails]

/-- What reading flash leaves: module memory, the front face and whether clearing had begun. -/
def State.unread (s : State) : Mem × Front × Bool := (s.mem, s.front, s.vault.clearBegun)

@[simp] theorem State.set_unread (s : State) (k v : Nat) : (s.set k v).unread = s.unread := rfl
@[simp] theorem State.bump_unread (s : State) (k n : Nat) : (s.bump k n).unread = s.unread := rfl
@[simp] theorem State.setBlock_unread (s : State) (n : Nat) (v : FlashBlock) : (s.setBlock n v).unread = s.unread := rfl
@[simp] theorem State.loadSecurity_unread (s : State) (body : List (Nat × Nat)) :
    (s.loadSecurity body).unread = s.unread := rfl

@[simp] theorem State.dirty_unread (s : State) (b : Nat) : (s.dirty b).unread = s.unread := by
  unfold State.dirty
  split <;> rfl

@[simp] theorem State.loadDict_unread (s : State) (body : List (Nat × Nat)) : (s.loadDict body).unread = s.unread := by
  refine (foldl_view State.unread (fun s p _ => ?_) _).trans ((foldl_view State.unread (fun s p _ => ?_) _).trans ?_)
  · rfl
  · split <;> rfl
  · rfl

@[simp] theorem State.setBlocks_unread (s : State) (l : List (Nat × Taken)) :
    (l.foldl (fun s p => s.setBlock p.1 p.2.block) s).unread = s.unread :=
  foldl_view State.unread (fun s (p : Nat × Taken) _ => s.setBlock_unread p.1 p.2.block) s

/-- Putting a repair map, licences and the flash part in force is no matter of `State.unread`. -/
@[simp] theorem State.inForce_unread (s : State) (m : List (Nat × Word)) (l : List Licence) (f : Flash) :
    ({ s with repair := m, vault := { s.vault with licences := l }, flash := f } : State).unread = s.unread := rfl

@[simp] theorem State.useFlash_unread (s : State) (r : BootRead) : (s.useFlash r).unread = s.unread := by
  unfold State.useFlash
  dsimp only
  split
  · simp only [State.set_unread, State.inForce_unread, State.loadSecurity_unread, State.loadDict_unread, State.setBlocks_unread]
  · simp only [State.dirty_unread, State.bump_unread, State.set_unread, State.inForce_unread, State.loadSecurity_unread,
      State.loadDict_unread, State.setBlocks_unread]

/-! ### The vault starts -/

/-- The vault after flash was read: identity_state, the licences that fail and M0 to M3 (R308, R317). -/
def State.vaultStart (s : State) (b : BootIn) (r : BootRead) : State :=
  State.measureBoot (State.finishClear
    { s.useFlash r with vault := { (s.useFlash r).vault with licFails := b.licFails } }) r.firmware

theorem State.finishClear_keeps (s : State) : s.finishClear.mem = s.mem ∧ s.finishClear.front = s.front
    ∧ s.finishClear.vault = s.vault := by
  unfold State.finishClear
  split <;> exact ⟨rfl, rfl, rfl⟩

theorem State.finishClear_identity {s : State} (h : s.vault.clearBegun = true) : s.finishClear.get K.identityState = 2 := by
  rw [State.finishClear, if_pos h, State.get_set, if_pos rfl]

/-- What the start of the vault leaves and what it sets. -/
theorem State.vaultStart_spec (s : State) (b : BootIn) (r : BootRead) : let u := s.vaultStart b r
    u.mem = s.mem ∧ u.front.waitQuiesce = s.front.waitQuiesce ∧ u.vault.licFails = b.licFails
      ∧ u.vault.meas[0]? = some (extend 0 (((r.firmware[0]?).map Taken.digest).getD 0))
      ∧ (s.vault.clearBegun = true → u.get K.identityState = 2) := by
  have kept := State.useFlash_unread s r
  obtain ⟨mem, front, begun⟩ : (s.useFlash r).mem = s.mem ∧ (s.useFlash r).front = s.front
      ∧ (s.useFlash r).vault.clearBegun = s.vault.clearBegun := by simpa only [State.unread, Prod.mk.injEq] using kept
  generalize hu : s.useFlash r = u at mem front begun
  unfold State.vaultStart
  rw [hu, ← mem, ← front, ← begun]
  clear hu mem front begun kept
  refine ⟨?_, ?_, ?_, rfl, fun h => ?_⟩
  · exact (State.finishClear_keeps _).1
  · exact congrArg Front.waitQuiesce (State.finishClear_keeps _).2.1
  · exact congrArg Vault.licFails (State.finishClear_keeps _).2.2
  · exact State.finishClear_identity h

@[simp] theorem State.startSeal_face (s : State) : s.startSeal.face = s.face := by
  unfold State.startSeal
  dsimp only
  split <;> rfl

theorem State.applyLicences_face (s : State) :
    s.applyLicences.face = (s.set K.licenceFeatures (featuresOf s.vault.inForce)).face := by
  unfold State.applyLicences
  dsimp only
  rw [State.licenseStrands_face, State.set_face (by decide)]

/-- The licences in force set licence_features; nothing else of `State.face` changes after the vault's start. -/
theorem State.bootLoad_face (s : State) (b : BootIn) (r : BootRead) : (s.bootLoad b r).face
    = ((s.vaultStart b r).set K.licenceFeatures (featuresOf (s.vaultStart b r).vault.inForce)).face := by
  have sealed := State.startSeal_face (s.vaultStart b r)
  rw [← State.inForce_of_face sealed, ← State.set_face_congr sealed]
  exact State.applyLicences_face _

/-- What holds once flash was read and the vault has started. -/
structure Loaded (s : State) (b : BootIn) (r : BootRead) (u : State) : Prop where
  mem : u.mem = s.mem
  quiesce : u.front.waitQuiesce = s.front.waitQuiesce
  licFails : u.vault.licFails = b.licFails
  meas : u.vault.meas[0]? = some (extend 0 (((r.firmware[0]?).map Taken.digest).getD 0))
  features : u.get K.licenceFeatures = featuresOf u.vault.inForce
  identity : s.vault.clearBegun = true → u.get K.identityState = 2

theorem State.bootLoad_loaded (s : State) (b : BootIn) (r : BootRead) {u : State} (h : u.face = (s.bootLoad b r).face) :
    Loaded s b r u := by
  have e := h.trans (State.bootLoad_face s b r)
  have force := State.inForce_of_face e
  obtain ⟨-, mem, -, quiesce, -, licFails, meas, get⟩ := State.face_eq_iff.mp e
  obtain ⟨mem0, quiesce0, licFails0, meas0, identity0⟩ := State.vaultStart_spec s b r
  refine ⟨mem.trans mem0, quiesce.trans quiesce0, licFails.trans licFails0, meas ▸ meas0, ?_, fun begun => ?_⟩
  · rw [get _ (by decide), State.get_set, if_pos rfl, force]
    rfl
  · rw [get _ (by decide), State.get_set, if_neg (by decide), identity0 begun]

/-! ### The images of the firmware -/

/-- Nothing is taken of a firmware block where neither copy is intact, and only there (R518). -/
theorem takeBlock_event {k : Nat} (hk : k ∈ [1, 2, 3]) (x : FlashBlock) :
    (takeBlock k x).event = 2 ↔ x.a.intact = false ∧ x.b.intact = false := by
  have low : ¬ 4 ≤ k ∧ k ≠ Blk.security ∧ k ≠ Blk.dictionary := by
    revert k
    decide
  obtain ⟨four, sec, dict⟩ := low
  unfold takeBlock
  split
  · simp_all
  · simp_all
  · -- Two intact copies: the newer one, equal or merged bodies, or the image of the higher SVN. None is event 2.
    rename_i a b
    simp only [a, b]
    split
    · simp
    · split
      · simp
      · split
        · simp
        · split
          · simp
          · split <;> simp
  · rename_i a b
    rw [if_neg sec, if_neg four]
    simp [a, b]

theorem imageUsable_iff {s : State} {b : BootIn} {k : Nat} (hk : k ∈ [1, 2, 3]) : ImageUsable s b k ↔
    (takeBlock k ⟨s.readCopy b.damaged k true (s.block k).a, s.readCopy b.damaged k false (s.block k).b⟩).event ≠ 2 := by
  have firmware : 1 ≤ k ∧ k ≤ 3 := by
    revert k
    decide
  have copy : ∀ (isA : Bool) (c : FlashCopy), (s.readCopy b.damaged k isA c).intact = true
      ↔ c.intact = true ∧ (k, isA) ∉ b.damaged ∧ s.get K.minSvn ≤ look (fun _ => 0) c.body 0 := by
    intro isA c
    simp [State.readCopy, firmware, and_assoc]
  rw [Ne, takeBlock_event hk, not_and_or, Bool.not_eq_false, Bool.not_eq_false, copy, copy]
  simp [ImageUsable, or_comm]

/-! ### The march -/

/-- cold_march_result after the march (R493): another array, a tile, a bank, or nothing failed. -/
def BootIn.marchResult (b : BootIn) : Nat :=
  if b.otherArrayFail then 3 else if !b.tileFails.isEmpty then 2 else if !b.failedBanks.isEmpty then 1 else 0

theorem BootIn.marchResult_eq {b : BootIn} (h : b.otherArrayFail = false) : b.marchResult
    = if b.tileFails ≠ [] then 2 else if (∃ p ∈ b.bankErrs, coldFails 2048 p.2 = true) then 1 else 0 := by
  have banks : (!b.failedBanks.isEmpty) = true ↔ ∃ p ∈ b.bankErrs, coldFails 2048 p.2 = true := by
    simp [BootIn.failedBanks]
  have tiles : (!b.tileFails.isEmpty) = true ↔ b.tileFails ≠ [] := by simp
  simp only [BootIn.marchResult, h, banks, tiles, Bool.false_eq_true, if_false]

theorem BootIn.failedBanks_lt {b : BootIn} {p : Nat × Nat} (h : p ∈ b.failedBanks) : p.1 < 624 := by
  obtain ⟨q, -, rfl⟩ := List.mem_map.mp h
  exact q.1.1.isLt

/-- The march sets cold_march_result; what else it does to a tile's entries and the repair map is no matter of
`State.face`. -/
theorem State.march_face (s : State) (b : BootIn) (kind : Nat) :
    (s.march b kind).face = (s.set K.coldMarchResult b.marchResult).face := by
  have restored : ∀ l : List (Nat × Nat), (l.foldl (fun (s : State) (q : Nat × Nat) =>
      if b.failedBanks.contains q then s else s.restoreBank q.1 q.2)
      { s with selftest := { s.selftest with restore := [] } }).face = s.face :=
    fun l => (foldl_face _ l _ (by simp)).trans rfl
  unfold State.march
  dsimp only
  refine State.set_face_congr ?_ _ _
  rw [foldl_view State.face fun s t _ => State.marchFrost_face t.isLt,
    foldl_view State.face fun s p hp => State.marchBank_face (BootIn.failedBanks_lt hp)]
  split
  · exact restored _
  · rfl

/-! ### Module memory and the tiles of a boot -/

/-- A property of a key that every step of a fold keeps, and that a step brings about for a key of its own, holds after
the fold for every key among its steps. -/
theorem foldl_reaches {α : Type} {P : Nat → State → Prop} {f : State → α → State} {key : α → Nat}
    (keep : ∀ s x i, P i s → P i (f s x)) (does : ∀ s x, P (key x) (f s x)) {i : Nat} {l : List α} {s : State}
    (h : i ∈ l.map key ∨ P i s) : P i (l.foldl f s) := by
  induction l generalizing s with
  | nil => exact h.resolve_left (List.not_mem_nil)
  | cons x l ih =>
    refine ih ?_
    rcases h with h | h
    · rcases List.mem_cons.mp h with rfl | h
      · exact .inr (does s x)
      · exact .inl h
    · exact .inr (keep s x i h)

theorem State.mem_of_face {s u : State} (h : s.face = u.face) : s.mem = u.mem := (State.face_eq_iff.mp h).2.1

/-- What the readouts of the packages and the training leave: all but the tiles, the readings and the training. -/
def State.beside (s : State) :
    (BootPhase × Option (Bool × QSource) × List Licence × List Nat × List (BitVec 256) × List Nat)
      × List (Nat × Byte) × Bool × Nat :=
  (s.face.2.2, s.mem.cells, s.mem.keyPresent, s.mem.keyCount)

theorem State.beside_iff {s u : State} : s.beside = u.beside ↔ s.face.2.2 = u.face.2.2 ∧ s.mem.cells = u.mem.cells
    ∧ s.mem.keyPresent = u.mem.keyPresent ∧ s.mem.keyCount = u.mem.keyCount := by
  simp only [State.beside, Prod.mk.injEq]

theorem State.beside_of_face {s u : State} (h : s.face = u.face) : s.beside = u.beside := by
  rw [State.beside, State.beside, h, State.mem_of_face h]

/-- The package has been read. -/
def State.pkgRead (i : Nat) (s : State) : Prop := (s.pkg i).temp.isSome = true

theorem State.pkgRead_congr {s u : State} (e : u.mem.pkgs = s.mem.pkgs) {i : Nat} (h : s.pkgRead i) : u.pkgRead i := by
  rw [State.pkgRead, State.pkg, e]
  exact h

/-- The sub-channel has been trained. -/
def State.subTrained (c : Nat) (s : State) : Prop := (look (fun _ => none) s.mem.trained c).isSome = true

theorem State.subTrained_congr {s u : State} (e : u.mem = s.mem) {c : Nat} (h : s.subTrained c) : u.subTrained c := by
  rw [State.subTrained, e]
  exact h

/-- A readout places its package's reading; an alarm may follow. -/
theorem State.readPkg_face (s : State) (i : Nat) (t : Int) : (s.readPkg i t).face
    = ({ s with mem := { s.mem with pkgs := put (fun _ => Pkg.reset) s.mem.pkgs i ((s.pkg i).read t) } } : State).face := by
  unfold State.readPkg
  dsimp only
  split
  · exact State.raise_face _ _ _
  · rfl

theorem State.readPkg_pkg (s : State) (i j : Nat) (t : Int) :
    (s.readPkg i t).pkg j = if j = i then (s.pkg i).read t else s.pkg j := by
  rw [State.pkg, State.mem_of_face (State.readPkg_face s i t)]
  exact look_put _ _ i j _

theorem State.readPkg_keeps (s : State) (i j : Nat) (t : Int) (h : s.pkgRead j) : (s.readPkg i t).pkgRead j := by
  rw [State.pkgRead, State.readPkg_pkg]
  split
  · rfl
  · exact h

theorem State.trainSub_pkgs (s : State) (c : Nat) : (s.trainSub c).mem.pkgs = s.mem.pkgs := rfl
theorem State.trainSub_beside (s : State) (c : Nat) : (s.trainSub c).beside = s.beside := rfl

theorem State.trainSub_keeps (s : State) (c j : Nat) (h : s.subTrained j) : (s.trainSub c).subTrained j := by
  unfold State.subTrained State.trainSub
  dsimp only
  rw [look_put]
  split
  · rfl
  · exact h

theorem State.showTemps_face (s : State) : s.showTemps.face = s.face := by
  unfold State.showTemps State.sample
  dsimp only
  rw [State.onRecorder_face, State.set_face (by decide), State.set_face (by decide), State.set_face (by decide)]

theorem State.readTemps_beside (s : State) (l : List Int) : (s.readTemps l).beside = s.beside := by
  refine (State.beside_of_face (State.showTemps_face _)).trans (foldl_view State.beside (fun s p _ => ?_) s)
  exact (State.beside_of_face (State.readPkg_face s p.2 p.1)).trans rfl

theorem State.trainAll_beside (s : State) : s.trainAll.beside = s.beside := by
  unfold State.trainAll
  exact (foldl_view State.beside (fun s c _ => s.trainSub_beside c) _).trans (State.readTemps_beside (s.drawMany 12).2 _)

theorem State.readTemps_reads (s : State) {l : List Int} (h : l.length = 12) {i : Nat} (hi : i < 12) :
    (s.readTemps l).pkgRead i := by
  rw [State.readTemps, State.pkgRead, State.pkg, State.mem_of_face (State.showTemps_face _)]
  refine foldl_reaches (P := State.pkgRead) (key := Prod.snd) (fun s p j => State.readPkg_keeps s p.2 j p.1) (fun s p => ?_)
    (.inl ?_)
  · rw [State.pkgRead, State.readPkg_pkg, if_pos rfl]
    rfl
  · rw [List.zipIdx_map_snd]
    simpa [h] using hi

/-- Every package has been read and every sub-channel trained (R274, R276). -/
theorem State.trainAll_reaches (s : State) :
    (∀ i, i < 12 → s.trainAll.pkgRead i) ∧ ∀ c, c < 96 → s.trainAll.subTrained c := by
  refine ⟨fun i hi => ?_, fun c hc => ?_⟩
  · unfold State.trainAll
    refine State.pkgRead_congr (foldl_view (fun s => s.mem.pkgs) (fun s c _ => s.trainSub_pkgs c) _) ?_
    refine State.readTemps_reads _ ?_ hi
    rw [List.length_map, List.length_range]
  · refine foldl_reaches (P := State.subTrained) (key := fun c => c) State.trainSub_keeps (fun s c => ?_)
      (.inl (by simpa using hc))
    unfold State.subTrained State.trainSub
    dsimp only
    rw [look_put, if_pos rfl]
    rfl

theorem State.applyTrims_face (s : State) :
    (allSlots.foldl (fun s t => if (s.tile t).trimAsked = 0 then s else s.applyTrim t) s).face = s.face := by
  refine foldl_view State.face (fun s t ht => ?_) s
  split
  · rfl
  · exact State.applyTrim_face (List.mem_range.mp ht)

theorem State.setTile_face (s : State) (t : Nat) (x : Tile) : (s.setTile t x).face.2 = s.face.2 := rfl

/-- Tiles laid anew that hold nothing. -/
theorem State.layTiles_spec (f : State → Nat → Tile) (h : ∀ s t, (f s t).bare) (l : List Nat) (s : State) :
    let u := l.foldl (fun s t => s.setTile t (f s t)) { s with tiles := [] }
    u.face.2 = s.face.2 ∧ ∀ t, (u.tile t).bare := by
  refine ⟨(foldl_view (fun s => s.face.2) (fun s t _ => setTile_face s t (f s t)) _).trans rfl, ?_⟩
  refine List.foldlRecOn (motive := fun s => ∀ t, (State.tile s t).bare) l _ (fun _ => Tile.reset_bare) fun s bare t _ k => ?_
  rw [State.tile_setTile]
  split
  · exact h s t
  · exact bare k

/-- Fresh tiles hold nothing, and nothing else of `State.face` changes with them. -/
theorem State.freshTiles_spec (s : State) : s.freshTiles.face.2 = s.face.2 ∧ ∀ t, (s.freshTiles.tile t).bare := by
  have laid := State.layTiles_spec (fun s t => s.freshTile t (s.get (K.tileTrim t)) (s.get (K.tilePace t)))
    (fun _ _ => ⟨rfl, rfl⟩) allSlots s
  unfold State.freshTiles
  dsimp only at laid ⊢
  generalize List.foldl _ ({ s with tiles := [] } : State) allSlots = u at laid ⊢
  obtain ⟨face, bare⟩ := laid
  split
  · exact ⟨face, bare⟩
  · have trims := State.applyTrims_face u
    exact ⟨(congrArg Prod.snd trims).trans face, fun t => (State.tile_of_face trims t).symm ▸ bare t⟩

/-! ### READY -/

/-- READY, with the P classes open (R522 step 9). -/
def State.opened (s : State) (ms : Nat) : State :=
  (({ s with boot := .ready } : State).set K.lastReadyMs ms).set K.priorityClassState 0

theorem State.opened_get (s : State) (ms k : Nat) : (s.opened ms).get k
    = if k = K.priorityClassState then 0 else if k = K.lastReadyMs then ms else s.get k := by
  rw [State.opened, State.get_set, State.get_set]
  rfl

/-- A module that becomes ready is open, its records written, and then has taken the quiesce that waited. -/
theorem State.becomeReady_spec (s : State) (ms : Nat) {first : State → State} (h : ∀ s, (first s).face = s.face) :
    ∃ u : State, u.face = (s.opened ms).face ∧ s.becomeReady ms first = u.waitedQuiesce := by
  refine ⟨_, ?_, rfl⟩
  rw [State.beginInterval_face, State.flushBehind_face, State.resetRecord_face, h, State.deviceEvent_face]
  rfl

theorem State.becomeReady_calm (s : State) (ms : Nat) {first : State → State} (h : ∀ s, (first s).face = s.face) :
    Calm (s.opened ms) (s.becomeReady ms first) := by
  obtain ⟨u, face, ready⟩ := State.becomeReady_spec s ms h
  exact ready ▸ (Calm.of_face face).trans (Calm.waitedQuiesce u)

/-- Without a quiesce that waited the P classes stay open. -/
theorem State.becomeReady_open {s : State} (ms : Nat) {first : State → State} (h : ∀ s, (first s).face = s.face)
    (never : s.front.waitQuiesce = none) : (s.becomeReady ms first).get K.priorityClassState = 0 := by
  obtain ⟨u, face, ready⟩ := State.becomeReady_spec s ms h
  obtain ⟨-, -, -, quiesce, -, -, -, get⟩ := State.face_eq_iff.mp face
  have none : u.front.waitQuiesce = none := quiesce.trans never
  rw [ready, State.waitedQuiesce, none]
  exact (get _ (by decide)).trans ((State.get_set _ _ _ _).trans (if_pos rfl))

/-! ### From the march to READY -/

theorem State.aside_iff {s u : State} : s.face.2.2 = u.face.2.2 ↔ s.boot = u.boot
    ∧ s.front.waitQuiesce = u.front.waitQuiesce ∧ s.vault.licences = u.vault.licences
    ∧ s.vault.licFails = u.vault.licFails ∧ s.vault.meas = u.vault.meas ∧ ∀ k ∈ faceKeys, s.get k = u.get k := by
  simp only [State.face, Prod.mk.injEq, List.map_inj_left]

/-- What a boot has laid out before it tells of it: empty memory under a new key, packages read and sub-channels trained,
and tiles that hold nothing. -/
structure Laid (s u : State) : Prop where
  aside : u.face.2.2 = s.face.2.2
  cells : u.mem.cells = []
  keyPresent : u.mem.keyPresent = true
  keyCount : u.mem.keyCount = s.mem.keyCount + 1
  read : ∀ i, i < 12 → u.pkgRead i
  trained : ∀ c, c < 96 → u.subTrained c
  bare : ∀ t, (u.tile t).bare

theorem Laid.of_face {s u v : State} (h : Laid s u) (e : v.face = u.face) : Laid s v := by
  have mem := State.mem_of_face e
  obtain ⟨aside, cells, present, count, read, trained, bare⟩ := h
  refine ⟨e ▸ aside, mem ▸ cells, mem ▸ present, mem ▸ count,
    fun i hi => State.pkgRead_congr (congrArg Mem.pkgs mem) (read i hi),
    fun c hc => State.subTrained_congr mem (trained c hc), fun t => State.tile_of_face e t ▸ bare t⟩

/-- Module memory under a new key, its packages read and its sub-channels trained (R265, R276; R522 steps 6 and 7). -/
def State.newMemory (s : State) : State :=
  ({ s with mem := { Mem.reset with keyCount := s.mem.keyCount + 1, allRefreshed := s.timeBase } } : State).trainAll

/-- Where strands lie, which of them the licence covers, cleared tiles, suspects and lit ports (R142 to R144, R394, R524). -/
def State.layOut (s : State) : State :=
  (((s.laySpares.layRetired).licenseStrands).freshTiles).loadSuspects.lightPorts

theorem State.mem_of_rest {s u : State} (h : s.face.2 = u.face.2) : s.mem = u.mem := congrArg Prod.fst h

theorem State.setMem_face (s : State) (m : Mem) : ({ s with mem := m } : State).face.2.2 = s.face.2.2 := rfl

theorem State.layOut_laid (s : State) : Laid s s.newMemory.layOut := by
  obtain ⟨aside, cells, present, count⟩ : s.newMemory.face.2.2 = _ ∧ s.newMemory.mem.cells = _
    ∧ s.newMemory.mem.keyPresent = _ ∧ s.newMemory.mem.keyCount = _ := State.beside_iff.mp (State.trainAll_beside _)
  obtain ⟨read, trained⟩ := State.trainAll_reaches
    { s with mem := { Mem.reset with keyCount := s.mem.keyCount + 1, allRefreshed := s.timeBase } }
  have strands : s.newMemory.laySpares.layRetired.licenseStrands.face = s.newMemory.face := by simp
  obtain ⟨face, bare⟩ := State.freshTiles_spec s.newMemory.laySpares.layRetired.licenseStrands
  have mem : (State.freshTiles s.newMemory.laySpares.layRetired.licenseStrands).mem = s.newMemory.mem :=
    State.mem_of_rest (face.trans (congrArg Prod.snd strands))
  refine Laid.of_face (u := s.newMemory.laySpares.layRetired.licenseStrands.freshTiles) ⟨?_, ?_, ?_, ?_, ?_, ?_, bare⟩
    (by simp [State.layOut])
  · exact (congrArg Prod.snd (face.trans (congrArg Prod.snd strands))).trans (aside.trans (State.setMem_face s _))
  · rw [mem, cells]
    rfl
  · rw [mem, present]
    rfl
  · rw [mem, count]
  · exact fun i hi => State.pkgRead_congr (congrArg Mem.pkgs mem) (read i hi)
  · exact fun c hc => State.subTrained_congr mem (trained c hc)

/-- A ready module, as far as the claims about a boot go; `s` is the module after its march. -/
structure Booted (s : State) (b : BootIn) (u : State) : Prop where
  boot : u.boot = .ready
  opened : s.front.waitQuiesce = none → u.get K.priorityClassState = 0
  readyMs : u.get K.lastReadyMs = b.readyMs
  licences : u.vault.licences = s.vault.licences
  licFails : u.vault.licFails = s.vault.licFails
  meas : u.vault.meas = s.vault.meas
  get : ∀ k ∈ [K.coldMarchResult, K.identityState, K.licenceFeatures], u.get k = s.get k
  lost : s.get K.identityState = 2 → u.get K.frontFaultCode = 7
  cells : u.mem.cells = []
  keyPresent : u.mem.keyPresent = true
  keyCount : u.mem.keyCount = s.mem.keyCount + 1
  read : ∀ i, i < 12 → u.pkgRead i
  trained : ∀ c, c < 96 → u.subTrained c
  bare : ∀ t, (u.tile t).bare

theorem State.get_of_face {s u : State} (h : s.face = u.face) {k : Nat} (hk : k ∈ faceKeys) : s.get k = u.get k := by
  obtain ⟨-, -, -, -, -, -, -, get⟩ := State.face_eq_iff.mp h
  exact get k hk

/-- Where the identity is lost the front face says so (R317, R583). -/
def State.showLost (s : State) : State := if s.get K.identityState = 2 then s.set K.frontFaultCode 7 else s

theorem State.showLost_keeps (s : State) : s.showLost.tiles = s.tiles ∧ s.showLost.mem = s.mem ∧ s.showLost.front = s.front
    ∧ s.showLost.vault = s.vault ∧ ∀ k, k ≠ K.frontFaultCode → s.showLost.get k = s.get k := by
  unfold State.showLost
  split
  · exact ⟨rfl, rfl, rfl, rfl, fun k h => (State.get_set _ _ _ _).trans (if_neg h)⟩
  · exact ⟨rfl, rfl, rfl, rfl, fun _ _ => rfl⟩

theorem State.showLost_code {s : State} (h : s.get K.identityState = 2) : s.showLost.get K.frontFaultCode = 7 := by
  rw [State.showLost, if_pos h, State.get_set, if_pos rfl]

theorem State.bootFinish_spec (s : State) (b : BootIn) (kind : Nat) : ∃ (v : State) (first : State → State),
    Laid s v ∧ (∀ u, (first u).face = u.face)
      ∧ s.bootFinish b kind = (v.showLost.becomeReady b.readyMs first).dirty Blk.dictionary := by
  refine ⟨_, _, (State.layOut_laid s).of_face ?_, fun u => ?_, rfl⟩
  · have counted : ∀ u : State, (u.bump K.coldStartCount 1).face = u.face := fun u => State.bump_face (by decide)
    split
    · rw [State.bump_face (by decide), counted, State.raise_face, State.raise_face]
      rfl
    · rw [counted, State.raise_face, State.raise_face]
      rfl
  · dsimp only
    split
    · rfl
    · exact State.writeRecord_face _ _ _ _ _

theorem State.bootFinish_booted {s u : State} {b : BootIn} {kind : Nat} (h : u.face = (s.bootFinish b kind).face) :
    Booted s b u := by
  obtain ⟨v, first, laid, silent, finish⟩ := s.bootFinish_spec b kind
  obtain ⟨asideV, cells, present, count, read, trained, bare⟩ := laid
  obtain ⟨-, quiesce, licences, licFails, meas, get⟩ := State.aside_iff.mp asideV
  have ready := State.becomeReady_calm v.showLost b.readyMs silent
  obtain ⟨tilesL, memL, frontL, vaultL, getL⟩ := v.showLost_keeps
  rw [finish, State.dirty_face] at h
  obtain ⟨boot, mem, lic, fails, ms, entries, tiles⟩ := ready.face h
  have memU : u.mem = v.mem := mem.trans memL
  refine ⟨boot, fun never => ?_, ?_, ?_, ?_, ?_, fun k hk => ?_, fun lost => ?_, memU ▸ cells, memU ▸ present, memU ▸ count,
    fun i hi => State.pkgRead_congr (congrArg Mem.pkgs memU) (read i hi),
    fun c hc => State.subTrained_congr memU (trained c hc), tiles fun t => ?_⟩
  · rw [State.get_of_face h (by decide)]
    exact State.becomeReady_open _ silent ((congrArg Front.waitQuiesce frontL).trans (quiesce.trans never))
  · rw [entries _ (by decide) (by decide), State.opened_get]
    rfl
  · exact lic.trans ((congrArg Vault.licences vaultL).trans licences)
  · exact fails.trans ((congrArg Vault.licFails vaultL).trans licFails)
  · exact ms.trans ((congrArg Vault.meas vaultL).trans meas)
  · obtain ⟨hk, notClass, notMs, notCode⟩ : k ∈ faceKeys ∧ k ≠ K.priorityClassState ∧ k ≠ K.lastReadyMs
        ∧ k ≠ K.frontFaultCode := by
      revert k
      decide
    rw [entries k hk notClass, State.opened_get, if_neg notClass, if_neg notMs, getL k notCode, get k hk]
  · rw [entries _ (by decide) (by decide), State.opened_get, if_neg (by decide), if_neg (by decide)]
    exact State.showLost_code ((get _ (by decide)).trans lost)
  · exact State.tile_congr (u := v) tilesL t ▸ bare t

/-! ### Stops of the boot sequence -/

theorem State.bootStop_spec {s u : State} {phase : BootPhase} {code : Nat} (h : u.face = (s.bootStop phase code).face) :
    u.boot = phase ∧ u.get K.frontFaultCode = code ∧ u.get K.coldMarchResult = s.get K.coldMarchResult := by
  obtain ⟨-, -, boot, -, -, -, -, get⟩ := State.face_eq_iff.mp h
  refine ⟨boot, ?_, ?_⟩
  · rw [get _ (by decide), State.bootStop, State.get_set, if_pos rfl]
  · rw [get _ (by decide), State.bootStop, State.get_set, if_neg (by decide)]
    rfl

/-- A boot that has read flash and started the vault, its flash events raised (R518, R522 steps 2 to 4). -/
def State.bootRead (s : State) (b : BootIn) : State :=
  ((s.onRecorder fun r => { r with clearing := keepBack }).bootLoad b (s.readFlash b.damaged)).flashEvents (s.readFlash b.damaged)

/-- A firmware image is not in force where its block gave nothing (R518). -/
theorem State.readFlash_bad (s : State) (b : BootIn) {i : Nat} (hi : i < 3) :
    (((s.readFlash b.damaged).firmware[i]?).map fun t => decide (t.event = 2)).getD true = true
      ↔ ¬ ImageUsable s b (i + 1) := by
  have k : i + 1 ∈ [1, 2, 3] := by
    revert i
    decide
  rw [imageUsable_iff k, Ne, not_not]
  obtain rfl | rfl | rfl : i = 0 ∨ i = 1 ∨ i = 2 := by omega
  all_goals exact decide_eq_true_iff

theorem State.bootUp_recovery {s : State} {b : BootIn} (kind : Nat) (h : ¬ ImageUsable s b 1) :
    ∃ u : State, s.bootUp b kind = u.bootStop .recovery 4 := by
  unfold State.bootUp
  dsimp only
  split
  · exact ⟨_, rfl⟩
  · rename_i good
    exact absurd ((State.readFlash_bad _ b (by omega)).mpr h) good

theorem State.bootUp_noServices {s : State} {b : BootIn} (kind : Nat) (h1 : ImageUsable s b 1)
    (h23 : ¬ (ImageUsable s b 2 ∧ ImageUsable s b 3)) : ∃ u : State, s.bootUp b kind = u.bootStop .stopped 4 := by
  unfold State.bootUp
  dsimp only
  split
  · rename_i bad
    exact absurd h1 ((State.readFlash_bad _ b (by omega)).mp bad)
  · split
    · exact ⟨_, rfl⟩
    · rename_i good
      refine absurd ((Bool.or_eq_true _ _).mpr ?_) good
      exact (not_and_or.mp h23).imp (State.readFlash_bad _ b (by omega)).mpr (State.readFlash_bad _ b (by omega)).mpr

/-- With every image in force the arrays are marched, and training or the march may stop the boot (R522, R523). -/
theorem State.bootUp_marches {s : State} {b : BootIn} (kind : Nat) (h1 : ImageUsable s b 1) (h2 : ImageUsable s b 2)
    (h3 : ImageUsable s b 3) : s.bootUp b kind = let m := (s.bootRead b).march b kind
      if b.otherArrayFail then (m.raise 0x52 []).bootStop .stopped 5
      else if !b.trainFails.isEmpty then (m.raise 0x14 []).bootStop .stopped 6
      else m.bootFinish b kind := by
  unfold State.bootUp
  dsimp only
  split
  · rename_i bad
    exact absurd h1 ((State.readFlash_bad _ b (by omega)).mp bad)
  · split
    · rename_i bad
      rcases (Bool.or_eq_true _ _).mp bad with bad | bad
      · exact absurd h2 ((State.readFlash_bad _ b (by omega)).mp bad)
      · exact absurd h3 ((State.readFlash_bad _ b (by omega)).mp bad)
    · rfl

end Sys2Proof.Machine
end

section
/-! SUPPORT. The end of a thaw (R356, R525), and the start of a cold start or module reset (R513, R524). -/

open Sys2Proof.Claims

namespace Sys2Proof.Machine

/-! ### The end of a thaw -/

/-- Each descriptor answered RESET_LOST counts once (R356); nothing else of `State.face` changes. -/
theorem State.loseEach_spec (js : List JobId) (s : State) :
    let u := js.foldl (fun s j => (s.overrule j St.resetLost).bump K.resetLostCount 1) s
    u.mem = s.mem ∧ u.front.waitQuiesce = s.front.waitQuiesce ∧ Counted s u K.resetLostCount js.length := by
  induction js generalizing s with
  | nil => exact ⟨rfl, rfl, fun _ => rfl⟩
  | cons j js ih =>
    obtain ⟨mem, quiesce, count⟩ := ih ((s.overrule j St.resetLost).bump K.resetLostCount 1)
    have face := State.overrule_face s j St.resetLost
    obtain ⟨-, mem1, -, quiesce1, -⟩ := State.face_eq_iff.mp face
    refine ⟨mem.trans mem1, quiesce.trans quiesce1, fun room => ?_⟩
    have here := State.get_of_face face (k := K.resetLostCount) (by decide)
    rw [List.length_cons] at room ⊢
    have one := State.get_bump_same (s.overrule j St.resetLost) K.resetLostCount 1 (by omega)
    exact (count (by omega)).trans (by omega)

theorem State.loseAll_spec (s : State) : s.loseAll.mem = s.mem ∧ s.loseAll.front.waitQuiesce = s.front.waitQuiesce
    ∧ Counted s s.loseAll K.resetLostCount s.allFly.length := by
  have each := State.loseEach_spec s.allFly s
  unfold State.loseAll
  dsimp only at each ⊢
  split <;> exact each

/-- A thaw whose digest holds ends ready, with module memory as it was and what was in flight answered RESET_LOST
(R356, R525). -/
theorem State.endThaw_spec (s : State) (ms : Nat) : (s.endThaw ms).boot = .ready
    ∧ (s.front.waitQuiesce = none → (s.endThaw ms).get K.priorityClassState = 0) ∧ (s.endThaw ms).get K.lastReadyMs = ms
    ∧ (s.endThaw ms).mem.selfRefresh = false ∧ (s.endThaw ms).mem.cells = s.mem.cells
    ∧ Counted s (s.endThaw ms) K.resetLostCount s.allFly.length := by
  let awake : State := { s with mem := { s.mem with selfRefresh := false } }
  obtain ⟨mem, quiesce, count⟩ := awake.loseAll_spec
  have face : (s.endThaw ms).face = (awake.loseAll.becomeReady ms id).face := by
    exact (State.dirty_face _ _).trans (State.commitAll_face _ _)
  obtain ⟨boot, memR, -, -, -, get, -⟩ := (State.becomeReady_calm awake.loseAll ms (first := id) fun _ => rfl).face face
  have memory : (s.endThaw ms).mem = { s.mem with selfRefresh := false } := memR.trans mem
  refine ⟨boot, fun never => ?_, ?_, ?_, ?_, fun room => ?_⟩
  · rw [State.get_of_face face (by decide)]
    exact State.becomeReady_open ms (fun _ => rfl) (quiesce.trans never)
  · rw [get _ (by decide) (by decide), State.opened_get]
    rfl
  · rw [memory]
  · rw [memory]
  · rw [get _ (by decide) (by decide), State.opened_get, if_neg (by decide), if_neg (by decide)]
    exact count room

/-! ### The start of a module reset -/

theorem look_filter {β : Type} (d : Nat → β) (p : Nat → Bool) (l : List (Nat × β)) (k : Nat) :
    look d (l.filter fun e => p e.1) k = if p k then look d l k else d k := by
  induction l with
  | nil => simp [look]
  | cons e l ih =>
    obtain ⟨j, v⟩ := e
    by_cases hj : j = k
    · subst hj
      by_cases hp : p j = true
      · simp [look, hp]
      · simp [ih, hp]
    · by_cases hp : p j = true
      · simp [look, hp, hj, ih]
      · simp [look, hp, hj, ih]

/-- An entry that a reset of no kind keeps reads its default once the reset has cleared the module (R524). -/
theorem State.clearAll_get {s : State} {kind : Nat} {dip : Bool} {k : Nat} (h : keepsKey 1 dip k = false)
    (hv : k ≠ K.vcoreActual) : (s.clearAll kind dip).get k = dflt k := by
  have drops : keepsKey kind dip k = false := by
    simp only [keepsKey, Bool.or_eq_false_iff] at h ⊢
    exact ⟨h.1, by simp [hv]⟩
  exact (look_filter dflt (keepsKey kind dip) s.dict k).trans (if_neg (by rw [drops]; decide))

/-- A clearing that stands is kept in its entry and nowhere else (R317). -/
theorem State.keepScan_eq (s old : State) (kind : Nat) : ∃ d : List (Nat × Nat), s.keepScan old kind = { s with dict := d }
    ∧ ∀ k, k ≠ K.scanState → look dflt d k = s.get k := by
  unfold State.keepScan
  split
  · exact ⟨put dflt s.dict K.scanState 3, rfl, fun k h => (State.get_set s _ k 3).trans (if_neg h)⟩
  · exact ⟨s.dict, rfl, fun _ _ => rfl⟩

/-- A reset of a kind is under way with its cause, the module cleared (R513, R524). -/
theorem State.startReset_restarts {s : State} (kind cause : Nat) (up : s.power.phase = .up) :
    Restarts s (s.startReset kind cause) kind cause := by
  obtain ⟨d, keep, get⟩ := (s.clearAll kind (decide (cause = 6))).keepScan_eq s kind
  rw [State.startReset, State.startWith, if_neg (not_not.mpr up)]
  dsimp only
  rw [keep]
  refine ⟨⟨⟨rfl, rfl, rfl, rfl, rfl, rfl, rfl, rfl, rfl⟩, ⟨rfl, rfl, rfl, rfl⟩, ⟨rfl, rfl⟩, ⟨rfl, rfl, rfl, rfl⟩,
    fun k drops scan _ core => ?_⟩, ?_, ?_, up⟩
  · have kept : k ∉ keptKeys := by
      simp only [keepsKey, Bool.or_eq_false_iff] at drops
      obtain ⟨⟨notKept, -⟩, -⟩ := drops
      simpa using notKept
    rw [State.get_set, if_neg fun e : k = K.lastResetCause => kept (e ▸ by decide), State.get_set,
      if_neg fun e : k = K.lastResetKind => kept (e ▸ by decide)]
    exact (get k scan).trans (State.clearAll_get drops core)
  · rw [State.get_set, if_neg (by decide), State.get_set, if_pos rfl]
  · rw [State.get_set, if_pos rfl]

end Sys2Proof.Machine
end

section
/-! The boot sequences, settled. -/

open Sys2Proof.Claims Sys2Proof.Machine

namespace Sys2Proof.Machine

/-- COLD_START and MODULE_RESET run one boot sequence (R522). -/
theorem exec_boot {b : BootIn} {x : Instr × Nat} (h : x = (.coldStart b, 1) ∨ x = (.moduleReset b, 2)) (s : State) :
    exec x.1 s = if s.mayBoot x.2 then .next ((s.bootUp b x.2).reportShort).retriesFree else .next s := by
  rcases h with rfl | rfl <;> rfl

/-- A boot that may run ends in what its sequence leaves, as far as `State.face` goes. -/
theorem boot_ends {b : BootIn} {x : Instr × Nat} (h : x = (.coldStart b, 1) ∨ x = (.moduleReset b, 2)) {s : State}
    (may : s.mayBoot x.2 = true) {P : State → Prop} (ends : ∀ u : State, u.face = (s.bootUp b x.2).face → P u) :
    Ends x.1 s P :=
  ⟨_, (exec_boot h s).trans (if_pos may), ends _ (by simp)⟩

/-- A boot whose sequence stops shows its phase and code, with the march as far as it came (R523, R583). -/
theorem boot_stops {b : BootIn} {x : Instr × Nat} (h : x = (.coldStart b, 1) ∨ x = (.moduleReset b, 2)) {s v : State}
    (may : s.mayBoot x.2 = true) {phase : BootPhase} {code : Nat} (stop : s.bootUp b x.2 = v.bootStop phase code) :
    Ends x.1 s fun u =>
      u.boot = phase ∧ u.get K.frontFaultCode = code ∧ u.get K.coldMarchResult = v.get K.coldMarchResult :=
  boot_ends h may fun _ face => State.bootStop_spec (stop ▸ face)

/-- The march sets its result, and what flash and the vault gave stands. -/
theorem Loaded.march {s u m : State} {b : BootIn} {r : BootRead} {n : Nat} (h : Loaded s b r u)
    (e : m.face = (u.set K.coldMarchResult n).face) : Loaded s b r m := by
  obtain ⟨mem, quiesce, licFails, meas, features, identity⟩ := h
  obtain ⟨-, memM, -, quiesceM, -, licFailsM, measM, get⟩ := State.face_eq_iff.mp e
  have force : m.vault.inForce = u.vault.inForce := (State.inForce_of_face e).trans rfl
  have same : ∀ k ∈ faceKeys, k ≠ K.coldMarchResult → m.get k = u.get k :=
    fun k hk hn => (get k hk).trans ((State.get_set _ _ _ _).trans (if_neg hn))
  refine ⟨memM.trans mem, quiesceM.trans quiesce, licFailsM.trans licFails, measM ▸ meas, ?_, fun begun => ?_⟩
  · rw [same _ (by decide) (by decide), features, force]
  · rw [same _ (by decide) (by decide), identity begun]

/-- The module after its march: what flash and the vault gave, and the result (R493, R522 steps 2 to 5). -/
theorem State.marched_spec (s : State) (b : BootIn) (kind : Nat) : let m := (s.bootRead b).march b kind
    Loaded s b (s.readFlash b.damaged) m ∧ m.get K.coldMarchResult = b.marchResult := by
  have face := State.march_face (s.bootRead b) b kind
  have loaded : Loaded s b (s.readFlash b.damaged) (s.bootRead b) := by
    obtain ⟨mem, quiesce, licFails, meas, features, identity⟩ := State.bootLoad_loaded
      (s.onRecorder fun r => { r with clearing := keepBack }) b (s.readFlash b.damaged) (State.flashEvents_face _ _)
    exact ⟨mem, quiesce, licFails, meas, features, identity⟩
  refine ⟨loaded.march face, ?_⟩
  rw [State.get_of_face face (by decide), State.get_set, if_pos rfl]

/-- A boot whose march and training pass leaves a module as `Fresh` says (R522). -/
theorem Booted.fresh {s m u : State} {b : BootIn} (loaded : Loaded s b (s.readFlash b.damaged) m) (booted : Booted m b u) :
    Fresh s u b := by
  have force : u.vault.inForce = m.vault.inForce := by
    rw [Vault.inForce, Vault.inForce, booted.licences, booted.licFails]
  refine ⟨booted.cells, booted.keyPresent, loaded.mem ▸ booted.keyCount, booted.read, booted.trained, ⟨_, rfl, ?_⟩, ?_, ?_, ?_⟩
  · rw [booted.meas, loaded.meas]
    rfl
  · exact booted.licFails.trans loaded.licFails
  · rw [booted.get _ (by decide), loaded.features, force]
  · exact fun t _ => booted.bare t

/-- Where every image is in force, every array passes and training succeeds, the module becomes ready. -/
theorem State.bootUp_ready {s u : State} {b : BootIn} {kind : Nat} (h1 : ImageUsable s b 1) (h2 : ImageUsable s b 2)
    (h3 : ImageUsable s b 3) (array : b.otherArrayFail = false) (train : b.trainFails = [])
    (h : u.face = (s.bootUp b kind).face) : Booted ((s.bootRead b).march b kind) b u := by
  refine State.bootFinish_booted (kind := kind) (h.trans ?_)
  rw [State.bootUp_marches kind h1 h2 h3]
  simp [array, train]

end Sys2Proof.Machine

/-- Settles O12. The boot sequence stops where firmware, an array or training fails, by the case of `bootUp` that answers
it; else `Booted` says what became of the module after its march. A thaw ends by `endThaw_spec` or starts a reset. -/
theorem bootSequences : Obligations.BootSequences := by
  unfold Obligations.BootSequences
  intro s
  refine ⟨fun b x hx => ⟨fun never => ?_, fun may => ⟨fun h1 => ?_, fun h1 h23 => ?_, fun h1 h2 h3 =>
    ⟨fun array => ?_, fun array train => ?_, fun array train => ?_⟩⟩⟩, fun ok ms awake => ?_, fun ms thawing up => ?_,
    fun ms thawing => ?_⟩
  · exact (exec_boot hx s).trans (if_neg (by simp [never]))
  · obtain ⟨v, stop⟩ := State.bootUp_recovery x.2 h1
    obtain ⟨u, run, boot, code, -⟩ := boot_stops hx may stop
    exact ⟨u, run, boot, code⟩
  · obtain ⟨v, stop⟩ := State.bootUp_noServices x.2 h1 h23
    obtain ⟨u, run, boot, code, -⟩ := boot_stops hx may stop
    exact ⟨u, run, boot, code⟩
  · have stop := (State.bootUp_marches x.2 h1 h2 h3).trans (if_pos array)
    obtain ⟨u, run, boot, code, result⟩ := boot_stops hx may stop
    refine ⟨u, run, boot, code, result.trans ?_⟩
    rw [State.get_of_face (State.raise_face _ _ _) (by decide), (State.marched_spec s b x.2).2, BootIn.marchResult,
      if_pos array]
  · have stop := (State.bootUp_marches x.2 h1 h2 h3).trans
      ((if_neg (by simp [array])).trans (if_pos (by simpa using train)))
    obtain ⟨u, run, boot, code, -⟩ := boot_stops hx may stop
    exact ⟨u, run, boot, code⟩
  · refine boot_ends hx may fun u face => ?_
    obtain ⟨loaded, result⟩ := State.marched_spec s b x.2
    have booted := State.bootUp_ready h1 h2 h3 array train face
    refine ⟨booted.boot, fun never => booted.opened (loaded.quiesce.trans never), booted.readyMs, booted.fresh loaded,
      fun begun => ?_, ?_⟩
    · have lost := loaded.identity begun
      exact ⟨(booted.get _ (by decide)).trans lost, booted.lost lost⟩
    · rw [booted.get _ (by decide), result, BootIn.marchResult_eq array]
  · exact if_pos awake
  · refine ⟨s.startReset 2 14, ?_, State.startReset_restarts 2 14 up⟩
    exact if_neg (not_not.mpr thawing)
  · refine ⟨s.endThaw ms, ?_, s.endThaw_spec ms⟩
    exact if_neg (not_not.mpr thawing)

end

section
/-! SUPPORT. What one step can do: every row answers a next state, a row that is not loud leaves the queue, module memory and
the time base, and a loud one keeps `Inv`. -/

open Sys2Proof.Claims

namespace Sys2Proof.Machine

/-- Every row answers a next state: each branch of its meaning does. The list names the rows that branch. -/
theorem exec_goes (c : Instr) (s : State) : ∃ s', exec c s = .next s' := by
  cases c
  all_goals simp only [exec,
    execMmbRetire, execVectorRetire, execMemReadReturn, execStalledIssueRetry, execScoreboardTimeout,
    execFenceComplete, execBarComplete, execRecvselComplete, execSendRetire, execTileRegWrite,
    execSendStallTimeout, execReplyCreditTimeout, execSpillReturn, execTokenInjectWait, execPclassClosed,
    execPclassReopen, execMemRequest, execMemWriteAck, execPatrolScrub, execDramTempReadout, execRefresh,
    execRetrain, execWindowCloseComplete, execStrandStall, execStrandResume, execStrandFuse, execPrimeStage,
    execPrimerSegmentDone, execResidentSwitch, execSectionAdvance, execDescFetch, execJobAdmit, execCoalTimeout,
    execD3hotEnter, execD0Restore, execFundamentalReset, execPlanLoad, execPlanUnload, execKeyInstall,
    execQuote, execLoadedPlans, execTileLoad, execInject, execWindowOpen, execWindowClose, execWindowRead,
    execWindowWrite, execFabricPacket, execIngestIndex, execEmbed, execClassify, execNearDup, execSearch,
    execShardAppend, execShardDrop, execQueryBatchWindow, execRekey, execTuneOpen, execTuneStep, execTuneRead,
    execTuneClose, execTuneOpenDigest, execTuneOpenTimeout, execBucketPartArrive, execStepDone,
    execTuneDeadline, execTuneCommit, execTuneRepeat, execTuneFail, execTuneOutcomeQuery, execTuneCoordLost,
    execRetract, execIngestSegment, execSealEnvelope, execFabricPacketArrive, execPacketLifetimeDiscard,
    execAckTimer, execReorderTimeout, execRetransmitTimeout, execTransferLossTimeout, execLinkReplay,
    execLaneLoss, execLightDetect, execPortTrained, execDiscoveryOffer, execElectionSettled, execDisc,
    execLeaderLost, execPrepare, execFabReady, execFabSwap, execMulticastRetry, execWindowReuseHold,
    execShadowCompare, execMajoritySettle, execSuspectClear, execSuspectPaceLower, execReplacement,
    execSkimSliceStart, execSkimSaveDone, execSkimRetentionPause, execSkimRestoreDone, execRedirectedAccess,
    execGovernorLoop, execGovernorRelease, execPowerSample, execFastThrottle, execThermalLimit,
    execThermalShutdown, execWarningLevelFall, execSafePacingExit, execMarginLow, execMarginRecover,
    execDipReset, execPowerUp, execInputLow, execInputHigh, execInputLost, execRailShort, execVsocLow,
    execBootWatchdog, execServiceCoreWatchdog, execColdStart, execModuleReset, execThaw, execResetRequestThaw,
    execResetRequestModule, execPwrEnLow, execPwrEnRise, execFlashBlockWrite, execPersistFlush,
    execCopyResolveA, execCopyResolveB, execCopyResolveKeep, execFirmwareInstall, execRecorderClearFar,
    execRecorderClearAll, execRecorderIntervalEnd, execRecorderFlashPage, execBjWrite, execWriteSeg,
    execWriteEnd, execSessionProve, execSessionOpenLapse, execSessionIdle, execUploadAbandon, execNotifyAck,
    execAlarmResend, execNotifyTokenRefill, execPtpSync, execPtpHoldover, execServiceButtonPress,
    execServiceButtonHold, execButtonStuck, execQuiesceRequest, execQuiesceForce, execQuiesceCancel,
    execQuiesceDrained, execTouch, execIdentifyTimeout, execLightBarSleep, execCoolantSample, execSidebandOpen,
    execModuleInsert, execSmbFruRead, execApertureWrite, execRecorderClearDone, execRailRetry,
    execTuneOpenAnswer, execOutcomeRequest, execMportLinkChange, execAddressDropExpire]
  all_goals repeat' split
  all_goals exact ⟨_, rfl⟩

/-- What the effect of a row is held to: a loud row keeps the invariant and the queue, any other leaves queue, memory and
time base as they are. -/
def RowFrame (isLoud : Bool) (s s' : State) : Prop := cond isLoud (Keeps s s') (s'.kept = s.kept)

/-- Every row keeps to its frame, by the law of its own meaning. -/
theorem exec_rowFrame (c : Instr) (s : State) : ∀ s', exec c s = .next s' → RowFrame (loud c) s s' := by
  cases c with
  | add => exact execAdd_kept _ _ _ _ _ s
  | sub => exact execSub_kept _ _ _ _ _ s
  | andR => exact execAndR_kept _ _ _ _ _ s
  | orR => exact execOrR_kept _ _ _ _ _ s
  | xorR => exact execXorR_kept _ _ _ _ _ s
  | shl => exact execShl_kept _ _ _ _ _ s
  | shr => exact execShr_kept _ _ _ _ _ s
  | sra => exact execSra_kept _ _ _ _ _ s
  | mul => exact execMul_kept _ _ _ _ _ s
  | slt => exact execSlt_kept _ _ _ _ _ s
  | sltu => exact execSltu_kept _ _ _ _ _ s
  | minR => exact execMinR_kept _ _ _ _ _ s
  | maxR => exact execMaxR_kept _ _ _ _ _ s
  | minu => exact execMinu_kept _ _ _ _ _ s
  | maxu => exact execMaxu_kept _ _ _ _ _ s
  | addi => exact execAddi_kept _ _ _ _ s
  | andi => exact execAndi_kept _ _ _ _ s
  | ori => exact execOri_kept _ _ _ _ s
  | xori => exact execXori_kept _ _ _ _ s
  | shli => exact execShli_kept _ _ _ _ s
  | shri => exact execShri_kept _ _ _ _ s
  | srai => exact execSrai_kept _ _ _ _ s
  | muli => exact execMuli_kept _ _ _ _ s
  | slti => exact execSlti_kept _ _ _ _ s
  | sltui => exact execSltui_kept _ _ _ _ s
  | mini => exact execMini_kept _ _ _ _ s
  | maxi => exact execMaxi_kept _ _ _ _ s
  | minui => exact execMinui_kept _ _ _ _ s
  | maxui => exact execMaxui_kept _ _ _ _ s
  | lb => exact execLb_kept _ _ _ _ s
  | lh => exact execLh_kept _ _ _ _ s
  | lw => exact execLw_kept _ _ _ _ s
  | lbu => exact execLbu_kept _ _ _ _ s
  | lhu => exact execLhu_kept _ _ _ _ s
  | sb => exact execSb_kept _ _ _ _ s
  | sh => exact execSh_kept _ _ _ _ s
  | sw => exact execSw_kept _ _ _ _ s
  | beq => exact execBeq_kept _ _ _ _ s
  | bne => exact execBne_kept _ _ _ _ s
  | blt => exact execBlt_kept _ _ _ _ s
  | bge => exact execBge_kept _ _ _ _ s
  | bltu => exact execBltu_kept _ _ _ _ s
  | bgeu => exact execBgeu_kept _ _ _ _ s
  | jal => exact execJal_kept _ _ _ s
  | jr => exact execJr_kept _ _ _ _ s
  | lui => exact execLui_kept _ _ _ _ s
  | lseti => exact execLseti_kept _ _ _ s
  | lsetr => exact execLsetr_kept _ _ _ _ s
  | loopC => exact execLoopC_kept _ _ _ s
  | linc => exact execLinc_kept _ _ _ s
  | lget => exact execLget_kept _ _ _ _ s
  | lbz => exact execLbz_kept _ _ _ s
  | toki => exact execToki_kept _ _ s
  | tokr => exact execTokr_kept _ _ s
  | tokl => exact execTokl_kept _ _ s
  | tstat => exact execTstat_kept _ _ s
  | send => exact execSend_kept _ _ s
  | recvsel => exact execRecvsel_kept _ _ s
  | qrel => exact execQrel_kept _ _ s
  | mmb => exact execMmb_kept _ _ s
  | vadd => exact execVadd_kept _ _ s
  | vsub => exact execVsub_kept _ _ s
  | vmul => exact execVmul_kept _ _ s
  | vfma => exact execVfma_kept _ _ s
  | vmin => exact execVmin_kept _ _ s
  | vmax => exact execVmax_kept _ _ s
  | vabs => exact execVabs_kept _ _ s
  | vneg => exact execVneg_kept _ _ s
  | vcmplt => exact execVcmplt_kept _ _ s
  | vcmpeq => exact execVcmpeq_kept _ _ s
  | vsel => exact execVsel_kept _ _ s
  | vbcast => exact execVbcast_kept _ _ s
  | viadd => exact execViadd_kept _ _ s
  | vimul => exact execVimul_kept _ _ s
  | vshift => exact execVshift_kept _ _ s
  | vlogic => exact execVlogic_kept _ _ s
  | vpopc => exact execVpopc_kept _ _ s
  | vcvt => exact execVcvt_kept _ _ s
  | vqb => exact execVqb_kept _ _ s
  | vdqb => exact execVdqb_kept _ _ s
  | vexp => exact execVexp_kept _ _ s
  | vexp2 => exact execVexp2_kept _ _ s
  | vlog => exact execVlog_kept _ _ s
  | vlog2 => exact execVlog2_kept _ _ s
  | vrsqrt => exact execVrsqrt_kept _ _ s
  | vrecip => exact execVrecip_kept _ _ s
  | vsqrt => exact execVsqrt_kept _ _ s
  | vsigm => exact execVsigm_kept _ _ s
  | vtanh => exact execVtanh_kept _ _ s
  | vgelu => exact execVgelu_kept _ _ s
  | vsilu => exact execVsilu_kept _ _ s
  | vsoftplus => exact execVsoftplus_kept _ _ s
  | vrsum => exact execVrsum_kept _ _ s
  | vrmax => exact execVrmax_kept _ _ s
  | vrmin => exact execVrmin_kept _ _ s
  | vrargmax => exact execVrargmax_kept _ _ s
  | vrargmin => exact execVrargmin_kept _ _ s
  | vld => exact execVld_kept _ _ s
  | vst => exact execVst_kept _ _ s
  | vperm => exact execVperm_kept _ _ s
  | hset => exact execHset_kept _ _ s
  | hget => exact execHget_kept _ _ s
  | hswap => exact execHswap_kept _ _ s
  | hfill => exact execHfill_kept _ _ s
  | hunfill => exact execHunfill_kept _ _ s
  | hinv => exact execHinv_kept _ _ s
  | fence => exact execFence_kept _ _ _ _ _ _ s
  | bar => exact execBar_kept _ _ _ s
  | halt => exact execHalt_kept _ _ _ _ s
  | csrr => exact execCsrr_kept _ _ _ _ s
  | csrw => exact execCsrw_kept _ _ _ _ s
  | trap => exact execTrap_kept _ _ _ _ s
  | mmbRetire => exact execMmbRetire_kept _ _ s
  | vectorRetire => exact execVectorRetire_kept _ s
  | memReadReturn => exact execMemReadReturn_keeps _ _ s
  | stalledIssueRetry => exact execStalledIssueRetry_kept _ s
  | scoreboardTimeout => exact execScoreboardTimeout_kept _ _ s
  | fenceComplete => exact execFenceComplete_kept _ s
  | barComplete => exact execBarComplete_kept _ s
  | recvselComplete => exact execRecvselComplete_kept _ s
  | sendRetire => exact execSendRetire_kept _ s
  | mstatClear => exact execMstatClear_kept _ _ s
  | conflictClear => exact execConflictClear_kept _ _ _ s
  | sbfaultClear => exact execSbfaultClear_kept _ _ s
  | fxfailClear => exact execFxfailClear_kept _ _ s
  | skfailClear => exact execSkfailClear_kept _ _ s
  | snfset => exact execSnfset_kept _ _ s
  | sncountAdd => exact execSncountAdd_kept _ _ _ s
  | ckptEpochWrite => exact execCkptEpochWrite_kept _ _ s
  | sucfgWrite => exact execSucfgWrite_kept _ _ _ s
  | qctlWrite => exact execQctlWrite_kept _ _ _ s
  | tunerep => exact execTunerep_kept _ _ s
  | chkstep => exact execChkstep_kept _ _ s
  | tileRegWrite => exact execTileRegWrite_kept _ _ _ s
  | tokenArrive => exact execTokenArrive_kept _ s
  | tokenRetry => exact execTokenRetry_kept _ s
  | suFire => exact execSuFire_kept _ _ s
  | msgDeliver => exact execMsgDeliver_kept _ s
  | sendReoffer => exact execSendReoffer_kept _ s
  | sendStallTimeout => exact execSendStallTimeout_kept _ _ s
  | replyCreditTimeout => exact execReplyCreditTimeout_kept _ _ s
  | spillReturn => exact execSpillReturn_kept _ _ _ s
  | tokenInjectWait => exact execTokenInjectWait_kept _ s
  | pclassClosed => exact execPclassClosed_kept s
  | pclassReopen => exact execPclassReopen_kept s
  | memRequest => exact execMemRequest_keeps _ s
  | memWriteAck => exact execMemWriteAck_keeps _ s
  | patrolScrub => exact execPatrolScrub_keeps _ s
  | dramTempReadout => exact execDramTempReadout_kept _ s
  | refresh => exact execRefresh_kept _ s
  | retrain => exact execRetrain_kept _ _ s
  | windowWriteLand => exact execWindowWriteLand_keeps _ _ _ _ s
  | windowCloseComplete => exact execWindowCloseComplete_kept _ s
  | strandStall => exact execStrandStall_kept _ _ s
  | strandResume => exact execStrandResume_kept _ s
  | strandFuse => exact execStrandFuse_kept _ s
  | primeStage => exact execPrimeStage_kept _ _ s
  | primerSegmentDone => exact execPrimerSegmentDone_kept _ _ _ s
  | residentSwitch => exact execResidentSwitch_kept _ s
  | sectionAdvance => exact execSectionAdvance_kept _ s
  | submit => exact execSubmit_kept _ _ _ _ s
  | invalidate => exact execInvalidate_kept _ _ _ s
  | abortD => exact execAbortD_kept _ _ _ _ s
  | cack => exact execCack_kept _ _ _ _ s
  | descFetch => exact execDescFetch_kept _ _ _ s
  | jobAdmit => exact execJobAdmit_kept _ _ _ _ _ _ _ _ s
  | completionCommit => exact execCompletionCommit_kept _ _ _ s
  | coalTimeout => exact execCoalTimeout_kept _ _ s
  | chtblBaseWrite => exact execChtblBaseWrite_kept _ s
  | chtblCountWrite => exact execChtblCountWrite_kept _ s
  | d3hotEnter => exact execD3hotEnter_kept s
  | d0Restore => exact execD0Restore_kept s
  | functionLevelReset => exact execFunctionLevelReset_keeps s
  | hotReset => exact execHotReset_keeps s
  | fundamentalReset => exact execFundamentalReset_keeps s
  | planLoad => exact execPlanLoad_kept _ _ _ s
  | planUnload => exact execPlanUnload_kept _ _ s
  | keyInstall => exact execKeyInstall_kept _ _ s
  | quote => exact execQuote_kept _ _ _ s
  | loadedPlans => exact execLoadedPlans_kept _ _ s
  | tileLoad => exact execTileLoad_kept _ _ _ s
  | inject => exact execInject_kept _ _ _ s
  | windowOpen => exact execWindowOpen_kept _ _ s
  | windowClose => exact execWindowClose_kept _ _ s
  | windowRead => exact execWindowRead_kept _ _ s
  | windowWrite => exact execWindowWrite_keeps _ _ _ s
  | fabricPacket => exact execFabricPacket_kept _ _ _ s
  | ingestIndex => exact execIngestIndex_kept _ _ _ s
  | embed => exact execEmbed_kept _ _ _ s
  | classify => exact execClassify_kept _ _ _ s
  | nearDup => exact execNearDup_kept _ _ _ s
  | search => exact execSearch_kept _ _ _ s
  | shardAppend => exact execShardAppend_kept _ _ _ s
  | shardDrop => exact execShardDrop_kept _ _ s
  | queryBatchWindow => exact execQueryBatchWindow_kept _ _ s
  | rekey => exact execRekey_kept _ _ _ s
  | tuneOpen => exact execTuneOpen_kept _ _ s
  | tuneStep => exact execTuneStep_keeps _ _ s
  | tuneRead => exact execTuneRead_kept _ _ s
  | tuneClose => exact execTuneClose_kept _ _ s
  | tuneOpenDigest => exact execTuneOpenDigest_kept _ _ _ s
  | tuneOpenTimeout => exact execTuneOpenTimeout_kept _ _ s
  | bucketPartArrive => exact execBucketPartArrive_kept _ _ s
  | stepDone => exact execStepDone_kept _ _ _ _ _ s
  | tuneDeadline => exact execTuneDeadline_kept _ _ s
  | tuneCommit => exact execTuneCommit_kept _ _ s
  | tuneRepeat => exact execTuneRepeat_kept _ _ _ s
  | tuneFail => exact execTuneFail_kept _ _ _ s
  | tuneOutcomeQuery => exact execTuneOutcomeQuery_kept _ _ _ s
  | tuneCoordLost => exact execTuneCoordLost_kept _ _ s
  | retract => exact execRetract_kept _ s
  | ingestSegment => exact execIngestSegment_keeps _ _ _ _ _ _ s
  | sealEnvelope => exact execSealEnvelope_kept _ _ s
  | fabricPacketArrive => exact execFabricPacketArrive_keeps _ _ _ s
  | packetLifetimeDiscard => exact execPacketLifetimeDiscard_kept _ _ s
  | ackTimer => exact execAckTimer_kept _ _ s
  | fabAck => exact execFabAck_kept _ _ _ s
  | fabNack => exact execFabNack_kept _ _ _ _ s
  | fabStatus => exact execFabStatus_kept _ _ _ _ s
  | reorderTimeout => exact execReorderTimeout_kept _ _ _ s
  | retransmitTimeout => exact execRetransmitTimeout_kept _ _ _ s
  | transferLossTimeout => exact execTransferLossTimeout_kept _ _ _ s
  | linkReplay => exact execLinkReplay_kept _ s
  | laneLoss => exact execLaneLoss_kept _ _ s
  | lightDetect => exact execLightDetect_kept _ s
  | portTrained => exact execPortTrained_kept _ _ s
  | discoveryOffer => exact execDiscoveryOffer_kept s
  | electionSettled => exact execElectionSettled_kept _ s
  | disc => exact execDisc_kept _ s
  | leaderLost => exact execLeaderLost_kept _ s
  | prepare => exact execPrepare_kept s
  | fabReady => exact execFabReady_kept _ s
  | fabSwap => exact execFabSwap_kept s
  | fabricEpochRequest => exact execFabricEpochRequest_kept _ s
  | multicastRetry => exact execMulticastRetry_kept _ _ s
  | wclose => exact execWclose_kept _ _ s
  | wcloseAck => exact execWcloseAck_kept _ _ s
  | windowReuseHold => exact execWindowReuseHold_kept _ _ s
  | shadowCompare => exact execShadowCompare_kept _ _ _ s
  | majoritySettle => exact execMajoritySettle_kept _ _ s
  | checkClose => exact execCheckClose_kept _ _ s
  | suspectClear => exact execSuspectClear_kept _ _ s
  | suspectPaceLower => exact execSuspectPaceLower_kept _ _ s
  | replacement => exact execReplacement_kept _ _ s
  | frostTile => exact execFrostTile_kept _ s
  | unfrostTile => exact execUnfrostTile_kept _ s
  | skimSliceStart t target => exact execSkimSliceStart_kept t target s
  | skimSaveDone => exact execSkimSaveDone_kept _ s
  | skimRetentionPause => exact execSkimRetentionPause_kept _ _ _ s
  | skimRestoreDone => exact execSkimRestoreDone_kept _ _ s
  | redirectedAccess => exact execRedirectedAccess_kept _ _ _ _ s
  | bankRestore => exact execBankRestore_kept _ s
  | vcoreSetpoint => exact execVcoreSetpoint_kept _ s
  | forceSafePacing => exact execForceSafePacing_kept _ s
  | powerLimit => exact execPowerLimit_kept _ s
  | tileTrim => exact execTileTrim_kept _ _ s
  | tilePace => exact execTilePace_kept _ _ s
  | governorLoop => exact execGovernorLoop_kept _ _ s
  | governorRelease => exact execGovernorRelease_kept _ s
  | powerSample => exact execPowerSample_kept _ s
  | fastThrottle => exact execFastThrottle_kept _ _ s
  | thermalLimit => exact execThermalLimit_kept _ s
  | thermalShutdown => exact execThermalShutdown_keeps _ s
  | warningLevelFall => exact execWarningLevelFall_kept _ _ s
  | safePacingExit => exact execSafePacingExit_kept _ _ s
  | marginLow => exact execMarginLow_kept _ _ s
  | marginRecover => exact execMarginRecover_kept _ _ _ s
  | dipReset => exact execDipReset_keeps _ _ _ s
  | powerUp => exact execPowerUp_keeps _ _ _ s
  | inputLow => exact execInputLow_kept _ s
  | inputHigh => exact execInputHigh_kept _ s
  | inputLost => exact execInputLost_keeps _ s
  | railShort => exact execRailShort_keeps _ s
  | vsocLow => exact execVsocLow_keeps _ _ s
  | bootWatchdog => exact execBootWatchdog_keeps _ s
  | serviceCoreWatchdog => exact execServiceCoreWatchdog_keeps _ s
  | coldStart => exact execColdStart_keeps _ s
  | moduleReset => exact execModuleReset_keeps _ s
  | thaw => exact execThaw_keeps _ _ s
  | resetRequestThaw => exact execResetRequestThaw_keeps _ s
  | resetRequestModule => exact execResetRequestModule_keeps _ s
  | pwrEnLow => exact execPwrEnLow_keeps _ s
  | pwrEnRise => exact execPwrEnRise_keeps _ s
  | flashBlockWrite => exact execFlashBlockWrite_kept _ _ s
  | persistFlush => exact execPersistFlush_kept s
  | copyResolveA => exact execCopyResolveA_kept _ s
  | copyResolveB => exact execCopyResolveB_kept _ s
  | copyResolveKeep => exact execCopyResolveKeep_kept _ s
  | firmwareInstall => exact execFirmwareInstall_keeps _ _ s
  | ownerClaim => exact execOwnerClaim_kept _ _ s
  | ownerRelease => exact execOwnerRelease_keeps _ _ s
  | keyRemove => exact execKeyRemove_kept _ s
  | licenceInstall => exact execLicenceInstall_kept _ _ _ s
  | commitSvn => exact execCommitSvn_kept _ s
  | quoteRequest => exact execQuoteRequest_kept _ s
  | scanClear => exact execScanClear_kept _ _ s
  | vectorDim => exact execVectorDim_kept _ s
  | rolePlan => exact execRolePlan_kept _ _ s
  | defaultsRestore => exact execDefaultsRestore_kept _ s
  | recorderClearFar => exact execRecorderClearFar_kept _ s
  | recorderClearAll => exact execRecorderClearAll_kept _ s
  | recorderIntervalEnd => exact execRecorderIntervalEnd_kept s
  | recorderFlashPage => exact execRecorderFlashPage_kept s
  | extest => exact execExtest_keeps s
  | idcode => exact execIdcode_keeps s
  | samplePreload => exact execSamplePreload_keeps s
  | clamp => exact execClamp_keeps s
  | highz => exact execHighz_keeps s
  | inscan => exact execInscan_keeps s
  | bypass => exact execBypass_keeps s
  | bjRead => exact execBjRead_kept _ s
  | bjWrite => exact execBjWrite_kept _ s
  | readSeg => exact execReadSeg_kept _ s
  | writeSeg => exact execWriteSeg_kept _ s
  | writeEnd => exact execWriteEnd_kept _ s
  | sessionOpen => exact execSessionOpen_kept _ _ _ _ s
  | sessionProve => exact execSessionProve_kept _ _ s
  | sessionClose => exact execSessionClose_kept _ s
  | sessionOpenLapse => exact execSessionOpenLapse_kept _ _ s
  | sessionIdle => exact execSessionIdle_kept _ _ s
  | uploadAbandon => exact execUploadAbandon_kept _ _ s
  | notifyAck => exact execNotifyAck_kept _ s
  | alarmResend => exact execAlarmResend_kept _ _ s
  | notifyTokenRefill => exact execNotifyTokenRefill_kept _ s
  | ptpSync => exact execPtpSync_kept _ _ _ _ s
  | ptpHoldover => exact execPtpHoldover_kept _ s
  | serviceButtonPress => exact execServiceButtonPress_kept _ _ s
  | serviceButtonHold => exact execServiceButtonHold_kept _ _ s
  | buttonStuck => exact execButtonStuck_kept _ s
  | quiesceRequest => exact execQuiesceRequest_kept _ s
  | quiesceForce => exact execQuiesceForce_kept _ s
  | quiesceCancel => exact execQuiesceCancel_kept _ s
  | quiesceDrained => exact execQuiesceDrained_kept s
  | touch => exact execTouch_kept _ s
  | identify => exact execIdentify_kept _ s
  | identifyTimeout => exact execIdentifyTimeout_kept _ s
  | lightBarSleep => exact execLightBarSleep_kept _ s
  | coolantSample => exact execCoolantSample_kept _ _ _ _ _ _ s
  | sidebandOpen => exact execSidebandOpen_kept _ _ s
  | moduleInsert => exact execModuleInsert_kept _ s
  | smbFruRead => exact execSmbFruRead_kept s
  | apertureWrite => exact execApertureWrite_kept _ _ _ s
  | recorderClearDone => exact execRecorderClearDone_kept s
  | railRetry => exact execRailRetry_keeps _ _ s
  | tuneOpenAnswer => exact execTuneOpenAnswer_kept _ _ s
  | outcomeRequest => exact execOutcomeRequest_kept _ _ _ s
  | mportLinkChange => exact execMportLinkChange_kept _ s
  | consoleAttach => exact execConsoleAttach_kept _ s
  | addressDropExpire => exact execAddressDropExpire_kept _ _ s

theorem RowFrame.keeps {isLoud : Bool} {s s' : State} (h : RowFrame isLoud s s') : Keeps s s' := by
  cases isLoud
  case false => exact keeps_of_kept h
  case true => exact h

theorem exec_kept {c : Instr} (quiet : loud c = false) {s s' : State} (h : exec c s = .next s') : s'.kept = s.kept := by
  have frame := exec_rowFrame c s s' h
  rwa [RowFrame, quiet] at frame

theorem exec_keeps {c : Instr} {s s' : State} (h : exec c s = .next s') : Keeps s s' :=
  (exec_rowFrame c s s' h).keeps

theorem State.kept_iff {s u : State} : s.kept = u.kept ↔
    s.pending = u.pending ∧ s.mem.cells = u.mem.cells ∧ s.timeBase = u.timeBase := by
  simp only [State.kept, Prod.mk.injEq]

/-- An idle nanosecond counts the time base on and leaves the queue and module memory (R52). -/
theorem State.tick_kept (s : State) : s.tick.kept = (s.pending, s.mem.cells, (s.timeBase + 1) % 2 ^ 64) := by
  simp only [State.tick, State.clearNext_kept, State.callRetrain_kept, State.beats_kept, State.seekAll_kept,
    State.signQuote_kept, State.kept_mk]

end Sys2Proof.Machine
end

section
/-! Steps and their frame, settled. -/

open Sys2Proof.Claims Sys2Proof.Machine

namespace Sys2Proof.Machine

theorem step_nil {s : State} (h : s.pending = []) : step s = .next s.tick := by
  rw [step, h]

theorem step_cons {s : State} {c : Instr} {q : List Instr} (h : s.pending = c :: q) : step s = exec c (s.withPending q) := by
  rw [step, h]

end Sys2Proof.Machine

/-- Settles O26. On an empty queue by what `tick` keeps; else the front command answers a next state and keeps to its row's
frame. -/
theorem stepInvariant : Obligations.StepInvariant := by
  unfold Obligations.StepInvariant
  intro s
  cases queue : s.pending with
  | nil =>
    obtain ⟨pending, cells, clock⟩ : _ ∧ _ ∧ _ := by simpa only [State.kept, Prod.mk.injEq] using s.tick_kept
    exact ⟨s.tick, step_nil queue, fun wf => (congrArg Memory.wf cells).mpr wf, pending.trans queue,
      .inr (.inl ⟨rfl, clock⟩)⟩
  | cons c q =>
    obtain ⟨s', run⟩ := exec_goes c (s.withPending q)
    obtain ⟨pending, wf, clock⟩ := exec_keeps run
    exact ⟨s', (step_cons queue).trans run, wf, pending, clock.imp_right .inr⟩

/-- Settles O27. A row that is not loud answers a next state and leaves `State.kept`. -/
theorem memoryFrame : Obligations.MemoryFrame := by
  unfold Obligations.MemoryFrame
  intro c s quiet
  obtain ⟨s', run⟩ := exec_goes c s
  obtain ⟨pending, cells, clock⟩ := State.kept_iff.mp (exec_kept quiet run)
  exact ⟨s', run, fun a => congrArg (fun l => look memDflt l a) cells, cells, clock, pending⟩

/-- Settles O24. A queue that has a front runs it by definition of `step`; on an empty one `tick` passes. -/
theorem stepRunsTheFront : Obligations.StepRunsTheFront := by
  unfold Obligations.StepRunsTheFront
  refine ⟨fun c q s => rfl, fun s empty => ?_⟩
  obtain ⟨pending, cells, clock⟩ : _ ∧ _ ∧ _ := by simpa only [State.kept, Prod.mk.injEq] using s.tick_kept
  exact ⟨s.tick, step_nil empty, pending.trans empty, clock, cells⟩

end

section
/-! Writes of entries with a row of their own, refuted: force_safe_pacing is not persisted (R31), so a write of it leaves
nothing waiting for flash. -/

open Sys2Proof Sys2Proof.Claims Sys2Proof.Machine

namespace Sys2Proof.Machine

/-- A write of an entry that is not persisted leaves the boot flash alone. -/
theorem State.setEntry_flash {s : State} {k : Nat} (h : isPersisted k = false) (v : Nat) :
    (s.setEntry k v).flash = s.flash := by
  unfold State.setEntry
  rw [h]
  split <;> rfl

/-- A write of force_safe_pacing that passes its checks leaves the boot flash alone: the entry is not persisted (R31). -/
theorem execForceSafePacing_flash {s s' : State} {r : BjReq} {x : Session} (pass : Passes s r K.forceSafePacing x)
    (run : exec (.forceSafePacing r) s = .next s') : s'.flash = s.flash := by
  obtain ⟨⟨h1, h2, h3, h4, h5, h6, h7, h8, h9⟩, hk, head, ends, image, value⟩ := pass
  have row : exec (.forceSafePacing r) s
      = .next (s.rowWrite K.forceSafePacing r (applied fun v s => s.setEntry K.forceSafePacing v)) := rfl
  rw [State.rowWrite_passes _ h1 h2 h3 h4 h5 h6 h7 h8 h9 hk head ends image value] at row
  have same := Host.Outcome.next.inj (run.symm.trans row)
  exact (congrArg State.flash same).trans (State.setEntry_flash (by decide) _)

/-- A session of the owner. -/
def ownerSession : Session := ⟨7, 1, .owner, [], none, none⟩

/-- A ready module whose M-port link is up, with the owner's session open. -/
def ownedModule : State := { State.reset with
  boot := .ready
  dict := [(K.mportLink, 1)]
  mgmt := { Mgmt.reset with sessions := [ownerSession] } }

/-- The owner writes 1 to force_safe_pacing. -/
def paceRequest : BjReq :=
  { ip := 1, console := false, wellFormed := true, tagOk := true, digestOk := true, op := 2, session := 7, seq := 1
    index := 0x2000, sub := 5, offset := 0, len := 1, payload := [1] }

theorem paceRequest_passes : Passes ownedModule paceRequest K.forceSafePacing ownerSession := by
  have session : InSession ownedModule paceRequest ownerSession :=
    ⟨by decide, by decide, by decide, rfl, by decide, by decide, rfl, rfl, nofun⟩
  exact ⟨session, by decide, by decide, by decide, by decide, by decide⟩

end Sys2Proof.Machine

/-- Refutes O57: a write of force_safe_pacing that changes it does not put the dictionary's block among those that wait for
flash, since R31 does not persist the entry. The owner of a ready module with nothing waiting writes 1 over 0. -/
theorem not_entryRows : ¬ Obligations.EntryRows := by
  unfold Obligations.EntryRows Claims.OperatingPoint
  intro h
  obtain ⟨point, -⟩ := h.1 ownedModule paceRequest ownerSession
  obtain ⟨s1, ⟨-, -, waits, -⟩, run⟩ := point (.forceSafePacing paceRequest, K.forceSafePacing) (.inr (.inl rfl))
    paceRequest_passes
  have changed : ownedModule.get K.forceSafePacing ≠ written paceRequest := by decide
  have flash := execForceSafePacing_flash paceRequest_passes run
  have none : Blk.dictionary ∉ s1.flash.waiting := by
    rw [show s1.flash = ownedModule.flash from flash]
    decide
  exact none (waits changed)

end

section
/-! SUPPORT. What telling of an event, a local supply that is trimmed anew, and the recorder's samples leave of a state.
`State.substance` holds all that the claims about supply and governor read. -/

open Sys2Proof

namespace Sys2Proof.Machine

/-- The entries that such operations write: the counters of notifications and records, and tile_trim. -/
def sideKey (k : Nat) : Bool :=
  [K.notifySeq, K.notifySuppressed, K.notifyDropped, K.recorderGaps].contains k || (0x3200 ≤ k / 256 && k / 256 < 0x3218)

/-- A state but for what they write: notifications, records, output, blocks that wait for flash, free values drawn, and the
entries of `sideKey`. Of the recorder the count of margins below the limit stays. -/
def State.substance (s : State) : State × Nat × (Nat → Nat) :=
  ({ s with freeCount := 0, dict := [], out := [], flash := Flash.reset, mgmt := Mgmt.reset, recorder := Recorder.reset },
    s.recorder.marginLow, fun k => if sideKey k then 0 else s.get k)

theorem State.substance_iff {s u : State} : s.substance = u.substance ↔
    s.substance.1 = u.substance.1 ∧ s.recorder.marginLow = u.recorder.marginLow
      ∧ ∀ k, sideKey k = false → s.get k = u.get k := by
  rw [State.substance, State.substance, Prod.mk.injEq, Prod.mk.injEq, funext_iff]
  refine and_congr_right fun _ => and_congr_right fun _ => forall_congr' fun k => ?_
  cases sideKey k <;> simp

theorem State.get_of_substance {s u : State} (h : s.substance = u.substance) {k : Nat} (hk : sideKey k = false) :
    s.get k = u.get k :=
  (State.substance_iff.mp h).2.2 k hk

theorem State.marginLow_of_substance {s u : State} (h : s.substance = u.substance) :
    s.recorder.marginLow = u.recorder.marginLow :=
  congrArg (fun v => v.2.1) h

theorem State.power_of_substance {s u : State} (h : s.substance = u.substance) : s.power = u.power :=
  congrArg (fun v => v.1.power) h

theorem State.mem_of_substance {s u : State} (h : s.substance = u.substance) : s.mem = u.mem :=
  congrArg (fun v => v.1.mem) h

theorem State.tiles_of_substance {s u : State} (h : s.substance = u.substance) : s.tiles = u.tiles :=
  congrArg (fun v => v.1.tiles) h

theorem State.strands_of_substance {s u : State} (h : s.substance = u.substance) : s.strands = u.strands :=
  congrArg (fun v => v.1.strands) h

/-! ### What it is made of -/

/-- An update of the parts that it leaves out. -/
@[simp] theorem State.aside_substance (s : State) (n : Nat) (o : List Out) (f : Flash) (m : Mgmt) :
    ({ s with freeCount := n, out := o, flash := f, mgmt := m } : State).substance = s.substance := rfl

theorem State.recorder_substance {s : State} {r : Recorder} (h : r.marginLow = s.recorder.marginLow) :
    ({ s with recorder := r } : State).substance = s.substance :=
  State.substance_iff.mpr ⟨rfl, h, fun _ _ => rfl⟩

theorem State.set_substance {s : State} {k : Nat} (h : sideKey k = true) (v : Nat) : (s.set k v).substance = s.substance := by
  refine State.substance_iff.mpr ⟨rfl, rfl, fun j hj => ?_⟩
  rw [State.get_set, if_neg]
  rintro rfl
  rw [h] at hj
  cases hj

theorem State.bump_substance {s : State} {k : Nat} (h : sideKey k = true) (n : Nat) :
    (s.bump k n).substance = s.substance := State.set_substance h _

/-- An entry written over with the value it has. -/
theorem State.set_get_substance (s : State) (k : Nat) : (s.set k (s.get k)).substance = s.substance := by
  refine State.substance_iff.mpr ⟨rfl, rfl, fun j _ => ?_⟩
  rw [State.get_set]
  split
  · rename_i e
    rw [e]
  · rfl

theorem State.onPower_substance_congr {s u : State} (h : s.substance = u.substance) (f : Power → Power) :
    (s.onPower f).substance = (u.onPower f).substance := by
  obtain ⟨rest, low, get⟩ := State.substance_iff.mp h
  refine State.substance_iff.mpr ⟨?_, low, get⟩
  exact congrArg (fun v : State => { v with power := f v.power }) rest

@[simp] theorem State.ite_substance (c : Prop) [Decidable c] (a b : State) :
    (if c then a else b).substance = if c then a.substance else b.substance := apply_ite State.substance c a b

/-! ### Records and notifications -/

@[simp] theorem State.emit_substance (s : State) (o : Out) : (s.emit o).substance = s.substance := rfl
@[simp] theorem State.draw_substance (s : State) : s.draw.2.substance = s.substance := rfl
@[simp] theorem State.dirty_substance (s : State) (b : Nat) : (s.dirty b).substance = s.substance := by
  unfold State.dirty
  split <;> rfl

theorem Recorder.enqueue_marginLow (r : Recorder) (b : List Byte) : (r.enqueue b).marginLow = r.marginLow := by
  unfold Recorder.enqueue
  split
  · rfl
  · split <;> rfl

@[simp] theorem State.writeRecord_substance (s : State) (ty st fl : Nat) (p : List Byte) :
    (s.writeRecord ty st fl p).substance = s.substance := by
  unfold State.writeRecord
  dsimp only
  split
  · rw [State.bump_substance (by decide)]
    exact State.recorder_substance (Recorder.enqueue_marginLow _ _)
  · exact State.recorder_substance (Recorder.enqueue_marginLow _ _)

@[simp] theorem State.record_substance (s : State) (ty : Nat) (p : List Byte) : (s.record ty p).substance = s.substance := by
  unfold State.record
  dsimp only
  split
  · exact State.recorder_substance rfl
  · exact State.writeRecord_substance _ _ _ _ _

@[simp] theorem State.noticed_substance (s : State) (code : Nat) : (s.noticed code).substance = s.substance :=
  State.recorder_substance rfl

@[simp] theorem State.setBucket_substance (s : State) (code : Nat) (b : Bucket) :
    (s.setBucket code b).substance = s.substance := rfl

@[simp] theorem State.nextNseq_substance (s : State) : s.nextNseq.2.substance = s.substance :=
  State.set_substance (by decide) _

@[simp] theorem State.alarmRecord_substance (s : State) (code n : Nat) (sent : Bool) (arg : List Byte) :
    (s.alarmRecord code n sent arg).substance = s.substance := State.record_substance _ _ _

@[simp] theorem State.transmit_substance (s : State) (n : Note) : (s.transmit n).substance = s.substance := by
  refine (foldl_view State.substance (fun s i _ => ?_) _).trans rfl
  dsimp only
  split <;> simp

@[simp] theorem State.post_substance (s : State) (n : Note) : (s.post n).substance = s.substance := by
  unfold State.post
  dsimp only
  split
  · simp
  · split
    · rfl
    · exact State.bump_substance (by decide) _

/-- An event that is raised changes nothing else (R549 to R551). -/
@[simp] theorem State.raise_substance (s : State) (code : Nat) (arg : List Byte) : (s.raise code arg).substance = s.substance := by
  have suppressed : ∀ s : State, (s.bump K.notifySuppressed 1).substance = s.substance :=
    fun _ => State.bump_substance (by decide) _
  simp [State.raise, suppressed]

@[simp] theorem State.sample_substance (s : State) (q : Nat) (v : Int) (b : Nat) (tile : Nat) :
    (s.sample q v b tile).substance = s.substance := State.recorder_substance rfl

/-! ### Trims -/

theorem sideKey_tileTrim {t : Nat} (ht : t < 624) : sideKey (K.tileTrim t) = true := by
  have row : rowOf t < 24 := Nat.div_lt_of_lt_mul ht
  have pos : posOf t < 256 := by
    unfold posOf
    split <;> omega
  have index : K.tileTrim t / 256 = 0x3200 + rowOf t := by
    simp only [K.tileTrim, tileKey]
    omega
  simp only [sideKey, index, Bool.or_eq_true, Bool.and_eq_true, decide_eq_true_eq]
  omega

theorem State.applyTrim_substance {s : State} {t : Nat} (ht : t < 624) : (s.applyTrim t).substance = s.substance := by
  unfold State.applyTrim State.setKept
  split
  · rfl
  · rw [State.dirty_substance, State.set_substance (sideKey_tileTrim ht)]

/-- Trims put in force tile by tile (R33, R34). -/
theorem State.trims_substance (s : State) (held : State → Nat → Bool) :
    (allSlots.foldl (fun s t => if held s t then s else s.applyTrim t) s).substance = s.substance := by
  refine foldl_view State.substance (fun s t ht => ?_) s
  split
  · rfl
  · exact State.applyTrim_substance (List.mem_range.mp ht)

/-- VCORE is set; the trims that follow it are no matter of `State.substance` (R33, R37). -/
theorem State.setVcore_substance (s : State) (mv : Nat) :
    (s.setVcore mv).substance = (s.set K.vcoreActual mv).substance := by
  unfold State.setVcore
  dsimp only
  split
  · rfl
  · exact (by simpa using State.trims_substance (s.set K.vcoreActual mv) fun s t => decide ((s.tile t).trimAsked = 0))

theorem State.heldTrims_substance (s : State) : s.heldTrims.substance = s.substance := by
  unfold State.heldTrims
  simpa using State.trims_substance s fun s t => decide ((s.tile t).trimAsked = s.get (K.tileTrim t))

end Sys2Proof.Machine
end

section
/-! SUPPORT. The rails (R510, R512, R574, R585): what a module keeps whose rails come up or go off. -/

open Sys2Proof Sys2Proof.Claims Sys2Proof.Machine

namespace Sys2Proof.Machine

/-- What a reset clears of the entries (R524). -/
theorem State.clearAll_entry (s : State) (kind : Nat) (dip : Bool) (k : Nat) :
    (s.clearAll kind dip).get k = if keepsKey kind dip k then s.get k else dflt k :=
  look_filter dflt (keepsKey kind dip) s.dict k

theorem keepsKey_kept {kind : Nat} {dip : Bool} {k : Nat} (h : k ∈ keptKeys) : keepsKey kind dip k = true := by
  simp [keepsKey, h]

/-- Of flash, recorder and output `Cleared` and `RailsOff` compare with the module before. -/
theorem State.clearAll_cleared {s u : State} (flash : u.flash = s.flash) (rec : u.recorder = s.recorder) :
    Cleared s (u.clearAll 1 false) false := by
  refine ⟨⟨rfl, rfl, rfl, rfl, rfl, rfl, rfl, rfl, rfl⟩, ⟨rfl, rfl, rfl, rfl⟩, ⟨rfl, rfl⟩, ?_, fun k drops _ _ core => ?_⟩
  · rw [← flash, ← rec]
    exact ⟨rfl, rfl, rfl, rfl⟩
  · exact State.clearAll_get drops core

end Sys2Proof.Machine

namespace Sys2Proof.Claims

/-- The power stages, the front face and what goes out are no matter of `Cleared`. -/
theorem Cleared.beside {s u : State} {dip : Bool} (h : Cleared s u dip) (p : Power) (f : Front) (o : List Out) :
    Cleared s { u with power := p, front := f, out := o } dip :=
  ⟨h.arrays, h.memory, h.waits, h.flash, h.entries⟩

/-- Nor are the entries that no reset clears, and the code of the front face. -/
theorem Cleared.set {s u : State} {dip : Bool} (h : Cleared s u dip) {k : Nat} (v : Nat)
    (free : k ∈ keptKeys ∨ k = K.frontFaultCode) : Cleared s (u.set k v) dip := by
  refine ⟨h.arrays, h.memory, h.waits, h.flash, fun j drops scan code core => ?_⟩
  have other : j ≠ k := by
    rintro rfl
    rcases free with kept | rfl
    · rw [keepsKey_kept kept] at drops
      exact absurd drops (by decide)
    · exact code rfl
  rw [State.get_set, if_neg other]
  exact h.entries j drops scan code core

end Sys2Proof.Claims

namespace Sys2Proof.Machine

/-! ### Rails that come up -/

/-- The module whose rails have come up, before its cold start clears it (R510). -/
def State.powered (s : State) : State :=
  ({ s with power := { s.power with phase := .up }, front := { s.front with modSafe := false } } : State).emit (.rails true)

/-- A cold start begins on it (R513). -/
theorem State.railsUp_eq (s : State) (cause : Nat) :
    s.railsUp cause = ((s.powered.clearAll 1 false).set K.lastResetKind 1).set K.lastResetCause cause := rfl

theorem State.railsUp_get (s : State) (cause k : Nat) : (s.railsUp cause).get k
    = if k = K.lastResetCause then cause else if k = K.lastResetKind then 1
      else if keepsKey 1 false k then s.get k else dflt k := by
  rw [State.railsUp_eq, State.get_set, State.get_set, State.clearAll_entry]
  rfl

theorem State.railsUp_cleared {s u : State} (flash : u.flash = s.flash) (rec : u.recorder = s.recorder) (cause : Nat) :
    Cleared s (u.railsUp cause) false := by
  rw [State.railsUp_eq]
  have cleared := State.clearAll_cleared (u := u.powered) flash rec
  exact (cleared.set 1 (.inl (by decide))).set cause (.inl (by decide))

theorem State.railsUp_restarts {s u : State} (flash : u.flash = s.flash) (rec : u.recorder = s.recorder) {cause : Nat}
    (noDip : cause ≠ 6) : Restarts s (u.railsUp cause) 1 cause := by
  refine ⟨?_, ?_, ?_, rfl⟩
  · rw [decide_eq_false noDip]
    exact State.railsUp_cleared flash rec cause
  · rw [State.railsUp_get, if_neg (by decide), if_pos rfl]
  · rw [State.railsUp_get, if_pos rfl]

/-! ### Rails that go off -/

theorem State.railsOff_get (s : State) (phase : PowerPhase) (k : Nat) :
    (s.railsOff phase).get k = if keepsKey 1 false k then s.get k else dflt k :=
  State.clearAll_entry s 1 false k

theorem State.railsOff_kept (s : State) (phase : PowerPhase) {k : Nat} (h : k ∈ keptKeys) :
    (s.railsOff phase).get k = s.get k := by
  rw [State.railsOff_get, if_pos (keepsKey_kept h)]

theorem State.railsOff_off {s u : State} (flash : u.flash = s.flash) (rec : u.recorder = s.recorder) (out : u.out = s.out)
    (phase : PowerPhase) : RailsOff s (u.railsOff phase) phase :=
  ⟨(State.clearAll_cleared flash rec).beside _ _ _, rfl, rfl, congrArg (· ++ [Out.rails false]) out⟩

end Sys2Proof.Machine

namespace Sys2Proof.Claims

/-- The power stages may note what made the rails go off. -/
theorem RailsOff.onPower {s u : State} {phase : PowerPhase} (h : RailsOff s u phase) {f : Power → Power}
    (keep : ∀ p, (f p).phase = p.phase) : RailsOff s (u.onPower f) phase := by
  obtain ⟨cleared, ph, safe, out⟩ := h
  exact ⟨cleared.beside _ _ _, (keep _).trans ph, safe, out⟩

/-- The front face may show why. -/
theorem RailsOff.showCode {s u : State} {phase : PowerPhase} (h : RailsOff s u phase) (n : Nat) :
    RailsOff s (u.set K.frontFaultCode n) phase := by
  obtain ⟨cleared, ph, safe, out⟩ := h
  exact ⟨cleared.set n (.inr rfl), ph, safe, out⟩

end Sys2Proof.Claims

namespace Sys2Proof.Machine

/-- rail_fault_record after a short: its code, and one more short counted above it (R592). -/
theorem State.noteShort_get (s : State) (r : Rail) : (s.noteShort r).get K.railFaultRecord
    = r.code + fld (s.get K.railFaultRecord / 256 + 1) 8 24 := by
  rw [State.noteShort, State.get_set, if_pos rfl]

end Sys2Proof.Machine
end

section
/-! The input and the rails, settled. -/

open Sys2Proof Sys2Proof.Claims Sys2Proof.Machine

namespace Sys2Proof.Machine

/-- The alarm of a lost input counts nothing among the entries that the power stages keep (R511). -/
theorem State.raise_get (s : State) (code : Nat) (arg : List Byte) {k : Nat} (hk : sideKey k = false) :
    (s.raise code arg).get k = s.get k :=
  State.get_of_substance (s.raise_substance code arg) hk

/-- Two counters that stand alike go up alike. -/
theorem State.get_bump_congr {s u : State} {k : Nat} (h : u.get k = s.get k) (n : Nat) :
    (u.bump k n).get k = (s.bump k n).get k := by
  rw [State.bump, State.bump, State.get_set, State.get_set, if_pos rfl, if_pos rfl, h]

theorem State.setInput_get (s : State) (mv : Nat) {k : Nat} (h : k ≠ K.inputVoltage) : (s.setInput mv).get k = s.get k :=
  (State.get_set _ _ _ _).trans (if_neg h)

/-- A counter that goes up and then stands is counted. -/
theorem counted_bump {s u : State} {k : Nat} (h : u.get k = (s.bump k 1).get k) : Counted s u k 1 :=
  fun room => h.trans (s.get_bump_same k 1 room)

/-- POWER_UP with the input within its limits (R510, R511, R574). -/
theorem execPowerUp_applies {s : State} {mv ms : Nat} (bad : Bool) (h : s.power.phase = .dark ∧ 39000 < mv ∧ mv ≤ 62000
    ∧ (s.power.inputMv ≤ 62000 ∨ mv ≤ 60000) ∧ 100 ≤ ms) : exec (.powerUp mv ms bad) s =
      if !s.front.pwrEn then .next ((s.setInput mv).onPower fun p => { p with phase := .standby })
      else if bad then
        .next ((s.setInput mv).onPower fun p => { p with phase := .standby, seqFail := true, retryUsed := false })
      else .next ((s.setInput mv).railsUp 1) :=
  if_pos h

/-- A short on a rail that the standby rail feeds (R585). -/
theorem execRailShort_applies {s : State} {r : Rail} (other : r ≠ .vstby) (up : s.power.phase = .up) :
    exec (.railShort r) s = .next
      (let u := ((s.noteShort r).railsOff .standby).onPower fun p => { p with railDown := r.code }
       if s.power.shortRetry then u.set K.frontFaultCode 2 else u) := by
  refine (if_neg other).trans (if_neg ?_)
  simp [up]

/-- The module before its rails go off with the input: the alarm leaves where the link is up, the loss is counted (R511). -/
def State.losing (s : State) : State := (if s.get K.mportLink = 1 then s.raise 0x07 [] else s).bump K.inputLossCount 1

theorem State.losing_get (s : State) : s.losing.get K.inputLossCount = (s.bump K.inputLossCount 1).get K.inputLossCount := by
  refine State.get_bump_congr ?_ 1
  split
  · exact State.raise_get _ _ _ (by decide)
  · rfl

theorem execInputLost_up {s : State} {mv : Nat} (up : s.power.phase = .up) (out : mv < 37000 ∨ 62000 < mv) :
    exec (.inputLost mv) s = .next ((s.losing.railsOff .dark).setInput mv) := by
  refine (if_neg ?_).trans (if_neg ?_)
  · simp only [up, reduceCtorEq, false_or]
    omega
  · simp [up]

theorem execInputLost_standby {s : State} {mv : Nat} (standby : s.power.phase = .standby) (out : mv < 37000 ∨ 62000 < mv) :
    exec (.inputLost mv) s = .next ((s.onPower fun p => { p with phase := .dark, seqFail := false }).setInput mv) := by
  refine (if_neg ?_).trans (if_pos standby)
  simp only [standby, reduceCtorEq, false_or]
  omega

/-- At 105 °C the trip is counted and the rails go off (R44). -/
theorem execThermalShutdown_up {s : State} {tj : Int} (up : s.power.phase = .up) (hot : 1050 ≤ tj) :
    exec (.thermalShutdown tj) s = .next (((((s.set K.hottestTj (ofInt 16 tj)).bump K.thermtripCount 1).railsOff
      .standby).onPower fun p => { p with thermTrip := true }).set K.frontFaultCode 3) := by
  refine if_neg ?_
  simp only [up, ne_eq, not_true_eq_false, false_or]
  omega

end Sys2Proof.Machine

/-- Settles O10, row by row: what each row does by its meaning, and what rails that come up or go off leave by
`railsUp_restarts` and `railsOff_off`. -/
theorem supplyEvents : Obligations.SupplyEvents := by
  unfold Obligations.SupplyEvents
  intro s
  refine ⟨fun mv ms bad dark low high after held => ⟨fun en good => ?_, fun en fails => ?_, fun off => ?_⟩,
    fun mv ms bad h => ?_, fun on => ?_, fun r other up => ?_, fun r down other => ?_, fun ms late retry => ⟨?_, ?_⟩,
    fun ms late seq retry => ⟨?_, ?_⟩, fun ok ms early => ?_, fun mv up low high => ?_, fun mv up low high => ?_,
    fun mv down => ⟨?_, ?_⟩, fun mv up out => ?_, fun mv standby out => ?_, fun tj up hot => ?_, fun tj h => ?_,
    fun ms held up => ?_, fun ms short => ?_, fun tj standby seq rail cool => ?_, fun tj h => ?_⟩
  · refine ⟨(s.setInput mv).railsUp 1, ?_, State.railsUp_restarts (by rfl) (by rfl) (by decide), ?_, rfl, rfl⟩
    · rw [execPowerUp_applies bad ⟨dark, low, high, after, held⟩, en, good]
      rfl
    · rw [State.railsUp_get, if_neg (by decide), if_neg (by decide), if_pos (by decide)]
      exact (State.get_set _ _ _ _).trans (if_pos rfl)
  · refine ⟨(s.setInput mv).onPower fun p => { p with phase := .standby, seqFail := true, retryUsed := false }, ?_, rfl⟩
    rw [execPowerUp_applies bad ⟨dark, low, high, after, held⟩, en, fails]
    rfl
  · refine ⟨(s.setInput mv).onPower fun p => { p with phase := .standby }, ?_, rfl, rfl⟩
    rw [execPowerUp_applies bad ⟨dark, low, high, after, held⟩, off]
    rfl
  · refine if_neg ?_
    rintro ⟨dark, low, high, -, held⟩
    rcases h with h | h | h | h
    · exact h dark
    all_goals omega
  · refine ⟨(s.noteShort .vstby).railsOff .dark, if_neg on, State.railsOff_off (by rfl) (by rfl) (by rfl) _, ?_⟩
    rw [State.railsOff_kept _ _ (by decide), State.noteShort_get]
    simp only [Rail.code, fld]
    omega
  · refine ⟨_, execRailShort_applies other up, ?_⟩
    have off : RailsOff s (((s.noteShort r).railsOff .standby).onPower fun p => { p with railDown := r.code }) .standby :=
      (State.railsOff_off (by rfl) (by rfl) (by rfl) _).onPower fun _ => rfl
    have noted : (((s.noteShort r).railsOff .standby).onPower fun p => { p with railDown := r.code }).get K.railFaultRecord
        = r.code + fld (s.get K.railFaultRecord / 256 + 1) 8 24 :=
      (State.railsOff_kept _ .standby (by decide)).trans (State.noteShort_get s r)
    dsimp only
    split
    · refine ⟨off.showCode 2, rfl, ?_, fun _ => ?_⟩
      · rw [State.get_set, if_neg (by decide), noted]
      · rw [State.get_set, if_pos rfl]
    · rename_i first
      exact ⟨off, rfl, noted, fun used => absurd used first⟩
  · exact (if_neg other).trans (if_pos down)
  · refine ⟨(s.onPower fun p => { p with retryUsed := true }).railsUp 1, ?_, State.railsUp_restarts (by rfl) (by rfl) (by decide), rfl⟩
    exact (if_neg (by omega)).trans (if_pos retry)
  · exact (if_neg (by omega)).trans (if_pos retry)
  · refine ⟨((s.onPower fun p => { p with shortRetry := true }).draw.2).railsUp (Config.choice 12 s.freeCount % 15), ?_,
      State.railsUp_cleared (by rfl) (by rfl) _, ?_, rfl, rfl⟩
    · exact (if_neg (by omega)).trans ((if_neg (by simp [seq])).trans (if_pos retry))
    · rw [State.railsUp_get, if_neg (by decide), if_pos rfl]
  · exact (if_neg (by omega)).trans ((if_neg (by simp [seq])).trans (if_pos retry))
  · exact if_pos early
  · exact if_pos ⟨up, low, high⟩
  · exact if_pos ⟨up, low, high⟩
  · exact if_neg fun h => down h.1
  · exact if_neg fun h => down h.1
  · refine ⟨_, execInputLost_up up out, ?_⟩
    have count := s.losing_get
    generalize s.losing = u at count ⊢
    refine ⟨rfl, rfl, ?_, rfl, rfl, rfl, rfl, counted_bump ?_⟩
    · rw [State.setInput, State.get_set, if_pos rfl]
    · rw [State.setInput_get _ _ (by decide), State.railsOff_kept _ _ (by decide), count]
  · refine ⟨_, execInputLost_standby standby out, rfl, State.setInput_get _ _ (by decide)⟩
  · have off : RailsOff s (((s.set K.hottestTj (ofInt 16 tj)).bump K.thermtripCount 1).railsOff .standby) .standby :=
      State.railsOff_off (by rfl) (by rfl) (by rfl) _
    have tripped := off.onPower (f := fun p => { p with thermTrip := true }) fun _ => rfl
    refine ⟨_, execThermalShutdown_up up hot, tripped.showCode 3, rfl, ?_, counted_bump ?_⟩
    · rw [State.get_set, if_pos rfl]
    · rw [State.get_set, if_neg (by decide)]
      refine (State.railsOff_kept _ .standby (by decide)).trans (State.get_bump_congr ?_ 1)
      exact (State.get_set _ _ _ _).trans (if_neg (by decide))
  · exact if_pos h
  · refine ⟨({ s with front := { s.front with pwrEn := false } } : State).railsOff .standby, ?_,
      State.railsOff_off (by rfl) (by rfl) (by rfl) _, rfl⟩
    exact (if_neg (by omega)).trans (congrArg _ (if_pos up))
  · exact if_pos short
  · refine ⟨({ s with front := { s.front with pwrEn := true } } : State).railsUp 2, if_pos ⟨standby, seq, rail, cool⟩,
      State.railsUp_restarts (by rfl) (by rfl) (by decide), rfl⟩
  · refine if_neg ?_
    rintro ⟨standby, -, -, cool⟩
    exact h.elim (fun h => h standby) (by omega)

end

section
/-! SUPPORT. The governor's loop (R37, R42 to R45): what its readings leave, and what each of its measures sets. -/

open Sys2Proof Sys2Proof.Claims

namespace Sys2Proof.Machine

/-! ### Measures -/

/-- VCORE and the measures of R42 and R44 set: VCORE lowered, minimum pace, admission paused, POWER_LIMITED raised. -/
def State.measured (s : State) (mv : Nat) (lowered : Bool) (pace : Nat) (paused limited : Bool) : State :=
  (s.set K.vcoreActual mv).onPower fun p =>
    { p with lowered := lowered, minPace := pace, paused := paused, limited := limited }

/-- The measures as they stand. -/
theorem State.measured_same (s : State) : s.substance
    = (s.measured (s.get K.vcoreActual) s.power.lowered s.power.minPace s.power.paused s.power.limited).substance :=
  (State.onPower_substance_congr (s.set_get_substance K.vcoreActual) fun p =>
    { p with lowered := s.power.lowered, minPace := s.power.minPace, paused := s.power.paused,
             limited := s.power.limited }).symm

theorem State.setVcore_measured (s : State) (mv : Nat) : (s.setVcore mv).substance
    = (s.measured mv s.power.lowered s.power.minPace s.power.paused s.power.limited).substance :=
  s.setVcore_substance mv

/-- VCORE goes down (R42). -/
theorem State.limitStep_lowers {s : State} {w : Nat} (above : 680 < s.get K.vcoreActual) (calm : s.dipping = false) :
    (s.limitStep w).substance = (s.measured (max 680 (s.get K.vcoreActual - if s.powerCap * 105 < w * 100 then 20 else 10))
      true s.power.minPace s.power.paused s.power.limited).substance := by
  unfold State.limitStep
  dsimp only
  rw [if_pos ⟨above, calm⟩]
  exact State.onPower_substance_congr (s.setVcore_substance _) fun p => { p with lowered := true }

/-- Where VCORE cannot go down minimum pace goes up (R42, R46). -/
theorem State.limitStep_paces {s : State} {w : Nat} (floor : s.get K.vcoreActual ≤ 680 ∨ s.dipping = true)
    (room : s.power.minPace < 7) : (s.limitStep w).substance
      = (s.measured (s.get K.vcoreActual) s.power.lowered (s.power.minPace + 1) s.power.paused true).substance := by
  have held : ¬ (680 < s.get K.vcoreActual ∧ s.dipping = false) := by
    rintro ⟨above, calm⟩
    exact floor.elim (by omega) (by simp [calm])
  unfold State.limitStep
  dsimp only
  rw [if_neg held, if_pos room]
  refine (State.onPower_substance_congr (u := s.set K.vcoreActual (s.get K.vcoreActual)) ?_ fun p =>
    { p with minPace := p.minPace + 1, limited := true }).trans rfl
  rw [State.set_get_substance]
  split <;> simp

/-- At the top of the pace admission is paused (R42). -/
theorem State.limitStep_pauses {s : State} {w : Nat} (floor : s.get K.vcoreActual ≤ 680 ∨ s.dipping = true)
    (top : 7 ≤ s.power.minPace) : (s.limitStep w).substance
      = (s.measured (s.get K.vcoreActual) s.power.lowered s.power.minPace true s.power.limited).substance := by
  have held : ¬ (680 < s.get K.vcoreActual ∧ s.dipping = false) := by
    rintro ⟨above, calm⟩
    exact floor.elim (by omega) (by simp [calm])
  unfold State.limitStep
  dsimp only
  rw [if_neg held, if_neg (by omega)]
  exact State.onPower_substance_congr (s.set_get_substance K.vcoreActual).symm fun p => { p with paused := true }

/-- A step under the limits takes one of these measures. -/
theorem State.limitStep_measured (s : State) (w : Nat) : ∃ mv lowered pace paused limited,
    (s.limitStep w).substance = (s.measured mv lowered pace paused limited).substance := by
  by_cases floor : s.get K.vcoreActual ≤ 680 ∨ s.dipping = true
  · rcases Nat.lt_or_ge s.power.minPace 7 with room | top
    · exact ⟨_, _, _, _, _, State.limitStep_paces floor room⟩
    · exact ⟨_, _, _, _, _, State.limitStep_pauses floor top⟩
  · obtain ⟨above, calm⟩ := not_or.mp floor
    exact ⟨_, _, _, _, _, State.limitStep_lowers (by omega) (by simpa using calm)⟩

/-- VCORE where the following of its ceiling takes it (R37, R41). -/
def State.followed (s : State) : Nat :=
  let v := s.get K.vcoreActual
  let sp := s.get K.vcoreSetpoint
  if s.dipping then v
  else if sp < v then max sp (v - 10)
  else if v < sp ∧ s.power.lowered = false ∧ s.capWaits (v + 10) = false then min sp (v + 10)
  else v

theorem State.followSetpoint_measured (s : State) : (s.followSetpoint).substance
    = (s.measured s.followed s.power.lowered s.power.minPace s.power.paused s.power.limited).substance := by
  unfold State.followSetpoint State.followed
  dsimp only
  split
  · exact s.measured_same
  · split
    · exact s.setVcore_measured _
    · split
      · exact s.setVcore_measured _
      · exact s.measured_same

/-! ### Readings -/

/-- The readings of a loop are taken (R39, R44). -/
def State.heated (s : State) (w : Nat) (tj : Int) : State := (s.set K.inputPower w).heat tj

theorem State.heat_substance (s : State) (tj : Int) : (s.heat tj).substance
    = ((s.set K.hottestTj (ofInt 16 tj)).onPower fun p =>
        { p with hot95 := decide (950 < tj), hot100 := decide (1000 < tj) }).substance := by
  unfold State.heat
  dsimp only
  refine State.onPower_substance_congr ?_ _
  split
  · exact State.raise_substance _ _ _
  · rfl

/-- What the readings leave and what they set. -/
structure Heated (s u : State) (w : Nat) (tj : Int) : Prop where
  power : u.power = { s.power with hot95 := decide (950 < tj), hot100 := decide (1000 < tj) }
  mem : u.mem = s.mem
  strands : u.strands = s.strands
  input : u.get K.inputPower = w
  hottest : u.get K.hottestTj = ofInt 16 tj
  get : ∀ k, sideKey k = false → k ≠ K.inputPower → k ≠ K.hottestTj → u.get k = s.get k

theorem State.heated_spec (s : State) (w : Nat) (tj : Int) : Heated s (s.heated w tj) w tj := by
  have same := State.heat_substance (s.set K.inputPower w) tj
  refine ⟨State.power_of_substance same, (State.mem_of_substance same).trans rfl,
    (State.strands_of_substance same).trans rfl, ?_, ?_,
    fun k side input hot => ?_⟩
  · refine (State.get_of_substance same (by decide)).trans ((State.get_set _ _ _ _).trans ?_)
    rw [if_neg (by decide), State.get_set, if_pos rfl]
  · exact (State.get_of_substance same (by decide)).trans ((State.get_set _ _ _ _).trans (if_pos rfl))
  · refine (State.get_of_substance same side).trans ((State.get_set _ _ _ _).trans ?_)
    rw [if_neg hot, State.get_set, if_neg input]

namespace Heated

variable {s u : State} {w : Nat} {tj : Int}

theorem powerCap (h : Heated s u w tj) : u.powerCap = s.powerCap := by
  rw [State.powerCap, State.powerCap, h.power, h.get _ (by decide) (by decide) (by decide)]

theorem dramHot (h : Heated s u w tj) : u.dramHot = s.dramHot := by
  rw [State.dramHot, State.dramHot, h.mem]

theorem dipping (h : Heated s u w tj) : u.dipping = s.dipping := by
  rw [State.dipping, State.dipping, h.power]

theorem vcore (h : Heated s u w tj) : u.get K.vcoreActual = s.get K.vcoreActual :=
  h.get _ (by decide) (by decide) (by decide)

theorem setpoint (h : Heated s u w tj) : u.get K.vcoreSetpoint = s.get K.vcoreSetpoint :=
  h.get _ (by decide) (by decide) (by decide)

theorem capWaits (h : Heated s u w tj) (mv : Nat) : u.capWaits mv = s.capWaits mv := by
  have weight : u.busyWeight = s.busyWeight := by
    funext st
    rw [State.busyWeight, State.busyWeight, State.strand, State.strand, h.strands]
  have cap : u.busyCap = s.busyCap := by
    rw [State.busyCap, State.busyCap, h.setpoint, State.licStrands, State.licStrands,
      h.get _ (by decide) (by decide) (by decide)]
  rw [State.capWaits, State.capWaits, State.busyCount, State.busyCount, weight, cap, h.vcore]

theorem followed (h : Heated s u w tj) : u.followed = s.followed := by
  rw [State.followed, State.followed, h.dipping, h.vcore, h.setpoint, h.capWaits, h.power]

end Heated

/-! ### The loop -/

/-- The measure that a loop takes on its readings (R37, R42, R44). -/
def State.steered (s : State) (w : Nat) : State :=
  if s.protect then (s.setVcore 680).onPower fun p => { p with lowered := true, minPace := 7, paused := true }
  else if decide (s.powerCap < w) || s.power.hot95 || s.dramHot then s.limitStep w
  else s.followSetpoint

theorem State.governorLoop_eq (s : State) (w : Nat) (tj : Int) : s.governorLoop w tj =
    ((((s.heated w tj).steered w).easeFast (decide ((s.heated w tj).powerCap < w))).showGovernor).loopSamples := rfl

theorem State.loopSamples_substance (s : State) : s.loopSamples.substance = s.substance := by
  unfold State.loopSamples
  refine (State.sample_substance _ _ _ _ _).trans ((State.sample_substance _ _ _ _ _).trans ?_)
  exact (State.sample_substance _ _ _ _ _).trans ((State.sample_substance _ _ _ _ _).trans s.draw_substance)

/-- The end of the fast throttle is no matter of the measures (R45). -/
theorem State.easeFast_eq (s : State) (above : Bool) : ∃ fast ending,
    s.easeFast above = s.onPower fun p => { p with fast := fast, fastEnding := ending } := by
  unfold State.easeFast
  split
  · exact ⟨s.power.fast, s.power.fastEnding, rfl⟩
  · split
    · exact ⟨s.power.fast, false, rfl⟩
    · split
      · exact ⟨false, false, rfl⟩
      · exact ⟨s.power.fast, true, rfl⟩

theorem State.showGovernor_get (s : State) {k : Nat} (h : k ≠ K.governorState) : s.showGovernor.get k = s.get k :=
  (State.get_set _ _ _ _).trans (if_neg h)

/-- A thermal measure shows before every other (R44). -/
theorem State.showGovernor_hot {s : State} (h : s.power.hot95 = true ∨ s.power.noFlow = true ∨ s.dramHot = true) :
    s.showGovernor.get K.governorState = 4 := by
  refine (State.get_set _ _ _ _).trans ((if_pos rfl).trans (if_pos ?_))
  rw [State.dramHot] at h
  rcases h with h | h | h <;> simp only [h, Bool.or_true, Bool.true_or]

/-- The module after a loop on these readings that left VCORE and the measures so. -/
structure Steered (s z : State) (w : Nat) (tj : Int) (mv : Nat) (lowered : Bool) (pace : Nat) (paused : Bool) : Prop where
  input : z.get K.inputPower = w
  hottest : z.get K.hottestTj = ofInt 16 tj
  hot95 : z.power.hot95 = decide (950 < tj)
  hot100 : z.power.hot100 = decide (1000 < tj)
  shows : 950 < tj ∨ s.power.noFlow = true ∨ s.dramHot = true → z.get K.governorState = 4
  vcore : z.get K.vcoreActual = mv
  lowered : z.power.lowered = lowered
  pace : z.power.minPace = pace
  paused : z.power.paused = paused

theorem State.governorLoop_steered {s : State} {w : Nat} {tj : Int} {mv pace : Nat} {lowered paused limited : Bool}
    (h : ((s.heated w tj).steered w).substance = ((s.heated w tj).measured mv lowered pace paused limited).substance) :
    Steered s (s.governorLoop w tj) w tj mv lowered pace paused := by
  have heated := s.heated_spec w tj
  rw [State.governorLoop_eq]
  generalize s.heated w tj = u at h heated ⊢
  obtain ⟨fast, ending, ease⟩ := (u.steered w).easeFast_eq (decide (u.powerCap < w))
  rw [ease]
  generalize u.steered w = c at h ⊢
  have power : c.power = { u.power with lowered := lowered, minPace := pace, paused := paused, limited := limited } :=
    State.power_of_substance h
  have mem : c.mem = u.mem := (State.mem_of_substance h).trans rfl
  have get : ∀ k, sideKey k = false → c.get k = if k = K.vcoreActual then mv else u.get k :=
    fun k side => (State.get_of_substance h side).trans (State.get_set _ _ _ _)
  have last := State.loopSamples_substance (c.onPower fun p => { p with fast := fast, fastEnding := ending }).showGovernor
  have lastGet : ∀ k, sideKey k = false → k ≠ K.governorState → State.get (State.loopSamples (State.showGovernor _)) k = _ :=
    fun k side other => (State.get_of_substance last side).trans ((State.showGovernor_get _ other).trans (get k side))
  have lastPower := (State.power_of_substance last).trans
    (show _ = { c.power with fast := fast, fastEnding := ending } from rfl)
  rw [power, heated.power] at lastPower
  refine ⟨?_, ?_, ?_, ?_, fun hot => ?_, ?_, ?_, ?_, ?_⟩
  · exact (lastGet _ (by decide) (by decide)).trans heated.input
  · exact (lastGet _ (by decide) (by decide)).trans heated.hottest
  · rw [lastPower]
  · rw [lastPower]
  · refine (State.get_of_substance last (by decide)).trans (State.showGovernor_hot ?_)
    have dram : (c.onPower fun p => { p with fast := fast, fastEnding := ending }).dramHot = s.dramHot := by
      rw [State.dramHot, State.dramHot, State.onPower_mem, mem, heated.mem]
    rw [dram]
    refine hot.imp (fun warm => ?_) (Or.imp_left fun flow => ?_)
    · rw [State.onPower, power, heated.power]
      exact decide_eq_true warm
    · rw [State.onPower, power, heated.power]
      exact flow
  · exact lastGet _ (by decide) (by decide)
  · rw [lastPower]
  · rw [lastPower]
  · rw [lastPower]

/-- Above 100 °C, or with no coolant flow, everything is taken down (R44, R589). -/
theorem State.governorLoop_protects {s : State} {w : Nat} {tj : Int} (h : 1000 < tj ∨ s.power.noFlow = true) :
    Steered s (s.governorLoop w tj) w tj 680 true 7 true := by
  have heated := s.heated_spec w tj
  have protect : (s.heated w tj).protect = true := by
    rw [State.protect, heated.power]
    simpa using h
  refine State.governorLoop_steered (limited := (s.heated w tj).power.limited) ?_
  rw [State.steered, if_pos protect]
  exact State.onPower_substance_congr (State.setVcore_substance _ _) fun p =>
    { p with lowered := true, minPace := 7, paused := true }

section
variable {s : State} {w : Nat} {tj : Int} (cool : tj ≤ 1000) (flow : s.power.noFlow = false)
include cool flow

/-- No protective action is called for. -/
theorem State.heated_unprotected : (s.heated w tj).protect = false := by
  rw [State.protect, (s.heated_spec w tj).power, flow]
  simpa using cool

/-- Over a limit the loop takes a step of R42. -/
theorem State.steered_over (beyond : s.powerCap < w ∨ 950 < tj ∨ s.dramHot = true) :
    (s.heated w tj).steered w = (s.heated w tj).limitStep w := by
  have heated := s.heated_spec w tj
  rw [State.steered, State.heated_unprotected cool flow, if_neg (by decide), if_pos]
  rw [heated.powerCap, heated.dramHot, heated.power]
  simpa [or_assoc] using beyond

theorem State.governorLoop_lowers (beyond : s.powerCap < w ∨ 950 < tj ∨ s.dramHot = true)
    (above : 680 < s.get K.vcoreActual) (calm : s.dipping = false) : Steered s (s.governorLoop w tj) w tj
      (max 680 (s.get K.vcoreActual - if s.powerCap * 105 < w * 100 then 20 else 10)) true s.power.minPace s.power.paused := by
  have heated := s.heated_spec w tj
  have step := State.limitStep_lowers (s := s.heated w tj) (w := w) (heated.vcore ▸ above) (heated.dipping.trans calm)
  rw [← State.steered_over cool flow beyond, heated.vcore, heated.powerCap] at step
  have done := State.governorLoop_steered step
  rwa [heated.power] at done

theorem State.governorLoop_paces (beyond : s.powerCap < w ∨ 950 < tj ∨ s.dramHot = true)
    (floor : s.get K.vcoreActual ≤ 680 ∨ s.dipping = true) (room : s.power.minPace < 7) :
    Steered s (s.governorLoop w tj) w tj (s.get K.vcoreActual) s.power.lowered (s.power.minPace + 1) s.power.paused := by
  have heated := s.heated_spec w tj
  have step := State.limitStep_paces (s := s.heated w tj) (w := w) (by rwa [heated.vcore, heated.dipping])
    (by rwa [heated.power])
  rw [← State.steered_over cool flow beyond, heated.vcore] at step
  have done := State.governorLoop_steered step
  rwa [heated.power] at done

theorem State.governorLoop_pauses (beyond : s.powerCap < w ∨ 950 < tj ∨ s.dramHot = true)
    (floor : s.get K.vcoreActual ≤ 680 ∨ s.dipping = true) (top : 7 ≤ s.power.minPace) :
    Steered s (s.governorLoop w tj) w tj (s.get K.vcoreActual) s.power.lowered s.power.minPace true := by
  have heated := s.heated_spec w tj
  have step := State.limitStep_pauses (s := s.heated w tj) (w := w) (by rwa [heated.vcore, heated.dipping])
    (by rwa [heated.power])
  rw [← State.steered_over cool flow beyond, heated.vcore] at step
  have done := State.governorLoop_steered step
  rwa [heated.power] at done

end

/-- Within every limit VCORE follows its ceiling (R37). -/
theorem State.governorLoop_follows {s : State} {w : Nat} {tj : Int} (cool : tj ≤ 950) (flow : s.power.noFlow = false)
    (under : w ≤ s.powerCap) (dram : s.dramHot = false) : Steered s (s.governorLoop w tj) w tj
      s.followed s.power.lowered s.power.minPace s.power.paused := by
  have heated := s.heated_spec w tj
  have within : (decide ((s.heated w tj).powerCap < w) || (s.heated w tj).power.hot95 || (s.heated w tj).dramHot) = false := by
    rw [heated.powerCap, heated.dramHot, heated.power, dram]
    simpa using ⟨under, cool⟩
  have step : (s.heated w tj).steered w = (s.heated w tj).followSetpoint := by
    rw [State.steered, State.heated_unprotected (by omega) flow, within]
    rfl
  have follow := (s.heated w tj).followSetpoint_measured
  rw [← step, heated.followed] at follow
  have done := State.governorLoop_steered follow
  rwa [heated.power] at done

/-- A loop that governs leaves VCORE and the measures in one way or another. -/
theorem State.governorLoop_some (s : State) (w : Nat) (tj : Int) : ∃ mv lowered pace paused,
    Steered s (s.governorLoop w tj) w tj mv lowered pace paused := by
  by_cases hot : 1000 < tj ∨ s.power.noFlow = true
  · exact ⟨_, _, _, _, State.governorLoop_protects hot⟩
  · obtain ⟨cool, flow⟩ := not_or.mp hot
    by_cases beyond : s.powerCap < w ∨ 950 < tj ∨ s.dramHot = true
    · obtain ⟨mv, lowered, pace, paused, limited, step⟩ := (s.heated w tj).limitStep_measured w
      rw [← State.steered_over (by omega) (by simpa using flow) beyond] at step
      exact ⟨mv, lowered, pace, paused, State.governorLoop_steered step⟩
    · obtain ⟨under, mild, dram⟩ : _ ∧ _ ∧ _ := by simpa only [not_or] using beyond
      exact ⟨_, _, _, _, State.governorLoop_follows (by omega) (by simpa using flow) (by omega) (by simpa using dram)⟩

/-! ### Where VCORE goes when it follows its ceiling -/

theorem State.followed_falls {s : State} (calm : s.dipping = false) (below : s.get K.vcoreSetpoint < s.get K.vcoreActual) :
    s.followed = max (s.get K.vcoreSetpoint) (s.get K.vcoreActual - 10) := by
  rw [State.followed, calm]
  exact if_pos below

theorem State.followed_rises {s : State} (calm : s.dipping = false) (above : s.get K.vcoreActual < s.get K.vcoreSetpoint)
    (free : s.power.lowered = false) (room : s.capWaits (s.get K.vcoreActual + 10) = false) :
    s.followed = min (s.get K.vcoreSetpoint) (s.get K.vcoreActual + 10) := by
  unfold State.followed
  dsimp only
  rw [if_neg (by simp [calm]), if_neg (by omega), if_pos ⟨above, free, room⟩]

theorem State.followed_rests {s : State} (there : s.get K.vcoreActual = s.get K.vcoreSetpoint) :
    s.followed = s.get K.vcoreActual := by
  unfold State.followed
  dsimp only
  rw [there]
  split
  · rfl
  · rw [if_neg (lt_irrefl _), if_neg]
    exact fun h => lt_irrefl _ h.1

end Sys2Proof.Machine
end

section
/-! SUPPORT. The release of the governor's measures (R43), the specified beat rates (R23, R24, R593), and what the
governor does, put together. -/

open Sys2Proof Sys2Proof.Claims Sys2Proof.Machine

namespace Sys2Proof.Machine

/-! ### Release -/

/-- What GOVERNOR_RELEASE asks for (R43). -/
def State.releases (s : State) (w : Nat) : Bool :=
  s.governs && w * 100 ≤ s.powerCap * 95 && !s.power.hot95 && !s.power.hot100 && !s.power.noFlow && !s.dramHot

theorem exec_governorRelease (w : Nat) (s : State) : exec (.governorRelease w) s
    = if s.releases w then .next s.releaseStep.showGovernor else .next s := rfl

theorem State.releaseStep_paused {s : State} (h : s.power.paused = true) :
    s.releaseStep = s.onPower fun p => { p with paused := false } := if_pos h

theorem State.releaseStep_paced {s : State} (h : s.power.paused = false) (pace : 0 < s.power.minPace) : s.releaseStep
    = s.onPower fun p => { p with minPace := p.minPace - 1, limited := if p.minPace = 1 then false else p.limited } :=
  (if_neg (by simp [h])).trans (if_pos pace)

theorem State.releaseStep_lowered {s : State} (h : s.power.paused = false) (pace : s.power.minPace = 0)
    (lowered : s.power.lowered = true) (below : s.get K.vcoreActual < s.get K.vcoreSetpoint) (calm : s.dipping = false)
    (room : s.capWaits (s.get K.vcoreActual + 10) = false) : s.releaseStep
      = (s.setVcore (min (s.get K.vcoreSetpoint) (s.get K.vcoreActual + 10))).onPower fun p =>
          { p with lowered := decide (s.get K.vcoreActual + 10 < s.get K.vcoreSetpoint) } := by
  unfold State.releaseStep
  dsimp only
  rw [if_neg (by simp [h]), if_neg (by omega), if_neg (by simp [lowered]), if_neg (by omega), if_neg (by simp [calm, room])]

/-! ### Beat rates -/

/-- The rates of the rows (R23), and their fall below 60 °C (R24). -/
theorem specRate_rows : ∀ r ∈ ratedBeats,
    (∀ t : Nat, 100 ≤ t → t ≤ 600 → specRate r.1 t = some (r.2.1 * (500000 - 30 * (600 - t)) / 500000))
      ∧ specRate r.1 750 = some r.2.2.1 ∧ specRate r.1 950 = some r.2.2.2 := by
  intro r hr
  simp only [ratedBeats, List.mem_cons, List.not_mem_nil, or_false] at hr
  rcases hr with rfl | rfl | rfl | rfl | rfl | rfl | rfl | rfl
  all_goals
    refine ⟨fun t low high => ?_, by decide, by decide⟩
    rw [specRate, if_neg (by omega)]
    simp only [Int.toNat_natCast, high, ↓reduceIte, beatRows, rowsAround, Nat.reduceLeDiff, and_false, Std.le_refl,
      and_self, Option.map_some, tsub_self, mul_zero, Nat.reduceSub, Nat.reduceMul, zero_add, add_zero, Option.some.injEq]
  all_goals omega

/-- A supply outside the table lies between no two rows (R593). -/
theorem rowsAround_outside {mv : Nat} (h : mv < 680 ∨ 930 < mv) : rowsAround beatRows mv = none := by
  unfold beatRows
  repeat' rw [rowsAround, if_neg (by dsimp only; omega)]
  rfl

theorem specRate_outside {mv : Nat} {tj : Int} (h : tj < 100 ∨ 950 < tj ∨ mv < 680 ∨ 930 < mv) : specRate mv tj = none := by
  unfold specRate
  split
  · rfl
  · rw [rowsAround_outside (by omega)]
    rfl

/-- The 0.68 V figure is a rate. -/
theorem lowRate_pos (tj : Int) : 0 < lowRate tj := by
  unfold lowRate
  generalize ht : max 100 (min 950 tj) = t
  rw [specRate, if_neg (by omega)]
  simp only [Int.toNat_le, Nat.cast_ofNat, beatRows, rowsAround, Std.le_refl, Nat.reduceLeDiff, and_self, ↓reduceIte,
    Option.map_some, Nat.reduceSub, Nat.reduceMul, tsub_self, mul_zero, add_zero, Option.getD_some]
  repeat' split
  all_goals omega

/-- Where no rate is specified beat_rate_now stays below the 0.68 V figure (R593). -/
theorem State.beatRateNow_low {s : State} (h : specRate (s.get K.vcoreActual) (int16 (s.get K.hottestTj)) = none) :
    s.beatRateNow < lowRate (int16 (s.get K.hottestTj)) := by
  unfold State.beatRateNow
  dsimp only
  rw [h]
  exact Nat.mod_lt _ (lowRate_pos _)

end Sys2Proof.Machine

/-- The governor keeps to its rules (R37, R39, R42 to R45): a loop by what it leaves of VCORE and the measures
(`Steered`), a release by the measure that it lifts. -/
theorem governor_rules : Governor := by
  unfold Governor
  intro s
  refine ⟨fun w tj idle => ⟨?_, ?_, ?_⟩, fun w tj governs => ⟨_, if_pos governs, ?_⟩,
    fun w governs under hot95 hot100 flow dram => ⟨s.releaseStep.showGovernor, ?_, ?_⟩, fun w h => ?_, fun w up => ?_,
    fun w us up slow high long => ?_, fun w us h => ?_, fun tj governs => ⟨_, if_pos governs, ?_⟩, specRate_rows,
    fun mv tj h => specRate_outside h, fun tj ht free => ?_⟩
  · exact if_neg (by simp [idle])
  · exact if_neg (by simp [idle])
  · rw [exec_governorRelease, State.releases, idle]
    rfl
  · obtain ⟨mv, lowered, pace, paused, some⟩ := s.governorLoop_some w tj
    refine ⟨some.input, some.hottest, some.hot95, some.hot100, some.shows, fun hot => ?_, fun cool flow beyond =>
      ⟨fun above calm => ?_, fun floor room => ?_, fun floor top => ?_⟩, fun cool flow under dram calm =>
      ⟨fun below => ?_, fun above free room => ?_, fun there => ?_⟩⟩
    · obtain ⟨-, -, -, -, -, vcore, lowered, pace, paused⟩ := State.governorLoop_protects (w := w) hot
      exact ⟨vcore, pace, paused, lowered⟩
    · have loop := State.governorLoop_lowers cool flow beyond above calm
      exact ⟨loop.vcore, loop.lowered, loop.pace⟩
    · have loop := State.governorLoop_paces cool flow beyond floor room
      exact ⟨loop.pace, loop.vcore, loop.paused⟩
    · have loop := State.governorLoop_pauses cool flow beyond floor top
      exact ⟨loop.paused, loop.vcore⟩
    · exact (State.governorLoop_follows cool flow under dram).vcore.trans (State.followed_falls calm below)
    · exact (State.governorLoop_follows cool flow under dram).vcore.trans (State.followed_rises calm above free room)
    · exact (State.governorLoop_follows cool flow under dram).vcore.trans (State.followed_rests there)
  · rw [exec_governorRelease, if_pos]
    simp [State.releases, governs, under, hot95, hot100, flow, dram]
  · refine ⟨fun paused => ?_, fun running pace => ?_, fun running pace lowered below calm room => ?_⟩
    · rw [State.releaseStep_paused paused]
      exact ⟨rfl, State.showGovernor_get _ (by decide)⟩
    · rw [State.releaseStep_paced running pace]
      exact ⟨rfl, State.showGovernor_get _ (by decide)⟩
    · rw [State.releaseStep_lowered running pace lowered below calm room]
      refine ⟨(State.showGovernor_get _ (by decide)).trans ?_, rfl⟩
      exact (State.get_of_substance (State.setVcore_substance _ _) (by decide)).trans
        ((State.get_set _ _ _ _).trans (if_pos rfl))
  · rw [exec_governorRelease, if_neg]
    rcases h with h | h | h | h
    · simp [State.releases, h]
    all_goals simp [State.releases, h]
  · refine ⟨_, if_pos up, rfl, ?_, rfl⟩
    exact (State.get_set _ _ _ _).trans (if_pos rfl)
  · exact if_pos ⟨up, slow, high, long⟩
  · refine if_neg ?_
    rintro ⟨up, slow, high, long⟩
    rcases h with h | h | h | h
    · exact h up
    · rw [slow] at h
      cases h
    all_goals omega
  · have heat := s.heat_substance tj
    refine ⟨?_, State.power_of_substance heat, fun hot => State.showGovernor_hot (.inl ?_)⟩
    · refine (State.showGovernor_get _ (by decide)).trans ((State.get_of_substance heat (by decide)).trans ?_)
      exact (State.get_set _ _ _ _).trans (if_pos rfl)
    · rw [State.power_of_substance heat]
      exact decide_eq_true hot
  · subst ht
    exact State.beatRateNow_low free

end

section
/-! SUPPORT. Dips and margins (R27, R29, R30, R526, R527): what giving a slice up, the ladder and a fenced tile leave of the
power stages and of the tile itself. -/

open Sys2Proof Sys2Proof.Claims Sys2Proof.Machine

namespace Sys2Proof.Machine

/-- The tiles, the power stages and the margins counted: what the claims about dips and margins read. The tiles stand
first, so that `s.bench.2` says nothing of them. -/
def State.bench (s : State) : List (Nat × Tile) × Power × Nat := (s.tiles, s.power, s.recorder.marginLow)

theorem State.bench_of_substance {s u : State} (h : s.substance = u.substance) : s.bench = u.bench := by
  rw [State.bench, State.bench, State.tiles_of_substance h, State.power_of_substance h, State.marginLow_of_substance h]

theorem State.power_of_bench {s u : State} (h : s.bench.2 = u.bench.2) : s.power = u.power := congrArg Prod.fst h

@[simp] theorem State.set_bench (s : State) (k v : Nat) : (s.set k v).bench = s.bench := rfl
@[simp] theorem State.bump_bench (s : State) (k n : Nat) : (s.bump k n).bench = s.bench := rfl
@[simp] theorem State.raise_bench (s : State) (code : Nat) (arg : List Byte) : (s.raise code arg).bench = s.bench :=
  State.bench_of_substance (s.raise_substance code arg)
@[simp] theorem State.dirty_bench (s : State) (b : Nat) : (s.dirty b).bench = s.bench :=
  State.bench_of_substance (s.dirty_substance b)
@[simp] theorem State.setSuspect_bench (s : State) (t : Nat) (v : Suspect) : (s.setSuspect t v).bench = s.bench := rfl
@[simp] theorem State.setRepair_bench (s : State) (t : Nat) (w : Word) : (s.setRepair t w).bench = s.bench := rfl
@[simp] theorem State.onStrand_bench (s : State) (st : Nat) (f : Strand → Strand) : (s.onStrand st f).bench = s.bench := rfl
@[simp] theorem State.leaveBarriers_bench (s : State) (t : Nat) : (s.leaveBarriers t).bench = s.bench := rfl
@[simp] theorem State.skimFirst_bench (s : State) (t : Nat) : (s.skimFirst t).bench = s.bench := rfl

theorem State.setCheck_bench (s : State) (c : Check) : ({ s with check := c } : State).bench = s.bench := rfl

@[simp] theorem State.ite_bench (c : Prop) [Decidable c] (a b : State) :
    (if c then a else b).bench = if c then a.bench else b.bench := apply_ite State.bench c a b

@[simp] theorem State.setKept_bench (s : State) (k v : Nat) : (s.setKept k v).bench = s.bench := by
  simp [State.setKept]

@[simp] theorem State.applyTrim_bench (s : State) (t : Nat) : (s.applyTrim t).bench = s.bench := State.setKept_bench _ _ _

@[simp] theorem State.addCause_bench (s : State) (t b : Nat) : (s.addCause t b).bench = s.bench := State.setKept_bench _ _ _

@[simp] theorem State.closeP_bench (s : State) : s.closeP.bench = s.bench := by
  simp [State.closeP]

@[simp] theorem State.keepMstat_bench (s : State) (t : Nat) : (s.keepMstat t).bench = s.bench := by
  unfold State.keepMstat
  split <;> rfl

@[simp] theorem State.meet_bench (s : State) (t b : Nat) : (s.meet t b).bench = s.bench := by
  simp [State.meet]

/-! ### Slices given up -/

/-- No slice runs on the tile. -/
def State.sliceless (t : Nat) (s : State) : Prop := (s.tile t).skim.phase = .idle

@[simp] theorem State.abandonSlice_bench (s : State) (t : Nat) : (s.abandonSlice t).bench.2 = s.bench.2 := by
  unfold State.abandonSlice
  split <;> rfl

theorem State.abandonSlice_tile (s : State) (t u : Nat) : (s.abandonSlice t).tile u = s.tile u
    ∨ (s.abandonSlice t).tile u = (s.tile u).endSlice := by
  unfold State.abandonSlice
  split
  · exact .inl rfl
  · by_cases h : u = t
    · exact .inr ((s.tile_onTile t u _).trans (by rw [if_pos h, h]))
    · exact .inl ((s.tile_onTile t u _).trans (if_neg h))

theorem State.abandonSlice_sliceless (s : State) (t : Nat) : (s.abandonSlice t).sliceless t := by
  unfold State.abandonSlice
  split
  · assumption
  · have ended : ((s.onTile t Tile.endSlice).tile t).skim.phase = .idle := by
      rw [State.tile_onTile, if_pos rfl]
      rfl
    exact ended

theorem State.abandonSlice_keeps (s : State) (t u : Nat) (h : s.sliceless u) : (s.abandonSlice t).sliceless u := by
  rcases s.abandonSlice_tile t u with same | ended
  · rwa [State.sliceless, same]
  · rw [State.sliceless, ended]
    rfl

/-- Every slice is given up, and the power stages stand (R507). -/
theorem State.abandonAll_spec (s : State) : s.abandonAll.power = s.power ∧ ∀ t, t < 624 → s.abandonAll.sliceless t := by
  unfold State.abandonAll
  have stands := foldl_view (fun s => s.bench.2) (l := allSlots) (fun s t _ => s.abandonSlice_bench t) s
  refine ⟨State.power_of_bench stands, fun t ht => ?_⟩
  exact foldl_reaches (P := State.sliceless) (key := id) State.abandonSlice_keeps State.abandonSlice_sliceless
    (.inl (by simpa [allSlots] using ht))

/-! ### A tile in safe pacing, and the ladder -/

/-- The tile is in safe pacing, or has been taken out of use. -/
def State.guarded (s : State) (t : Nat) : Prop := (s.tile t).safe = true ∨ (s.tile t).enabled = false

/-- `u` is `s` with the power stages and the margins counted as they were, and a guarded tile still guarded. -/
structure Guards (t : Nat) (s u : State) : Prop where
  aside : u.bench.2 = s.bench.2
  guarded : s.guarded t → u.guarded t

namespace Guards

variable {t : Nat} {s u v : State}

theorem of_bench (h : u.bench = s.bench) : Guards t s u := by
  refine ⟨congrArg Prod.snd h, fun g => ?_⟩
  rwa [State.guarded, State.tile_congr (congrArg Prod.fst h)]

theorem trans (h : Guards t s u) (g : Guards t u v) : Guards t s v := ⟨g.aside.trans h.aside, g.guarded ∘ h.guarded⟩

/-- A further step that leaves `State.bench`. -/
theorem bench (h : Guards t s u) (e : v.bench = u.bench) : Guards t s v := h.trans (of_bench e)

theorem askTrim (s : State) (t step : Nat) : Guards t s (s.askTrim t step) := by
  have asked : Guards t s (s.onTile t fun x => { x with trimAsked := step }) := by
    refine ⟨rfl, fun g => ?_⟩
    rwa [State.guarded, State.tile_onTile, if_pos rfl]
  exact asked.bench (by simp [State.askTrim])

/-- A tile that is fenced is taken out of use (R482). -/
theorem fence (s : State) (t cause : Nat) : Guards t s (s.fence t cause) := by
  have cleared : Guards t s ((((s.keepMstat t).leaveBarriers t).abandonSlice t).onTile t Tile.cleared) := by
    refine ⟨?_, fun _ => .inr ?_⟩
    · refine (State.abandonSlice_bench _ t).trans (congrArg Prod.snd ?_)
      rw [State.leaveBarriers_bench, State.keepMstat_bench]
    · rw [State.tile_onTile, if_pos rfl]
      rfl
  unfold State.fence
  split
  · exact of_bench rfl
  · refine cleared.bench ?_
    dsimp only
    split
    · simp
    · rw [State.onStrand_bench, State.closeP_bench]
      exact (State.setCheck_bench _ _).trans (by simp)

/-- One rung up the ladder (R480). -/
theorem climb (s : State) (t cause : Nat) : Guards t s (s.climb t cause) := by
  unfold State.climb
  dsimp only
  split
  · have trimmed : Guards t s ((s.setSuspect t { s.suspect t with rung := 1 }).askTrim t (s.get (K.tileTrim t) + 1)) :=
      (of_bench (State.setSuspect_bench s t _)).trans (askTrim _ t _)
    refine trimmed.bench ?_
    split <;> simp
  · split
    · exact of_bench (by simp)
    · split
      · exact of_bench (by simp)
      · split
        · exact (of_bench (State.setSuspect_bench s t _)).trans (fence _ t cause)
        · exact of_bench rfl

theorem marginEntry (s : State) (t : Nat) : Guards t s (s.marginEntry t) := by
  unfold State.marginEntry
  dsimp only
  split
  · exact of_bench rfl
  · split
    · exact bench (of_bench (by simp)) rfl |>.trans (climb _ t _)
    · exact of_bench (by simp)

end Guards

/-- A tile that enters safe pacing counts once and is guarded, and the power stages stand (R30). -/
theorem State.paceSafe_spec (s : State) (t : Nat) : (s.paceSafe t).power = s.power ∧ (s.paceSafe t).guarded t
    ∧ (s.paceSafe t).recorder.marginLow = s.recorder.marginLow + 1 := by
  unfold State.paceSafe
  dsimp only
  generalize hu : State.onRecorder _ _ = u
  have entered : u.guarded t := by
    rw [← hu]
    refine .inl ?_
    change ((s.onTile t fun x => { x with safe := true }).tile t).safe = true
    rw [State.tile_onTile, if_pos rfl]
  have aside : u.bench.2 = (s.power, s.recorder.marginLow + 1) := by
    rw [← hu]
    rfl
  obtain ⟨same, guarded⟩ := (Guards.of_bench (u.raise_bench 0x01 [])).trans (Guards.marginEntry (u.raise 0x01 []) t)
  have counted := same.trans aside
  exact ⟨congrArg Prod.fst counted, guarded entered, congrArg Prod.snd counted⟩

/-! ### Readings -/

/-- A reading sets the margin of its own tile (R27). -/
theorem State.readMargins_margin (s : State) (t u : Nat) (m : Margins) :
    (s.readMargins t m).margin u = if u = t then m.least else s.margin u := by
  have read : look (fun _ => none) (s.readMargins t m).power.monitors u
      = if u = t then some (m.matrix, m.banks) else look (fun _ => none) s.power.monitors u :=
    look_put (fun _ => none) s.power.monitors t u (some (m.matrix, m.banks))
  rw [State.margin, State.margins, read]
  split <;> rfl

theorem State.margin_congr {s u : State} (h : u.power = s.power) (t : Nat) : u.margin t = s.margin t := by
  rw [State.margin, State.margin, State.margins, State.margins, h]

/-- A rail that falls under the warning level begins a dip (R526, R527). -/
def State.dipBegun (s : State) (row : Fin 24) (mv : Nat) : State :=
  ((s.dipFall row.val mv).raise 0x04 []).abandonAll.set K.pacingState 1

theorem exec_dipBegins {s : State} {row : Fin 24} {mv : Nat} (up : s.power.phase = .up) (low : mv < 620)
    (first : s.power.dip = none) : exec (.warningLevelFall row mv) s = .next (s.dipBegun row mv) := by
  refine (if_neg ?_).trans (if_neg ?_)
  · simp only [up, ne_eq, not_true_eq_false, false_or]
    omega
  · simp [State.dipping, first]

theorem State.set_sliceless {s : State} {t : Nat} (h : s.sliceless t) (k v : Nat) : (s.set k v).sliceless t := h

/-- A dip begins in safe pacing, with the reading as its first and no slice running (R526, R527). -/
theorem State.dipBegun_spec (s : State) (row : Fin 24) (mv : Nat) :
    (s.dipBegun row mv).power = (s.dipFall row.val mv).power ∧ (s.dipBegun row mv).get K.pacingState = 1
      ∧ ∀ t, t < 624 → (s.dipBegun row mv).sliceless t := by
  rw [State.dipBegun]
  refine ⟨?_, ?_, fun t ht => State.set_sliceless ((State.abandonAll_spec _).2 t ht) _ _⟩
  · rw [State.set_power, (State.abandonAll_spec _).1, State.power_of_substance (State.raise_substance _ _ _)]
  · rw [State.get_set, if_pos rfl]

/-- A tile's monitors are read, and its own safe pacing ends where the margin has been back for long enough (R30). -/
def State.recovered (s : State) (t : Slot) (m : Margins) (held : Nat) : State :=
  let u := s.readMargins t.val m
  if 12 ≤ m.least ∧ 200 ≤ held then u.onTile t.val fun x => { x with safe := false } else u

theorem exec_marginRecover {s : State} {t : Slot} (on : (s.tile t.val).enabled = true) (m : Margins) (held : Nat) :
    exec (.marginRecover t m held) s = .next (s.recovered t m held) := by
  refine (if_neg (by simp [on])).trans ?_
  rw [State.recovered]
  split <;> rfl

theorem State.recovered_power (s : State) (t : Slot) (m : Margins) (held : Nat) :
    (s.recovered t m held).power = (s.readMargins t.val m).power := by
  unfold State.recovered
  dsimp only
  split <;> rfl

theorem State.recovered_tile (s : State) (t : Slot) (m : Margins) (held u : Nat) : (s.recovered t m held).tile u
    = if u = t.val ∧ 12 ≤ m.least ∧ 200 ≤ held then { s.tile u with safe := false } else s.tile u := by
  unfold State.recovered
  dsimp only
  split
  · rename_i back
    rw [State.tile_onTile]
    by_cases own : u = t.val
    · rw [if_pos own, if_pos ⟨own, back⟩, own]
      rfl
    · rw [if_neg own, if_neg fun h => own h.1]
      rfl
  · rename_i low
    rw [if_neg fun h => low h.2]
    rfl

/-- Beside the tiles only readings change. -/
theorem State.recovered_rest (s : State) (t : Slot) (m : Margins) (held : Nat) : let u := s.recovered t m held
    { u with tiles := s.tiles } = { s with power := u.power, recorder := u.recorder } := by
  unfold State.recovered
  dsimp only
  split <;> rfl

/-! ### The end of a dip -/

theorem exec_safePacingExit {s : State} {d : Dip} (h : s.power.dip = some d) (held us : Nat) :
    exec (.safePacingExit held us) s = if 200 ≤ held then .next (s.endDip d us) else .next s := by
  change execSafePacingExit held us s = _
  rw [execSafePacingExit, h]

theorem exec_safePacingExit_none {s : State} (h : s.power.dip = none) (held us : Nat) :
    exec (.safePacingExit held us) s = .next s := by
  change execSafePacingExit held us s = _
  rw [execSafePacingExit, h]

@[simp] theorem State.gapRecord_substance (s : State) : s.gapRecord.substance = s.substance := by
  unfold State.gapRecord
  dsimp only
  split
  · rfl
  · exact (State.record_substance _ _ _).trans (State.recorder_substance rfl)

@[simp] theorem State.dipRecord_substance (s : State) (d : Dip) (us : Nat) : (s.dipRecord d us).substance = s.substance := by
  unfold State.dipRecord
  dsimp only
  split
  · exact State.recorder_substance rfl
  · exact State.writeRecord_substance _ _ _ _ _

/-- What the end of a dip leaves of power, pacing_state and the entries that tell of it (R527). -/
theorem State.endDip_spec (s : State) (d : Dip) (us : Nat) : let u := s.endDip d us
    u.power = { s.power with dip := none }
      ∧ u.get K.pacingState = (if s.get K.forceSafePacing = 1 then 2 else 0)
      ∧ (s.power.standby = none → u.get K.lastDipMin = d.min ∧ u.get K.lastDipDuration = us ∧ Counted s u K.dipCount 1) := by
  have held := State.heldTrims_substance ((s.onPower fun p => { p with dip := none }).set K.pacingState
    (if s.get K.forceSafePacing = 1 then 2 else 0))
  unfold State.endDip
  dsimp only
  generalize State.heldTrims _ = h at held ⊢
  have power : h.power = { s.power with dip := none } := State.power_of_substance held
  have pacing : h.get K.pacingState = (if s.get K.forceSafePacing = 1 then 2 else 0) :=
    (State.get_of_substance held (by decide)).trans ((State.get_set _ _ _ _).trans (if_pos rfl))
  split
  · rename_i reached
    refine ⟨power, pacing, fun none => ?_⟩
    rw [power, none] at reached
    cases reached
  · have told := (State.dipRecord_substance (State.gapRecord
      (((h.bump K.dipCount 1).set K.lastDipMin d.min).set K.lastDipDuration us)) d us).trans (State.gapRecord_substance _)
    have get : ∀ k, sideKey k = false → State.get _ k = _ := fun k side => State.get_of_substance told side
    refine ⟨(State.power_of_substance told).trans power, ?_, fun _ => ⟨?_, ?_, fun room => ?_⟩⟩
    · rw [get _ (by decide), State.get_set, if_neg (by decide), State.get_set, if_neg (by decide),
        State.get_bump_other _ _ _ (by decide), pacing]
    · rw [get _ (by decide), State.get_set, if_neg (by decide), State.get_set, if_pos rfl]
    · rw [get _ (by decide), State.get_set, if_pos rfl]
    · have count : h.get K.dipCount = s.get K.dipCount :=
        (State.get_of_substance held (by decide)).trans ((State.get_set _ _ _ _).trans (if_neg (by decide)))
      rw [get _ (by decide), State.get_set, if_neg (by decide), State.get_set, if_neg (by decide), ← count]
      exact State.get_bump_same h _ _ (by rwa [count])

end Sys2Proof.Machine

/-- Dips and margins keep to their rules (R27, R29, R30, R526, R527). -/
theorem dipsAndMargins_rules : DipsAndMargins := by
  unfold DipsAndMargins
  intro s
  refine ⟨fun row mv up low first => ⟨_, exec_dipBegins up low first, ?_⟩, fun row mv d up low under => ?_,
    fun row mv h => if_pos h, fun held us d under long => ⟨s.endDip d us, ?_, s.endDip_spec d us⟩, fun held us h => ?_,
    fun t m off => ⟨if_pos off, fun held => if_pos off⟩, fun t m on => ⟨fun low => ?_, fun fair => ?_, fun held => ?_⟩⟩
  · obtain ⟨power, pacing, sliceless⟩ := s.dipBegun_spec row mv
    refine ⟨?_, pacing, sliceless⟩
    rw [power, State.dipFall, first]
    rfl
  · refine (if_neg ?_).trans ((if_pos ?_).trans ?_)
    · simp only [up, ne_eq, not_true_eq_false, false_or]
      omega
    · simp [State.dipping, under]
    · rw [State.dipFall, under]
      rfl
  · exact (exec_safePacingExit under held us).trans (if_pos long)
  · cases dip : s.power.dip with
    | none => exact exec_safePacingExit_none dip held us
    | some d =>
      rw [dip] at h
      exact (exec_safePacingExit dip held us).trans (if_neg (by simpa using h))
  · obtain ⟨power, guarded, counted⟩ := (s.readMargins t.val m).paceSafe_spec t.val
    have margin : (s.readMargins t.val m).margin t.val = m.least := by
      rw [State.readMargins_margin, if_pos rfl]
    cases pacing : (s.tile t.val).safe with
    | true => exact ⟨s.readMargins t.val m, (if_neg (by simp [on])).trans (if_pos (.inr pacing)), margin, .inl pacing,
        fun _ => rfl, nofun⟩
    | false =>
      refine ⟨(s.readMargins t.val m).paceSafe t.val, (if_neg (by simp [on])).trans (if_neg ?_),
        (State.margin_congr power _).trans margin, guarded, nofun, fun _ => counted⟩
      have unpaced : ((s.readMargins t.val m).tile t.val).safe = false := pacing
      simpa [unpaced] using low
  · refine ⟨s.readMargins t.val m, (if_neg (by simp [on])).trans (if_pos (.inl fair)), ?_, fun u other => ?_, rfl⟩
    · rw [State.readMargins_margin, if_pos rfl]
    · rw [State.readMargins_margin, if_neg other]
  · have margin : ∀ u, (s.recovered t m held).margin u = if u = t.val then m.least else s.margin u := fun u =>
      (State.margin_congr (s.recovered_power t m held) u).trans (s.readMargins_margin t.val u m)
    refine ⟨_, exec_marginRecover on m held, ?_, ?_, fun u other => ?_, fun u other => ?_, ?_⟩
    · rw [margin, if_pos rfl]
    · rw [State.recovered_tile]
      simp only [true_and]
    · rw [margin, if_neg other]
    · exact (State.recovered_tile _ _ _ _ _).trans (if_neg fun h => other h.1)
    · exact s.recovered_rest t m held

/-- Settles O52: the governor by `governor_rules`, dips and margins by `dipsAndMargins_rules`. -/
theorem powerControl : Obligations.PowerControl := ⟨governor_rules, dipsAndMargins_rules⟩

end

section
/-! SUPPORT. Words of tile instructions as sums of fields, and the decoder that reads them back (O18). -/

open Sys2Proof Sys2Proof.Claims Sys2Proof.Machine

namespace Sys2Proof.Machine

/-! ### Layouts of a word -/

theorem total_eq_sum (l : List Nat) : total l = l.sum := List.sum_eq_foldl.symm

@[simp] theorem b2n_le_one (b : Bool) : b2n b ≤ 1 := by cases b <;> decide

/-- Fields as value, lowest bit and width, that cover the bits below `hi` from the top down, each value within its width. -/
def Cover : Nat → List (Nat × Nat × Nat) → Prop
  | hi, [] => hi = 0
  | hi, (v, lo, n) :: r => hi = lo + n ∧ v < 2 ^ n ∧ Cover lo r

theorem Cover.total_lt {hi : Nat} {fs : List (Nat × Nat × Nat)} (h : Cover hi fs) :
    total (fs.map fun f => f.1 * 2 ^ f.2.1) < 2 ^ hi := by
  induction fs generalizing hi with
  | nil => simp [total]
  | cons f r ih =>
    obtain ⟨v, lo, n⟩ := f
    obtain ⟨rfl, hv, hr⟩ := h
    have hlow := ih hr
    rw [total_eq_sum] at hlow ⊢
    calc v * 2 ^ lo + (r.map fun f => f.1 * 2 ^ f.2.1).sum < (v + 1) * 2 ^ lo := by rw [Nat.succ_mul]; omega
      _ ≤ 2 ^ n * 2 ^ lo := Nat.mul_le_mul_right _ hv
      _ = 2 ^ (lo + n) := by rw [pow_add, Nat.mul_comm]

/-- A sum of fields is a number's low part exactly where each field is the number's. -/
theorem total_eq_mod_iff {hi : Nat} {fs : List (Nat × Nat × Nat)} (h : Cover hi fs) (x : Nat) :
    total (fs.map fun f => f.1 * 2 ^ f.2.1) = x % 2 ^ hi ↔ ∀ f ∈ fs, x / 2 ^ f.2.1 % 2 ^ f.2.2 = f.1 := by
  induction fs generalizing hi with
  | nil =>
    obtain rfl : hi = 0 := h
    simp [total, Nat.mod_one]
  | cons f r ih =>
    obtain ⟨v, lo, n⟩ := f
    obtain ⟨rfl, hv, hr⟩ := h
    have hlow := hr.total_lt
    have hx := Nat.mod_lt x (Nat.two_pow_pos lo)
    rw [List.forall_mem_cons, ← ih hr, pow_add, Nat.mod_mul]
    rw [total_eq_sum] at hlow ⊢
    rw [total_eq_sum, List.map_cons, List.sum_cons]
    constructor
    · intro e
      have e' := congrArg (· / 2 ^ lo) e
      have e'' := congrArg (· % 2 ^ lo) e
      simp only [Nat.add_mul_div_left _ _ (Nat.two_pow_pos lo), Nat.div_eq_of_lt hx, Nat.add_mul_mod_self_left,
        Nat.mod_mod, Nat.mul_comm v, Nat.add_comm (2 ^ lo * v), Nat.div_eq_of_lt hlow, Nat.mod_eq_of_lt hlow,
        Nat.zero_add] at e' e''
      exact ⟨e'.symm, e''⟩
    · rintro ⟨hv, e⟩
      rw [e, ← hv, Nat.mul_comm, Nat.add_comm]

/-- A word that sums fields is `w` exactly where each field is `w`'s. -/
theorem ofNat_total_eq_iff {fs : List (Nat × Nat × Nat)} (h : Cover 32 fs) (w : Word) :
    BitVec.ofNat 32 (total (fs.map fun f => f.1 * 2 ^ f.2.1)) = w ↔ ∀ f ∈ fs, (wf w f.2.1 f.2.2).toNat = f.1 := by
  simp only [wf, BitVec.toNat_ofNat, ← total_eq_mod_iff h, Nat.mod_eq_of_lt w.isLt]
  rw [← BitVec.toNat_inj, BitVec.toNat_ofNat, Nat.mod_eq_of_lt h.total_lt]

theorem word4_eq_iff {op : Nat} {fs : List (Nat × Nat × Nat)} (hop : op < 64) (h : Cover 26 fs) (w : Word) :
    word4 op (fs.map fun f => (f.1, f.2.1)) = w
      ↔ (wf w 26 6).toNat = op ∧ ∀ f ∈ fs, (wf w f.2.1 f.2.2).toNat = f.1 := by
  have key := ofNat_total_eq_iff (fs := (op, 26, 6) :: fs) ⟨rfl, hop, h⟩ w
  rw [List.forall_mem_cons, List.map_cons, total_eq_sum, List.sum_cons, ← total_eq_sum] at key
  rwa [word4, List.map_map]
/-! ### The layout of every instruction -/

def TokOp.fields (o : TokOp) (sub : Nat) : List (Nat × Nat × Nat) :=
  [(o.su.toNat, 24, 2), (sub, 22, 2), (o.ra.toNat, 17, 5), (o.tval.toNat, 9, 8), (o.rb.toNat, 4, 5), (o.rsv.toNat, 0, 4)]

def RecvOp.fields (o : RecvOp) (sub : Nat) : List (Nat × Nat × Nat) :=
  [(o.rd.toNat, 21, 5), (o.rm.toNat, 16, 5), (b2n o.rotate, 15, 1), (b2n o.nb, 14, 1), (sub, 12, 2), (o.rsv.toNat, 4, 8),
    (o.qimm.toNat, 0, 4)]

def HandleOp.fields (o : HandleOp) (sub : Nat) : List (Nat × Nat × Nat) :=
  [(o.h.toNat, 20, 6), (o.h2.toNat, 14, 6), (sub, 11, 3), (o.ra.toNat, 6, 5), (o.rb.toNat, 1, 5), (o.rsv.toNat, 0, 1)]

/-- OP and the fields of word 0: value, lowest bit and width (R88 to R103). -/
def Tis.layout : Tis → Nat × List (Nat × Nat × Nat)
  | .alu f rd ra rb rsv =>
    (0x00, [(rd.toNat, 21, 5), (ra.toNat, 16, 5), (rb.toNat, 11, 5), (rsv.toNat, 4, 7), (f.code, 0, 4)])
  | .alui f rd ra imm => (0x01, [(rd.toNat, 21, 5), (ra.toNat, 16, 5), (imm.toNat, 4, 12), (f.code, 0, 4)])
  | .load f rd base imm => (0x02, [(rd.toNat, 21, 5), (base.toNat, 16, 5), (imm.toNat, 4, 12), (f.code, 0, 4)])
  | .store f rd base imm => (0x03, [(rd.toNat, 21, 5), (base.toNat, 16, 5), (imm.toNat, 4, 12), (f.code, 0, 4)])
  | .branch f ra rb off => (0x04, [(ra.toNat, 21, 5), (rb.toNat, 16, 5), (off.toNat, 3, 13), (f.code, 0, 3)])
  | .jal rd off => (0x05, [(rd.toNat, 21, 5), (b2n false, 20, 1), (off.toNat, 0, 20)])
  | .jr rd ra rsv => (0x05, [(rd.toNat, 21, 5), (b2n true, 20, 1), (ra.toNat, 15, 5), (rsv.toNat, 0, 15)])
  | .lui rd rsv imm => (0x06, [(rd.toNat, 21, 5), (rsv.toNat, 20, 1), (imm.toNat, 0, 20)])
  | .lseti lc opnd => (0x08, [(lc.toNat, 22, 4), (0, 19, 3), (opnd.toNat, 0, 19)])
  | .lsetr lc r rsv => (0x08, [(lc.toNat, 22, 4), (1, 19, 3), (r.toNat, 14, 5), (rsv.toNat, 0, 14)])
  | .loop lc off => (0x08, [(lc.toNat, 22, 4), (2, 19, 3), (off.toNat, 0, 19)])
  | .linc lc imm => (0x08, [(lc.toNat, 22, 4), (3, 19, 3), (imm.toNat, 0, 19)])
  | .lget lc r rsv => (0x08, [(lc.toNat, 22, 4), (4, 19, 3), (r.toNat, 14, 5), (rsv.toNat, 0, 14)])
  | .lbz lc off => (0x08, [(lc.toNat, 22, 4), (5, 19, 3), (off.toNat, 0, 19)])
  | .toki o => (0x09, o.fields 0)
  | .tokr o => (0x09, o.fields 1)
  | .tokl o => (0x09, o.fields 2)
  | .tstat o => (0x09, o.fields 3)
  | .send o => (0x0C, [(o.rds.toNat, 21, 5), (o.rdst.toNat, 16, 5), (o.rlen.toNat, 11, 5), (o.h.toNat, 5, 6),
      (b2n o.cnet, 4, 1), (b2n o.reply, 3, 1), (b2n o.pri, 2, 1), (o.rsv.toNat, 0, 2)])
  | .recvsel o => (0x0D, o.fields 0)
  | .qrel o => (0x0D, o.fields 1)
  | .mmb o => (0x10, [(o.ha.toNat, 20, 6), (o.hb.toNat, 14, 6), (o.hc.toNat, 8, 6), (o.rsv75.toNat, 5, 3),
      (o.g.toNat, 3, 2), (o.rsv20.toNat, 0, 3)])
  | .vec f o => (0x11, [(f.code, 20, 6), (o.vd.toNat, 17, 3), (o.va.toNat, 14, 3), (o.vb.toNat, 11, 3),
      (o.vc.toNat, 8, 3), (o.ty.toNat, 6, 2), (o.rsv.toNat, 0, 6)])
  | .hset o => (0x14, o.fields 0)
  | .hget o => (0x14, o.fields 1)
  | .hswap o => (0x14, o.fields 2)
  | .hfill o => (0x14, o.fields 3)
  | .hunfill o => (0x14, o.fields 4)
  | .hinv o => (0x14, o.fields 5)
  | .fence r m n s rsv => (0x18, [(b2n r, 25, 1), (b2n m, 24, 1), (b2n n, 23, 1), (b2n s, 22, 1), (rsv.toNat, 0, 22)])
  | .bar b rsv => (0x19, [(b.toNat, 20, 6), (rsv.toNat, 0, 20)])
  | .halt rd ra csr => (0x1F, [(rd.toNat, 21, 5), (ra.toNat, 16, 5), (csr.toNat, 4, 12), (0, 0, 4)])
  | .csrr rd ra csr => (0x1F, [(rd.toNat, 21, 5), (ra.toNat, 16, 5), (csr.toNat, 4, 12), (1, 0, 4)])
  | .csrw rd ra csr => (0x1F, [(rd.toNat, 21, 5), (ra.toNat, 16, 5), (csr.toNat, 4, 12), (2, 0, 4)])
  | .trap rd ra csr => (0x1F, [(rd.toNat, 21, 5), (ra.toNat, 16, 5), (csr.toNat, 4, 12), (3, 0, 4)])

/-- JAL leaves bit 20, its sub-code, out of its sum; every other word is written with all its fields. -/
theorem Tis.word_eq_layout (i : Tis) : i.word = word4 i.layout.1 (i.layout.2.map fun f => (f.1, f.2.1)) := by
  cases i with
  | jal rd off =>
    simp only [Tis.layout, Tis.word, word4, total_eq_sum, List.map_cons, List.map_nil, List.sum_cons, b2n,
      Bool.false_eq_true, if_false, Nat.zero_mul, Nat.zero_add]
  | _ => rfl

theorem AluFn.code_lt (f : AluFn) : f.code < 16 := by cases f <;> decide
theorem LoadFn.code_lt (f : LoadFn) : f.code < 16 := by cases f <;> decide
theorem StoreFn.code_lt (f : StoreFn) : f.code < 16 := by cases f <;> decide
theorem BranchFn.code_lt (f : BranchFn) : f.code < 8 := by cases f <;> decide
theorem VecFn.code_lt (f : VecFn) : f.code < 64 := by cases f <;> decide

theorem Tis.layout_cover (i : Tis) : i.layout.1 < 64 ∧ Cover 26 i.layout.2 := by
  cases i <;>
    simp [Tis.layout, Cover, TokOp.fields, RecvOp.fields, HandleOp.fields, AluFn.code_lt, LoadFn.code_lt, StoreFn.code_lt,
      BranchFn.code_lt, VecFn.code_lt] <;>
    omega

/-- A word is an instruction's word 0 exactly where it has its OP and each of its fields. -/
theorem Tis.word_eq_iff (i : Tis) (w : Word) :
    i.word = w ↔ (wf w 26 6).toNat = i.layout.1 ∧ ∀ f ∈ i.layout.2, (wf w f.2.1 f.2.2).toNat = f.1 := by
  rw [Tis.word_eq_layout]
  exact word4_eq_iff i.layout_cover.1 i.layout_cover.2 w

/-- The fields of word 1, for the two instructions that have one (R89, and the encoding table after R598). -/
def Tis.layout1 : Tis → List (Nat × Nat × Nat)
  | .mmb o => [(o.fmtA.toNat, 28, 4), (o.fmtB.toNat, 24, 4), (o.cfmt.toNat, 22, 2), (b2n o.ta, 21, 1), (b2n o.tb, 20, 1),
      (b2n o.acc, 19, 1), (b2n o.gmode, 18, 1), (b2n o.hmode, 17, 1), (o.rsv1.toNat, 0, 17)]
  | .vec _ o => [(o.h.toNat, 26, 6), (o.offset.toNat, 0, 26)]
  | _ => []

/-- A word is an instruction's word 1 exactly where it has each of its fields. -/
theorem Tis.word1_eq_iff {i : Tis} (two : i.words = 2) (v : Word) :
    i.word1 = v ↔ ∀ f ∈ i.layout1, (wf v f.2.1 f.2.2).toNat = f.1 := by
  have cover : Cover 32 i.layout1 := by
    cases i <;> simp [Tis.words] at two <;> simp [Tis.layout1, Cover] <;> omega
  rw [← ofNat_total_eq_iff cover]
  cases i <;> simp [Tis.words] at two <;>
    simp only [Tis.word1, Tis.layout1, fld, List.map_cons, List.map_nil, total, List.foldl_cons, List.foldl_nil,
      Nat.zero_add, Nat.mod_eq_of_lt (BitVec.isLt _), pow_zero, Nat.mul_one]

/-! ### Functions and their codes -/

theorem code_of_getElem? {α : Type} {l : List α} {code : α → Nat} (hl : l.map code = List.range l.length) {n : Nat} {f : α}
    (h : l[n]? = some f) : code f = n := by
  have hc : (List.range l.length)[n]? = some (code f) := by rw [← hl, List.getElem?_map, h, Option.map_some]
  obtain ⟨_, e⟩ := List.getElem?_eq_some_iff.1 hc
  rw [← e, List.getElem_range]

@[simp] theorem aluOf_code (f : AluFn) : aluOf f.code = some f := by cases f <;> rfl
@[simp] theorem loadOf_code (f : LoadFn) : loadOf f.code = some f := by cases f <;> rfl
@[simp] theorem storeOf_code (f : StoreFn) : storeOf f.code = some f := by cases f <;> rfl
@[simp] theorem branchOf_code (f : BranchFn) : branchOf f.code = some f := by cases f <;> rfl
@[simp] theorem vecOf_code (f : VecFn) : vecOf f.code = some f := by cases f <;> rfl

theorem code_of_aluOf {n : Nat} {f : AluFn} (h : aluOf n = some f) : f.code = n :=
  code_of_getElem? (code := AluFn.code) rfl h

theorem code_of_storeOf {n : Nat} {f : StoreFn} (h : storeOf n = some f) : f.code = n :=
  code_of_getElem? (code := StoreFn.code) rfl h

theorem code_of_branchOf {n : Nat} {f : BranchFn} (h : branchOf n = some f) : f.code = n :=
  code_of_getElem? (code := BranchFn.code) rfl h

theorem code_of_loadOf {n : Nat} {f : LoadFn} (h : loadOf n = some f) : f.code = n := by
  have hn : n < 6 := by
    by_contra hn
    rw [loadOf, List.getD_eq_default _ _ (by simpa using hn)] at h
    simp at h
  interval_cases n <;> simp [loadOf] at h <;> subst h <;> rfl

theorem code_of_vecOf {n : Nat} {f : VecFn} (h : vecOf n = some f) : f.code = n := by
  simpa using List.find?_some h

/-! ### Words to instructions and back -/

@[simp] theorem wf_one_eq_b2n (w : Word) (lo : Nat) (b : Bool) : (wf w lo 1).toNat = b2n b ↔ w.getLsbD lo = b := by
  rw [BitVec.getLsbD, Nat.testBit_eq_decide_div_mod_eq, b2n, wf, BitVec.toNat_ofNat]
  rcases Nat.mod_two_eq_zero_or_one (w.toNat / 2 ^ lo) with h | h <;> cases b <;> simp [h]

theorem Tis.ofWords_word (i : Tis) : Tis.ofWords i.word i.word1 = some i := by
  obtain ⟨hop, hf⟩ := (i.word_eq_iff i.word).1 rfl
  have hf1 := fun two => (Tis.word1_eq_iff (i := i) two i.word1).1 rfl
  generalize i.word = w, i.word1 = v at *
  cases i <;>
    simp [Tis.layout, TokOp.fields, RecvOp.fields, HandleOp.fields, BitVec.toNat_inj] at hop hf <;>
    simp [Tis.words, Tis.layout1, BitVec.toNat_inj] at hf1 <;>
    simp [Tis.ofWords, counterOf, tokenOf, handleTisOf, systemOf, sendOf, tokOf, recvOf, handleOpOf, mmbOf, vecOpOf, hop,
      hf, hf1]

/-- An instruction that words decode to has its fields from them. -/
theorem Tis.layout_of_ofWords {w v : Word} {i : Tis} (h : Tis.ofWords w v = some i) :
    ((wf w 26 6).toNat = i.layout.1 ∧ ∀ f ∈ i.layout.2, (wf w f.2.1 f.2.2).toNat = f.1)
      ∧ ∀ f ∈ i.layout1, (wf v f.2.1 f.2.2).toNat = f.1 := by
  unfold Tis.ofWords at h
  split at h
  case h_1 hop | h_2 hop =>
    obtain ⟨f, hf, rfl⟩ := Option.map_eq_some_iff.1 h
    simp [Tis.layout, Tis.layout1, hop, code_of_aluOf hf]
  case h_3 hop =>
    obtain ⟨f, hf, rfl⟩ := Option.map_eq_some_iff.1 h
    simp [Tis.layout, Tis.layout1, hop, code_of_loadOf hf]
  case h_4 hop =>
    obtain ⟨f, hf, rfl⟩ := Option.map_eq_some_iff.1 h
    simp [Tis.layout, Tis.layout1, hop, code_of_storeOf hf]
  case h_5 hop =>
    obtain ⟨f, hf, rfl⟩ := Option.map_eq_some_iff.1 h
    simp [Tis.layout, Tis.layout1, hop, code_of_branchOf hf]
  case h_13 hop =>
    obtain ⟨f, hf, rfl⟩ := Option.map_eq_some_iff.1 h
    simp [Tis.layout, Tis.layout1, hop, code_of_vecOf hf, vecOpOf]
  case h_6 hop =>
    obtain rfl := Option.some.inj h
    split <;> simp_all [Tis.layout, Tis.layout1]
  case h_8 hop =>
    unfold counterOf at h
    split at h <;> simp at h <;> subst h <;> simp_all [Tis.layout, Tis.layout1]
  case h_9 hop =>
    obtain rfl := Option.some.inj h
    unfold tokenOf
    split
    case h_4 h0 h1 h2 =>
      rw [imp_false] at h0 h1 h2
      have sub : (wf w 22 2).toNat = 3 := by omega
      simp [Tis.layout, Tis.layout1, TokOp.fields, tokOf, hop, sub]
    all_goals simp [Tis.layout, Tis.layout1, TokOp.fields, tokOf, *]
  case h_11 hop =>
    split at h <;> simp at h <;> subst h <;> simp_all [Tis.layout, Tis.layout1, RecvOp.fields, recvOf]
  case h_14 hop =>
    unfold handleTisOf at h
    split at h <;> simp at h <;> subst h <;> simp_all [Tis.layout, Tis.layout1, HandleOp.fields, handleOpOf]
  case h_17 hop =>
    unfold systemOf at h
    split at h <;> simp at h <;> subst h <;> simp_all [Tis.layout, Tis.layout1]
  case h_18 => cases h
  all_goals
    obtain rfl := Option.some.inj h
    simp [Tis.layout, Tis.layout1, sendOf, mmbOf, *]

end Sys2Proof.Machine

/-- Settles O18: word 0 and word 1 are sums of fields that cover them, so a word is an instruction's exactly where each field
is, and the decoder reads each field where the layout has it. -/
theorem tileEncoding : Obligations.TileEncoding := by
  refine ⟨Tis.ofWords_word, fun w v i h => ?_⟩
  obtain ⟨h0, h1⟩ := Tis.layout_of_ofWords h
  exact ⟨(i.word_eq_iff w).2 h0, fun two => (Tis.word1_eq_iff two v).2 h1⟩

end

section
/-! SUPPORT. What a command that issues a tile instruction does, from what the instruction does within its tile: the words of
the claims (`Leaves`, `Writes`, `Moves`, `Faults`, `Waits`) each from `Tile.local`. -/

open Sys2Proof Sys2Proof.Claims Sys2Proof.Machine

namespace Sys2Proof.Machine

/-! ### Issue -/

theorem exec_instruction {c : Instr} {t : Slot} {i : Tis} (h : instruction c = some (t, i)) (s : State) :
    exec c s = .next (s.issue t.val i) := by
  unfold instruction at h
  split at h <;> cases h <;> rfl

/-- What an instruction does that is legal and waits for no register. -/
def State.acts (s : State) (t : Nat) (i : Tis) : State :=
  match s.regTarget t i with
  | some (o, v) => s.issueReg t i o v
  | none =>
    match i with
    | .bar b _ => s.barIssue t b
    | .halt _ _ _ => s.haltStage t
    | .trap _ _ csr => s.issueFault t .trap i csr.toNat
    | .csrw _ _ csr => s.issueFault t (if csr.toNat % 4 ≠ 0 then .alignFault else .addressFault) i 0
    | _ => s.issueLocal t i

theorem State.issue_acts {s : State} {t : Slot} {i : Tis} (on : Issues s t) (legal : i.legal = true)
    (usable : Usable s t i.reads) : s.issue t.val i = s.acts t.val i := by
  obtain ⟨enabled, running⟩ := on
  have free : i.reads.any ((s.tile t.val).core.held.contains ·) = false :=
    List.any_eq_false.2 fun r hr => ne_true_of_eq_false (usable r hr)
  unfold State.issue
  rw [if_pos (by simp [enabled, running])]
  unfold State.issueNow
  rw [if_neg (by simp [legal]), if_neg (ne_true_of_eq_false free)]
  rfl

/-- Instructions that do all they do within their tile and write no control register of it. -/
def Tis.plain : Tis → Bool
  | .store _ _ _ _ | .bar _ _ | .halt _ _ _ | .trap _ _ _ | .csrw _ _ _ => false
  | _ => true

theorem State.acts_plain (s : State) (t : Nat) {i : Tis} (h : i.plain = true) : s.acts t i = s.issueLocal t i := by
  cases i with
  | store | bar | halt | trap | csrw => cases h
  | _ => rfl

theorem State.acts_register {s : State} {t : Nat} {i : Tis} {o : Nat} {v : Word} (h : s.regTarget t i = some (o, v)) :
    s.acts t i = s.issueReg t i o v := by
  unfold State.acts
  rw [h]

theorem State.acts_store {s : State} {t : Nat} {f : StoreFn} {d base : BitVec 5} {imm : BitVec 12}
    (h : s.regTarget t (.store f d base imm) = none) : s.acts t (.store f d base imm) = s.issueLocal t (.store f d base imm) := by
  unfold State.acts
  rw [h]

/-- What an instruction leaves that its tile neither stops at nor sends with. -/
theorem State.issueLocal_setTile {s : State} {t : Nat} {i : Tis} {x : Tile} (done : (s.tile t).local (s.ctx t) i = x)
    (goes : x.core.run ≠ .faulted) (still : x.units.mu.length ≤ (s.tile t).units.mu.length) :
    s.issueLocal t i = s.setTile t x := by
  rw [State.issueLocal, done, State.countNoTarget_same _ _ _ still, State.settle, if_neg (by simpa [State.tile_setTile] using goes)]

theorem State.issueLocal_fault {s : State} {t : Nat} {i : Tis} {code : FaultCode} {arg : Nat} {x : Tile}
    (done : (s.tile t).local (s.ctx t) i = x.fail code i arg) (still : x.units = (s.tile t).units) :
    s.issueLocal t i = (s.setTile t (x.fail code i arg)).stopTile t := by
  rw [State.issueLocal, done, State.countNoTarget_same _ _ _ (by simp [Tile.fail, still]), State.settle,
    if_pos (by simp [State.tile_setTile, Tile.fail])]

/-! ### The words of the claims -/

theorem onlyTile_setTile (s : State) (t : Slot) (x : Tile) : OnlyTile s (s.setTile t.val x) t :=
  ⟨fun u hu => by rw [State.tile_setTile, if_neg hu], rfl⟩

theorem leaves_setTile {c : Instr} {s : State} {t : Slot} {x : Tile} (h : exec c s = .next (s.setTile t.val x)) :
    Leaves c s t x :=
  ⟨_, h, by rw [State.tile_setTile, if_pos rfl], onlyTile_setTile s t x⟩

theorem ends_of_leaves {c : Instr} {s : State} {t : Slot} {x : Tile} {P : State → Prop} (h : Leaves c s t x)
    (hP : ∀ s', s'.tile t.val = x → OnlyTile s s' t → P s') : Ends c s P := by
  obtain ⟨s', run, tile, only⟩ := h
  exact ⟨s', run, hP s' tile only⟩

theorem writes_of_leaves {c : Instr} {s : State} {t : Slot} {rd : BitVec 5} {v : Word} {pc : Int}
    (h : Leaves c s t (((s.tile t.val).setReg rd v).setPc pc)) : Writes c s t rd v pc :=
  ends_of_leaves h fun s' tile only => by
    rw [tile]
    refine ⟨?_, rfl, ⟨fun r hr => ?_, rfl⟩, only⟩
    · exact (Tile.reg_setReg _ _ _ _).trans (if_pos rfl)
    · exact (Tile.reg_setReg _ _ _ _).trans (if_neg hr)

theorem moves_of_leaves {c : Instr} {s : State} {t : Slot} {pc : Int} (h : Leaves c s t ((s.tile t.val).setPc pc)) :
    Moves c s t pc :=
  ends_of_leaves h fun s' tile only => by
    rw [tile]
    exact ⟨rfl, rfl, only⟩

/-- An instruction that stays within its tile leaves it as `Tile.local` says. -/
theorem leaves_of_local {c : Instr} {s : State} {t : Slot} {i : Tis} {x : Tile} (named : instruction c = some (t, i))
    (on : Issues s t) (plain : i.plain = true) (legal : i.legal = true) (usable : Usable s t i.reads)
    (done : (s.tile t.val).local (s.ctx t.val) i = x) (goes : x.core.run ≠ .faulted)
    (still : x.units.mu.length ≤ (s.tile t.val).units.mu.length) : Leaves c s t x :=
  leaves_setTile <| by
    rw [exec_instruction named, State.issue_acts on legal usable, State.acts_plain _ _ plain,
      State.issueLocal_setTile done goes still]

/-- One that it stops faults. -/
theorem faults_of_local {c : Instr} {s : State} {t : Slot} {i : Tis} {code : FaultCode} {arg : Nat}
    (named : instruction c = some (t, i)) (on : Issues s t) (plain : i.plain = true) (legal : i.legal = true)
    (usable : Usable s t i.reads) (done : (s.tile t.val).local (s.ctx t.val) i = (s.tile t.val).fail code i arg) :
    Faults c s t code i arg := by
  rw [Faults, exec_instruction named, State.issue_acts on legal usable, State.acts_plain _ _ plain,
    State.issueLocal_fault done rfl]
  rfl

/-! ### Stalls -/

theorem Tile.stall_untimed {x : Tile} (running : x.core.run = .running) (i : Tis) (now limit : Nat) :
    x.stall i false now limit = x.setRun (.stalled i false) := by
  unfold Tile.stall
  rw [running]
  rfl

theorem Tile.stall_timed {x : Tile} (running : x.core.run = .running) (i : Tis) (now limit : Nat) :
    x.stall i true now limit
      = { x with core := { x.core with run := .stalled i true, stallStart := now, stallLimitUs := limit } } := by
  unfold Tile.stall
  rw [running]
  rfl

/-- An instruction that a check holds waits under the limit in force (R129). -/
theorem waits_of_local {c : Instr} {s : State} {t : Slot} {i : Tis} (named : instruction c = some (t, i)) (on : Issues s t)
    (plain : i.plain = true) (legal : i.legal = true) (usable : Usable s t i.reads)
    (done : (s.tile t.val).local (s.ctx t.val) i
      = (s.tile t.val).stall i true (s.ctx t.val).now (s.ctx t.val).limitUs) : Waits c s t i :=
  leaves_of_local named on plain legal usable (done.trans (Tile.stall_timed on.2 i _ _)) nofun (Nat.le_refl _)

end Sys2Proof.Machine
end

section
/-! What stands before every instruction (R60, R87, R105). -/

open Sys2Proof Sys2Proof.Claims Sys2Proof.Machine

/-- Settles O4: every tile instruction is `State.issue`, whose first two checks these are. -/
theorem instructionGate : Obligations.InstructionGate := by
  intro c s t i named
  refine ⟨fun off => ?_, fun on illegal => ?_, fun on legal ⟨r, hr, held⟩ => leaves_setTile ?_⟩
  · rw [exec_instruction named, State.issue_idle]
    by_contra h
    rw [not_or, Bool.not_eq_false, not_not] at h
    exact off h
  · rw [Faults, exec_instruction named, State.issue, if_pos (by simp [on.1, on.2])]
    unfold State.issueNow
    rw [if_pos (by simp [illegal])]
    rfl
  · rw [exec_instruction named, State.issue, if_pos (by simp [on.1, on.2])]
    unfold State.issueNow
    rw [if_neg (by simp [legal]), if_pos (List.any_eq_true.2 ⟨r, hr, held⟩), State.onTile, Tile.stall_untimed on.2]

end

section
/-! SUPPORT. The scalar functions as arithmetic on numbers (R88), and the counters (R101). -/

open Sys2Proof Sys2Proof.Claims Sys2Proof.Machine

namespace Sys2Proof.Machine

/-! ### The functions as arithmetic -/

theorem aluFn_add (a b : Word) : aluFn .add a b = BitVec.ofInt 32 (a.toInt + b.toInt) := by
  rw [BitVec.ofInt_add, BitVec.ofInt_toInt, BitVec.ofInt_toInt]; rfl

theorem aluFn_sub (a b : Word) : aluFn .sub a b = BitVec.ofInt 32 (a.toInt - b.toInt) := by
  refine BitVec.eq_of_toInt_eq ?_
  rw [aluFn, BitVec.toInt_sub, BitVec.toInt_ofInt]

theorem aluFn_mul (a b : Word) : aluFn .mul a b = BitVec.ofInt 32 (a.toInt * b.toInt) := by
  rw [BitVec.ofInt_mul, BitVec.ofInt_toInt, BitVec.ofInt_toInt]; rfl

theorem aluFn_shl (a b : Word) : aluFn .shl a b = BitVec.ofNat 32 (a.toNat * 2 ^ (b.toNat % 32)) := by
  rw [← BitVec.toNat_inj, aluFn, BitVec.toNat_shiftLeft, BitVec.toNat_ofNat, Nat.shiftLeft_eq]

theorem aluFn_shr (a b : Word) : aluFn .shr a b = BitVec.ofNat 32 (a.toNat / 2 ^ (b.toNat % 32)) := by
  rw [← BitVec.toNat_inj, aluFn, BitVec.toNat_ushiftRight, BitVec.toNat_ofNat, Nat.shiftRight_eq_div_pow,
    Nat.mod_eq_of_lt ((Nat.div_le_self _ _).trans_lt a.isLt)]

theorem aluFn_sra (a b : Word) : aluFn .sra a b = BitVec.ofInt 32 (a.toInt / 2 ^ (b.toNat % 32)) := by
  rw [aluFn, BitVec.sshiftRight, Int.shiftRight_eq_div_pow, Nat.cast_pow, Nat.cast_ofNat]

theorem aluFn_slt (a b : Word) : aluFn .slt a b = flag (a.toInt < b.toInt) := by
  simp [aluFn, flag, BitVec.slt_iff_toInt_lt]

theorem aluFn_sltu (a b : Word) : aluFn .sltu a b = flag (a.toNat < b.toNat) := by
  simp [aluFn, flag, BitVec.ult_iff_toNat_lt]

theorem aluFn_min (a b : Word) : aluFn .min a b = BitVec.ofInt 32 (min a.toInt b.toInt) := by
  by_cases h : b.toInt < a.toInt
  · rw [aluFn, if_pos (BitVec.slt_iff_toInt_lt.2 h), min_eq_right h.le, BitVec.ofInt_toInt]
  · rw [aluFn, if_neg (mt BitVec.slt_iff_toInt_lt.1 h), min_eq_left (not_lt.1 h), BitVec.ofInt_toInt]

theorem aluFn_max (a b : Word) : aluFn .max a b = BitVec.ofInt 32 (max a.toInt b.toInt) := by
  by_cases h : a.toInt < b.toInt
  · rw [aluFn, if_pos (BitVec.slt_iff_toInt_lt.2 h), max_eq_right h.le, BitVec.ofInt_toInt]
  · rw [aluFn, if_neg (mt BitVec.slt_iff_toInt_lt.1 h), max_eq_left (not_lt.1 h), BitVec.ofInt_toInt]

theorem aluFn_minu (a b : Word) : aluFn .minu a b = BitVec.ofNat 32 (min a.toNat b.toNat) := by
  by_cases h : b.toNat < a.toNat
  · rw [aluFn, if_pos (BitVec.ult_iff_toNat_lt.2 h), min_eq_right h.le, BitVec.ofNat_toNat, BitVec.setWidth_eq]
  · rw [aluFn, if_neg (mt BitVec.ult_iff_toNat_lt.1 h), min_eq_left (not_lt.1 h), BitVec.ofNat_toNat, BitVec.setWidth_eq]

theorem aluFn_maxu (a b : Word) : aluFn .maxu a b = BitVec.ofNat 32 (max a.toNat b.toNat) := by
  by_cases h : a.toNat < b.toNat
  · rw [aluFn, if_pos (BitVec.ult_iff_toNat_lt.2 h), max_eq_right h.le, BitVec.ofNat_toNat, BitVec.setWidth_eq]
  · rw [aluFn, if_neg (mt BitVec.ult_iff_toNat_lt.1 h), max_eq_left (not_lt.1 h), BitVec.ofNat_toNat, BitVec.setWidth_eq]

/-- The register forms are `aluFn`. -/
theorem aluFn_of_row {t : Slot} {rd ra rb : BitVec 5} {p : Instr × (Word → Word → Word)} (h : p ∈ aluRows t rd ra rb) :
    ∃ f, instruction p.1 = some (t, .alu f rd ra rb 0) ∧ ∀ a b, aluFn f a b = p.2 a b := by
  simp only [aluRows, List.mem_cons, List.not_mem_nil, or_false] at h
  rcases h with rfl | rfl | rfl | rfl | rfl | rfl | rfl | rfl | rfl | rfl | rfl | rfl | rfl | rfl | rfl
  · exact ⟨.add, rfl, fun a b => by simp [aluFn, BitVec.ofNat_add]⟩
  · exact ⟨.sub, rfl, aluFn_sub⟩
  · exact ⟨.and, rfl, fun _ _ => rfl⟩
  · exact ⟨.or, rfl, fun _ _ => rfl⟩
  · exact ⟨.xor, rfl, fun _ _ => rfl⟩
  · exact ⟨.shl, rfl, aluFn_shl⟩
  · exact ⟨.shr, rfl, aluFn_shr⟩
  · exact ⟨.sra, rfl, aluFn_sra⟩
  · exact ⟨.mul, rfl, fun a b => by simp [aluFn, BitVec.ofNat_mul]⟩
  · exact ⟨.slt, rfl, aluFn_slt⟩
  · exact ⟨.sltu, rfl, aluFn_sltu⟩
  · exact ⟨.min, rfl, aluFn_min⟩
  · exact ⟨.max, rfl, aluFn_max⟩
  · exact ⟨.minu, rfl, aluFn_minu⟩
  · exact ⟨.maxu, rfl, aluFn_maxu⟩

/-! ### IMM12, extended as the function says -/

theorem toInt_signExtend_imm (imm : BitVec 12) : (imm.signExtend 32).toInt = imm.toInt :=
  BitVec.toInt_signExtend_of_le (by decide)

theorem zeroExtend_imm (imm : BitVec 12) : imm.zeroExtend 32 = BitVec.ofNat 32 imm.toNat := (BitVec.ofNat_toNat ..).symm

theorem toNat_zeroExtend_imm (imm : BitVec 12) : (imm.zeroExtend 32).toNat = imm.toNat :=
  (BitVec.toNat_setWidth ..).trans (Nat.mod_eq_of_lt (by omega))

theorem shiftAmount_imm (imm : BitVec 12) : ((imm.zeroExtend 32) &&& 31).toNat % 32 = imm.toNat % 32 := by
  rw [BitVec.toNat_and, toNat_zeroExtend_imm, show (31 : Word).toNat = 2 ^ 5 - 1 from rfl, Nat.and_two_pow_sub_one_eq_mod]
  exact Nat.mod_mod _ _

/-- The immediate forms are `aluFn` of the extended IMM12; SUB has none. -/
theorem aluFn_of_immediate_row {t : Slot} {rd ra : BitVec 5} {imm : BitVec 12} {p : Instr × (Word → Word)}
    (h : p ∈ aluiRows t rd ra imm) :
    ∃ f, instruction p.1 = some (t, .alui f rd ra imm) ∧ f ≠ .sub ∧ ∀ a, aluFn f a (aluImm f imm) = p.2 a := by
  simp only [aluiRows, List.mem_cons, List.not_mem_nil, or_false] at h
  rcases h with rfl | rfl | rfl | rfl | rfl | rfl | rfl | rfl | rfl | rfl | rfl | rfl | rfl | rfl
  · exact ⟨.add, rfl, nofun, fun a => (aluFn_add a _).trans (by rw [aluImm, toInt_signExtend_imm]; all_goals nofun)⟩
  · exact ⟨.and, rfl, nofun, fun a => congrArg (a &&& ·) (zeroExtend_imm imm)⟩
  · exact ⟨.or, rfl, nofun, fun a => congrArg (a ||| ·) (zeroExtend_imm imm)⟩
  · exact ⟨.xor, rfl, nofun, fun a => congrArg (a ^^^ ·) (zeroExtend_imm imm)⟩
  · exact ⟨.shl, rfl, nofun, fun a => (aluFn_shl a _).trans (by rw [aluImm, shiftAmount_imm])⟩
  · exact ⟨.shr, rfl, nofun, fun a => (aluFn_shr a _).trans (by rw [aluImm, shiftAmount_imm])⟩
  · exact ⟨.sra, rfl, nofun, fun a => (aluFn_sra a _).trans (by rw [aluImm, shiftAmount_imm])⟩
  · exact ⟨.mul, rfl, nofun, fun a => (aluFn_mul a _).trans (by rw [aluImm, toInt_signExtend_imm]; all_goals nofun)⟩
  · exact ⟨.slt, rfl, nofun, fun a => (aluFn_slt a _).trans (by rw [aluImm, toInt_signExtend_imm]; all_goals nofun)⟩
  · exact ⟨.sltu, rfl, nofun, fun a => (aluFn_sltu a _).trans (by rw [aluImm, toNat_zeroExtend_imm])⟩
  · exact ⟨.min, rfl, nofun, fun a => (aluFn_min a _).trans (by rw [aluImm, toInt_signExtend_imm]; all_goals nofun)⟩
  · exact ⟨.max, rfl, nofun, fun a => (aluFn_max a _).trans (by rw [aluImm, toInt_signExtend_imm]; all_goals nofun)⟩
  · exact ⟨.minu, rfl, nofun, fun a => (aluFn_minu a _).trans (by rw [aluImm, toNat_zeroExtend_imm])⟩
  · exact ⟨.maxu, rfl, nofun, fun a => (aluFn_maxu a _).trans (by rw [aluImm, toNat_zeroExtend_imm])⟩

/-! ### Branches -/

theorem branchTaken_of_row {t : Slot} {ra rb : BitVec 5} {off : BitVec 13} {p : Instr × (Word → Word → Prop)}
    (h : p ∈ branchRows t ra rb off) :
    ∃ f, instruction p.1 = some (t, .branch f ra rb off) ∧ ∀ a b, branchTaken f a b = true ↔ p.2 a b := by
  simp only [branchRows, List.mem_cons, List.not_mem_nil, or_false] at h
  rcases h with rfl | rfl | rfl | rfl | rfl | rfl
  · exact ⟨.beq, rfl, fun _ _ => decide_eq_true_iff⟩
  · exact ⟨.bne, rfl, fun _ _ => decide_eq_true_iff⟩
  · exact ⟨.blt, rfl, fun _ _ => BitVec.slt_iff_toInt_lt⟩
  · exact ⟨.bge, rfl, fun a b => by simp [branchTaken, ← Bool.not_eq_true, BitVec.slt_iff_toInt_lt]⟩
  · exact ⟨.bltu, rfl, fun _ _ => BitVec.ult_iff_toNat_lt⟩
  · exact ⟨.bgeu, rfl, fun a b => by simp [branchTaken, ← Bool.not_eq_true, BitVec.ult_iff_toNat_lt]⟩

/-! ### Within the tile -/

section
variable {c : Instr} {s : State} {t : Slot} {i : Tis} {rd : BitVec 5} {v : Word} {pc : Int}

/-- A running tile's instruction that only writes a register and moves on. -/
theorem writes_of_local (named : instruction c = some (t, i)) (on : Issues s t) (plain : i.plain = true)
    (legal : i.legal = true) (usable : Usable s t i.reads)
    (done : (s.tile t.val).local (s.ctx t.val) i = ((s.tile t.val).setReg rd v).setPc pc) : Writes c s t rd v pc :=
  writes_of_leaves (leaves_of_local named on plain legal usable done (ne_of_eq_of_ne on.2 nofun) (Nat.le_refl _))

theorem moves_of_local (named : instruction c = some (t, i)) (on : Issues s t) (plain : i.plain = true)
    (legal : i.legal = true) (usable : Usable s t i.reads)
    (done : (s.tile t.val).local (s.ctx t.val) i = (s.tile t.val).setPc pc) : Moves c s t pc :=
  moves_of_leaves (leaves_of_local named on plain legal usable done (ne_of_eq_of_ne on.2 nofun) (Nat.le_refl _))

end

theorem registerArithmetic : RegisterArithmetic := by
  intro s t rd ra rb on usable p hp
  obtain ⟨f, named, value⟩ := aluFn_of_row hp
  refine writes_of_local named on rfl rfl usable ?_
  rw [Tile.local, Tile.setRun_running on.2, Tile.execAlu, value]
  rfl

theorem immediateArithmetic : ImmediateArithmetic := by
  refine ⟨fun s t rd ra imm on usable p hp => ?_, fun s t rd imm on => ?_⟩
  · obtain ⟨f, named, noSub, value⟩ := aluFn_of_immediate_row hp
    refine writes_of_local named on rfl (decide_eq_true noSub) usable ?_
    rw [Tile.local, Tile.setRun_running on.2, Tile.execAlui, value]
    rfl
  · refine writes_of_local rfl on rfl rfl nofun ?_
    have value : imm ++ (0 : BitVec 12) = BitVec.ofNat 32 (imm.toNat * 4096) := by
      rw [← BitVec.toNat_inj, BitVec.toNat_append, BitVec.toNat_ofNat, Nat.shiftLeft_eq]
      simp
      omega
    rw [Tile.local, Tile.setRun_running on.2, Tile.execLui, ← value]
    rfl

theorem branchTargets : BranchTargets := by
  intro s t ra rb off on usable p hp
  obtain ⟨f, named, taken⟩ := branchTaken_of_row hp
  constructor <;> intro holds <;> refine moves_of_local named on rfl rfl usable ?_
  · rw [Tile.local, Tile.setRun_running on.2, Tile.execBranch, if_pos ((taken _ _).2 holds)]
    rfl
  · rw [Tile.local, Tile.setRun_running on.2, Tile.execBranch, if_neg (mt (taken _ _).1 holds)]
    rfl

theorem jumpAndLink : JumpAndLink := by
  intro s t rd on
  have link : BitVec.ofInt 32 (here s t + 1) = BitVec.ofNat 32 ((s.tile t.val).core.pc.toNat + 1) :=
    BitVec.ofInt_natCast 32 ((s.tile t.val).core.pc.toNat + 1)
  refine ⟨fun off => writes_of_local rfl on rfl rfl nofun ?_, fun ra usable => writes_of_local rfl on rfl rfl usable ?_⟩
  · rw [Tile.local, Tile.setRun_running on.2, link]
    rfl
  · rw [Tile.local, Tile.setRun_running on.2, link]
    rfl

/-! ### Loop counters -/

theorem Tile.execLoop_eq (x : Tile) (lc : BitVec 4) (off : BitVec 19) :
    x.execLoop lc off = (x.setLc lc (BitVec.ofNat 24 ((x.lc lc).toNat - 1))).setPc
      (x.core.pc.toNat + if 1 < (x.lc lc).toNat then off.toInt else 1) := by
  have lowered : (if x.lc lc = 0 then x.lc lc else x.lc lc - 1) = BitVec.ofNat 24 ((x.lc lc).toNat - 1) := by
    split <;> bv_omega
  have taken : BitVec.ofNat 24 ((x.lc lc).toNat - 1) = 0 ↔ ¬ 1 < (x.lc lc).toNat := by bv_omega
  unfold Tile.execLoop
  simp only [lowered, taken]
  by_cases more : 1 < (x.lc lc).toNat
  · rw [if_neg (not_not.2 more), if_pos more]
    rfl
  · rw [if_pos more, if_neg more]
    rfl

/-- A counter set, and the program counter moved. -/
theorem Tile.setLc_setPc_frame (x : Tile) (lc : BitVec 4) (w : BitVec 24) (i : Int) :
    let y := (x.setLc lc w).setPc i
    y.lc lc = w ∧ (∀ d, d ≠ lc → y.lc d = x.lc d)
      ∧ { y with core := { y.core with lcs := x.core.lcs, pc := x.core.pc } } = x ∧ y.core.pc = pcTo i :=
  ⟨(Tile.lc_setLc _ _ _ _).trans (if_pos rfl), fun _ hd => (Tile.lc_setLc _ _ _ _).trans (if_neg hd), rfl, rfl⟩

theorem Tile.execLinc_eq (x : Tile) (lc : BitVec 4) (k : BitVec 19) :
    ∃ w : BitVec 24, x.execLinc lc k = (x.setLc lc w).setPc (x.core.pc.toNat + 1)
      ∧ (w.toNat : Int) = max 0 (min 16777215 ((x.lc lc).toNat + k.toInt)) := by
  refine ⟨_, rfl, ?_⟩
  rw [BitVec.toNat_ofNat]
  split
  · omega
  · split <;> omega

theorem loopCounters : LoopCounters := by
  intro s t lc on
  have run := Tile.setRun_running on.2
  have goes : (s.tile t.val).core.run ≠ .faulted := ne_of_eq_of_ne on.2 nofun
  refine ⟨fun k => leaves_of_local rfl on rfl rfl nofun ?_ goes (Nat.le_refl _),
    fun r usable => leaves_of_local rfl on rfl rfl usable ?_ goes (Nat.le_refl _),
    fun k => ends_of_leaves (leaves_of_local rfl on rfl rfl nofun rfl ?_ ?_) fun s' tile only => ?_,
    fun off => leaves_of_local rfl on rfl rfl nofun ?_ goes (Nat.le_refl _),
    fun r => writes_of_local rfl on rfl rfl nofun ?_, fun off => moves_of_local rfl on rfl rfl nofun ?_⟩
  · rw [Tile.local, run, Tile.execLseti, BitVec.ofNat_toNat]
    rfl
  · rw [Tile.local, run, Tile.execLsetr, BitVec.ofNat_toNat]
    rfl
  · rw [Tile.local, run]
    exact goes
  · rw [Tile.local, run]
    exact Nat.le_refl _
  · rw [Tile.local, run] at tile
    obtain ⟨w, linc, count⟩ := (s.tile t.val).execLinc_eq lc k
    obtain ⟨set, others, rest, pc⟩ := (s.tile t.val).setLc_setPc_frame lc w ((s.tile t.val).core.pc.toNat + 1)
    rw [tile, linc]
    exact ⟨by rw [set, count], others, rest, pc, only⟩
  · rw [Tile.local, run, Tile.execLoop_eq]
    rfl
  · rw [Tile.local, run, Tile.execLget, BitVec.ofNat_toNat]
    rfl
  · rw [Tile.local, run, Tile.execLbz]
    have zero : (s.tile t.val).lc lc = 0 ↔ ((s.tile t.val).lc lc).toNat = 0 := by bv_omega
    simp only [zero]
    split <;> rfl

end Sys2Proof.Machine

/-- Settles O33, class by class. -/
theorem scalarCore : Obligations.ScalarCore :=
  ⟨⟨registerArithmetic, immediateArithmetic⟩, branchTargets, jumpAndLink, loopCounters⟩

end

section
/-! SUPPORT. The scratchpad of a tile: bytes and fill marks after a write, the lines of a range, and numbers as bytes
(R107, R124, R125). -/

open Sys2Proof Sys2Proof.Claims Sys2Proof.Machine

namespace Sys2Proof.Machine

/-! ### Numbers as bytes -/

theorem getD_leBytes {n k : Nat} (v : Nat) (h : k < n) : (leBytes n v).getD k 0 = BitVec.ofNat 8 (v / 256 ^ k) := by
  induction n generalizing k v with
  | zero => omega
  | succ n ih =>
    cases k with
    | zero => simp [leBytes]
    | succ k =>
      rw [leBytes, List.getD_cons_succ, ih _ (Nat.lt_of_succ_lt_succ h), Nat.div_div_eq_div_mul, pow_succ, Nat.mul_comm]

theorem leNat_leBytes (n v : Nat) : leNat (leBytes n v) = v % 256 ^ n := by
  induction n generalizing v with
  | zero => simp [leBytes, leNat, Nat.mod_one]
  | succ n ih => rw [leBytes, leNat, ih, pow_succ, Nat.mul_comm (256 ^ n), Nat.mod_mul, BitVec.toNat_ofNat]

theorem leBytes_eq_map (n v : Nat) : leBytes n v = (List.range n).map fun k => BitVec.ofNat 8 (v / 256 ^ k) := by
  refine List.ext_getElem (by simp [leBytes_length]) fun k hk _ => ?_
  rw [leBytes_length] at hk
  rw [← List.getD_eq_getElem (d := 0), getD_leBytes v hk]
  simp

/-! ### What moving on leaves -/

/-! These are not `rfl` to `simp`: comparing a moved tile with the one before by definition compares their program counters,
and `pcTo` of a sum does not reduce. -/

@[simp] theorem Tile.setPc_run (t : Tile) (i : Int) : (t.setPc i).core.run = t.core.run := by unfold Tile.setPc; rfl
@[simp] theorem Tile.setPc_units (t : Tile) (i : Int) : (t.setPc i).units = t.units := by unfold Tile.setPc; rfl

theorem Tile.adv_here {s : State} {t : Slot} {x : Tile} (h : x.core.pc = (s.tile t.val).core.pc) :
    x.adv 1 = x.setPc (here s t + 1) := by
  rw [Tile.adv, h, here, Nat.cast_one]

/-! ### Bytes and fill marks -/

theorem Tile.byte_setByte (t : Tile) (a b : Nat) (v : Byte) : (t.setByte a v).byte b = if b = a then v else t.byte b :=
  look_put _ _ a b v

theorem Tile.filled_setFill (t : Tile) (l k : Nat) (v : Bool) : (t.setFill l v).filled k = if k = l then v else t.filled k :=
  look_put _ _ l k v

theorem Tile.byte_write (t : Tile) (a : Nat) (bs : List Byte) (b : Nat) :
    (t.write a bs).byte b = if a ≤ b ∧ b < a + bs.length then bs.getD (b - a) 0 else t.byte b := by
  induction bs generalizing t a with
  | nil => simp [Tile.write]
  | cons x xs ih =>
    rw [Tile.write, ih, Tile.byte_setByte, List.length_cons]
    rcases Nat.lt_trichotomy b a with below | rfl | above
    · rw [if_neg (by omega), if_neg (by omega), if_neg (by omega)]
    · simp
    · obtain ⟨k, rfl⟩ := Nat.exists_eq_add_of_lt above
      rw [show a + k + 1 - a = k + 1 by omega, show a + k + 1 - (a + 1) = k by omega, List.getD_cons_succ,
        if_neg (show ¬ a + k + 1 = a by omega)]
      exact if_congr (by omega) rfl rfl

theorem Tile.filled_markLines (t : Tile) (v : Bool) (ls : List Nat) (l : Nat) :
    (t.markLines v ls).filled l = if l ∈ ls then v else t.filled l := by
  unfold Tile.markLines
  induction ls generalizing t with
  | nil => simp
  | cons k ks ih =>
    rw [List.foldl_cons, ih, Tile.filled_setFill]
    by_cases hl : l ∈ ks <;> by_cases hk : l = k <;> simp [hl, hk]

theorem mem_linesOf {a n l : Nat} : l ∈ linesOf a n ↔ 0 < n ∧ a / 64 ≤ l ∧ l ≤ (a + n - 1) / 64 := by
  unfold linesOf lineOf
  by_cases h : n = 0
  · simp [h]
  · rw [if_neg h]
    simp only [List.mem_map, List.mem_range]
    constructor
    · rintro ⟨i, hi, rfl⟩
      omega
    · exact fun ⟨_, lo, hi⟩ => ⟨l - a / 64, by omega, by omega⟩

/-- A write changes bytes and nothing else. -/
theorem Tile.write_eq (t : Tile) (a : Nat) (bs : List Byte) :
    ∃ B, t.write a bs = { t with pad := { t.pad with bytes := B } } := by
  induction bs generalizing t a with
  | nil => exact ⟨t.pad.bytes, rfl⟩
  | cons x xs ih =>
    obtain ⟨B, hB⟩ := ih (t.setByte a x) (a + 1)
    exact ⟨B, hB⟩

/-- Marks change fill marks and nothing else. -/
theorem Tile.markLines_eq (t : Tile) (v : Bool) (ls : List Nat) :
    ∃ F, t.markLines v ls = { t with pad := { t.pad with fill := F } } := by
  unfold Tile.markLines
  induction ls generalizing t with
  | nil => exact ⟨t.pad.fill, rfl⟩
  | cons k ks ih =>
    obtain ⟨F, hF⟩ := ih (t.setFill k v)
    exact ⟨F, hF⟩

theorem Tile.land_eq (t : Tile) (a : Nat) (bs : List Byte) :
    ∃ B F, t.land a bs = { t with pad := { t.pad with bytes := B, fill := F } } := by
  obtain ⟨B, hB⟩ := t.write_eq a bs
  obtain ⟨F, hF⟩ := (t.write a bs).markLines_eq true (linesOf a bs.length)
  exact ⟨B, F, hF.trans (by rw [hB])⟩

theorem Tile.byte_markLines (t : Tile) (v : Bool) (ls : List Nat) (b : Nat) : (t.markLines v ls).byte b = t.byte b := by
  obtain ⟨F, hF⟩ := t.markLines_eq v ls
  rw [hF]
  rfl

theorem Tile.filled_write (t : Tile) (a : Nat) (bs : List Byte) (l : Nat) : (t.write a bs).filled l = t.filled l := by
  obtain ⟨B, hB⟩ := t.write_eq a bs
  rw [hB]
  rfl

theorem Tile.byte_land (t : Tile) (a : Nat) (bs : List Byte) (b : Nat) :
    (t.land a bs).byte b = if a ≤ b ∧ b < a + bs.length then bs.getD (b - a) 0 else t.byte b :=
  (Tile.byte_markLines ..).trans (t.byte_write a bs b)

theorem Tile.filled_land (t : Tile) (a : Nat) (bs : List Byte) (l : Nat) :
    (t.land a bs).filled l = if l ∈ linesOf a bs.length then true else t.filled l := by
  rw [Tile.land, Tile.filled_markLines, Tile.filled_write]

end Sys2Proof.Machine
end

section
/-! SUPPORT. Loads and stores (R61, R62, R88, R127): the address, the value of a load, what a store leaves. -/

open Sys2Proof Sys2Proof.Claims Sys2Proof.Machine

namespace Sys2Proof.Machine

theorem Tile.ea_eq_address (s : State) (t : Slot) (base : BitVec 5) (imm : BitVec 12) :
    (s.tile t.val).ea base imm = address s t base imm := by
  rw [Tile.ea, address, ← toInt_signExtend_imm, ← aluFn_add]
  rfl

theorem toNat_append_byte {n : Nat} (h : BitVec n) (l : Byte) : (h ++ l).toNat = l.toNat + 256 * h.toNat := by
  rw [BitVec.toNat_append, ← Nat.shiftLeft_add_eq_or_of_lt l.isLt, Nat.shiftLeft_eq]
  omega

theorem ofNat_leNat_pair (a b : Byte) : BitVec.ofNat 16 (leNat [a, b]) = b ++ a := by
  rw [← BitVec.toNat_inj, toNat_append_byte, BitVec.toNat_ofNat]
  simp only [leNat]
  omega

theorem ofNat_leNat_word (a b c d : Byte) : BitVec.ofNat 32 (leNat [a, b, c, d]) = d ++ c ++ b ++ a := by
  rw [← BitVec.toNat_inj, toNat_append_byte, toNat_append_byte, toNat_append_byte, BitVec.toNat_ofNat]
  simp only [leNat]
  omega

theorem loadVal_eq_loaded (f : LoadFn) (b : Nat → Byte) : loadVal f ((List.range f.size).map b) = loaded f b := by
  cases f with
  | lb => exact congrArg (BitVec.signExtend 32) (show BitVec.ofNat 8 ((b 0).toNat + 256 * 0) = b 0 by simp)
  | lbu => exact BitVec.ofNat_toNat 32 (b 0)
  | lh => exact congrArg (BitVec.signExtend 32) (ofNat_leNat_pair (b 0) (b 1))
  | lhu =>
    rw [loaded, ← ofNat_leNat_pair, ← BitVec.toNat_inj, BitVec.toNat_setWidth]
    simp [LoadFn.size, List.range_succ, loadVal, leNat]
    omega
  | lw => exact ofNat_leNat_word (b 0) (b 1) (b 2) (b 3)

theorem mapM_eq_some_map {α β : Type} {f : α → Option β} {g : α → β} (l : List α) (h : ∀ x ∈ l, f x = some (g x)) :
    l.mapM f = some (l.map g) := by
  induction l with
  | nil => rfl
  | cons x xs ih =>
    rw [List.mapM_cons, h x List.mem_cons_self, ih fun y hy => h y (List.mem_cons_of_mem _ hy)]
    rfl

/-- What a mapped load outside the scratchpad reads. -/
theorem Tile.outerBytes_eq {x : Ctx} {t : Tile} {a n : Nat} {b : Nat → Byte}
    (h : ∀ k, k < n → t.outerByte x (a + k) = some (b k)) : t.outerBytes x a n = some ((List.range n).map b) :=
  mapM_eq_some_map _ fun k hk => h k (List.mem_range.1 hk)

/-- One whose first byte is unmapped reads nothing. -/
theorem Tile.outerBytes_none {x : Ctx} {t : Tile} {a n : Nat} (some_ : 0 < n) (h : t.outerByte x a = none) :
    t.outerBytes x a n = none := by
  obtain ⟨n, rfl⟩ := Nat.exists_eq_add_of_lt some_
  simp [Tile.outerBytes, List.range_succ_eq_map, List.mapM_cons, h]

theorem load_of_row {t : Slot} {rd base : BitVec 5} {imm : BitVec 12} {p : Instr × LoadFn} (h : p ∈ loadRows t rd base imm) :
    instruction p.1 = some (t, .load p.2 rd base imm) := by
  simp only [loadRows, List.mem_cons, List.not_mem_nil, or_false] at h
  rcases h with rfl | rfl | rfl | rfl | rfl <;> rfl

theorem store_of_row {t : Slot} {data base : BitVec 5} {imm : BitVec 12} {p : Instr × StoreFn}
    (h : p ∈ storeRows t data base imm) : instruction p.1 = some (t, .store p.2 data base imm) := by
  simp only [storeRows, List.mem_cons, List.not_mem_nil, or_false] at h
  rcases h with rfl | rfl | rfl <;> rfl

theorem LoadFn.size_pos (f : LoadFn) : 0 < f.size := by cases f <;> decide

/-! ### Loads -/

section
variable {x : Ctx} {t : Tile} {i : Tis} {f : LoadFn} {rd base : BitVec 5} {imm : BitVec 12}

theorem Tile.execLoad_misaligned (h : t.ea base imm % f.size ≠ 0) : t.execLoad x i f rd base imm = t.fail .alignFault i 0 :=
  if_pos h

theorem Tile.execLoad_unmapped (aligned : t.ea base imm % f.size = 0)
    (low : t.ea base imm < 0x300000 → padMapped t.pad.bankOk (t.ea base imm) = false)
    (high : 0x300000 ≤ t.ea base imm → t.outerByte x (t.ea base imm) = none) :
    t.execLoad x i f rd base imm = t.fail .addressFault i 0 := by
  unfold Tile.execLoad
  rw [if_neg (not_not.2 aligned)]
  by_cases inside : t.ea base imm < 0x300000
  · rw [if_pos inside, if_pos (low inside)]
  · rw [if_neg inside, Tile.outerBytes_none f.size_pos (high (not_lt.1 inside))]

theorem Tile.execLoad_scratchpad (aligned : t.ea base imm % f.size = 0) (low : t.ea base imm < 0x300000)
    (mapped : padMapped t.pad.bankOk (t.ea base imm) = true) :
    t.execLoad x i f rd base imm
      = t.guard i x.now x.limitUs (t.sbCheck [[(t.ea base imm, f.size)]] [] 0) fun r =>
        (r.setReg rd (loaded f fun k => r.byte (t.ea base imm + k))).adv 1 := by
  unfold Tile.execLoad
  rw [if_neg (not_not.2 aligned), if_pos low, if_neg (ne_false_of_eq_true mapped)]
  simp only [Tile.read, loadVal_eq_loaded]

theorem Tile.execLoad_outer {b : Nat → Byte} (aligned : t.ea base imm % f.size = 0) (high : 0x300000 ≤ t.ea base imm)
    (read : ∀ k, k < f.size → t.outerByte x (t.ea base imm + k) = some (b k)) :
    t.execLoad x i f rd base imm = ((t.setRun .running).setReg rd (loaded f b)).adv 1 := by
  unfold Tile.execLoad
  rw [if_neg (not_not.2 aligned), if_neg (not_lt.2 high), Tile.outerBytes_eq read, ← loadVal_eq_loaded]

end

theorem loads : Loads := by
  intro s t rd base imm on usable p hp x a aligned
  have named := load_of_row hp
  have here_ := Tile.ea_eq_address s t base imm
  refine ⟨fun low mapped go => ?_, fun high b read => ?_⟩ <;> refine writes_of_local named on rfl rfl usable ?_
  · refine (Tile.execLoad_scratchpad (by rwa [here_]) (by rwa [here_]) (by rwa [here_])).trans ?_
    rw [here_, go, Tile.guard, Tile.setRun_running on.2]
    rfl
  · refine (Tile.execLoad_outer (by rwa [here_]) (by rwa [here_]) (by rwa [here_])).trans ?_
    rw [Tile.setRun_running on.2]
    rfl

/-! ### Stores -/

section
variable {x : Ctx} {t : Tile} {i : Tis} {f : StoreFn} {data base : BitVec 5} {imm : BitVec 12}

theorem Tile.execStore_misaligned (h : t.ea base imm % f.size ≠ 0) :
    t.execStore x i f data base imm = t.fail .alignFault i 0 := if_pos h

theorem Tile.execStore_unmapped (aligned : t.ea base imm % f.size = 0)
    (low : t.ea base imm < 0x300000 → padMapped t.pad.bankOk (t.ea base imm) = false
      ∨ t.standing (lineOf (t.ea base imm)) = true) :
    t.execStore x i f data base imm = t.fail .addressFault i 0 := by
  unfold Tile.execStore
  rw [if_neg (not_not.2 aligned)]
  by_cases inside : t.ea base imm < 0x300000
  · rw [if_pos inside, if_pos (low inside)]
  · rw [if_neg inside]

theorem Tile.execStore_scratchpad (aligned : t.ea base imm % f.size = 0) (low : t.ea base imm < 0x300000)
    (mapped : padMapped t.pad.bankOk (t.ea base imm) = true) (free : t.standing (lineOf (t.ea base imm)) = false) :
    t.execStore x i f data base imm
      = t.guard i x.now x.limitUs (t.sbCheck [] [[(t.ea base imm, f.size)]] 0) fun r =>
        (r.land (t.ea base imm) (leBytes f.size (r.reg data).toNat)).adv 1 := by
  unfold Tile.execStore
  rw [if_neg (not_not.2 aligned), if_pos low, if_neg (by simp [mapped, free])]

end

/-- A store to no control register does what it does within its tile. -/
theorem leaves_of_store {c : Instr} {s : State} {t : Slot} {f : StoreFn} {data base : BitVec 5} {imm : BitVec 12} {x : Tile}
    (named : instruction c = some (t, .store f data base imm)) (on : Issues s t) (usable : Usable s t [data, base])
    (pad : (s.tile t.val).storesReg (s.ctx t.val) f base imm = none)
    (done : (s.tile t.val).execStore (s.ctx t.val) (.store f data base imm) f data base imm = x.adv 1)
    (run : x.core.run = .running) (pc : x.core.pc = (s.tile t.val).core.pc) (units : x.units = (s.tile t.val).units) :
    Leaves c s t (x.setPc (here s t + 1)) := by
  rw [Tile.adv_here pc] at done
  refine leaves_setTile ?_
  rw [exec_instruction named, State.issue_acts (i := .store f data base imm) on rfl usable,
    State.acts_store (by simp [State.regTarget, pad]),
    State.issueLocal_setTile (i := .store f data base imm) done (by simp [run]) (by simp [units])]

theorem faults_of_store {c : Instr} {s : State} {t : Slot} {f : StoreFn} {data base : BitVec 5} {imm : BitVec 12}
    {code : FaultCode} (named : instruction c = some (t, .store f data base imm)) (on : Issues s t)
    (usable : Usable s t [data, base]) (pad : (s.tile t.val).storesReg (s.ctx t.val) f base imm = none)
    (done : (s.tile t.val).execStore (s.ctx t.val) (.store f data base imm) f data base imm
      = (s.tile t.val).fail code (.store f data base imm) 0) : Faults c s t code (.store f data base imm) 0 := by
  rw [Faults, exec_instruction named, State.issue_acts (i := .store f data base imm) on rfl usable, State.acts_store (by simp [State.regTarget, pad]),
    State.issueLocal_fault (i := .store f data base imm) done rfl]
  rfl

theorem StoreFn.size_pos (f : StoreFn) : 0 < f.size := by cases f <;> decide

/-- An aligned access keeps to one line. -/
theorem linesOf_aligned {a : Nat} {f : StoreFn} (aligned : a % f.size = 0) (l : Nat) : l ∈ linesOf a f.size ↔ l = a / 64 := by
  rw [mem_linesOf]
  cases f <;> simp only [StoreFn.size] at aligned ⊢ <;> omega

/-- Byte `k` of a stored word. -/
theorem getD_leBytes_word {n k : Nat} (v : Word) (h : k < n) :
    (leBytes n v.toNat).getD k 0 = (v >>> (8 * k)).truncate 8 := by
  rw [getD_leBytes _ h, ← BitVec.toNat_inj, BitVec.toNat_setWidth, BitVec.toNat_ushiftRight, Nat.shiftRight_eq_div_pow,
    BitVec.toNat_ofNat, pow_mul]
  rfl

/-- A running tile that goes on past an instruction of one word. -/
theorem State.onTile_goes_on {s : State} {t : Slot} (running : (s.tile t.val).core.run = .running) :
    s.onTile t.val (fun x => (x.setRun .running).adv 1) = s.setTile t.val ((s.tile t.val).setPc (here s t + 1)) := by
  rw [State.onTile, Tile.setRun_running running, Tile.adv_here rfl]

/-- What a landing leaves, and moving on after it. -/
theorem Tile.land_setPc_frame (x : Tile) (a : Nat) (bs : List Byte) (i : Int) :
    let y := (x.land a bs).setPc i
    (∀ b, y.byte b = if a ≤ b ∧ b < a + bs.length then bs.getD (b - a) 0 else x.byte b)
      ∧ (∀ l, y.filled l = if l ∈ linesOf a bs.length then true else x.filled l)
      ∧ y.core = { x.core with pc := pcTo i }
      ∧ { y with core := x.core, pad := { y.pad with bytes := x.pad.bytes, fill := x.pad.fill } } = x := by
  obtain ⟨B, F, land⟩ := x.land_eq a bs
  refine ⟨x.byte_land a bs, x.filled_land a bs, ?_, ?_⟩ <;> rw [land] <;> rfl

theorem stores : Stores := by
  intro s t data base imm on usable p hp x a aligned
  have named := store_of_row hp
  have here_ : x.ea base imm = a := Tile.ea_eq_address s t base imm
  refine ⟨fun low mapped free go => ?_, fun o at_ small stands opens => ?_⟩
  · obtain ⟨B, F, land⟩ := x.land_eq a (leBytes p.2.size (x.reg data).toNat)
    have done : x.execStore (s.ctx t.val) (.store p.2 data base imm) p.2 data base imm
        = (x.land a (leBytes p.2.size (x.reg data).toNat)).adv 1 := by
      rw [Tile.execStore_scratchpad (by rwa [here_]) (by rwa [here_]) (by rwa [here_]) (by rwa [here_]), here_, go, Tile.guard,
        Tile.setRun_running on.2]
    have pad : x.storesReg (s.ctx t.val) p.2 base imm = none := if_neg fun h => by rw [here_] at h; omega
    refine ends_of_leaves (leaves_of_store named on usable pad done (by rw [land]; exact on.2) (by rw [land]) (by rw [land]))
      fun s' tile only => ?_
    obtain ⟨bytes, marks, core, rest⟩ :=
      x.land_setPc_frame a (leBytes p.2.size (x.reg data).toNat) (here s t + 1)
    rw [leBytes_length] at bytes marks
    dsimp only
    rw [tile]
    refine ⟨fun k hk => (bytes (a + k)).trans ?_, fun b outside => (bytes b).trans (if_neg (by omega)),
      fun l => (marks l).trans (if_congr (linesOf_aligned aligned l) rfl rfl), core, rest, only⟩
    rw [if_pos (by omega), Nat.add_sub_cancel_left, getD_leBytes_word _ hk]
  · have target : s.regTarget t.val (.store p.2 data base imm) = some (o / 4 * 4, x.storeWord (s.ctx t.val) p.2 data o) := by
      have offset : a % 0x1000 = o := by omega
      have pad : x.storesReg (s.ctx t.val) p.2 base imm = some o := by
        unfold Tile.storesReg
        simp only [here_, offset]
        exact if_pos ⟨aligned, by omega, by omega, stands⟩
      exact congrArg (Option.map fun o => (o / 4 * 4, x.storeWord (s.ctx t.val) p.2 data o)) pad
    rw [exec_instruction named, State.issue_acts (i := .store p.2 data base imm) on rfl usable, State.acts_register target,
      State.issueReg, if_neg opens, State.onTile_goes_on on.2]
    rfl

end Sys2Proof.Machine
/-- Settles O34. -/
theorem loadsAndStores : Obligations.LoadsAndStores := ⟨loads, stores⟩

end

section
/-! SUPPORT. The handle class (R103, R104, R124, R125): what each instruction leaves of the tile, and when it waits. -/

open Sys2Proof Sys2Proof.Claims Sys2Proof.Machine

namespace Sys2Proof.Machine

/-- An instruction of one word after which the tile goes on. -/
theorem leaves_on_of_local {c : Instr} {s : State} {t : Slot} {i : Tis} {x : Tile} (named : instruction c = some (t, i))
    (on : Issues s t) (plain : i.plain = true) (legal : i.legal = true) (usable : Usable s t i.reads)
    (done : (s.tile t.val).local (s.ctx t.val) i = x.adv 1) (run : x.core.run = .running)
    (pc : x.core.pc = (s.tile t.val).core.pc) (still : x.units.mu.length ≤ (s.tile t.val).units.mu.length) :
    Leaves c s t (x.setPc (here s t + 1)) := by
  rw [Tile.adv_here pc] at done
  exact leaves_of_local named on plain legal usable done (by simp [run]) (by simpa using still)

/-! ### Frames -/

/-- A triple of registers written, as HGET does. -/
theorem Tile.setTriple_setPc_frame (x : Tile) (r : BitVec 5) (u v w : Word) (i : Int) :
    let y := (((x.setReg r u).setReg (r + 1) v).setReg (r + 2) w).setPc i
    y.reg r = u ∧ y.reg (r + 1) = v ∧ y.reg (r + 2) = w ∧ (∀ k, k ≠ r → k ≠ r + 1 → k ≠ r + 2 → y.reg k = x.reg k)
      ∧ { y with core := { y.core with regs := x.core.regs, pc := x.core.pc } } = x ∧ y.core.pc = pcTo i := by
  have read : ∀ k, ((((x.setReg r u).setReg (r + 1) v).setReg (r + 2) w).setPc i).reg k
      = if k = r + 2 then w else if k = r + 1 then v else if k = r then u else x.reg k := fun k => by
    rw [← Tile.reg_setReg, ← Tile.reg_setReg, ← Tile.reg_setReg]
    rfl
  refine ⟨?_, ?_, ?_, fun k h0 h1 h2 => ?_, rfl, rfl⟩ <;> rw [read]
  · rw [if_neg (by bv_omega), if_neg (by bv_omega), if_pos rfl]
  · rw [if_neg (by bv_omega), if_pos rfl]
  · rw [if_pos rfl]
  · rw [if_neg h2, if_neg h1, if_neg h0]

/-- Two handles exchanged, as HSWAP does. -/
theorem Tile.swapHandles_setPc_frame (x : Tile) (h k : BitVec 6) (i : Int) :
    let y := ((x.setHandle h (x.handle k)).setHandle k (x.handle h)).setPc i
    y.handle h = x.handle k ∧ y.handle k = x.handle h ∧ (∀ l, l ≠ h → l ≠ k → y.handle l = x.handle l)
      ∧ { y with core := { y.core with pc := x.core.pc }, pad := { y.pad with handles := x.pad.handles } } = x
      ∧ y.core.pc = pcTo i := by
  have read : ∀ l, (((x.setHandle h (x.handle k)).setHandle k (x.handle h)).setPc i).handle l
      = if l = k then x.handle h else if l = h then x.handle k else x.handle l := fun l => by
    rw [← Tile.handle_setHandle, ← Tile.handle_setHandle]
    rfl
  refine ⟨?_, ?_, fun l h0 h1 => ?_, rfl, rfl⟩ <;> rw [read]
  · by_cases same : h = k
    · rw [if_pos same, same]
    · rw [if_neg same, if_pos rfl]
  · rw [if_pos rfl]
  · rw [if_neg h1, if_neg h0]

/-- The lines of a range marked, as HFILL and HUNFILL do. -/
theorem Tile.markLines_setPc_frame (x : Tile) (v : Bool) (a n : Nat) (i : Int) :
    let y := (x.markLines v (linesOf a n)).setPc i
    (∀ l, y.filled l = if 0 < n ∧ a / 64 ≤ l ∧ l ≤ (a + n - 1) / 64 then v else x.filled l)
      ∧ { y with core := { y.core with pc := x.core.pc }, pad := { y.pad with fill := x.pad.fill } } = x
      ∧ y.core.pc = pcTo i := by
  obtain ⟨F, marked⟩ := x.markLines_eq v (linesOf a n)
  refine ⟨fun l => ?_, ?_, rfl⟩
  · exact (Tile.filled_markLines x v (linesOf a n) l).trans (if_congr mem_linesOf rfl rfl)
  · rw [marked]
    rfl

/-! ### The instructions -/

theorem handleMoves : HandleMoves := by
  intro s t h h2 ra rb on x o
  have run : x.setRun .running = x := Tile.setRun_running on.2
  refine ⟨fun pair => ?_, fun free free2 => ?_, fun free => ?_⟩
  · have legal : (Tis.hget o).legal = true := by simp [Tis.legal, o, handleOp, pair]
    have done : x.local (s.ctx t.val) (.hget o)
        = (((x.setReg ra (x.handle h).w0).setReg (ra + 1) (x.handle h).w1).setReg (ra + 2) (x.handle h).w2).adv 1 := by
      rw [Tile.local, run]
      rfl
    refine ends_of_leaves (leaves_on_of_local rfl on rfl legal nofun done on.2 rfl (Nat.le_refl _)) fun s' tile only => ?_
    obtain ⟨r0, r1, r2, others, rest, pc⟩ :=
      x.setTriple_setPc_frame ra (x.handle h).w0 (x.handle h).w1 (x.handle h).w2 (here s t + 1)
    dsimp only
    rw [tile]
    exact ⟨r0, r1, r2, others, rest, pc, only⟩
  · have done : x.local (s.ctx t.val) (.hswap o) = ((x.setHandle h (x.handle h2)).setHandle h2 (x.handle h)).adv 1 := by
      have go : x.execHswap (s.ctx t.val) (.hswap o) o
          = (((x.setHandle h (x.handle h2)).setHandle h2 (x.handle h)).setRun .running).adv 1 :=
        if_neg (by simp [o, handleOp, free, free2])
      exact go.trans (by rw [Tile.setRun_running]; exact on.2)
    refine ends_of_leaves (leaves_on_of_local rfl on rfl rfl nofun done on.2 rfl (Nat.le_refl _)) fun s' tile only => ?_
    obtain ⟨left, right, others, rest, pc⟩ := x.swapHandles_setPc_frame h h2 (here s t + 1)
    dsimp only
    rw [tile]
    exact ⟨left, right, others, rest, pc, only⟩
  · have done : x.local (s.ctx t.val) (.hinv o)
        = (x.setHandle h { x.handle h with w0 := (x.handle h).w0 &&& 0xFFFFFFFC }).adv 1 := by
      have go : x.execHinv (s.ctx t.val) (.hinv o) o
          = ((x.setHandle h { x.handle h with w0 := (x.handle h).w0 &&& 0xFFFFFFFC }).setRun .running).adv 1 :=
        if_neg (by simp [o, handleOp, free])
      exact go.trans (by rw [Tile.setRun_running]; exact on.2)
    exact leaves_on_of_local rfl on rfl rfl nofun done on.2 rfl (Nat.le_refl _)

theorem fillMarks : FillMarks := by
  intro s t h h2 ra rb on x o e a n marks
  have run : x.setRun .running = x := Tile.setRun_running on.2
  have marked : ∀ {c : Instr} {v : Bool} {b m : Nat}, Leaves c s t ((x.markLines v (linesOf b m)).setPc (here s t + 1)) →
      Ends c s fun s' => marks s' b m v := fun {c v b m} leaves =>
    ends_of_leaves leaves fun s' tile only => by
      obtain ⟨lines, rest, pc⟩ := x.markLines_setPc_frame v b m (here s t + 1)
      simp only [marks]
      rw [tile]
      exact ⟨lines, rest, pc, only⟩
  have passes : e.kind = 1 → e.canWrite = true → ¬ (e.kind ≠ 1 ∨ e.canWrite = false) :=
    fun kind write => not_or.2 ⟨not_not.2 kind, ne_false_of_eq_true write⟩
  refine ⟨fun usable => ⟨fun bad => ?_, fun kind write beyond => ?_, fun kind write within go => ?_⟩,
    fun free => ⟨fun bad => ?_, fun kind write go => ?_⟩⟩
  · exact faults_of_local rfl on rfl rfl usable (if_pos bad)
  · exact faults_of_local rfl on rfl rfl usable ((if_neg (passes kind write)).trans (if_pos beyond))
  · obtain ⟨F, marks⟩ := x.markLines_eq true (linesOf a n)
    have done : x.local (s.ctx t.val) (.hfill o) = (x.markLines true (linesOf a n)).adv 1 := by
      have go' : x.execHfill (s.ctx t.val) (.hfill o) o = x.guard (.hfill o) _ _ (x.sbCheck [] [[(a, n)]] 0)
          fun t => (t.markLines true (linesOf a n)).adv 1 :=
        (if_neg (passes kind write)).trans (if_neg (not_lt.2 within))
      exact go'.trans (by rw [go, Tile.guard, run])
    exact marked (leaves_on_of_local rfl on rfl rfl usable done (by rw [marks]; exact on.2) (by rw [marks]) (by rw [marks]))
  · exact faults_of_local rfl on rfl rfl nofun ((if_neg (ne_true_of_eq_false free)).trans (if_pos bad))
  · obtain ⟨F, marks⟩ := x.markLines_eq false (linesOf e.base e.size)
    have done : x.local (s.ctx t.val) (.hunfill o) = (x.markLines false (linesOf e.base e.size)).adv 1 := by
      have go' : x.execHunfill (s.ctx t.val) (.hunfill o) o = x.guard (.hunfill o) _ _ (x.sbCheck [] [[(e.base, e.size)]] 0)
          fun t => (t.markLines false (linesOf e.base e.size)).adv 1 :=
        (if_neg (ne_true_of_eq_false free)).trans (if_neg (passes kind write))
      exact go'.trans (by rw [go, Tile.guard, run])
    exact marked (leaves_on_of_local rfl on rfl rfl nofun done (by rw [marks]; exact on.2) (by rw [marks]) (by rw [marks]))

/-- The three registers that HSET reads. -/
theorem regRun_three (r : BitVec 5) : regRun r.toNat 3 = [r, r + 1, r + 2] := by
  have e1 : BitVec.ofNat 5 (r.toNat + 1) = r + 1 := by bv_omega
  have e2 : BitVec.ofNat 5 (r.toNat + 2) = r + 2 := by bv_omega
  simp [regRun, List.range_succ, e1, e2]

theorem handleStalls : HandleStalls := by
  intro s t h h2 ra rb on x o
  refine ⟨fun busy => ⟨fun pair usable => ?_, ?_, ?_⟩, fun busy => ?_⟩
  · have legal : (Tis.hset o).legal = true := by simp [Tis.legal, o, handleOp, pair]
    refine waits_of_local rfl on rfl legal ?_ (if_pos busy)
    change Usable s t (regRun ra.toNat 3)
    rwa [regRun_three]
  · exact waits_of_local rfl on rfl rfl nofun (if_pos busy)
  · exact waits_of_local rfl on rfl rfl nofun (if_pos busy)
  · exact waits_of_local rfl on rfl rfl nofun (if_pos (Bool.or_eq_true_iff.2 busy))

end Sys2Proof.Machine

/-- Settles O35. -/
theorem handleTable : Obligations.HandleTable := ⟨handleMoves, fillMarks, handleStalls⟩

end

section
/-! SUPPORT. The receive class (R98, R99): the queue that RECVSEL takes, and what a selection leaves. -/

open Sys2Proof Sys2Proof.Claims Sys2Proof.Machine

namespace Sys2Proof.Machine

/-! ### The search -/

theorem bit_eq_testBit (v k : Nat) : bit v k = v.testBit k := by
  rw [bit, Nat.testBit_eq_decide_div_mod_eq, beq_eq_decide]

/-- A bit of the mask's low half. -/
theorem bit_wbits_low {w : Word} {n k : Nat} (h : k < n) : bit (wbits w 0 n) k = w.toNat.testBit k := by
  rw [bit_eq_testBit, wbits, bits, pow_zero, Nat.div_one, Nat.testBit_mod_two_pow]
  simp [h]

theorem Tile.ready_iff (x : Tile) (q : Nat) : x.ready q = true ↔ QueueReady x q := by
  simp [Tile.ready, QueueReady, Tile.steered, and_assoc]

/-- Where the search begins. -/
def searchStart (x : Tile) (rotate : Bool) : Nat :=
  if rotate then (match x.core.lastSel with | some q => q.toNat + 1 | none => 0) else 0

theorem searchStart_le (x : Tile) (rotate : Bool) : searchStart x rotate ≤ 16 := by
  unfold searchStart
  split
  · split <;> omega
  · omega

theorem searchPlace_eq (x : Tile) (rotate : Bool) {q : Nat} (h : q < 16) :
    searchPlace x rotate q = (q + 16 - searchStart x rotate) % 16 := by
  unfold searchPlace searchStart
  cases rotate with
  | false => simp; omega
  | true => cases x.core.lastSel with
    | none => simp; omega
    | some l => simp

theorem Tile.pick_eq (x : Tile) (mask : Nat) (rotate : Bool) :
    x.pick mask rotate
      = ((List.range 16).map fun i => (searchStart x rotate + i) % 16).find? fun q => bit mask q && x.ready q := rfl

section
variable {x : Tile} {mask : Word} {rotate : Bool} {q : Nat}

theorem Tile.pick_eq_some (wins : Wins x mask rotate q) : x.pick (wbits mask 0 16) rotate = some q := by
  obtain ⟨⟨inside, named, ready⟩, first⟩ := wins
  have start := searchStart_le x rotate
  have place := searchPlace_eq x rotate inside
  rw [Tile.pick_eq, List.find?_eq_some_iff_getElem]
  refine ⟨?_, searchPlace x rotate q, by simp; omega, by simp; omega, fun j hj => ?_⟩
  · rw [bit_wbits_low inside, named, (x.ready_iff q).2 ready]
    rfl
  · simp only [List.getElem_map, List.getElem_range]
    have inside' : (searchStart x rotate + j) % 16 < 16 := Nat.mod_lt _ (by decide)
    rw [bit_wbits_low inside']
    by_contra found
    rw [Bool.not_eq_true', Bool.not_eq_false, Bool.and_eq_true, x.ready_iff] at found
    have earlier := first _ inside' found.1 found.2
    rw [searchPlace_eq x rotate inside'] at earlier
    omega

theorem Tile.pick_eq_none (idle : ∀ q, q < 16 → mask.toNat.testBit q = true → ¬ QueueReady x q) :
    x.pick (wbits mask 0 16) rotate = none := by
  refine List.find?_eq_none.2 fun q hq found => ?_
  obtain ⟨i, -, rfl⟩ := List.mem_map.1 hq
  have inside := Nat.mod_lt (searchStart x rotate + i) (y := 16) (by decide)
  rw [Bool.and_eq_true, x.ready_iff] at found
  exact idle _ inside (bit_wbits_low inside ▸ found.1) found.2

end

/-! ### The selection -/

theorem recvResult_queue {q : Nat} {m : Msg} (h : q < 16) :
    (recvResult q m).1.toNat = q + 65536 * (m.hdr.length % 8192) := by
  simp only [recvResult, fld, BitVec.toNat_ofNat]
  omega

theorem recvResult_source (q : Nat) (m : Msg) :
    (recvResult q m).2.toNat = m.hdr.tag.toNat + 65536 * m.hdr.srcRow.toNat + 2097152 * m.hdr.srcPos.toNat
      + 67108864 * b2n m.hdr.cnet + 134217728 * b2n m.hdr.reply + 268435456 * b2n (m.hdr.srcEp ≠ 0) := by
  have c := b2n_le_one m.hdr.cnet
  have r := b2n_le_one m.hdr.reply
  have e := b2n_le_one (m.hdr.srcEp ≠ 0)
  simp only [recvResult, fld, BitVec.toNat_ofNat]
  omega

theorem Tile.headByte_selected {x : Tile} {q k : Nat} {m : Msg} {r : List Msg} (sel : (x.queue q).selected = true)
    (held : (x.queue q).held = m :: r) (inside : k < m.hdr.length) : x.headByte q k = m.payload.getD k 0 := by
  simp [Tile.headByte, Queue.head, sel, held, inside]

theorem Tile.outerByte_headWindow (c : Ctx) (x : Tile) {q k : Nat} (hq : q < 16) (hk : k < 4096) :
    x.outerByte c (0x500000 + 0x1000 * q + k) = some (x.headByte q k) := by
  unfold Tile.outerByte
  rw [if_neg (by omega), if_pos (by omega)]
  congr 2 <;> omega

/-- A pair of registers and a queue set, the queue noted as last selected, and the tile on its way at word `i`. -/
def Tile.delivered (x : Tile) (r : BitVec 5) (p : Word × Word) (q : Nat) (c : Queue) (l : Option (BitVec 4)) (i : Int) : Tile :=
  let y := ((x.setQueue q c).setReg r p.1).setReg (r + 1) p.2
  (({ y with core := { y.core with lastSel := l } } : Tile).setRun .running).setPc i

theorem Tile.select_setPc {x : Tile} {o : RecvOp} {q : Nat} {m : Msg} {r : List Msg} (held : (x.queue q).held = m :: r)
    (i : Int) : ((x.select o q).setRun .running).setPc i
      = x.delivered o.rd (recvResult q m) q { x.queue q with selected := true } (some (BitVec.ofNat 4 q)) i := by
  unfold Tile.select
  simp only [held, Tile.delivered]

theorem Tile.delivered_frame (x : Tile) (r : BitVec 5) (p : Word × Word) (q : Nat) (c : Queue) (l : Option (BitVec 4))
    (i : Int) :
    let y := x.delivered r p q c l i
    y.reg r = p.1 ∧ y.reg (r + 1) = p.2 ∧ (∀ k, k ≠ r → k ≠ r + 1 → y.reg k = x.reg k)
      ∧ y.queue q = c ∧ (∀ k, k ≠ q → y.queue k = x.queue k)
      ∧ y.core.lastSel = l ∧ y.core.pc = pcTo i ∧ y.core.run = .running
      ∧ { y with queues := x.queues, core := { y.core with
            regs := x.core.regs, lastSel := x.core.lastSel, pc := x.core.pc, run := x.core.run } } = x := by
  have registers : ∀ k, (x.delivered r p q c l i).reg k = if k = r + 1 then p.2 else if k = r then p.1 else x.reg k :=
    fun k => by
      rw [show x.reg k = (x.setQueue q c).reg k from rfl, ← Tile.reg_setReg, ← Tile.reg_setReg]
      rfl
  refine ⟨?_, ?_, fun k h0 h1 => ?_, (Tile.queue_setQueue x q q c).trans (if_pos rfl),
    fun k hk => (Tile.queue_setQueue x q k c).trans (if_neg hk), rfl, rfl, rfl, rfl⟩ <;> rw [registers]
  · rw [if_neg (by bv_omega), if_pos rfl]
  · rw [if_pos rfl]
  · rw [if_neg h1, if_neg h0]

theorem selected_of_leaves {c : Instr} {s : State} {t : Slot} {o : RecvOp} {q : Nat} {m : Msg} {r : List Msg}
    (inside : q < 16) (held : ((s.tile t.val).queue q).held = m :: r)
    (leaves : Leaves c s t ((((s.tile t.val).select o q).setRun .running).setPc (here s t + 1))) :
    Ends c s fun s' => Selected s s' t o q m :=
  ends_of_leaves leaves fun s' tile only => by
    obtain ⟨first, second, registers, queue, queues, last, pc, run, rest⟩ :=
      (s.tile t.val).delivered_frame o.rd (recvResult q m) q { (s.tile t.val).queue q with selected := true }
        (some (BitVec.ofNat 4 q)) (here s t + 1)
    unfold Selected
    dsimp only
    rw [tile, Tile.select_setPc held]
    refine ⟨by rw [first, recvResult_queue inside], by rw [second, recvResult_source]; rfl, registers, queue, queues,
      fun k short small => ?_, last, pc, run, rest, only⟩
    rw [Tile.outerByte_headWindow _ _ inside small, Tile.headByte_selected (by rw [queue]) (by rw [queue]; exact held) short]

theorem Tile.select_pc (x : Tile) (o : RecvOp) (q : Nat) : (x.select o q).core.pc = x.core.pc := by
  unfold Tile.select
  rcases held : (x.queue q).held with _ | ⟨m, r⟩ <;> simp only [held]
  rfl

theorem Tile.select_units (x : Tile) (o : RecvOp) (q : Nat) : (x.select o q).units = x.units := by
  unfold Tile.select
  rcases held : (x.queue q).held with _ | ⟨m, r⟩ <;> simp only [held]
  rfl

theorem Tile.moved_select (s : State) (t : Slot) (o : RecvOp) (q : Nat) :
    (((s.tile t.val).select o q).setRun .running).adv 1
      = (((s.tile t.val).select o q).setRun .running).setPc (here s t + 1) :=
  Tile.adv_here (Tile.select_pc _ o q)

/-! ### RECVSEL -/

theorem Tile.execRecvsel_takes {x : Tile} {o : RecvOp} {q : Nat} (i : Tis) (wins : Wins x (x.reg o.rm) o.rotate q) :
    x.execRecvsel i o = ((x.select o q).setRun .running).adv 1 := by
  unfold Tile.execRecvsel
  simp only [Tile.pick_eq_some wins]

theorem Tile.execRecvsel_idle {x : Tile} {o : RecvOp} (i : Tis)
    (idle : ∀ q, q < 16 → (x.reg o.rm).toNat.testBit q = true → ¬ QueueReady x q) :
    x.execRecvsel i o = if o.nb then ((x.setReg o.rd 0xFFFFFFFF).setRun .running).adv 1
      else if (x.reg o.rm).toNat % 65536 = 0 then x.fail .illegalInstruction i 0 else x.setRun (.receiving o) := by
  have low : wbits (x.reg o.rm) 0 16 = (x.reg o.rm).toNat % 65536 := by
    rw [wbits, bits, pow_zero, Nat.div_one]
    rfl
  unfold Tile.execRecvsel
  simp only [Tile.pick_eq_none idle]
  rw [low]

theorem exec_recvselComplete {s : State} {t : Slot} {o : RecvOp} {q : Nat}
    (receiving : (s.tile t.val).core.run = .receiving o)
    (wins : Wins (s.tile t.val) ((s.tile t.val).reg o.rm) o.rotate q) :
    exec (.recvselComplete t) s
      = .next (s.setTile t.val ((((s.tile t.val).select o q).setRun .running).adv 1)) := by
  change execRecvselComplete t s = _
  unfold execRecvselComplete
  simp only [receiving, Tile.pick_eq_some wins]
  rfl

end Sys2Proof.Machine

/-- Settles O3. -/
theorem receiveSelect : Obligations.ReceiveSelect := by
  intro s t rd rm rotate nb k o x mask
  refine ⟨fun on even usable => ?_, fun receiving q m r wins held => ?_, fun on c hc => ⟨fun sel => ?_, fun sel => ?_⟩⟩
  · have legal : (Tis.recvsel o).legal = true := by simp [Tis.legal, o, even]
    refine ⟨fun q m r wins held => selected_of_leaves wins.1.1 held ?_, fun idle => ?_⟩
    · exact leaves_on_of_local rfl on rfl legal usable (Tile.execRecvsel_takes _ wins) rfl (Tile.select_pc x o q)
        (le_of_eq (congrArg (·.mu.length) (x.select_units o q)))
    · have answer := x.execRecvsel_idle (o := o) (.recvsel o) idle
      refine ⟨fun nb => ?_, fun nb some_ => ?_, fun nb zero => ?_⟩
      · refine writes_of_leaves (leaves_on_of_local rfl on rfl legal usable (answer.trans ?_) on.2 rfl (Nat.le_refl _))
        rw [if_pos nb, Tile.setRun_running]
        exact on.2
      · refine leaves_of_local rfl on rfl legal usable (answer.trans ?_) nofun (Nat.le_refl _)
        rw [if_neg (ne_true_of_eq_false nb), if_neg some_]
      · refine faults_of_local rfl on rfl legal usable (answer.trans ?_)
        rw [if_neg (ne_true_of_eq_false nb), if_pos zero]
  · exact selected_of_leaves wins.1.1 held
      (leaves_setTile ((exec_recvselComplete receiving wins).trans (by rw [Tile.moved_select])))
  · refine leaves_on_of_local rfl on rfl rfl nofun ?_ on.2 rfl (Nat.le_refl _)
    rw [Tile.local, Tile.setRun_running on.2, hc]
    exact if_pos (hc ▸ sel)
  · refine leaves_on_of_local rfl on rfl rfl nofun ?_ on.2 rfl (Nat.le_refl _)
    rw [Tile.local, Tile.setRun_running on.2]
    exact if_neg (ne_true_of_eq_false (hc ▸ sel))

end

section
/-! SUPPORT. The message unit (R60, R95 to R100): what taking messages into send buffers leaves, and the sends of a tile. -/

open Sys2Proof Sys2Proof.Claims Sys2Proof.Machine

namespace Sys2Proof.Machine

/-! ### Messages taken into send buffers -/

/-- The status that entry `i` of a message unit has, if it is done. -/
def Tile.muDone (x : Tile) (i : Nat) : Option Nat :=
  match x.units.mu[i]? with
  | some e => match e.phase with
    | .done st => some st
    | _ => none
  | none => none

/-- What the unit does while it takes messages: no message comes or is done, and of the scratchpad only scoreboard entries go. -/
structure MuMoves (x y : Tile) : Prop where
  core : y.core = x.core
  pad : { y.pad with sb := x.pad.sb } = x.pad
  entries : ∀ p ∈ y.pad.sb, p ∈ x.pad.sb
  count : y.units.mu.length = x.units.mu.length
  done : ∀ i, y.muDone i = x.muDone i

theorem MuMoves.refl (x : Tile) : MuMoves x x := ⟨rfl, rfl, fun _ h => h, rfl, fun _ => rfl⟩

theorem MuMoves.trans {x y z : Tile} (a : MuMoves x y) (b : MuMoves y z) : MuMoves x z :=
  ⟨b.core.trans a.core, by
    have hb := b.pad
    have ha := a.pad
    rw [← ha, ← hb], fun p h => a.entries p (b.entries p h), b.count.trans a.count, fun i => (b.done i).trans (a.done i)⟩

def MuPhase.isDone : MuPhase → Bool
  | .done _ => true
  | _ => false

/-- An entry that is not done, put in the place of one that is not. -/
theorem MuMoves.setMu {x y : Tile} {i : Nat} {e e' : MuEntry} (moves : MuMoves x y) (old : x.units.mu[i]? = some e)
    (open_ : e.phase.isDone = false) (open' : e'.phase.isDone = false) : MuMoves x (y.setMu i e') where
  core := moves.core
  pad := moves.pad
  entries := moves.entries
  count := by simpa [Tile.setMu, setAt] using moves.count
  done j := by
    by_cases same : i = j
    · subst same
      have inside : i < y.units.mu.length := moves.count ▸ (List.getElem?_eq_some_iff.1 old).1
      have new : (y.setMu i e').units.mu[i]? = some e' := by simp [Tile.setMu, setAt, List.getElem?_set_self inside]
      unfold Tile.muDone
      rw [old, new]
      cases h : e.phase <;> cases h' : e'.phase <;> simp_all [MuPhase.isDone]
    · rw [← moves.done j]
      have new : (y.setMu i e').units.mu[j]? = y.units.mu[j]? := by simp [Tile.setMu, setAt, List.getElem?_set_ne same]
      unfold Tile.muDone
      rw [new]

theorem MuMoves.payBudget {x y : Tile} (h : Header) (moves : MuMoves x y) : MuMoves x (y.payBudget h) := by
  unfold Tile.payBudget
  dsimp only
  split <;> exact ⟨moves.core, moves.pad, moves.entries, moves.count, moves.done⟩

theorem MuMoves.injectClass {x y : Tile} {i : Nat} {e e' : MuEntry} (pclass : Nat) (moves : MuMoves x y)
    (old : x.units.mu[i]? = some e) (open_ : e.phase.isDone = false) : MuMoves x (y.injectClass pclass i e') := by
  unfold Tile.injectClass
  split
  · exact moves.setMu old open_ rfl
  · exact moves.setMu old open_ rfl
  · dsimp only
    split
    · exact moves.setMu old open_ rfl
    · exact (moves.payBudget _).setMu old open_ rfl

theorem MuMoves.inject {x y : Tile} {i : Nat} {e e' : MuEntry} (pclass limitUs : Nat) (moves : MuMoves x y)
    (old : x.units.mu[i]? = some e) (open_ : e.phase.isDone = false) : MuMoves x (y.inject pclass i e' limitUs) := by
  unfold Tile.inject
  split
  · dsimp only
    split
    · exact MuMoves.injectClass pclass (y := y.setQueue _ _) ⟨moves.core, moves.pad, moves.entries, moves.count, moves.done⟩ old open_
    · exact moves.setMu old open_ rfl
  · exact moves.injectClass pclass old open_

theorem MuMoves.takeAt (x : Tile) (pclass i limitUs : Nat) : MuMoves x (x.takeAt pclass i limitUs) := by
  unfold Tile.takeAt
  split
  · exact MuMoves.refl x
  · rename_i e old
    split
    · rename_i queued
      have open_ : e.phase.isDone = false := by rw [queued]; rfl
      have released : MuMoves x (x.release e.ents) :=
        ⟨rfl, rfl, fun p hp => (List.mem_filter.1 hp).1, rfl, fun _ => rfl⟩
      refine MuMoves.inject pclass limitUs (MuMoves.setMu released old open_ ?_) old open_
      exact open_
    · exact MuMoves.refl x

theorem MuMoves.muTake (x : Tile) (pclass limitUs : Nat) : MuMoves x (x.muTake pclass limitUs) := by
  unfold Tile.muTake
  suffices h : ∀ (l : List Nat) (y : Tile), MuMoves y (l.foldl (fun s i => s.takeAt pclass i limitUs) y) from h _ x
  intro l
  induction l with
  | nil => exact MuMoves.refl
  | cons i l ih => exact fun y => (MuMoves.takeAt y pclass i limitUs).trans (ih _)

/-! ### What a send leaves -/

theorem Tile.foldMsg_eq (x : Tile) (h : Header) (body : List Byte) :
    ∃ sig, x.foldMsg h body = { x with chk := { x.chk with sig := sig } } := by
  unfold Tile.foldMsg Tile.foldSig
  split
  · exact ⟨x.chk.sig, rfl⟩
  · split
    · exact ⟨_, rfl⟩
    · exact ⟨x.chk.sig, rfl⟩

theorem Tile.shadowing_foldMsg (x : Tile) (h : Header) (body : List Byte) : (x.foldMsg h body).shadowing = x.shadowing := by
  obtain ⟨sig, folded⟩ := x.foldMsg_eq h body
  rw [folded]
  rfl

theorem Tile.muDone_last {x : Tile} {e : MuEntry} (i : Nat) (last : x.units.mu.length = i) :
    (x.pushMu e).muDone i = match e.phase with | .done st => some st | _ => none := by
  subst last
  simp [Tile.muDone, Tile.pushMu]

/-- The message that has just entered the unit counts as a NO_TARGET exactly where it is done with that status (R231). -/
theorem State.countNoTarget_push (s : State) (x y z : Tile) (e : MuEntry) (units : y.units = x.units)
    (moves : MuMoves (y.pushMu e) z) :
    s.countNoTarget x z = if e.phase = .done 4 then s.bump K.noTargetDrops 1 else s := by
  have count : z.units.mu.length = x.units.mu.length + 1 := by simp [moves.count, Tile.pushMu, units]
  have last : z.units.mu.getLast? = z.units.mu[x.units.mu.length]? := by
    rw [List.getLast?_eq_getElem?, count, Nat.add_sub_cancel]
  have done := (moves.done x.units.mu.length).trans (Tile.muDone_last _ (by rw [units]))
  have phase : z.units.mu.getLast?.map (·.phase) = some (.done 4) ↔ e.phase = .done 4 := by
    unfold Tile.muDone at done
    rw [last]
    cases h : z.units.mu[x.units.mu.length]? with
    | none => rw [List.getElem?_eq_none_iff] at h; omega
    | some f =>
      rw [h] at done
      cases hf : f.phase <;> cases he : e.phase <;> simp_all
  unfold State.countNoTarget
  exact if_congr (by rw [phase, count]; simp) rfl rfl

/-- The issue of a message: its tile, and the count of one that ended with NO_TARGET. -/
theorem exec_send {c : Instr} {s : State} {t : Slot} {i : Tis} {y w : Tile} {e : MuEntry}
    (named : instruction c = some (t, i)) (on : Issues s t) (plain : i.plain = true) (legal : i.legal = true)
    (usable : Usable s t i.reads) (done : (s.tile t.val).local (s.ctx t.val) i = w.adv 1)
    (moves : MuMoves (y.pushMu e) w) (units : y.units = (s.tile t.val).units) (run : y.core.run = .running)
    (pc : y.core.pc = (s.tile t.val).core.pc) :
    exec c s = .next (if e.phase = .done 4 then (s.setTile t.val (w.setPc (here s t + 1))).bump K.noTargetDrops 1
      else s.setTile t.val (w.setPc (here s t + 1))) := by
  have core : w.core = y.core := moves.core
  rw [Tile.adv_here (by rw [core, pc])] at done
  have count : ∀ u : State, u.countNoTarget (s.tile t.val) (w.setPc (here s t + 1)) = u.countNoTarget (s.tile t.val) w :=
    fun u => by unfold State.countNoTarget; rw [Tile.setPc_units]
  have goes : (((s.setTile t.val (w.setPc (here s t + 1))).countNoTarget (s.tile t.val) w).tile t.val).core.run ≠ .faulted := by
    rw [State.countNoTarget_tile, State.tile_setTile, if_pos rfl, Tile.setPc_run, core, run]
    nofun
  rw [exec_instruction named, State.issue_acts on legal usable, State.acts_plain _ _ plain, State.issueLocal, done, count,
    State.settle, if_neg goes, State.countNoTarget_push _ _ y w e units moves]

theorem leaves_of_send {c : Instr} {s : State} {t : Slot} {i : Tis} {y w : Tile} {e : MuEntry}
    (named : instruction c = some (t, i)) (on : Issues s t) (plain : i.plain = true) (legal : i.legal = true)
    (usable : Usable s t i.reads) (done : (s.tile t.val).local (s.ctx t.val) i = w.adv 1)
    (moves : MuMoves (y.pushMu e) w) (units : y.units = (s.tile t.val).units) (run : y.core.run = .running)
    (pc : y.core.pc = (s.tile t.val).core.pc) (queued : e.phase = .queued) :
    Leaves c s t (w.setPc (here s t + 1)) :=
  leaves_setTile <| (exec_send named on plain legal usable done moves units run pc).trans
    (congrArg _ (if_neg (by rw [queued]; nofun)))

theorem Tile.muRoom_of_lt {x : Tile} (room : x.units.mu.length < 8) : x.muRoom = true := decide_eq_true room

theorem tokenHeader_eq_tokenSent (t : Slot) (dst : Word) (su : BitVec 2) (v : Byte) (tile : dst.toNat % 65536 = 0) :
    tokenHeader t.val dst su v = tokenSent t dst su v := by
  have ep : BitVec.ofNat 16 (wbits dst 0 16) = 0 := by
    rw [wbits, bits, pow_zero, Nat.div_one]
    exact congrArg (BitVec.ofNat 16) tile
  have field : ∀ lo, BitVec.ofNat 5 (wbits dst lo 5) = BitVec.ofNat 5 (dst.toNat / 2 ^ lo) := fun lo => by
    rw [← BitVec.toNat_inj, BitVec.toNat_ofNat, BitVec.toNat_ofNat, wbits, bits, Nat.mod_mod]
  rw [tokenHeader, tokenSent, ep, field, field]
  rfl

theorem sendHeader_eq_sentHeader (s : State) (t : Slot) (o : SendOp) :
    sendHeader t.val (s.tile t.val) o = sentHeader s t o := by
  have field : ∀ (w : Word) (lo n : Nat), BitVec.ofNat n (wbits w lo n) = BitVec.ofNat n (w.toNat / 2 ^ lo) := fun w lo n => by
    rw [← BitVec.toNat_inj, BitVec.toNat_ofNat, BitVec.toNat_ofNat, wbits, bits, Nat.mod_mod]
  have low : ∀ w : Word, wbits w 0 13 = w.toNat % 8192 := fun w => by rw [wbits, bits, pow_zero, Nat.div_one]; rfl
  simp only [sendHeader, sentHeader, field, low, pow_zero, Nat.div_one]
  rfl

/-! ### Tokens -/

theorem Tile.sendToken_running {s : State} {t : Slot} {i : Tis} {dst : Word} {su : BitVec 2} {v : Byte}
    (running : (s.tile t.val).core.run = .running) (tile : dst.toNat % 65536 = 0) (room : (s.tile t.val).units.mu.length < 8) :
    (s.tile t.val).sendToken (s.ctx t.val) i dst su v
      = let h := tokenSent t dst su v
        let y := (s.tile t.val).foldMsg h []
        if (s.tile t.val).shadowing then y.adv 1
        else ((y.pushMu (tokenEntry s t h)).muTake (s.get K.priorityClassState) (s.get K.sendStallLimit)).adv 1 := by
  obtain ⟨sig, folded⟩ := (s.tile t.val).foldMsg_eq (tokenSent t dst su v) []
  have dstEp : ¬ wbits dst 0 16 ≠ 0 := by
    rw [wbits, bits, pow_zero, Nat.div_one]
    exact not_not.2 tile
  have header : tokenHeader (s.ctx t.val).slot dst su v = tokenSent t dst su v := tokenHeader_eq_tokenSent t dst su v tile
  have still : ((s.tile t.val).foldMsg (tokenSent t dst su v) []).setRun .running
      = (s.tile t.val).foldMsg (tokenSent t dst su v) [] := Tile.setRun_running (by rw [folded]; exact running)
  have entry : ((s.tile t.val).foldMsg (tokenSent t dst su v) []).core.pc = (s.tile t.val).core.pc := by rw [folded]
  unfold Tile.sendToken
  rw [if_neg dstEp, if_neg (by simp [Tile.muRoom_of_lt room])]
  simp only [header, still, Tile.shadowing_foldMsg, entry]
  rfl

/-- A token of a running tile with room for it. -/
theorem leaves_of_token {c : Instr} {s : State} {t : Slot} {i : Tis} {dst : Word} {su : BitVec 2} {v : Byte}
    (named : instruction c = some (t, i)) (on : Issues s t) (plain : i.plain = true) (legal : i.legal = true)
    (usable : Usable s t i.reads)
    (token : (s.tile t.val).local (s.ctx t.val) i = (s.tile t.val).sendToken (s.ctx t.val) i dst su v)
    (tile : dst.toNat % 65536 = 0) (room : (s.tile t.val).units.mu.length < 8) :
    Leaves c s t (Queued s t (s.tile t.val) (tokenSent t dst su v) [] (tokenEntry s t (tokenSent t dst su v))) := by
  have done := token.trans (Tile.sendToken_running on.2 tile room)
  obtain ⟨sig, folded⟩ := (s.tile t.val).foldMsg_eq (tokenSent t dst su v) []
  unfold Queued
  dsimp only at done ⊢
  rw [Tile.shadowing_foldMsg]
  cases shadow : (s.tile t.val).shadowing <;> simp only [shadow, if_true, Bool.false_eq_true, if_false] at done ⊢
  · exact leaves_of_send named on plain legal usable done (MuMoves.muTake _ _ _) (by rw [folded]) (by rw [folded]; exact on.2)
      (by rw [folded]) rfl
  · exact leaves_on_of_local named on plain legal usable done (by rw [folded]; exact on.2) (by rw [folded]) (by rw [folded])

/-- A token for anything but a tile faults. -/
theorem faults_of_token {c : Instr} {s : State} {t : Slot} {i : Tis} {dst : Word} {su : BitVec 2} {v : Byte}
    (named : instruction c = some (t, i)) (on : Issues s t) (plain : i.plain = true) (legal : i.legal = true)
    (usable : Usable s t i.reads)
    (token : (s.tile t.val).local (s.ctx t.val) i = (s.tile t.val).sendToken (s.ctx t.val) i dst su v)
    (elsewhere : dst.toNat % 65536 ≠ 0) : Faults c s t .illegalInstruction i 0 :=
  faults_of_local named on plain legal usable <| token.trans <| if_pos <| by
    rw [wbits, bits, pow_zero, Nat.div_one]
    exact elsewhere

theorem selfWord_eq (t : Slot) : selfWord t.val = BitVec.ofNat 32 (2 ^ 16 * (t.val / 26) + 2 ^ 21 * posOf t.val) := by
  have pos : posOf t.val < 2 ^ 5 := by unfold posOf; split <;> omega
  have row : rowOf t.val < 2 ^ 5 := by unfold rowOf; omega
  rw [selfWord, fld, fld, Nat.mod_eq_of_lt row, Nat.mod_eq_of_lt pos, rowOf, Nat.mul_comm, Nat.mul_comm (posOf _)]

/-- Word 0 of R96 of a tile names no endpoint. -/
theorem selfWord_tile (t : Slot) : (selfWord t.val).toNat % 65536 = 0 := by
  have pos : posOf t.val < 29 := by unfold posOf; split <;> omega
  rw [selfWord_eq, BitVec.toNat_ofNat]
  omega

/-- The counts of SUSTAT that TSTAT reads. -/
theorem suStat_low {x : Tile} {u n : Nat} (counted : n = if (x.su u).enable then (x.queue (x.su u).iq).held.length else 0)
    (few : (x.su u).tokens.length ≤ 8) : x.suStat u % 256 = (x.su u).tokens.length + 16 * min 15 n := by
  have data : (if (x.su u).enable then min 15 (x.queue (x.su u).iq).held.length else 0) = min 15 n := by
    rw [counted]
    split <;> rfl
  unfold Tile.suStat
  simp only [data, fld]
  omega

theorem tokens : Tokens := by
  intro s t su ra rb v on x o self sent
  refine ⟨fun room => ⟨fun usable tile => ?_, fun usable tile => ?_, ?_⟩, fun elsewhere => ⟨fun usable => ?_, fun usable => ?_⟩,
    fun i n unit counted few => ?_⟩
  · exact leaves_of_token rfl on rfl rfl usable rfl tile room
  · exact leaves_of_token rfl on rfl rfl usable rfl tile room
  · rw [show self = selfWord t.val from (selfWord_eq t).symm]
    exact leaves_of_token rfl on rfl rfl nofun rfl (selfWord_tile t) room
  · exact faults_of_token rfl on rfl rfl usable rfl elsewhere
  · exact faults_of_token rfl on rfl rfl usable rfl elsewhere
  · subst unit
    refine writes_of_local rfl on rfl rfl nofun ?_
    rw [Tile.local, Tile.setRun_running on.2, Tile.execTstat, suStat_low counted few]
    rfl

/-! ### SEND -/

/-- The fields of RLEN: the length and, in lines, where the payload begins. -/
theorem payload_offset (w : Word) : wbits w 16 16 * 64 = w.toNat / 65536 * 64 := by
  have := w.isLt
  rw [wbits, bits]
  omega

/-- Where the payload of a SEND begins. -/
def payloadAt (s : State) (t : Slot) (o : SendOp) : Nat :=
  ((s.tile t.val).handle o.h).base + ((s.tile t.val).reg o.rlen).toNat / 65536 * 64

/-- The destination of a SEND is nowhere (R231, R473). -/
abbrev sentNowhere (s : State) (t : Slot) (o : SendOp) : Prop :=
  ((sentHeader s t o).dstEp = 0 ∧ (23 < (sentHeader s t o).dstRow.toNat ∨ 28 < (sentHeader s t o).dstPos.toNat))
    ∨ ((sentHeader s t o).dstEp ≠ 0 ∧ s.runsService (s.strandOf t.val) = true)

/-- A tile after its SEND was folded, with the entries of the payload registered unless the destination is nowhere, and the
status register held. -/
def sendRegistered (s : State) (t : Slot) (o : SendOp) : Tile × List Nat :=
  let hd := sentHeader s t o
  let y := (s.tile t.val).foldMsg hd ((s.tile t.val).read (payloadAt s t o) hd.length)
  let r := if sentNowhere s t o then (y, [])
    else y.register (spanEntry (spanOf [(payloadAt s t o, hd.length)]) false 2 (s.tile t.val).core.pc.toNat)
  ({ r.1 with core := { r.1.core with held := o.rds :: r.1.core.held } }, r.2)

/-- The unit-queue entry of a SEND. -/
def sendEntry (s : State) (t : Slot) (o : SendOp) : MuEntry :=
  { msg := ⟨sentHeader s t o, [], false⟩, phase := if sentNowhere s t o then .done 4 else .queued, rds := some o.rds
    h := some o.h, addr := payloadAt s t o, ents := (sendRegistered s t o).2, credit := none, limitUs := 0
    pc := (s.tile t.val).core.pc.toNat }

theorem sendRegistered_frame (s : State) (t : Slot) (o : SendOp) :
    (sendRegistered s t o).1.core = { (s.tile t.val).core with held := o.rds :: (s.tile t.val).core.held }
      ∧ (sendRegistered s t o).1.units = (s.tile t.val).units := by
  obtain ⟨sig, folded⟩ := (s.tile t.val).foldMsg_eq (sentHeader s t o)
    ((s.tile t.val).read (payloadAt s t o) (sentHeader s t o).length)
  unfold sendRegistered
  dsimp only
  by_cases out : sentNowhere s t o
  · rw [if_pos out, folded]
    exact ⟨rfl, rfl⟩
  · rw [if_neg out, folded]
    exact ⟨rfl, rfl⟩

theorem Tile.register_core (x : Tile) (es : List SbEntry) : (x.register es).1.core = x.core := rfl

section
variable {s : State} {t : Slot} {o : SendOp} (i : Tis)

theorem Tile.execSend_tooLong (room : (s.tile t.val).units.mu.length < 8)
    (long : (if o.cnet then 256 else 4096) < (sentHeader s t o).length) :
    (s.tile t.val).execSend (s.ctx t.val) i o = (s.tile t.val).fail .msgLength i 0 := by
  have header : sendHeader (s.ctx t.val).slot (s.tile t.val) o = sentHeader s t o := sendHeader_eq_sentHeader s t o
  unfold Tile.execSend
  simp only [header]
  rw [if_neg (by simp [Tile.muRoom_of_lt room]), if_pos long]

theorem Tile.execSend_refused {code : FaultCode} (room : (s.tile t.val).units.mu.length < 8)
    (short : (sentHeader s t o).length ≤ if o.cnet then 256 else 4096)
    (refused : (s.tile t.val).sendCheck o.h (((s.tile t.val).reg o.rlen).toNat / 65536 * 64) (sentHeader s t o).length
      = some code) :
    (s.tile t.val).execSend (s.ctx t.val) i o = (s.tile t.val).fail code i 0 := by
  have header : sendHeader (s.ctx t.val).slot (s.tile t.val) o = sentHeader s t o := sendHeader_eq_sentHeader s t o
  unfold Tile.execSend
  simp only [header, payload_offset, refused]
  rw [if_neg (by simp [Tile.muRoom_of_lt room]), if_neg (not_lt.2 short)]

theorem Tile.execSend_goes (running : (s.tile t.val).core.run = .running) (room : (s.tile t.val).units.mu.length < 8)
    (short : (sentHeader s t o).length ≤ if o.cnet then 256 else 4096)
    (passes : (s.tile t.val).sendCheck o.h (((s.tile t.val).reg o.rlen).toNat / 65536 * 64) (sentHeader s t o).length = none)
    (go : (s.tile t.val).sbCheck [[(payloadAt s t o, (sentHeader s t o).length)]] []
      (if (sentHeader s t o).length = 0 then 0 else 1) = .go) :
    (s.tile t.val).execSend (s.ctx t.val) i o
      = if (s.tile t.val).shadowing then
          (((s.tile t.val).foldMsg (sentHeader s t o)
            ((s.tile t.val).read (payloadAt s t o) (sentHeader s t o).length)).setReg o.rds 0).adv 1
        else (((sendRegistered s t o).1.pushMu (sendEntry s t o)).muTake (s.get K.priorityClassState)
          (s.get K.sendStallLimit)).adv 1 := by
  have header : sendHeader (s.ctx t.val).slot (s.tile t.val) o = sentHeader s t o := sendHeader_eq_sentHeader s t o
  obtain ⟨sig, folded⟩ := (s.tile t.val).foldMsg_eq (sentHeader s t o)
    ((s.tile t.val).read (payloadAt s t o) (sentHeader s t o).length)
  have service : (s.ctx t.val).service = s.runsService (s.strandOf t.val) := rfl
  have pc : ((s.tile t.val).foldMsg (sentHeader s t o) ((s.tile t.val).read (payloadAt s t o)
      (sentHeader s t o).length)).core.pc = (s.tile t.val).core.pc := by rw [folded]
  unfold payloadAt at go pc
  unfold Tile.execSend
  simp only [header, payload_offset, passes, service]
  rw [if_neg (by simp [Tile.muRoom_of_lt room]), if_neg (not_lt.2 short)]
  simp only [go, Tile.guard, Tile.setRun_running running, Tile.shadowing_foldMsg, pc]
  unfold sendEntry sendRegistered payloadAt
  by_cases out : sentNowhere s t o
  · simp only [if_pos out, pc]
    rfl
  · simp only [if_neg out, Tile.register_core, pc]
    rfl

end

theorem State.tile_bump (s : State) (k n u : Nat) : (s.bump k n).tile u = s.tile u := rfl

theorem sends : Sends := by
  intro s t rds rdst rlen h cnet reply pri on even usable room x o hd len off e a out
  have legal : (Tis.send o).legal = true := by simp [Tis.legal, o, even]
  refine ⟨fun long => faults_of_local rfl on rfl legal usable (Tile.execSend_tooLong _ room long),
    fun short some_ kind => faults_of_local rfl on rfl legal usable (Tile.execSend_refused _ room short ?_),
    fun short some_ kind read beyond => faults_of_local rfl on rfl legal usable (Tile.execSend_refused _ room short ?_),
    fun short within go => ?_⟩
  · exact (if_neg some_.ne').trans (if_pos kind)
  · exact (if_neg some_.ne').trans ((if_neg (not_or.2 ⟨not_not.2 kind, ne_false_of_eq_true read⟩)).trans (if_pos beyond))
  have passes : x.sendCheck h off len = none := by
    unfold Tile.sendCheck
    by_cases zero : len = 0
    · exact if_pos zero
    · obtain ⟨kind, read, inside⟩ := within (Nat.pos_of_ne_zero zero)
      exact (if_neg zero).trans ((if_neg (not_or.2 ⟨not_not.2 kind, ne_false_of_eq_true read⟩)).trans
        (if_neg (not_lt.2 inside)))
  have done := Tile.execSend_goes (o := o) (.send o) on.2 room short passes go
  refine ⟨fun shadow => ?_, fun sent => ?_⟩
  · obtain ⟨sig, folded⟩ := x.foldMsg_eq hd (x.read a len)
    rw [if_pos shadow] at done
    exact leaves_on_of_local rfl on rfl legal usable done
      (by rw [show (s.tile t.val).foldMsg (sentHeader s t o) _ = _ from folded]; exact on.2)
      (by rw [show (s.tile t.val).foldMsg (sentHeader s t o) _ = _ from folded]; rfl)
      (by rw [show (s.tile t.val).foldMsg (sentHeader s t o) _ = _ from folded]; exact Nat.le_refl _)
  · rw [if_neg (ne_true_of_eq_false sent)] at done
    obtain ⟨core, units⟩ := sendRegistered_frame s t o
    have run := exec_send (c := .send t o) rfl on rfl legal usable done (MuMoves.muTake _ _ _) units (by rw [core]; exact on.2)
      (by rw [core])
    generalize sent_ : (((sendRegistered s t o).1.pushMu (sendEntry s t o)).muTake (s.get K.priorityClassState)
      (s.get K.sendStallLimit)).setPc (here s t + 1) = y at run
    have tiles := fun u => State.tile_setTile s t.val u y
    by_cases nowhere : out
    · rw [if_pos (show (sendEntry s t o).phase = .done 4 from if_pos nowhere)] at run
      refine ⟨_, run, ?_, fun u hu => ?_, ?_⟩
      · rw [State.tile_bump, tiles, if_pos rfl, ← sent_]
        rfl
      · rw [State.tile_bump, tiles, if_neg hu]
      · rw [if_pos nowhere]
        rfl
    · have queued : (sendEntry s t o).phase = .queued := if_neg nowhere
      rw [if_neg (by rw [queued]; nofun)] at run
      refine ⟨_, run, ?_, fun u hu => ?_, ?_⟩
      · rw [tiles, if_pos rfl, ← sent_]
        rfl
      · rw [tiles, if_neg hu]
      · rw [if_neg nowhere]
        rfl

/-! ### Retirement -/

theorem Tile.releaseCredit_eq (x : Tile) (q n : Nat) : ∃ Q, x.releaseCredit q n = { x with queues := Q } := by
  unfold Tile.releaseCredit
  dsimp only
  split
  · exact ⟨_, rfl⟩
  · exact ⟨x.queues, rfl⟩

/-- The register that receives a status, and what is held. -/
def Tile.statusCore (x : Tile) (rds : Option (BitVec 5)) (st : Nat) : Core :=
  match rds with
  | some r => { (x.setReg r (BitVec.ofNat 32 st)).core with held := x.core.held.erase r }
  | none => x.core

theorem Tile.retireMu_eq (x : Tile) (e : MuEntry) (rest : List MuEntry) (st : Nat) :
    ∃ F Q, x.retireMu e rest st = { x with
      core := x.statusCore e.rds st
      units := { x.units with mu := rest, fwd := F }
      queues := Q
      pad := { x.pad with sb := x.pad.sb.filter fun p => !e.ents.contains p.1 } } := by
  unfold Tile.retireMu Tile.statusCore
  rcases e.rds with _ | r <;> rcases e.credit with _ | n <;> dsimp only
  · exact ⟨_, x.queues, rfl⟩
  · split
    · exact ⟨_, x.queues, rfl⟩
    · obtain ⟨Q, released⟩ := Tile.releaseCredit_eq _ _ _
      rw [released]
      exact ⟨_, Q, rfl⟩
  · exact ⟨_, x.queues, rfl⟩
  · split
    · exact ⟨_, x.queues, rfl⟩
    · obtain ⟨Q, released⟩ := Tile.releaseCredit_eq _ _ _
      rw [released]
      exact ⟨_, Q, rfl⟩

theorem Tile.statusCore_rest (x : Tile) (rds : Option (BitVec 5)) (st : Nat) :
    { x.statusCore rds st with regs := x.core.regs, held := x.core.held } = x.core := by
  cases rds <;> rfl

theorem sendRetires : SendRetires := by
  intro s t e rest st mu done
  have run : exec (.sendRetire t) s = .next (s.onTile t.val fun x =>
      (x.retireMu e rest st).muTake (s.get K.priorityClassState) (s.get K.sendStallLimit)) := by
    change execSendRetire t s = _
    unfold execSendRetire
    simp only [mu, done]
  refine ends_of_leaves (leaves_setTile run) fun s' tile only => ?_
  obtain ⟨F, Q, retired⟩ := (s.tile t.val).retireMu_eq e rest st
  obtain ⟨core, pad, entries, count, -⟩ := MuMoves.muTake ((s.tile t.val).retireMu e rest st) (s.get K.priorityClassState)
    (s.get K.sendStallLimit)
  have regs : ∀ r, (s'.tile t.val).reg r = look (fun _ => 0) ((s.tile t.val).statusCore e.rds st).regs r.toNat := fun r => by
    rw [Tile.reg, tile, core, retired]
  have status : (s'.tile t.val).core = (s.tile t.val).statusCore e.rds st := by rw [tile, core, retired]
  dsimp only
  refine ⟨fun r rds => ⟨?_, ?_⟩, fun rds => ?_, fun q other => ?_, ?_, fun p hp => ?_, ?_, ?_, only⟩
  · rw [regs, rds]
    exact ((s.tile t.val).reg_setReg r r _).trans (if_pos rfl)
  · rw [status, rds]
    rfl
  · rw [status, rds]
    rfl
  · rw [regs]
    rcases rds : e.rds with _ | r
    · rfl
    · exact ((s.tile t.val).reg_setReg r q _).trans (if_neg fun same => other (by rw [rds, same]))
  · rw [tile, count, retired]
  · rw [tile] at hp
    have kept := entries p hp
    rw [retired] at kept
    simpa using (List.mem_filter.1 kept).2
  · rw [status]
    exact Tile.statusCore_rest ..
  · rw [tile]
    exact (congrArg (fun p : Pad => { p with sb := (s.tile t.val).pad.sb }) pad).trans (by rw [retired])

end Sys2Proof.Machine

/-- Settles O36. -/
theorem sending : Obligations.Sending := ⟨tokens, sends, sendRetires⟩

end

section
/-! SUPPORT. Control registers of a tile, read and written (R61, R62, R88, R106, R114, R132, R246). -/

open Sys2Proof Sys2Proof.Claims Sys2Proof.Machine

namespace Sys2Proof.Machine

/-! ### Reads and writes by offset -/

/-- A register whose write concerns its tile alone. -/
theorem State.writeReg_local {o : Nat} (s : State) (t : Nat) (v : Word)
    (h : o ≠ 0x608 ∧ ¬ (0x610 ≤ o ∧ o < 0x650) ∧ o ≠ 0x384 ∧ o ≠ 0x388 ∧ o ≠ 0x390) :
    s.writeReg t o v = s.setTile t ((s.tile t).regWriteLocal o v) := by
  obtain ⟨flag_, count, epoch, tune, step⟩ := h
  rw [State.writeReg, if_neg flag_, if_neg count, if_neg epoch, if_neg tune, if_neg step]
  rfl

theorem Tile.regRead_conflict (c : Ctx) (x : Tile) {d : Nat} (h : d < 24) :
    x.regRead c (0x100 + 4 * d) = some (look (fun _ => 0) x.pad.conflicts d) := by
  unfold Tile.regRead
  dsimp only
  iterate 6 rw [if_neg (by omega)]
  rw [if_pos (by omega), show (0x100 + 4 * d - 0x100) / 4 = d by omega]

theorem Tile.regWriteLocal_conflict (x : Tile) (v : Word) {d : Nat} (h : d < 24) :
    x.regWriteLocal (0x100 + 4 * d) v
      = { x with pad := { x.pad with conflicts := put (fun _ => 0) x.pad.conflicts d 0 } } := by
  unfold Tile.regWriteLocal
  iterate 2 rw [if_neg (by omega)]
  rw [if_pos (by omega), show (0x100 + 4 * d - 0x100) / 4 = d by omega]

/-- Word `w` of SUOUT[u][k]. -/
theorem Tile.regRead_suOut (c : Ctx) (x : Tile) {u k w : Nat} (hu : u < 4) (hk : k < 4) (hw : w < 2) :
    (x.regRead c (0x400 + 32 * u + 8 * k + 4 * w)).isSome = true := by
  unfold Tile.regRead
  dsimp only
  iterate 18 rw [if_neg (by omega)]
  rw [if_pos (by omega)]
  rfl

theorem Tile.regWriteLocal_suOut (x : Tile) (v : Word) {u k w : Nat} (hu : u < 4) (hk : k < 4) (hw : w < 2) :
    x.regWriteLocal (0x400 + 32 * u + 8 * k + 4 * w) v = x.suOutWrite u k w v := by
  unfold Tile.regWriteLocal
  iterate 5 rw [if_neg (by omega)]
  rw [if_pos (by omega), show (0x400 + 32 * u + 8 * k + 4 * w - 0x400) / 32 = u by omega,
    show (0x400 + 32 * u + 8 * k + 4 * w - 0x400) / 8 % 4 = k by omega,
    show (0x400 + 32 * u + 8 * k + 4 * w) / 4 % 2 = w by omega]

/-- The words of an output of a unit that is off. -/
theorem Tile.suOutWrite_off {x : Tile} {u k w : Nat} (v : Word) (off : (x.su u).enable = false) :
    x.suOutWrite u k w v
      = let p := (x.su u).outs.getD k (0, 0)
        let p' := if w = 0 then (v &&& 0x3FFF00FF, p.2) else (p.1, v &&& 0x000F0000)
        x.setSu u { x.su u with outs := setAt (x.su u).outs k p' } :=
  if_neg (ne_true_of_eq_false off)

/-- What is left of a register whose VALID is at [31], after a write of `v`. -/
def keptBits (v : Word) : Word := if v.toNat.testBit 31 then 0x7FFFFFFF else 0xFFFFFFFF

theorem Tile.regWriteLocal_sbfault (x : Tile) (v : Word) :
    x.regWriteLocal 0x024 v = { x with pad := { x.pad with sbfault := x.pad.sbfault &&& keptBits v } } := by
  unfold Tile.regWriteLocal keptBits
  rw [if_neg (by decide), if_pos rfl, bit_eq_testBit]
  cases v.toNat.testBit 31 with
  | true => rfl
  | false =>
    have kept : x.pad.sbfault &&& 0xFFFFFFFF = x.pad.sbfault := BitVec.and_allOnes
    simp only [Bool.false_eq_true, if_false, kept]

theorem Tile.regWriteLocal_skfail (x : Tile) (v : Word) :
    x.regWriteLocal 0x908 v = { x with skim := { x.skim with fail := x.skim.fail &&& keptBits v } } := by
  unfold Tile.regWriteLocal keptBits
  iterate 8 rw [if_neg (by decide)]
  rw [if_pos rfl, bit_eq_testBit]
  cases v.toNat.testBit 31 with
  | true => rfl
  | false =>
    have kept : x.skim.fail &&& 0xFFFFFFFF = x.skim.fail := BitVec.and_allOnes
    simp only [Bool.false_eq_true, if_false, kept]

theorem Tile.regWriteLocal_fxfail (x : Tile) (v : Word) :
    ∃ w, x.regWriteLocal 0x800 v = { x with fxfail := (x.fxfail.1 &&& keptBits v, w) } := by
  unfold Tile.regWriteLocal keptBits
  iterate 7 rw [if_neg (by decide)]
  rw [if_pos rfl, bit_eq_testBit]
  cases v.toNat.testBit 31 with
  | true => exact ⟨_, rfl⟩
  | false =>
    have kept : x.fxfail.1 &&& 0xFFFFFFFF = x.fxfail.1 := BitVec.and_allOnes
    exact ⟨x.fxfail.2, by simp only [Bool.false_eq_true, if_false, kept]⟩

/-! ### CSRR and CSRW -/

theorem State.acts_csrw {s : State} {t : Nat} {rd ra : BitVec 5} {csr : BitVec 12}
    (h : s.regTarget t (.csrw rd ra csr) = none) :
    s.acts t (.csrw rd ra csr)
      = s.issueFault t (if csr.toNat % 4 ≠ 0 then .alignFault else .addressFault) (.csrw rd ra csr) 0 := by
  unfold State.acts
  rw [h]

theorem faults_of_csrw {s : State} {t : Slot} {rd ra : BitVec 5} {csr : BitVec 12} {code : FaultCode} (on : Issues s t)
    (usable : Usable s t [ra])
    (bad : ¬ (csr.toNat % 4 = 0 ∧ ((s.tile t.val).regRead (s.ctx t.val) csr.toNat).isSome = true))
    (hc : (if csr.toNat % 4 ≠ 0 then FaultCode.alignFault else .addressFault) = code) :
    Faults (.csrw t rd ra csr) s t code (.csrw rd ra csr) 0 := by
  rw [Faults, exec_instruction rfl, State.issue_acts (i := .csrw rd ra csr) on rfl usable, State.acts_csrw (if_neg bad), hc]
  rfl

theorem controlRegisters : ControlRegisters := by
  intro s t rd ra csr on x o
  have run : x.setRun .running = x := Tile.setRun_running on.2
  have local_ : x.local (s.ctx t.val) (.csrr rd ra csr) = x.execCsrr (s.ctx t.val) (.csrr rd ra csr) rd csr := by
    rw [Tile.local, run]
  refine ⟨fun aligned v read => ?_, fun usable aligned stands opens => ?_, fun odd => ⟨?_, fun usable => ?_⟩,
    fun aligned none_ => ⟨?_, fun usable => ?_⟩⟩
  · refine writes_of_local rfl on rfl rfl nofun (local_.trans ?_)
    unfold Tile.execCsrr
    rw [if_neg (not_not.2 aligned), read]
    rfl
  · have target : s.regTarget t.val (.csrw rd ra csr) = some (o, x.reg ra) := if_pos ⟨aligned, stands⟩
    rw [exec_instruction rfl, State.issue_acts (i := .csrw rd ra csr) on rfl usable, State.acts_register target,
      State.issueReg, if_neg opens, State.onTile_goes_on on.2, passed, run]
    rfl
  · exact faults_of_local rfl on rfl rfl nofun (local_.trans (if_pos odd))
  · exact faults_of_csrw on usable (fun h => odd h.1) (if_pos odd)
  · refine faults_of_local rfl on rfl rfl nofun (local_.trans ?_)
    unfold Tile.execCsrr
    rw [if_neg (not_not.2 aligned), none_]
  · exact faults_of_csrw on usable (fun h => by simp [o, x] at none_; simp [none_] at h) (if_neg (not_not.2 aligned))

/-! ### Registers with rows of their own -/

theorem getLsbD_ofNat_two_pow {n k : Nat} (hk : k < 64) : (BitVec.ofNat 64 (2 ^ n)).getLsbD k = decide (k = n) := by
  rw [BitVec.getLsbD_ofNat, Nat.testBit_two_pow]
  simp [hk, eq_comm]

/-- SNFSET writes one S-net flag. -/
theorem State.setFlag_flags (s : State) (v : Word) {k : Nat} (h : k < 64) :
    (s.setFlag v).net.flags.getLsbD k = if k = v.toNat % 64 then v.toNat.testBit 8 else s.net.flags.getLsbD k := by
  have index : wbits v 0 6 = v.toNat % 64 := by rw [wbits, bits, pow_zero, Nat.div_one]; rfl
  unfold State.setFlag
  simp only [index, bit_eq_testBit]
  have mask := getLsbD_ofNat_two_pow (n := v.toNat % 64) h
  generalize BitVec.ofNat 64 (2 ^ (v.toNat % 64)) = m at mask ⊢
  cases v.toNat.testBit 8 <;> simp only [Bool.false_eq_true, if_true, if_false, BitVec.getLsbD_or, BitVec.getLsbD_and,
    BitVec.getLsbD_not, mask, h, decide_true, Bool.true_and]
  all_goals
    by_cases at_ : k = v.toNat % 64
    · simp only [if_pos at_, decide_eq_true at_, Bool.not_true, Bool.and_false, Bool.or_true]
    · simp only [if_neg at_, decide_eq_false at_, Bool.not_false, Bool.and_true, Bool.or_false]

theorem leaves_of_writeReg {c : Instr} {s : State} {t : Slot} {o : Nat} {v : Word} {x : Tile}
    (run : exec c s = .next (s.writeReg t.val o v))
    (h : o ≠ 0x608 ∧ ¬ (0x610 ≤ o ∧ o < 0x650) ∧ o ≠ 0x384 ∧ o ≠ 0x388 ∧ o ≠ 0x390)
    (write : (s.tile t.val).regWriteLocal o v = x) : Leaves c s t x :=
  leaves_setTile (run.trans (by rw [State.writeReg_local s t.val v h, write]))

theorem registerClears : RegisterClears := by
  intro s t v x keep
  refine ⟨leaves_of_writeReg rfl (by decide) ?_, leaves_of_writeReg rfl (by decide) ?_,
    leaves_of_writeReg rfl (by decide) ?_, ?_, fun b => ?_, ⟨s.setFlag v, rfl, fun k hk => s.setFlag_flags v hk, rfl⟩,
    fun c => ?_⟩
  · exact congrArg (fun w : BitVec 5 => { x with core := { x.core with mstat := x.core.mstat &&& ~~~w } })
      (BitVec.ofNat_toNat 5 v)
  · exact x.regWriteLocal_sbfault v
  · exact x.regWriteLocal_skfail v
  · obtain ⟨w, write⟩ := x.regWriteLocal_fxfail v
    refine ends_of_leaves (leaves_of_writeReg rfl (by decide) write) fun s' tile only => ?_
    rw [tile]
    exact ⟨rfl, rfl, only⟩
  · have offset := b.isLt
    refine ends_of_leaves (leaves_of_writeReg rfl (by omega) (x.regWriteLocal_conflict v offset)) fun s' tile only => ?_
    rw [tile]
    have counter := fun d => look_put (fun _ => (0 : Word)) x.pad.conflicts b.val d 0
    refine ⟨?_, fun d hd => ?_, rfl, only⟩
    · rw [Tile.regRead_conflict _ _ offset, counter, if_pos rfl]
    · rw [Tile.regRead_conflict _ _ d.isLt, Tile.regRead_conflict _ _ d.isLt, counter, if_neg fun e => hd (Fin.ext e)]
  · have index : 0x610 + 4 * c.val ≠ 0x608 ∧ (0x610 ≤ 0x610 + 4 * c.val ∧ 0x610 + 4 * c.val < 0x650)
        ∧ (0x610 + 4 * c.val - 0x610) / 4 = c.val := by omega
    refine ⟨s.addCount c.val v, ?_, fun d => ?_, rfl⟩
    · change Host.Outcome.next (s.writeReg t.val (0x610 + 4 * c.val) v) = _
      rw [State.writeReg, if_neg index.1, if_pos index.2.1, index.2.2]
    · refine (look_put (fun _ => (0 : Word)) s.net.counts c.val d _).trans ?_
      by_cases same : d = c.val
      · rw [if_pos same, if_pos same, same]
      · rw [if_neg same, if_neg same]

theorem tileRegisterWrite : TileRegisterWrite := by
  intro s t addr v x o stands
  refine ⟨fun h => ?_, fun h => ?_, fun u k w off full at_ => ?_⟩
  · obtain ⟨aligned, lo, hi, some_⟩ := h
    have offset : addr.toNat % 0x1000 = o := by omega
    change execTileRegWrite t addr v s = _
    unfold execTileRegWrite
    simp only [offset]
    exact if_pos ⟨aligned, lo, hi, some_⟩
  · change execTileRegWrite t addr v s = _
    unfold execTileRegWrite
    refine if_neg fun ⟨aligned, lo, hi, some_⟩ => h ⟨aligned, lo, hi, ?_⟩
    rwa [show o = addr.toNat % 0x1000 by omega]
  · have hk := k.isLt
    have write := x.suOutWrite_off (k := k.val) (w := b2n w) v off
    have hu := u.isLt
    have bound := b2n_le_one w
    have word : (if w then 4 else 0) = 4 * b2n w := by cases w <;> rfl
    rw [word] at at_
    have at_' : addr.toNat % 0x1000 = 0x400 + 32 * u.val + 8 * k.val + 4 * b2n w := by omega
    have run : exec (.tileRegWrite t addr v) s = .next (s.writeReg t.val (0x400 + 32 * u.val + 8 * k.val + 4 * b2n w) v) := by
      change execTileRegWrite t addr v s = _
      unfold execTileRegWrite
      simp only [at_']
      refine if_pos ⟨?_, ?_, ?_, Tile.regRead_suOut _ _ u.isLt hk (Nat.lt_succ_of_le (b2n_le_one w))⟩ <;> omega
    have local_ := x.regWriteLocal_suOut v u.isLt hk (Nat.lt_succ_of_le (b2n_le_one w))
    refine ends_of_leaves (leaves_of_writeReg run (by omega) (local_.trans write)) fun s' tile only => ?_
    rw [tile]
    refine ⟨?_, fun d hd => (x.su_setSu _ _ _).trans (if_neg hd), rfl, only⟩
    rw [Tile.su_setSu, if_pos rfl]
    cases w <;> simp [setAt, b2n, List.getD_eq_getElem?_getD, full]

end Sys2Proof.Machine

/-- Settles O42. -/
theorem tileRegisters : Obligations.TileRegisters := ⟨controlRegisters, registerClears, tileRegisterWrite⟩

end

section
/-! SUPPORT. Fences (R102, R208), the ends of a stall (R127 to R132) and halts (R199). -/

open Sys2Proof Sys2Proof.Claims Sys2Proof.Machine

namespace Sys2Proof.Machine

/-! ### Fences -/

def VecPlace.isWindow : VecPlace → Bool
  | .window _ _ _ => true
  | _ => false

def VecPlace.isMem : VecPlace → Bool
  | .mem _ => true
  | _ => false

def VecPlace.isScratch : VecPlace → Bool
  | .scratch _ => true
  | _ => false

theorem VecPlace.isWindow_eq_false {p : VecPlace} : p.isWindow = false ↔ ∀ e w o, p ≠ .window e w o := by
  cases p <;> simp [VecPlace.isWindow]

theorem VecPlace.isMem_eq_false {p : VecPlace} : p.isMem = false ↔ ∀ a, p ≠ .mem a := by
  cases p <;> simp [VecPlace.isMem]

theorem VecPlace.isScratch_eq_false {p : VecPlace} : p.isScratch = false ↔ ∀ a, p ≠ .scratch a := by
  cases p <;> simp [VecPlace.isScratch]

theorem Tile.fenceDone_eq (x : Tile) (r m n c : Bool) :
    x.fenceDone r m n c = ((!r || (x.units.remoteWrites = 0 && !x.units.vuq.any fun j => j.f = .vst && j.place.isWindow))
      && (!m || (x.units.memWrites = 0 && !x.units.vuq.any fun j => j.f = .vst && j.place.isMem))
      && (!n || !(x.units.mu.any fun e => e.rds.isSome))
      && (!c || (x.units.meq.isEmpty && !x.units.vuq.any fun j => j.f = .vst && j.place.isScratch))) := rfl

theorem Tile.fenceDone_iff (x : Tile) (r m n c : Bool) : x.fenceDone r m n c = true ↔ Complete x r m n c := by
  rw [Tile.fenceDone_eq]
  cases r <;> cases m <;> cases n <;> cases c <;>
    simp [Complete, VecPlace.isWindow_eq_false, VecPlace.isMem_eq_false, VecPlace.isScratch_eq_false, and_assoc]

theorem passed_eq_adv (x : Tile) : passed x = (x.setRun .running).adv 1 := by
  unfold passed Tile.adv
  exact congrArg (fun k : Int => (x.setRun .running).setPc k) rfl

theorem passed_run (x : Tile) : (passed x).core.run = .running := by
  unfold passed
  rw [Tile.setPc_run]
  rfl

theorem passed_units (x : Tile) : (passed x).units = x.units := by
  unfold passed
  rw [Tile.setPc_units]
  rfl

theorem Tile.endFence_eq_passed (x : Tile) (m : Bool) :
    x.endFence m = passed { x with units := { x.units with unfenced := x.units.unfenced && !m } } := by
  rw [passed_eq_adv]
  cases m with
  | true => simp only [Bool.not_true, Bool.and_false]; rfl
  | false => simp only [Bool.not_false, Bool.and_true]; rfl

theorem fences : Fences := by
  intro s t r m n c x ended
  refine ⟨fun on => ⟨fun all => ?_, fun some_ => ?_⟩, fun fencing => ⟨fun all => leaves_setTile ?_, fun some_ => ?_⟩⟩
  · have done : x.local (s.ctx t.val) (.fence r m n c 0) = ended :=
      (if_pos ((x.fenceDone_iff r m n c).2 all)).trans (x.endFence_eq_passed m)
    refine leaves_of_local rfl on rfl rfl nofun done ?_ ?_
    · rw [passed_run]; nofun
    · rw [passed_units]
  · exact leaves_of_local rfl on rfl rfl nofun (if_neg (mt (x.fenceDone_iff r m n c).1 some_)) nofun (Nat.le_refl _)
  · change execFenceComplete t s = _
    unfold execFenceComplete
    rw [fencing]
    dsimp only
    rw [if_pos ((Tile.fenceDone_iff _ r m n c).2 all), State.onTile, Tile.endFence_eq_passed]
  · change execFenceComplete t s = _
    unfold execFenceComplete
    rw [fencing]
    exact if_neg (mt (Tile.fenceDone_iff _ r m n c).1 some_)

/-! ### The ends of a stall -/

theorem State.issueNow_acts {s : State} {t : Nat} {i : Tis} (legal : i.legal = true)
    (usable : ∀ r ∈ i.reads, (s.tile t).core.held.contains r = false) : s.issueNow t i = s.acts t i := by
  have free : i.reads.any ((s.tile t).core.held.contains ·) = false :=
    List.any_eq_false.2 fun r hr => ne_true_of_eq_false (usable r hr)
  unfold State.issueNow
  rw [if_neg (by simp [legal]), if_neg (ne_true_of_eq_false free)]
  rfl

theorem exec_stalledIssueRetry {s : State} {t : Slot} {i : Tis} {timed : Bool}
    (stalled : (s.tile t.val).core.run = .stalled i timed) :
    exec (.stalledIssueRetry t) s = .next (s.issueNow t.val i) := by
  change execStalledIssueRetry t s = _
  unfold execStalledIssueRetry
  simp only [stalled]

/-- SBFAULT after a capture: VALID, and whether it was a timeout, at [31:30] (R132). -/
theorem Tile.captureSb_bits (x : Tile) (line pc unit : Nat) (timeout : Bool)
    (free : x.pad.sbfault.toNat.testBit 31 = false) :
    (x.captureSb line pc unit timeout).pad.sbfault.toNat.testBit 31 = true
      ∧ (x.captureSb line pc unit timeout).pad.sbfault.toNat.testBit 30 = timeout := by
  have bound := b2n_le_one timeout
  rw [← bit_eq_testBit] at free
  unfold Tile.captureSb
  rw [if_neg (ne_true_of_eq_false free)]
  simp only [Nat.testBit_eq_decide_div_mod_eq, BitVec.toNat_ofNat, fld]
  refine ⟨decide_eq_true (by omega), ?_⟩
  cases timeout with
  | true => exact decide_eq_true (by simp only [b2n, if_true]; omega)
  | false => exact decide_eq_false (by simp only [b2n, Bool.false_eq_true, if_false]; omega)

theorem Tile.captureSb_full (x : Tile) (line pc unit : Nat) (timeout : Bool)
    (full : x.pad.sbfault.toNat.testBit 31 = true) : x.captureSb line pc unit timeout = x := by
  unfold Tile.captureSb
  exact if_pos (by rw [bit_eq_testBit, full])

theorem Tile.captureSb_eq (x : Tile) (line pc unit : Nat) (timeout : Bool) :
    ∃ w, x.captureSb line pc unit timeout = { x with pad := { x.pad with sbfault := w } } := by
  unfold Tile.captureSb
  dsimp only
  split
  · exact ⟨x.pad.sbfault, rfl⟩
  · exact ⟨_, rfl⟩

theorem State.stallTimeout_eq (s : State) (t : Nat) (i : Tis) : ∃ w : Nat × Nat × Nat,
    s.stallTimeout t i = (({ s with freeCount := s.freeCount + 1 } : State).setTile t
      (((s.tile t).captureSb w.1 w.2.1 w.2.2 true).fail .scoreboardTimeout i 0)).stopTile t := ⟨_, rfl⟩

/-- A register written by an instruction that was held. -/
theorem Tile.setReg_setPc_frame (x : Tile) (r : BitVec 5) (v : Word) (i : Int) :
    let y := (x.setReg r v).setPc i
    y.reg r = v ∧ RegFrame x y r ∧ y.core.pc = pcTo i :=
  ⟨(x.reg_setReg _ _ _).trans (if_pos rfl), ⟨fun _ h => (x.reg_setReg _ _ _).trans (if_neg h), rfl⟩, rfl⟩

theorem stallEnds : StallEnds := by
  intro s t x
  constructor
  · intro f rd base imm timed stalled free a aligned low mapped
    have here_ : x.ea base imm = a := Tile.ea_eq_address s t base imm
    have retry : exec (.stalledIssueRetry t) s = .next (s.issueLocal t.val (.load f rd base imm)) := by
      rw [exec_stalledIssueRetry stalled, State.issueNow_acts rfl fun r hr => by rwa [List.mem_singleton.1 hr],
        State.acts_plain _ _ rfl]
    have load : x.local (s.ctx t.val) (.load f rd base imm) = x.guard (.load f rd base imm) s.timeBase
        (s.get K.scoreboardWaitLimit) (x.sbCheck [[(a, f.size)]] [] 0)
        fun r => (r.setReg rd (loaded f fun k => r.byte (a + k))).adv 1 := by
      rw [← here_]
      exact Tile.execLoad_scratchpad (by rwa [here_]) (by rwa [here_]) (by rwa [here_])
    refine ⟨fun go => ?_, fun l unfilled => ?_⟩
    · rw [go, Tile.guard, Tile.adv_here (s := s) (t := t) (by rfl)] at load
      refine ends_of_leaves (leaves_setTile (retry.trans (congrArg _ (State.issueLocal_setTile load ?_ ?_)))) fun s' tile only => ?_
      · rw [Tile.setPc_run]; nofun
      · rw [Tile.setPc_units]; exact Nat.le_refl _
      · obtain ⟨value, frame, pc⟩ := (x.setRun .running).setReg_setPc_frame rd (loaded f fun k => x.byte (a + k)) (here s t + 1)
        rw [tile]
        exact ⟨value, frame, pc, only⟩
    · obtain ⟨w, captured⟩ := x.captureSb_eq l 0 0 false
      rw [unfilled, Tile.guard] at load
      rw [retry, State.issueLocal_fault load (by rw [captured])]
      rfl
  · intro i ns stalled
    have timeout : exec (.scoreboardTimeout t ns) s
        = if x.core.stallLimitUs * 1000 ≤ ns then .next (s.stallTimeout t.val i) else .next s := by
      change execScoreboardTimeout t ns s = _
      unfold execScoreboardTimeout
      rw [stalled]
    rw [timeout]
    refine ⟨fun early => if_neg (by omega), fun late => ?_⟩
    rw [if_pos (by omega)]
    obtain ⟨w, taken⟩ := s.stallTimeout_eq t.val i
    have whole := x.captureSb_eq w.1 w.2.1 w.2.2 true
    refine ⟨(x.captureSb w.1 w.2.1 w.2.2 true).fail .scoreboardTimeout i 0, rfl, ?_, x.captureSb_bits _ _ _ true,
      fun full => congrArg (·.pad.sbfault) (x.captureSb_full w.1 w.2.1 w.2.2 true full), ?_, congrArg _ taken⟩
    · obtain ⟨v, captured⟩ := whole
      rw [captured]
      rfl
    · obtain ⟨v, captured⟩ := whole
      rw [captured]
      rfl

/-! ### Halts -/

/-- A fold whose steps leave a part of its state alone leaves it alone. -/
theorem foldl_part {α β γ : Type} (g : α → γ) {f : α → β → α} (h : ∀ a b, g (f a b) = g a) (l : List β) (a : α) :
    g (l.foldl f a) = g a := by
  induction l generalizing a with
  | nil => rfl
  | cons b l ih => exact (ih (f a b)).trans (h a b)

@[simp] theorem Tile.advanceQueues_core (x : Tile) : x.advanceQueues.core = x.core := by
  unfold Tile.advanceQueues
  generalize List.range 16 = l
  exact foldl_part Tile.core (f := fun t q => t.setQueue q (t.queue q).advance) (fun _ _ => rfl) l x

@[simp] theorem Tile.advanceQueues_pad (x : Tile) : x.advanceQueues.pad = x.pad := by
  unfold Tile.advanceQueues
  generalize List.range 16 = l
  exact foldl_part Tile.pad (f := fun t q => t.setQueue q (t.queue q).advance) (fun _ _ => rfl) l x

/-- What a stage restart leaves of a tile, and what it empties (R199). -/
theorem Tile.restartStage_frame (x : Tile) (keep : List Range) :
    (x.restartStage keep).core.run = .stopped ∧ (x.restartStage keep).core.regs = []
      ∧ (x.restartStage keep).core.mstat = 0 ∧ (x.restartStage keep).pad.sb = []
      ∧ (x.restartStage keep).pad.bytes = x.pad.bytes ∧ (x.restartStage keep).pad.handles = x.pad.handles := by
  simp [Tile.restartStage, Tile.clearFill, Tile.clearSb, Tile.suClear, Tile.release]

theorem State.desc_onDesc (s : State) (j : JobId) (f : Desc → Desc) (kept : ∀ d, (f d).idx = d.idx) :
    (s.onDesc j f).desc j = (s.desc j).map f := by
  unfold State.desc State.onDesc
  rw [State.chan_onChan, if_pos rfl]
  generalize (s.chan j.1).fly = l
  induction l with
  | nil => rfl
  | cons d l ih =>
    by_cases h : d.idx = j.2
    · simp [h, kept]
    · simpa [h] using ih

theorem State.closeStep_closed {s : State} {t : Nat} (closed : (s.tile t).chk.stepOpen = false) : s.closeStep t = s := by
  unfold State.closeStep
  exact if_neg (by simp [closed])

theorem State.countLastChunk_closed {s : State} {st k : Nat} {x : Tile} (closed : x.chk.stepOpen = false) :
    s.countLastChunk st k x = s := if_neg (by simp [closed])

/-- What a stage leaves its strand with that halts while its job runs and no other is primed. -/
def Strand.halt (v : Strand) (k : Nat) : Strand := { v with halted := k :: v.halted.filter (· ≠ k) }

/-- A tile whose stage has halted (R199). -/
def Tile.halted (y : Tile) (keep : List Range) : Tile :=
  { y.restartStage keep with chk := { y.chk with stepOpen := false } }

theorem Tile.halted_core (x : Tile) (keep : List Range) : (x.halted keep).core = (x.restartStage keep).core := by
  unfold Tile.halted
  generalize x.restartStage keep = y
  rfl

theorem Tile.halted_pad (x : Tile) (keep : List Range) : (x.halted keep).pad = (x.restartStage keep).pad := by
  unfold Tile.halted
  generalize x.restartStage keep = y
  rfl


theorem Tile.halted_frame (x : Tile) (keep : List Range) :
    (x.halted keep).core.run = .stopped ∧ (∀ r, (x.halted keep).reg r = 0)
      ∧ (x.halted keep).core.mstat = 0 ∧ (x.halted keep).pad.sb = []
      ∧ (x.halted keep).pad.bytes = x.pad.bytes ∧ (x.halted keep).pad.handles = x.pad.handles := by
  obtain ⟨stopped, regs, mstat, sb, bytes, handles⟩ := x.restartStage_frame keep
  rw [Tile.halted_core, Tile.halted_pad]
  refine ⟨stopped, fun r => ?_, mstat, sb, bytes, handles⟩
  unfold Tile.reg
  rw [Tile.halted_core, regs]
  rfl

/-- The flags of a stage that halts go to its job. -/
def State.flagged (s : State) (t : Nat) (j : JobId) : State :=
  s.onHold j fun h => { h with mstat := h.mstat ||| (s.tile t).core.mstat }

/-- The flags of a stage that halts go to its job, and its tile restarts (R199). -/
def State.stageHalting (s : State) (t k : Nat) (j : JobId) : State :=
  (s.flagged t j).onTile t fun y => y.halted ((s.flagged t j).residentRanges (s.strandOf t) k)

/-- The state after the HALT of a stage that is not the last of its strand. -/
def State.stageHalted (s : State) (t k : Nat) (j : JobId) : State :=
  (s.stageHalting t k j).onStrand (s.strandOf t) fun v => v.halt k

theorem State.stageHalted_strand (s : State) (t k : Nat) (j : JobId) (o : Nat) :
    (s.stageHalted t k j).strand o = if o = s.strandOf t then (s.strand (s.strandOf t)).halt k else s.strand o :=
  State.strand_onStrand _ _ o _

theorem State.stageHalted_tile (s : State) (t k : Nat) (j : JobId) (u : Nat) : (s.stageHalted t k j).tile u
    = if u = t then (s.tile t).halted ((s.flagged t j).residentRanges (s.strandOf t) k) else s.tile u :=
  State.tile_onTile (s.flagged t j) t u fun y => y.halted ((s.flagged t j).residentRanges (s.strandOf t) k)

theorem State.stageHalted_desc {s : State} {t k : Nat} {j : JobId} {d : Desc} (desc : s.desc j = some d) :
    (s.stageHalted t k j).desc j = some { d with hold := d.hold.map fun h =>
      { h with mstat := h.mstat ||| (s.tile t).core.mstat } } :=
  (s.desc_onDesc j (fun d => { d with hold := d.hold.map fun h =>
    { h with mstat := h.mstat ||| (s.tile t).core.mstat } }) fun _ => rfl).trans (congrArg _ desc)

theorem State.stageHalted_unfinished {s : State} {t k i : Nat} {j : JobId} (other : i < s.secStageCount (s.strandOf t))
    (ne : i ≠ k) (runs : i ∉ (s.strand (s.strandOf t)).halted) :
    (s.stageHalted t k j).seqFinished (s.strandOf t) = false := by
  have strand := (s.stageHalted_strand t k j (s.strandOf t)).trans (if_pos rfl)
  have count : (s.stageHalted t k j).secStageCount (s.strandOf t) = s.secStageCount (s.strandOf t) := by
    unfold State.secStageCount
    rw [strand]
    rfl
  have open_ : ((List.range (s.secStageCount (s.strandOf t))).all
      (((s.strand (s.strandOf t)).halt k).halted.contains ·)) = false := by
    refine List.all_eq_false.2 ⟨i, List.mem_range.2 other, ?_⟩
    simp [Strand.halt, ne, runs]
  unfold State.seqFinished
  simp only [count, strand, open_, Bool.and_false, Bool.false_and]

theorem State.haltStage_stage {s : State} {t k i : Nat} {j : JobId} (raw : s.rawOwner t = none)
    (stage : s.stageAt t = some k) (job : (s.strand (s.strandOf t)).job = some j)
    (next : (s.strand (s.strandOf t)).next = none) (closed : (s.tile t).chk.stepOpen = false)
    (other : i < s.secStageCount (s.strandOf t)) (ne : i ≠ k) (runs : i ∉ (s.strand (s.strandOf t)).halted) :
    s.haltStage t = s.stageHalted t k j := by
  have owner : (s.strand (s.strandOf t)).ownerOf k = some j := by simp [Strand.ownerOf, next, job]
  have marked : (s.stageHalting t k j).onStrand (s.strandOf t) (fun w =>
      if w.next.isSome && w.halted.contains k then { w with nextHalted := k :: w.nextHalted.filter (· ≠ k) }
      else if w.job.isSome then { w with halted := k :: w.halted.filter (· ≠ k) }
      else w) = s.stageHalted t k j := by
    refine congrArg ((s.stageHalting t k j).setStrand (s.strandOf t)) ?_
    rw [show (s.stageHalting t k j).strand (s.strandOf t) = s.strand (s.strandOf t) from rfl]
    simp [next, job, Strand.halt]
  have closed' : ((s.flagged t j).tile t).chk.stepOpen = false := closed
  unfold State.haltStage
  simp only [raw, stage, owner]
  rw [State.countLastChunk_closed closed]
  change (if (((((s.flagged t j).closeStep t).onTile t _).onStrand (s.strandOf t) _).seqFinished (s.strandOf t)) = true
    then _ else (((s.flagged t j).closeStep t).onTile t _).onStrand (s.strandOf t) _) = _
  rw [State.closeStep_closed closed']
  change (if ((s.stageHalting t k j).onStrand (s.strandOf t) _).seqFinished (s.strandOf t) = true then _
    else (s.stageHalting t k j).onStrand (s.strandOf t) _) = _
  rw [marked]
  exact if_neg (by simp [State.stageHalted_unfinished other ne runs])

theorem State.acts_halt (s : State) (t : Nat) (rd ra : BitVec 5) (csr : BitVec 12) :
    s.acts t (.halt rd ra csr) = s.haltStage t := rfl

theorem State.stageHalted_board (s : State) (t k : Nat) (j : JobId) : Board s (s.stageHalted t k j) :=
  ⟨rfl, rfl, rfl, rfl, rfl, rfl, rfl, rfl, rfl, rfl⟩

theorem halts : Halts := by
  intro s t rd ra csr on raw x v
  have issued : exec (.halt t rd ra csr) s = .next (s.haltStage t.val) := by
    rw [exec_instruction (i := .halt rd ra csr) rfl, State.issue_acts on rfl fun _ h => absurd h List.not_mem_nil,
      State.acts_halt]
  refine ⟨fun none_ => ?_, fun k i j stage job next closed other ne runs => ?_⟩
  · refine leaves_setTile (issued.trans (congrArg _ ?_))
    unfold State.haltStage
    simp only [raw, none_]
    rfl
  · rw [State.haltStage_stage raw stage job next closed other ne runs] at issued
    obtain ⟨stopped, regs, mstat, sb, bytes, handles⟩ :=
      Tile.halted_frame (s.tile t.val) ((s.flagged t.val j).residentRanges (s.strandOf t.val) k)
    have tile := s.stageHalted_tile t.val k j
    have strand := s.stageHalted_strand t.val k j
    refine ⟨_, issued, ?_, ?_, ?_, ?_, ?_, ?_, fun u hu => (tile u).trans (if_neg hu), ?_, fun d h desc hold => ?_,
      fun o ho => (strand o).trans (if_neg ho), s.stageHalted_board _ _ _, rfl⟩
    · rw [tile, if_pos rfl]; exact stopped
    · rw [tile, if_pos rfl]; exact regs
    · rw [tile, if_pos rfl]; exact mstat
    · rw [tile, if_pos rfl]; exact sb
    · rw [tile, if_pos rfl]; exact bytes
    · rw [tile, if_pos rfl]; exact handles
    · rw [strand, if_pos rfl]; rfl
    · exact ⟨_, { h with mstat := h.mstat ||| x.core.mstat }, s.stageHalted_desc desc, congrArg (Option.map _) hold, rfl⟩

end Sys2Proof.Machine

/-- Settles O41: a fence looks at exactly what the statement calls complete; a retry repeats the load's steps; a
halting stage is marked and restarted, and its strand's sequence goes on while another stage runs. -/
theorem tileStops : Obligations.TileStops :=
  ⟨Sys2Proof.Machine.fences, Sys2Proof.Machine.stallEnds, Sys2Proof.Machine.halts⟩
end

section
/-! SUPPORT. Accesses that fault (R88, R127), what a fault reports (R105), and words that are no instruction (R87, R457). -/

open Sys2Proof Sys2Proof.Claims Sys2Proof.Machine

namespace Sys2Proof.Machine

/-! ### Accesses -/

/-- A store writes no register where it is misaligned, outside the control registers, or no register stands. -/
theorem Tile.storesReg_none {x : Ctx} {t : Tile} {f : StoreFn} {base : BitVec 5} {imm : BitVec 12}
    (h : t.ea base imm % f.size = 0 → 0x700000 ≤ t.ea base imm → t.ea base imm < 0x701000 →
      t.regRead x (t.ea base imm % 0x1000 / 4 * 4) = none) : t.storesReg x f base imm = none :=
  if_neg fun ⟨aligned, low, high, reg⟩ => by
    rw [h aligned low high] at reg
    cases reg

theorem accessFaults : AccessFaults := by
  intro s t r base imm on x a
  have here_ : x.ea base imm = a := Tile.ea_eq_address s t base imm
  refine ⟨fun usable p hp => ⟨fun misaligned => ?_, fun aligned low high => ?_⟩,
    fun usable p hp => ⟨fun misaligned => ?_, fun aligned low high => ?_⟩⟩
  · exact faults_of_local (load_of_row hp) on rfl rfl usable (Tile.execLoad_misaligned (here_ ▸ misaligned))
  · exact faults_of_local (load_of_row hp) on rfl rfl usable
      (Tile.execLoad_unmapped (here_ ▸ aligned) (here_ ▸ low) (here_ ▸ high))
  · exact faults_of_store (store_of_row hp) on usable
      (Tile.storesReg_none fun aligned _ _ => absurd (here_ ▸ aligned) misaligned)
      (Tile.execStore_misaligned (here_ ▸ misaligned))
  · exact faults_of_store (store_of_row hp) on usable (Tile.storesReg_none fun _ => here_ ▸ high)
      (Tile.execStore_unmapped (here_ ▸ aligned) (here_ ▸ low))

/-! ### Reports -/

theorem State.acts_trap (s : State) (t : Nat) (rd ra : BitVec 5) (csr : BitVec 12) :
    s.acts t (.trap rd ra csr) = s.issueFault t .trap (.trap rd ra csr) csr.toNat := rfl

theorem faultReport : FaultReport := by
  refine ⟨fun x code i arg => ⟨rfl, rfl, rfl⟩, fun s t rd ra csr on => ?_⟩
  rw [Faults, exec_instruction (i := .trap rd ra csr) rfl, State.issue_acts on rfl fun _ h => absurd h List.not_mem_nil,
    State.acts_trap]
  rfl

/-! ### Words that are no instruction -/

theorem Tile.atIllegal_of {x : Tile}
    (h : ∀ i, Tis.ofWords (x.instr x.core.pc.toNat) (x.instr (x.core.pc.toNat + 1)) = some i → i.legal = false) :
    x.atIllegal = true := by
  unfold Tile.atIllegal
  split
  case h_1 i found => rw [h i found]; rfl
  case h_2 => rfl

/-- Nothing waits in the units of a tile: it stops by its report alone. -/
theorem State.stopTile_idle {s : State} {t : Nat} (meq : (s.tile t).units.meq = []) (vuq : (s.tile t).units.vuq = []) :
    s.stopTile t = (s.onTile t id).reportFault t := by
  have drained : (s.tile t).drainMmb = s.tile t := by rw [Tile.drainMmb, meq]; rfl
  have same : s.onTile t Tile.drainMmb = s.onTile t id := congrArg (s.setTile t) drained
  have empty : ((s.onTile t id).tile t).units.vuq = [] := by rw [State.tile_onTile, if_pos rfl]; exact vuq
  unfold State.stopTile State.drainUnits
  simp only [same, empty]
  rfl

theorem State.tileFaulted_illegal {s : State} {t : Nat} (working : (s.tile t).role ≠ 2) (third : (s.tile t).role ≠ 3) :
    s.tileFaulted t .illegalInstruction = s.faultOutcome t .illegalInstruction := by
  unfold State.tileFaulted
  change (if (s.tile t).role = 2 then _ else if (s.tile t).role = 3 then s else s.faultOutcome t .illegalInstruction) = _
  rw [if_neg working, if_neg third]

/-- A raw-loaded tile's report ends its descriptor with TILE_FAULT (R457). -/
theorem State.reportFault_raw {s : State} {t : Nat} {f : FaultRep} {j : JobId} (fault : (s.tile t).core.fault = some f)
    (code : f.code = .illegalInstruction) (working : (s.tile t).role ≠ 2) (third : (s.tile t).role ≠ 3)
    (raw : s.rawOwner t = some j) : s.reportFault t = (s.answer j { Answer.of St.tileFault with
      mstat := (s.tile t).core.mstat.toNat
      detail := faultDetail FaultCode.illegalInstruction.code t }).dropRaw t := by
  unfold State.reportFault
  rw [fault]
  change s.tileFaulted t f.code = _
  rw [code, State.tileFaulted_illegal working third]
  unfold State.faultOutcome
  rw [raw]

theorem State.desc_congr {s u : State} (h : s.host = u.host) (j : JobId) : s.desc j = u.desc j := by
  unfold State.desc State.chan
  rw [h]

theorem State.desc_of_openDesc {s : State} {j : JobId} {d : Desc} (h : s.openDesc j = some d) :
    s.desc j = some d ∧ d.answer = none := by
  unfold State.openDesc at h
  split at h
  case h_1 e found =>
    by_cases unanswered : e.answer.isNone = true
    · rw [if_pos unanswered] at h
      cases h
      exact ⟨found, Option.isNone_iff_eq_none.1 unanswered⟩
    · rw [if_neg unanswered] at h
      cases h
  case h_2 => cases h

theorem State.desc_answer (s : State) (j : JobId) (a : Answer) : (s.answer j a).desc j = (s.desc j).map fun d =>
    if d.answer.isSome then d
    else { d with
      answer := some { a with mstat := a.mstat ||| (d.hold.map fun (h : JobHold) => h.mstat.toNat).getD 0 }
      held := s.holds d
      since := s.timeBase } :=
  s.desc_onDesc j _ fun d => by dsimp only; split <;> rfl

/-- An open descriptor of a state that has answered it, and then done what leaves its descriptors. -/
theorem answeredBy_answer {s u v : State} {j : JobId} {a : Answer} (before : s.host = u.host)
    (after : v.host = (u.answer j a).host) : AnsweredBy s v j a := by
  intro d open_
  obtain ⟨found, unanswered⟩ := State.desc_of_openDesc open_
  rw [State.desc_congr before] at found
  have answered := (State.desc_congr after j).trans ((u.desc_answer j a).trans (congrArg _ found))
  rw [Option.map_some, unanswered] at answered
  exact ⟨_, _, answered, rfl, rfl⟩

/-! ### An idle nanosecond -/

theorem State.signQuote_none {s : State} (h : s.vault.quotes = []) : s.signQuote = s := by
  unfold State.signQuote
  rw [h]

theorem State.seekAll_none {s : State} (h : s.check.disputes = []) : s.seekAll = s := by
  have same : ({ s.check with disputes := [] } : Check) = s.check := h ▸ rfl
  unfold State.seekAll
  simp only [h, List.foldl_nil, same]

/-- A call for retraining sets entries of the dictionary and nothing else. -/
theorem State.callRetrain_part {β : Type} (g : State → β) (h : ∀ s k v, g (State.set s k v) = g s) (s : State) (n : Nat) :
    g (s.callRetrain n) = g s := by
  unfold State.callRetrain
  refine foldl_part g (fun s p => ?_) _ s
  split
  · exact h _ _ _
  · rfl

theorem State.clearNext_none {s : State} (h : s.vault.clearStep = 0) : s.clearNext = s := by
  unfold State.clearNext
  rw [h]
  rfl

/-- A tile that met words that are no instruction. -/
def Tile.failIllegal (x : Tile) : Tile := x.failAt .illegalInstruction x.core.pc.toNat (x.instr x.core.pc.toNat)

/-- One nanosecond later. -/
def State.later (s : State) : State := { s with timeBase := (s.timeBase + 1) % 2 ^ 64 }

/-- A tile without work in its units stopped at words that are no instruction. -/
def State.stoppedAt (s : State) (t : Nat) : State := (s.onTile t Tile.failIllegal).onTile t id

theorem State.stoppedAt_tile (s : State) (t : Nat) : (s.stoppedAt t).tile t = (s.tile t).failIllegal := by
  unfold State.stoppedAt
  rw [State.tile_onTile, if_pos rfl, State.tile_onTile, if_pos rfl, id]

/-- A single tile, which runs into words that are no instruction while its units are idle. -/
theorem State.beats_single {s : State} {t : Nat} {x : Tile} (tiles : s.tiles = [(t, x)]) (enabled : x.enabled = true)
    (running : x.core.run = .running) (meq : x.units.meq = []) (vuq : x.units.vuq = []) (mu : x.units.mu = [])
    (illegal : x.atIllegal = true) : s.beats = (s.stoppedAt t).reportFault t := by
  have tile : s.tile t = x := by simp [State.tile, tiles, look]
  have quiet : s.tileBeats t = s := if_neg (by simp [tile, Tile.accesses, meq, vuq, mu])
  have failed : (s.onTile t Tile.failIllegal).tile t = x.failIllegal := by rw [State.tile_onTile, if_pos rfl, tile]
  have stops : s.fetchFault t = (s.onTile t Tile.failIllegal).stopTile t :=
    if_pos (by simp [tile, enabled, running, illegal])
  unfold State.beats
  rw [tiles]
  change (s.tileBeats t).fetchFault t = _
  rw [quiet, stops]
  exact State.stopTile_idle (by rw [failed]; exact meq) (by rw [failed]; exact vuq)

theorem fetchFaults : FetchFaults := by
  intro s t x j pending tiles disputes clear quotes enabled running meq vuq mu working third raw bad
  have tile : s.later.tile t = x := by simp [State.later, State.tile, tiles, look]
  have held : (s.later.stoppedAt t).tile t = x.failIllegal := by rw [State.stoppedAt_tile, tile]
  have report := State.reportFault_raw (s := s.later.stoppedAt t) (t := t) (j := j) (congrArg (·.core.fault) held) rfl
    (by rw [held]; exact working) (by rw [held]; exact third) raw
  rw [held] at report
  have tick : s.tick = ((s.later.stoppedAt t).reportFault t).callRetrain 80 := by
    change ((s.later.signQuote.seekAll.beats).callRetrain 80).clearNext = _
    rw [State.signQuote_none (s := s.later) quotes, State.seekAll_none (s := s.later) disputes,
      State.beats_single (s := s.later) tiles enabled running meq vuq mu (Tile.atIllegal_of bad), report]
    exact State.clearNext_none ((State.callRetrain_part State.vault (fun _ _ _ => rfl) _ 80).symm ▸ clear)
  refine ⟨_, (step_nil pending).trans (congrArg _ tick), answeredBy_answer (u := s.later.stoppedAt t) rfl ?_⟩
  rw [State.callRetrain_part State.host (fun _ _ _ => rfl), report]
  rfl

end Sys2Proof.Machine

/-- Settles O40: a faulting access changes nothing before its report; in an idle nanosecond the report of a raw-loaded
tile is answered to its descriptor. -/
theorem tileFaults : Obligations.TileFaults :=
  ⟨Sys2Proof.Machine.accessFaults, Sys2Proof.Machine.faultReport, Sys2Proof.Machine.fetchFaults⟩
end

section
/-! SUPPORT. Barriers (R102, R243 to R245, R477). -/

open Sys2Proof Sys2Proof.Claims Sys2Proof.Machine

namespace Sys2Proof.Machine

/-! ### Arrival -/

theorem State.barrierAt_setBarrier (s : State) (k j : Nat) (v : Barrier) :
    (s.setBarrier k v).barrierAt j = if j = k then v else s.barrierAt j := look_put _ _ k j v

/-- A member of barrier `b` has arrived and waits; nothing else changed but its mark that it wrote memory. -/
def Arrived (s : State) (t : Nat) (b : BitVec 6) (s' : State) : Prop :=
  s'.tile t = ({ s.tile t with units := { (s.tile t).units with unfenced := false } } : Tile).setRun (.barrier b)
    ∧ (∀ u, u ≠ t → s'.tile u = s.tile u)
    ∧ s'.barrierAt b.toNat
        = ⟨(s.barrierAt b.toNat).members, (s.barrierAt b.toNat).arrived.filter (· ≠ t) ++ [t]⟩
    ∧ (∀ k, k ≠ b.toNat → s'.barrierAt k = s.barrierAt k)
    ∧ { s' with tiles := s.tiles, net := { s'.net with barriers := s.net.barriers } } = s

theorem State.arrive_arrived (s : State) (t : Nat) (b : BitVec 6) : Arrived s t b (s.arrive t b) := by
  have tile : ∀ u, (s.arrive t b).tile u = if u = t then (s.tile t).atBarrier b else s.tile u :=
    fun u => State.tile_setTile _ t u _
  have barrier : ∀ k, (s.arrive t b).barrierAt k = if k = b.toNat then
      ⟨(s.barrierAt b.toNat).members, (s.barrierAt b.toNat).arrived.filter (· ≠ t) ++ [t]⟩ else s.barrierAt k :=
    fun k => s.barrierAt_setBarrier b.toNat k _
  exact ⟨(tile t).trans (if_pos rfl), fun u hu => (tile u).trans (if_neg hu), (barrier _).trans (if_pos rfl),
    fun k hk => (barrier k).trans (if_neg hk), rfl⟩

theorem State.acts_bar (s : State) (t : Nat) (b : BitVec 6) (z : BitVec 20) : s.acts t (.bar b z) = s.barIssue t b := rfl

theorem exec_fenceComplete_barFence {s : State} {t : Slot} {b : BitVec 6} (waits : (s.tile t.val).core.run = .barFence b)
    (done : (s.tile t.val).fenceDone true true true true = true) : exec (.fenceComplete t) s = .next (s.arrive t.val b) := by
  change execFenceComplete t s = _
  unfold execFenceComplete
  rw [waits]
  exact if_pos done

/-! ### Completion -/

theorem Tile.leaveBarrier_eq (x : Tile) (b : BitVec 6) :
    x.leaveBarrier b.toNat = if x.core.run = .barrier b then passed x else x := by
  by_cases waits : x.core.run = .barrier b
  · rw [if_pos waits, passed_eq_adv]
    unfold Tile.leaveBarrier
    rw [waits]
    exact if_pos rfl
  · rw [if_neg waits]
    unfold Tile.leaveBarrier
    split
    case h_1 c run => exact if_neg fun same => waits (run.trans (congrArg _ (BitVec.eq_of_toNat_eq same)))
    case h_2 => rfl

/-- Each tile of a list changed once. -/
theorem State.tile_onEach (f : Tile → Tile) (l : List Nat) (once : l.Nodup) (s : State) (u : Nat) :
    (l.foldl (fun s t => s.onTile t f) s).tile u = if u ∈ l then f (s.tile u) else s.tile u := by
  induction l generalizing s with
  | nil => simp
  | cons t l ih =>
    obtain ⟨new, once⟩ := List.nodup_cons.1 once
    rw [List.foldl_cons, ih once, State.tile_onTile]
    by_cases same : u = t
    · subst same
      simp [new]
    · simp [same]

/-- A state without its tiles. -/
def State.untiled (s : State) : State := { s with tiles := [] }

/-- A state without its dictionary and its records of checks. -/
def State.unrecorded (s : State) : State := { s with dict := [], check := State.reset.check }

theorem State.onEach_untiled (f : Tile → Tile) (l : List Nat) (s : State) :
    (l.foldl (fun s t => s.onTile t f) s).untiled = s.untiled :=
  foldl_part State.untiled (f := fun s t => State.onTile s t f) (fun _ _ => rfl) l s

theorem State.isLate_few {s : State} {t : Nat} (few : (s.suspect t).window.length < 10000) (n : Nat) :
    s.isLate t n = false := if_pos few

/-- What stands of a tile's record after one more completion (R477). -/
def Suspect.record (v : Suspect) (last : Bool) : Suspect :=
  { v with window := (last :: v.window).take 10000, fresh := v.fresh + 1 }

/-- A record of a completion while fewer than 10,000 stand: the record of this tile and its late share, nothing else. -/
theorem State.lateRecord_few {s : State} {t : Nat} (few : (s.suspect t).window.length < 9999) (n : Nat) (last : Bool) :
    ∃ k, s.lateRecord t n last = (s.setSuspect t ((s.suspect t).record last)).set (K.tileLateShare t) k := by
  refine ⟨_, if_neg (ne_true_of_eq_false (State.isLate_few ?_ n))⟩
  have record : ∀ k, ((s.setSuspect t ((s.suspect t).record last)).set (K.tileLateShare t) k).suspect t
      = (s.suspect t).record last := fun k => (s.suspect_setSuspect t t _).trans (if_pos rfl)
  refine lt_of_eq_of_lt (congrArg (fun v : Suspect => v.window.length) (record _)) ?_
  exact lt_of_le_of_lt (List.length_take_le' _ _) (Nat.succ_lt_succ few)

theorem State.lateRecords_few (n : Nat) (last : Nat → Bool) (l : List Nat) (once : l.Nodup) (s : State)
    (few : ∀ t ∈ l, (s.suspect t).window.length < 9999) :
    (l.foldl (fun s t => s.lateRecord t n (last t)) s).unrecorded = s.unrecorded := by
  induction l generalizing s with
  | nil => rfl
  | cons t l ih =>
    obtain ⟨new, once⟩ := List.nodup_cons.1 once
    obtain ⟨k, record⟩ := State.lateRecord_few (few t List.mem_cons_self) n (last t)
    rw [List.foldl_cons, ih once, record]
    · rfl
    · intro u hu
      have other : u ≠ t := fun same => new (same ▸ hu)
      rw [record]
      refine lt_of_eq_of_lt (congrArg (fun v : Suspect => v.window.length) ?_) (few u (List.mem_cons_of_mem _ hu))
      exact (s.suspect_setSuspect t u _).trans (if_neg other)

/-- The members of a barrier go on, and nobody has arrived at it. -/
def State.leftBarrier (s : State) (b : Nat) (x : Barrier) : State :=
  x.members.foldl (fun s t => s.onTile t fun y => y.leaveBarrier b) (s.setBarrier b { x with arrived := [] })

theorem State.leftBarrier_tile {s : State} {b : BitVec 6} {x : Barrier} (once : x.members.Nodup) (u : Nat) :
    (s.leftBarrier b.toNat x).tile u = if u ∈ x.members then
      if (s.tile u).core.run = .barrier b then passed (s.tile u) else s.tile u else s.tile u :=
  (State.tile_onEach (fun y => y.leaveBarrier b.toNat) x.members once (s.setBarrier b.toNat { x with arrived := [] }) u).trans
    (congrArg (fun y => if u ∈ x.members then y else s.tile u) ((s.tile u).leaveBarrier_eq b))

theorem State.leftBarrier_rest (s : State) (b : Nat) (x : Barrier) :
    (s.leftBarrier b x).untiled = (s.setBarrier b { x with arrived := [] }).untiled :=
  State.onEach_untiled (fun y => y.leaveBarrier b) x.members _

theorem State.releaseBarrier_rest {s : State} {x : Barrier} (once : x.members.Nodup)
    (few : ∀ t ∈ x.members, (s.suspect t).window.length < 9999) (b : Nat) :
    (s.releaseBarrier b x).unrecorded = (s.leftBarrier b x).unrecorded := by
  refine State.lateRecords_few x.members.length _ x.members once (s.leftBarrier b x) (fun t ht => ?_)
  have check : (s.leftBarrier b x).check = s.check := (congrArg State.check (s.leftBarrier_rest b x) :)
  unfold State.suspect
  rw [check]
  exact few t ht

theorem barComplete {s : State} {b : BitVec 6} (some_ : (s.barrierAt b.toNat).members ≠ [])
    (once : (s.barrierAt b.toNat).members.Nodup)
    (all : ∀ t ∈ (s.barrierAt b.toNat).members, t ∈ (s.barrierAt b.toNat).arrived ∧ (s.suspect t).window.length < 9999) :
    Ends (.barComplete ⟨b.toNat, b.isLt⟩) s fun s' =>
      s'.barrierAt b.toNat = ⟨(s.barrierAt b.toNat).members, []⟩
        ∧ (∀ t ∈ (s.barrierAt b.toNat).members,
            s'.tile t = if (s.tile t).core.run = .barrier b then passed (s.tile t) else s.tile t)
        ∧ (∀ t, t ∉ (s.barrierAt b.toNat).members → s'.tile t = s.tile t) ∧ Board s s' ∧ s'.mem = s.mem := by
  have rest := State.releaseBarrier_rest once (fun t ht => (all t ht).2) b.toNat
  have left := s.leftBarrier_rest b.toNat (s.barrierAt b.toNat)
  have tile : ∀ u, (s.releaseBarrier b.toNat (s.barrierAt b.toNat)).tile u
      = (s.leftBarrier b.toNat (s.barrierAt b.toNat)).tile u := State.tile_congr (congrArg State.tiles rest :)
  have part : ∀ {β : Type} (g : State → β), (∀ s : State, g s.unrecorded = g s) → (∀ s : State, g s.untiled = g s) →
      g (s.releaseBarrier b.toNat (s.barrierAt b.toNat)) = g (s.setBarrier b.toNat ⟨(s.barrierAt b.toNat).members, []⟩) := by
    intro β g unrecorded untiled
    rw [← unrecorded, rest, unrecorded, ← untiled, left, untiled]
  have goes : exec (.barComplete ⟨b.toNat, b.isLt⟩) s = .next (s.releaseBarrier b.toNat (s.barrierAt b.toNat)) := by
    refine if_pos (Bool.and_eq_true_iff.2 ⟨by simpa using some_, List.all_eq_true.2 fun t ht => ?_⟩)
    exact List.contains_iff_mem.2 (all t ht).1
  refine ⟨_, goes, ?_, fun t ht => ?_, fun t ht => ?_, ?_, part State.mem (fun _ => rfl) fun _ => rfl⟩
  · refine (part (fun s => s.barrierAt b.toNat) (fun _ => rfl) fun _ => rfl).trans ?_
    exact (s.barrierAt_setBarrier _ _ _).trans (if_pos rfl)
  · exact (tile t).trans ((State.leftBarrier_tile once t).trans (if_pos ht))
  · exact (tile t).trans ((State.leftBarrier_tile once t).trans (if_neg ht))
  · exact ⟨part State.timeBase (fun _ => rfl) (fun _ => rfl), part State.octets (fun _ => rfl) (fun _ => rfl), part State.spares (fun _ => rfl) (fun _ => rfl),
      part State.power (fun _ => rfl) (fun _ => rfl), part State.boot (fun _ => rfl) (fun _ => rfl), part State.front (fun _ => rfl) (fun _ => rfl),
      part State.plans (fun _ => rfl) (fun _ => rfl), part State.vault (fun _ => rfl) (fun _ => rfl), part State.shards (fun _ => rfl) (fun _ => rfl),
      part State.batches (fun _ => rfl) (fun _ => rfl)⟩

end Sys2Proof.Machine
/-- Settles O6: who arrives, and that a completion with fewer than 10,000 on record makes nobody late. -/
theorem barriers : Obligations.Barriers := by
  unfold Obligations.Barriers
  intro s b v
  refine ⟨?_, fun some_ once all => barComplete some_ once all⟩
  intro t x arrives
  refine ⟨fun on => ?_, fun waits all => ?_⟩
  · have issued : exec (.bar t b 0) s = .next (s.barIssue t.val b) := by
      rw [exec_instruction (i := .bar b 0) rfl, State.issue_acts on rfl fun _ h => absurd h List.not_mem_nil, State.acts_bar]
    unfold State.barIssue at issued
    refine ⟨fun outside => leaves_setTile ?_, fun member all => ?_, fun member some_ => leaves_setTile ?_⟩
    · rw [if_neg (by simpa using outside)] at issued
      rw [issued, State.onTile, ← passed_eq_adv]
    · rw [if_pos (by simpa using member), if_pos ((Tile.fenceDone_iff _ _ _ _ _).2 all)] at issued
      exact ⟨_, issued, s.arrive_arrived t.val b⟩
    · rw [if_pos (by simpa using member), if_neg (mt (Tile.fenceDone_iff _ _ _ _ _).1 some_)] at issued
      exact issued
  · exact ⟨_, exec_fenceComplete_barFence waits ((Tile.fenceDone_iff _ _ _ _ _).2 all), s.arrive_arrived t.val b⟩

end

section
/-! SUPPORT. Vector work retired, and the data of memory reads (R83, R122, R126, R266, R598). -/

open Sys2Proof Sys2Proof.Claims Sys2Proof.Machine

namespace Sys2Proof.Machine

/-! ### Vector registers as bytes -/

theorem ofNat_div_eq_extractLsb' (v : Vec) (k : Nat) : BitVec.ofNat 8 (v.toNat / 256 ^ k) = v.extractLsb' (8 * k) 8 := by
  rw [← BitVec.toNat_inj, BitVec.extractLsb'_toNat, BitVec.toNat_ofNat, Nat.shiftRight_eq_div_pow, pow_mul]
  rfl

theorem vecBytes_length (v : Vec) : (vecBytes v).length = 512 := leBytes_length _ _

theorem getD_vecBytes (v : Vec) {k : Nat} (h : k < 512) : (vecBytes v).getD k 0 = v.extractLsb' (8 * k) 8 :=
  (getD_leBytes v.toNat h).trans (ofNat_div_eq_extractLsb' v k)

theorem leBytes_leNat (l : List Byte) : leBytes l.length (leNat l) = l := by
  induction l with
  | nil => rfl
  | cons b l ih =>
    have low := b.isLt
    have rest : (b.toNat + 256 * leNat l) / 256 = leNat l := by omega
    have first : BitVec.ofNat 8 (b.toNat + 256 * leNat l) = b := by
      rw [← BitVec.toNat_inj, BitVec.toNat_ofNat]
      omega
    rw [List.length_cons, leNat, leBytes, rest, first, ih]

/-- The bytes of a vector register made of bytes. -/
theorem extractLsb'_bytesVec {l : List Byte} (full : l.length = 512) {k : Nat} (h : k < 512) :
    (bytesVec l).extractLsb' (8 * k) 8 = l.getD k 0 := by
  have digit : l.getD k 0 = BitVec.ofNat 8 (leNat l / 256 ^ k) := by
    rw [← getD_leBytes _ h, ← full, leBytes_leNat]
  rw [digit]
  refine BitVec.eq_of_getLsbD_eq fun i hi => ?_
  have inside : 8 * k + i < 4096 := by omega
  rw [BitVec.getLsbD_extractLsb', bytesVec, BitVec.getLsbD_ofNat, BitVec.getLsbD_ofNat,
    show 256 ^ k = 2 ^ (8 * k) from pow_mul 2 8 k ▸ rfl, Nat.testBit_div_two_pow, Nat.add_comm i]
  simp [hi, inside]

/-! ### Jobs of the vector unit -/

theorem exec_vectorRetire {s : State} {t : Slot} {j : VecJob} {rest : List VecJob}
    (queue : (s.tile t.val).units.vuq = j :: rest) : exec (.vectorRetire t) s = .next (s.vecRetire t.val j rest) := by
  change execVectorRetire t s = _
  unfold execVectorRetire
  rw [queue]

theorem Tile.vecDone_eq (x : Tile) (j : VecJob) (rest : List VecJob) :
    x.vecDone j rest = vecLeft (x.runVec j) rest j.ents := rfl

/-- A job that goes neither to memory nor through a window is done within its tile. -/
theorem State.vecRetire_local {s : State} {t : Nat} {j : VecJob} (mem : ∀ a, j.place ≠ .mem a)
    (window : ∀ e w o, j.place ≠ .window e w o) (rest : List VecJob) :
    s.vecRetire t j rest = s.setTile t (vecLeft ((s.tile t).runVec j) rest j.ents) := by
  unfold State.vecRetire
  split
  case h_1 a _ place => exact absurd place (mem a)
  case h_2 a _ place => exact absurd place (mem a)
  case h_3 e w o _ place => exact absurd place (window e w o)
  case h_4 => rfl

theorem Tile.runVec_function {x : Tile} {j : VecJob} (load : j.f ≠ .vld) (store : j.f ≠ .vst) :
    x.runVec j = (x.setVreg j.o.vd (vecResult j.f j.o (x.vreg j.o.va) (x.vreg j.o.vb) (x.vreg j.o.vc)).1).flags
      (vecResult j.f j.o (x.vreg j.o.va) (x.vreg j.o.vb) (x.vreg j.o.vc)).2 := by
  unfold Tile.runVec
  split
  case h_1 f _ => exact absurd f load
  case h_2 f _ => exact absurd f load
  case h_3 f _ => exact absurd f store
  case h_4 f _ => exact absurd f store
  case h_5 => rfl

/-- What a job that leaves the unit leaves of its tile. -/
theorem vecLeft_frame (x : Tile) (rest : List VecJob) (ents : List Nat) :
    (∀ b, (vecLeft x rest ents).byte b = x.byte b) ∧ (∀ l, (vecLeft x rest ents).filled l = x.filled l)
      ∧ (vecLeft x rest ents).core = x.core ∧ (vecLeft x rest ents).pad.handles = x.pad.handles
      ∧ (vecLeft x rest ents).units.vregs = x.units.vregs :=
  ⟨fun _ => rfl, fun _ => rfl, rfl, rfl, rfl⟩

theorem Tile.land_frame (x : Tile) (a : Nat) (bs : List Byte) :
    (x.land a bs).core = x.core ∧ (x.land a bs).pad.handles = x.pad.handles
      ∧ (x.land a bs).units.vregs = x.units.vregs := by
  obtain ⟨B, F, landed⟩ := x.land_eq a bs
  rw [landed]
  exact ⟨rfl, rfl, rfl⟩

/-- Eight more writes of a tile wait at a memory node. -/
def Tile.eightWrites (x : Tile) : Tile := { x with units := { x.units with memWrites := x.units.memWrites + 8 } }

/-- A VST to memory has left the unit: its eight writes are counted and held (R269). -/
def State.storesHeld (s : State) (t : Nat) (j : VecJob) (rest : List VecJob) (a : Nat) : State :=
  ((s.setTile t (vecLeft (s.tile t) rest j.ents)).onTile t Tile.eightWrites).holdWrites a
    (vecBytes ((s.tile t).vreg j.o.va)) (some t)

theorem State.storesHeld_tile (s : State) (t : Nat) (j : VecJob) (rest : List VecJob) (a : Nat) :
    (s.storesHeld t j rest a).tile t = (vecLeft (s.tile t) rest j.ents).eightWrites := by
  refine ((s.setTile t (vecLeft (s.tile t) rest j.ents)).tile_onTile t t Tile.eightWrites).trans ((if_pos rfl).trans ?_)
  rw [State.tile_setTile, if_pos rfl]

theorem State.vecRetire_memory {s : State} {t : Nat} {j : VecJob} {a : Nat} {rest : List VecJob} (store : j.f = .vst)
    (place : j.place = .mem a) (open_ : (s.tile t).shadowing = false) :
    s.vecRetire t j rest = s.storesHeld t j rest a := by
  have run : (s.tile t).runVec j = s.tile t := by
    unfold Tile.runVec
    rw [store, place]
  have done : s.onTile t (fun y => y.vecDone j rest) = s.setTile t (vecLeft (s.tile t) rest j.ents) := by
    rw [State.onTile, Tile.vecDone_eq, run]
  unfold State.vecRetire
  rw [store, place]
  dsimp only
  rw [if_neg (ne_true_of_eq_false open_), done]
  rfl

theorem vectorRetire : VectorRetire := by
  intro s t j rest queue x
  have goes := exec_vectorRetire queue
  refine ⟨fun load store place => ?_, fun a load place => ?_, fun a store place aligned => ?_,
    fun a store place shadow aligned => ?_⟩
  · rw [State.vecRetire_local (by simp [place]) (by simp [place]), Tile.runVec_function load store] at goes
    exact leaves_setTile goes
  · rw [State.vecRetire_local (by simp [place]) (by simp [place])] at goes
    refine leaves_setTile (goes.trans ?_)
    unfold Tile.runVec
    rw [load, place]
  · rw [State.vecRetire_local (by simp [place]) (by simp [place])] at goes
    have run : (s.tile t.val).runVec j = x.land a (vecBytes (x.vreg j.o.va)) := by
      unfold Tile.runVec
      rw [store, place]
    rw [run] at goes
    obtain ⟨core, handles, vregs⟩ := x.land_frame a (vecBytes (x.vreg j.o.va))
    refine ends_of_leaves (leaves_setTile goes) fun s' tile only => ?_
    obtain ⟨byte, filled, core', pad, units⟩ := vecLeft_frame (x.land a (vecBytes (x.vreg j.o.va))) rest j.ents
    rw [tile]
    refine ⟨fun k hk => ?_, fun b hb => ?_, fun l => ?_, core'.trans core, pad.trans handles, units.trans vregs, only⟩
    · rw [byte, Tile.byte_land, vecBytes_length, if_pos (by omega), Nat.add_sub_cancel_left, getD_vecBytes _ hk]
    · rw [byte, Tile.byte_land, vecBytes_length, if_neg (by omega)]
    · rw [filled, Tile.filled_land, vecBytes_length]
      have span : l ∈ linesOf a 512 ↔ a / 64 ≤ l ∧ l < a / 64 + 8 := by rw [mem_linesOf]; omega
      simp only [span]
  · rw [State.vecRetire_memory store place shadow] at goes
    refine ⟨_, goes, ?_, ?_, ?_, fun _ => rfl, rfl⟩
    · exact congrArg (fun y : Tile => y.units.memWrites) (s.storesHeld_tile t.val j rest a)
    · exact congrArg (fun y : Tile => y.units.vuq) (s.storesHeld_tile t.val j rest a)
    · refine congrArg (s.mem.writes ++ ·) ?_
      rw [vecBytes_length]
      refine List.map_congr_left fun i hi => ?_
      rw [slice]
      refine congrArg (fun data => (⟨a / 64 + i, data, some t.val⟩ : MemWrite)) (List.map_congr_left fun k hk => ?_)
      rw [List.mem_range] at hi hk
      exact getD_vecBytes _ (by omega)

/-! ### Data of module memory -/

/-- The open pages of the banks replaced. -/
def State.withBanks (s : State) (B : List (Nat × Bank)) : State := { s with mem := { s.mem with banks := B } }

/-- A line read without an error: neither poisoned nor written by a write still held. -/
def State.sound (s : State) (line : Nat) : Prop := s.poisoned line = false ∧ ∀ w ∈ s.mem.writes, w.line ≠ line

theorem State.touchLine_eq (s : State) (line : Nat) :
    ∃ B, s.touchLine line = s.withBanks B := by
  unfold State.touchLine
  dsimp only
  split
  · exact ⟨s.mem.banks, rfl⟩
  · exact ⟨_, rfl⟩

theorem State.lineData_free {s : State} {line : Nat} (free : ∀ w ∈ s.mem.writes, w.line ≠ line) :
    s.lineData line = (s.memRead (line * 64) 64, s) := by
  have none_ : (s.mem.writes.filter fun w => w.line = line) = [] := by simpa using free
  unfold State.lineData
  rw [none_]

theorem State.readLine_sound {s : State} {line : Nat} (sound : s.sound line) :
    ∃ B, s.readLine line 0 = (some (s.memRead (line * 64) 64), s.withBanks B) := by
  obtain ⟨clean, free⟩ := sound
  obtain ⟨B, touch⟩ := s.touchLine_eq line
  refine ⟨B, ?_⟩
  unfold State.readLine
  rw [touch]
  dsimp only
  rw [if_neg (ne_true_of_eq_false (show (s.withBanks B).poisoned line = false from clean)),
    if_pos (Nat.zero_le 2)]
  rw [State.lineData_free (s := s.withBanks B) free]
  rfl

theorem State.memRead_append (s : State) (a m n : Nat) : s.memRead a (m + n) = s.memRead a m ++ s.memRead (a + m) n := by
  simp [State.memRead, List.range_add, Nat.add_assoc]

theorem State.readLines_sound (n : Nat) (s : State) (line : Nat) (sound : ∀ i, i < n → s.sound (line + i)) :
    ∃ B, s.readLines line n 0 = (some (s.memRead (line * 64) (64 * n)), s.withBanks B) := by
  induction n generalizing s line with
  | zero => exact ⟨s.mem.banks, rfl⟩
  | succ n ih =>
    obtain ⟨B, first⟩ := State.readLine_sound (sound 0 n.succ_pos)
    obtain ⟨C, more⟩ := ih (s.withBanks B) (line + 1) fun i hi => by
      rw [Nat.add_right_comm, Nat.add_assoc]
      exact sound (i + 1) (Nat.succ_lt_succ hi)
    refine ⟨C, ?_⟩
    unfold State.readLines
    rw [Nat.add_zero] at first
    simp only [first, more]
    rw [show 64 * (n + 1) = 64 + 64 * n by omega, State.memRead_append, ← Nat.succ_mul]
    rfl

/-- What the data of a memory-tier VLD leave of its tile. -/
theorem Tile.vldDone_frame (x : Tile) (j : VecJob) (rest : List VecJob) (bs : List Byte) :
    (x.vldDone j rest bs).vreg j.o.vd = bytesVec bs ∧ (∀ v, v ≠ j.o.vd → (x.vldDone j rest bs).vreg v = x.vreg v)
      ∧ (x.vldDone j rest bs).units.vuq = rest ∧ (x.vldDone j rest bs).core = x.core
      ∧ (x.vldDone j rest bs).pad = x.pad :=
  ⟨look_put_same _ _ _ _, fun _ hv => look_put_other _ _ _ fun same => hv (BitVec.eq_of_toNat_eq same), rfl, rfl, rfl⟩

theorem memoryReadReturn : MemoryReadReturn := by
  intro s t j rest a queue load place aligned sound
  obtain ⟨B, read⟩ := State.readLines_sound 8 s (a / 64) sound
  rw [show a / 64 * 64 = a by omega] at read
  have goes : exec (.memReadReturn t 0) s = .next ((s.withBanks B).onTile t.val
      fun x => x.vldDone j rest (s.memRead a 512)) := by
    change execMemReadReturn t 0 s = _
    unfold execMemReadReturn
    rw [queue]
    dsimp only
    rw [load, place]
    dsimp only
    unfold State.vldReturn
    rw [read]
  refine ⟨_, goes, ?_⟩
  beta_reduce
  intro x x'
  have tile : ∀ u, State.tile ((s.withBanks B).onTile t.val
      fun x => x.vldDone j rest (s.memRead a 512)) u = if u = t.val then x.vldDone j rest (s.memRead a 512) else s.tile u :=
    fun u => State.tile_onTile _ _ u _
  have done : x' = x.vldDone j rest (s.memRead a 512) := (tile t.val).trans (if_pos rfl)
  have full : (s.memRead a 512).length = 512 := by simp [State.memRead]
  obtain ⟨data, others, queue', core, pad⟩ := x.vldDone_frame j rest (s.memRead a 512)
  rw [done]
  refine ⟨fun k hk => ?_, others, queue', core, pad, fun u hu => (tile u).trans (if_neg hu), rfl⟩
  rw [data, extractLsb'_bytesVec full hk]
  simp [State.memRead, hk]

end Sys2Proof.Machine

/-- Settles O38: a job retired leaves its function's value, 512 bytes of the scratchpad, or eight held writes; sound
lines deliver what memory holds. -/
theorem vectorResults : Obligations.VectorResults := ⟨Sys2Proof.Machine.vectorRetire, Sys2Proof.Machine.memoryReadReturn⟩
end

section
/-! SUPPORT. The matrix engine: what an MMB reads and writes, place by place (R71 to R82, R91 to R94, R124). -/

open Sys2Proof Sys2Proof.Claims Sys2Proof.Machine

namespace Sys2Proof.Machine

/-! ### Spans of byte ranges -/

/-- The span of ranges after one more. -/
def spanStep (acc : Option (Nat × Nat)) (r : Range) : Option (Nat × Nat) :=
  if r.2 = 0 then acc
  else acc.elim (some (lineOf r.1, lineOf (r.1 + r.2 - 1))) fun p =>
    some (min p.1 (lineOf r.1), max p.2 (lineOf (r.1 + r.2 - 1)))

theorem spanOf_eq (rs : List Range) : spanOf rs = rs.foldl spanStep none := by
  refine List.foldl_ext _ _ _ fun acc r _ => ?_
  cases acc <;> rfl

/-- A line lies within an optional span. -/
def InSpan (l : Nat) (sp : Option (Nat × Nat)) : Prop := ∃ p, sp = some p ∧ p.1 ≤ l ∧ l ≤ p.2

theorem InSpan.step {l : Nat} {sp : Option (Nat × Nat)} (h : InSpan l sp) (r : Range) : InSpan l (spanStep sp r) := by
  obtain ⟨p, rfl, low, high⟩ := h
  unfold spanStep
  by_cases empty : r.2 = 0
  · rw [if_pos empty]; exact ⟨p, rfl, low, high⟩
  · rw [if_neg empty]; exact ⟨_, rfl, (min_le_left _ _).trans low, high.trans (le_max_left _ _)⟩

theorem InSpan.fold {l : Nat} {sp : Option (Nat × Nat)} (h : InSpan l sp) (rs : List Range) :
    InSpan l (rs.foldl spanStep sp) := by
  induction rs generalizing sp with
  | nil => exact h
  | cons r rs ih => exact ih (h.step r)

/-- The line of a byte of one more range lies within the span. -/
theorem inSpan_spanStep (sp : Option (Nat × Nat)) {r : Range} {y : Nat} (low : r.1 ≤ y) (high : y < r.1 + r.2) :
    InSpan (y / 64) (spanStep sp r) := by
  have first : lineOf r.1 ≤ y / 64 := Nat.div_le_div_right low
  have last : y / 64 ≤ lineOf (r.1 + r.2 - 1) := Nat.div_le_div_right (by omega)
  unfold spanStep
  rw [if_neg (by omega)]
  cases sp with
  | none => exact ⟨_, rfl, first, last⟩
  | some p => exact ⟨_, rfl, (min_le_right _ _).trans first, last.trans (le_max_right _ _)⟩

theorem inSpan_fold {rs : List Range} {r : Range} (mem : r ∈ rs) {y : Nat} (low : r.1 ≤ y) (high : y < r.1 + r.2)
    (sp : Option (Nat × Nat)) : InSpan (y / 64) (rs.foldl spanStep sp) := by
  induction rs generalizing sp with
  | nil => cases mem
  | cons s rs ih =>
    rcases List.mem_cons.1 mem with rfl | mem
    · exact (inSpan_spanStep sp low high).fold rs
    · exact ih mem _

/-- Bytes lie in one of some ranges. -/
def InRanges (y : Nat) (rs : List Range) : Prop := ∃ r ∈ rs, r.1 ≤ y ∧ y < r.1 + r.2

/-- Ranges whose spans share no line share no byte. -/
theorem not_inRanges_of_spans {rs ss : List Range} (apart : spansMeet (spanOf rs) (spanOf ss) = false) {y : Nat}
    (h : InRanges y rs) : ¬ InRanges y ss := by
  rintro ⟨u, hu, low', high'⟩
  obtain ⟨r, hr, low, high⟩ := h
  obtain ⟨p, hp, p1, p2⟩ := inSpan_fold hr low high none
  obtain ⟨q, hq, q1, q2⟩ := inSpan_fold hu low' high' none
  rw [spanOf_eq, spanOf_eq, hp, hq] at apart
  have meet : overlap p q = true := by
    simp only [overlap, Bool.and_eq_true, decide_eq_true_eq]
    omega
  exact absurd (meet.symm.trans apart) nofun

/-! ### What the checks of R93 leave -/

/-- What an MMB that passed its checks keeps: wide elements where an operand is stored the other way round, C apart from what
is read, and rows of C that do not overlap. -/
structure MmbJob.Passed (j : MmbJob) : Prop where
  wideA : j.o.ta = true → 8 ≤ j.eb
  wideB : j.o.tb = false → 8 ≤ j.eb
  apartA : spansMeet (spanOf j.writes) (spanOf (atBase j.baseA j.rangesA)) = false
  apartB : spansMeet (spanOf j.writes) (spanOf (atBase j.baseB j.rangesB)) = false
  apartSA : spansMeet (spanOf j.writes) (spanOf (atBase j.baseSA (j.scaleRanges j.m j.strideA j.pitchA))) = false
  apartSB : spansMeet (spanOf j.writes) (spanOf (atBase j.baseSB (j.scaleRanges j.n j.strideB j.pitchB))) = false
  rows : j.empty = false → j.colsC * j.cw ≤ j.pitchC

theorem MmbJob.eb_cases (j : MmbJob) : j.eb = 4 ∨ j.eb = 1 ∨ 8 ≤ j.eb := by
  unfold MmbJob.eb fmtBits
  split_ifs <;> simp

theorem MmbJob.passed_of_check {x : Tile} {j : MmbJob} (h : mmbCheck x j = none) : j.Passed := by
  unfold mmbCheck at h
  dsimp only at h
  split_ifs at h with formats kinds align range alias_
  simp only [not_or, not_and, Bool.not_eq_true] at formats alias_
  obtain ⟨-, -, -, -, -, narrow⟩ := formats
  obtain ⟨apartA, apartB, apartSA, apartSB, rows⟩ := alias_
  have narrow' : (j.eb = 4 ∨ j.eb = 1) → j.o.ta = false ∧ j.o.tb = true := fun small => by
    simpa using narrow small
  refine ⟨fun other => ?_, fun other => ?_, apartA, apartB, apartSA, apartSB, fun some_ => not_lt.1 (rows some_)⟩
  · rcases j.eb_cases with small | small | wide
    · exact absurd other (by simp [(narrow' (.inl small)).1])
    · exact absurd other (by simp [(narrow' (.inr small)).1])
    · exact wide
  · rcases j.eb_cases with small | small | wide
    · exact absurd other (by simp [(narrow' (.inl small)).2])
    · exact absurd other (by simp [(narrow' (.inr small)).2])
    · exact wide

/-! ### Elements read from equal bytes -/

theorem Tile.readNat_congr {x y : Tile} {a n : Nat} (h : ∀ d, d < n → x.byte (a + d) = y.byte (a + d)) :
    x.readNat a n = y.readNat a n :=
  congrArg leNat (List.map_congr_left fun d hd => h d (List.mem_range.1 hd))

/-- An element that lies within `len` bytes where two tiles agree. -/
theorem elemAt_congr {x y : Tile} {eb a e len : Nat} (h : ∀ d, d < len → x.byte (a + d) = y.byte (a + d))
    (wide : 8 ≤ eb → e * (eb / 8) + eb / 8 ≤ len) (narrow : eb < 8 → e * eb / 8 < len) :
    elemAt x eb a e = elemAt y eb a e := by
  unfold elemAt
  by_cases w : 8 ≤ eb
  · rw [if_pos w, if_pos w]
    refine Tile.readNat_congr fun d hd => ?_
    rw [Nat.add_assoc]
    exact h _ (by have := wide w; omega)
  · rw [if_neg w, if_neg w, h _ (narrow (not_le.1 w))]

/-- Two tiles hold the same bytes in some ranges. -/
def AgreeOn (x y : Tile) (rs : List Range) : Prop := ∀ b, InRanges b rs → x.byte b = y.byte b

theorem AgreeOn.run {x y : Tile} {base off len : Nat} {rs : List Range} (h : AgreeOn x y (atBase base rs)) (mem : (off, len) ∈ rs)
    {d : Nat} (hd : d < len) : x.byte (base + off + d) = y.byte (base + off + d) :=
  h _ ⟨(base + off, len), List.mem_map_of_mem mem, Nat.le_add_right _ _, Nat.add_lt_add_left hd _⟩

section
variable {j : MmbJob} {x y : Tile} {b i k n : Nat}

theorem MmbJob.mem_opRanges_run {rows stride pitch : Nat} (some_ : j.empty = false) (hb : b < j.batch) (hi : i < rows)
    (hk : k < j.k) : (b * stride + i * pitch, j.rowBytes) ∈ j.opRanges false rows stride pitch := by
  unfold MmbJob.opRanges
  rw [if_neg (by simp [some_]; omega)]
  exact List.mem_flatMap.2 ⟨b, List.mem_range.2 hb, List.mem_map.2 ⟨i, List.mem_range.2 hi, rfl⟩⟩

theorem MmbJob.mem_opRanges_other {rows stride pitch : Nat} (some_ : j.empty = false) (hb : b < j.batch) (hk : k < j.k) :
    (b * stride + k * pitch, rows * (j.eb / 8)) ∈ j.opRanges true rows stride pitch := by
  unfold MmbJob.opRanges
  rw [if_neg (by simp [some_]; omega)]
  exact List.mem_flatMap.2 ⟨b, List.mem_range.2 hb, List.mem_map.2 ⟨k, List.mem_range.2 hk, rfl⟩⟩

theorem succ_mul_le {a b c : Nat} (h : a < b) : a * c + c ≤ b * c := by
  rw [← Nat.succ_mul]
  exact Nat.mul_le_mul_right c h

/-- Element `k` of a run along K lies within the run's bytes. -/
theorem MmbJob.rowBytes_wide (wide : 8 ≤ j.eb) (hk : k < j.k) : k * (j.eb / 8) + j.eb / 8 ≤ j.rowBytes := by
  unfold MmbJob.rowBytes
  rw [if_neg (by omega), if_neg (by omega)]
  exact succ_mul_le hk

theorem MmbJob.rowBytes_narrow (narrow : j.eb < 8) (hk : k < j.k) : k * j.eb / 8 < j.rowBytes := by
  unfold MmbJob.rowBytes ceilDiv
  rcases j.eb_cases with four | one | wide
  · rw [if_pos four, four]; omega
  · rw [if_neg (by omega), if_pos one, one]; omega
  · omega

/-- An operand's element, stored either way round, from tiles that agree on its ranges. -/
theorem MmbJob.run_congr {base rows stride pitch : Nat} (some_ : j.empty = false) (hb : b < j.batch) (hi : i < rows)
    (hk : k < j.k) (agree : AgreeOn x y (atBase base (j.opRanges false rows stride pitch))) :
    elemAt x j.eb (base + b * stride + i * pitch) k = elemAt y j.eb (base + b * stride + i * pitch) k := by
  rw [Nat.add_assoc]
  exact elemAt_congr (fun d hd => agree.run (j.mem_opRanges_run some_ hb hi hk) hd)
    (fun wide => j.rowBytes_wide wide hk) fun narrow => j.rowBytes_narrow narrow hk

theorem MmbJob.other_congr {base rows stride pitch : Nat} (some_ : j.empty = false) (wide : 8 ≤ j.eb) (hb : b < j.batch)
    (hi : i < rows) (hk : k < j.k) (agree : AgreeOn x y (atBase base (j.opRanges true rows stride pitch))) :
    elemAt x j.eb (base + b * stride + k * pitch) i = elemAt y j.eb (base + b * stride + k * pitch) i := by
  rw [Nat.add_assoc]
  exact elemAt_congr (fun d hd => agree.run (j.mem_opRanges_other some_ hb hk) hd)
    (fun _ => succ_mul_le hi) fun narrow => absurd wide (not_le.2 narrow)

theorem MmbJob.elemA_congr (passed : j.Passed) (some_ : j.empty = false) (hb : b < j.batch) (hi : i < j.m) (hk : k < j.k)
    (agree : AgreeOn x y (atBase j.baseA j.rangesA)) : j.elemA x b i k = j.elemA y b i k := by
  unfold MmbJob.rangesA at agree
  unfold MmbJob.elemA
  cases other : j.o.ta with
  | false => rw [other] at agree; exact j.run_congr some_ hb hi hk agree
  | true => rw [other] at agree; exact j.other_congr some_ (passed.wideA other) hb hi hk agree

theorem MmbJob.elemB_congr (passed : j.Passed) (some_ : j.empty = false) (hb : b < j.batch) (hn : n < j.n) (hk : k < j.k)
    (agree : AgreeOn x y (atBase j.baseB j.rangesB)) : j.elemB x b k n = j.elemB y b k n := by
  unfold MmbJob.rangesB at agree
  unfold MmbJob.elemB
  cases other : j.o.tb with
  | true => rw [other] at agree; exact j.run_congr some_ hb hn hk agree
  | false => rw [other] at agree; exact j.other_congr some_ (passed.wideB other) hb hn hk agree

theorem MmbJob.mem_scaleRanges {rows stride pitch q : Nat} (four : j.eb = 4) (some_ : j.empty = false) (hb : b < j.batch)
    (hi : i < rows) (hq : q < ceilDiv j.k 32) :
    (b * (stride / 16) + i * (pitch / 16), ceilDiv j.k 32) ∈ j.scaleRanges rows stride pitch := by
  have sums : j.k ≠ 0 := fun none_ => by
    have none' : ceilDiv j.k 32 = 0 := by rw [none_]; rfl
    omega
  unfold MmbJob.scaleRanges
  rw [if_neg (by simp [four, some_, sums])]
  exact List.mem_flatMap.2 ⟨b, List.mem_range.2 hb, List.mem_map.2 ⟨i, List.mem_range.2 hi, rfl⟩⟩

/-- The tiles agree on all that element (i, n) of batch b of C is made of. -/
structure MmbJob.Agree (j : MmbJob) (x y : Tile) (b i n : Nat) : Prop where
  opA : AgreeOn x y (atBase j.baseA j.rangesA)
  opB : AgreeOn x y (atBase j.baseB j.rangesB)
  sa : AgreeOn x y (atBase j.baseSA (j.scaleRanges j.m j.strideA j.pitchA))
  sb : AgreeOn x y (atBase j.baseSB (j.scaleRanges j.n j.strideB j.pitchB))
  c : ∀ d, d < j.cw → x.byte (j.addrC (b, i, n) + d) = y.byte (j.addrC (b, i, n) + d)

theorem MmbJob.blockStep_congr (passed : j.Passed) (four : j.eb = 4) (some_ : j.empty = false) (hb : b < j.batch)
    (hi : i < j.m) (hn : n < j.n) (agree : j.Agree x y b i n) {q : Nat} (hq : q < ceilDiv j.k 32) (s : Nat × Flg) :
    j.blockStep x b i n s q = j.blockStep y b i n s q := by
  have sum : j.blockSum x b i n q = j.blockSum y b i n q := by
    refine List.foldl_ext _ _ _ fun s e _ => ?_
    by_cases hk : 32 * q + e < j.k
    · simp only [hk, if_true]
      rw [j.elemA_congr passed some_ hb hi hk agree.opA, j.elemB_congr passed some_ hb hn hk agree.opB]
    · simp only [hk, if_false]
  have sa := agree.sa.run (j.mem_scaleRanges four some_ hb hi hq) hq
  have sb := agree.sb.run (j.mem_scaleRanges four some_ hb hn hq) hq
  rw [← Nat.add_assoc] at sa sb
  unfold MmbJob.blockStep
  rw [sum, sa, sb]

end

/-- One product of an INT32 element: of numbers, or of H1 bits counted as equal or as different (R72, R75). -/
def MmbJob.intStep (j : MmbJob) (t : Tile) (b i n : Nat) (s : Int × Bool) (k : Nat) : Int × Bool :=
  accInt s (if j.o.fmtA.toNat = 7 then (if (j.elemA t b i k = j.elemB t b k n) = (j.o.hmode = false) then 1 else 0)
    else (if j.elemA t b i k < 128 then (j.elemA t b i k : Int) else j.elemA t b i k - 256)
      * (if j.elemB t b k n < 128 then (j.elemB t b k n : Int) else j.elemB t b k n - 256))

/-- One product of an element of the 8-bit and 16-bit classes (R74). -/
def MmbJob.fmaStep (j : MmbJob) (t : Tile) (b i n : Nat) (s : Nat × Flg) (k : Nat) : Nat × Flg :=
  ((fma32 s.1 (elemVal j.o.fmtA.toNat (j.elemA t b i k)) (elemVal j.o.fmtB.toNat (j.elemB t b k n))).1,
    s.2.or (fma32 s.1 (elemVal j.o.fmtA.toNat (j.elemA t b i k)) (elemVal j.o.fmtB.toNat (j.elemB t b k n))).2)

/-- The format of C (R91). -/
def MmbJob.fmtC (j : MmbJob) : Fmt := if j.o.cfmt.toNat = 1 then bf16 else if j.o.cfmt.toNat = 2 then fp16 else fp32

/-- The INT32 sum of an element and whether it saturated. -/
def MmbJob.intSum (j : MmbJob) (t : Tile) (b i n : Nat) : Int × Bool :=
  (List.range j.k).foldl (j.intStep t b i n) (sInt (j.start t b i n), false)

/-- The FP32 sum of an element. -/
def MmbJob.floatSum (j : MmbJob) (t : Tile) (b i n : Nat) : Nat × Flg :=
  let acc := if j.o.cfmt.toNat = 0 then j.start t b i n else (fp32.enc (j.fmtC.val (j.start t b i n))).1
  if j.eb = 4 then (List.range (ceilDiv j.k 32)).foldl (j.blockStep t b i n) (acc, Flg.none)
  else (List.range j.k).foldl (j.fmaStep t b i n) (acc, Flg.none)

theorem MmbJob.elemC_eq (j : MmbJob) (t : Tile) (b i n : Nat) : j.elemC t b i n =
    if j.isInt then (ofInt 32 (j.intSum t b i n).1, { Flg.none with sat := (j.intSum t b i n).2 })
    else if j.o.cfmt.toNat = 0 then j.floatSum t b i n
    else ((j.fmtC.enc (fp32.val (j.floatSum t b i n).1)).1,
      (j.floatSum t b i n).2.or (j.fmtC.enc (fp32.val (j.floatSum t b i n).1)).2) := rfl

section
variable {j : MmbJob} {x y : Tile} {b i n : Nat}

theorem MmbJob.start_congr (agree : j.Agree x y b i n) : j.start x b i n = j.start y b i n :=
  congrArg (fun v => if j.o.acc then v else 0) (Tile.readNat_congr agree.c)

theorem MmbJob.intSum_congr (passed : j.Passed) (some_ : j.empty = false) (hb : b < j.batch) (hi : i < j.m) (hn : n < j.n)
    (agree : j.Agree x y b i n) : j.intSum x b i n = j.intSum y b i n := by
  unfold MmbJob.intSum
  rw [j.start_congr agree]
  refine List.foldl_ext _ _ _ fun s k hk => ?_
  rw [List.mem_range] at hk
  unfold MmbJob.intStep
  rw [j.elemA_congr passed some_ hb hi hk agree.opA, j.elemB_congr passed some_ hb hn hk agree.opB]

theorem MmbJob.floatSum_congr (passed : j.Passed) (some_ : j.empty = false) (hb : b < j.batch) (hi : i < j.m) (hn : n < j.n)
    (agree : j.Agree x y b i n) : j.floatSum x b i n = j.floatSum y b i n := by
  unfold MmbJob.floatSum
  rw [j.start_congr agree]
  by_cases four : j.eb = 4
  · rw [if_pos four, if_pos four]
    exact List.foldl_ext _ _ _ fun s q hq =>
      j.blockStep_congr passed four some_ hb hi hn agree (List.mem_range.1 hq) s
  · rw [if_neg four, if_neg four]
    refine List.foldl_ext _ _ _ fun s k hk => ?_
    rw [List.mem_range] at hk
    unfold MmbJob.fmaStep
    rw [j.elemA_congr passed some_ hb hi hk agree.opA, j.elemB_congr passed some_ hb hn hk agree.opB]

/-- An element of C is the same sum in tiles that agree on what it is made of (R91). -/
theorem MmbJob.elemC_congr (passed : j.Passed) (some_ : j.empty = false) (hb : b < j.batch) (hi : i < j.m) (hn : n < j.n)
    (agree : j.Agree x y b i n) : j.elemC x b i n = j.elemC y b i n := by
  rw [MmbJob.elemC_eq, MmbJob.elemC_eq, j.intSum_congr passed some_ hb hi hn agree,
    j.floatSum_congr passed some_ hb hi hn agree]

end

/-! ### Places of C -/

theorem MmbJob.mem_places {j : MmbJob} {p : Nat × Nat × Nat} : p ∈ j.places ↔
    j.empty = false ∧ p.1 < j.batch ∧ p.2.1 < j.rowsC ∧ p.2.2 < j.colsC := by
  obtain ⟨b, i, n⟩ := p
  unfold MmbJob.places
  by_cases none_ : j.empty = true
  · simp [none_]
  · rw [if_neg none_]
    simp [List.mem_flatMap, Bool.eq_false_iff.2 none_]

theorem MmbJob.places_eq (j : MmbJob) : j.places = if j.empty then []
    else List.range j.batch ×ˢ (List.range j.rowsC ×ˢ List.range j.colsC) := by
  unfold MmbJob.places
  by_cases none_ : j.empty = true
  · rw [if_pos none_, if_pos none_]
  · rw [if_neg none_, if_neg none_]
    refine List.flatMap_congr fun b _ => ?_
    change _ = List.map (Prod.mk b) ((List.range j.rowsC).flatMap fun i => (List.range j.colsC).map (Prod.mk i))
    rw [List.map_flatMap]
    exact List.flatMap_congr fun i _ => (List.map_map ..).symm

theorem MmbJob.nodup_places (j : MmbJob) : j.places.Nodup := by
  rw [MmbJob.places_eq]
  split
  · exact List.nodup_nil
  · exact List.nodup_range.product (List.nodup_range.product List.nodup_range)

/-- Byte `y` belongs to the element of C at place `p`. -/
def MmbJob.Cell (j : MmbJob) (p : Nat × Nat × Nat) (y : Nat) : Prop := j.addrC p ≤ y ∧ y < j.addrC p + j.cw

theorem MmbJob.cw_pos (j : MmbJob) : 0 < j.cw := by
  unfold MmbJob.cw
  split <;> decide

/-- The bytes of an element of C lie in the row that R92 gives. -/
theorem MmbJob.Cell.in_row {j : MmbJob} {p : Nat × Nat × Nat} {y : Nat} (h : j.Cell p y) (col : p.2.2 < j.colsC) :
    ∃ d, y = j.baseC + (p.1 * j.strideC + p.2.1 * j.pitchC) + d ∧ d < j.colsC * j.cw
      ∧ ∃ e, d = p.2.2 * j.cw + e ∧ e < j.cw := by
  obtain ⟨low, high⟩ := h
  unfold MmbJob.addrC at low high
  have inside := succ_mul_le (c := j.cw) col
  exact ⟨p.2.2 * j.cw + (y - (j.baseC + p.1 * j.strideC + p.2.1 * j.pitchC + p.2.2 * j.cw)), by omega, by omega, _, rfl,
    by omega⟩

theorem MmbJob.Cell.in_writes {j : MmbJob} {p : Nat × Nat × Nat} {y : Nat} (h : j.Cell p y) (mem : p ∈ j.places) :
    InRanges y j.writes := by
  obtain ⟨some_, batch, row, col⟩ := MmbJob.mem_places.1 mem
  obtain ⟨d, rfl, hd, -⟩ := h.in_row col
  have range : (p.1 * j.strideC + p.2.1 * j.pitchC, j.colsC * j.cw) ∈ j.rangesC := by
    unfold MmbJob.rangesC
    rw [if_neg (by simp [some_])]
    exact List.mem_flatMap.2 ⟨p.1, List.mem_range.2 batch, List.mem_map.2 ⟨p.2.1, List.mem_range.2 row, rfl⟩⟩
  exact ⟨_, List.mem_map_of_mem range, Nat.le_add_right _ _, Nat.add_lt_add_left hd _⟩

/-- Quotient and remainder are told by their sum. -/
theorem quotient_unique {q r u v m : Nat} (hr : r < m) (hv : v < m) (h : q * m + r = u * m + v) : q = u ∧ r = v := by
  rcases lt_trichotomy q u with less | rfl | more
  · have := succ_mul_le (c := m) less
    omega
  · exact ⟨rfl, Nat.add_left_cancel h⟩
  · have := succ_mul_le (c := m) more
    omega

/-- Rows of C do not overlap, and its batches lie apart. -/
structure MmbJob.Spread (j : MmbJob) : Prop where
  rows : j.empty = false → j.colsC * j.cw ≤ j.pitchC
  batches : j.batch = 1 ∨ j.rowsC * j.pitchC ≤ j.strideC

/-- Where a byte of C lies in its batch. -/
theorem MmbJob.Cell.in_batch {j : MmbJob} (spread : j.Spread) {p : Nat × Nat × Nat} {y : Nat} (h : j.Cell p y)
    (mem : p ∈ j.places) : ∃ u, y = j.baseC + p.1 * j.strideC + u ∧ u < j.rowsC * j.pitchC := by
  obtain ⟨some_, batch, row, col⟩ := MmbJob.mem_places.1 mem
  obtain ⟨d, rfl, hd, -⟩ := h.in_row col
  have inside := succ_mul_le (c := j.pitchC) row
  have := spread.rows some_
  exact ⟨p.2.1 * j.pitchC + d, by omega, by omega⟩

/-- No byte belongs to two elements of C. -/
theorem MmbJob.cell_unique {j : MmbJob} (spread : j.Spread) {p q : Nat × Nat × Nat} {y : Nat} (hp : j.Cell p y)
    (hq : j.Cell q y) (memp : p ∈ j.places) (memq : q ∈ j.places) : p = q := by
  obtain ⟨some_, batch, row, col⟩ := MmbJob.mem_places.1 memp
  obtain ⟨-, batch', row', col'⟩ := MmbJob.mem_places.1 memq
  obtain ⟨d, hd, low, e, rfl, he⟩ := hp.in_row col
  obtain ⟨d', hd', low', e', rfl, he'⟩ := hq.in_row col'
  have wide := spread.rows some_
  have inside := succ_mul_le (c := j.pitchC) row
  have inside' := succ_mul_le (c := j.pitchC) row'
  have same : p.1 = q.1 ∧ p.2.1 * j.pitchC + (p.2.2 * j.cw + e) = q.2.1 * j.pitchC + (q.2.2 * j.cw + e') := by
    rcases spread.batches with one | apart
    · have hp0 : p.1 = 0 := by omega
      have hq0 : q.1 = 0 := by omega
      rw [hp0] at hd
      rw [hq0] at hd'
      omega
    · exact quotient_unique (m := j.strideC) (by omega) (by omega) (by omega)
  obtain ⟨hb, rest⟩ := same
  obtain ⟨hi, rest⟩ := quotient_unique (by omega) (by omega) rest
  obtain ⟨hn, -⟩ := quotient_unique he he' rest
  exact Prod.ext hb (Prod.ext hi hn)

/-! ### Places taken in turn -/

theorem MmbJob.put_outside {j : MmbJob} {t : Tile} {p : Nat × Nat × Nat} {y : Nat} (h : ¬ j.Cell p y) :
    (j.put t p).byte y = t.byte y := by
  unfold MmbJob.put
  split
  · refine (Tile.byte_land ..).trans (if_neg ?_)
    rwa [leBytes_length]
  · refine (Tile.byte_land ..).trans (if_neg ?_)
    rwa [leBytes_length]

theorem Tile.readNat_land (t : Tile) (a n v : Nat) : (t.land a (leBytes n v)).readNat a n = v % 256 ^ n := by
  have bytes : (t.land a (leBytes n v)).read a n = leBytes n v := by
    rw [leBytes_eq_map]
    refine List.map_congr_left fun d hd => ?_
    rw [List.mem_range] at hd
    rw [← leBytes_eq_map, Tile.byte_land, leBytes_length, if_pos (by omega), Nat.add_sub_cancel_left, getD_leBytes v hd]
  rw [Tile.readNat, bytes, leNat_leBytes]

theorem MmbJob.put_value {j : MmbJob} (t : Tile) {b i n : Nat} (hi : i < j.m) (hn : n < j.n) :
    (j.put t (b, i, n)).readNat (j.addrC (b, i, n)) j.cw = (j.elemC t b i n).1 % 256 ^ j.cw := by
  unfold MmbJob.put
  rw [if_pos ⟨hi, hn⟩]
  exact Tile.readNat_land t _ _ _

theorem MmbJob.put_filled (j : MmbJob) (t : Tile) (p : Nat × Nat × Nat) :
    (j.put t p).filled (j.addrC p / 64) = true := by
  have first : j.addrC p / 64 ∈ linesOf (j.addrC p) j.cw := mem_linesOf.2 ⟨j.cw_pos, le_rfl, by have := j.cw_pos; omega⟩
  unfold MmbJob.put
  split
  · refine (Tile.filled_land ..).trans (if_pos ?_)
    rwa [leBytes_length]
  · refine (Tile.filled_land ..).trans (if_pos ?_)
    rwa [leBytes_length]

theorem Tile.land_filled {t : Tile} {l : Nat} (h : t.filled l = true) (a : Nat) (bs : List Byte) :
    (t.land a bs).filled l = true := by
  rw [Tile.filled_land]
  split
  · rfl
  · exact h

theorem MmbJob.filled_put {j : MmbJob} {t : Tile} {l : Nat} (h : t.filled l = true) (p : Nat × Nat × Nat) :
    (j.put t p).filled l = true := by
  unfold MmbJob.put
  split
  · exact Tile.land_filled h _ _
  · exact Tile.land_filled h _ _

/-- What a place of C leaves: everything but bytes, fill marks and flags. -/
theorem MmbJob.put_frame (j : MmbJob) (t : Tile) (p : Nat × Nat × Nat) :
    ((j.put t p).units, (j.put t p).pad.sb, (j.put t p).core.pc) = (t.units, t.pad.sb, t.core.pc) := by
  have landed : ∀ a bs, ((t.land a bs).units, (t.land a bs).pad.sb, (t.land a bs).core.pc) = (t.units, t.pad.sb, t.core.pc) := by
    intro a bs
    obtain ⟨B, F, eq⟩ := t.land_eq a bs
    rw [eq]
  unfold MmbJob.put
  split
  · exact landed _ _
  · exact landed _ _

theorem MmbJob.puts_outside {j : MmbJob} {l : List (Nat × Nat × Nat)} {t : Tile} {y : Nat} (h : ∀ p ∈ l, ¬ j.Cell p y) :
    (l.foldl j.put t).byte y = t.byte y := by
  induction l generalizing t with
  | nil => rfl
  | cons p l ih =>
    exact (ih fun q hq => h q (List.mem_cons_of_mem p hq)).trans (j.put_outside (h p List.mem_cons_self))

theorem MmbJob.filled_puts {j : MmbJob} {t : Tile} {k : Nat} (h : t.filled k = true) (l : List (Nat × Nat × Nat)) :
    (l.foldl j.put t).filled k = true := by
  induction l generalizing t with
  | nil => exact h
  | cons p l ih => exact ih (j.filled_put h p)

theorem MmbJob.puts_frame (j : MmbJob) (l : List (Nat × Nat × Nat)) (t : Tile) :
    ((l.foldl j.put t).units, (l.foldl j.put t).pad.sb, (l.foldl j.put t).core.pc) = (t.units, t.pad.sb, t.core.pc) :=
  foldl_part (fun t : Tile => (t.units, t.pad.sb, t.core.pc)) j.put_frame l t

/-- The element that an MMB leaves at a place of C is the sum of the tile as it was (R91). -/
theorem MmbJob.run_value {j : MmbJob} (passed : j.Passed) (spread : j.Spread) (x : Tile) {b i n : Nat}
    (mem : (b, i, n) ∈ j.places) (hi : i < j.m) (hn : n < j.n) :
    (j.run x).readNat (j.addrC (b, i, n)) j.cw = (j.elemC x b i n).1 % 256 ^ j.cw
      ∧ (j.run x).filled (j.addrC (b, i, n) / 64) = true := by
  obtain ⟨some_, hb, -, -⟩ := MmbJob.mem_places.1 mem
  obtain ⟨l, r, split_⟩ := List.append_of_mem mem
  have once := j.nodup_places
  rw [split_] at once
  have before : ∀ q ∈ l, q ∈ j.places ∧ q ≠ (b, i, n) := fun q hq =>
    ⟨split_ ▸ List.mem_append_left _ hq, fun same => (List.disjoint_of_nodup_append once) hq (same ▸ List.mem_cons_self)⟩
  have after : ∀ q ∈ r, q ∈ j.places ∧ q ≠ (b, i, n) := fun q hq =>
    ⟨split_ ▸ List.mem_append_right _ (List.mem_cons_of_mem _ hq), fun same =>
      (List.nodup_cons.1 (List.nodup_append.1 once).2.1).1 (same ▸ hq)⟩
  have other : ∀ q, q ∈ j.places ∧ q ≠ (b, i, n) → ∀ d, d < j.cw → ¬ j.Cell q (j.addrC (b, i, n) + d) :=
    fun q hq d hd cell => hq.2 (j.cell_unique spread cell ⟨Nat.le_add_right _ _, Nat.add_lt_add_left hd _⟩ hq.1 mem)
  have apart : ∀ rs, spansMeet (spanOf j.writes) (spanOf rs) = false → AgreeOn (l.foldl j.put x) x rs :=
    fun rs meet y hy => j.puts_outside fun q hq cell =>
      not_inRanges_of_spans meet (cell.in_writes (before q hq).1) hy
  have agree : j.Agree (l.foldl j.put x) x b i n := ⟨apart _ passed.apartA, apart _ passed.apartB, apart _ passed.apartSA,
    apart _ passed.apartSB, fun d hd => j.puts_outside fun q hq => other q (before q hq) d hd⟩
  have done : j.run x = r.foldl j.put (j.put (l.foldl j.put x) (b, i, n)) := by
    rw [MmbJob.run, split_, List.foldl_append, List.foldl_cons]
  rw [done]
  refine ⟨?_, j.filled_puts (j.put_filled _ _) r⟩
  rw [Tile.readNat_congr fun d hd => j.puts_outside fun q hq => other q (after q hq) d hd, j.put_value _ hi hn,
    j.elemC_congr passed some_ hb hi hn agree]

/-- A byte that an MMB changed belongs to a batch of C. -/
theorem MmbJob.run_changes {j : MmbJob} (spread : j.Spread) {x : Tile} {y : Nat} (changed : (j.run x).byte y ≠ x.byte y) :
    ∃ q, q < j.batch ∧ j.baseC + q * j.strideC ≤ y ∧ y < j.baseC + q * j.strideC + j.rowsC * j.pitchC := by
  by_contra none_
  refine changed (j.puts_outside fun p mem cell => none_ ?_)
  obtain ⟨u, rfl, hu⟩ := cell.in_batch spread mem
  exact ⟨p.1, (MmbJob.mem_places.1 mem).2.1, Nat.le_add_right _ _, Nat.add_lt_add_left hu _⟩

theorem MmbJob.spread_of {j : MmbJob} (passed : j.Passed) (batches : j.batch = 1 ∨ j.rowsC * j.pitchC ≤ j.strideC) : j.Spread :=
  ⟨passed.rows, batches⟩

/-! ### Retirement -/

/-- An MMB with no rows, columns or batches writes nothing and compares nothing (R94). -/
theorem MmbJob.empty_iff {j : MmbJob} : j.empty = true ↔ j.m = 0 ∨ j.n = 0 ∨ j.batch = 0 := by
  simp [MmbJob.empty, or_assoc]

theorem MmbJob.places_empty {j : MmbJob} (none_ : j.empty = true) : j.places = [] := if_pos none_

theorem MmbJob.residueCompared_empty {j : MmbJob} (none_ : j.empty = true) (x : Tile) : j.residueCompared x = false := by
  have drains : j.drains x = false := by
    unfold MmbJob.drains
    rw [MmbJob.places_empty none_]
    rfl
  simp [MmbJob.residueCompared, none_, drains]

theorem exec_mmbRetire {s : State} {t : Slot} {j : MmbJob} {rest : List MmbJob}
    (queue : (s.tile t.val).units.meq = j :: rest) (bad : Bool) : exec (.mmbRetire t bad) s =
      if bad && j.residueCompared (s.tile t.val) then .next (s.residueFault t.val j rest)
      else .next (s.setTile t.val ((s.tile t.val).mmbDone j rest)) := by
  change execMmbRetire t bad s = _
  unfold execMmbRetire
  rw [queue]
  rfl

theorem exec_mmbRetire_sound {s : State} {t : Slot} {j : MmbJob} {rest : List MmbJob}
    (queue : (s.tile t.val).units.meq = j :: rest) :
    exec (.mmbRetire t false) s = .next (s.setTile t.val ((s.tile t.val).mmbDone j rest)) := exec_mmbRetire queue false

/-- What an MMB that leaves the engine leaves of its tile. -/
theorem Tile.mmbDone_frame (x : Tile) (j : MmbJob) (rest : List MmbJob) :
    (∀ y, (x.mmbDone j rest).byte y = (j.run x).byte y) ∧ (∀ l, (x.mmbDone j rest).filled l = (j.run x).filled l)
      ∧ (x.mmbDone j rest).units.meq = rest ∧ (∀ p ∈ (x.mmbDone j rest).pad.sb, p.1 ∉ j.ents)
      ∧ (x.mmbDone j rest).core.pc = (j.run x).core.pc := by
  refine ⟨fun _ => rfl, fun _ => rfl, rfl, fun p hp => ?_, rfl⟩
  have kept := (List.mem_filter.1 hp).2
  simpa using kept

theorem MmbJob.mem_places_of {j : MmbJob} {b i n : Nat} (hb : b < j.batch) (hi : i < j.m) (hn : n < j.n) :
    (b, i, n) ∈ j.places := by
  have some_ : j.empty = false := Bool.eq_false_iff.2 fun none_ => by
    rcases MmbJob.empty_iff.1 none_ with h | h | h <;> omega
  have rows : j.m ≤ j.rowsC := by
    unfold MmbJob.rowsC roundUp ceilDiv
    split <;> omega
  have cols : j.n ≤ j.colsC := by
    unfold MmbJob.colsC roundUp ceilDiv
    split <;> omega
  exact MmbJob.mem_places.2 ⟨some_, hb, by dsimp only; omega, by dsimp only; omega⟩

theorem matrixRetire : MatrixRetire := by
  intro s t j rest queue x
  have goes := exec_mmbRetire_sound queue
  refine ⟨fun none_ bad => ?_, fun p l places => ?_, fun b i n hb hi hn check batches => ?_⟩
  · have empty := MmbJob.empty_iff.2 none_
    have run : j.run x = x := by rw [MmbJob.run, MmbJob.places_empty empty]; rfl
    refine leaves_setTile ?_
    rw [exec_mmbRetire queue, MmbJob.residueCompared_empty empty, Bool.and_false, if_neg nofun, Tile.mmbDone, run]
  · refine leaves_setTile ?_
    rw [goes, Tile.mmbDone, MmbJob.run, places, List.foldl_cons]
  · have passed := MmbJob.passed_of_check check
    have spread := MmbJob.spread_of passed batches
    obtain ⟨value, filled⟩ := MmbJob.run_value passed spread x (MmbJob.mem_places_of hb hi hn) hi hn
    obtain ⟨byte, marks, meq, sb, pc⟩ := x.mmbDone_frame j rest
    have frame := j.puts_frame j.places x
    refine ends_of_leaves (leaves_setTile goes) fun s' tile only => ?_
    rw [tile]
    refine ⟨(Tile.readNat_congr fun d _ => byte _).trans value, (marks _).trans filled, meq, sb,
      pc.trans (congrArg (·.2.2) frame), fun y changed => ?_, only⟩
    rw [byte] at changed
    exact MmbJob.run_changes spread changed

/-! ### Residues -/

/-- Undefined contents written over one range after another (R80). -/
theorem Tile.spoil_cons (x : Tile) (r : Range) (rs : List Range) (n : Nat) : x.spoil (r :: rs) n
    = (x.write r.1 ((List.range r.2).map fun i => Config.freeByte (n + i))).spoil rs (n + r.2) := rfl

theorem Tile.spoil_eq (x : Tile) (rs : List Range) (n : Nat) :
    ∃ B, x.spoil rs n = { x with pad := { x.pad with bytes := B } } := by
  induction rs generalizing x n with
  | nil => exact ⟨x.pad.bytes, rfl⟩
  | cons r rs ih =>
    obtain ⟨B, written⟩ := x.write_eq r.1 ((List.range r.2).map fun i => Config.freeByte (n + i))
    obtain ⟨C, rest⟩ := ih (x.write r.1 ((List.range r.2).map fun i => Config.freeByte (n + i))) (n + r.2)
    exact ⟨C, by rw [Tile.spoil_cons, rest, written]⟩

theorem Tile.spoil_outside (x : Tile) (rs : List Range) (n : Nat) {b : Nat} (out : ∀ r ∈ rs, b < r.1 ∨ r.1 + r.2 ≤ b) :
    (x.spoil rs n).byte b = x.byte b := by
  induction rs generalizing x n with
  | nil => rfl
  | cons r rs ih =>
    have here_ := out r List.mem_cons_self
    rw [Tile.spoil_cons, ih _ _ fun u hu => out u (List.mem_cons_of_mem r hu), Tile.byte_write, List.length_map,
      List.length_range, if_neg (by omega)]

/-- One place of C on the way to telling whether an element drains unsaturated (R79, R81). -/
def MmbJob.drainStep (j : MmbJob) (s : Tile × Bool) (p : Nat × Nat × Nat) : Tile × Bool :=
  (j.put s.1 p, s.2 || (decide (p.2.1 < j.m ∧ p.2.2 < j.n) && !(j.elemC s.1 p.1 p.2.1 p.2.2).2.sat))

theorem MmbJob.drains_eq (j : MmbJob) (x : Tile) : j.drains x = (j.places.foldl j.drainStep (x, false)).2 := rfl

/-- A place that drained unsaturated stands among those taken. -/
theorem MmbJob.drained_place {j : MmbJob} (l : List (Nat × Nat × Nat)) (x : Tile) (d : Bool)
    (h : (l.foldl j.drainStep (x, d)).2 = true) : d = true ∨ ∃ p u r, l = u ++ p :: r ∧ p.2.1 < j.m ∧ p.2.2 < j.n
      ∧ (j.elemC (u.foldl j.put x) p.1 p.2.1 p.2.2).2.sat = false := by
  induction l generalizing x d with
  | nil => exact .inl h
  | cons p l ih =>
    rcases ih (j.put x p) _ h with now | ⟨q, u, r, rfl, rest⟩
    · rcases Bool.or_eq_true_iff.1 now with before | here_
      · exact .inl before
      · rw [Bool.and_eq_true, decide_eq_true_eq, Bool.not_eq_true'] at here_
        exact .inr ⟨p, [], l, rfl, here_.1.1, here_.1.2, here_.2⟩
    · exact .inr ⟨q, p :: u, r, rfl, rest⟩

theorem residueMismatch : ResidueMismatch := by
  intro s t j rest queue x
  refine ⟨fun compared => ?_, fun free => ?_, fun compared => ?_, fun compared wide => ?_, fun n => ?_⟩
  · rw [exec_mmbRetire queue, Bool.true_and, if_pos compared]
  · rw [exec_mmbRetire_sound queue, exec_mmbRetire queue, Bool.true_and, if_neg (ne_true_of_eq_false free)]
  · unfold MmbJob.residueCompared at compared
    simp only [Bool.or_eq_true, Bool.and_eq_true, decide_eq_true_eq] at compared
    rcases compared with ⟨⟨four, -⟩, -⟩ | ⟨int, -⟩
    · exact .inl four
    · exact .inr int
  · have drains : j.drains x = true := by
      unfold MmbJob.residueCompared at compared
      simp only [wide, decide_false, Bool.false_and, Bool.false_or, Bool.and_eq_true] at compared
      exact compared.2
    rw [MmbJob.drains_eq] at drains
    rcases j.drained_place j.places x false drains with absurd_ | found
    · cases absurd_
    · exact found
  · intro y
    obtain ⟨B, spoilt⟩ := x.spoil_eq j.writes n
    refine ⟨rfl, rfl, ?_, ?_, ?_, fun b out => x.spoil_outside j.writes n out⟩
    · exact (congrArg (fun t : Tile => t.units) spoilt :)
    · exact (congrArg (fun t : Tile => t.pad.fill) spoilt :)
    · exact (congrArg (fun t : Tile => t.pad.sb) spoilt :)

/-! ### Issue -/

/-- An MMB in the engine's queue, its ranges registered, and the tile on its way at word `i`. -/
def Tile.queueMmb (x : Tile) (j : MmbJob) : Tile :=
  let r := x.register j.entries
  { r.1 with units := { r.1.units with meq := r.1.units.meq ++ [{ j with ents := r.2 }] } }

section
variable {x : Ctx} {t : Tile} {i : Tis} {o : MmbOp}

theorem Tile.execMmb_bad {c : FaultCode} (room : t.units.meq.length < 2) (bad : mmbCheck t (mmbJob t o) = some c) :
    t.execMmb x i o = t.fail c i 0 := by
  unfold Tile.execMmb
  rw [if_neg (not_le.2 room)]
  dsimp only
  rw [bad]

theorem Tile.execMmb_good (room : t.units.meq.length < 2) (check : mmbCheck t (mmbJob t o) = none)
    (go : t.sbCheck (mmbJob t o).reads [(mmbJob t o).writes] (mmbJob t o).entries.length = .go) :
    t.execMmb x i o = ((t.setRun .running).queueMmb (mmbJob t o)).setPc (t.core.pc.toNat + 2) := by
  unfold Tile.execMmb
  rw [if_neg (not_le.2 room)]
  dsimp only
  rw [check]
  dsimp only
  rw [go]
  exact congrArg ((t.setRun .running).queueMmb (mmbJob t o)).setPc rfl

end

theorem matrixIssue : MatrixIssue := by
  intro s t o on r75 r20 r1 usable room x j
  have legal : (Tis.mmb o).legal = true := by simp [Tis.legal, r75, r20, r1]
  refine ⟨fun c bad => ?_, fun check go => ?_⟩
  · exact faults_of_local rfl on rfl legal usable (Tile.execMmb_bad room bad)
  · have done := (Tile.execMmb_good (x := s.ctx t.val) (i := .mmb o) room check go).trans
      (congrArg (fun y : Tile => (y.queueMmb j).setPc (here s t + 2)) (Tile.setRun_running on.2))
    refine leaves_of_local rfl on rfl legal usable done ?_ ?_
    · rw [Tile.setPc_run]
      exact ne_of_eq_of_ne on.2 nofun
    · rw [Tile.setPc_units]
      exact Nat.le_refl _

end Sys2Proof.Machine

/-- Settles O39: an MMB reads no byte that it writes at another place, so each place taken in turn is the sum of the tile
as it stood. -/
theorem matrixEngine : Obligations.MatrixEngine :=
  ⟨Sys2Proof.Machine.matrixIssue, Sys2Proof.Machine.matrixRetire, Sys2Proof.Machine.residueMismatch⟩
end

section
/-! SUPPORT. What the operations that a tile instruction can reach leave of the state: the board and module memory. One lemma
for each operation over the state. -/

open Sys2Proof Sys2Proof.Claims Sys2Proof.Machine

namespace Sys2Proof.Machine

/-- What belongs to the board, and module memory. -/
def State.site (s : State) : List (Nat × List Byte) × List (Nat × Nat) × Power × BootPhase × Front × List Plan × Vault
    × List Shard × List Batch × Mem :=
  (s.octets, s.spares, s.power, s.boot, s.front, s.plans, s.vault, s.shards, s.batches, s.mem)

@[simp] theorem State.site_mk (a b c d e f g h i j k l m n o p q r t u v w x y z aa bb) :
    State.site ⟨a, b, c, d, e, f, g, h, i, j, k, l, m, n, o, p, q, r, t, u, v, w, x, y, z, aa, bb⟩
      = (e, g, k, l, p, r, t, v, w, j) := rfl

@[simp] theorem State.mk_site (s : State) : (s.octets, s.spares, s.power, s.boot, s.front, s.plans, s.vault, s.shards,
    s.batches, s.mem) = s.site := rfl

@[simp] theorem State.ite_site (c : Prop) [Decidable c] (a b : State) :
    (if c then a else b).site = if c then a.site else b.site := apply_ite State.site c a b

@[simp] theorem State.dite_site (c : Prop) [Decidable c] (a : c → State) (b : ¬ c → State) :
    (dite c a b).site = dite c (fun h => (a h).site) fun h => (b h).site := apply_dite State.site c a b

theorem foldl_site {α : Type} (f : State → α → State) (l : List α) (s : State)
    (h : ∀ s x, (f s x).site = s.site) : (l.foldl f s).site = s.site := foldl_part State.site h l s

@[simp] theorem State.setTile_site (s : State) (t : Nat) (v : Tile) : (s.setTile t v).site = s.site := rfl
@[simp] theorem State.onTile_site (s : State) (t : Nat) (f : Tile → Tile) : (s.onTile t f).site = s.site := rfl
@[simp] theorem State.setBarrier_site (s : State) (b : Nat) (v : Barrier) : (s.setBarrier b v).site = s.site := rfl
@[simp] theorem State.arrive_site (s : State) (t : Nat) (b : BitVec 6) : (s.arrive t b).site = s.site := rfl

@[simp] theorem State.barIssue_site (s : State) (t : Nat) (b : BitVec 6) : (s.barIssue t b).site = s.site := by
  simp [State.barIssue]

@[simp] theorem State.setChan_site (s : State) (c : Nat) (v : Channel) : (s.setChan c v).site = s.site := rfl
@[simp] theorem State.onChan_site (s : State) (c : Nat) (f : Channel → Channel) : (s.onChan c f).site = s.site := rfl
@[simp] theorem State.onDesc_site (s : State) (j : JobId) (f : Desc → Desc) : (s.onDesc j f).site = s.site := rfl
@[simp] theorem State.answer_site (s : State) (j : JobId) (a : Answer) : (s.answer j a).site = s.site := rfl
@[simp] theorem State.closeStep_site (s : State) (t : Nat) : (s.closeStep t).site = s.site := by simp [State.closeStep]
@[simp] theorem State.setStrand_site (s : State) (st : Nat) (v : Strand) : (s.setStrand st v).site = s.site := rfl

@[simp] theorem State.onStrand_site (s : State) (st : Nat) (f : Strand → Strand) : (s.onStrand st f).site = s.site :=
  rfl

@[simp] theorem State.countLastChunk_site (s : State) (st k : Nat) (x : Tile) :
    (s.countLastChunk st k x).site = s.site := by
  simp [State.countLastChunk]

@[simp] theorem State.dropRaw_site (s : State) (t : Nat) : (s.dropRaw t).site = s.site := rfl
@[simp] theorem State.onHold_site (s : State) (j : JobId) (f : JobHold → JobHold) : (s.onHold j f).site = s.site := rfl

@[simp] theorem State.onTiles_site (s : State) (ts : List Nat) (f : Tile → Tile) : (s.onTiles ts f).site = s.site := by
  unfold State.onTiles
  refine foldl_site _ _ _ fun s x => ?_
  simp

@[simp] theorem State.tidyGroup_site (s : State) (g : Nat) : (s.tidyGroup g).site = s.site := by simp [State.tidyGroup]

@[simp] theorem State.tidyGroups_site (s : State) : s.tidyGroups.site = s.site := by
  unfold State.tidyGroups
  exact foldl_site _ _ _ fun s x => by simp

@[simp] theorem State.idleStrand_site (s : State) (st : Nat) : (s.idleStrand st).site = s.site := by
  simp [State.idleStrand]

@[simp] theorem State.newEpoch_site (s : State) (st : Nat) : (s.newEpoch st).site = s.site := rfl

@[simp] theorem State.takeSlot_site (s : State) (st n : Nat) : (s.takeSlot st n).site = s.site := by
  unfold State.takeSlot
  split <;> simp

@[simp] theorem State.seqOver_site (s : State) (st : Nat) : (s.seqOver st).site = s.site := by
  unfold State.seqOver
  dsimp only
  split <;> simp

@[simp] theorem State.setTune_site (s : State) (n : Nat) (x : Tune) : (s.setTune n x).site = s.site := rfl
@[simp] theorem State.onTune_site (s : State) (n : Nat) (f : Tune → Tune) : (s.onTune n f).site = s.site := rfl
@[simp] theorem State.emit_site (s : State) (o : Out) : (s.emit o).site = s.site := rfl

@[simp] theorem State.sendTune_site (s : State) (name n rank : Nat) (args : List Nat) (bs : List Byte) :
    (s.sendTune name n rank args bs).site = s.site :=
  rfl

@[simp] theorem State.set_site (s : State) (k v : Nat) : (s.set k v).site = s.site := rfl
@[simp] theorem State.bump_site (s : State) (k n : Nat) : (s.bump k n).site = s.site := rfl
@[simp] theorem State.stepResult_site (s : State) (j : JobId) (x : Tune) : (s.stepResult j x).site = s.site := rfl

@[simp] theorem State.doCommit_site (s : State) (n step : Nat) : (s.doCommit n step).site = s.site := by
  unfold State.doCommit
  dsimp only
  split
  · rfl
  · split <;> simp

@[simp] theorem State.keepOutcome_site (s : State) (n step : Nat) (code missing : Nat) :
    (s.keepOutcome n step code missing).site = s.site :=
  rfl

@[simp] theorem State.writeRecord_site (s : State) (rtype stamp flags : Nat) (payload : List Byte) :
    (s.writeRecord rtype stamp flags payload).site = s.site := by
  simp [State.writeRecord]

@[simp] theorem State.record_site (s : State) (rtype : Nat) (payload : List Byte) :
    (s.record rtype payload).site = s.site := by
  simp [State.record]

@[simp] theorem State.alarmRecord_site (s : State) (code nseq : Nat) (sent : Bool) (arg : List Byte) :
    (s.alarmRecord code nseq sent arg).site = s.site := by
  simp [State.alarmRecord]

@[simp] theorem State.nextNseq_site (s : State) : s.nextNseq.2.site = s.site := rfl
@[simp] theorem State.noticed_site (s : State) (code : Nat) : (s.noticed code).site = s.site := rfl

@[simp] theorem State.transmit_site (s : State) (n : Note) : (s.transmit n).site = s.site := by
  unfold State.transmit
  refine foldl_site _ _ _ fun s x => ?_
  simp

@[simp] theorem State.post_site (s : State) (n : Note) : (s.post n).site = s.site := by simp [State.post]
@[simp] theorem State.setBucket_site (s : State) (code : Nat) (b : Bucket) : (s.setBucket code b).site = s.site := rfl

@[simp] theorem State.raise_site (s : State) (code : Nat) (arg : List Byte) : (s.raise code arg).site = s.site := by
  simp [State.raise]

@[simp] theorem State.keepMstat_site (s : State) (t : Nat) : (s.keepMstat t).site = s.site := by
  unfold State.keepMstat
  split <;> simp

@[simp] theorem State.gatherMstat_site (s : State) (j : JobId) : (s.gatherMstat j).site = s.site := by
  unfold State.gatherMstat
  refine foldl_site _ _ _ fun s x => ?_
  simp

@[simp] theorem State.dropWatch_site (s : State) (ts : List Nat) : (s.dropWatch ts).site = s.site := rfl
@[simp] theorem State.endSlice_site (s : State) (t : Nat) : (s.endSlice t).site = s.site := rfl

@[simp] theorem State.abandonSlice_site (s : State) (t : Nat) : (s.abandonSlice t).site = s.site := by
  simp [State.abandonSlice]

@[simp] theorem State.forgetArrivals_site (s : State) (t : Nat) : (s.forgetArrivals t).site = s.site := rfl
@[simp] theorem State.resetOne_site (s : State) (t : Nat) : (s.resetOne t).site = s.site := by simp [State.resetOne]

@[simp] theorem State.resetTiles_site (s : State) (ts : List Nat) : (s.resetTiles ts).site = s.site := by
  unfold State.resetTiles
  refine foldl_site _ _ _ fun s x => ?_
  simp

@[simp] theorem State.dropNext_site (s : State) (st : Nat) : (s.dropNext st).site = s.site := by simp [State.dropNext]

@[simp] theorem State.beginSeq_site (s : State) (st : Nat) (job : JobId) (n : Nat) (shape : List Nat) (sec : Nat)
    (place : Nat × Nat) :
    (s.beginSeq st job n shape sec place).site = s.site :=
  rfl

@[simp] theorem State.closeP_site (s : State) : s.closeP.site = s.site := by simp [State.closeP]

@[simp] theorem State.resetStrand_site (s : State) (st : Nat) : (s.resetStrand st).site = s.site := by
  simp [State.resetStrand]

@[simp] theorem State.dropSeq_site (s : State) (st : Nat) : (s.dropSeq st).site = s.site := by
  unfold State.dropSeq
  dsimp only
  split <;> simp

@[simp] theorem State.leaveStrand_site (s : State) (st : Nat) (j : JobId) : (s.leaveStrand st j).site = s.site := by
  simp [State.leaveStrand]

@[simp] theorem State.stopSeqs_site (s : State) (j : JobId) : (s.stopSeqs j).site = s.site := by
  unfold State.stopSeqs
  exact foldl_site _ _ _ fun s x => by simp

@[simp] theorem State.endJob_site (s : State) (j : JobId) (a : Answer) : (s.endJob j a).site = s.site := by
  simp [State.endJob]

@[simp] theorem State.doFail_site (s : State) (n step missing : Nat) : (s.doFail n step missing).site = s.site := by
  unfold State.doFail
  dsimp only
  split
  · rfl
  · split <;> simp

@[simp] theorem State.againJob_site (s : State) (j : JobId) : (s.againJob j).site = s.site := by simp [State.againJob]
@[simp] theorem State.draw_site (s : State) : s.draw.2.site = s.site := rfl
@[simp] theorem State.freeFlow_site (s : State) : s.freeFlow.2.site = s.site := rfl
@[simp] theorem State.onFabric_site (s : State) (f : Fabric → Fabric) : (s.onFabric f).site = s.site := rfl
@[simp] theorem State.setPort_site (s : State) (n : Nat) (p : FPort) : (s.setPort n p).site = s.site := rfl
@[simp] theorem State.sealFor_site (s : State) (n : Nat) (p : Packet) : (s.sealFor n p).1.site = s.site := rfl

@[simp] theorem State.sendBy_site (s : State) (n : Nat) (p : Packet) : (s.sendBy n p).site = s.site := by
  unfold State.sendBy
  split <;> simp

theorem State.egress_site (s : State) (p : Packet) (w : Nat) :
    ∀ post, State.egress s p w = some post → post.1.site = s.site := by
  unfold State.egress
  dsimp only
  intro post h
  split at h
  · cases h
  · cases h
    simp

theorem State.egressAll_site (s : State) (w : Nat) (x2 : List Packet) :
    ∀ post, State.egressAll s w x2 = some post → post.1.site = s.site := by
  induction x2 generalizing s with
  | nil =>
    intro u h
    cases h
    rfl
  | cons a l ih =>
    intro u h
    simp only [State.egressAll] at h
    split at h
    · cases h
    case h_2 sent =>
      obtain ⟨r, rest, rfl⟩ := Option.map_eq_some_iff.1 h
      exact (ih _ r rest).trans (State.egress_site s _ _ _ sent)

@[simp] theorem State.endWith_site (s : State) (j : JobId) (st : Nat) : (s.endWith j st).site = s.site := rfl
@[simp] theorem State.setWindow_site (s : State) (w : Nat) (v : Window) : (s.setWindow w v).site = s.site := rfl

@[simp] theorem State.closeComplete_site (s : State) (w : Nat) : (s.closeComplete w).site = s.site := by
  unfold State.closeComplete
  dsimp only
  split <;> simp

@[simp] theorem State.closeAck_site (s : State) (w : Nat) (eps : List Nat) : (s.closeAck w eps).site = s.site := by
  simp [State.closeAck]

@[simp] theorem State.sendControl_site (s : State) (ty : PType) (dst flow : Nat) (a : Word) (inner : List Byte) :
    (s.sendControl ty dst flow a inner).site = s.site := by
  unfold State.sendControl
  dsimp only
  split
  · rfl
  · split
    case h_1 sent => exact State.egress_site _ _ _ _ sent
    case h_2 => rfl

@[simp] theorem State.sendCloseAck_site (s : State) (owner : BitVec 16) (w : Nat) :
    (s.sendCloseAck owner w).site = s.site := by
  simp [State.sendCloseAck]

@[simp] theorem State.closeWaits_site (s : State) (t : Transfer) : (s.closeWaits t).site = s.site := by
  unfold State.closeWaits
  refine foldl_site _ _ _ fun s x => ?_
  simp

@[simp] theorem State.countCode_site (s : State) (code : Nat) : (s.countCode code).site = s.site := by
  simp [State.countCode]

@[simp] theorem State.tryReady_site (s : State) : s.tryReady.site = s.site := by simp [State.tryReady]

@[simp] theorem State.endTransfer_site (s : State) (t : Transfer) (code : Nat) :
    (s.endTransfer t code).site = s.site := by
  cases owner : t.owner <;> cases credit : t.credit <;> simp [State.endTransfer, owner, credit]

@[simp] theorem State.launch_site (s : State) (t : Transfer) : (s.launch t).site = s.site := by
  unfold State.launch
  dsimp only
  split
  · simp
  · split
    case h_1 => simp
    case h_2 sent => exact State.egressAll_site _ _ _ _ sent

@[simp] theorem State.takeTransfer_site (s : State) (dst flow : Nat) (p : Packet) (parts : List (List Byte)) (owner : TOwner)
    (tag : Nat) (credit : Option (Nat × Nat × Nat)) (window : Option Nat) :
    (s.takeTransfer dst flow p parts owner tag credit window).site = s.site := by
  simp [State.takeTransfer]

@[simp] theorem State.sendPart_site (s : State) (n : Nat) (to' : Nat) (p : BucketPart) :
    (s.sendPart n to' p).site = s.site := by
  unfold State.sendPart
  refine foldl_site _ _ _ fun s x => ?_
  simp

@[simp] theorem State.sendParts_site (s : State) (n : Nat) (l : List (Nat × BucketPart)) :
    (s.sendParts n l).site = s.site := by
  unfold State.sendParts
  refine foldl_site _ _ _ fun s x => ?_
  simp

@[simp] theorem State.reportBucket_site (s : State) (n : Nat) (sparse : Bool) (b : Nat) :
    (s.reportBucket n sparse b).site = s.site := by
  unfold State.reportBucket
  dsimp only
  split <;> simp

@[simp] theorem State.contributeZeros_site (s : State) (n : Nat) : (s.contributeZeros n).site = s.site := by
  unfold State.contributeZeros
  refine foldl_site _ _ _ fun s x => ?_
  simp

@[simp] theorem State.doRepeat_site (s : State) (n step attempt : Nat) : (s.doRepeat n step attempt).site = s.site := by
  unfold State.doRepeat
  dsimp only
  split
  · rfl
  · split <;> simp

@[simp] theorem State.sendGroup_site (s : State) (name n : Nat) (args : List Nat) :
    (s.sendGroup name n args).site = s.site := by
  unfold State.sendGroup
  refine foldl_site _ _ _ fun s x => ?_
  simp

@[simp] theorem State.repeatOrFail_site (s : State) (n missing : Nat) : (s.repeatOrFail n missing).site = s.site := by
  simp [State.repeatOrFail]

@[simp] theorem State.decideStep_site (s : State) (n : Nat) : (s.decideStep n).site = s.site := by
  unfold State.decideStep
  dsimp only
  split
  · rfl
  · split <;> simp

@[simp] theorem State.lastArrival_site (s : State) (key m ep : Nat) : (s.lastArrival key m ep).site = s.site := by
  simp [State.lastArrival]

@[simp] theorem State.takeDone_site (s : State) (n rank : Nat) (step attempt : Nat) (crcs : List (BitVec 64)) :
    (s.takeDone n rank step attempt crcs).site = s.site := by
  simp [State.takeDone]

@[simp] theorem State.tryDone_site (s : State) (n : Nat) : (s.tryDone n).site = s.site := by
  unfold State.tryDone
  dsimp only
  split <;> simp

@[simp] theorem State.tryDoneJob_site (s : State) (j : JobId) : (s.tryDoneJob j).site = s.site := by
  unfold State.tryDoneJob
  split <;> simp

@[simp] theorem State.haltStage_site (s : State) (t : Nat) : (s.haltStage t).site = s.site := by
  unfold State.haltStage
  dsimp only
  split
  · simp
  · simp
  · split <;> split <;> (try split) <;> simp

@[simp] theorem State.drawMany_site (s : State) (k : Nat) : (s.drawMany k).2.site = s.site := rfl

@[simp] theorem State.windowStore_site (s : State) (t ep : Nat) (w off : Nat) (bs : List Byte) :
    (s.windowStore t ep w off bs).site = s.site := by
  simp [State.windowStore]

@[simp] theorem State.countFault_site (s : State) (c : FaultCode) : (s.countFault c).site = s.site := by
  unfold State.countFault
  split <;> simp

@[simp] theorem State.configStage_site (s : State) (st k t : Nat) : (s.configStage st k t).site = s.site := by
  unfold State.configStage
  split <;> simp

@[simp] theorem State.jobHandles_site (s : State) (st k t : Nat) (h : JobHold) :
    (s.jobHandles st k t h).site = s.site :=
  rfl

@[simp] theorem State.nodeSend_site (s : State) (m : Msg) (job : Option JobId) (flow : Option FlowRef) :
    (s.nodeSend m job flow).site = s.site :=
  rfl

@[simp] theorem State.sendJobBlock_site (s : State) (t number : Nat) (shape : List Nat) (place : Nat × Nat) :
    (s.sendJobBlock t number shape place).site = s.site :=
  rfl

@[simp] theorem State.tuneHandles_site (s : State) (t : Nat) (j : Option JobId) :
    (s.tuneHandles t j).site = s.site := by
  unfold State.tuneHandles
  split <;> simp

@[simp] theorem State.startStage_site (s : State) (st k : Nat) (t entry : Nat) :
    (s.startStage st k t entry).site = s.site := by
  unfold State.startStage
  dsimp only
  split
  · simp
  case h_2 d _ => cases d.hold <;> simp

@[simp] theorem State.restartStages_site (s : State) (st : Nat) : (s.restartStages st).site = s.site := by
  unfold State.restartStages
  refine foldl_site _ _ _ fun s p => ?_
  split
  · split <;> simp
  · rfl

@[simp] theorem State.resumeMarks_site (s : State) (st : Nat) : (s.resumeMarks st).site = s.site := rfl
@[simp] theorem State.mapStage_site (s : State) (st k t : Nat) : (s.mapStage st k t).site = s.site := rfl

@[simp] theorem State.writeMap_site (s : State) (st : Nat) : (s.writeMap st).site = s.site := by
  unfold State.writeMap
  refine foldl_site _ _ _ fun s x => ?_
  simp

@[simp] theorem State.resumeStrand_site (s : State) (st : Nat) : (s.resumeStrand st).site = s.site := by
  unfold State.resumeStrand
  dsimp only
  split <;> simp

@[simp] theorem State.faultOutcome_site (s : State) (t : Nat) (c : FaultCode) : (s.faultOutcome t c).site = s.site := by
  unfold State.faultOutcome
  dsimp only
  split
  · simp
  · split
    · simp
    · split <;> simp

@[simp] theorem State.dirty_site (s : State) (b : Nat) : (s.dirty b).site = s.site := by simp [State.dirty]
@[simp] theorem State.setKept_site (s : State) (k v : Nat) : (s.setKept k v).site = s.site := by simp [State.setKept]
@[simp] theorem State.addCause_site (s : State) (t b : Nat) : (s.addCause t b).site = s.site := by simp [State.addCause]
@[simp] theorem State.setSuspect_site (s : State) (t : Nat) (v : Suspect) : (s.setSuspect t v).site = s.site := rfl
@[simp] theorem State.meet_site (s : State) (t b : Nat) : (s.meet t b).site = s.site := by simp [State.meet]

@[simp] theorem State.runThird_site (s : State) (t : Nat) (d : Dispute) : (s.runThird t d).site = s.site := by
  unfold State.runThird
  dsimp only
  split <;> simp

@[simp] theorem State.seekThird_site (s : State) (d : Dispute) : (s.seekThird d).1.site = s.site := by
  unfold State.seekThird
  split <;> (try split) <;> simp

@[simp] theorem State.mismatch_site (s : State) (d : Dispute) : (s.mismatch d).site = s.site := by simp [State.mismatch]
@[simp] theorem State.applyTrim_site (s : State) (t : Nat) : (s.applyTrim t).site = s.site := by simp [State.applyTrim]

@[simp] theorem State.askTrim_site (s : State) (t step : Nat) : (s.askTrim t step).site = s.site := by
  simp [State.askTrim]

@[simp] theorem State.leaveBarriers_site (s : State) (t : Nat) : (s.leaveBarriers t).site = s.site := rfl
@[simp] theorem State.setRepair_site (s : State) (t : Nat) (w : Word) : (s.setRepair t w).site = s.site := rfl
@[simp] theorem State.fence_site (s : State) (t cause : Nat) : (s.fence t cause).site = s.site := by simp [State.fence]
@[simp] theorem State.skimFirst_site (s : State) (t : Nat) : (s.skimFirst t).site = s.site := rfl
@[simp] theorem State.climb_site (s : State) (t cause : Nat) : (s.climb t cause).site = s.site := by simp [State.climb]

@[simp] theorem State.residueSuspect_site (s : State) (t : Nat) : (s.residueSuspect t).site = s.site := by
  simp [State.residueSuspect]

@[simp] theorem State.unwatch_site (s : State) (w chunk : Nat) : (s.unwatch w chunk).site = s.site := rfl

@[simp] theorem State.tileFaulted_site (s : State) (t : Nat) (c : FaultCode) : (s.tileFaulted t c).site = s.site := by
  simp [State.tileFaulted]

@[simp] theorem State.reportFault_site (s : State) (t : Nat) : (s.reportFault t).site = s.site := by
  unfold State.reportFault
  split <;> simp

@[simp] theorem State.countNoTarget_site (s : State) (x y : Tile) : (s.countNoTarget x y).site = s.site := by
  simp [State.countNoTarget]

@[simp] theorem State.addCount_site (s : State) (c : Nat) (v : Word) : (s.addCount c v).site = s.site := rfl

@[simp] theorem State.openStep_site (s : State) (t : Nat) (v : Word) : (s.openStep t v).site = s.site := by
  simp [State.openStep]

@[simp] theorem State.chkStep_site (s : State) (t : Nat) (v : Word) : (s.chkStep t v).site = s.site := by
  simp [State.chkStep]

@[simp] theorem State.reportEpoch_site (s : State) (t : Nat) (v : Word) : (s.reportEpoch t v).site = s.site := by
  unfold State.reportEpoch
  dsimp only
  split <;> simp

@[simp] theorem State.setFlag_site (s : State) (v : Word) : (s.setFlag v).site = s.site := rfl

@[simp] theorem State.tuneReport_site (s : State) (t : Nat) (v : Word) : (s.tuneReport t v).site = s.site := by
  unfold State.tuneReport
  split <;> (try split) <;> simp

@[simp] theorem State.writeReg_site (s : State) (t o : Nat) (v : Word) : (s.writeReg t o v).site = s.site := by
  simp [State.writeReg]

@[simp] theorem State.issueReg_site (s : State) (t : Nat) (i : Tis) (o : Nat) (v : Word) :
    (s.issueReg t i o v).site = s.site := by
  simp [State.issueReg]

end Sys2Proof.Machine
end

section
/-! SUPPORT. What a tile instruction leaves of the board and of module memory (R59, R87, R105). -/

open Sys2Proof Sys2Proof.Claims Sys2Proof.Machine

namespace Sys2Proof.Machine

/-! ### Units that complete when a tile stops -/

/-- What belongs to the board. -/
def State.base (s : State) : List (Nat × List Byte) × List (Nat × Nat) × Power × BootPhase × Front × List Plan × Vault
    × List Shard × List Batch :=
  (s.octets, s.spares, s.power, s.boot, s.front, s.plans, s.vault, s.shards, s.batches)

theorem State.base_of_site {s u : State} (h : s.site = u.site) : s.base = u.base := by
  simp only [State.site, State.base, Prod.mk.injEq] at h ⊢
  tauto

theorem State.mem_of_site {s u : State} (h : s.site = u.site) : s.mem = u.mem := by
  simp only [State.site, Prod.mk.injEq] at h
  tauto

theorem State.touchLine_base (s : State) (line : Nat) : (s.touchLine line).base = s.base := by
  obtain ⟨B, touched⟩ := s.touchLine_eq line
  rw [touched]
  rfl

theorem State.uncorrectable_base (s : State) (line : Nat) : (s.uncorrectable line).base = s.base := by
  refine (State.base_of_site (u := s.setPoison line true) ?_).trans rfl
  simp [State.uncorrectable]

theorem State.lineData_site (s : State) (line : Nat) : (s.lineData line).2.site = s.site := by
  unfold State.lineData
  dsimp only
  split <;> rfl

theorem State.readLine_base (s : State) (line : Nat) : (s.readLine line 0).2.base = s.base := by
  unfold State.readLine
  dsimp only
  split
  · exact (State.uncorrectable_base _ line).trans (s.touchLine_base line)
  · rw [if_pos (Nat.zero_le 2), if_pos rfl]
    exact (State.base_of_site (State.lineData_site _ line)).trans (s.touchLine_base line)

theorem State.readLines_base (n : Nat) (s : State) (line : Nat) : (s.readLines line n 0).2.base = s.base := by
  induction n generalizing s line with
  | zero => rfl
  | succ n ih =>
    unfold State.readLines
    dsimp only
    split <;> exact (ih _ (line + 1)).trans (s.readLine_base line)

theorem State.vecRetire_base (s : State) (t : Nat) (j : VecJob) (rest : List VecJob) :
    (s.vecRetire t j rest).base = s.base := by
  unfold State.vecRetire
  dsimp only
  split
  · rfl
  · split <;> rfl
  · split
    · rfl
    · exact State.base_of_site (by simp)
  · rfl

theorem State.finishVec_base (s : State) (t : Nat) (j : VecJob) (rest : List VecJob) :
    (s.finishVec t j rest).base = s.base := by
  unfold State.finishVec
  split
  · dsimp only
    split <;> exact (State.base_of_site (State.onTile_site _ t _)).trans (s.readLines_base 8 _)
  · exact s.vecRetire_base t j rest

theorem State.drainVec_base (n : Nat) (s : State) (t : Nat) : (s.drainVec t n).base = s.base := by
  induction n generalizing s with
  | zero => rfl
  | succ n ih =>
    unfold State.drainVec
    split
    · rfl
    · exact (ih _).trans (s.finishVec_base t _ _)

theorem State.stopTile_base (s : State) (t : Nat) : (s.stopTile t).base = s.base :=
  (State.base_of_site (State.reportFault_site _ t)).trans (State.drainVec_base _ _ t)

theorem Tile.drainMmb_vuq (x : Tile) : x.drainMmb.units.vuq = x.units.vuq := by
  unfold Tile.drainMmb
  refine foldl_part (fun x : Tile => x.units.vuq) (fun x j => ?_) _ x
  exact congrArg (fun p => p.1.vuq) (j.puts_frame j.places x)

/-- A tile with nothing in its vector unit stops without a word to the memory nodes. -/
theorem State.stopTile_site {s : State} {t : Nat} (empty : (s.tile t).units.vuq = []) : (s.stopTile t).site = s.site := by
  have still : ((s.onTile t Tile.drainMmb).tile t).units.vuq = [] := by
    rw [State.tile_onTile, if_pos rfl, Tile.drainMmb_vuq, empty]
  unfold State.stopTile State.drainUnits
  dsimp only
  rw [still, State.reportFault_site]
  rfl

/-! ### What an instruction does within its tile -/

/-- A tile that an instruction stopped has in its vector unit what it had. -/
def Tile.Quiet (x y : Tile) : Prop := y.core.run = .faulted → y.units.vuq = x.units.vuq

theorem Tile.quiet_of_goes {x y : Tile} (h : y.core.run ≠ .faulted) : x.Quiet y := fun stops => absurd stops h

theorem Tile.adv_run (y : Tile) (n : Nat) : (y.adv n).core.run = y.core.run := by
  unfold Tile.adv
  exact Tile.setPc_run _ _

theorem Tile.quiet_adv {x y : Tile} (h : y.core.run = .running) (n : Nat) : x.Quiet (y.adv n) := by
  refine Tile.quiet_of_goes ?_
  rw [Tile.adv_run, h]
  exact nofun

theorem Tile.quiet_fail (x : Tile) (c : FaultCode) (i : Tis) (a : Nat) : x.Quiet (x.fail c i a) := fun _ => rfl

theorem Tile.quiet_stall (x : Tile) (i : Tis) (timed : Bool) (now limit : Nat) : x.Quiet (x.stall i timed now limit) := by
  intro _
  unfold Tile.stall
  split
  · split <;> rfl
  · rfl

theorem Tile.quiet_guard {x : Tile} {i : Tis} {now limit : Nat} {v : SbVerdict} {go : Tile → Tile}
    (h : x.Quiet (go (x.setRun .running))) : x.Quiet (x.guard i now limit v go) := by
  unfold Tile.guard
  cases v with
  | go => exact h
  | unfilled l =>
    obtain ⟨w, captured⟩ := x.captureSb_eq l 0 0 false
    intro _
    dsimp only
    rw [captured]
    rfl
  | hold l pc u => exact x.quiet_stall i true now limit

theorem Tile.markLines_run (x : Tile) (v : Bool) (ls : List Nat) : (x.markLines v ls).core.run = x.core.run := by
  obtain ⟨F, marked⟩ := x.markLines_eq v ls
  rw [marked]

theorem Tile.foldSig_run (x : Tile) (bs : List Byte) : (x.foldSig bs).core.run = x.core.run := by
  unfold Tile.foldSig
  split <;> rfl

theorem Tile.foldMsg_run (x : Tile) (h : Header) (bs : List Byte) : (x.foldMsg h bs).core.run = x.core.run := by
  unfold Tile.foldMsg
  split
  · rfl
  · exact x.foldSig_run _

theorem Tile.noteOutput_run (x : Tile) (h : BitVec 6) (p : VecPlace) : (x.noteOutput h p).core.run = x.core.run := by
  unfold Tile.noteOutput
  split
  · split <;> rfl
  · rfl

theorem Tile.muTake_run (x : Tile) (pclass limit : Nat) : (x.muTake pclass limit).core.run = x.core.run :=
  congrArg Core.run (MuMoves.muTake x pclass limit).core

section
variable (c : Ctx) (x : Tile) (i : Tis)

theorem Tile.execLoad_quiet (f : LoadFn) (rd base : BitVec 5) (imm : BitVec 12) :
    x.Quiet (x.execLoad c i f rd base imm) := by
  unfold Tile.execLoad
  dsimp only
  split
  · exact x.quiet_fail _ _ _
  · split
    · split
      · exact x.quiet_fail _ _ _
      · exact Tile.quiet_guard (Tile.quiet_adv rfl 1)
    · split
      · exact x.quiet_fail _ _ _
      · exact Tile.quiet_adv rfl 1

theorem Tile.execStore_quiet (f : StoreFn) (d base : BitVec 5) (imm : BitVec 12) :
    x.Quiet (x.execStore c i f d base imm) := by
  unfold Tile.execStore
  dsimp only
  split
  · exact x.quiet_fail _ _ _
  · split
    · split
      · exact x.quiet_fail _ _ _
      · exact Tile.quiet_guard (Tile.quiet_adv (congrArg Core.run (Tile.land_frame _ _ _).1) 1)
    · exact x.quiet_fail _ _ _

theorem Tile.execHset_quiet (o : HandleOp) : x.Quiet (x.execHset c i o) := by
  unfold Tile.execHset
  dsimp only
  split
  · exact x.quiet_stall _ _ _ _
  · split
    · exact Tile.quiet_adv rfl 1
    · split
      · exact x.quiet_fail _ _ _
      · exact Tile.quiet_adv rfl 1

theorem Tile.execHswap_quiet (o : HandleOp) : x.Quiet (x.execHswap c i o) := by
  unfold Tile.execHswap
  split
  · exact x.quiet_stall _ _ _ _
  · exact Tile.quiet_adv rfl 1

theorem Tile.execHfill_quiet (o : HandleOp) : x.Quiet (x.execHfill c i o) := by
  unfold Tile.execHfill
  dsimp only
  split
  · exact x.quiet_fail _ _ _
  · split
    · exact x.quiet_fail _ _ _
    · exact Tile.quiet_guard (Tile.quiet_adv (Tile.markLines_run _ _ _) 1)

theorem Tile.execHunfill_quiet (o : HandleOp) : x.Quiet (x.execHunfill c i o) := by
  unfold Tile.execHunfill
  dsimp only
  split
  · exact x.quiet_stall _ _ _ _
  · split
    · exact x.quiet_fail _ _ _
    · exact Tile.quiet_guard (Tile.quiet_adv (Tile.markLines_run _ _ _) 1)

theorem Tile.execHinv_quiet (o : HandleOp) : x.Quiet (x.execHinv c i o) := by
  unfold Tile.execHinv
  split
  · exact x.quiet_stall _ _ _ _
  · exact Tile.quiet_adv rfl 1

theorem Tile.execRecvsel_quiet (o : RecvOp) : x.Quiet (x.execRecvsel i o) := by
  unfold Tile.execRecvsel
  dsimp only
  split
  · exact Tile.quiet_adv rfl 1
  · split
    · exact Tile.quiet_adv rfl 1
    · split
      · exact x.quiet_fail _ _ _
      · exact Tile.quiet_of_goes nofun

theorem Tile.execMmb_quiet (o : MmbOp) : x.Quiet (x.execMmb c i o) := by
  unfold Tile.execMmb
  dsimp only
  split
  · exact x.quiet_stall _ _ _ _
  · split
    · exact x.quiet_fail _ _ _
    · exact Tile.quiet_guard (Tile.quiet_adv rfl 2)

theorem Tile.execVec_quiet (f : VecFn) (o : VecOp) : x.Quiet (x.execVec c i f o) := by
  unfold Tile.execVec
  dsimp only
  split
  · exact x.quiet_stall _ _ _ _
  · split
    · split
      · exact x.quiet_fail _ _ _
      · exact Tile.quiet_guard (Tile.quiet_adv rfl 2)
      · split
        · refine Tile.quiet_adv ?_ 2
          exact (Tile.noteOutput_run ((x.setRun .running).foldSig (vstSig (x.setRun .running) o)) o.h _).trans
            (Tile.foldSig_run (x.setRun .running) _)
        · exact Tile.quiet_adv rfl 2
    · exact Tile.quiet_adv rfl 2

theorem Tile.execSend_quiet (o : SendOp) : x.Quiet (x.execSend c i o) := by
  unfold Tile.execSend
  dsimp only
  by_cases room : x.muRoom = false
  · rw [if_pos room]
    exact x.quiet_stall _ _ _ _
  rw [if_neg room]
  by_cases long : (if o.cnet then 256 else 4096) < (sendHeader c.slot x o).length
  · rw [if_pos long]
    exact x.quiet_fail _ _ _
  rw [if_neg long]
  generalize x.sendCheck o.h _ _ = check
  cases check with
  | some code => exact x.quiet_fail _ _ _
  | none =>
    refine Tile.quiet_guard ?_
    by_cases shadow : ((x.setRun .running).foldMsg (sendHeader c.slot x o) ((x.setRun .running).read
        ((x.handle o.h).base + wbits (x.reg o.rlen) 16 16 * 64) (sendHeader c.slot x o).length)).shadowing
    · rw [if_pos shadow]
      exact Tile.quiet_adv (Tile.foldMsg_run _ _ _) 1
    · rw [if_neg shadow]
      refine Tile.quiet_adv ((Tile.muTake_run _ _ _).trans ?_) 1
      split
      · exact Tile.foldMsg_run (x.setRun .running) _ _
      · exact Tile.foldMsg_run (x.setRun .running) _ _

theorem Tile.sendToken_quiet (dst : Word) (su : BitVec 2) (v : Byte) : x.Quiet (x.sendToken c i dst su v) := by
  unfold Tile.sendToken
  dsimp only
  split
  · exact x.quiet_fail _ _ _
  · split
    · exact x.quiet_stall _ _ _ _
    · split
      · exact Tile.quiet_adv rfl 1
      · exact Tile.quiet_adv (Tile.muTake_run _ _ _) 1

theorem Tile.execCsrr_quiet (rd : BitVec 5) (csr : BitVec 12) :
    x.Quiet ((x.setRun .running).execCsrr c i rd csr) := by
  unfold Tile.execCsrr
  split
  · exact fun _ => rfl
  · split
    · exact fun _ => rfl
    · exact Tile.quiet_adv rfl 1

theorem Tile.execFence_quiet (remote mem net scratch : Bool) : x.Quiet (x.execFence remote mem net scratch) := by
  unfold Tile.execFence
  split
  · exact Tile.quiet_adv rfl 1
  · exact Tile.quiet_of_goes nofun

end

theorem Tile.jump_run (y : Tile) (off : Int) : (y.jump off).core.run = y.core.run := by
  unfold Tile.jump
  exact Tile.setPc_run _ _

theorem Tile.quiet_jump {x y : Tile} (h : y.core.run = .running) (off : Int) : x.Quiet (y.jump off) := by
  refine Tile.quiet_of_goes ?_
  rw [Tile.jump_run, h]
  exact nofun

/-- An instruction that stops its tile dispatches nothing. -/
theorem Tile.local_quiet (c : Ctx) (x : Tile) (i : Tis) : x.Quiet (x.local c i) := by
  cases i with
  | load f rd base imm => exact Tile.execLoad_quiet c x _ f rd base imm
  | store f d base imm => exact Tile.execStore_quiet c x _ f d base imm
  | toki o => exact Tile.sendToken_quiet c x _ _ o.su _
  | tokr o => exact Tile.sendToken_quiet c x _ _ o.su _
  | tokl o => exact Tile.sendToken_quiet c x _ _ o.su _
  | send o => exact Tile.execSend_quiet c x _ o
  | recvsel o => exact Tile.execRecvsel_quiet x _ o
  | mmb o => exact Tile.execMmb_quiet c x _ o
  | vec f o => exact Tile.execVec_quiet c x _ f o
  | hset o => exact Tile.execHset_quiet c x _ o
  | hswap o => exact Tile.execHswap_quiet c x _ o
  | hfill o => exact Tile.execHfill_quiet c x _ o
  | hunfill o => exact Tile.execHunfill_quiet c x _ o
  | hinv o => exact Tile.execHinv_quiet c x _ o
  | fence rm m n s _ => exact Tile.execFence_quiet x rm m n s
  | csrr rd _ csr => exact Tile.execCsrr_quiet c x _ rd csr
  | branch f ra rb off =>
    change x.Quiet (if _ then _ else _)
    split
    · exact Tile.quiet_jump rfl _
    · exact Tile.quiet_adv rfl 1
  | loop lc off =>
    change x.Quiet (Tile.execLoop _ lc off)
    unfold Tile.execLoop
    extract_lets _ left
    split
    · exact Tile.quiet_adv rfl 1
    · exact Tile.quiet_jump rfl _
  | lbz lc off =>
    change x.Quiet (if _ then _ else _)
    split
    · exact Tile.quiet_jump rfl _
    · exact Tile.quiet_adv rfl 1
  | qrel o =>
    change x.Quiet (if _ then _ else _)
    split <;> exact Tile.quiet_adv rfl 1
  | jal rd off => exact Tile.quiet_jump rfl _
  | jr rd ra _ => exact Tile.quiet_of_goes (ne_of_eq_of_ne (Tile.setPc_run _ _) nofun)
  | alu f rd ra rb _ => exact Tile.quiet_adv rfl 1
  | alui f rd ra imm => exact Tile.quiet_adv rfl 1
  | lui rd _ imm => exact Tile.quiet_adv rfl 1
  | lseti lc opnd => exact Tile.quiet_adv rfl 1
  | lsetr lc q _ => exact Tile.quiet_adv rfl 1
  | linc lc imm => exact Tile.quiet_adv rfl 1
  | lget lc q _ => exact Tile.quiet_adv rfl 1
  | tstat o => exact Tile.quiet_adv rfl 1
  | hget o => exact Tile.quiet_adv rfl 1
  | bar _ _ => exact Tile.quiet_adv rfl 1
  | halt _ _ _ => exact Tile.quiet_adv rfl 1
  | csrw _ _ _ => exact Tile.quiet_adv rfl 1
  | trap _ _ _ => exact Tile.quiet_of_goes nofun

/-! ### The instruction issued -/

theorem State.settle_base (s : State) (t : Nat) : (s.settle t).base = s.base := by
  unfold State.settle
  split
  · exact s.stopTile_base t
  · rfl

theorem State.issueFault_base (s : State) (t : Nat) (c : FaultCode) (i : Tis) (a : Nat) :
    (s.issueFault t c i a).base = s.base := State.stopTile_base _ t

theorem State.issueFault_site {s : State} {t : Nat} (empty : (s.tile t).units.vuq = []) (c : FaultCode) (i : Tis) (a : Nat) :
    (s.issueFault t c i a).site = s.site := by
  refine (State.stopTile_site ?_).trans (State.onTile_site _ _ _)
  rw [State.tile_onTile, if_pos rfl]
  exact empty

theorem State.issueLocal_base (s : State) (t : Nat) (i : Tis) : (s.issueLocal t i).base = s.base :=
  (State.settle_base _ t).trans (State.base_of_site (State.countNoTarget_site _ _ _))

theorem State.issueLocal_site {s : State} {t : Nat} (empty : (s.tile t).units.vuq = []) (i : Tis) :
    (s.issueLocal t i).site = s.site := by
  have counted (u : State) (x y : Tile) (t : Nat) : (u.countNoTarget x y).tile t = u.tile t := by
    unfold State.countNoTarget
    split <;> rfl
  unfold State.issueLocal State.settle
  dsimp only
  split
  · next stops =>
    rw [counted, State.tile_setTile, if_pos rfl] at stops
    refine (State.stopTile_site ?_).trans (State.countNoTarget_site _ _ _)
    rw [counted, State.tile_setTile, if_pos rfl]
    exact (Tile.local_quiet _ _ i stops).trans empty
  · exact State.countNoTarget_site _ _ _

theorem State.issueNow_base (s : State) (t : Nat) (i : Tis) : (s.issueNow t i).base = s.base := by
  unfold State.issueNow
  dsimp only
  split
  · exact s.issueFault_base t _ i _
  · split
    · rfl
    · split
      · exact State.base_of_site (State.issueReg_site s t i _ _)
      · split
        · exact State.base_of_site (State.barIssue_site s t _)
        · exact State.base_of_site (State.haltStage_site s t)
        · exact s.issueFault_base t _ _ _
        · exact s.issueFault_base t _ _ _
        · exact s.issueLocal_base t _

theorem State.issueNow_site {s : State} {t : Nat} (empty : (s.tile t).units.vuq = []) (i : Tis) :
    (s.issueNow t i).site = s.site := by
  unfold State.issueNow
  dsimp only
  split
  · exact State.issueFault_site empty _ i _
  · split
    · rfl
    · split
      · exact State.issueReg_site s t i _ _
      · split
        · exact State.barIssue_site s t _
        · exact State.haltStage_site s t
        · exact State.issueFault_site empty _ _ _
        · exact State.issueFault_site empty _ _ _
        · exact State.issueLocal_site empty _

theorem State.issue_base (s : State) (t : Nat) (i : Tis) : (s.issue t i).base = s.base := by
  unfold State.issue
  split
  · exact s.issueNow_base t i
  · rfl

theorem State.issue_site {s : State} {t : Nat} (empty : (s.tile t).units.vuq = []) (i : Tis) :
    (s.issue t i).site = s.site := by
  unfold State.issue
  split
  · exact State.issueNow_site empty i
  · rfl

end Sys2Proof.Machine

/-- Settles O5: an instruction of a tile is `State.issue`, whose operations leave the board, the memory cells and what is
pending; the memory nodes hear only of vector work that a tile which stops completes. -/
theorem instructionFrame : Obligations.InstructionFrame := by
  unfold Obligations.InstructionFrame
  intro c s s' t i here step
  rw [exec_instruction here s] at step
  obtain rfl := Host.Outcome.next.inj step
  have kept := State.issue_kept s t.val i
  have base := State.issue_base s t.val i
  simp only [State.kept, Prod.mk.injEq] at kept
  simp only [State.base, Prod.mk.injEq] at base
  obtain ⟨pending, cells, clock⟩ := kept
  refine ⟨⟨clock, base⟩, fun a => congrArg (fun cs => look memDflt cs a) cells, fun empty => ?_, pending⟩
  exact State.mem_of_site (State.issue_site empty i)
end

section
/-! SUPPORT. Steps 3 to 5 of R127 for bytes of one scratchpad line: which entry of the scoreboard holds them, if any. -/

open Sys2Proof Sys2Proof.Claims Sys2Proof.Machine

namespace Sys2Proof.Machine

/-! ### Bytes of one line -/

theorem last_div_of_line {a n : Nat} (some_ : 0 < n) (line : a % 64 + n ≤ 64) : (a + n - 1) / 64 = a / 64 := by omega

theorem rangeLines_line {a n : Nat} (some_ : 0 < n) (line : a % 64 + n ≤ 64) : rangeLines [(a, n)] = [a / 64] := by
  simp [rangeLines, linesOf, lineOf, last_div_of_line some_ line, some_.ne']

theorem spanOf_single {a n : Nat} (some_ : 0 < n) : spanOf [(a, n)] = some (a / 64, (a + n - 1) / 64) := if_neg some_.ne'

theorem spanOf_line {a n : Nat} (some_ : 0 < n) (line : a % 64 + n ≤ 64) : spanOf [(a, n)] = some (a / 64, a / 64) := by
  rw [spanOf_single some_, last_div_of_line some_ line]

/-! ### The entry that holds an access -/

/-- An entry covers a line. -/
def SbEntry.covers (e : SbEntry) (l : Nat) : Bool := decide (e.first ≤ l) && decide (l ≤ e.last)

theorem SbEntry.covers_iff {e : SbEntry} {l : Nat} : e.covers l = true ↔ e.first ≤ l ∧ l ≤ e.last := by
  simp [SbEntry.covers]

theorem Tile.produced_iff {x : Tile} {l : Nat} :
    x.produced l = true ↔ ∃ p ∈ x.pad.sb, (p.2.producer && p.2.covers l) = true := by
  simp [Tile.produced, SbEntry.covers, and_assoc]

/-- An entry of no standing producer meets a line that the access reads or writes where it covers it; of the lines read, a
consumer meets none. -/
theorem SbEntry.meets_line {e : SbEntry} {l : Nat} {rs ws : List (Nat × Nat)} (other : e.unit ≠ 3) (holds : Bool)
    (spans : (if e.producer then rs else []) ++ ws = if holds then [(l, l)] else []) :
    e.meets rs ws = if holds && e.covers l then some l else none := by
  unfold SbEntry.meets
  rw [if_neg other, spans]
  cases holds with
  | false => rfl
  | true =>
    have meet : overlap (l, l) (e.first, e.last) = e.covers l := by
      rw [Bool.eq_iff_iff, SbEntry.covers_iff]
      simp only [overlap, Bool.and_eq_true, decide_eq_true_eq]
      omega
    cases covers : e.covers l with
    | false => simp [meet, covers]
    | true => simp [meet, covers, (SbEntry.covers_iff.1 covers).1]

theorem findSome?_meets {sb : List (Nat × SbEntry)} {l : Nat} {rs ws : List (Nat × Nat)} {holds : Nat × SbEntry → Bool}
    (h : ∀ p ∈ sb, p.2.meets rs ws = if holds p then some l else none) :
    (sb.findSome? fun p => (p.2.meets rs ws).map fun l => (l, p.2)) = (sb.find? holds).map fun p => (l, p.2) := by
  induction sb with
  | nil => rfl
  | cons p sb ih =>
    have rest := ih fun q hq => h q (List.mem_cons_of_mem _ hq)
    rw [List.findSome?_cons, List.find?_cons, h p List.mem_cons_self, rest]
    cases holds p <;> rfl

/-- What the first entry that holds an access to line `l` makes of it. -/
def SbVerdict.of (l : Nat) : Option (Nat × SbEntry) → SbVerdict
  | some p => .hold l p.2.pc p.2.unit
  | none => .go

theorem SbVerdict.of_eq_go {l : Nat} {p : Option (Nat × SbEntry)} : SbVerdict.of l p = .go ↔ p = none := by
  cases p <;> simp [SbVerdict.of]

theorem SbVerdict.of_eq_hold {l : Nat} {p : Option (Nat × SbEntry)} :
    (∃ pc u, SbVerdict.of l p = .hold l pc u) ↔ p.isSome = true := by
  cases p <;> simp [SbVerdict.of]

theorem SbVerdict.of_ne_unfilled {l k : Nat} {p : Option (Nat × SbEntry)} : SbVerdict.of l p ≠ .unfilled k := by
  cases p <;> nofun

/-! ### The verdict on one access -/

section
variable {x : Tile} {a n : Nat} (some_ : 0 < n) (line : a % 64 + n ≤ 64) (landless : ∀ p ∈ x.pad.sb, p.2.unit ≠ 3)
  (fits : x.pad.sb.length ≤ 32)
include some_ line landless fits

/-- The first entry that covers the line of a write holds it. -/
theorem Tile.sbCheck_writeLine :
    x.sbCheck [] [[(a, n)]] 0 = .of (a / 64) (x.pad.sb.find? fun p => p.2.covers (a / 64)) := by
  have held := findSome?_meets (sb := x.pad.sb) (l := a / 64) (rs := []) (ws := [(a / 64, a / 64)])
    (holds := fun p => p.2.covers (a / 64)) fun p hp => SbEntry.meets_line (landless p hp) true (by simp)
  unfold Tile.sbCheck
  simp only [List.filterMap_cons, List.filterMap_nil, spanOf_line some_ line, held]
  cases x.pad.sb.find? fun p => p.2.covers (a / 64) with
  | some p => rfl
  | none => exact if_pos fits

/-- A read of an unfilled line that nobody produces stops; the first producer that covers its line holds any other. -/
theorem Tile.sbCheck_readLine (windowless : x.pad.winslots = []) :
    x.sbCheck [[(a, n)]] [] 0
      = if x.filled (a / 64) = false ∧ x.produced (a / 64) = false then .unfilled (a / 64)
        else .of (a / 64) (x.pad.sb.find? fun p => p.2.producer && p.2.covers (a / 64)) := by
  have held := findSome?_meets (sb := x.pad.sb) (l := a / 64) (rs := [(a / 64, a / 64)]) (ws := [])
    (holds := fun p => p.2.producer && p.2.covers (a / 64)) fun p hp =>
      SbEntry.meets_line (landless p hp) p.2.producer (List.append_nil _)
  have noWindow : x.inWindow (a / 64) = false := by simp [Tile.inWindow, windowless]
  have produced : x.produced (a / 64) = (x.pad.sb.find? fun p => p.2.producer && p.2.covers (a / 64)).isSome := by
    rw [Bool.eq_iff_iff, Tile.produced_iff, List.find?_isSome]
  unfold Tile.sbCheck
  simp only [List.flatten_cons, List.flatten_nil, List.append_nil, rangeLines_line some_ line, List.filterMap_cons,
    List.filterMap_nil, spanOf_line some_ line, held, List.find?_cons, List.find?_nil, noWindow, produced]
  cases x.pad.sb.find? fun p => p.2.producer && p.2.covers (a / 64) with
  | some p => simp [SbVerdict.of]
  | none =>
    cases x.filled (a / 64) with
    | false => rfl
    | true => exact if_pos fits

end

end Sys2Proof.Machine

/-- Settles O1: the verdict is that of the first entry that covers the line and holds the access, if there is one. -/
theorem scoreboardGate : Obligations.ScoreboardGate := by
  unfold Obligations.ScoreboardGate
  intro x a n some_ line windowless landless fits l covers
  have producing : (∃ p ∈ x.pad.sb, covers p ∧ p.2.producer = true) ↔ x.produced l = true := by
    simp only [Tile.produced_iff, Bool.and_eq_true, SbEntry.covers_iff, and_comm]
    rfl
  have idle : (∀ p ∈ x.pad.sb, ¬ (covers p ∧ p.2.producer = true)) ↔ x.produced l = false := by
    rw [← Bool.not_eq_true, ← producing]
    push Not
    rfl
  have holder : (x.pad.sb.find? fun p => p.2.producer && p.2.covers l).isSome = x.produced l := by
    rw [Bool.eq_iff_iff, Tile.produced_iff, List.find?_isSome]
  have writer : (x.pad.sb.find? fun p => p.2.covers l).isSome = true ↔ ∃ p ∈ x.pad.sb, covers p := by
    simp only [List.find?_isSome, SbEntry.covers_iff]
    rfl
  have free : (x.pad.sb.find? fun p => p.2.covers l) = none ↔ ∀ p ∈ x.pad.sb, ¬ covers p := by
    rw [← Option.not_isSome_iff_eq_none, writer]
    push Not
    rfl
  rw [Tile.sbCheck_writeLine some_ line landless fits, SbVerdict.of_eq_hold, SbVerdict.of_eq_go, writer, free, producing, idle,
    Tile.sbCheck_readLine some_ line landless fits windowless]
  refine ⟨?_, ?_, ?_, Iff.rfl, Iff.rfl⟩
  · exact ⟨fun stops => if_pos stops, fun verdict => by_contra fun goes =>
      SbVerdict.of_ne_unfilled ((if_neg goes).symm.trans verdict)⟩
  · by_cases stops : x.filled l = false ∧ x.produced l = false
    · rw [if_pos stops, stops.2]
      simp
    · rw [if_neg stops, SbVerdict.of_eq_hold, holder]
  · by_cases stops : x.filled l = false ∧ x.produced l = false
    · rw [if_pos stops, stops.1]
      simp
    · rw [if_neg stops, SbVerdict.of_eq_go, ← Option.not_isSome_iff_eq_none, holder, Bool.not_eq_true]
      exact ⟨And.right, fun idle => ⟨by simpa [idle] using stops, idle⟩⟩
end

section
/-! SUPPORT. The checks of HSET (R120, R261) and the holes of the scratchpad (R115, R116), byte by byte. -/

open Sys2Proof Sys2Proof.Claims Sys2Proof.Machine

namespace Sys2Proof.Machine

/-! ### Holes -/

theorem halfUsable_eq_false {ok : BitVec 24} {g lo : Nat} :
    halfUsable ok g lo = false ↔ ∃ b, b < 4 ∧ ok.getLsbD (8 * g + lo + b) = false := by
  rw [← Bool.not_eq_true]
  constructor
  · intro bad
    by_contra good
    push Not at good
    simp only [ne_eq, Bool.not_eq_false] at good
    refine bad ?_
    unfold halfUsable bankUsable
    rw [good 1 (by decide), good 2 (by decide), good 3 (by decide), show ok.getLsbD (8 * g + lo) = true from good 0 (by decide)]
    rfl
  · rintro ⟨b, small, lost⟩ usable
    simp only [halfUsable, bankUsable, Bool.and_eq_true] at usable
    obtain ⟨⟨⟨b0, b1⟩, b2⟩, b3⟩ := usable
    interval_cases b <;> simp_all

/-- The map leaves an address of the scratchpad out just where it is a hole. -/
theorem hole_iff {ok : BitVec 24} {a : Nat} : Hole ok a ↔ a < 0x300000 ∧ padMapped ok a = false := by
  unfold Hole
  refine and_congr_right fun low => ?_
  have upper : bit a 19 = true ↔ a / 0x80000 % 2 = 1 := beq_iff_eq
  have first := halfUsable_eq_false (ok := ok) (g := a / 0x100000) (lo := 0)
  have second := halfUsable_eq_false (ok := ok) (g := a / 0x100000) (lo := 4)
  simp only [Nat.add_zero] at first
  dsimp only
  rw [← first, ← second, ← upper]
  unfold padMapped
  dsimp only
  rw [if_neg (not_le.2 low), show a / 2 ^ 20 = a / 0x100000 from rfl]
  cases halfUsable ok (a / 0x100000) 0 <;> cases halfUsable ok (a / 0x100000) 4 <;> simp

/-- The map goes by granules of 512 KiB. -/
theorem padMapped_granule {ok : BitVec 24} {a b : Nat} (same : a / 0x80000 = b / 0x80000) : padMapped ok a = padMapped ok b := by
  have high : 0x300000 ≤ a ↔ 0x300000 ≤ b := by omega
  have group : a / 2 ^ 20 = b / 2 ^ 20 := by omega
  have half : bit a 19 = bit b 19 := congrArg (fun q => q % 2 == 1) same
  unfold padMapped
  simp only [high, group, half]

theorem rangeMapped_iff {ok : BitVec 24} {a n : Nat} :
    rangeMapped ok a n = true ↔ ∀ y, a ≤ y → y < a + n → padMapped ok y = true := by
  simp only [rangeMapped, Bool.or_eq_true, Bool.and_eq_true, decide_eq_true_eq, List.all_eq_true, List.mem_range]
  constructor
  · rintro (empty | ⟨inside, granules⟩) y low high
    · omega
    · rcases granules (y / 0x80000) (by omega) with apart | mapped
      · omega
      · exact (padMapped_granule (by omega)).trans mapped
  · intro mapped
    by_cases empty : n = 0
    · exact .inl empty
    · refine .inr ⟨?_, fun h _ => ?_⟩
      · by_contra beyond
        have last := mapped (a + n - 1) (by omega) (by omega)
        rw [padMapped, if_pos (by omega)] at last
        cases last
      · by_cases apart : a + n ≤ h * 0x80000 ∨ h * 0x80000 + 0x80000 ≤ a
        · exact .inl apart
        · exact .inr ((padMapped_granule (by omega)).trans (mapped (max a (h * 0x80000)) (by omega) (by omega)))

/-! ### Granted memory -/

/-- A byte lies in one of some ranges granted. -/
def Granted (gs : List (Nat × Nat)) (y : Nat) : Prop := ∃ g ∈ gs, g.1 ≤ y ∧ y < g.1 + g.2

/-- What following the ranges granted from `c` reaches: no less, the end of a range where it moves, and bytes granted all the
way. -/
theorem grantEnd_spec (gs : List (Nat × Nat)) (c : Nat) :
    (grantEnd gs c = c ∧ ¬ Granted gs c ∨ c < grantEnd gs c ∧ ∃ g ∈ gs, grantEnd gs c = g.1 + g.2)
      ∧ ∀ y, c ≤ y → y < grantEnd gs c → Granted gs y := by
  induction gs generalizing c with
  | nil => exact ⟨.inl ⟨rfl, nofun⟩, fun y low high => absurd high (not_lt.2 low)⟩
  | cons g gs ih =>
    have wider : ∀ y, Granted gs y → Granted (g :: gs) y := fun y ⟨k, mem, within⟩ => ⟨k, List.mem_cons_of_mem _ mem, within⟩
    by_cases inside : g.1 ≤ c ∧ c < g.1 + g.2
    · have moved : grantEnd (g :: gs) c = grantEnd gs (g.1 + g.2) := congrArg (grantEnd gs) (if_pos inside)
      obtain ⟨ends, bytes⟩ := ih (g.1 + g.2)
      rw [moved]
      refine ⟨.inr ?_, fun y low high => ?_⟩
      · rcases ends with ⟨stays, -⟩ | ⟨on, k, mem, last⟩
        · exact ⟨by omega, g, List.mem_cons_self, stays⟩
        · exact ⟨by omega, k, List.mem_cons_of_mem _ mem, last⟩
      · by_cases here_ : y < g.1 + g.2
        · exact ⟨g, List.mem_cons_self, by omega, here_⟩
        · exact wider y (bytes y (by omega) high)
    · have still : grantEnd (g :: gs) c = grantEnd gs c := congrArg (grantEnd gs) (if_neg inside)
      obtain ⟨ends, bytes⟩ := ih c
      rw [still]
      refine ⟨ends.imp (fun ⟨stays, out⟩ => ⟨stays, ?_⟩) fun ⟨on, k, mem, last⟩ => ⟨on, k, List.mem_cons_of_mem _ mem, last⟩,
        fun y low high => wider y (bytes y low high)⟩
      rintro ⟨k, mem, within⟩
      rcases List.mem_cons.1 mem with rfl | mem
      · exact inside within
      · exact out ⟨k, mem, within⟩

theorem grantEnd_le (gs : List (Nat × Nat)) (c : Nat) : c ≤ grantEnd gs c := by
  rcases (grantEnd_spec gs c).1 with ⟨stays, -⟩ | ⟨on, -⟩
  · exact stays.ge
  · exact on.le

/-- The ranges granted that end beyond `c`. -/
def grantsLeft (gs : List (Nat × Nat)) (c : Nat) : Nat := gs.countP fun g => c < g.1 + g.2

theorem grantsLeft_lt {gs : List (Nat × Nat)} {c : Nat} (moves : c < grantEnd gs c) :
    grantsLeft gs (grantEnd gs c) < grantsLeft gs c := by
  rcases (grantEnd_spec gs c).1 with ⟨stays, -⟩ | ⟨-, g, mem, last⟩
  · omega
  · unfold grantsLeft
    generalize grantEnd gs c = d at moves last ⊢
    have fewer : ∀ l : List (Nat × Nat), (l.countP fun k => d < k.1 + k.2) ≤ l.countP fun k => c < k.1 + k.2 := fun l =>
      List.countP_mono_left fun k _ beyond => by simp only [decide_eq_true_eq] at beyond ⊢; omega
    obtain ⟨l, r, rfl⟩ := List.append_of_mem mem
    have left := fewer l
    have right := fewer r
    rw [List.countP_append, List.countP_append, List.countP_cons_of_neg (by simp [last]),
      List.countP_cons_of_pos (by simp only [decide_eq_true_eq]; omega)]
    omega

/-- After as many passes as ranges end beyond `c`, nothing granted follows. -/
theorem iterate_grantEnd_fixed {gs : List (Nat × Nat)} {n c : Nat} (few : grantsLeft gs c ≤ n) :
    grantEnd gs ((grantEnd gs)^[n] c) = (grantEnd gs)^[n] c := by
  induction n generalizing c with
  | zero =>
    by_contra moves
    have := grantsLeft_lt (lt_of_le_of_ne (grantEnd_le gs c) (Ne.symm moves))
    omega
  | succ n ih =>
    rcases (grantEnd_le gs c).eq_or_lt with stays | moves
    · rw [Function.iterate_fixed stays.symm, ← stays]
    · exact ih (by have := grantsLeft_lt moves; omega)

theorem iterate_grantEnd_granted {gs : List (Nat × Nat)} {n c y : Nat} (low : c ≤ y) (high : y < (grantEnd gs)^[n] c) :
    Granted gs y := by
  induction n generalizing c with
  | zero => exact absurd high (not_lt.2 low)
  | succ n ih =>
    by_cases first : y < grantEnd gs c
    · exact (grantEnd_spec gs c).2 y low first
    · exact ih (not_lt.1 first) high

theorem le_iterate_grantEnd (gs : List (Nat × Nat)) (n c : Nat) : c ≤ (grantEnd gs)^[n] c :=
  Function.id_le_iterate_of_id_le (grantEnd_le gs) n c

/-- Following the ranges granted holds a range just where each of its bytes is granted. -/
theorem grantsHold_iff {gs : List (Nat × Nat)} {lo hi : Nat} :
    grantsHold gs lo hi = true ↔ ∀ y, lo ≤ y → y < hi → Granted gs y := by
  rw [grantsHold, decide_eq_true_eq, List.foldl_const, List.length_range]
  refine ⟨fun reach y low high => iterate_grantEnd_granted low (high.trans_le reach), fun all => ?_⟩
  by_contra short
  have fixed := iterate_grantEnd_fixed (gs := gs) (c := lo) (n := gs.length) List.countP_le_length
  have next := all _ (le_iterate_grantEnd gs gs.length lo) (not_le.1 short)
  rcases (grantEnd_spec gs ((grantEnd gs)^[gs.length] lo)).1 with ⟨-, out⟩ | ⟨moves, -⟩
  · exact out next
  · omega

/-! ### The checks in order -/

theorem Handle.kind_eq (e : Handle) : e.kind = e.w0.toNat % 4 := by
  simp [Handle.kind, wbits, bits]

theorem Handle.reserved_eq (e : Handle) : wbits e.w0 4 12 = e.w0.toNat / 16 % 4096 := rfl

theorem Handle.perm_eq (e : Handle) : e.perm = e.w0.toNat / 4 % 4 := rfl

theorem Handle.endpoint_eq (e : Handle) : e.endpoint = e.w0.toNat / 65536 :=
  Nat.mod_eq_of_lt (by have := e.w0.isLt; omega)

/-- Fields of an entry that R120 refuses with HANDLE_KIND. -/
def Handle.badFields (e : Handle) : Prop :=
  e.w0.toNat / 16 % 4096 ≠ 0 ∨ e.w0.toNat / 4 % 4 = 3 ∨ ((e.w0.toNat % 4 = 1 ∨ e.w0.toNat % 4 = 2) ∧ e.w0.toNat / 65536 ≠ 0)
    ∨ (e.w0.toNat % 4 = 3 ∧ (e.w0.toNat / 65536 = 0 ∨ 4096 < e.w0.toNat / 65536))

theorem Handle.not_badFields_of_pad {e : Handle} (pad : e.w0.toNat % 4 = 1) (perm : e.w0.toNat / 4 % 4 ≠ 3)
    (high : e.w0.toNat / 16 = 0) : ¬ e.badFields := by
  unfold Handle.badFields
  omega

/-- Bytes of an entry that are a hole of the scratchpad, or memory not granted (R116, R120). -/
def Handle.reachesOut (ok : BitVec 24) (gs : List (Nat × Nat)) (e : Handle) : Prop :=
  (e.w0.toNat % 4 = 1 ∧ ∃ a, e.w1.toNat ≤ a ∧ a < e.w1.toNat + e.w2.toNat ∧ padMapped ok a = false)
    ∨ (e.w0.toNat % 4 = 2 ∧ ∃ a, e.w1.toNat * 256 ≤ a ∧ a < (e.w1.toNat + e.w2.toNat) * 256
        ∧ ∀ g ∈ gs, ¬ (g.1 ≤ a ∧ a < g.1 + g.2))

theorem hsetCheck_eq (ok : BitVec 24) (gs : List (Nat × Nat)) (e : Handle) [Decidable e.badFields]
    [Decidable (e.reachesOut ok gs)] : hsetCheck ok gs e
    = if e.badFields then some .handleKind
      else if e.w0.toNat % 4 = 1 ∧ e.w1.toNat % 64 ≠ 0 then some .alignFault
      else if e.reachesOut ok gs then some .handleRange else none := by
  have pad : rangeMapped ok e.base e.size = false
      ↔ ∃ a, e.w1.toNat ≤ a ∧ a < e.w1.toNat + e.w2.toNat ∧ padMapped ok a = false := by
    rw [← Bool.not_eq_true, rangeMapped_iff]
    push Not
    simp only [ne_eq, Bool.not_eq_true]
    rfl
  have memory : grantsHold gs (e.base * 256) (e.base * 256 + e.size * 256) = false
      ↔ ∃ a, e.w1.toNat * 256 ≤ a ∧ a < (e.w1.toNat + e.w2.toNat) * 256 ∧ ∀ g ∈ gs, ¬ (g.1 ≤ a ∧ a < g.1 + g.2) := by
    rw [← Nat.add_mul, ← Bool.not_eq_true, grantsHold_iff]
    simp only [Granted]
    push Not
    rfl
  have fields : (wbits e.w0 4 12 ≠ 0 ∨ e.perm = 3 ∨ ((e.kind = 1 ∨ e.kind = 2) ∧ e.endpoint ≠ 0)
      ∨ (e.kind = 3 ∧ (e.endpoint = 0 ∨ 4096 < e.endpoint))) ↔ e.badFields := by
    rw [Handle.reserved_eq, Handle.perm_eq, Handle.kind_eq, Handle.endpoint_eq]
    rfl
  have line : (e.kind = 1 ∧ e.base % 64 ≠ 0) ↔ e.w0.toNat % 4 = 1 ∧ e.w1.toNat % 64 ≠ 0 := by
    rw [Handle.kind_eq]
    rfl
  have out : ((e.kind = 1 ∧ rangeMapped ok e.base e.size = false)
      ∨ (e.kind = 2 ∧ grantsHold gs (e.base * 256) (e.base * 256 + e.size * 256) = false)) ↔ e.reachesOut ok gs := by
    rw [Handle.kind_eq, pad, memory]
    rfl
  exact if_congr fields rfl (if_congr line rfl ((ite_or _ _ _ _).symm.trans (if_congr out rfl rfl)))

section
variable {x : Ctx} {t : Tile} {i : Tis} {o : HandleOp} (free : t.handleBusy o.h = false)
include free

theorem Tile.execHset_invalid (invalid : (t.hsetEntry o).kind = 0) :
    t.execHset x i o = ((t.invalidate o.h).setRun .running).adv 1 :=
  (if_neg (ne_true_of_eq_false free)).trans (if_pos invalid)

theorem Tile.execHset_refused {c : FaultCode} (valid : (t.hsetEntry o).kind ≠ 0)
    (check : hsetCheck t.pad.bankOk (if 62 ≤ o.h.toNat then x.grants ++ x.ckpt else x.grants) (t.hsetEntry o) = some c) :
    t.execHset x i o = t.fail c i 0 := by
  unfold Tile.execHset
  rw [if_neg (ne_true_of_eq_false free)]
  dsimp only
  rw [if_neg valid, check]

theorem Tile.execHset_written (valid : (t.hsetEntry o).kind ≠ 0)
    (check : hsetCheck t.pad.bankOk (if 62 ≤ o.h.toNat then x.grants ++ x.ckpt else x.grants) (t.hsetEntry o) = none) :
    t.execHset x i o = ((t.setHandle o.h (t.hsetEntry o)).setRun .running).adv 1 := by
  unfold Tile.execHset
  rw [if_neg (ne_true_of_eq_false free)]
  dsimp only
  rw [if_neg valid, check]

end

theorem hset_legal {h h2 : BitVec 6} {ra rb : BitVec 5} (triple : ra.toNat ≤ 29) : (Tis.hset (handleOp h h2 ra rb)).legal = true := by
  simp [Tis.legal, handleOp, triple]

section
variable {s : State} {t : Slot} {h h2 : BitVec 6} {ra rb : BitVec 5} (on : Issues s t) (triple : ra.toNat ≤ 29)
  (usable : Usable s t [ra, ra + 1, ra + 2])
include on triple usable

/-- An HSET whose entry fails a check faults with it. -/
theorem faults_of_hset {c : FaultCode}
    (done : (s.tile t.val).execHset (s.ctx t.val) (.hset (handleOp h h2 ra rb)) (handleOp h h2 ra rb)
      = (s.tile t.val).fail c (.hset (handleOp h h2 ra rb)) 0) :
    Faults (.hset t (handleOp h h2 ra rb)) s t c (.hset (handleOp h h2 ra rb)) 0 :=
  faults_of_local rfl on rfl (hset_legal triple) (show Usable s t (regRun ra.toNat 3) by rwa [regRun_three]) done

/-- One that sets its handle goes on past it. -/
theorem leaves_of_hset {e : Handle}
    (done : (s.tile t.val).execHset (s.ctx t.val) (.hset (handleOp h h2 ra rb)) (handleOp h h2 ra rb)
      = (((s.tile t.val).setHandle h e).setRun .running).adv 1) :
    Leaves (.hset t (handleOp h h2 ra rb)) s t (withHandle s t h e) := by
  rw [Tile.setRun_running (x := (s.tile t.val).setHandle h e) on.2] at done
  exact leaves_on_of_local rfl on rfl (hset_legal triple) (show Usable s t (regRun ra.toNat 3) by rwa [regRun_three]) done on.2
    rfl (Nat.le_refl _)

end

end Sys2Proof.Machine

/-- Settles O2: `hsetCheck` byte by byte is the checks of R120 in order. -/
theorem handleSetChecks : Obligations.HandleSetChecks := by
  unfold Obligations.HandleSetChecks
  intro s t h h2 ra rb on triple usable free x e o kind perm ep b n gs fields hole
  have some_ : kind ≠ 0 → e.kind ≠ 0 := fun valid => (Handle.kind_eq e).trans_ne valid
  classical
  have check := hsetCheck_eq x.pad.bankOk gs e
  have refused : ∀ {c}, kind ≠ 0 → hsetCheck x.pad.bankOk gs e = some c → Faults (.hset t o) s t c (.hset o) 0 :=
    fun valid bad => faults_of_hset on triple usable
      (Tile.execHset_refused (x := s.ctx t.val) (o := handleOp h h2 ra rb) free (some_ valid) bad)
  refine ⟨?_, ?_, ?_, ?_, ?_, fun c k => rfl⟩
  · intro invalid
    exact leaves_of_hset on triple usable (Tile.execHset_invalid free ((Handle.kind_eq e).trans invalid))
  · intro valid bad
    exact refused valid (check.trans (if_pos bad))
  · intro valid good pad off
    exact refused valid (check.trans ((if_neg good).trans (if_pos ⟨pad, off⟩)))
  · intro valid good line out
    exact refused valid (check.trans ((if_neg good).trans ((if_neg line).trans (if_pos out))))
  · intro valid good line inside
    exact leaves_of_hset on triple usable
      (Tile.execHset_written free (some_ valid) (check.trans ((if_neg good).trans ((if_neg line).trans (if_neg inside)))))

/-- Settles O31: a hole is what the map leaves out of the scratchpad. -/
theorem holes : Obligations.Holes := by
  unfold Obligations.Holes
  intro s t r base imm on x a
  obtain ⟨loadFaults, storeFaults⟩ := accessFaults s t r base imm on
  refine ⟨fun usable hole p hp aligned => ?_, fun usable hole p hp aligned => ?_, fun h h2 ra rb triple usable free => ?_⟩
  · obtain ⟨low, unmapped⟩ := hole_iff.1 hole
    exact (loadFaults usable p hp).2 aligned (fun _ => unmapped) fun high => absurd low (not_lt.2 high)
  · obtain ⟨low, unmapped⟩ := hole_iff.1 hole
    exact (storeFaults usable p hp).2 aligned (fun _ => .inl unmapped) fun high => absurd low (by omega)
  · intro w b n pad perm high line ⟨l, first, last, hole⟩
    obtain ⟨-, -, -, range, -, -⟩ := handleSetChecks s t h h2 ra rb on triple usable free
    exact range (ne_of_eq_of_ne pad nofun) (Handle.not_badFields_of_pad pad perm high) (fun bad => bad.2 line)
      (.inl ⟨pad, l, first, last, (hole_iff.1 hole).2⟩)
end

section
/-! SUPPORT. The integer functions and the moves of the vector unit, lane by lane (R594, R596, R598). -/

open Sys2Proof Sys2Proof.Claims Sys2Proof.Machine

namespace Sys2Proof.Machine

/-! ### Lanes -/

theorem lane_eq_toNat (v : Vec) (i : Nat) : lane 32 v i = (lane32 v i).toNat := by
  rw [lane32, BitVec.extractLsb'_toNat, Nat.shiftRight_eq_div_pow]
  rfl

/-- The number whose digits of `w` bits are the lanes of a list, lowest first. -/
def lanesNat (w : Nat) (l : List Nat) : Nat := l.foldr (fun x acc => x % 2 ^ w + 2 ^ w * acc) 0

theorem packLanes_eq (w : Nat) (l : List Nat) : packLanes w l = BitVec.ofNat 4096 (lanesNat w l) := rfl

theorem lanesNat_cons (w x : Nat) (l : List Nat) : lanesNat w (x :: l) = x % 2 ^ w + 2 ^ w * lanesNat w l := rfl

theorem lanesNat_lt (w : Nat) (l : List Nat) : lanesNat w l < 2 ^ (w * l.length) := by
  induction l with
  | nil => exact Nat.one_pos
  | cons x l ih =>
    have digit : x % 2 ^ w < 2 ^ w := Nat.mod_lt _ (Nat.two_pow_pos w)
    calc lanesNat w (x :: l) < 2 ^ w * (lanesNat w l + 1) := by rw [lanesNat_cons, Nat.mul_succ]; omega
      _ ≤ 2 ^ w * 2 ^ (w * l.length) := Nat.mul_le_mul_left _ ih
      _ = 2 ^ (w * (x :: l).length) := by rw [← pow_add, List.length_cons, Nat.mul_succ, Nat.add_comm]

theorem lanesNat_digit (w : Nat) (l : List Nat) (i : Nat) : lanesNat w l / 2 ^ (w * i) % 2 ^ w = l.getD i 0 % 2 ^ w := by
  have pos := Nat.two_pow_pos w
  induction l generalizing i with
  | nil => simp [lanesNat]
  | cons x l ih =>
    rw [lanesNat_cons]
    cases i with
    | zero => simp
    | succ i =>
      rw [List.getD_cons_succ, ← ih i, Nat.mul_succ, Nat.add_comm (w * i), pow_add, ← Nat.div_div_eq_div_mul,
        Nat.add_mul_div_left _ _ pos, Nat.div_eq_of_lt (Nat.mod_lt _ pos), Nat.zero_add]

theorem toNat_ofNat_lanesNat {w n : Nat} {l : List Nat} (fits : w * l.length ≤ n) :
    (BitVec.ofNat n (lanesNat w l)).toNat = lanesNat w l := by
  rw [BitVec.toNat_ofNat, Nat.mod_eq_of_lt ((lanesNat_lt w l).trans_le (Nat.pow_le_pow_right Nat.two_pos fits))]

theorem packLanes_toNat {w : Nat} {l : List Nat} (fits : w * l.length ≤ 4096) : (packLanes w l).toNat = lanesNat w l :=
  toNat_ofNat_lanesNat fits

/-- Each lane of a register made of 128 lanes. -/
theorem lane32_packLanes (f : Nat → Nat) {i : Nat} (hi : i < 128) :
    lane32 (packLanes 32 ((List.range 128).map f)) i = BitVec.ofNat 32 (f i) := by
  have value : (List.range 128 |>.map f).getD i 0 = f i := by simp [hi]
  rw [← BitVec.toNat_inj, ← lane_eq_toNat, lane, packLanes_toNat (by simp), lanesNat_digit, value, BitVec.toNat_ofNat]

/-! ### One lane of each function -/

theorem sInt_toNat (x : Word) : sInt x.toNat = x.toInt := by
  unfold sInt
  rw [BitVec.toInt_eq_toNat_cond, Nat.mod_eq_of_lt x.isLt]
  split <;> split <;> omega

theorem ofNat_ofInt (i : Int) : BitVec.ofNat 32 (ofInt 32 i) = BitVec.ofInt 32 i := by
  rw [← BitVec.toNat_inj, BitVec.toNat_ofInt, BitVec.toNat_ofNat, ofInt]
  omega

theorem intLane_viadd (vc : Nat) (x y : Word) : BitVec.ofNat 32 (intLane .viadd vc x.toNat y.toNat) = x + y := by
  rw [← BitVec.toNat_inj, BitVec.toNat_ofNat, BitVec.toNat_add]
  exact Nat.mod_mod _ _

theorem intLane_vimul (vc : Nat) (x y : Word) : BitVec.ofNat 32 (intLane .vimul vc x.toNat y.toNat) = x * y := by
  rw [← BitVec.toNat_inj, BitVec.toNat_ofNat, BitVec.toNat_mul]
  exact Nat.mod_mod _ _

theorem intLane_shl (x y : Word) : BitVec.ofNat 32 (intLane .vshift 0 x.toNat y.toNat) = x <<< (y.toNat % 32) := by
  refine Eq.trans ?_ (aluFn_shl x y).symm
  rw [← BitVec.toNat_inj, BitVec.toNat_ofNat, BitVec.toNat_ofNat]
  exact Nat.mod_mod _ _

theorem intLane_shr (x y : Word) : BitVec.ofNat 32 (intLane .vshift 1 x.toNat y.toNat) = x >>> (y.toNat % 32) :=
  (aluFn_shr x y).symm

theorem intLane_sra (x y : Word) : BitVec.ofNat 32 (intLane .vshift 2 x.toNat y.toNat) = x.sshiftRight (y.toNat % 32) := by
  refine Eq.trans ?_ (aluFn_sra x y).symm
  rw [← sInt_toNat, ← ofNat_ofInt]
  rfl

theorem intLane_and (x y : Word) : BitVec.ofNat 32 (intLane .vlogic 0 x.toNat y.toNat) = x &&& y := by
  rw [← BitVec.toNat_inj, BitVec.toNat_and, BitVec.toNat_ofNat]
  exact Nat.mod_eq_of_lt (x &&& y).isLt

theorem intLane_or (x y : Word) : BitVec.ofNat 32 (intLane .vlogic 1 x.toNat y.toNat) = x ||| y := by
  rw [← BitVec.toNat_inj, BitVec.toNat_or, BitVec.toNat_ofNat]
  exact Nat.mod_eq_of_lt ((BitVec.toNat_or x y).symm.trans_lt (x ||| y).isLt)

theorem intLane_xor (x y : Word) : BitVec.ofNat 32 (intLane .vlogic 2 x.toNat y.toNat) = x ^^^ y := by
  rw [← BitVec.toNat_inj, BitVec.toNat_xor, BitVec.toNat_ofNat]
  exact Nat.mod_eq_of_lt ((BitVec.toNat_xor x y).symm.trans_lt (x ^^^ y).isLt)

theorem intLane_not (x y : Word) : BitVec.ofNat 32 (intLane .vlogic 3 x.toNat y.toNat) = ~~~x := by
  rw [← BitVec.toNat_inj, BitVec.toNat_not, BitVec.toNat_ofNat]
  exact Nat.mod_eq_of_lt (BitVec.toNat_not.symm.trans_lt (~~~x).isLt)

theorem popCount_eq (n v : Nat) : popCount n v = ((List.range n).filter fun k => v.testBit k).length := by
  unfold popCount
  induction n with
  | zero => rfl
  | succ n ih =>
    rw [List.range_succ, List.foldl_append, ih, List.filter_append, List.length_append, List.foldl_cons, List.foldl_nil]
    rcases Nat.mod_two_eq_zero_or_one (v / 2 ^ n) with bit | bit <;> simp [bit, Nat.testBit_eq_decide_div_mod_eq]

theorem intLane_vpopc (vc : Nat) (x y : Word) : (BitVec.ofNat 32 (intLane .vpopc vc x.toNat y.toNat)).toNat
    = ((List.range 32).filter fun k => x.getLsbD k).length := by
  have count : intLane .vpopc vc x.toNat y.toNat = ((List.range 32).filter fun k => x.getLsbD k).length := popCount_eq 32 x.toNat
  have few := List.length_filter_le (fun k => x.getLsbD k) (List.range 32)
  rw [List.length_range] at few
  rw [count, BitVec.toNat_ofNat, Nat.mod_eq_of_lt (by omega)]

/-! ### The functions -/

section
variable {o : VecOp} {a b c : Vec}

theorem vecResult_integer {f : VecFn} (integer : f ∈ [VecFn.viadd, .vimul, .vshift, .vlogic, .vpopc]) {i : Nat} (hi : i < 128) :
    lane32 (vecResult f o a b c).1 i
      = BitVec.ofNat 32 (intLane f o.vc.toNat (lane32 a i).toNat (lane32 b i).toNat) := by
  have packed : (vecResult f o a b c).1
      = packLanes 32 ((List.range 128).map fun i => intLane f o.vc.toNat (lane 32 a i) (lane 32 b i)) := by
    simp only [List.mem_cons, List.not_mem_nil, or_false] at integer
    rcases integer with rfl | rfl | rfl | rfl | rfl <;> rfl
  rw [packed, lane32_packLanes _ hi, lane_eq_toNat, lane_eq_toNat]

theorem vecResult_moves (words : o.ty.toNat = 3) :
    (vecResult .vsel o a b c).1 = packLanes 32 ((List.range 128).map fun i => if lane 32 c i ≠ 0 then lane 32 a i else lane 32 b i)
    ∧ (vecResult .vbcast o a b c).1 = packLanes 32 ((List.range 128).map fun _ => lane 32 a 0)
    ∧ (vecResult .vperm o a b c).1 = packLanes 32 ((List.range 128).map fun i => lane 32 a (lane 32 b i % 128)) := by
  have width : typeWidth o.ty.toNat = 32 := if_neg (by omega)
  have count : typeLanes o.ty.toNat = 128 := if_neg (by omega)
  simp only [vecResult, width, count, and_self]

end

theorem integerLanes : IntegerLanes := by
  intro o a b c i hi words x y got
  have integer : ∀ {f : VecFn}, f ∈ [VecFn.viadd, .vimul, .vshift, .vlogic, .vpopc] →
      got f = BitVec.ofNat 32 (intLane f o.vc.toNat x.toNat y.toNat) := fun mem => vecResult_integer mem hi
  obtain ⟨sel, bcast, perm⟩ := vecResult_moves (a := a) (b := b) (c := c) words
  have shift := integer (f := .vshift) (by decide)
  have logic := integer (f := .vlogic) (by decide)
  refine ⟨(integer (by decide)).trans (intLane_viadd _ x y), (integer (by decide)).trans (intLane_vimul _ x y),
    fun vc => ?_, fun vc => ?_, fun vc => ?_, fun vc => ?_, ?_, ?_, ?_, ?_, ?_⟩
  · rw [shift, logic, vc]
    exact ⟨intLane_shl x y, intLane_and x y⟩
  · rw [shift, logic, vc]
    exact ⟨intLane_shr x y, intLane_or x y⟩
  · rw [shift, logic, vc]
    exact ⟨intLane_sra x y, intLane_xor x y⟩
  · rw [logic, vc]
    exact intLane_not x y
  · rw [integer (by decide)]
    exact intLane_vpopc _ x y
  · simp only [got]
    rw [bcast, lane32_packLanes _ hi, lane_eq_toNat, BitVec.ofNat_toNat, BitVec.setWidth_eq]
  · simp only [got]
    rw [perm, lane32_packLanes _ hi, lane_eq_toNat, lane_eq_toNat, BitVec.ofNat_toNat, BitVec.setWidth_eq]
  · simp only [got]
    have zero : lane 32 c i = 0 ↔ lane32 c i = 0 := by rw [lane_eq_toNat, ← BitVec.toNat_inj]; rfl
    rw [sel, lane32_packLanes _ hi, lane_eq_toNat a, lane_eq_toNat b, ← apply_ite, BitVec.ofNat_toNat, BitVec.setWidth_eq]
    exact if_congr (not_congr zero) rfl rfl
  · intro f mem
    simp only [List.mem_cons, List.not_mem_nil, or_false] at mem
    rcases mem with rfl | rfl | rfl | rfl | rfl | rfl | rfl | rfl <;> rfl

end Sys2Proof.Machine
end

section
/-! SUPPORT. Vector issue (R60, R83, R121, R122): where a VLD or VST goes, and what enters the queue of the unit. -/

open Sys2Proof Sys2Proof.Claims Sys2Proof.Machine

namespace Sys2Proof.Machine

/-! ### Where a VLD or VST goes -/

/-- VST where the access is a store, VLD else. -/
def memoryFn (st : Bool) : VecFn := if st then .vst else .vld

/-- A handle that R121, R122 and R473 refuse to a vector access with HANDLE_KIND. -/
def Handle.vecRefused (e : Handle) (service st : Bool) : Prop :=
  e.kind = 0 ∨ (e.kind = 3 ∧ (st = false ∨ service = true)) ∨ (if st then e.canWrite = false else e.canRead = false)

/-- The bytes of module memory or of the scratchpad behind a handle. -/
def Handle.reach (e : Handle) : Nat := if e.kind = 2 then 256 * e.size else e.size

/-- The byte offset of a vector access. -/
def VecOp.byteOffset (o : VecOp) : Nat := 64 * o.offset.toNat

theorem Tile.vecPlace_memoryFn (x : Ctx) (t : Tile) (st : Bool) (o : VecOp)
    [Decidable ((t.handle o.h).vecRefused x.service st)] : t.vecPlace x (memoryFn st) o
    = let e := t.handle o.h
      let a := e.base + o.byteOffset
      if e.vecRefused x.service st then (.none, some .handleKind)
      else if e.kind = 2 ∧ o.offset.toNat % 4 ≠ 0 then (.none, some .alignFault)
      else if e.reach < o.byteOffset + 512 then (.none, some .handleRange)
      else if e.kind = 1 then
        if st = true ∧ t.spanStanding (a / 64, (a + 511) / 64) = true then (.none, some .handleKind) else (.scratch a, none)
      else if e.kind = 2 then (.mem (256 * e.base + o.byteOffset), none)
      else (.window e.endpoint (e.base % 256) (e.base / 256 * 64 + o.byteOffset), none) := by
  unfold Tile.vecPlace Handle.vecRefused Handle.reach VecOp.byteOffset
  cases st <;> simp [memoryFn, Nat.mul_comm, lineOf]

/-! ### What enters the queue -/

/-- The tile with a job behind those of its vector unit. -/
def Tile.queueVec (x : Tile) (f : VecFn) (o : VecOp) (p : VecPlace) (ents : List Nat) : Tile :=
  { x with units := { x.units with vuq := x.units.vuq ++ [⟨f, o, p, x.core.pc.toNat, ents⟩] } }

theorem queueVec_adv {s : State} {t : Slot} {x : Tile} (pc : x.core.pc = (s.tile t.val).core.pc) (f : VecFn) (o : VecOp)
    (p : VecPlace) (ents : List Nat) : (x.queueVec f o p ents).adv 2 = withVec s t x f o p ents := by
  unfold Tile.queueVec Tile.adv withVec
  rw [pc]
  rfl

/-- A VST to module memory or through a window, folded into the step signature and noted (R208, R466). -/
def Tile.noteStore (x : Tile) (o : VecOp) (p : VecPlace) : Tile := (x.foldSig (vstSig x o)).noteOutput o.h p

theorem Tile.foldSig_frame (x : Tile) (bs : List Byte) : (x.foldSig bs).core = x.core ∧ (x.foldSig bs).units = x.units := by
  unfold Tile.foldSig
  split <;> exact ⟨rfl, rfl⟩

theorem Tile.noteOutput_frame (x : Tile) (h : BitVec 6) (p : VecPlace) :
    (x.noteOutput h p).core = x.core ∧ (x.noteOutput h p).units.mu = x.units.mu := by
  unfold Tile.noteOutput
  split
  · split <;> exact ⟨rfl, rfl⟩
  · exact ⟨rfl, rfl⟩

theorem Tile.noteStore_frame (x : Tile) (o : VecOp) (p : VecPlace) :
    (x.noteStore o p).core = x.core ∧ (x.noteStore o p).units.mu = x.units.mu := by
  obtain ⟨core, units⟩ := x.foldSig_frame (vstSig x o)
  obtain ⟨core', mu⟩ := (x.foldSig (vstSig x o)).noteOutput_frame o.h p
  exact ⟨core'.trans core, mu.trans (congrArg Units.mu units)⟩

section
variable {x : Ctx} {t : Tile} {i : Tis} {f : VecFn} {o : VecOp}

/-- The vector unit takes an instruction: it has room, and no register that it reads or writes waits for memory data. -/
def Tile.vecReady (t : Tile) (f : VecFn) (o : VecOp) : Prop :=
  ¬ (4 ≤ t.units.vuq.length ∨ ((vecReads f o).any t.vheld) = true ∨ (f ≠ .vst ∧ t.vheld o.vd = true))

theorem Tile.vecReady_of_free (free : VecFree t (o.vd :: vecReads f o)) : t.vecReady f o := by
  obtain ⟨room, regs⟩ := free
  simp only [List.forall_mem_cons] at regs
  simpa [Tile.vecReady, room, regs.1] using regs.2

theorem Tile.vecReady_memoryFn {st : Bool} (free : VecFree t (if st then [o.va] else [o.vd])) : t.vecReady (memoryFn st) o := by
  obtain ⟨room, regs⟩ := free
  cases st <;> simpa [Tile.vecReady, memoryFn, vecReads, room] using regs

theorem Tile.execVec_unit (ready : t.vecReady f o) (load : f ≠ .vld) (store : f ≠ .vst) :
    t.execVec x i f o = ((t.setRun .running).queueVec f o .none []).adv 2 :=
  (if_neg ready).trans (if_neg (not_or.2 ⟨load, store⟩))

section
variable (ready : t.vecReady f o) (memory : f = .vld ∨ f = .vst)
include ready memory

theorem Tile.execVec_fault {p : VecPlace} {c : FaultCode} (place : t.vecPlace x f o = (p, some c)) :
    t.execVec x i f o = t.fail c i 0 := by
  refine (if_neg ready).trans ((if_pos memory).trans ?_)
  rw [place]

theorem Tile.execVec_scratch {a : Nat} (place : t.vecPlace x f o = (.scratch a, none))
    (go : t.sbCheck [if f = .vld then [(a, 512)] else []] [if f = .vst then [(a, 512)] else []] 1 = .go) :
    t.execVec x i f o
      = let r := (t.setRun .running).register [⟨a / 64, (a + 511) / 64, decide (f = .vst), 1, t.core.pc.toNat⟩]
        (r.1.queueVec f o (.scratch a) r.2).adv 2 := by
  refine (if_neg ready).trans ((if_pos memory).trans ?_)
  rw [place]
  dsimp only
  rw [go]
  rfl

theorem Tile.execVec_far {p : VecPlace} (place : t.vecPlace x f o = (p, none)) (far : ∀ a, p ≠ .scratch a) :
    t.execVec x i f o
      = ((if f = .vst then (t.setRun .running).noteStore o p else t.setRun .running).queueVec f o p []).adv 2 := by
  refine (if_neg ready).trans ((if_pos memory).trans ?_)
  rw [place]
  cases p with
  | scratch a => exact absurd rfl (far a)
  | none | mem | window => rfl

end
end

theorem vector_of_row {t : Slot} {o : VecOp} {p : Instr × VecFn} (h : p ∈ vectorRows t o) :
    instruction p.1 = some (t, .vec p.2 o) ∧ p.2 ≠ .vld ∧ p.2 ≠ .vst := by
  simp only [vectorRows, List.mem_cons, List.not_mem_nil, or_false] at h
  iterate 37
    rcases h with rfl | h
    · exact ⟨rfl, nofun, nofun⟩
  rw [h]
  exact ⟨rfl, nofun, nofun⟩

/-- A vector instruction that enters the queue leaves its tile with the job behind the others. -/
theorem leaves_of_vec {c : Instr} {s : State} {t : Slot} {f : VecFn} {o : VecOp} {y : Tile} {p : VecPlace} {ents : List Nat}
    (named : instruction c = some (t, .vec f o)) (on : Issues s t) (legal : (Tis.vec f o).legal = true)
    (done : (s.tile t.val).execVec (s.ctx t.val) (.vec f o) f o = (y.queueVec f o p ents).adv 2)
    (core : y.core = (s.tile t.val).core) (mu : y.units.mu = (s.tile t.val).units.mu) :
    Leaves c s t (withVec s t y f o p ents) := by
  rw [queueVec_adv (s := s) (t := t) (by rw [core])] at done
  refine leaves_of_local named on rfl legal nofun done ?_ ?_
  · have run : (withVec s t y f o p ents).core.run = .running := by
      unfold withVec
      rw [Tile.setPc_run, core]
      exact on.2
    rw [run]
    nofun
  · have still : (withVec s t y f o p ents).units.mu = y.units.mu := by
      unfold withVec
      rw [Tile.setPc_units]
    rw [still, mu]

theorem vectorIssue : VectorIssue := by
  intro s t o on p hp rsv h offset assigned free
  obtain ⟨named, load, store⟩ := vector_of_row hp
  have legal : (Tis.vec p.2 o).legal = true := by simp [Tis.legal, rsv, h, offset, assigned]
  refine leaves_of_vec named on legal ?_ rfl rfl
  rw [Tile.execVec_unit (Tile.vecReady_of_free free) load store, Tile.setRun_running on.2]

theorem vectorMemoryIssue : VectorMemoryIssue := by
  intro s t o on rsv x e off size st free f c y bad off256 a
  have named : instruction c = some (t, .vec f o) := by cases st <;> rfl
  have memory : f = .vld ∨ f = .vst := by cases st; exacts [.inl rfl, .inr rfl]
  have legal : (Tis.vec f o).legal = true := by cases st <;> simp [Tis.legal, f, rsv, VecFn.assigned]
  have ready : x.vecReady f o := Tile.vecReady_memoryFn free
  classical
  have place := Tile.vecPlace_memoryFn (s.ctx t.val) x st o
  have running : x.setRun .running = x := Tile.setRun_running on.2
  have stops : ∀ {p code}, x.vecPlace (s.ctx t.val) f o = (p, some code) → Faults c s t code (.vec f o) 0 := fun stop =>
    faults_of_local named on rfl legal nofun (Tile.execVec_fault ready memory stop)
  have goes : ∀ {p}, x.vecPlace (s.ctx t.val) f o = (p, none) → (∀ a, p ≠ .scratch a) →
      Leaves c s t (withVec s t (y p) f o p []) := fun {p} go far => by
    have noted : (if f = .vst then x.noteStore o p else x) = y p := by cases st <;> rfl
    have done := Tile.execVec_far (i := .vec f o) ready memory go far
    rw [running, noted] at done
    obtain ⟨core, mu⟩ := x.noteStore_frame o p
    exact leaves_of_vec named on legal done (by cases st; exacts [rfl, core]) (by cases st; exacts [rfl, mu])
  have even_of : e.kind ≠ 2 → ¬ off256 := fun other odd => other odd.1
  have passed := fun (good : ¬ bad) (even : ¬ off256) (inside : off + 512 ≤ size) =>
    place.trans ((if_neg good).trans ((if_neg even).trans (if_neg (not_lt.2 inside))))
  refine ⟨fun refused => ?_, fun good odd => ?_, fun good even beyond => ?_, fun good inside pad store standing => ?_,
    fun good inside pad clear go => ?_, fun good even inside mem => ?_, fun good inside window => ?_⟩
  · exact stops (place.trans (if_pos refused))
  · exact stops (place.trans ((if_neg good).trans (if_pos odd)))
  · exact stops (place.trans ((if_neg good).trans ((if_neg even).trans (if_pos beyond))))
  · have even := even_of (ne_of_eq_of_ne pad (by decide))
    exact stops ((passed good even inside).trans ((if_pos pad).trans (if_pos ⟨store, standing⟩)))
  · have even := even_of (ne_of_eq_of_ne pad (by decide))
    have free_ : ¬ (st = true ∧ x.spanStanding (a / 64, (a + 511) / 64) = true) := fun ⟨store, standing⟩ =>
      ne_true_of_eq_false (clear store) standing
    have scratch := (passed good even inside).trans ((if_pos pad).trans (if_neg free_))
    have reads : (if st then [] else [(a, 512)]) = if f = .vld then [(a, 512)] else [] := by cases st <;> rfl
    have writes : (if st then [(a, 512)] else []) = if f = .vst then [(a, 512)] else [] := by cases st <;> rfl
    have producer : decide (f = .vst) = st := by cases st <;> rfl
    rw [reads, writes] at go
    have done := Tile.execVec_scratch (i := .vec f o) ready memory scratch go
    rw [running, producer] at done
    exact leaves_of_vec named on legal done rfl rfl
  · have other : e.kind ≠ 1 := ne_of_eq_of_ne mem (by decide)
    exact goes ((passed good even inside).trans ((if_neg other).trans (if_pos mem))) nofun
  · have other : e.kind ≠ 1 := ne_of_eq_of_ne window (by decide)
    have near : e.kind ≠ 2 := ne_of_eq_of_ne window (by decide)
    exact goes ((passed good (even_of near) inside).trans ((if_neg other).trans (if_neg near))) nofun

end Sys2Proof.Machine

/-- Settles O37. -/
theorem vectorUnits : Obligations.VectorUnits :=
  ⟨Sys2Proof.Machine.vectorIssue, Sys2Proof.Machine.vectorMemoryIssue, Sys2Proof.Machine.integerLanes⟩
end

section
/-! SUPPORT. Writes that land in windows (R135, R254, R427). -/

open Sys2Proof Sys2Proof.Claims Sys2Proof.Machine

namespace Sys2Proof.Machine

/-! ### Whole lines of module memory -/

/-- A store of bytes changes cells and poison marks of module memory and nothing else. -/
theorem State.memWrite_eq (s : State) (a : Nat) (bs : List Byte) :
    ∃ C P, s.memWrite a bs = { s with mem := { s.mem with cells := C, poison := P } } := by
  unfold State.memWrite
  generalize List.range (bs.length / 64) = l
  dsimp only
  generalize cellsWrite s.mem.cells a bs = C
  suffices marks : ∀ P, ∃ P', l.foldl (fun (s : State) i => if a % 64 = 0 then s.setPoison (a / 64 + i) false else s)
      { s with mem := { s.mem with cells := C, poison := P } } = { s with mem := { s.mem with cells := C, poison := P' } } by
    obtain ⟨P', marked⟩ := marks s.mem.poison
    exact ⟨C, P', marked⟩
  induction l with
  | nil => exact fun P => ⟨P, rfl⟩
  | cons i l ih =>
    intro P
    rw [List.foldl_cons]
    by_cases line : a % 64 = 0
    · rw [if_pos line]
      exact ih (put (fun _ => false) P (a / 64 + i) false)
    · rw [if_neg line]
      exact ih P

theorem roundUp_line (n : Nat) : roundUp n 64 = (n + 63) / 64 * 64 := rfl

/-- Bytes written by whole lines (R254). -/
theorem State.writeLines_spec (s : State) (a : Nat) (bs : List Byte) :
    (∀ k, k < bs.length → (s.writeLines a bs).memByte (a + k) = bs.getD k 0)
      ∧ (∀ y, y < a ∨ a + (bs.length + 63) / 64 * 64 ≤ y → (s.writeLines a bs).memByte y = s.memByte y)
      ∧ { s.writeLines a bs with mem := s.mem, freeCount := s.freeCount } = s := by
  obtain ⟨p, full, wrote⟩ : ∃ p : List Byte, p.length = roundUp bs.length 64 - bs.length
      ∧ s.writeLines a bs = State.memWrite { s with freeCount := s.freeCount + (roundUp bs.length 64 - bs.length) } a (bs ++ p) :=
    ⟨_, by simp, rfl⟩
  rw [roundUp_line] at full
  rw [wrote]
  refine ⟨fun k hk => ?_, fun y out => ?_, ?_⟩
  · rw [State.memByte_memWrite_inside _ _ _ _ (by rw [List.length_append]; omega), List.getElem_append_left hk,
      List.getD_eq_getElem _ _ hk]
  · exact State.memByte_memWrite_outside _ _ _ _ (by rw [List.length_append]; omega)
  · obtain ⟨C, P, kept⟩ := State.memWrite_eq { s with freeCount := s.freeCount + (roundUp bs.length 64 - bs.length) } a (bs ++ p)
    rw [kept]

/-! ### The checks of R427 -/

theorem State.inScope_iff (s : State) (v : Window) (src : Nat) : s.inScope v src = true
    ↔ v.scope = 0 ∨ (v.scope = 1 ∧ src = v.peer) ∨ (v.scope = 2 ∧ (s.route src).testBit 9)
      ∨ (3 ≤ v.scope ∧ (s.route src).testBit 10) := by
  unfold State.inScope routeX routeY
  dsimp only
  rw [bit_eq_testBit, bit_eq_testBit]
  generalize v.scope = n
  match n with
  | 0 => simp
  | 1 => simp
  | 2 => simp
  | n + 3 => simp

theorem State.windowCheck_eq (s : State) (w src off len : Nat) : s.windowCheck w src off len = windowFailure s w src off len := by
  unfold State.windowCheck windowFailure Window.bytes
  simp only [← State.inScope_iff]
  simp

theorem exec_windowWriteLand (w : Fin 256) (src : BitVec 16) (off : Nat) (data : List Byte) (s : State) :
    exec (.windowWriteLand w src off data) s = .next
      (if windowFailure s w.val src.toNat off data.length = 0 then s.landWindow (s.window w.val) off data
        else if windowFailure s w.val src.toNat off data.length = 0x1E then s.bump K.windowClosedDrops 1 else s) := by
  change Host.Outcome.next (s.takeWrite w.val src.toNat off data).1 = _
  unfold State.takeWrite
  rw [State.windowCheck_eq]
  dsimp only
  split <;> rfl

theorem windowWrites : WindowWrites := by
  intro s w src off data v c
  have land := exec_windowWriteLand w src off data s
  refine ⟨fun closed => ?_, fun bad open_ => ?_, fun good memory => ?_, fun good pad => ?_⟩
  · rw [land, if_neg (ne_of_eq_of_ne closed (by decide)), if_pos closed]
  · rw [land, if_neg bad, if_neg open_]
  · obtain ⟨bytes, out, rest⟩ := s.writeLines_spec (v.base * 256 + off) data
    rw [if_pos good, State.landWindow, if_neg memory] at land
    exact ⟨_, land, bytes, out, rest⟩
  · rw [if_pos good, State.landWindow, if_pos pad] at land
    refine ⟨_, land, ?_⟩
    have tile : (s.onTile v.slot fun t => t.land (v.base + off) data).tile v.slot = (s.tile v.slot).land (v.base + off) data :=
      (s.tile_onTile _ _ _).trans (if_pos rfl)
    obtain ⟨B, F, landed⟩ := (s.tile v.slot).land_eq (v.base + off) data
    dsimp only
    rw [tile]
    refine ⟨fun k hk => ?_, fun y out => ?_, fun l => ?_, by rw [landed], fun u other => ?_, rfl⟩
    · rw [Tile.byte_land, if_pos (by omega), Nat.add_sub_cancel_left]
    · rw [Tile.byte_land, if_neg (by omega)]
    · rw [Tile.filled_land]
      exact if_congr (mem_linesOf.trans (and_congr_left' List.length_pos_iff)) rfl rfl
    · exact (s.tile_onTile _ _ _).trans (if_neg other)

end Sys2Proof.Machine
end

section
/-! SUPPORT. How a window closes (R137, R428, R429). -/

open Sys2Proof Sys2Proof.Claims Sys2Proof.Machine

namespace Sys2Proof.Machine

theorem windowGone_of {s u : State} {w : Nat} (windows : u.fabric.windows
      = put (fun _ => Window.closed) s.fabric.windows w { Window.closed with freedAt := some s.timeBase }) :
    WindowGone s u w := by
  unfold WindowGone State.window
  rw [windows]
  exact ⟨look_put_same _ _ _ _, fun k other => look_put_other _ _ _ other⟩

/-- Close-complete of a window that no raw close waits for: its number is free and under its reuse hold, its slot is free, and
its own WCLOSE transfers are over. -/
theorem State.closeComplete_unowned {s : State} {w : Nat} (unowned : (s.window w).owner = none) :
    let v := s.window w
    let s' := s.closeComplete w
    WindowGone s s' w
      ∧ (v.kind = 1 → s'.tiles = (s.onTile v.slot fun t => t.setWinSlot v.winslot WinSlot.free).tiles)
      ∧ (v.kind ≠ 1 → s'.tiles = s.tiles)
      ∧ s'.fabric.transfers = (s.fabric.transfers.filter fun t => t.owner ≠ .close w)
      ∧ { s' with tiles := s.tiles, fabric := s.fabric } = s := by
  unfold State.closeComplete State.setWindow State.onFabric State.onTile
  dsimp only
  rw [unowned]
  by_cases kind : (s.window w).kind = 1
  · rw [if_pos kind]
    exact ⟨windowGone_of rfl, fun _ => rfl, fun other => absurd kind other, rfl, rfl⟩
  · rw [if_neg kind]
    exact ⟨windowGone_of rfl, fun pad => absurd pad kind, fun _ => rfl, rfl, rfl⟩

theorem State.closeAck_single {s : State} {w p : Nat} (closing : (s.window w).state = 2) :
    s.closeAck w [p] =
      let v := s.window w
      let u := s.setWindow w { v with waitAck := v.waitAck.filter (· ≠ p), acked := v.acked ++ [p] }
      if v.waitAck.filter (· ≠ p) = [] then u.closeComplete w else u := by
  have left : ((s.window w).waitAck.filter fun e => !([p] : List Nat).contains e) = (s.window w).waitAck.filter (· ≠ p) :=
    List.filter_congr fun e _ => by simp
  unfold State.closeAck
  dsimp only
  rw [if_neg (not_not.2 closing), left]
  simp only [List.isEmpty_iff]

/-- A peer with no write of its own to the window under way answers the close at once (R428, step 3). -/
theorem State.takeClose_idle {s : State} {owner : BitVec 16} {w : Nat}
    (idle : ∀ t ∈ s.fabric.transfers, t.dst = owner → t.window ≠ some w) : s.takeClose owner w = s.sendCloseAck owner w := by
  have none_ : (s.fabric.transfers.filter fun t => t.dst = owner && t.window = some w) = [] :=
    List.filter_eq_nil_iff.2 fun t mem => by simpa using idle t mem
  unfold State.takeClose
  rw [none_]
  rfl

/-- One with such writes keeps the close until they have ended. -/
theorem State.takeClose_waits {s : State} {owner : BitVec 16} {w : Nat}
    (writes : ∃ t ∈ s.fabric.transfers, t.dst = owner ∧ t.window = some w) :
    ∃ l, l ≠ [] ∧ s.takeClose owner w = s.onFabric fun f => { f with closes := f.closes ++ [⟨owner, w, l⟩] } := by
  obtain ⟨t, mem, mine⟩ := writes
  have some_ : ((s.fabric.transfers.filter fun t => t.dst = owner && t.window = some w).map fun t =>
      (t.flow, (t.packets.headD (Packet.blank .msg)).seq)) ≠ [] :=
    mt List.map_eq_nil_iff.1 (List.ne_nil_of_mem (List.mem_filter.2 ⟨mem, by simp [mine]⟩))
  exact ⟨_, some_, if_neg (mt List.isEmpty_iff.1 some_)⟩

theorem windowClosing : WindowClosing := by
  intro s w v
  refine ⟨fun p closing more => ?_, fun p closing last unowned => ?_, fun p other => ?_, fun closing none_ unowned => ?_,
    fun busy => ?_, fun ms free held => ⟨fun served => ?_, fun early => ?_⟩, fun owner => ⟨fun idle => ?_, fun writes => ?_⟩⟩
  · have left : v.waitAck.filter (· ≠ p.toNat) ≠ [] := by
      obtain ⟨e, mem, ne⟩ := more
      exact List.ne_nil_of_mem (List.mem_filter.2 ⟨mem, decide_eq_true ne⟩)
    refine ⟨_, congrArg Host.Outcome.next ((State.closeAck_single closing).trans (if_neg left)), ?_, fun k other => ?_, rfl⟩
    · rw [State.window_setWindow, if_pos rfl]
    · rw [State.window_setWindow, if_neg other]
  · have left : v.waitAck.filter (· ≠ p.toNat) = [] :=
      List.filter_eq_nil_iff.2 fun e mem => by simp [last e mem]
    have run : exec (.wcloseAck p w) s = .next _ :=
      congrArg Host.Outcome.next ((State.closeAck_single closing).trans (if_pos left))
    generalize asked : ({ v with waitAck := v.waitAck.filter (· ≠ p.toNat), acked := v.acked ++ [p.toNat] } : Window) = q at run
    have shown : (s.setWindow w.val q).window w.val = q := (s.window_setWindow _ _ _).trans (if_pos rfl)
    have free : ((s.setWindow w.val q).window w.val).owner = none := by rw [shown, ← asked]; exact unowned
    obtain ⟨⟨gone, others⟩, -, -, -, rest⟩ := State.closeComplete_unowned free
    refine ⟨_, run, ⟨gone, fun k other => (others k other).trans ?_⟩, (congrArg State.mem rest :)⟩
    rw [State.window_setWindow, if_neg other]
  · exact congrArg Host.Outcome.next (if_pos other)
  · obtain ⟨gone, pad, memory, transfers, rest⟩ := State.closeComplete_unowned unowned
    refine ⟨s.closeComplete w.val, if_pos ⟨closing, List.isEmpty_iff.2 none_⟩, gone, fun kind => ?_, memory, fun t mem => ?_, rest⟩
    · have tile : (s.closeComplete w.val).tile v.slot = (s.tile v.slot).setWinSlot v.winslot WinSlot.free := by
        rw [State.tile, pad kind]
        exact (s.tile_onTile _ _ _).trans (if_pos rfl)
      rw [tile]
      exact ⟨look_put_same (fun _ => WinSlot.free) (s.tile v.slot).pad.winslots v.winslot WinSlot.free, rfl⟩
    · rw [transfers, List.mem_filter, decide_eq_true_eq] at mem
      exact mem.symm
  · exact if_neg fun ⟨closing, answered⟩ => busy.elim (· closing) (· (List.isEmpty_iff.1 answered))
  · refine ⟨_, if_pos ⟨free, held, served⟩, ?_, fun k other => ?_, rfl⟩
    · rw [State.window_setWindow, if_pos rfl]
    · rw [State.window_setWindow, if_neg other]
  · exact if_neg fun ⟨_, _, served⟩ => absurd served (not_le.2 early)
  · exact congrArg Host.Outcome.next (State.takeClose_idle idle)
  · obtain ⟨l, some_, waits⟩ := State.takeClose_waits writes
    exact ⟨_, congrArg Host.Outcome.next waits, ⟨_, rfl, rfl, rfl, some_⟩, rfl⟩

end Sys2Proof.Machine

/-- Settles O47. -/
theorem windows : Obligations.Windows := ⟨Sys2Proof.Machine.windowWrites, Sys2Proof.Machine.windowClosing⟩
end

section
/-! SUPPORT. Tokens offered to a steering unit, and what a unit fires (R156 to R163). -/

open Sys2Proof Sys2Proof.Claims Sys2Proof.Machine

namespace Sys2Proof.Machine

/-! ### Tokens -/

/-- A token whose turn it is goes to its unit, on its first offer and on a repeat alike. -/
theorem exec_tokenOffer {s : State} {src : MsgSrc} {m : Msg} {p : Instr × MuPhase} (row : p ∈ tokenOffers src)
    (entry : s.srcEntry src = some (m, p.2)) (token : m.hdr.token = true) (turn : s.behind src m.hdr = false) :
    exec p.1 s = .next ((s.offerToken m).1.settleOffer src (s.offerToken m).2) := by
  have offer : s.offerFrom src p.2 true = (s.offerToken m).1.settleOffer src (s.offerToken m).2 := by
    unfold State.offerFrom State.offerAt
    simp [entry, token, turn]
  rw [← offer]
  rcases List.mem_cons.1 row with rfl | row
  · rfl
  · rw [List.mem_singleton.1 row]
    rfl

/-- The checks of a token at the tile in slot `d`, in order (R159, R160, R163). -/
theorem State.offerToken_at {s : State} {m : Msg} {d : Nat}
    (place : slotOf m.hdr.dstRow.toNat m.hdr.dstPos.toNat = some d) :
    s.offerToken m =
      let x := s.tile d
      let u := m.hdr.su.toNat
      let v := x.su u
      if x.enabled = false then s.refuse 4
      else if x.started = false then s.refuse 2
      else if v.enable = false ∨ v.tokenless = true then
        (s.setTile d (x.setSu u { v with discards := min 255 (v.discards + 1) }), some 0)
      else if 8 ≤ v.tokens.length then (s, none)
      else (s.setTile d (x.setSu u { v with tokens := v.tokens ++ [(m.hdr.tval, m.hdr.priUsed)] }), some 0) := by
  unfold State.offerToken
  rw [place]
  simp only [Bool.not_eq_true', Bool.or_eq_true]
  rfl

theorem tokenArrival : TokenArrival := by
  intro s src m d p row entry token turn place x u v put
  have offer := exec_tokenOffer row entry token turn
  have checks := s.offerToken_at place
  refine ⟨fun off => ?_, fun on closed => ?_, fun on started => ⟨fun enabled takes room => ?_, fun enabled takes full => ?_,
    fun none_ => ?_⟩⟩
  · rw [offer, checks]
    simp only [x, off, if_true]
    rfl
  · rw [offer, checks]
    simp only [x, on, closed, Bool.true_eq_false, if_false, if_true]
    rfl
  · have free : ¬ 8 ≤ v.tokens.length := not_le.2 room
    simp only [put, offer, checks, x, v, u, on, started, enabled, takes, free, or_self, if_false, Bool.true_eq_false, Bool.false_eq_true]
    rfl
  · rw [offer, checks]
    simp only [x, v, u, on, started, enabled, takes, full, or_self, if_false, if_true, Bool.true_eq_false, Bool.false_eq_true]
    rfl
  · simp only [put, offer, checks, x, v, u, on, started, none_, if_false, if_true, Bool.true_eq_false]
    rfl

/-! ### Firings -/

theorem onlyTile_onTile (s : State) (t : Slot) (f : Tile → Tile) : OnlyTile s (s.onTile t.val f) t := onlyTile_setTile s t _

theorem onlyTile_trans {s u v : State} {t : Slot} (h : OnlyTile s u t) (g : OnlyTile u v t) : OnlyTile s v t :=
  ⟨fun w hw => (g.1 w hw).trans (h.1 w hw), (congrArg (fun z : State => { z with tiles := s.tiles }) g.2).trans h.2⟩

theorem State.tile_onSu (s : State) (t u w : Nat) (f : Su → Su) :
    (s.onSu t u f).tile w = if w = t then (s.tile t).setSu u (f ((s.tile t).su u)) else s.tile w := s.tile_onTile t w _

theorem Tile.queue_takeHead (x : Tile) (q r : Nat) :
    (x.takeHead q).queue r = if r = q then { x.queue q with held := (x.queue q).held.drop 1 } else x.queue r :=
  x.queue_setQueue q r _

theorem Tile.queue_takeHead_of {x : Tile} {q : Nat} {m : Msg} {l : List Msg} (head : (x.queue q).held = m :: l) (r : Nat) :
    (x.takeHead q).queue r = if r = q then { x.queue q with held := l } else x.queue r := by
  rw [Tile.queue_takeHead, head]
  rfl

theorem Tile.queue_hold (x : Tile) (q r : Nat) (m : Msg) : (x.hold q m).queue r = if r = q then
    { x.queue q with held := (x.queue q).held ++ [m], placed := (x.queue q).placed + m.space / 64 } else x.queue r := by
  refine (Tile.queue_setQueue _ q r _).trans ?_
  rw [Tile.queue_setQueue, Tile.queue_setQueue, if_pos rfl]
  by_cases h : r = q
  · rw [if_pos h, if_pos h]
  · rw [if_neg h, if_neg h, if_neg h]

/-- A tile without its queues, their memory and its steering units. -/
def Tile.unqueued (x : Tile) : Tile := { x with queues := [], sus := [], qmem := [] }

theorem Tile.setQueue_unqueued (x : Tile) (q : Nat) (c : Queue) : (x.setQueue q c).unqueued = x.unqueued := rfl
theorem Tile.placeBytes_unqueued (x : Tile) (q : Nat) (m : Msg) : (x.placeBytes q m).unqueued = x.unqueued := rfl

theorem Tile.hold_unqueued (x : Tile) (q : Nat) (m : Msg) : (x.hold q m).unqueued = x.unqueued :=
  (Tile.placeBytes_unqueued _ q m).trans (Tile.setQueue_unqueued x q _)

theorem Tile.setSu_unqueued (x : Tile) (u : Nat) (v : Su) : (x.setSu u v).unqueued = x.unqueued := rfl
theorem Tile.takeHead_unqueued (x : Tile) (q : Nat) : (x.takeHead q).unqueued = x.unqueued := rfl

theorem Tile.rest_of_unqueued {x y : Tile} (h : y.unqueued = x.unqueued) :
    { y with queues := x.queues, sus := x.sus, qmem := x.qmem } = x :=
  congrArg (fun z : Tile => { z with queues := x.queues, sus := x.sus, qmem := x.qmem }) h

/-- What a unit that is enabled and fires nothing yet finds in its input queue: the head, unless it is selected (R159). -/
def Tile.suData (x : Tile) (u : Nat) : Option Msg :=
  if (x.queue (x.su u).iq).selected then none else (x.queue (x.su u).iq).held.head?

theorem Tile.suData_none {x : Tile} {u : Nat}
    (h : (x.queue (x.su u).iq).selected = true ∨ (x.queue (x.su u).iq).held = []) : x.suData u = none := by
  rcases h with selected | empty
  · exact if_pos selected
  · simp [Tile.suData, empty]

theorem Tile.suData_head {x : Tile} {u : Nat} {m : Msg} {l : List Msg} (free : (x.queue (x.su u).iq).selected = false)
    (head : (x.queue (x.su u).iq).held = m :: l) : x.suData u = some m := by
  simp [Tile.suData, free, head]

theorem exec_suFire {s : State} {t : Slot} {u : Fin 4} (enabled : ((s.tile t.val).su u.val).enable = true)
    (idle : ((s.tile t.val).su u.val).firing = none) : exec (.suFire t u) s = .next (s.beginFiring t.val u.val) := by
  change Host.Outcome.next (s.fire t.val u.val) = _
  unfold State.fire
  simp only [idle, enabled, if_true]

/-- A unit without tokens fires its head to output 0 (R156). -/
theorem State.beginFiring_tokenless {s : State} {t u : Nat} (tokenless : ((s.tile t).su u).tokenless = true)
    (none_ : (s.tile t).suData u = none) : s.beginFiring t u = s := by
  unfold Tile.suData at none_
  unfold State.beginFiring
  simp only [tokenless, none_, if_true]

theorem State.beginFiring_idle {s : State} {t u : Nat} (tokens : ((s.tile t).su u).tokenless = false)
    (none_ : ((s.tile t).su u).tokens = []) : s.beginFiring t u = s := by
  unfold State.beginFiring
  simp only [tokens, none_, Bool.false_eq_true, if_false]

/-- Token and head are taken (R158, R159). -/
def State.taken (s : State) (t u : Nat) (k : Byte) (ts : List (Byte × Bool)) : State :=
  (s.onTile t fun y => y.takeHead ((s.tile t).su u).iq).onSu t u fun w => { w with tokens := ts, lastToken := k }

/-- A token that asks for data waits for the head of the input queue (R158, R159). -/
theorem State.beginFiring_starved {s : State} {t u : Nat} {k : Byte} {pri : Bool} {ts : List (Byte × Bool)}
    (tokens : ((s.tile t).su u).tokenless = false) (first : ((s.tile t).su u).tokens = (k, pri) :: ts)
    (action : bits k.toNat 6 2 ≠ 3) (data : (s.tile t).suData u = none) : s.beginFiring t u = s := by
  unfold Tile.suData at data
  unfold State.beginFiring
  simp only [tokens, first, data, Bool.false_eq_true, if_false, if_neg action]

/-- The oldest token of a unit fires the head of the input queue (R158, R159). -/
theorem State.beginFiring_token {s : State} {t u : Nat} {k : Byte} {pri : Bool} {ts : List (Byte × Bool)} {m : Msg}
    (tokens : ((s.tile t).su u).tokenless = false) (first : ((s.tile t).su u).tokens = (k, pri) :: ts)
    (action : bits k.toNat 6 2 ≠ 3) (data : (s.tile t).suData u = some m) : s.beginFiring t u =
      if (tokenOuts k).isEmpty then (s.taken t u k ts).onSu t u Su.discard
      else (s.taken t u k ts).serve t u (((s.tile t).su u).begin m []) (tokenOuts k) := by
  unfold Tile.suData at data
  unfold State.beginFiring
  simp only [tokens, first, data, Bool.false_eq_true, if_false, if_neg action]
  rfl

/-- The action of a token (R158). -/
theorem token_action (k : Byte) : bits k.toNat 6 2 = k.toNat / 64 := Nat.mod_eq_of_lt (by omega)

theorem tokenOuts_drop {k : Byte} (drop : k.toNat / 64 = 1) : tokenOuts k = [] := by
  have action := (token_action k).trans drop
  unfold tokenOuts
  split <;> simp_all

theorem tokenOuts_steer {k : Byte} (steer : k.toNat / 64 = 0) : tokenOuts k = [k.toNat / 16 % 4] := by
  have action := (token_action k).trans steer
  unfold tokenOuts
  split <;> simp_all [bits]

/-- The tile whose unit has taken token and head. -/
structure Tile.Takes (x z : Tile) (u : Nat) (k : Byte) (ts : List (Byte × Bool)) (l : List Msg) : Prop where
  queue : ∀ r, z.queue r = if r = (x.su u).iq then { x.queue (x.su u).iq with held := l } else x.queue r
  su : ∀ w, z.su w = if w = u then { x.su u with tokens := ts, lastToken := k } else x.su w
  qmem : z.qmem = x.qmem
  rest : z.unqueued = x.unqueued
  started : z.started = x.started

theorem State.taken_takes {s : State} {t u : Nat} {m : Msg} {l : List Msg} (k : Byte) (ts : List (Byte × Bool))
    (head : ((s.tile t).queue ((s.tile t).su u).iq).held = m :: l) : (s.tile t).Takes ((s.taken t u k ts).tile t) u k ts l := by
  have tile : (s.taken t u k ts).tile t = ((s.tile t).takeHead ((s.tile t).su u).iq).setSu u
      { ((s.tile t).takeHead ((s.tile t).su u).iq).su u with tokens := ts, lastToken := k } := by
    unfold State.taken
    rw [State.tile_onSu, if_pos rfl, State.tile_onTile, if_pos rfl]
  rw [tile]
  exact ⟨Tile.queue_takeHead_of head, fun w => Tile.su_setSu _ u w _, rfl,
    (Tile.setSu_unqueued _ u _).trans (Tile.takeHead_unqueued _ _), rfl⟩

theorem State.taken_only (s : State) (t : Slot) (u : Nat) (k : Byte) (ts : List (Byte × Bool)) :
    OnlyTile s (s.taken t.val u k ts) t := onlyTile_trans (onlyTile_onTile s t _) (onlyTile_onTile _ t _)

/-- A message bound for queue `q`. -/
def Msg.toQueue (m : Msg) (q : Nat) : Msg := { m with hdr := { m.hdr with dstQ := BitVec.ofNat 4 q } }

/-- Nothing spilled lies before a request that has room: it is placed (R226, R236). -/
theorem State.put236_placed {s : State} {t q : Nat} {m : Msg} (first : ((s.tile t).queue q).spilled = [])
    (room : ((s.tile t).queue q).room m.space = true) :
    let s1 := s.onTile t fun y => y.hold q m
    s.put236 t q m = some (s1.noteDepth t ((s1.tile t).queue q).held.length) := by
  have fit : (s.tile t).fit q m = .queue := if_pos (by simp [first, room])
  unfold State.put236
  rw [fit]

/-- A request that fits queue `q` of its own tile is placed there (R161, R226). -/
theorem State.offerLocal_placed {s : State} {t q : Nat} {m : Msg} (open_ : (s.tile t).queueShut q = false)
    (kind : ((s.tile t).queue q).replyOnly = m.hdr.reply) (request : m.hdr.reply = false)
    (first : ((s.tile t).queue q).spilled = []) (room : ((s.tile t).queue q).room m.space = true)
    (small : m.space ≤ ((s.tile t).queue q).qsize * 512) :
    let s1 := s.onTile t fun y => y.hold q (m.toQueue q)
    s.offerLocal t m q = (s1.noteDepth t ((s1.tile t).queue q).held.length, some 0) := by
  have placed := State.put236_placed (m := m.toQueue q) first room
  unfold State.offerLocal
  rw [if_neg (ne_true_of_eq_false open_), if_neg (not_not.2 kind), if_neg (ne_true_of_eq_false request)]
  refine (if_neg (not_lt.2 small)).trans ?_
  change (match s.put236 t q (m.toQueue q) with | some s => (s, some 0) | none => (s, none)) = _
  rw [placed]

/-- A firing is over whose message a queue of its own tile took. -/
def State.fired (s : State) (t u q : Nat) (m : Msg) (depth : Nat) : State :=
  ((s.onTile t fun y => y.hold q m).noteDepth t depth).onSu t u fun v => { v with firing := none }

theorem State.fired_tile (s : State) (t u q : Nat) (m : Msg) (depth w : Nat) : (s.fired t u q m depth).tile w =
    if w = t then ((s.tile t).hold q m).setSu u { (s.tile t).su u with firing := none } else s.tile w := by
  have held : ∀ w, ((s.onTile t fun y => y.hold q m).noteDepth t depth).tile w
      = if w = t then (s.tile t).hold q m else s.tile w := fun w => s.tile_onTile t w fun y => y.hold q m
  have su : ((s.tile t).hold q m).su u = (s.tile t).su u := rfl
  unfold State.fired
  rw [State.tile_onSu, held, held, if_pos rfl, su]
  by_cases h : w = t
  · rw [if_pos h, if_pos h]
  · rw [if_neg h, if_neg h, if_neg h]

/-- A firing that has one local output left, where its message is placed, is over (R161). -/
theorem State.serve_local {s : State} {t u o q : Nat} {f : Firing} {m : Msg} (msg : f.msg = m)
    (kind : outKind (f.acts.getD o (0, 0)) = 1) (target : wbits (f.acts.getD o (0, 0)).1 26 4 = q)
    (open_ : (s.tile t).queueShut q = false) (reply : ((s.tile t).queue q).replyOnly = m.hdr.reply)
    (request : m.hdr.reply = false) (first : ((s.tile t).queue q).spilled = [])
    (room : ((s.tile t).queue q).room m.space = true) (small : m.space ≤ ((s.tile t).queue q).qsize * 512) :
    ∃ depth, s.serve t u f [o] = s.fired t u q (m.toQueue q) depth := by
  refine ⟨(((s.onTile t fun y => y.hold q (m.toQueue q)).tile t).queue q).held.length, ?_⟩
  have placed := State.offerLocal_placed open_ reply request first room small
  unfold State.serve
  simp only [msg, kind, target, placed]
  rfl

theorem steeringFires : SteeringFires := by
  intro s t u k pri ts x v c after enabled idle
  have fires := exec_suFire enabled idle
  refine ⟨fun tokenless none_ => ?_, fun tokens none_ => ?_, fun tokens first asks none_ => ?_,
    fun tokens first drop free m l head => ?_,
    fun tokens first steer free m l q head target local_ other open_ kind request unspilled room small => ?_⟩
  · rw [fires, State.beginFiring_tokenless tokenless (Tile.suData_none none_)]
  · rw [fires, State.beginFiring_idle tokens none_]
  · rw [fires, State.beginFiring_starved tokens first (ne_of_eq_of_ne (token_action k) asks) (Tile.suData_none none_)]
  · have action : bits k.toNat 6 2 ≠ 3 := ne_of_eq_of_ne ((token_action k).trans drop) (by decide)
    rw [State.beginFiring_token tokens first action (Tile.suData_head free head), tokenOuts_drop drop] at fires
    have takes := State.taken_takes (u := u.val) k ts head
    have only := s.taken_only t u k ts
    generalize s.taken t.val u.val k ts = s0 at fires takes only
    have tile := (s0.tile_onSu t.val u.val t.val Su.discard).trans (if_pos rfl)
    generalize s0.tile t.val = z at takes tile
    refine ⟨_, fires.trans (congrArg _ (if_pos rfl)), ?_⟩
    dsimp only
    rw [tile, takes.su, if_pos rfl]
    refine ⟨(takes.queue v.iq).trans (if_pos rfl), (Tile.su_setSu _ _ _ _).trans (if_pos rfl),
      fun r hr => (takes.queue r).trans (if_neg hr),
      fun w hw => (Tile.su_setSu _ _ _ _).trans ((if_neg hw).trans ((takes.su w).trans (if_neg hw))), ?_,
      onlyTile_trans only (onlyTile_onTile _ t _)⟩
    exact (congrArg (fun q => { z with queues := x.queues, sus := x.sus, qmem := q }) takes.qmem).trans
      (Tile.rest_of_unqueued takes.rest)
  · have action : bits k.toNat 6 2 ≠ 3 := ne_of_eq_of_ne ((token_action k).trans steer) (by decide)
    rw [State.beginFiring_token tokens first action (Tile.suData_head free head), tokenOuts_steer steer] at fires
    have takes := State.taken_takes (u := u.val) k ts head
    have only := s.taken_only t u k ts
    generalize s.taken t.val u.val k ts = s0 at fires takes only
    have here : (s0.tile t.val).queue q = x.queue q := (takes.queue q).trans (if_neg other)
    have open' : (s0.tile t.val).queueShut q = false := by rw [← open_, Tile.queueShut, Tile.queueShut, here, takes.started]
    rw [← here] at kind unspilled room small
    obtain ⟨depth, served⟩ := State.serve_local (u := u.val) (f := v.begin m []) (m := m) (o := k.toNat / 16 % 4) rfl
      ((congrArg (· % 4) (Nat.div_one _)).trans local_) target.symm open' kind request unspilled room small
    have tile := s0.fired_tile t.val u.val q (m.toQueue q) depth
    have others := only.1
    refine ⟨_, fires.trans (congrArg _ ((if_neg nofun).trans served)), ?_⟩
    dsimp only
    rw [tile, if_pos rfl]
    generalize s0.tile t.val = z at takes here tile
    have held := fun r => z.queue_hold q r (m.toQueue q)
    refine ⟨?_, ?_, ?_, fun r h1 h2 => ?_, ?_, fun w hw => (tile w).trans ((if_neg hw).trans (others w hw))⟩
    · exact (held v.iq).trans ((if_neg (Ne.symm other)).trans ((takes.queue v.iq).trans (if_pos rfl)))
    · refine (congrArg (fun c : Queue => c.held.map (·.payload)) ((held q).trans (if_pos rfl))).trans ?_
      exact List.map_append.trans (congrArg (fun c : Queue => c.held.map (·.payload) ++ [m.payload]) here)
    · rw [takes.su, if_pos rfl]
      refine (Tile.su_setSu _ _ _ _).trans ((if_pos rfl).trans ?_)
      exact congrArg (fun o => { after with firing := o }) idle.symm
    · exact (held r).trans ((if_neg h2).trans ((takes.queue r).trans (if_neg h1)))
    · exact Tile.rest_of_unqueued
        ((Tile.setSu_unqueued _ _ _).trans ((Tile.hold_unqueued _ _ _).trans takes.rest))

end Sys2Proof.Machine

/-- Settles O45: the checks of a token in their order, and a firing by what its token asks for and its input queue holds. -/
theorem steeringUnits : Obligations.SteeringUnits := ⟨Sys2Proof.Machine.tokenArrival, Sys2Proof.Machine.steeringFires⟩
end

section
/-! SUPPORT. SUCFG, QCTL and the reports of a stage (R152 to R163, R170, R228, R440, R461 to R467). -/

open Sys2Proof Sys2Proof.Claims Sys2Proof.Machine

namespace Sys2Proof.Machine

/-! ### Steering configuration -/

/-- The numbers free in the scoreboard are those it lacks of 32. -/
theorem Tile.freeEnts_room (x : Tile) : 32 ≤ x.freeEnts.length + x.pad.sb.length := by
  have covers : List.range 32 ⊆ x.freeEnts ++ x.pad.sb.map Prod.fst := fun i hi => by
    by_cases used : i ∈ x.pad.sb.map Prod.fst
    · exact List.mem_append_right _ used
    · refine List.mem_append_left _ (List.mem_filter.2 ⟨hi, List.all_eq_true.2 fun p hp => ?_⟩)
      exact decide_eq_true fun same => used (List.mem_map.2 ⟨p, hp, same⟩)
  simpa using (List.subperm_of_subset List.nodup_range covers).length_le

/-- Entries for which the scoreboard has room are all registered (R126). -/
theorem Tile.register_length {x : Tile} {es : List SbEntry} (room : x.pad.sb.length + es.length ≤ 32) :
    (x.register es).1.pad.sb.length = x.pad.sb.length + es.length := by
  have free := x.freeEnts_room
  simp only [Tile.register, List.length_append, List.length_zip, List.length_take]
  omega

/-- The entries that the LAND outputs of a unit name, by output (R157). -/
def Tile.suLands (x : Tile) (u : Nat) : List (Option Handle) :=
  (x.su u).outs.map fun p => if outKind p = 3 then some (x.handle (outHandle p)) else none

/-- The standing producer of a captured entry (R152, R154). -/
def landSpan (h : Option Handle) : Option SbEntry :=
  match h with
  | some e => if e.kind = 1 ∧ e.size ≠ 0 then some ⟨lineOf e.base, lineOf (e.base + e.size - 1), true, 3, 0xFFF⟩
    else some ⟨1, 0, true, 3, 0xFFF⟩
  | none => none

theorem outKind_eq (p : Word × Word) : outKind p = p.1.toNat % 4 := congrArg (· % 4) (Nat.div_one _)

theorem length_landSpans (x : Tile) (l : List (Word × Word)) :
    ((l.map fun p => if outKind p = 3 then some (x.handle (outHandle p)) else none).filterMap landSpan).length
      = (l.filter fun p => p.1.toNat % 4 = 3).length := by
  induction l with
  | nil => rfl
  | cons p l ih =>
    rw [List.map_cons, outKind_eq]
    by_cases land : p.1.toNat % 4 = 3
    · have span : (landSpan (some (x.handle (outHandle p)))).isSome = true := by
        unfold landSpan
        dsimp only
        split <;> rfl
      obtain ⟨e, span⟩ := Option.isSome_iff_exists.1 span
      rw [if_pos land, List.filterMap_cons_some span, List.filter_cons_of_pos (by simpa using land), List.length_cons, ih,
        List.length_cons]
    · rw [if_neg land, List.filterMap_cons_none rfl, List.filter_cons_of_neg (by simpa using land), ih]

/-- Another enabled unit has the input queue, or the scoreboard lacks an entry for each LAND output (R155). -/
def Tile.suRefused (x : Tile) (u iq : Nat) : Prop :=
  (∃ w, w < 4 ∧ w ≠ u ∧ (x.su w).enable = true ∧ (x.su w).iq = iq)
    ∨ 32 < x.pad.sb.length + ((x.suLands u).filterMap landSpan).length

theorem Tile.suRefused_iff (x : Tile) (u : Nat) (v : Word) :
    ((List.range 4).any fun w => w ≠ u && (x.su w).enable && (x.su w).iq = wbits v 2 4) = true
      ∨ 32 < x.pad.sb.length + ((x.suLands u).filterMap landSpan).length ↔ x.suRefused u (v.toNat / 4 % 16) := by
  refine or_congr ?_ Iff.rfl
  simp only [List.any_eq_true, List.mem_range, Bool.and_eq_true, decide_eq_true_eq, and_assoc, ne_eq]
  exact exists_congr fun w => and_congr_right fun _ => and_congr_right fun _ => and_congr_right fun _ => Iff.rfl

/-- A write of SUCFG that is to enable a unit and cannot leaves it (R155). -/
theorem Tile.suWrite_refused {x : Tile} {u : Nat} {v : Word} (off : (x.su u).enable = false) (on : v.toNat.testBit 0 = true)
    (refused : x.suRefused u (v.toNat / 4 % 16)) : x.suWrite u v = x := by
  unfold Tile.suWrite
  dsimp only
  rw [if_neg (ne_true_of_eq_false off), bit_eq_testBit, if_pos on]
  exact if_pos ((x.suRefused_iff u v).2 refused)

/-- A write of SUCFG that enables a unit (R155). -/
theorem Tile.suWrite_enables {x : Tile} {u : Nat} {v : Word} (off : (x.su u).enable = false) (on : v.toNat.testBit 0 = true)
    (free : ¬ x.suRefused u (v.toNat / 4 % 16)) :
    x.suWrite u v =
      let r := x.register ((x.suLands u).filterMap landSpan)
      r.1.setSu u { x.su u with
        enable := true, tokenless := v.toNat.testBit 1, iq := v.toNat / 4 % 16, discards := 0, fails := 0,
        land := x.suLands u, landEnts := r.2 } := by
  unfold Tile.suWrite
  dsimp only
  rw [if_neg (ne_true_of_eq_false off), bit_eq_testBit, bit_eq_testBit, if_pos on]
  exact if_neg (mt (x.suRefused_iff u v).1 free)

/-- A write of SUCFG to a unit that stays off (R156). -/
theorem Tile.suWrite_off {x : Tile} {u : Nat} {v : Word} (off : (x.su u).enable = false) (on : v.toNat.testBit 0 = false) :
    x.suWrite u v = x.setSu u { x.su u with iq := v.toNat / 4 % 16, tokenless := v.toNat.testBit 1 } := by
  unfold Tile.suWrite
  dsimp only
  rw [if_neg (ne_true_of_eq_false off), bit_eq_testBit, bit_eq_testBit, if_neg (ne_true_of_eq_false on)]
  rfl

/-- A write of SUCFG that disables a unit (R163). -/
theorem Tile.suWrite_disables {x : Tile} {u : Nat} {v : Word} (off : (x.su u).enable = true) (on : v.toNat.testBit 0 = false) :
    x.suWrite u v = (x.suDisable u).setSu u
      { x.su u with enable := false, tokens := [], land := [], landEnts := [], iq := v.toNat / 4 % 16,
                    tokenless := v.toNat.testBit 1 } := by
  unfold Tile.suWrite
  dsimp only
  rw [if_pos off, bit_eq_testBit, bit_eq_testBit, if_neg (ne_true_of_eq_false on),
    show (x.suDisable u).su u = _ from (Tile.su_setSu _ u u _).trans (if_pos rfl)]
  rfl

/-- A write of SUCFG to a unit that stays enabled does nothing (R156). -/
theorem Tile.suWrite_stays {x : Tile} {u : Nat} {v : Word} (enabled : (x.su u).enable = true) (on : v.toNat.testBit 0 = true) :
    x.suWrite u v = x := by
  unfold Tile.suWrite
  dsimp only
  rw [if_pos enabled, bit_eq_testBit, if_pos on]

theorem Tile.regWriteLocal_suCfg (x : Tile) (v : Word) {u : Nat} (h : u < 4) : x.regWriteLocal (0x3A0 + 4 * u) v = x.suWrite u v := by
  unfold Tile.regWriteLocal
  iterate 4 rw [if_neg (by omega)]
  rw [if_pos (by omega), show (0x3A0 + 4 * u - 0x3A0) / 4 = u by omega]

theorem exec_sucfgWrite (s : State) (t : Slot) (u : Fin 4) (v : Word) :
    exec (.sucfgWrite t u v) s = .next (s.setTile t.val ((s.tile t.val).suWrite u.val v)) := by
  have inside := u.isLt
  change Host.Outcome.next (s.writeReg t.val (0x3A0 + 4 * u.val) v) = _
  rw [State.writeReg_local s t.val v (by omega), Tile.regWriteLocal_suCfg _ _ inside]

theorem steeringConfig : SteeringConfig := by
  intro s t u v x y on iq used lands
  have run := exec_sucfgWrite s t u v
  have count : ((x.suLands u.val).filterMap landSpan).length = lands := length_landSpans x y.outs
  have refusal : x.suRefused u.val iq ↔ used ∨ 32 < x.pad.sb.length + lands := by rw [← count]; rfl
  have only := onlyTile_setTile s t
  have tile := fun z => (s.tile_setTile t.val t.val z).trans (if_pos rfl)
  refine ⟨fun off on refused => ?_, fun off on free room => ?_, fun off on => ?_, fun off on => ?_, fun enabled on => ?_⟩
  · rw [run, Tile.suWrite_refused off on (refusal.2 refused)]
  · have free' := mt refusal.1 fun refused => refused.elim free (not_lt.2 room)
    rw [Tile.suWrite_enables off on free'] at run
    refine ⟨_, run, ?_⟩
    dsimp only
    rw [tile, Tile.su_setSu, if_pos rfl]
    refine ⟨rfl, rfl, rfl, rfl, rfl, rfl, ?_, fun w hw => (Tile.su_setSu _ _ _ _).trans (if_neg hw), rfl, only _⟩
    exact (Tile.register_length (count ▸ room)).trans (congrArg (x.pad.sb.length + ·) count)
  · rw [Tile.suWrite_off off on] at run
    refine ⟨_, run, ?_⟩
    dsimp only
    rw [tile]
    exact ⟨(Tile.su_setSu _ _ _ _).trans (if_pos rfl), fun w hw => (Tile.su_setSu _ _ _ _).trans (if_neg hw), rfl, only _⟩
  · rw [Tile.suWrite_disables off on] at run
    refine ⟨_, run, ?_⟩
    dsimp only
    rw [tile, Tile.su_setSu, if_pos rfl]
    refine ⟨rfl, rfl, rfl, fun p hp => ?_, fun w hw => ?_, rfl, only _⟩
    · simpa using (List.mem_filter.1 hp).2
    · exact (Tile.su_setSu _ _ _ _).trans ((if_neg hw).trans ((Tile.su_setSu _ _ _ _).trans (if_neg hw)))
  · rw [run, Tile.suWrite_stays enabled on]

/-! ### Queue control -/

theorem Tile.regWriteLocal_qctl (x : Tile) (v : Word) {q : Nat} (h : q < 16) : x.regWriteLocal (0x500 + 4 * q) v = x.qctlWrite q v := by
  unfold Tile.regWriteLocal
  iterate 6 rw [if_neg (by omega)]
  rw [if_pos (by omega), show (0x500 + 4 * q - 0x500) / 4 = q by omega]

theorem exec_qctlWrite (s : State) (t : Slot) (q : Fin 16) (v : Word) :
    exec (.qctlWrite t q v) s = .next (s.setTile t.val ((s.tile t.val).qctlWrite q.val v)) := by
  have inside := q.isLt
  change Host.Outcome.next (s.writeReg t.val (0x500 + 4 * q.val) v) = _
  rw [State.writeReg_local s t.val v (by omega), Tile.regWriteLocal_qctl _ _ inside]

/-- A queue that [0] of a write of QCTL opens, closes, or leaves as it was (R228, R229). -/
def Queue.turned (c : Queue) (on : Bool) : Queue :=
  if on then if c.isOpen ∨ c.qsize = 0 then c else { c.advance with isOpen := true } else { c with isOpen := false }

/-- A queue that holds nothing takes its mode and the size of its credits (R228). -/
def Queue.moded (c : Queue) (v : Word) : Queue :=
  if c.held.isEmpty ∧ c.spilled.isEmpty ∧ c.credits = 0 then
    { c with replyOnly := v.toNat.testBit 1, resv := min (v.toNat / 256 % 128) (min 64 (c.qsize * 8)) }
  else c

theorem Tile.qctlWrite_eq (x : Tile) (q : Nat) (v : Word) :
    x.qctlWrite q v = x.setQueue q (((x.queue q).turned (v.toNat.testBit 0)).moded v) := by
  rw [← bit_eq_testBit]
  unfold Queue.moded
  rw [← bit_eq_testBit]
  rfl

theorem Queue.moded_busy {c : Queue} (v : Word) (busy : c.held ≠ [] ∨ c.spilled ≠ [] ∨ c.credits ≠ 0) : c.moded v = c :=
  if_neg fun ⟨held, spilled, credits⟩ => by simp_all

theorem Queue.moded_empty {c : Queue} (v : Word) (held : c.held = []) (spilled : c.spilled = []) (credits : c.credits = 0) :
    c.moded v = { c with replyOnly := v.toNat.testBit 1, resv := min (v.toNat / 256 % 128) (min 64 (c.qsize * 8)) } :=
  if_pos (by simp [held, spilled, credits])

/-- Whatever a queue holds, all but its mode and the size of its credits stays. -/
theorem Queue.moded_rest (c : Queue) (v : Word) : { c.moded v with replyOnly := c.replyOnly, resv := c.resv } = c := by
  unfold Queue.moded
  split <;> rfl

theorem Queue.turned_opens {c : Queue} (closed : c.isOpen = false) (space : c.qsize ≠ 0) :
    c.turned true = { c.advance with isOpen := true } :=
  (if_pos rfl).trans (if_neg (by simp [closed, space]))

theorem Queue.turned_ignored {c : Queue} (h : c.isOpen = true ∨ c.qsize = 0) : c.turned true = c :=
  (if_pos rfl).trans (if_pos h)

/-- All that a queue holds, and its place, unless it opens. -/
theorem Queue.turned_holds {c : Queue} {on : Bool} (h : on = false ∨ c.isOpen = true ∨ c.qsize = 0) :
    { c.turned on with isOpen := c.isOpen } = c := by
  cases on with
  | false => rfl
  | true => rw [Queue.turned_ignored (h.resolve_left nofun)]

theorem Queue.turned_place (c : Queue) (on : Bool) : (c.turned on).qsize = c.qsize ∧ (c.turned on).ext = c.ext := by
  unfold Queue.turned
  split
  · split <;> exact ⟨rfl, rfl⟩
  · exact ⟨rfl, rfl⟩

theorem queueControl : QueueControl := by
  intro s t q v x y on units
  have run := exec_qctlWrite s t q v
  rw [Tile.qctlWrite_eq] at run
  have kept := (y.turned on).moded_rest v
  have place := y.turned_place on
  refine ⟨_, run, ?_⟩
  dsimp only
  rw [(s.tile_setTile _ _ _).trans (if_pos rfl), Tile.queue_setQueue, if_pos rfl]
  refine ⟨fun opens closed space => ?_, fun opens ignored => ?_, fun closes => ?_, fun stays => ⟨fun busy => ?_, fun h p c => ?_⟩,
    (congrArg Queue.qsize kept :).trans place.1, (congrArg Queue.ext kept :).trans place.2,
    fun k hk => (Tile.queue_setQueue _ _ _ _).trans (if_neg hk), rfl, onlyTile_setTile s t _⟩
  · rw [show v.toNat.testBit 0 = true from opens, Queue.turned_opens closed space, Queue.moded_empty v rfl rfl rfl]
    exact ⟨rfl, rfl, rfl, rfl, rfl, rfl, rfl, rfl⟩
  · have same := Queue.turned_ignored ignored
    rw [show on = true from opens, same] at kept
    rw [show v.toNat.testBit 0 = true from opens, same]
    exact ⟨(congrArg Queue.isOpen kept :), (congrArg Queue.gen kept :), (congrArg Queue.held kept :),
      (congrArg Queue.spilled kept :), (congrArg Queue.credits kept :)⟩
  · rw [show on = false from closes] at kept
    rw [show v.toNat.testBit 0 = false from closes]
    exact ⟨(congrArg Queue.isOpen kept :), (congrArg Queue.gen kept :), (congrArg Queue.held kept :),
      (congrArg Queue.spilled kept :), (congrArg Queue.credits kept :)⟩
  · have same := Queue.turned_holds stays
    have busy' : (y.turned on).held ≠ [] ∨ (y.turned on).spilled ≠ [] ∨ (y.turned on).credits ≠ 0 := by
      rw [← same] at busy
      exact busy
    rw [Queue.moded_busy v busy']
    exact ⟨(congrArg Queue.replyOnly same :), (congrArg Queue.resv same :)⟩
  · have same := Queue.turned_holds stays
    rw [Queue.moded_empty (c := y.turned on) v ((congrArg Queue.held same :).trans h) ((congrArg Queue.spilled same :).trans p)
      ((congrArg Queue.credits same :).trans c)]
    exact ⟨rfl, congrArg (fun n => min (v.toNat / 256 % 128) (min 64 (n * 8))) place.1⟩

/-! ### Reports of a stage -/

/-- The tile notes the epoch that it reports (R170). -/
def State.epochNoted (s : State) (t : Nat) (v : Word) : State := s.onTile t fun x => x.regWriteLocal 0x384 v

theorem State.epochNoted_tile (s : State) (t : Nat) (v : Word) (u : Nat) : (s.epochNoted t v).tile u
    = if u = t then { s.tile t with ckptEpoch := BitVec.ofNat 16 (v.toNat % 65536) } else s.tile u := by
  have low : BitVec.ofNat 16 (v.toNat % 65536) = BitVec.ofNat 16 v.toNat := BitVec.eq_of_toNat_eq (Nat.mod_mod _ _)
  rw [low]
  exact s.tile_onTile t u _

/-- A report put before those that stood, once (R170). -/
def noted (l : List (Nat × Nat)) (p : Nat × Nat) : List (Nat × Nat) := p :: l.filter (· ≠ p)

theorem mem_noted {l : List (Nat × Nat)} {p q : Nat × Nat} : q ∈ noted l p ↔ q = p ∨ q ∈ l := by
  unfold noted
  by_cases same : q = p <;> simp [same]

theorem State.reportEpoch_stageless {s : State} {t : Nat} (v : Word)
    (none_ : s.stageAt t = none ∨ (s.strand (s.strandOf t)).job = none) : s.reportEpoch t v = s.epochNoted t v := by
  unfold State.reportEpoch
  dsimp only
  split
  case h_1 stage job =>
    rcases none_ with h | h
    · cases h.symm.trans stage
    · cases h.symm.trans job
  case h_2 => rfl

/-- A stage that works for the waiting job reports for that one (R170). -/
theorem State.reportEpoch_ahead {s : State} {t k : Nat} {v : Word} (stage : s.stageAt t = some k)
    (job : (s.strand (s.strandOf t)).job.isSome = true) (next : (s.strand (s.strandOf t)).next.isSome = true)
    (halted : k ∈ (s.strand (s.strandOf t)).halted) : s.reportEpoch t v
      = (s.epochNoted t v).onStrand (s.strandOf t) fun w => { w with nextReports := noted w.nextReports (k, v.toNat % 65536) } := by
  obtain ⟨j, job⟩ := Option.isSome_iff_exists.1 job
  have stage' : (s.onTile t fun x => x.regWriteLocal 0x384 v).stageAt t = some k := stage
  have job' : ((s.onTile t fun x => x.regWriteLocal 0x384 v).strand
    ((s.onTile t fun x => x.regWriteLocal 0x384 v).strandOf t)).job = some j := job
  have epoch : wbits v 0 16 = v.toNat % 65536 := congrArg (· % 65536) (Nat.div_one _)
  unfold State.reportEpoch
  simp only [stage', job', epoch]
  exact if_pos (Bool.and_eq_true_iff.2 ⟨next, List.contains_iff_mem.2 halted⟩)

/-- The strand after a report of a stage that works for the present job (R170). -/
theorem State.reportEpoch_present {s : State} {t k : Nat} {v : Word} (stage : s.stageAt t = some k)
    (job : (s.strand (s.strandOf t)).job.isSome = true)
    (present : ¬ ((s.strand (s.strandOf t)).next.isSome = true ∧ k ∈ (s.strand (s.strandOf t)).halted)) :
    let s1 := (s.epochNoted t v).onStrand (s.strandOf t) fun w => { w with reports := noted w.reports (k, v.toNat % 65536) }
    s.reportEpoch t v = if s1.allReported (s.strandOf t) (v.toNat % 65536)
        && (s1.strand (s.strandOf t)).epoch < v.toNat % 65536 then
      s1.onStrand (s.strandOf t) fun w => { w with epoch := v.toNat % 65536, resumes := 0 } else s1 := by
  obtain ⟨j, job⟩ := Option.isSome_iff_exists.1 job
  have stage' : (s.onTile t fun x => x.regWriteLocal 0x384 v).stageAt t = some k := stage
  have job' : ((s.onTile t fun x => x.regWriteLocal 0x384 v).strand
    ((s.onTile t fun x => x.regWriteLocal 0x384 v).strandOf t)).job = some j := job
  have epoch : wbits v 0 16 = v.toNat % 65536 := congrArg (· % 65536) (Nat.div_one _)
  unfold State.reportEpoch
  simp only [stage', job', epoch]
  exact if_neg fun h => present ((Bool.and_eq_true_iff.1 h).imp_right List.contains_iff_mem.1)

/-- A state without its strands. -/
def State.unstranded (s : State) : State := { s with strands := [] }

@[simp] theorem State.onStrand_unstranded (s : State) (st : Nat) (f : Strand → Strand) :
    (s.onStrand st f).unstranded = s.unstranded := rfl

theorem State.tile_of_unstranded {s u : State} (h : s.unstranded = u.unstranded) (t : Nat) : s.tile t = u.tile t :=
  State.tile_congr (congrArg State.tiles h :) t

/-- A report changes strands, and of the tiles only the epoch of its own. -/
theorem State.reportEpoch_unstranded (s : State) (t : Nat) (v : Word) :
    (s.reportEpoch t v).unstranded = (s.epochNoted t v).unstranded := by
  unfold State.reportEpoch
  dsimp only
  split
  · split
    · exact State.onStrand_unstranded _ _ _
    · split
      · exact (State.onStrand_unstranded _ _ _).trans (State.onStrand_unstranded _ _ _)
      · exact State.onStrand_unstranded _ _ _
  · rfl

/-- What a report leaves of the strand of a stage that works for its present job (R170). -/
theorem State.reportEpoch_present_strand {s : State} {t k : Nat} {v : Word} (stage : s.stageAt t = some k)
    (job : (s.strand (s.strandOf t)).job.isSome = true)
    (present : ¬ ((s.strand (s.strandOf t)).next.isSome = true ∧ k ∈ (s.strand (s.strandOf t)).halted)) :
    let st := s.strandOf t
    let e := v.toNat % 65536
    ((s.reportEpoch t v).strand st).reports = noted (s.strand st).reports (k, e)
      ∧ ((s.reportEpoch t v).strand st).epoch = if (∀ i, i < s.secStageCount st → i = k ∨ (i, e) ∈ (s.strand st).reports)
        ∧ (s.strand st).epoch < e then e else (s.strand st).epoch := by
  intro st e
  have reported := State.reportEpoch_present (v := v) stage job present
  dsimp only at reported
  generalize hs : (s.epochNoted t v).onStrand st _ = s1 at reported
  have strand : s1.strand st = { s.strand st with reports := noted (s.strand st).reports (k, e) } :=
    hs ▸ (State.strand_onStrand _ _ _ _).trans (if_pos rfl)
  have count : s1.secStageCount st = s.secStageCount st := by
    unfold State.secStageCount
    rw [strand, ← hs]
    rfl
  have moves : (s1.allReported st e && (s1.strand st).epoch < e) = true
      ↔ (∀ i, i < s.secStageCount st → i = k ∨ (i, e) ∈ (s.strand st).reports) ∧ (s.strand st).epoch < e := by
    simp [State.allReported, count, strand, mem_noted]
  rw [reported]
  by_cases h : (s1.allReported st e && (s1.strand st).epoch < e) = true
  · rw [if_pos h, if_pos (moves.1 h), State.strand_onStrand, if_pos rfl, strand]
    exact ⟨rfl, rfl⟩
  · rw [if_neg h, if_neg (mt moves.2 h), strand]
    exact ⟨rfl, rfl⟩

theorem State.tuneReport_session {s : State} {t n : Nat} {v : Word} {j : JobId} {y : Tune}
    (owner : (s.strand (s.strandOf t)).ownerOf ((s.stageAt t).getD 0) = some j) (session : s.tuneOf j = some (n, y)) :
    s.tuneReport t v = (s.reportBucket n (v.toNat.testBit 31) (v.toNat % 2 ^ 24)).tryDone n := by
  unfold State.tuneReport
  simp only [owner, session, bit_eq_testBit, wbits, bits, pow_zero, Nat.div_one]

theorem State.tuneReport_ownerless {s : State} {t : Nat} {v : Word}
    (owner : (s.strand (s.strandOf t)).ownerOf ((s.stageAt t).getD 0) = none) : s.tuneReport t v = s := by
  unfold State.tuneReport
  simp only [owner]

/-! ### Steps of the checking -/

theorem State.closeStep_check (s : State) (t : Nat) : ∃ c, s.closeStep t = { s with check := c } := by
  unfold State.closeStep
  dsimp only
  split
  · split
    · split
      · exact ⟨_, rfl⟩
      · split <;> exact ⟨_, rfl⟩
    · exact ⟨s.check, rfl⟩
  · exact ⟨s.check, rfl⟩

theorem State.closeStep_untold {s : State} {t : Nat} (h : (s.tile t).chk.stepOpen = false ∨ (s.tile t).role = 0) :
    s.closeStep t = s := by
  unfold State.closeStep
  exact if_neg (by rcases h with h | h <;> simp [h])

/-- CHKCTL of a working step keeps ROLE 1 (R464). -/
theorem State.chkctl_role (s : State) (sh : Option Nat) : (s.chkctl 1 sh).toNat % 4 = 1 := by
  unfold State.chkctl
  cases sh with
  | none => rfl
  | some u =>
    simp only [BitVec.toNat_ofNat, fld]
    omega

/-- The step that an opening leaves on its tile (R464, R467). -/
def State.openedChk (s : State) (t : Nat) (v : Word) : Chk :=
  let x := s.tile t
  let sh := if x.role = 1 then (s.shadowTile t).filter (s.shadowFree t) else none
  ⟨if x.role = 1 then s.chkctl 1 sh else x.chk.ctl, 0, wbits v 0 24, true, if x.role = 1 then t else x.stepSource,
    if sh.isSome then 0 else x.chk.unshadowed + 1⟩

theorem State.openedChk_role (s : State) (t : Nat) (v : Word) : (s.openedChk t v).ctl.toNat % 4 = (s.tile t).role := by
  unfold State.openedChk
  dsimp only
  by_cases working : (s.tile t).role = 1
  · rw [if_pos working, working, State.chkctl_role]
  · rw [if_neg working]
    rfl

/-- The tile's step is opened. -/
def State.stepOpened (s : State) (t : Nat) (v : Word) : State := s.onTile t fun y => { y with chk := s.openedChk t v }

theorem State.openStep_eq (s : State) (t : Nat) (v : Word) : s.openStep t v =
    let s1 := (s.closeStep t).stepOpened t v
    let st := s1.strandOf t
    if s1.stageAt t = some (s1.secStageCount st - 1) ∧ (s1.strand st).job.isSome then
      s1.onStrand st fun w => { w with chunks := max w.chunks (wbits v 0 24) } else s1 := rfl

/-- An opening changes the tile's step, the check records of the step before, and at the last stage the chunks of its strand. -/
theorem State.openStep_unstranded (s : State) (t : Nat) (v : Word) :
    (s.openStep t v).unstranded = ((s.closeStep t).stepOpened t v).unstranded := by
  rw [State.openStep_eq]
  dsimp only
  split <;> rfl

theorem State.openStep_spec (s : State) (t : Nat) (v : Word) :
    let s' := s.openStep t v
    (∃ c : Chk, s'.tile t = { s.tile t with chk := c } ∧ c.chunk = v.toNat % 2 ^ 24 ∧ c.sig = 0 ∧ c.stepOpen = true
        ∧ c.ctl.toNat % 4 = (s.tile t).role)
      ∧ (∀ u, u ≠ t → s'.tile u = s.tile u) ∧ s'.check = (s.closeStep t).check
      ∧ { s' with tiles := s.tiles, check := s.check, strands := s.strands } = s := by
  obtain ⟨c, closed⟩ := s.closeStep_check t
  have left := s.openStep_unstranded t v
  have role := (s.closeStep t).openedChk_role t v
  unfold State.stepOpened at left
  generalize hk : (s.closeStep t).openedChk t v = k at left role
  rw [closed] at left role
  have tile := fun u => (State.tile_of_unstranded left u).trans (State.tile_onTile _ t u _)
  refine ⟨⟨k, (tile t).trans (if_pos rfl), ?_, ?_, ?_, role⟩, fun u hu => (tile u).trans (if_neg hu), ?_,
    congrArg (fun z : State => { z with tiles := s.tiles, check := s.check, strands := s.strands }) left⟩
  · rw [← hk]
    exact congrArg (· % 2 ^ 24) (Nat.div_one _)
  · rw [← hk]; rfl
  · rw [← hk]; rfl
  · rw [closed]
    exact (congrArg State.check left :)

theorem stageReports : StageReports := by
  intro s t v x st e
  have left := s.reportEpoch_unstranded t.val v
  have tile := fun u => (State.tile_of_unstranded left u).trans (s.epochNoted_tile t.val v u)
  refine ⟨⟨s.reportEpoch t.val v, rfl, (tile t.val).trans (if_pos rfl), fun u hu => (tile u).trans (if_neg hu),
      fun k stage job next halted => ?_, fun k stage job present => State.reportEpoch_present_strand stage job present,
      fun none_ => ?_, congrArg (fun z : State => { z with tiles := s.tiles, strands := s.strands }) left⟩,
    fun j n y owner session => congrArg Host.Outcome.next (State.tuneReport_session owner session),
    fun owner => congrArg Host.Outcome.next (State.tuneReport_ownerless owner),
    fun waits => congrArg Host.Outcome.next (if_pos waits), fun opens => ?_⟩
  · rw [State.reportEpoch_ahead stage job next halted, State.strand_onStrand, if_pos rfl]
    exact ⟨rfl, rfl, rfl⟩
  · rw [State.reportEpoch_stageless v none_]
    rfl
  · obtain ⟨⟨c, mine, chunk, sig, stepOpen, role⟩, others, check, rest⟩ := s.openStep_spec t.val v
    refine ⟨_, congrArg Host.Outcome.next (if_neg (ne_true_of_eq_false opens)), ?_⟩
    dsimp only
    rw [mine]
    exact ⟨chunk, sig, stepOpen, role, rfl, others, fun untold => check.trans (by rw [State.closeStep_untold untold]), rest⟩

end Sys2Proof.Machine

/-- Settles O43: what a write of SUCFG or QCTL makes of its unit or queue, what an epoch report leaves of the strand, and an
opened step. -/
theorem queueAndStage : Obligations.QueueAndStage :=
  ⟨Sys2Proof.Machine.steeringConfig, Sys2Proof.Machine.queueControl, Sys2Proof.Machine.stageReports⟩
end

section
/-! SUPPORT. What work on the stages of a strand leaves of the rest, and what a sequence that is stopped leaves: where stages lie,
plans, answers and entries of the dictionary (R106, R141 to R145, R172, R199, R219, R460). -/

open Sys2Proof Sys2Proof.Claims Sys2Proof.Machine

namespace Sys2Proof.Machine

/-! ### Work on stages -/

/-- A state without its tiles, the nets between them and the free values drawn: what work on stages leaves. -/
def State.unstaged (s : State) : State := { s with tiles := [], net := State.reset.net, freeCount := 0 }

theorem foldl_unstaged {α : Type} {f : State → α → State} (h : ∀ s x, (f s x).unstaged = s.unstaged) (l : List α) (s : State) :
    (l.foldl f s).unstaged = s.unstaged := foldl_part State.unstaged h l s

theorem State.strands_of_unstaged {s u : State} (h : s.unstaged = u.unstaged) : s.strands = u.strands := (congrArg State.strands h :)
theorem State.dict_of_unstaged {s u : State} (h : s.unstaged = u.unstaged) : s.dict = u.dict := (congrArg State.dict h :)

theorem State.strand_congr {s u : State} (h : s.strands = u.strands) (st : Nat) : s.strand st = u.strand st := by
  rw [State.strand, State.strand, h]

theorem State.get_congr {s u : State} (h : s.dict = u.dict) (k : Nat) : s.get k = u.get k := by
  rw [State.get, State.get, h]

@[simp] theorem State.onTile_unstaged (s : State) (t : Nat) (f : Tile → Tile) : (s.onTile t f).unstaged = s.unstaged := rfl
@[simp] theorem State.forgetArrivals_unstaged (s : State) (t : Nat) : (s.forgetArrivals t).unstaged = s.unstaged := rfl
@[simp] theorem State.setBarrier_unstaged (s : State) (b : Nat) (v : Barrier) : (s.setBarrier b v).unstaged = s.unstaged := rfl
@[simp] theorem State.mapStage_unstaged (s : State) (st k t : Nat) : (s.mapStage st k t).unstaged = s.unstaged := rfl
@[simp] theorem State.ckptHandles_unstaged (s : State) (st k t : Nat) : (s.ckptHandles st k t).unstaged = s.unstaged := rfl
@[simp] theorem State.nodeSend_unstaged (s : State) (m : Msg) (j : Option JobId) (r : Option FlowRef) :
    (s.nodeSend m j r).unstaged = s.unstaged := rfl

@[simp] theorem State.setMembers_unstaged (s : State) (st : Nat) : (s.setMembers st).unstaged = s.unstaged :=
  (foldl_unstaged (fun _ _ => State.setBarrier_unstaged _ _ _) _ _).trans rfl

@[simp] theorem State.writeMap_unstaged (s : State) (st : Nat) : (s.writeMap st).unstaged = s.unstaged :=
  foldl_unstaged (fun _ _ => State.mapStage_unstaged _ _ _ _) _ _

@[simp] theorem State.loadStage_unstaged (s : State) (st k t : Nat) : (s.loadStage st k t).unstaged = s.unstaged := by
  unfold State.loadStage
  split
  · rfl
  · exact (State.ckptHandles_unstaged _ _ _ _).trans (State.onTile_unstaged _ _ _)

@[simp] theorem State.configStage_unstaged (s : State) (st k t : Nat) : (s.configStage st k t).unstaged = s.unstaged := by
  unfold State.configStage
  split
  · rfl
  · exact State.onTile_unstaged _ _ _

@[simp] theorem State.jobHandles_unstaged (s : State) (st k t : Nat) (h : JobHold) :
    (s.jobHandles st k t h).unstaged = s.unstaged := State.onTile_unstaged _ _ _

@[simp] theorem State.tuneHandles_unstaged (s : State) (t : Nat) (j : Option JobId) :
    (s.tuneHandles t j).unstaged = s.unstaged := by
  unfold State.tuneHandles
  split
  · rfl
  · exact State.onTile_unstaged _ _ _

@[simp] theorem State.sendJobBlock_unstaged (s : State) (t n : Nat) (shape : List Nat) (place : Nat × Nat) :
    (s.sendJobBlock t n shape place).unstaged = s.unstaged := (State.nodeSend_unstaged _ _ _ _).trans rfl

@[simp] theorem State.startStage_unstaged (s : State) (st k t entry : Nat) : (s.startStage st k t entry).unstaged = s.unstaged := by
  unfold State.startStage
  dsimp only
  split
  · exact State.onTile_unstaged _ _ _
  · split <;> split <;> simp

@[simp] theorem State.restartStages_unstaged (s : State) (st : Nat) : (s.restartStages st).unstaged = s.unstaged := by
  refine foldl_unstaged (fun s p => ?_) _ _
  dsimp only
  split
  · split
    · rfl
    · simp
  · rfl

@[simp] theorem State.switchStage_unstaged (s : State) (st k t : Nat) : (s.switchStage st k t).unstaged = s.unstaged := by
  unfold State.switchStage
  split
  · rfl
  · simp

/-! ### Where stages lie -/

/-- Slots that carry stages, and plans: with the strands, all that the places of stages and their records come from. -/
def State.layout (s : State) : List (Nat × Word) × List (Nat × Nat) × List Nat × List Plan :=
  (s.repair, s.spares, s.check.fencing, s.plans)

theorem State.layout_of_unstaged {s u : State} (h : s.unstaged = u.unstaged) : s.layout = u.layout := (congrArg State.layout h :)

theorem State.halfSlots_congr {s u : State} (h : s.layout = u.layout) (st : Nat) : s.halfSlots st = u.halfSlots st := by
  obtain ⟨repair, spares, fencing, -⟩ : s.repair = u.repair ∧ s.spares = u.spares ∧ s.check.fencing = u.check.fencing
      ∧ s.plans = u.plans := by simpa only [State.layout, Prod.mk.injEq] using h
  unfold State.halfSlots State.spareSlot State.slotEnabled State.slotFrost State.repairWord
  rw [repair, spares, fencing]

theorem State.planFile_congr {s u : State} (h : s.layout = u.layout) (n : Nat) : s.planFile n = u.planFile n := by
  unfold State.planFile State.plan
  rw [show s.plans = u.plans from congrArg (fun l => l.2.2.2) h]

theorem State.stageSlots_congr {s u : State} (h : s.layout = u.layout) {st : Nat} (strand : s.strand st = u.strand st) :
    s.stageSlots st = u.stageSlots st := by
  unfold State.stageSlots
  rw [strand]
  simp only [State.halfSlots_congr h]

theorem State.stageRec_congr {s u : State} (h : s.layout = u.layout) {st : Nat} (strand : s.strand st = u.strand st) (k : Nat) :
    s.stageRec st k = u.stageRec st k := by
  unfold State.stageRec
  simp only [strand, State.planFile_congr h]

/-- The slots of a half-row differ. -/
theorem hslot_injective {st i j : Nat} (hi : i < 13) (hj : j < 13) (h : hslot st i = hslot st j) : i = j := by
  unfold hslot at h
  split at h <;> omega

theorem hslot_next {st i j : Nat} (hi : i < 13) (hj : j < 13) : hslot st i ≠ hslot (st + 1) j := by
  unfold hslot
  split <;> split <;> omega

theorem State.halfSlots_nodup (s : State) (st : Nat) : (s.halfSlots st).Nodup :=
  (List.Nodup.map_on (fun _ hi _ hj => hslot_injective (List.mem_range.1 hi) (List.mem_range.1 hj)) List.nodup_range).filter _

theorem State.mem_halfSlots {s : State} {st t : Nat} (h : t ∈ s.halfSlots st) : ∃ i, i < 13 ∧ t = hslot st i := by
  obtain ⟨i, hi, rfl⟩ := List.mem_map.1 (List.mem_of_mem_filter h)
  exact ⟨i, List.mem_range.1 hi, rfl⟩

/-- No slot carries two stages of a strand (R145, R148). -/
theorem State.stageSlots_nodup (s : State) (st : Nat) : (s.stageSlots st).Nodup := by
  unfold State.stageSlots
  split
  · exact s.halfSlots_nodup st
  · dsimp only
    refine List.Nodup.append (List.nodup_reverse.2 (s.halfSlots_nodup _)) (s.halfSlots_nodup _) fun t west east => ?_
    obtain ⟨i, hi, at_⟩ := State.mem_halfSlots (List.mem_reverse.1 west)
    obtain ⟨j, hj, at'⟩ := State.mem_halfSlots east
    exact hslot_next hi hj (at_.symm.trans at')

/-! ### Folds over the stages of a strand -/

/-- A step over stages that leaves every tile but that of its own stage. -/
def OwnTile (f : State → Nat × Nat → State) : Prop := ∀ s p u, u ≠ p.1 → (f s p).tile u = s.tile u

theorem foldl_otherTile {f : State → Nat × Nat → State} (own : OwnTile f) {l : List (Nat × Nat)} {u : Nat}
    (other : ∀ p ∈ l, p.1 ≠ u) (s : State) : (l.foldl f s).tile u = s.tile u := by
  refine foldl_view (fun s => s.tile u) (fun s p hp => own s p u ?_) s
  exact (other p hp).symm

/-- A fold over distinct slots leaves of each tile what its own step makes of it, in a state that agrees with the first in all
that every step keeps. -/
theorem foldl_ownTile {β : Type} {f : State → Nat × Nat → State} (own : OwnTile f) (g : State → β)
    (keeps : ∀ s p, g (f s p) = g s) {l : List (Nat × Nat)} (once : (l.map Prod.fst).Nodup) {p : Nat × Nat} (mem : p ∈ l)
    (s : State) : ∃ u, g u = g s ∧ u.tile p.1 = s.tile p.1 ∧ (l.foldl f s).tile p.1 = (f u p).tile p.1 := by
  induction l generalizing s with
  | nil => cases mem
  | cons q l ih =>
    obtain ⟨new, once⟩ := List.nodup_cons.1 once
    rw [List.foldl_cons]
    rcases List.mem_cons.1 mem with rfl | mem
    · exact ⟨s, rfl, rfl, foldl_otherTile own (fun r hr same => new (List.mem_map.2 ⟨r, hr, same⟩)) _⟩
    · obtain ⟨u, kept, still, left⟩ := ih once mem (f s q)
      refine ⟨u, kept.trans (keeps s q), still.trans (own s q p.1 ?_), left⟩
      exact fun same => new (same ▸ List.mem_map_of_mem mem)

theorem State.stages_once (s : State) (st : Nat) : ((s.stageSlots st).zipIdx.map Prod.fst).Nodup := by
  rw [List.zipIdx_map_fst]
  exact s.stageSlots_nodup st

theorem mem_stages {l : List Nat} {k t : Nat} (h : l[k]? = some t) : (t, k) ∈ l.zipIdx := List.mem_zipIdx_iff_getElem?.2 h

theorem stages_other {l : List Nat} {u : Nat} (h : u ∉ l) : ∀ p ∈ l.zipIdx, p.1 ≠ u :=
  fun _ hp same => h (same ▸ List.fst_mem_of_mem_zipIdx hp)

theorem State.mem_stageSlots {s : State} {st k t : Nat} (h : s.stageSlot st k = some t) : t ∈ s.stageSlots st :=
  List.mem_of_getElem? h

/-! ### Work that stops -/

/-- The entries that stopped work counts and sets, and those that telling of an event writes. -/
def workKey (k : Nat) : Bool := sideKey k || [K.skimAbandoned, K.priorityClassState, K.priorityCloseCount].contains k

/-- The answer of each descriptor in flight. -/
def State.answers (s : State) (j : JobId) : Option (Option Answer) := (s.desc j).map (·.answer)

/-- Where stages lie, the plans, the answers, and the entries of the dictionary but those of `workKey`. -/
def State.ground (s : State) : (List (Nat × Word) × List (Nat × Nat) × List Nat × List Plan)
    × (JobId → Option (Option Answer)) × (Nat → Nat) :=
  (s.layout, s.answers, fun k => if workKey k then 0 else s.get k)

theorem State.layout_of_ground {s u : State} (h : s.ground = u.ground) : s.layout = u.layout := congrArg Prod.fst h

theorem State.answers_of_ground {s u : State} (h : s.ground = u.ground) : s.answers = u.answers := congrArg (fun g => g.2.1) h

theorem State.get_of_ground {s u : State} (h : s.ground = u.ground) {k : Nat} (plain : workKey k = false) : s.get k = u.get k := by
  have entry := congrArg (fun g => g.2.2 k) h
  simpa only [State.ground, plain, Bool.false_eq_true, if_false] using entry

theorem State.ground_congr {s u : State} (layout : s.layout = u.layout) (host : s.host = u.host)
    (get : ∀ k, workKey k = false → s.get k = u.get k) : s.ground = u.ground := by
  have answers : s.answers = u.answers := funext fun j => by rw [State.answers, State.answers, State.desc_congr host]
  have entries : (fun k => if workKey k then 0 else s.get k) = fun k => if workKey k then 0 else u.get k := funext fun k => by
    cases plain : workKey k
    · exact get k plain
    · rfl
  rw [State.ground, State.ground, layout, answers, entries]

theorem State.ground_of_unstaged {s u : State} (h : s.unstaged = u.unstaged) : s.ground = u.ground :=
  State.ground_congr (State.layout_of_unstaged h) (congrArg State.host h :) fun k _ => State.get_congr (State.dict_of_unstaged h) k

theorem foldl_ground {α : Type} {f : State → α → State} (h : ∀ s x, (f s x).ground = s.ground) (l : List α) (s : State) :
    (l.foldl f s).ground = s.ground := foldl_part State.ground h l s

@[simp] theorem State.ite_ground (c : Prop) [Decidable c] (a b : State) :
    (if c then a else b).ground = if c then a.ground else b.ground := apply_ite State.ground c a b

@[simp] theorem State.onTile_ground (s : State) (t : Nat) (f : Tile → Tile) : (s.onTile t f).ground = s.ground := rfl
@[simp] theorem State.setStrand_ground (s : State) (st : Nat) (v : Strand) : (s.setStrand st v).ground = s.ground := rfl
@[simp] theorem State.onStrand_ground (s : State) (st : Nat) (f : Strand → Strand) : (s.onStrand st f).ground = s.ground := rfl
@[simp] theorem State.dropWatch_ground (s : State) (ts : List Nat) : (s.dropWatch ts).ground = s.ground := rfl
@[simp] theorem State.forgetArrivals_ground (s : State) (t : Nat) : (s.forgetArrivals t).ground = s.ground := rfl
@[simp] theorem State.newEpoch_ground (s : State) (st : Nat) : (s.newEpoch st).ground = s.ground := rfl
@[simp] theorem State.setMembers_ground (s : State) (st : Nat) : (s.setMembers st).ground = s.ground :=
  State.ground_of_unstaged (s.setMembers_unstaged st)
@[simp] theorem State.writeMap_ground (s : State) (st : Nat) : (s.writeMap st).ground = s.ground :=
  State.ground_of_unstaged (s.writeMap_unstaged st)

@[simp] theorem State.beginSeq_ground (s : State) (st : Nat) (j : JobId) (n : Nat) (shape : List Nat) (sec : Nat)
    (place : Nat × Nat) : (s.beginSeq st j n shape sec place).ground = s.ground := rfl

theorem State.bump_ground {s : State} {k : Nat} (work : workKey k = true) (n : Nat) : (s.bump k n).ground = s.ground :=
  State.ground_congr rfl rfl fun j plain => State.get_bump_other s k n fun same => by simp [same, work] at plain

theorem State.set_ground {s : State} {k : Nat} (work : workKey k = true) (v : Nat) : (s.set k v).ground = s.ground :=
  State.ground_congr rfl rfl fun j plain => (s.get_set k j v).trans (if_neg fun same => by simp [same, work] at plain)

@[simp] theorem State.raise_ground (s : State) (code : Nat) (arg : List Byte) : (s.raise code arg).ground = s.ground := by
  obtain ⟨rest, -, get⟩ := State.substance_iff.1 (s.raise_substance code arg)
  refine State.ground_congr (congrArg State.layout rest :) (congrArg State.host rest :) fun k plain => get k ?_
  exact (Bool.or_eq_false_iff.1 plain).1

/-- A change of descriptors that leaves index and answer of each. -/
theorem State.answers_onDesc (s : State) (j : JobId) {f : Desc → Desc} (idx : ∀ d, (f d).idx = d.idx)
    (answer : ∀ d, (f d).answer = d.answer) : (s.onDesc j f).answers = s.answers := by
  funext i
  unfold State.answers State.desc State.onDesc
  rw [State.chan_onChan]
  by_cases same : i.1 = j.1
  · have at_ : (fun d : Desc => decide (d.idx = i.2)) ∘ (fun d => if d.idx = j.2 then f d else d) = fun d => decide (d.idx = i.2) := by
      funext d
      by_cases h : d.idx = j.2 <;> simp [h, idx]
    rw [if_pos same, List.find?_map, at_, same, Option.map_map]
    refine congrArg (fun g => Option.map g _) (funext fun d => ?_)
    by_cases h : d.idx = j.2 <;> simp [h, answer]
  · rw [if_neg same]

@[simp] theorem State.onHold_ground (s : State) (j : JobId) (f : JobHold → JobHold) : (s.onHold j f).ground = s.ground := by
  have answers : (s.onHold j f).answers = s.answers := s.answers_onDesc j (fun _ => rfl) fun _ => rfl
  exact congrArg (fun a => (s.layout, a, fun k => if workKey k then 0 else s.get k)) answers

@[simp] theorem State.keepMstat_ground (s : State) (t : Nat) : (s.keepMstat t).ground = s.ground := by
  unfold State.keepMstat
  split <;> simp

@[simp] theorem State.gatherMstat_ground (s : State) (j : JobId) : (s.gatherMstat j).ground = s.ground :=
  foldl_ground (fun s t => by simp) _ _

@[simp] theorem State.abandonSlice_ground (s : State) (t : Nat) : (s.abandonSlice t).ground = s.ground := by
  unfold State.abandonSlice
  split
  · rfl
  · exact (State.bump_ground (s := s.onTile t Tile.endSlice) (k := K.skimAbandoned) (by decide) 1).trans rfl

@[simp] theorem State.resetOne_ground (s : State) (t : Nat) : (s.resetOne t).ground = s.ground := by
  simp [State.resetOne]

@[simp] theorem State.resetTiles_ground (s : State) (ts : List Nat) : (s.resetTiles ts).ground = s.ground :=
  (foldl_ground State.resetOne_ground ts _).trans (s.dropWatch_ground ts)

@[simp] theorem State.closeP_ground (s : State) : s.closeP.ground = s.ground := by
  unfold State.closeP
  dsimp only
  split
  · rfl
  · exact (State.bump_ground (by decide) 1).trans (State.set_ground (by decide) 1)

@[simp] theorem State.resetStrand_ground (s : State) (st : Nat) : (s.resetStrand st).ground = s.ground := by
  simp [State.resetStrand]

@[simp] theorem State.tidyGroup_ground (s : State) (g : Nat) : (s.tidyGroup g).ground = s.ground := by
  unfold State.tidyGroup State.onTiles
  dsimp only
  split
  · exact (State.onStrand_ground _ _ _).trans (foldl_ground (fun s t => s.onTile_ground t _) _ _)
  · rfl

@[simp] theorem State.tidyGroups_ground (s : State) : s.tidyGroups.ground = s.ground := foldl_ground State.tidyGroup_ground _ _

@[simp] theorem State.idleStrand_ground (s : State) (st : Nat) : (s.idleStrand st).ground = s.ground := by
  simp [State.idleStrand]

@[simp] theorem State.dropSeq_ground (s : State) (st : Nat) : (s.dropSeq st).ground = s.ground := by
  unfold State.dropSeq
  dsimp only
  split <;> simp

@[simp] theorem State.dropNext_ground (s : State) (st : Nat) : (s.dropNext st).ground = s.ground := by
  simp [State.dropNext]

@[simp] theorem State.leaveStrand_ground (s : State) (st : Nat) (j : JobId) : (s.leaveStrand st j).ground = s.ground := by
  simp [State.leaveStrand]

@[simp] theorem State.stopSeqs_ground (s : State) (j : JobId) : (s.stopSeqs j).ground = s.ground :=
  foldl_ground (fun s st => s.leaveStrand_ground st j) _ _

/-- A job that ends leaves all of the ground but its answer. -/
theorem State.endJob_ground (s : State) (j : JobId) (a : Answer) :
    (s.endJob j a).ground = ((s.gatherMstat j).answer j a).ground := (State.stopSeqs_ground _ j).trans rfl

theorem State.endJob_get (s : State) (j : JobId) (a : Answer) {k : Nat} (plain : workKey k = false) :
    (s.endJob j a).get k = s.get k := by
  have answered : ((s.gatherMstat j).answer j a).get k = (s.gatherMstat j).get k := rfl
  exact (State.get_of_ground (s.endJob_ground j a) plain).trans (answered.trans (State.get_of_ground (s.gatherMstat_ground j) plain))

/-- The descriptor of a job that ends is answered (R347). -/
theorem answered_of_endJob {s u v : State} {j : JobId} {a : Answer} (before : u.answers = s.answers)
    (after : v.answers = (u.endJob j a).answers) : Answered s v j a.status := by
  intro d open_
  obtain ⟨found, unanswered⟩ := State.desc_of_openDesc open_
  have pending : (u.gatherMstat j).answers j = some none := by
    rw [State.answers_of_ground (u.gatherMstat_ground j), before, State.answers, found, Option.map_some, unanswered]
  obtain ⟨e, found, unanswered⟩ := Option.map_eq_some_iff.1 pending
  have done := (congrFun (after.trans (State.answers_of_ground (u.endJob_ground j a))) j).trans
    (congrArg (Option.map Desc.answer) (State.desc_answer _ j a))
  rw [found, Option.map_some, Option.map_some, if_neg (by simp [unanswered])] at done
  obtain ⟨e', found', answer⟩ := Option.map_eq_some_iff.1 done
  exact ⟨e', _, found', answer, rfl⟩

/-! ### Strands of stopped work -/

@[simp] theorem State.keepMstat_strands (s : State) (t : Nat) : (s.keepMstat t).strands = s.strands := by
  unfold State.keepMstat
  split <;> rfl

@[simp] theorem State.gatherMstat_strands (s : State) (j : JobId) : (s.gatherMstat j).strands = s.strands :=
  foldl_part State.strands (fun s t => by split <;> simp) _ _

@[simp] theorem State.abandonSlice_strands (s : State) (t : Nat) : (s.abandonSlice t).strands = s.strands := by
  unfold State.abandonSlice
  split <;> rfl

@[simp] theorem State.resetOne_strands (s : State) (t : Nat) : (s.resetOne t).strands = s.strands := by
  unfold State.resetOne
  rw [State.strands_of_unstaged (State.onTile_unstaged _ t Tile.resetTile), State.abandonSlice_strands,
    State.strands_of_unstaged (State.forgetArrivals_unstaged _ t), State.keepMstat_strands]

@[simp] theorem State.resetTiles_strands (s : State) (ts : List Nat) : (s.resetTiles ts).strands = s.strands :=
  (foldl_part State.strands State.resetOne_strands ts _).trans rfl

@[simp] theorem State.closeP_strands (s : State) : s.closeP.strands = s.strands := by
  unfold State.closeP
  dsimp only
  split <;> rfl

@[simp] theorem State.resetStrand_strands (s : State) (st : Nat) : (s.resetStrand st).strands = s.strands :=
  (State.closeP_strands _).trans (State.resetTiles_strands _ _)

@[simp] theorem State.raise_strands (s : State) (code : Nat) (arg : List Byte) : (s.raise code arg).strands = s.strands :=
  State.strands_of_substance (s.raise_substance code arg)

/-- The strand is as it was, or a shadow strand that has become free (R460). -/
def Strand.Tidied (v w : Strand) : Prop := w = v ∨ v.role = 2 ∧ w = v.toIdle

theorem Strand.Tidied.refl (v : Strand) : v.Tidied v := .inl rfl

theorem Strand.Tidied.trans {u v w : Strand} (h : u.Tidied v) (g : v.Tidied w) : u.Tidied w := by
  rcases h with rfl | ⟨shadow, rfl⟩
  · exact g
  · rcases g with rfl | ⟨again, -⟩
    · exact .inr ⟨shadow, rfl⟩
    · cases again

theorem Strand.Tidied.eq_of_role {v w : Strand} (h : v.Tidied w) (role : v.role ≠ 2) : w = v :=
  h.resolve_right fun shadow => role shadow.1

theorem State.onTiles_strands (s : State) (ts : List Nat) (f : Tile → Tile) : (s.onTiles ts f).strands = s.strands :=
  foldl_part State.strands (f := fun s t => s.onTile t f) (fun s t => State.strands_of_unstaged (s.onTile_unstaged t f)) ts s

theorem State.tidyGroup_tidied (s : State) (g st : Nat) : (s.strand st).Tidied ((s.tidyGroup g).strand st) := by
  unfold State.tidyGroup
  dsimp only
  split
  · rename_i shadow
    rw [State.strand_onStrand]
    have same := fun st => State.strand_congr (s.onTiles_strands (s.stageSlots g) fun t : Tile => t.restartStage []) st
    split
    · rename_i at_
      have role : (s.strand g).role = 2 := by simp only [Bool.and_eq_true, decide_eq_true_eq] at shadow; exact shadow.1.1
      exact .inr ⟨at_ ▸ role, by rw [same, at_]⟩
    · exact .inl (same st)
  · exact .refl _

theorem foldl_tidied {α : Type} {f : State → α → State} {st : Nat}
    (h : ∀ (s : State) (x : α), (s.strand st).Tidied ((f s x).strand st))
    (l : List α) (s : State) : (s.strand st).Tidied ((l.foldl f s).strand st) := by
  induction l generalizing s with
  | nil => exact .refl _
  | cons x l ih => exact (h s x).trans (ih (f s x))

theorem State.tidyGroups_tidied (s : State) (st : Nat) : (s.strand st).Tidied (s.tidyGroups.strand st) :=
  foldl_tidied (fun s g => s.tidyGroup_tidied g st) _ s

theorem State.idleStrand_strand (s : State) (st : Nat) : (s.idleStrand st).strand st = (s.strand st).toIdle := by
  have idle := (s.strand_onStrand st st Strand.toIdle).trans (if_pos rfl)
  have tidied := (s.onStrand st Strand.toIdle).tidyGroups_tidied st
  rw [idle] at tidied
  exact tidied.eq_of_role nofun

theorem State.idleStrand_other (s : State) {st w : Nat} (other : w ≠ st) : (s.strand w).Tidied ((s.idleStrand st).strand w) := by
  have still := (s.strand_onStrand st w Strand.toIdle).trans (if_neg other)
  have tidied := (s.onStrand st Strand.toIdle).tidyGroups_tidied w
  rwa [still] at tidied

theorem State.newEpoch_strand (s : State) (st w : Nat) :
    (s.newEpoch st).strand w = if w = st then { s.strand st with checkEpoch := s.check.epochs + 1 } else s.strand w :=
  State.strand_onStrand { s with check := { s.check with epochs := s.check.epochs + 1 } } st w _

theorem State.beginSeq_other (s : State) {st w : Nat} (other : w ≠ st) (j : JobId) (n : Nat) (shape : List Nat) (sec : Nat)
    (place : Nat × Nat) : (s.beginSeq st j n shape sec place).strand w = s.strand w := by
  unfold State.beginSeq
  dsimp only
  rw [State.newEpoch_strand, if_neg other, State.strand_onStrand, if_neg other]

/-- A sequence that is dropped with none waiting leaves its strand idle (R172). -/
theorem State.dropSeq_idle {s : State} {st : Nat} (next : (s.strand st).next = none) :
    (s.dropSeq st).strand st = (s.strand st).toIdle := by
  have same := State.strand_congr (s.resetStrand_strands st) st
  unfold State.dropSeq
  dsimp only
  rw [same, next]
  exact (State.idleStrand_strand _ st).trans (by rw [same])

theorem State.dropSeq_other (s : State) {st w : Nat} (other : w ≠ st) : (s.strand w).Tidied ((s.dropSeq st).strand w) := by
  have same := State.strand_congr (s.resetStrand_strands st) w
  unfold State.dropSeq
  dsimp only
  split
  · rw [← same]
    exact State.idleStrand_other _ other
  · refine .inl ?_
    split
    · rw [State.strand_onStrand, if_neg other, State.beginSeq_other _ other, State.strand_setStrand, if_neg other, same]
    · rw [State.beginSeq_other _ other, State.strand_setStrand, if_neg other, same]

/-- What is left of a strand whose waiting sequence is given up while it runs (R200, R201). -/
def Strand.alone (v : Strand) : Strand :=
  { v with next := none, nextHalted := [], nextShape := [], nextReports := [], again := none, streaming := none, primed := 0 }

theorem State.dropNext_running {s : State} {st : Nat} (phase : (s.strand st).phase = .running) :
    (s.dropNext st).strand st = (s.strand st).alone := by
  unfold State.dropNext
  dsimp only
  rw [State.strand_onStrand, if_pos rfl, State.strand_congr (State.resetTiles_strands _ _) st]
  simp only [phase, decide_true, Bool.true_or, if_true, Strand.alone]

theorem State.dropNext_other (s : State) {st w : Nat} (other : w ≠ st) : (s.dropNext st).strand w = s.strand w := by
  unfold State.dropNext
  dsimp only
  rw [State.strand_onStrand, if_neg other, State.strand_congr (State.resetTiles_strands _ _) w]

theorem State.leaveStrand_of_next {s : State} {st : Nat} {j : JobId} (next : (s.strand st).next = some j) :
    s.leaveStrand st j = if ((s.dropNext st).strand st).job = some j then (s.dropNext st).dropSeq st else s.dropNext st := by
  unfold State.leaveStrand
  rw [if_pos next]

theorem State.leaveStrand_of_free {s : State} {st : Nat} {j : JobId} (free : (s.strand st).next ≠ some j) :
    s.leaveStrand st j = if (s.strand st).job = some j then s.dropSeq st else s := by
  unfold State.leaveStrand
  rw [if_neg free]

theorem State.leaveStrand_other (s : State) (j : JobId) {st w : Nat} (other : w ≠ st) :
    (s.strand w).Tidied ((s.leaveStrand st j).strand w) := by
  by_cases next : (s.strand st).next = some j
  · rw [State.leaveStrand_of_next next, ← s.dropNext_other other]
    split
    · exact State.dropSeq_other _ other
    · exact .refl _
  · rw [State.leaveStrand_of_free next]
    split
    · exact State.dropSeq_other _ other
    · exact .refl _

/-- A strand that runs the job nowhere is not changed. -/
theorem State.leaveStrand_free {s : State} {st : Nat} {j : JobId} (job : (s.strand st).job ≠ some j)
    (next : (s.strand st).next ≠ some j) : s.leaveStrand st j = s := by
  rw [State.leaveStrand_of_free next, if_neg job]

theorem State.leaveStrand_last {s : State} {st : Nat} {j : JobId} (job : (s.strand st).job = some j)
    (next : (s.strand st).next = none) : (s.leaveStrand st j).strand st = (s.strand st).toIdle := by
  have free : (s.strand st).next ≠ some j := by simp [next]
  rw [State.leaveStrand_of_free free, if_pos job, State.dropSeq_idle next]

theorem State.leaveStrand_waiting {s : State} {st : Nat} {j : JobId} (job : (s.strand st).job ≠ some j)
    (next : (s.strand st).next = some j) (phase : (s.strand st).phase = .running) :
    (s.leaveStrand st j).strand st = (s.strand st).alone := by
  have left := State.dropNext_running phase
  have other : ((s.dropNext st).strand st).job ≠ some j := left ▸ job
  rw [State.leaveStrand_of_next next, if_neg other, left]

/-- A fold in which the step at `x` turns one property into another, which every step then keeps. -/
theorem foldl_turns {α : Type} [DecidableEq α] {f : State → α → State} {before after : State → Prop} {x : α}
    (waits : ∀ s y, y ≠ x → before s → before (f s y)) (turns : ∀ s, before s → after (f s x))
    (stays : ∀ s y, after s → after (f s y)) {l : List α} (mem : x ∈ l) {s : State} (h : before s) : after (l.foldl f s) := by
  have kept : ∀ (l : List α) (s : State), after s → after (l.foldl f s) := fun l => by
    induction l with
    | nil => exact fun _ h => h
    | cons y l ih => exact fun s h => ih _ (stays s y h)
  induction l generalizing s with
  | nil => cases mem
  | cons y l ih =>
    by_cases at_ : y = x
    · subst at_
      exact kept l _ (turns s h)
    · exact ih ((List.mem_cons.1 mem).resolve_left (Ne.symm at_)) (waits s y at_ h)

/-- A job that ends leaves each strand as it was or, a shadow of a chunk's check, free, until its own turn comes. -/
theorem State.leaveStrand_tidied {s : State} {w : Nat} (j : JobId) {st : Nat} (free : (s.strand w).job ≠ some j)
    (next : (s.strand w).next ≠ some j) : (s.strand w).Tidied ((s.leaveStrand st j).strand w) := by
  by_cases at_ : w = st
  · subst at_
    rw [State.leaveStrand_free free next]
    exact .refl _
  · exact s.leaveStrand_other j at_

theorem State.endJob_strands (s : State) (j : JobId) (a : Answer) :
    ∃ u : State, u.strands = s.strands ∧ s.endJob j a = u.stopSeqs j := by
  have answered : ((s.gatherMstat j).answer j a).strands = (s.gatherMstat j).strands := rfl
  refine ⟨_, ?_, rfl⟩
  exact (show _ = ((s.gatherMstat j).answer j a).strands from rfl).trans (answered.trans (s.gatherMstat_strands j))

/-- The strand of a job that ends, with none waiting, is idle (R172). -/
theorem State.endJob_idle {s : State} {st : StrandId} {j : JobId} {a : Answer} (job : (s.strand st.val).job = some j)
    (next : (s.strand st.val).next = none) (phase : (s.strand st.val).phase ≠ .replacing) :
    ((s.endJob j a).strand st.val).phase = .idle ∧ ((s.endJob j a).strand st.val).job = none := by
  obtain ⟨u, strands, ends⟩ := s.endJob_strands j a
  have idle : (s.strand st.val).toIdle.phase = .idle := if_neg phase
  rw [ends]
  suffices after : ((u.stopSeqs j).strand st.val).phase = .idle ∧ ((u.stopSeqs j).strand st.val).job = none
      ∧ ((u.stopSeqs j).strand st.val).next = none by exact ⟨after.1, after.2.1⟩
  refine foldl_turns (before := fun u => (s.strand st.val).Tidied (u.strand st.val)) (x := st.val)
    (after := fun u => (u.strand st.val).phase = .idle ∧ (u.strand st.val).job = none ∧ (u.strand st.val).next = none)
    (fun u w other h => h.trans (u.leaveStrand_other j (Ne.symm other))) (fun u h => ?_) (fun u w h => ?_)
    (List.mem_range.2 st.isLt) (.inl (State.strand_congr strands _))
  · rcases h with same | ⟨-, same⟩
    · rw [State.leaveStrand_last (same ▸ job) (same ▸ next), same]
      exact ⟨idle, rfl, next⟩
    · rw [State.leaveStrand_free (by rw [same]; nofun) (by rw [same]; exact next ▸ nofun), same]
      exact ⟨idle, rfl, next⟩
  · obtain ⟨phase, job, next⟩ := h
    rcases u.leaveStrand_tidied j (st := w) (w := st.val) (by rw [job]; nofun) (by rw [next]; nofun) with same | ⟨-, same⟩
    · rw [same]
      exact ⟨phase, job, next⟩
    · rw [same]
      exact ⟨if_neg (by rw [phase]; nofun), rfl, next⟩

/-- The strand of a waiting job that ends goes on with its present one (R201). -/
theorem State.endJob_waiting {s : State} {st : StrandId} {j : JobId} {a : Answer} (job : (s.strand st.val).job ≠ some j)
    (next : (s.strand st.val).next = some j) (phase : (s.strand st.val).phase = .running) (role : (s.strand st.val).role ≠ 2) :
    (s.endJob j a).strand st.val = (s.strand st.val).alone := by
  obtain ⟨u, strands, ends⟩ := s.endJob_strands j a
  rw [ends]
  refine foldl_turns (before := fun u => u.strand st.val = s.strand st.val) (x := st.val)
    (after := fun u => u.strand st.val = (s.strand st.val).alone) (fun u w other h => ?_) (fun u h => ?_) (fun u w h => ?_)
    (List.mem_range.2 st.isLt) (State.strand_congr strands _)
  · exact ((u.leaveStrand_other j (Ne.symm other)).eq_of_role (h ▸ role)).trans h
  · rw [State.leaveStrand_waiting (h ▸ job) (h ▸ next) (h ▸ phase), h]
  · exact ((u.leaveStrand_tidied j (h ▸ job) (by rw [h]; nofun)).eq_of_role (h ▸ role)).trans h

end Sys2Proof.Machine
end

section
/-! SUPPORT. What placing, configuring and starting a stage leaves of its tile, and of the tiles of others (R145, R172, R200,
R205, R361). -/

open Sys2Proof Sys2Proof.Claims Sys2Proof.Machine

namespace Sys2Proof.Machine

/-! ### What configuration leaves of a tile -/

/-- The resume epoch and the handle registers of a tile, which the configuration of queues and units leaves. -/
def Tile.lasting (x : Tile) : BitVec 16 × List (Nat × Handle) := (x.resumeEpoch, x.pad.handles)

theorem Tile.handle_of_lasting {x y : Tile} (h : x.lasting = y.lasting) (n : BitVec 6) : x.handle n = y.handle n := by
  rw [Tile.handle, Tile.handle, show x.pad.handles = y.pad.handles from congrArg Prod.snd h]

theorem Tile.resumeEpoch_of_lasting {x y : Tile} (h : x.lasting = y.lasting) : x.resumeEpoch = y.resumeEpoch := congrArg Prod.fst h

@[simp] theorem Tile.setQueue_lasting (x : Tile) (q : Nat) (v : Queue) : (x.setQueue q v).lasting = x.lasting := rfl
@[simp] theorem Tile.setSu_lasting (x : Tile) (u : Nat) (v : Su) : (x.setSu u v).lasting = x.lasting := rfl
@[simp] theorem Tile.release_lasting (x : Tile) (ns : List Nat) : (x.release ns).lasting = x.lasting := rfl
@[simp] theorem Tile.register_lasting (x : Tile) (es : List SbEntry) : (x.register es).1.lasting = x.lasting := rfl

@[simp] theorem Tile.markLines_lasting (x : Tile) (v : Bool) (ls : List Nat) : (x.markLines v ls).lasting = x.lasting :=
  foldl_part Tile.lasting (f := fun t l => t.setFill l v) (fun _ _ => rfl) ls x

@[simp] theorem Tile.applyQsizes_lasting (x : Tile) (l : List Nat) : (x.applyQsizes l).lasting = x.lasting :=
  foldl_part Tile.lasting (fun _ _ => Tile.setQueue_lasting _ _ _) _ x

@[simp] theorem Tile.applyGifts_lasting (x : Tile) (gs : List SlackGift) : (x.applyGifts gs).lasting = x.lasting :=
  (foldl_part Tile.lasting (fun _ _ => Tile.setQueue_lasting _ _ _) gs _).trans
    (foldl_part Tile.lasting (fun _ _ => Tile.setQueue_lasting _ _ _) _ x)

@[simp] theorem Tile.suDisable_lasting (x : Tile) (u : Nat) : (x.suDisable u).lasting = x.lasting :=
  (Tile.setSu_lasting _ _ _).trans (Tile.release_lasting _ _)

@[simp] theorem Tile.suOutWrite_lasting (x : Tile) (u o w : Nat) (v : Word) : (x.suOutWrite u o w v).lasting = x.lasting := by
  unfold Tile.suOutWrite
  dsimp only
  by_cases on : (x.su u).enable = true
  · rw [if_pos on]
  · rw [if_neg on]
    exact Tile.setSu_lasting _ _ _

@[simp] theorem Tile.suWrite_lasting (x : Tile) (u : Nat) (v : Word) : (x.suWrite u v).lasting = x.lasting := by
  unfold Tile.suWrite
  dsimp only
  split
  · split
    · rfl
    · exact (Tile.setSu_lasting _ _ _).trans (x.suDisable_lasting u)
  · split
    · split
      · rfl
      · exact (Tile.setSu_lasting _ _ _).trans (x.register_lasting _)
    · exact Tile.setSu_lasting _ _ _

@[simp] theorem Tile.applySteer_lasting (x : Tile) (slots : List Nat) (r : PrimerRec) : (x.applySteer slots r).lasting = x.lasting := by
  refine foldl_part Tile.lasting (fun y u => ?_) _ x
  refine (Tile.suWrite_lasting _ u _).trans (Eq.trans ?_ (y.suDisable_lasting u))
  exact foldl_part Tile.lasting (fun z o => (Tile.suOutWrite_lasting _ u o 1 _).trans (Tile.suOutWrite_lasting _ u o 0 _)) _ _

/-- Records of steering and of queue sizes alone leave handles and resume epoch. -/
theorem Tile.applySegment_lasting (x : Tile) (st : Nat) (slots : List Nat) {rs : List PrimerRec}
    (config : ∀ r ∈ rs, r.typ = 4 ∨ r.typ = 5) : (x.applySegment st slots rs).lasting = x.lasting := by
  unfold Tile.applySegment
  induction rs generalizing x with
  | nil => rfl
  | cons r rs ih =>
    refine (ih _ fun r' h => config r' (List.mem_cons_of_mem _ h)).trans ?_
    unfold Tile.applyRec
    rcases config r List.mem_cons_self with typ | typ <;> rw [typ]
    · exact x.applySteer_lasting slots r
    · exact x.applyQsizes_lasting _

/-! ### A tile that is started -/

/-- Where the tile issues. -/
theorem Tile.startsAt_startAt (x : Tile) (entry : Nat) : StartsAt (x.startAt entry) entry := ⟨rfl, rfl, rfl, rfl⟩

@[simp] theorem Tile.openQueues_lasting (x : Tile) : x.openQueues.lasting = x.lasting :=
  foldl_part Tile.lasting (fun _ _ => by dsimp only; split <;> rfl) _ x

@[simp] theorem Tile.startAt_lasting (x : Tile) (entry : Nat) : (x.startAt entry).lasting = x.lasting := by
  rw [← x.openQueues_lasting]
  unfold Tile.startAt Tile.lasting
  generalize x.openQueues = y
  rfl

theorem Tile.startAt_queue (x : Tile) (entry q : Nat) : (x.startAt entry).queue q = x.openQueues.queue q := by
  unfold Tile.startAt Tile.queue
  generalize x.openQueues = y
  rfl

/-- A queue that has a size is open. -/
def Tile.Opens (x : Tile) (q : Nat) : Prop := (x.queue q).qsize ≠ 0 → (x.queue q).isOpen = true

/-- One queue of a tile that starts. -/
def Tile.openSized (x : Tile) (q : Nat) : Tile := if (x.queue q).qsize = 0 then x else x.setQueue q { x.queue q with isOpen := true }

theorem Tile.openQueues_eq (x : Tile) : x.openQueues = (List.range 16).foldl Tile.openSized x := rfl

theorem Tile.openSized_opens (x : Tile) (q : Nat) : (x.openSized q).Opens q := by
  unfold Tile.openSized
  split
  · rename_i empty
    exact fun size => absurd empty size
  · rw [Tile.Opens, Tile.queue_setQueue, if_pos rfl]
    exact fun _ => rfl

theorem Tile.openSized_other (x : Tile) {q r : Nat} (other : q ≠ r) : (x.openSized r).queue q = x.queue q := by
  unfold Tile.openSized
  split
  · rfl
  · rw [Tile.queue_setQueue, if_neg other]

theorem foldl_opens (l : List Nat) (x : Tile) {q : Nat} (h : q ∈ l ∨ x.Opens q) : (l.foldl Tile.openSized x).Opens q := by
  induction l generalizing x with
  | nil => exact h.resolve_left List.not_mem_nil
  | cons r l ih =>
    refine ih _ ?_
    by_cases at_ : q = r
    · exact .inr (at_ ▸ x.openSized_opens q)
    · refine (h.imp_left fun h => (List.mem_cons.1 h).resolve_left at_).imp_right fun h => ?_
      rwa [Tile.Opens, x.openSized_other at_]

/-- A tile that starts opens the queues that have a size. -/
theorem Tile.startAt_opens (x : Tile) (entry : Nat) {q : Nat} (hq : q < 16) : (x.startAt entry).Opens q := by
  rw [Tile.Opens, Tile.startAt_queue, Tile.openQueues_eq]
  exact foldl_opens _ x (.inl (List.mem_range.2 hq))

/-! ### Stages that are placed -/

theorem State.tile_onTile_other (s : State) {t u : Nat} (other : u ≠ t) (f : Tile → Tile) : (s.onTile t f).tile u = s.tile u := by
  rw [State.tile_onTile, if_neg other]

theorem State.tile_onTile_same (s : State) (t : Nat) (f : Tile → Tile) : (s.onTile t f).tile t = f (s.tile t) := by
  rw [State.tile_onTile, if_pos rfl]

theorem State.setMembers_tile (s : State) (st u : Nat) : (s.setMembers st).tile u = s.tile u := by
  refine State.tile_congr ?_ u
  unfold State.setMembers
  exact foldl_part State.tiles (fun _ _ => State.setBarrier_tiles _ _ _) _ _

theorem State.mapStage_other (s : State) (st k : Nat) {t u : Nat} (other : u ≠ t) : (s.mapStage st k t).tile u = s.tile u :=
  s.tile_onTile_other other _

/-- What a tile holds on its place in the strand: STAGEMAP, STRAND, RESUME_EPOCH and ROLE (R145, R147, R172, R464). -/
def Tile.mapped (x : Tile) (m : List (Nat × Word)) (w : Word) (e : BitVec 16) (role : Nat) : Tile :=
  { x with
    stageMap := m
    strandReg := w
    resumeEpoch := e
    chk := { x.chk with ctl := (x.chk.ctl &&& 0xFFFFFFFC) ||| BitVec.ofNat 32 (role % 4) } }

theorem State.mapStage_same (s : State) (st k t : Nat) : (s.mapStage st k t).tile t
    = (s.tile t).mapped (s.stageMapOf st) (s.strandWord st k) ((s.strand st).resumeEpoch k) (s.strand st).role :=
  s.tile_onTile_same t _

theorem State.stageMapOf_congr {s u : State} (h : s.layout = u.layout) {st : Nat} (strand : s.strand st = u.strand st) :
    s.stageMapOf st = u.stageMapOf st := by
  rw [State.stageMapOf, State.stageMapOf, State.stageSlots_congr h strand]

theorem State.strandWord_congr {s u : State} (h : s.layout = u.layout) {st : Nat} (strand : s.strand st = u.strand st) (k : Nat) :
    s.strandWord st k = u.strandWord st k := by
  unfold State.strandWord
  rw [strand, State.stageSlots_congr h strand]

theorem State.mapStage_congr {s u : State} (h : s.layout = u.layout) {st k t : Nat} (strand : s.strand st = u.strand st)
    (tile : s.tile t = u.tile t) : (s.mapStage st k t).tile t = (u.mapStage st k t).tile t := by
  rw [State.mapStage_same, State.mapStage_same, State.stageMapOf_congr h strand, State.strandWord_congr h strand, strand, tile]

theorem State.writeMap_other (s : State) {st u : Nat} (other : u ∉ s.stageSlots st) : (s.writeMap st).tile u = s.tile u :=
  foldl_otherTile (fun s _ _ other => s.mapStage_other st _ other) (stages_other other) s

/-- Every tile of a strand takes its place (R145). -/
theorem State.writeMap_tile (s : State) {st k t : Nat} (at_ : (s.stageSlots st)[k]? = some t) :
    (s.writeMap st).tile t = (s.mapStage st k t).tile t := by
  obtain ⟨u, same, still, left⟩ := foldl_ownTile (f := fun s p => s.mapStage st p.2 p.1)
    (fun s _ _ other => s.mapStage_other st _ other) State.unstaged (fun s p => s.mapStage_unstaged st p.2 p.1)
    (s.stages_once st) (mem_stages at_) s
  exact left.trans (State.mapStage_congr (State.layout_of_unstaged same) (State.strand_congr (State.strands_of_unstaged same) st)
    still)

/-! ### Stages that are configured and started -/

theorem State.configStage_tile (s : State) (st k t u : Nat) : ((s.configStage st k t).tile u).lasting = (s.tile u).lasting := by
  unfold State.configStage
  split
  · rfl
  · dsimp only
    rw [State.tile_onTile]
    split
    · rename_i at_
      refine (Tile.applyGifts_lasting _ _).trans ((Tile.applySegment_lasting _ st _ fun r h => ?_).trans ?_)
      · simpa using (List.mem_filter.1 h).2
      · rw [Tile.applyQsizes_lasting, at_]
    · rfl

theorem State.configStage_other (s : State) (st k : Nat) {t u : Nat} (other : u ≠ t) :
    (s.configStage st k t).tile u = s.tile u := by
  unfold State.configStage
  split
  · rfl
  · exact s.tile_onTile_other other _

/-- The tile keeps its resume epoch and the handles below those that the supervisor writes for a job (R361, R439). -/
def Tile.Keeps (x y : Tile) : Prop := y.resumeEpoch = x.resumeEpoch ∧ ∀ h : BitVec 6, h.toNat < 26 → y.handle h = x.handle h

theorem Tile.Keeps.refl (x : Tile) : x.Keeps x := ⟨rfl, fun _ _ => rfl⟩

theorem Tile.Keeps.trans {x y z : Tile} (h : x.Keeps y) (g : y.Keeps z) : x.Keeps z :=
  ⟨g.1.trans h.1, fun n low => (g.2 n low).trans (h.2 n low)⟩

theorem Tile.keeps_setHandle (x : Tile) {h : BitVec 6} (high : 26 ≤ h.toNat) (v : Handle) : x.Keeps (x.setHandle h v) :=
  ⟨rfl, fun n low => (x.handle_setHandle h n v).trans (if_neg fun same => by rw [same] at low; omega)⟩

theorem State.keeps_onTile (s : State) (t u : Nat) {f : Tile → Tile} (h : ∀ x : Tile, x.Keeps (f x)) :
    (s.tile u).Keeps ((s.onTile t f).tile u) := by
  rw [State.tile_onTile]
  split
  · rename_i at_
    exact at_ ▸ h (s.tile u)
  · exact .refl _

theorem State.jobHandles_keeps (s : State) (st k t : Nat) (h : JobHold) (u : Nat) :
    (s.tile u).Keeps ((s.jobHandles st k t h).tile u) :=
  s.keeps_onTile t u fun x => (x.keeps_setHandle (h := 28) (by decide) _).trans (Tile.keeps_setHandle _ (h := 29) (by decide) _)

theorem State.tuneHandles_keeps (s : State) (t : Nat) (j : Option JobId) (u : Nat) :
    (s.tile u).Keeps ((s.tuneHandles t j).tile u) := by
  unfold State.tuneHandles
  split
  · exact .refl _
  · exact s.keeps_onTile t u fun x => ((x.keeps_setHandle (h := 26) (by decide) _).trans
      (Tile.keeps_setHandle _ (h := 27) (by decide) _)).trans (Tile.keeps_setHandle _ (h := 29) (by decide) _)

theorem State.nodeSend_tile (s : State) (m : Msg) (j : Option JobId) (r : Option FlowRef) (u : Nat) :
    (s.nodeSend m j r).tile u = s.tile u := rfl

theorem State.sendJobBlock_tile (s : State) (t n : Nat) (shape : List Nat) (place : Nat × Nat) (u : Nat) :
    (s.sendJobBlock t n shape place).tile u = s.tile u := by
  unfold State.sendJobBlock
  exact (State.nodeSend_tile _ _ _ _ u).trans rfl

/-- A stage that starts issues from its entry, its handles as they were but those of the job. -/
theorem State.startStage_tile (s : State) (st k t entry : Nat) :
    ∃ x, (s.tile t).Keeps x ∧ (s.startStage st k t entry).tile t = x.startAt entry := by
  have started : ∀ u : State, (s.tile t).Keeps (u.tile t) →
      ∃ x, (s.tile t).Keeps x ∧ (u.onTile t fun x => x.startAt entry).tile t = x.startAt entry :=
    fun u h => ⟨u.tile t, h, u.tile_onTile_same t _⟩
  unfold State.startStage
  dsimp only
  split
  · exact started s (.refl _)
  · rename_i d _
    have ready : (s.tile t).Keeps ((match d.hold with
        | some h => if d.service then (s.jobHandles st k t h).tuneHandles t ((s.strand st).ownerOf k) else s
        | none => s : State).tile t) := by
      split
      · split
        · exact (s.jobHandles_keeps st k t _ t).trans (State.tuneHandles_keeps _ t _ t)
        · exact .refl _
      · exact .refl _
    by_cases service : d.service = true
    · rw [if_pos service, State.sendJobBlock_tile]
      exact started _ ready
    · rw [if_neg service]
      exact started _ ready

theorem State.jobHandles_other (s : State) (st k : Nat) {t u : Nat} (other : u ≠ t) (h : JobHold) :
    (s.jobHandles st k t h).tile u = s.tile u := s.tile_onTile_other other _

theorem State.tuneHandles_other (s : State) {t u : Nat} (other : u ≠ t) (j : Option JobId) :
    (s.tuneHandles t j).tile u = s.tile u := by
  unfold State.tuneHandles
  split
  · rfl
  · exact s.tile_onTile_other other _

theorem State.startStage_other (s : State) (st k : Nat) {t u : Nat} (other : u ≠ t) (entry : Nat) :
    (s.startStage st k t entry).tile u = s.tile u := by
  unfold State.startStage
  dsimp only
  split
  · exact s.tile_onTile_other other _
  · rename_i d _
    have ready : (match d.hold with
        | some h => if d.service then (s.jobHandles st k t h).tuneHandles t ((s.strand st).ownerOf k) else s
        | none => s : State).tile u = s.tile u := by
      split
      · split
        · exact (State.tuneHandles_other _ other _).trans (s.jobHandles_other st k other _)
        · rfl
      · rfl
    by_cases service : d.service = true
    · rw [if_pos service, State.sendJobBlock_tile]
      exact (State.tile_onTile_other _ other _).trans ready
    · rw [if_neg service]
      exact (State.tile_onTile_other _ other _).trans ready

theorem State.startStage_resumeEpoch (s : State) (st k t entry u : Nat) :
    ((s.startStage st k t entry).tile u).resumeEpoch = (s.tile u).resumeEpoch := by
  by_cases at_ : u = t
  · obtain ⟨x, ⟨epoch, -⟩, tile⟩ := s.startStage_tile st k t entry
    rw [at_, tile, Tile.resumeEpoch_of_lasting (x.startAt_lasting entry), epoch]
  · rw [s.startStage_other st k at_]

/-- One stage of a section that is begun again (R172). -/
def State.restartOne (s : State) (st n : Nat) (p : Nat × Nat) : State :=
  if p.2 < n then
    match s.stageRec st p.2 with
    | none => s
    | some r =>
      let keep := (r.resLow, r.resHigh - r.resLow) :: s.residentRanges st p.2
      ((s.onTile p.1 fun x => x.markLines true (rangeLines keep)).configStage st p.2 p.1).startStage st p.2 p.1 r.entry
  else s

theorem State.restartStages_eq (s : State) (st : Nat) :
    s.restartStages st = (s.stageSlots st).zipIdx.foldl (fun s' p => s'.restartOne st (s.startedCount st) p) s := rfl

theorem State.restartOne_other (st n : Nat) : OwnTile fun s p => s.restartOne st n p := by
  intro s p u other
  unfold State.restartOne
  dsimp only
  split
  · split
    · rfl
    · rw [State.startStage_other _ st _ other, State.configStage_other _ st _ other, State.tile_onTile_other _ other]
  · rfl

theorem State.restartOne_resumeEpoch (s : State) (st n : Nat) (p : Nat × Nat) (u : Nat) :
    ((s.restartOne st n p).tile u).resumeEpoch = (s.tile u).resumeEpoch := by
  unfold State.restartOne
  dsimp only
  split
  · split
    · rfl
    · rw [State.startStage_resumeEpoch, Tile.resumeEpoch_of_lasting (State.configStage_tile _ st _ _ u), State.tile_onTile]
      split
      · rename_i at_
        rw [at_, Tile.resumeEpoch_of_lasting (Tile.markLines_lasting _ _ _)]
      · rfl
  · rfl

theorem State.restartStages_resumeEpoch (s : State) (st u : Nat) :
    ((s.restartStages st).tile u).resumeEpoch = (s.tile u).resumeEpoch := by
  rw [State.restartStages_eq]
  exact foldl_part (fun s : State => (s.tile u).resumeEpoch) (fun s p => s.restartOne_resumeEpoch st _ p u) _ s

theorem State.restartStages_other (s : State) {st u : Nat} (other : u ∉ s.stageSlots st) :
    (s.restartStages st).tile u = s.tile u := by
  rw [State.restartStages_eq]
  exact foldl_otherTile (State.restartOne_other st (s.startedCount st)) (stages_other other) s

end Sys2Proof.Machine
end

section
/-! SUPPORT. How a strand goes on, joins another and is placed anew (R144, R145, R148, R149, R172, R208, R209, R219, R458, R459,
R484 to R487). -/

open Sys2Proof Sys2Proof.Claims Sys2Proof.Machine

namespace Sys2Proof.Machine

/-! ### Tiles and classes that a reset leaves -/

theorem State.keepMstat_tile (s : State) (t u : Nat) : (s.keepMstat t).tile u = s.tile u := by
  unfold State.keepMstat
  split <;> rfl

theorem State.keepMstat_dict (s : State) (t : Nat) : (s.keepMstat t).dict = s.dict := by
  unfold State.keepMstat
  split <;> rfl

theorem State.abandonSlice_other (s : State) {t u : Nat} (other : u ≠ t) : (s.abandonSlice t).tile u = s.tile u := by
  unfold State.abandonSlice
  split
  · rfl
  · exact (show _ = (s.onTile t Tile.endSlice).tile u from rfl).trans (s.tile_onTile_other other _)

theorem State.abandonSlice_class (s : State) (t : Nat) :
    (s.abandonSlice t).get K.priorityClassState = s.get K.priorityClassState := by
  unfold State.abandonSlice
  split
  · rfl
  · exact (State.get_bump_other (s.onTile t Tile.endSlice) K.skimAbandoned 1 (by decide))

theorem State.forgetArrivals_tile (s : State) (t u : Nat) : (s.forgetArrivals t).tile u = s.tile u := rfl

theorem State.resetOne_other (s : State) {t u : Nat} (other : u ≠ t) : (s.resetOne t).tile u = s.tile u := by
  unfold State.resetOne
  rw [State.tile_onTile_other _ other, State.abandonSlice_other _ other, State.forgetArrivals_tile, State.keepMstat_tile]

theorem State.resetOne_class (s : State) (t : Nat) : (s.resetOne t).get K.priorityClassState = s.get K.priorityClassState := by
  have kept : ((s.keepMstat t).forgetArrivals t).get K.priorityClassState = s.get K.priorityClassState :=
    State.get_congr (s.keepMstat_dict t) _
  have reset : (s.resetOne t).get K.priorityClassState
      = (((s.keepMstat t).forgetArrivals t).abandonSlice t).get K.priorityClassState := rfl
  rw [reset, State.abandonSlice_class, kept]

theorem State.resetTiles_other (s : State) {ts : List Nat} {u : Nat} (other : u ∉ ts) : (s.resetTiles ts).tile u = s.tile u :=
  (foldl_view (fun s : State => s.tile u) (fun s _ mem => s.resetOne_other fun same => other (same ▸ mem)) _).trans rfl

theorem State.resetTiles_class (s : State) (ts : List Nat) :
    (s.resetTiles ts).get K.priorityClassState = s.get K.priorityClassState :=
  (foldl_part (fun s : State => s.get K.priorityClassState) State.resetOne_class ts _).trans rfl

theorem State.closeP_tile (s : State) (u : Nat) : s.closeP.tile u = s.tile u := by
  unfold State.closeP
  dsimp only
  split <;> rfl

/-- The priority classes begin to close (R219). -/
theorem State.closeP_class {s : State} (open_ : s.get K.priorityClassState = 0) : s.closeP.get K.priorityClassState = 1 := by
  unfold State.closeP
  dsimp only
  rw [if_neg (by omega), State.get_bump_other _ _ _ (by decide), State.get_set, if_pos rfl]

theorem State.resetStrand_other (s : State) {st u : Nat} (other : u ∉ s.stageSlots st) : (s.resetStrand st).tile u = s.tile u :=
  (State.closeP_tile _ u).trans (s.resetTiles_other other)

theorem State.resetStrand_class {s : State} (st : Nat) (open_ : s.get K.priorityClassState = 0) :
    (s.resetStrand st).get K.priorityClassState = 1 :=
  State.closeP_class ((s.resetTiles_class _).trans open_)

/-! ### Resume -/

theorem State.stageSlots_of_fused {s u : State} (h : s.layout = u.layout) {st : Nat}
    (fused : (s.strand st).fused = (u.strand st).fused) : s.stageSlots st = u.stageSlots st := by
  unfold State.stageSlots
  rw [fused]
  simp only [State.halfSlots_congr h]

/-- A strand that begins its section again from the last complete checkpoint (R172, R209). -/
def Strand.resumed (v : Strand) (epoch : Nat) : Strand :=
  { v with
    resume := v.epoch ≠ 0 && v.interval ≠ 0
    resumes := v.resumes + 1
    reports := v.reports.filter fun p => p.2 ≤ v.epoch
    chunks := v.epoch * v.interval
    halted := []
    nextHalted := []
    nextReports := []
    again := none
    streaming := none
    primed := if v.next.isSome && !v.halted.isEmpty then 0 else v.primed
    phase := if v.next.isSome && !v.halted.isEmpty then .priming else v.phase
    checkEpoch := epoch }

theorem State.resumeMarks_same (s : State) (st : Nat) :
    (s.resumeMarks st).strand st = (s.strand st).resumed (s.check.epochs + 1) := by
  unfold State.resumeMarks
  rw [State.newEpoch_strand, if_pos rfl, State.strand_onStrand, if_pos rfl]
  rfl

theorem State.resumeMarks_other (s : State) {st w : Nat} (other : w ≠ st) : (s.resumeMarks st).strand w = s.strand w := by
  unfold State.resumeMarks
  rw [State.newEpoch_strand, if_neg other, State.strand_onStrand, if_neg other]

theorem State.resumeMarks_ground (s : State) (st : Nat) : (s.resumeMarks st).ground = s.ground :=
  (State.newEpoch_ground _ st).trans (s.onStrand_ground st _)

theorem State.resumeMarks_tile (s : State) (st u : Nat) : (s.resumeMarks st).tile u = s.tile u := rfl

theorem State.resumeMarks_dict (s : State) (st : Nat) : (s.resumeMarks st).dict = s.dict := rfl

/-- RESUME_EPOCH of the stages of a strand that resumes (R172, R174). -/
theorem Strand.resumed_resumeEpoch (v : Strand) (epoch k : Nat) : (v.resumed epoch).resumeEpoch k
    = if v.epoch ≠ 0 ∧ v.interval ≠ 0 then BitVec.ofNat 16 v.epoch else 0 := by
  simp [Strand.resumeEpoch, Strand.resumed]

/-- The state of a strand that resumes. -/
def State.resumed (s : State) (st : Nat) : State := (((s.resetStrand st).resumeMarks st).writeMap st).restartStages st

theorem State.resumed_strand (s : State) (st : Nat) : ∃ e, (s.resumed st).strand st = (s.strand st).resumed e := by
  have staged : (s.resumed st).unstaged = ((s.resetStrand st).resumeMarks st).unstaged :=
    (State.restartStages_unstaged _ st).trans (State.writeMap_unstaged _ st)
  refine ⟨(s.resetStrand st).check.epochs + 1, ?_⟩
  rw [State.strand_congr (State.strands_of_unstaged staged), State.resumeMarks_same,
    State.strand_congr (s.resetStrand_strands st)]

theorem State.resumed_others (s : State) (st : Nat) : OnlyStrand s (s.resumed st) st := by
  intro w other
  have staged : (s.resumed st).unstaged = ((s.resetStrand st).resumeMarks st).unstaged :=
    (State.restartStages_unstaged _ st).trans (State.writeMap_unstaged _ st)
  rw [State.strand_congr (State.strands_of_unstaged staged), State.resumeMarks_other _ other,
    State.strand_congr (s.resetStrand_strands st)]

theorem State.resumed_class {s : State} (st : Nat) (open_ : s.get K.priorityClassState = 0) :
    (s.resumed st).get K.priorityClassState = 1 := by
  have staged : (s.resumed st).unstaged = ((s.resetStrand st).resumeMarks st).unstaged :=
    (State.restartStages_unstaged _ st).trans (State.writeMap_unstaged _ st)
  rw [State.get_congr (State.dict_of_unstaged staged), State.get_congr (State.resumeMarks_dict _ st),
    State.resetStrand_class st open_]

theorem State.resumeMarks_slots (s : State) (st : Nat) : ((s.resetStrand st).resumeMarks st).stageSlots st = s.stageSlots st := by
  refine State.stageSlots_of_fused (State.layout_of_ground ((State.resumeMarks_ground _ st).trans (s.resetStrand_ground st))) ?_
  rw [State.resumeMarks_same, State.strand_congr (s.resetStrand_strands st)]
  rfl

theorem State.writeMap_slots (s : State) (st w : Nat) : (s.writeMap st).stageSlots w = s.stageSlots w :=
  State.stageSlots_congr (State.layout_of_unstaged (s.writeMap_unstaged st))
    (State.strand_congr (State.strands_of_unstaged (s.writeMap_unstaged st)) w)

theorem State.resumed_tile (s : State) {st t : Nat} (mem : t ∈ s.stageSlots st) : ((s.resumed st).tile t).resumeEpoch
    = if (s.strand st).epoch ≠ 0 ∧ (s.strand st).interval ≠ 0 then BitVec.ofNat 16 (s.strand st).epoch else 0 := by
  rw [← s.resumeMarks_slots st] at mem
  obtain ⟨k, at_⟩ := List.mem_iff_getElem?.1 mem
  unfold State.resumed
  rw [State.restartStages_resumeEpoch, State.writeMap_tile _ at_, State.mapStage_same, State.resumeMarks_same,
    State.strand_congr (s.resetStrand_strands st)]
  exact Strand.resumed_resumeEpoch _ _ k

theorem State.resumed_otherTile (s : State) {st t : Nat} (other : t ∉ s.stageSlots st) : (s.resumed st).tile t = s.tile t := by
  have marks : t ∉ ((s.resetStrand st).resumeMarks st).stageSlots st := by rwa [s.resumeMarks_slots st]
  have maps : t ∉ (((s.resetStrand st).resumeMarks st).writeMap st).stageSlots st := by rwa [State.writeMap_slots]
  unfold State.resumed
  rw [State.restartStages_other _ maps, State.writeMap_other _ marks, State.resumeMarks_tile, s.resetStrand_other other]

theorem State.resumeStrand_goesOn {s : State} {st : Nat} {j : JobId} (job : (s.strand st).job = some j)
    (few : (s.strand st).resumes < 3) : s.resumeStrand st = s.resumed st := by
  unfold State.resumeStrand
  dsimp only
  rw [job]
  exact if_neg (by omega)

theorem State.resumeStrand_ends {s : State} {st : Nat} {j : JobId} (job : (s.strand st).job = some j)
    (many : 3 ≤ (s.strand st).resumes) :
    s.resumeStrand st = s.endJob j { Answer.of St.tileFault with detail := checkUnsettled } := by
  unfold State.resumeStrand
  dsimp only
  rw [job]
  exact if_pos many

/-! ### Progress of a strand -/

/-- A strand whose next section is primed (R145, R208). -/
def Strand.advanced (v : Strand) (interval ring : Nat) : Strand :=
  { v with
    phase := .priming
    sec := v.sec + 1
    chunks := 0
    epoch := 0
    reports := []
    halted := []
    primed := 0
    again := none
    streaming := none
    resumes := 0
    resume := false
    interval := interval
    ring := ring }

theorem execSectionAdvance_applies {s : State} {st : StrandId} (phase : (s.strand st.val).phase = .running)
    (more : (s.strand st.val).sec + 1 < planSections (s.planFile (s.strand st.val).plan)) (ended : s.sectionOver st.val = true) :
    exec (.sectionAdvance st) s = .next (s.setStrand st.val
      ((s.strand st.val).advanced (s.intervalFor (s.strand st.val).plan) (s.get (K.spillRingSize st.val)))) := by
  have runs : ((s.strand st.val).phase = .running
      && decide ((s.strand st.val).sec + 1 < planSections (s.planFile (s.strand st.val).plan)) && s.sectionOver st.val) = true := by
    simp [phase, more, ended]
  exact (if_pos runs).trans rfl

theorem execSectionAdvance_waits {s : State} {st : StrandId} (h : (s.strand st.val).phase ≠ .running
    ∨ s.sectionOver st.val = false ∨ planSections (s.planFile (s.strand st.val).plan) ≤ (s.strand st.val).sec + 1) :
    exec (.sectionAdvance st) s = .next s := by
  refine if_neg fun runs => ?_
  simp only [Bool.and_eq_true, decide_eq_true_eq] at runs
  obtain ⟨⟨phase, more⟩, ended⟩ := runs
  rcases h with h | h | h
  · exact h phase
  · rw [h] at ended
    cases ended
  · omega

/-- A section whose outputs are not fenced is not over (R209). -/
theorem State.sectionOver_unfenced {s : State} {st t : Nat} (role : (s.strand st).role ≠ 2) (mem : t ∈ s.stageSlots st)
    (unfenced : (s.tile t).units.unfenced = true) : s.sectionOver st = false := by
  have fenced : s.outputsFenced st = false := by
    refine Bool.eq_false_iff.2 fun all => ?_
    have free := List.all_eq_true.1 all t mem
    rw [unfenced] at free
    cases free
  unfold State.sectionOver
  dsimp only
  rw [if_neg role, fenced, Bool.and_false]

theorem execStrandStall_applies {s : State} {st : StrandId} {us : Nat} {j : JobId} (job : (s.strand st.val).job = some j)
    (phase : (s.strand st.val).phase = .running) (limit : s.get K.strandStallLimit ≤ us) (d3 : s.host.d3 = false) :
    exec (.strandStall st us) s
      = .next (((s.endJob j (Answer.of St.strandStall)).bump K.strandStallCount 1).raise 0x10 []) := by
  show execStrandStall st us s = _
  unfold execStrandStall
  dsimp only
  rw [job]
  exact if_pos ⟨phase, limit, d3⟩

theorem execStrandStall_waits {s : State} {st : StrandId} {us : Nat} (h : (s.strand st.val).job = none
    ∨ (s.strand st.val).phase ≠ .running ∨ us < s.get K.strandStallLimit ∨ s.host.d3 = true) :
    exec (.strandStall st us) s = .next s := by
  show execStrandStall st us s = _
  unfold execStrandStall
  dsimp only
  split
  · rename_i j job
    refine if_neg fun ⟨phase, limit, d3⟩ => ?_
    rcases h with h | h | h | h
    · rw [job] at h
      cases h
    · exact h phase
    · omega
    · rw [d3] at h
      cases h
  · rfl

theorem execStrandResume_applies {s : State} {st : StrandId} {j : JobId} (job : (s.strand st.val).job = some j)
    (phase : (s.strand st.val).phase = .running ∨ (s.strand st.val).phase = .priming) :
    exec (.strandResume st) s = .next (s.resumeStrand st.val) := by
  have runs : (s.strand st.val).job.isSome ∧ ((s.strand st.val).phase = .running ∨ (s.strand st.val).phase = .priming) :=
    ⟨by rw [job]; rfl, phase⟩
  exact if_pos runs

theorem execStrandResume_idle {s : State} {st : StrandId} (job : (s.strand st.val).job = none) :
    exec (.strandResume st) s = .next s := by
  refine if_neg fun runs => ?_
  rw [job] at runs
  cases runs.1

theorem State.bump_answers (s : State) (k n : Nat) : (s.bump k n).answers = s.answers :=
  funext fun j => congrArg (Option.map Desc.answer) (State.desc_congr (show (s.bump k n).host = s.host from rfl) j)

/-- A strand that makes no progress loses its job, which is answered and counted (R458). -/
theorem State.stalled {s : State} {st : StrandId} {j : JobId} (job : (s.strand st.val).job = some j)
    (phase : (s.strand st.val).phase = .running) :
    let s' := ((s.endJob j (Answer.of St.strandStall)).bump K.strandStallCount 1).raise 0x10 []
    Answered s s' j St.strandStall ∧ Counted s s' K.strandStallCount 1
      ∧ ((s.strand st.val).next = none → (s'.strand st.val).phase = .idle ∧ (s'.strand st.val).job = none) := by
  generalize ended : s.endJob j (Answer.of St.strandStall) = u
  dsimp only
  have answers : ((u.bump K.strandStallCount 1).raise 0x10 []).answers = (s.endJob j (Answer.of St.strandStall)).answers :=
    (State.answers_of_ground (State.raise_ground _ _ _)).trans
      ((State.bump_answers u _ _).trans (congrArg State.answers ended.symm))
  refine ⟨answered_of_endJob (u := s) (a := Answer.of St.strandStall) rfl answers, counted_bump ?_, fun next => ?_⟩
  · rw [State.raise_get _ _ _ (by decide)]
    exact State.get_bump_congr (ended ▸ s.endJob_get j _ (by decide)) 1
  · have strands : ((u.bump K.strandStallCount 1).raise 0x10 []).strands = u.strands := State.raise_strands _ _ _
    rw [State.strand_congr strands, ← ended]
    exact State.endJob_idle job next (by rw [phase]; nofun)

/-! ### Fusion -/

/-- The pair of a row that joins, and its tiles on their places (R148). -/
def State.joined (s : State) (e : Nat) : State :=
  (s.onStrand e fun v => { v with fused := some (e + 1), resA := 0, resB := 0 }).onStrand (e + 1) fun v =>
    { v with fused := some e, phase := .joined, resA := 0, resB := 0 }

theorem execStrandFuse_applies {s : State} {row : Fin 24} (east : (s.strand (2 * row.val)).mayFuse = true)
    (west : (s.strand (2 * row.val + 1)).mayFuse = true) (room : s.busyCount + 2 ≤ s.busyCap) :
    exec (.strandFuse row) s = .next ((s.joined (2 * row.val)).closeP.writeMap (2 * row.val)) := by
  have joins : ((s.strand (2 * row.val)).mayFuse && (s.strand (2 * row.val + 1)).mayFuse
      && decide (s.busyCount + 2 ≤ s.busyCap)) = true := by simp [east, west, room]
  exact if_pos joins

theorem execStrandFuse_waits {s : State} {row : Fin 24} (h : (s.strand (2 * row.val)).mayFuse = false
    ∨ (s.strand (2 * row.val + 1)).mayFuse = false ∨ s.busyCap < s.busyCount + 2) : exec (.strandFuse row) s = .next s := by
  refine if_neg fun joins => ?_
  simp only [Bool.and_eq_true, decide_eq_true_eq] at joins
  obtain ⟨⟨east, west⟩, room⟩ := joins
  rcases h with h | h | h
  · rw [h] at east
    cases east
  · rw [h] at west
    cases west
  · omega

theorem State.joined_strand (s : State) (e w : Nat) : ((s.joined e).closeP.writeMap e).strand w
    = if w = e + 1 then { s.strand (e + 1) with fused := some e, phase := .joined, resA := 0, resB := 0 }
      else if w = e then { s.strand e with fused := some (e + 1), resA := 0, resB := 0 } else s.strand w := by
  have staged := State.strands_of_unstaged (State.writeMap_unstaged (s.joined e).closeP e)
  rw [State.strand_congr (staged.trans (State.closeP_strands _))]
  unfold State.joined
  rw [State.strand_onStrand, State.strand_onStrand, State.strand_onStrand, if_neg (show e + 1 ≠ e by omega)]

theorem State.joined_slots (s : State) {e : Nat} (even : e % 2 = 0) :
    ((s.joined e).closeP.writeMap e).stageSlots e = (s.halfSlots e).reverse ++ s.halfSlots (e + 1) := by
  have ground : ((s.joined e).closeP.writeMap e).ground = s.ground :=
    (State.writeMap_ground _ e).trans ((State.closeP_ground _).trans
      ((State.onStrand_ground _ _ _).trans (s.onStrand_ground _ _)))
  have fused : (((s.joined e).closeP.writeMap e).strand e).fused = some (e + 1) := by
    rw [s.joined_strand, if_neg (by omega), if_pos rfl]
  unfold State.stageSlots
  rw [fused]
  dsimp only
  rw [if_pos even, State.halfSlots_congr (State.layout_of_ground ground), State.halfSlots_congr (State.layout_of_ground ground)]

theorem State.joined_class {s : State} (e : Nat) (open_ : s.get K.priorityClassState = 0) :
    ((s.joined e).closeP.writeMap e).get K.priorityClassState = 1 := by
  have joined : (s.joined e).dict = s.dict := rfl
  rw [State.get_congr (State.dict_of_unstaged (State.writeMap_unstaged _ e))]
  exact State.closeP_class ((State.get_congr joined _).trans open_)

/-! ### Re-placement -/

theorem State.moveSpare_strands (s : State) (t : Nat) : (s.moveSpare t).strands = s.strands := by
  unfold State.moveSpare
  dsimp only
  split <;> rfl

theorem State.moveSpare_dict (s : State) (t : Nat) : (s.moveSpare t).dict = s.dict := by
  unfold State.moveSpare
  dsimp only
  split <;> rfl

/-- The strand reset, and its spare in the place of a slot that is fenced (R143, R484). -/
def State.spared (s : State) (st : Nat) : State :=
  (s.check.fencing.filter fun t => s.strandOf t = st).foldl State.moveSpare (s.resetTiles (s.stageSlots st)).closeP

theorem State.spared_strand (s : State) (st w : Nat) : (s.spared st).strand w = s.strand w :=
  State.strand_congr ((foldl_part State.strands State.moveSpare_strands _ _).trans (s.resetStrand_strands st)) w

theorem State.spared_get (s : State) (st : Nat) {k : Nat} (plain : workKey k = false) : (s.spared st).get k = s.get k :=
  (State.get_congr (foldl_part State.dict State.moveSpare_dict _ _) k).trans
    (State.get_of_ground (s.resetStrand_ground st) plain)

/-- What a re-placement makes of a strand. -/
theorem State.replace_eq (s : State) (st us : Nat) : ∃ moved arg, s.replace st us
    = if (s.strand st).was = .retired ∨ (s.strand st).was = .unlicensed ∨ (s.strand st).was = .joined then
        (s.spared st).onStrand st fun w => { w with phase := w.was, was := .idle }
      else if (s.spared st).tooShort st 0 then (s.spared st).retire st
      else ((((s.spared st).reload st moved).bump K.replacements 1).peak K.replacementMaxUs us).raise 0x45 arg := by
  have fencing : (s.resetTiles (s.stageSlots st)).closeP.check.fencing = s.check.fencing :=
    congrArg (fun l => l.2.2.1) (State.layout_of_ground (s.resetStrand_ground st))
  have strandOf : (s.resetTiles (s.stageSlots st)).closeP.strandOf = s.strandOf := by
    funext t
    have same := State.strand_congr (s.resetStrand_strands st) (halfRow t)
    unfold State.resetStrand at same
    unfold State.strandOf
    dsimp only
    rw [same]
  unfold State.replace
  dsimp only
  rw [fencing, strandOf]
  exact ⟨_, _, rfl⟩

theorem execReplacement_applies {s : State} {st : StrandId} {us : Nat} (phase : (s.strand st.val).phase = .replacing) :
    exec (.replacement st us) s = .next (s.replace st.val us) := if_pos phase

/-! ### Retirement -/

theorem State.readmitAll_strands (s : State) (st : Nat) : (s.readmitAll st).strands = s.strands := by
  unfold State.readmitAll
  dsimp only
  split <;> split <;> rfl

theorem State.readmitAll_ground (s : State) (st : Nat) : (s.readmitAll st).ground = s.ground := by
  unfold State.readmitAll
  dsimp only
  split <;> split <;> rfl

/-- The sequence of a strand waits for another (R487). -/
theorem State.readmitAll_mem {s : State} {st : Nat} {j : JobId} (job : (s.strand st).job = some j) :
    ⟨j, (s.strand st).plan, (s.strand st).shape, (s.strand st).sec, (s.strand st).place⟩ ∈ (s.readmitAll st).check.readmits := by
  unfold State.readmitAll
  dsimp only
  rw [job]
  dsimp only
  split
  · exact List.mem_append_left _ (List.mem_append_right _ (List.mem_singleton_self _))
  · exact List.mem_append_right _ (List.mem_singleton_self _)

/-- What is left of a strand that retires (R144). -/
def Strand.gone (v : Strand) : Strand := { Strand.reset with phase := .retired, fused := v.fused, claimed := v.claimed }

theorem State.raise_check (s : State) (code : Nat) (arg : List Byte) : (s.raise code arg).check = s.check :=
  congrArg (fun v => v.1.check) (s.raise_substance code arg)

theorem State.tidyGroups_check (s : State) : s.tidyGroups.check = s.check := by
  refine foldl_part State.check (fun s g => ?_) _ s
  unfold State.tidyGroup
  dsimp only
  split
  · rw [State.onStrand_check]
    exact foldl_part State.check (f := fun s t => s.onTile t _) (fun s t => s.onTile_check t _) _ s
  · rfl

/-- A strand that retires, and its partner with it; all else that a retirement does is telling of it. -/
theorem State.retire_eq (s : State) (st : Nat) : ∃ u : State, s.retire st = u.tidyGroups ∧ u.check = (s.readmitAll st).check
    ∧ ∃ v : Strand, u.strand st = v.gone := by
  unfold State.retire
  dsimp only
  generalize (s.strand st).fused = partner
  generalize s.readmitAll st = r
  generalize alone : r.onStrand st _ = a
  have left : a.check = r.check ∧ ∃ v : Strand, a.strand st = v.gone := by
    rw [← alone]
    exact ⟨rfl, _, (r.strand_onStrand st st _).trans (if_pos rfl)⟩
  have told : ∀ (u : State) (code : Nat) (l : List Nat),
      (l.foldl (fun s x => s.raise code (leBytes 1 x)) u).check = u.check
        ∧ (l.foldl (fun s x => s.raise code (leBytes 1 x)) u).strands = u.strands := fun u code l =>
    ⟨foldl_part State.check (fun s x => s.raise_check code _) l u, foldl_part State.strands (fun s x => s.raise_strands code _) l u⟩
  have tells : ∀ (b : State) (n : Nat) (l l' : List Nat), (b.check = r.check ∧ ∃ v : Strand, b.strand st = v.gone) →
      ∃ u : State, (l'.foldl (fun s x => s.raise 0x47 (leBytes 1 x))
          (l.foldl (fun s x => s.raise 0x46 (leBytes 1 x)) (b.set K.strandsRetired n))).tidyGroups = u.tidyGroups
        ∧ u.check = r.check ∧ ∃ v : Strand, u.strand st = v.gone := by
    intro b n l l' left
    refine ⟨_, rfl, ?_, ?_⟩
    · rw [(told _ _ _).1, (told _ _ _).1]
      exact left.1
    · rw [State.strand_congr (told _ _ _).2, State.strand_congr (told _ _ _).2]
      exact left.2
  cases partner with
  | none => exact tells a _ _ _ left
  | some o =>
    refine tells _ _ _ _ ?_
    obtain ⟨check, v, strand⟩ := left
    by_cases at_ : st = o
    · exact ⟨check, _, (a.strand_onStrand o st _).trans (if_pos at_)⟩
    · exact ⟨check, v, ((a.strand_onStrand o st _).trans (if_neg at_)).trans strand⟩

/-! ### Reload -/

theorem State.reload_idle {s : State} {st : Nat} (moved : List Nat) (was : (s.strand st).was = .idle)
    (job : (s.strand st).job = none) (role : (s.strand st).role ≠ 2) :
    ((s.reload st moved).strand st).phase = .idle ∧ (s.reload st moved).ground = s.ground := by
  unfold State.reload
  dsimp only
  rw [job]
  dsimp only
  rw [if_neg (c := (none : Option JobId).isSome = true ∨ (s.strand st).role = 2) (by simp [role])]
  generalize marked : s.onStrand st _ = u
  have ground : u.ground = s.ground := by rw [← marked]; exact s.onStrand_ground st _
  have phase : (u.strand st).phase = .idle := by
    rw [← marked, State.strand_onStrand, if_pos rfl]
    exact was
  have members : ∀ m : State, m = (if moved.isEmpty then u else u.setMembers st) → m.ground = u.ground ∧ m.strand st = u.strand st := by
    rintro m rfl
    split
    · exact ⟨rfl, rfl⟩
    · exact ⟨u.setMembers_ground st, State.strand_congr (State.strands_of_unstaged (u.setMembers_unstaged st)) st⟩
  generalize joined : (if moved.isEmpty then u else u.setMembers st : State) = m
  obtain ⟨ground', strand⟩ := members m joined.symm
  split
  · unfold State.moveAway
    refine ⟨?_, ?_⟩
    · have strands : ∀ w : State, (((w.readmitAll st).onStrand st fun v =>
          { v with next := none, nextHalted := [], nextReports := [] }).writeMap st).strand st = { w.strand st with next := none, nextHalted := [], nextReports := [] } := fun w => by
        rw [State.strand_congr (State.strands_of_unstaged (State.writeMap_unstaged _ st)), State.strand_onStrand, if_pos rfl,
          State.strand_congr (w.readmitAll_strands st)]
      rw [State.idleStrand_strand, strands, strand]
      exact if_neg (by rw [phase]; nofun)
    · rw [State.idleStrand_ground, State.writeMap_ground, State.onStrand_ground, State.readmitAll_ground, ground', ground]
  · generalize loaded : List.foldl _ m _ = l
    have unstaged : l.unstaged = m.unstaged := by
      rw [← loaded]
      refine foldl_unstaged (fun s k => ?_) _ m
      split
      · exact State.loadStage_unstaged _ _ _ _
      · rfl
    rw [State.writeMap_ground, State.strand_congr (State.strands_of_unstaged (State.writeMap_unstaged l st)),
      State.strand_congr (State.strands_of_unstaged unstaged), strand, State.ground_of_unstaged unstaged]
    exact ⟨phase, ground'.trans ground⟩

theorem State.retire_strand (s : State) (st : Nat) :
    ((s.retire st).strand st).phase = .retired ∧ ((s.retire st).strand st).job = none := by
  obtain ⟨u, retired, -, v, gone⟩ := s.retire_eq st
  rw [retired, (u.tidyGroups_tidied st).eq_of_role (by rw [gone]; nofun), gone]
  exact ⟨rfl, rfl⟩

theorem State.retire_readmits {s : State} {st : Nat} {j : JobId} (job : (s.strand st).job = some j) :
    ⟨j, (s.strand st).plan, (s.strand st).shape, (s.strand st).sec, (s.strand st).place⟩ ∈ (s.retire st).check.readmits := by
  obtain ⟨u, retired, check, -⟩ := s.retire_eq st
  rw [retired, State.tidyGroups_check, check]
  exact State.readmitAll_mem job

theorem State.peak_ge (s : State) (k n : Nat) : s.get k ≤ (s.peak k n).get k ∧ n ≤ (s.peak k n).get k := by
  unfold State.peak
  split
  · rw [State.get_set, if_pos rfl]
    omega
  · omega

theorem State.peak_other (s : State) (k n : Nat) {j : Nat} (other : j ≠ k) : (s.peak k n).get j = s.get j := by
  unfold State.peak
  split
  · rw [State.get_set, if_neg other]
  · rfl

theorem State.peak_strands (s : State) (k n : Nat) : (s.peak k n).strands = s.strands := by
  unfold State.peak
  split <;> rfl

end Sys2Proof.Machine
end

section
open Sys2Proof Sys2Proof.Claims Sys2Proof.Machine

theorem Sys2Proof.Claims.strandProgress : Claims.StrandProgress := by
  intro s st v
  refine ⟨fun phase more ended => ?_, execSectionAdvance_waits, ?_, fun us j job phase limit d3 => ?_,
    fun us => execStrandStall_waits, fun j job phase few => ?_, fun j job phase many => ?_, execStrandResume_idle⟩
  · refine ⟨_, execSectionAdvance_applies phase more ended, ?_⟩
    dsimp only
    rw [State.strand_setStrand, if_pos rfl]
    exact ⟨rfl, rfl, rfl, rfl, rfl, rfl, rfl, rfl, rfl, rfl, rfl, rfl, rfl,
      fun w other => (s.strand_setStrand st.val w _).trans (if_neg other), rfl⟩
  · rintro role ⟨t, mem, unfenced⟩
    exact execSectionAdvance_waits (.inr (.inl (State.sectionOver_unfenced role mem unfenced)))
  · exact ⟨_, execStrandStall_applies job phase limit d3, State.stalled job phase⟩
  · refine ⟨_, (execStrandResume_applies job phase).trans (congrArg _ (State.resumeStrand_goesOn job few)), ?_⟩
    obtain ⟨e, strand⟩ := s.resumed_strand st.val
    dsimp only
    rw [strand]
    refine ⟨rfl, rfl, ?_, fun t => s.resumed_tile, rfl, rfl, job, rfl, rfl, s.resumed_others st.val,
      State.resumed_class st.val, fun t => s.resumed_otherTile⟩
    simp [Strand.resumed, v]
  · refine ⟨_, (execStrandResume_applies job phase).trans (congrArg _ (State.resumeStrand_ends job many)), ?_, fun next => ?_⟩
    · exact answered_of_endJob (u := s) (a := { Answer.of St.tileFault with detail := checkUnsettled }) rfl rfl
    · exact (State.endJob_idle job next (by rcases phase with h | h <;> rw [h] <;> nofun)).2

theorem Sys2Proof.Claims.fusionAndReplacement : Claims.FusionAndReplacement := by
  refine fun s => ⟨fun row => ⟨fun east west room => ?_, execStrandFuse_waits⟩, fun st us => ⟨fun phase => if_neg phase, fun phase was => ?_,
    fun phase was short => ?_, fun phase was job role long => ?_⟩⟩
  · refine ⟨_, execStrandFuse_applies east west room, ?_, ?_, fun w notEast notWest => ?_, s.joined_slots (by omega),
      State.joined_class _⟩
    · rw [s.joined_strand, if_neg (by omega), if_pos rfl]
    · rw [s.joined_strand, if_pos rfl]
    · rw [s.joined_strand, if_neg notWest, if_neg notEast]
  all_goals
    refine ⟨_, execReplacement_applies phase, ?_⟩
    obtain ⟨moved, arg, replaced⟩ := s.replace_eq st.val us
    rw [replaced]
  · rw [if_pos (by rcases was with h | h | h <;> simp [h]), State.strand_onStrand, if_pos rfl, State.spared_strand]
  · have goes : ¬ ((s.strand st.val).was = .retired ∨ (s.strand st.val).was = .unlicensed ∨ (s.strand st.val).was = .joined) := by
      rcases was with h | h | h <;> simp [h]
    have short : (s.spared st.val).tooShort st.val 0 = true := short
    rw [if_neg goes, if_pos short]
    obtain ⟨retired, free⟩ := (s.spared st.val).retire_strand st.val
    refine ⟨retired, free, fun j job => ?_⟩
    have waits := State.retire_readmits (s := s.spared st.val) (st := st.val) (j := j)
    rw [State.spared_strand] at waits
    exact waits job
  · have goes : ¬ ((s.strand st.val).was = .retired ∨ (s.strand st.val).was = .unlicensed ∨ (s.strand st.val).was = .joined) := by
      simp [was]
    have idle := State.reload_idle (s := s.spared st.val) (st := st.val) moved
    rw [State.spared_strand] at idle
    obtain ⟨phase, ground⟩ := idle was job role
    have short : ¬ (s.spared st.val).tooShort st.val 0 = true := Bool.eq_false_iff.1 long
    rw [if_neg goes, if_neg short]
    generalize (s.spared st.val).reload st.val moved = u at phase ground
    have entry : ∀ k, workKey k = false → u.get k = s.get k := fun k plain =>
      (State.get_of_ground ground plain).trans (s.spared_get st.val plain)
    have longest := (u.bump K.replacements 1).peak_ge K.replacementMaxUs us
    rw [State.get_bump_other _ _ _ (by decide), entry _ (by decide)] at longest
    refine ⟨?_, counted_bump ?_, ?_⟩
    · rw [State.strand_congr (State.raise_strands _ _ _), State.strand_congr (State.peak_strands _ _ _)]
      exact phase
    · rw [State.raise_get _ _ _ (by decide), State.peak_other _ _ _ (by decide)]
      exact State.get_bump_congr (entry _ (by decide)) 1
    · rw [State.raise_get _ _ _ (by decide)]
      exact longest

/-- Settles O50: both halves by what the steps of a strand leave of it, of its tiles and of the ground. -/
theorem strandLife : Obligations.StrandLife := ⟨Claims.strandProgress, Claims.fusionAndReplacement⟩
end

section
/-! SUPPORT. Streaming the segment of a stage (R145, R147, R200, R205). -/

open Sys2Proof Sys2Proof.Claims Sys2Proof.Machine

namespace Sys2Proof.Machine

/-! ### Fields of STRAND and CHKCTL -/

/-- INTERVAL of STRAND (R147). -/
theorem State.strandWord_interval (s : State) (st k : Nat) : wbits (s.strandWord st k) 20 12
    = (if (s.strand st).next.isSome && (s.strand st).halted.contains k then (s.strand st).nextInterval
       else (s.strand st).interval) % 4096 := by
  unfold State.strandWord
  dsimp only
  generalize (if (s.strand st).next.isSome && (s.strand st).halted.contains k then (s.strand st).nextInterval
    else (s.strand st).interval) = interval
  generalize (s.strand st).fused.isSome = fused
  generalize ((s.strand st).resume && !((s.strand st).next.isSome && (s.strand st).halted.contains k)) = resume
  have one := b2n_le_one fused
  have one' := b2n_le_one resume
  simp only [wbits, bits, fld, BitVec.toNat_ofNat]
  omega

/-- ROLE of CHKCTL (R464). -/
theorem Tile.mapped_role (x : Tile) (m : List (Nat × Word)) (w : Word) (e : BitVec 16) (role : Nat) :
    wbits (x.mapped m w e role).chk.ctl 0 2 = role % 4 := by
  have low : (x.chk.ctl &&& 0xFFFFFFFC ||| BitVec.ofNat 32 (role % 4)).toNat % 2 ^ 2 = role % 4 := by
    rw [BitVec.toNat_or, BitVec.toNat_and, Nat.or_mod_two_pow, Nat.and_mod_two_pow, BitVec.toNat_ofNat,
      show (0xFFFFFFFC : BitVec 32).toNat % 2 ^ 2 = 0 from rfl, Nat.and_zero, Nat.zero_or]
    omega
  unfold wbits bits
  rw [Nat.pow_zero, Nat.div_one]
  exact low

/-! ### The priming of a plan begins -/

theorem State.onStrand_layout (s : State) (st : Nat) (f : Strand → Strand) : (s.onStrand st f).layout = s.layout := rfl

theorem State.onStrand_tile (s : State) (st : Nat) (f : Strand → Strand) (u : Nat) : (s.onStrand st f).tile u = s.tile u := rfl

theorem State.keepSets_ground (s : State) (st n : Nat) : (s.keepSets st n).ground = s.ground := s.setStrand_ground st _

theorem State.keepSets_tile (s : State) (st n u : Nat) : (s.keepSets st n).tile u = s.tile u := rfl

theorem State.keepSets_get (s : State) (st n k : Nat) : (s.keepSets st n).get k = s.get k := rfl

theorem State.keepSets_same (s : State) (st n : Nat) :
    ∃ a b, (s.keepSets st n).strand st = { s.strand st with resA := a, resB := b } :=
  ⟨_, _, (s.strand_setStrand st st _).trans (if_pos rfl)⟩

theorem State.keepSets_other (s : State) {st w : Nat} (other : w ≠ st) (n : Nat) : (s.keepSets st n).strand w = s.strand w :=
  (s.strand_setStrand st w _).trans (if_neg other)

/-- The sets that stay and the barrier members, at the begin of a priming. -/
def State.gathered (s : State) (st n : Nat) : State := (s.keepSets st n).setMembers st

theorem State.gathered_strand (s : State) (st n w : Nat) : (s.gathered st n).strand w = (s.keepSets st n).strand w :=
  State.strand_congr (State.strands_of_unstaged (State.setMembers_unstaged _ st)) w

theorem State.gathered_layout (s : State) (st n : Nat) : (s.gathered st n).layout = s.layout :=
  State.layout_of_ground ((State.setMembers_ground _ st).trans (s.keepSets_ground st n))

theorem State.gathered_tile (s : State) (st n u : Nat) : (s.gathered st n).tile u = s.tile u :=
  (State.setMembers_tile _ st u).trans (s.keepSets_tile st n u)

theorem State.gathered_get (s : State) (st n k : Nat) : (s.gathered st n).get k = s.get k :=
  (State.get_congr (State.dict_of_unstaged (State.setMembers_unstaged _ st)) k).trans (s.keepSets_get st n k)

theorem State.gathered_slots (s : State) (st n : Nat) : (s.gathered st n).stageSlots st = s.stageSlots st := by
  refine State.stageSlots_of_fused (s.gathered_layout st n) ?_
  obtain ⟨a, b, strand⟩ := s.keepSets_same st n
  rw [s.gathered_strand, strand]

theorem State.gathered_stageMap (s : State) (st n : Nat) : (s.gathered st n).stageMapOf st = s.stageMapOf st := by
  rw [State.stageMapOf, State.stageMapOf, s.gathered_slots]

theorem State.beginPriming_of_running {s : State} {st : Nat} (n : Nat) (phase : (s.strand st).phase = .running) :
    s.beginPriming st n = (s.gathered st n).onStrand st fun w =>
      { w with nextInterval := (s.gathered st n).intervalFor n, nextRing := (s.gathered st n).get (K.spillRingSize st) } := by
  obtain ⟨a, b, strand⟩ := s.keepSets_same st n
  refine if_pos ?_
  rw [State.strand_congr (State.strands_of_unstaged (State.setMembers_unstaged _ st)), strand]
  exact phase

theorem State.beginPriming_of_idle {s : State} {st : Nat} (n : Nat) (phase : (s.strand st).phase ≠ .running) :
    s.beginPriming st n = (s.gathered st n).writeMap st := by
  obtain ⟨a, b, strand⟩ := s.keepSets_same st n
  refine if_neg ?_
  rw [State.strand_congr (State.strands_of_unstaged (State.setMembers_unstaged _ st)), strand]
  exact phase

/-- What the begin of a priming leaves of a strand: all but its resident sets, and INTERVAL and ring of the waiting job. -/
structure Strand.Readied (v w : Strand) (waiting : Nat) : Prop where
  fused : w.fused = v.fused
  phase : w.phase = v.phase
  next : w.next = v.next
  halted : w.halted = v.halted
  role : w.role = v.role
  interval : w.interval = v.interval
  nextInterval : w.nextInterval = waiting

theorem State.intervalFor_gathered (s : State) (st n : Nat) : (s.gathered st n).intervalFor n = s.intervalFor n := by
  unfold State.intervalFor
  rw [State.planFile_congr (s.gathered_layout st n), s.gathered_get]

/-- The state in which a stage is about to stream: at the first of a section the priming has begun. -/
def State.readied (s : State) (st k n : Nat) : State :=
  if decide (k = 0) && (s.strand st).again.isNone then s.beginPriming st n else s

theorem State.readied_later {s : State} {st k n : Nat} (later : ¬ (k = 0 ∧ (s.strand st).again = none)) :
    s.readied st k n = s := if_neg (by simpa using later)

theorem State.readied_first {s : State} {st k n : Nat} (first : k = 0 ∧ (s.strand st).again = none) :
    s.readied st k n = s.beginPriming st n := if_pos (by simpa using first)

theorem State.readied_layout (s : State) (st k n : Nat) : (s.readied st k n).layout = s.layout := by
  by_cases first : k = 0 ∧ (s.strand st).again = none
  · rw [State.readied_first first]
    by_cases phase : (s.strand st).phase = .running
    · rw [State.beginPriming_of_running n phase, State.onStrand_layout, s.gathered_layout]
    · rw [State.beginPriming_of_idle n phase]
      rw [State.layout_of_unstaged (State.writeMap_unstaged _ st), s.gathered_layout]
  · rw [State.readied_later first]

theorem State.readied_others (s : State) (st k n : Nat) : OnlyStrand s (s.readied st k n) st := by
  intro w other
  by_cases first : k = 0 ∧ (s.strand st).again = none
  · rw [State.readied_first first]
    by_cases phase : (s.strand st).phase = .running
    · rw [State.beginPriming_of_running n phase, State.strand_onStrand, if_neg other, s.gathered_strand, s.keepSets_other other]
    · rw [State.beginPriming_of_idle n phase, State.strand_congr (State.strands_of_unstaged (State.writeMap_unstaged _ st)),
        s.gathered_strand, s.keepSets_other other]
  · rw [State.readied_later first]

theorem State.readied_strand (s : State) (st k n : Nat) : (s.strand st).Readied ((s.readied st k n).strand st)
    (if (k = 0 ∧ (s.strand st).again = none) ∧ (s.strand st).phase = .running then s.intervalFor n
     else (s.strand st).nextInterval) := by
  obtain ⟨a, b, strand⟩ := s.keepSets_same st n
  by_cases first : k = 0 ∧ (s.strand st).again = none
  · rw [State.readied_first first]
    by_cases phase : (s.strand st).phase = .running
    · rw [State.beginPriming_of_running n phase, State.strand_onStrand, if_pos rfl, s.gathered_strand, strand,
        if_pos ⟨first, phase⟩, s.intervalFor_gathered]
      exact ⟨rfl, rfl, rfl, rfl, rfl, rfl, rfl⟩
    · rw [State.beginPriming_of_idle n phase, State.strand_congr (State.strands_of_unstaged (State.writeMap_unstaged _ st)),
        s.gathered_strand, strand, if_neg fun h => phase h.2]
      exact ⟨rfl, rfl, rfl, rfl, rfl, rfl, rfl⟩
  · rw [State.readied_later first, if_neg fun h => first h.1]
    exact ⟨rfl, rfl, rfl, rfl, rfl, rfl, rfl⟩

theorem State.readied_slots (s : State) (st k n : Nat) : (s.readied st k n).stageSlots st = s.stageSlots st :=
  State.stageSlots_of_fused (s.readied_layout st k n) (s.readied_strand st k n).fused

theorem State.readied_stageMap (s : State) (st k n : Nat) : (s.readied st k n).stageMapOf st = s.stageMapOf st := by
  rw [State.stageMapOf, State.stageMapOf, s.readied_slots]

/-- Where the priming does not begin, or goes on behind a job that runs, no tile changes. -/
theorem State.readied_still {s : State} {st k n : Nat}
    (still : ¬ ((k = 0 ∧ (s.strand st).again = none) ∧ (s.strand st).phase ≠ .running)) (u : Nat) :
    (s.readied st k n).tile u = s.tile u := by
  by_cases first : k = 0 ∧ (s.strand st).again = none
  · have phase : (s.strand st).phase = .running := not_not.1 fun phase => still ⟨first, phase⟩
    rw [State.readied_first first, State.beginPriming_of_running n phase, State.onStrand_tile, s.gathered_tile]
  · rw [State.readied_later first]

/-- Where it does, every tile of the strand takes its place (R145). -/
theorem State.readied_placed {s : State} {st k n u : Nat} (first : k = 0 ∧ (s.strand st).again = none)
    (phase : (s.strand st).phase ≠ .running) (mem : u ∈ s.stageSlots st) :
    ∃ w e r, (s.readied st k n).tile u = (s.tile u).mapped (s.stageMapOf st) w e r := by
  rw [← s.gathered_slots st n] at mem
  obtain ⟨i, at_⟩ := List.mem_iff_getElem?.1 mem
  rw [State.readied_first first, State.beginPriming_of_idle n phase, State.writeMap_tile _ at_, State.mapStage_same,
    s.gathered_tile, s.gathered_stageMap]
  exact ⟨_, _, _, rfl⟩

theorem State.readied_other {s : State} {st u : Nat} (k n : Nat) (other : u ∉ s.stageSlots st) :
    (s.readied st k n).tile u = s.tile u := by
  by_cases begins : (k = 0 ∧ (s.strand st).again = none) ∧ (s.strand st).phase ≠ .running
  · have other : u ∉ (s.gathered st n).stageSlots st := by rwa [s.gathered_slots]
    rw [State.readied_first begins.1, State.beginPriming_of_idle n begins.2, State.writeMap_other _ other, s.gathered_tile]
  · exact State.readied_still begins u

/-! ### A stage streams -/

/-- A slice that gives way is idle, and the tile as it was. -/
theorem State.yieldSlice_tile (s : State) (t : Nat) :
    ∃ k : Skim, (s.yieldSlice t).tile t = { s.tile t with skim := k } := by
  unfold State.yieldSlice
  split
  · rcases s.abandonSlice_tile t t with same | ended
    · exact ⟨_, same⟩
    · exact ⟨_, ended⟩
  · exact ⟨_, rfl⟩

theorem State.yieldSlice_other (s : State) {t u : Nat} (other : u ≠ t) : (s.yieldSlice t).tile u = s.tile u := by
  unfold State.yieldSlice
  split
  · exact s.abandonSlice_other other
  · rfl

theorem State.yieldSlice_strand (s : State) (t w : Nat) : (s.yieldSlice t).strand w = s.strand w := by
  unfold State.yieldSlice
  split
  · exact State.strand_congr (s.abandonSlice_strands t) w
  · rfl

theorem State.yieldSlice_layout (s : State) (t : Nat) : (s.yieldSlice t).layout = s.layout := by
  unfold State.yieldSlice
  split
  · exact State.layout_of_ground (s.abandonSlice_ground t)
  · rfl

/-- The tile of a stage that streams: on its place, its slice gone. -/
def State.streamed (s : State) (st k : Nat) : State :=
  match s.stageSlot st k with
  | some t => (s.yieldSlice t).mapStage st k t
  | none => s

theorem State.streamed_strand (s : State) (st k w : Nat) : (s.streamed st k).strand w = s.strand w := by
  unfold State.streamed
  split
  · rename_i t _
    exact (show _ = (s.yieldSlice t).strand w from rfl).trans (s.yieldSlice_strand t w)
  · rfl

theorem State.streamed_same {s : State} {st k t : Nat} (slot : s.stageSlot st k = some t) : ∃ skim : Skim,
    (s.streamed st k).tile t = { s.tile t with skim := skim }.mapped (s.stageMapOf st) (s.strandWord st k)
      ((s.strand st).resumeEpoch k) (s.strand st).role := by
  obtain ⟨skim, tile⟩ := s.yieldSlice_tile t
  have strand := s.yieldSlice_strand t st
  unfold State.streamed
  rw [slot]
  dsimp only
  rw [State.mapStage_same, tile, State.stageMapOf_congr (s.yieldSlice_layout t) strand,
    State.strandWord_congr (s.yieldSlice_layout t) strand, strand]
  exact ⟨skim, rfl⟩

theorem State.streamed_other {s : State} {st k u : Nat} (other : s.stageSlot st k ≠ some u) :
    (s.streamed st k).tile u = s.tile u := by
  unfold State.streamed
  split
  · rename_i t slot
    have apart : u ≠ t := fun same => other (slot.trans (congrArg some same.symm))
    rw [State.mapStage_other _ st k apart, s.yieldSlice_other apart]
  · rfl

theorem State.readied_core (s : State) (st k n u : Nat) : ((s.readied st k n).tile u).core = (s.tile u).core
    ∧ ((s.readied st k n).tile u).units = (s.tile u).units := by
  by_cases begins : (k = 0 ∧ (s.strand st).again = none) ∧ (s.strand st).phase ≠ .running
  · by_cases mem : u ∈ s.stageSlots st
    · obtain ⟨w, e, r, tile⟩ := State.readied_placed (n := n) begins.1 begins.2 mem
      rw [tile]
      exact ⟨rfl, rfl⟩
    · rw [State.readied_other k n mem]
      exact ⟨rfl, rfl⟩
  · rw [State.readied_still begins]
    exact ⟨rfl, rfl⟩

theorem State.readied_slot (s : State) (st k n : Nat) : (s.readied st k n).stageSlot st k = s.stageSlot st k := by
  rw [State.stageSlot, State.stageSlot, s.readied_slots]

/-- The tile of a stage that begins to stream (R145, R147, R464). -/
theorem State.primed_tile (s : State) {st k t : Nat} (n : Nat) (slot : s.stageSlot st k = some t) :
    let v := s.strand st
    let x := ((s.readied st k n).streamed st k).tile t
    x.stageMap = s.stageMapOf st
      ∧ wbits x.strandReg 20 12
        = (if v.next.isSome = true ∧ k ∈ v.halted then
             (if (k = 0 ∧ v.again = none) ∧ v.phase = .running then s.intervalFor n else v.nextInterval) else v.interval) % 4096
      ∧ wbits x.chk.ctl 0 2 = v.role % 4 ∧ x.core = (s.tile t).core ∧ x.units = (s.tile t).units := by
  obtain ⟨skim, tile⟩ := State.streamed_same ((s.readied_slot st k n).trans slot)
  have ready := s.readied_strand st k n
  obtain ⟨core, units⟩ := s.readied_core st k n t
  dsimp only
  rw [tile, Tile.mapped_role, ready.role]
  refine ⟨s.readied_stageMap st k n, ?_, rfl, core, units⟩
  refine (State.strandWord_interval _ st k).trans ?_
  rw [ready.next, ready.halted, ready.interval, ready.nextInterval]
  simp only [Bool.and_eq_true, List.contains_iff_mem]

theorem State.primed_still {s : State} {st k t u : Nat} (n : Nat) (slot : s.stageSlot st k = some t)
    (still : ¬ ((k = 0 ∧ (s.strand st).again = none) ∧ (s.strand st).phase ≠ .running)) (other : u ≠ t) :
    ((s.readied st k n).streamed st k).tile u = s.tile u := by
  have apart : (s.readied st k n).stageSlot st k ≠ some u := by
    rw [s.readied_slot, slot]
    exact fun same => other (Option.some.inj same).symm
  rw [State.streamed_other apart, State.readied_still still]

/-- When the first stage of a section streams, every tile of the strand has STAGEMAP (R145). -/
theorem State.primed_stageMap (s : State) {st k u : Nat} (n : Nat) (first : k = 0 ∧ (s.strand st).again = none)
    (phase : (s.strand st).phase ≠ .running) (mem : u ∈ s.stageSlots st) :
    (((s.readied st k n).streamed st k).tile u).stageMap = s.stageMapOf st := by
  by_cases slot : s.stageSlot st k = some u
  · obtain ⟨map, -⟩ := s.primed_tile n slot
    exact map
  · obtain ⟨w, e, r, tile⟩ := State.readied_placed (n := n) first phase mem
    rw [State.streamed_other (by rwa [s.readied_slot]), tile]
    rfl

theorem State.primed_away (s : State) {st u : Nat} (k n : Nat) (other : u ∉ s.stageSlots st) :
    ((s.readied st k n).streamed st k).tile u = s.tile u := by
  have apart : (s.readied st k n).stageSlot st k ≠ some u := by
    rw [s.readied_slot]
    exact fun slot => other (State.mem_stageSlots slot)
  rw [State.streamed_other apart, State.readied_other k n other]

theorem execPrimeStage_applies {s : State} {st : StrandId} {k : Fin 24} (may : s.mayStream st.val k.val = true) :
    exec (.primeStage st k) s = .next (((s.readied st.val k.val (s.primingPlan st.val).1).streamed st.val k.val).onStrand st.val
      fun v => { v with streaming := some k.val }) := by
  refine (if_pos may).trans ?_
  rfl

end Sys2Proof.Machine
end

section
/-! SUPPORT. Segments that end, and the switch to a resident plan (R197, R200, R201, R204 to R207). -/

open Sys2Proof Sys2Proof.Claims Sys2Proof.Machine

namespace Sys2Proof.Machine

/-! ### A segment that matches -/

theorem State.parkStage_frame (s : State) (st k t : Nat) :
    (s.parkStage st k t).layout = s.layout ∧ (∀ w, w ≠ st → (s.parkStage st k t).strand w = s.strand w)
      ∧ ∃ l, (s.parkStage st k t).strand st = { s.strand st with parked := l } := by
  unfold State.parkStage
  dsimp only
  split
  · refine ⟨rfl, fun w other => ?_, _, (State.strand_onStrand _ st st _).trans (if_pos rfl)⟩
    exact (State.strand_onStrand _ st w _).trans (if_neg other)
  · exact ⟨rfl, fun _ _ => rfl, _, rfl⟩

/-- The stage of a segment that matched: parked, loaded and started (R197, R206). -/
def State.segmentStage (s : State) (st k t entry : Nat) : State := ((s.parkStage st k t).loadStage st k t).startStage st k t entry

theorem State.segmentStage_unstaged (s : State) (st k t entry : Nat) :
    (s.segmentStage st k t entry).unstaged = (s.parkStage st k t).unstaged :=
  (State.startStage_unstaged _ st k t entry).trans (State.loadStage_unstaged _ st k t)

theorem State.segmentStage_layout (s : State) (st k t entry : Nat) : (s.segmentStage st k t entry).layout = s.layout :=
  (State.layout_of_unstaged (s.segmentStage_unstaged st k t entry)).trans (s.parkStage_frame st k t).1

theorem State.segmentStage_others (s : State) (st k t entry : Nat) : OnlyStrand s (s.segmentStage st k t entry) st :=
  fun w other => (State.strand_congr (State.strands_of_unstaged (s.segmentStage_unstaged st k t entry)) w).trans
    ((s.parkStage_frame st k t).2.1 w other)

theorem State.segmentStage_strand (s : State) (st k t entry : Nat) :
    ∃ l, (s.segmentStage st k t entry).strand st = { s.strand st with parked := l } := by
  obtain ⟨l, strand⟩ := (s.parkStage_frame st k t).2.2
  exact ⟨l, (State.strand_congr (State.strands_of_unstaged (s.segmentStage_unstaged st k t entry)) st).trans strand⟩

theorem State.segmentStage_starts (s : State) (st k t entry : Nat) :
    StartsAt ((s.segmentStage st k t entry).tile t) entry ∧ ∀ q, q < 16 → ((s.segmentStage st k t entry).tile t).Opens q := by
  obtain ⟨x, -, tile⟩ := State.startStage_tile ((s.parkStage st k t).loadStage st k t) st k t entry
  have tile : (s.segmentStage st k t entry).tile t = x.startAt entry := tile
  rw [tile]
  exact ⟨x.startsAt_startAt entry, fun q => x.startAt_opens entry⟩

/-- What a plan that takes its residency slot leaves of the strand and of the tiles (R205). -/
theorem State.takeSlot_strand (s : State) (st n : Nat) : ∃ a b last, (s.takeSlot st n).strand st
    = { s.strand st with fresh := true, parked := [], resA := a, resB := b, lastA := last } := by
  unfold State.takeSlot
  dsimp only
  split <;> exact ⟨_, _, _, (s.strand_setStrand st st _).trans (if_pos rfl)⟩

theorem State.takeSlot_other (s : State) (st n : Nat) : OnlyStrand s (s.takeSlot st n) st := by
  intro w other
  unfold State.takeSlot
  dsimp only
  split <;> exact (s.strand_setStrand st w _).trans (if_neg other)

theorem State.takeSlot_tile (s : State) (st n u : Nat) : (s.takeSlot st n).tile u = s.tile u := by
  unfold State.takeSlot
  dsimp only
  split <;> rfl

/-- The strand when the segment of one more of its stages has taken effect. -/
def Strand.primedOne (v : Strand) : Strand := { v with streaming := none, again := none, primed := v.primed + 1 }

theorem State.segmentGood_eq {s : State} {st k t : Nat} {r : StageRec}
    (rec_ : stageOf (s.planFile ((s.strand st).planOf k).1) ((s.strand st).planOf k).2 k = some r) :
    ∃ u : State, u = (s.segmentStage st k t (segEntry (recsOf (segment (s.planFile ((s.strand st).planOf k).1) r)) r)).onStrand st
        Strand.primedOne
      ∧ s.segmentGood st k t = if (s.strand st).phase = .priming ∧ u.primingCount st ≤ (s.strand st).primed + 1 then
          (u.onStrand st fun w => { w with phase := .running, primed := 0 }).takeSlot st ((s.strand st).planOf k).1
        else u := by
  unfold State.segmentGood
  dsimp only
  rw [rec_]
  exact ⟨_, rfl, rfl⟩

/-- The stages of the section that a priming strand primes. -/
theorem State.primingCount_of_priming {s u : State} {st : Nat} (layout : u.layout = s.layout) (phase : (u.strand st).phase = .priming)
    (plan : (u.strand st).plan = (s.strand st).plan) (sec : (u.strand st).sec = (s.strand st).sec) :
    u.primingCount st = (planSec (s.planFile (s.strand st).plan) (s.strand st).sec).stages := by
  unfold State.primingCount State.primingPlan
  dsimp only
  rw [if_neg (by rw [phase]; nofun)]
  dsimp only
  rw [plan, sec, State.planFile_congr layout]

/-- A segment that matched has started its stage; with the last one the strand runs (R200). -/
theorem State.segmentGood_strand {s : State} {st k t : Nat} {r : StageRec}
    (rec_ : stageOf (s.planFile ((s.strand st).planOf k).1) ((s.strand st).planOf k).2 k = some r) :
    let v := s.strand st
    let w := (s.segmentGood st k t).strand st
    let stages := (planSec (s.planFile v.plan) v.sec).stages
    w.streaming = none ∧ w.again = none
      ∧ (v.phase = .priming → stages ≤ v.primed + 1 → w.phase = .running ∧ w.primed = 0)
      ∧ (v.phase = .priming → v.primed + 1 < stages → w.phase = .priming ∧ w.primed = v.primed + 1)
      ∧ OnlyStrand s (s.segmentGood st k t) st := by
  obtain ⟨u, started, good⟩ := State.segmentGood_eq (t := t) rec_
  obtain ⟨l, parked⟩ := s.segmentStage_strand st k t (segEntry (recsOf (segment (s.planFile ((s.strand st).planOf k).1) r)) r)
  have strand : u.strand st = { (s.strand st).primedOne with parked := l } := by
    rw [started, State.strand_onStrand, if_pos rfl, parked]
    rfl
  have others : OnlyStrand s u st := fun w other => by
    rw [started, State.strand_onStrand, if_neg other]
    exact s.segmentStage_others st k t _ w other
  have layout : u.layout = s.layout := by
    rw [started, State.onStrand_layout, State.segmentStage_layout]
  have count : (s.strand st).phase = .priming →
      u.primingCount st = (planSec (s.planFile (s.strand st).plan) (s.strand st).sec).stages := fun phase =>
    State.primingCount_of_priming layout (by rw [strand]; exact phase) (by rw [strand]; rfl) (by rw [strand]; rfl)
  dsimp only
  rw [good]
  split
  · rename_i done
    obtain ⟨a, b, last, slot⟩ :=
      (u.onStrand st fun w => { w with phase := .running, primed := 0 }).takeSlot_strand st ((s.strand st).planOf k).1
    rw [slot, State.strand_onStrand, if_pos rfl, strand]
    refine ⟨rfl, rfl, fun _ _ => ⟨rfl, rfl⟩, fun phase more => ?_, fun w other => ?_⟩
    · have enough := done.2
      rw [count phase] at enough
      omega
    · rw [State.takeSlot_other _ st _ w other, State.strand_onStrand, if_neg other, others w other]
  · rename_i wait
    rw [strand]
    refine ⟨rfl, rfl, fun phase enough => ?_, fun phase more => ⟨phase, rfl⟩, others⟩
    exact absurd ⟨phase, by rw [count phase]; exact enough⟩ wait

theorem State.segmentGood_starts {s : State} {st k t : Nat} {r : StageRec}
    (rec_ : stageOf (s.planFile ((s.strand st).planOf k).1) ((s.strand st).planOf k).2 k = some r) :
    StartsAt ((s.segmentGood st k t).tile t) (segEntry (recsOf (segment (s.planFile ((s.strand st).planOf k).1) r)) r)
      ∧ ∀ q, q < 16 → ((s.segmentGood st k t).tile t).Opens q := by
  obtain ⟨u, started, good⟩ := State.segmentGood_eq (t := t) rec_
  have tile : (s.segmentGood st k t).tile t = u.tile t := by
    rw [good]
    split
    · exact (State.takeSlot_tile _ st _ t).trans (u.onStrand_tile st _ t)
    · rfl
  rw [tile, started, State.onStrand_tile]
  exact s.segmentStage_starts st k t _

/-! ### A segment that does not match -/

theorem State.segmentBad_first {s : State} {st k : Nat} (first : (s.strand st).again ≠ some k) :
    s.segmentBad st k = s.setStrand st { s.strand st with again := some k, streaming := none } := if_neg first

/-- The module counts and tells of a segment that failed twice (R201). -/
def State.primerFaulted (s : State) (st : Nat) : State :=
  (s.bump K.primerFaultCount 1).raise 0x24 (leBytes 2 (s.primingPlan st).1)

theorem State.segmentBad_second {s : State} {st k : Nat} {j : JobId} (second : (s.strand st).again = some k)
    (job : (if (s.strand st).phase = .running then (s.strand st).next else (s.strand st).job) = some j) :
    s.segmentBad st k = (s.primerFaulted st).endJob j (Answer.of St.primerFault) := by
  refine (if_pos second).trans ?_
  rw [job]
  rfl

/-- A segment that failed twice ends its job, and is counted (R201). -/
theorem State.primerFaulted_ends (s : State) (st : Nat) (j : JobId) :
    Answered s ((s.primerFaulted st).endJob j (Answer.of St.primerFault)) j St.primerFault
      ∧ Counted s ((s.primerFaulted st).endJob j (Answer.of St.primerFault)) K.primerFaultCount 1 := by
  have answers : (s.primerFaulted st).answers = s.answers :=
    (State.answers_of_ground (State.raise_ground _ _ _)).trans (s.bump_answers _ _)
  refine ⟨answered_of_endJob (a := Answer.of St.primerFault) answers rfl, counted_bump ?_⟩
  rw [State.endJob_get _ _ _ (by decide)]
  exact State.raise_get _ _ _ (by decide)

theorem State.primerFaulted_strand (s : State) (st w : Nat) : (s.primerFaulted st).strand w = s.strand w :=
  State.strand_congr ((State.raise_strands _ _ _).trans rfl) w

theorem execPrimerSegmentDone_applies {s : State} {st : StrandId} {k : Fin 24} {r : StageRec} {t : Nat} (flips : Word)
    (streams : (s.strand st.val).streaming = some k.val)
    (rec_ : stageOf (s.planFile ((s.strand st.val).planOf k.val).1) ((s.strand st.val).planOf k.val).2 k.val = some r)
    (slot : s.stageSlot st.val k.val = some t) : exec (.primerSegmentDone st k flips) s
      = if (crc32c (segment (s.planFile ((s.strand st.val).planOf k.val).1) r) ^^^ flips).toNat = r.segCrc then
          .next (s.segmentGood st.val k.val t)
        else .next (s.segmentBad st.val k.val) := by
  refine (if_neg (not_not.2 streams)).trans ?_
  rw [rec_, slot]

/-! ### Handle sets -/

/-- One handle of the first set changes its place with that of the second. -/
def Tile.swapOne (x : Tile) (h : Nat) : Tile :=
  (x.setHandle (BitVec.ofNat 6 h) (x.handle (BitVec.ofNat 6 (h + 30)))).setHandle (BitVec.ofNat 6 (h + 30))
    (x.handle (BitVec.ofNat 6 h))

theorem Tile.swapSets_eq (x : Tile) : x.swapSets = (List.range 30).foldl Tile.swapOne x := rfl

theorem ofNat_ne {n a b : Nat} (ha : a < 2 ^ n) (hb : b < 2 ^ n) (h : a ≠ b) : BitVec.ofNat n a ≠ BitVec.ofNat n b := fun same =>
  h (by simpa [Nat.mod_eq_of_lt ha, Nat.mod_eq_of_lt hb] using congrArg BitVec.toNat same)

theorem Tile.swapOne_same (x : Tile) {h : Nat} (low : h < 30) :
    (x.swapOne h).handle (BitVec.ofNat 6 h) = x.handle (BitVec.ofNat 6 (h + 30)) := by
  unfold Tile.swapOne
  rw [Tile.handle_setHandle, if_neg (ofNat_ne (by omega) (by omega) (by omega)), Tile.handle_setHandle, if_pos rfl]

theorem Tile.swapOne_other (x : Tile) {h i : Nat} (hh : h < 30) (hi : i < 60) (low : i ≠ h) (high : i ≠ h + 30) :
    (x.swapOne h).handle (BitVec.ofNat 6 i) = x.handle (BitVec.ofNat 6 i) := by
  unfold Tile.swapOne
  rw [Tile.handle_setHandle, if_neg (ofNat_ne (by omega) (by omega) high), Tile.handle_setHandle,
    if_neg (ofNat_ne (by omega) (by omega) low)]

/-- After the first `n` exchanges a handle of the first set holds what its place in the second held, or still its own. -/
theorem Tile.swap_handles (x : Tile) {n : Nat} (hn : n ≤ 30) {h : Nat} (hh : h < 30) :
    ((List.range n).foldl Tile.swapOne x).handle (BitVec.ofNat 6 h)
        = (if h < n then x.handle (BitVec.ofNat 6 (h + 30)) else x.handle (BitVec.ofNat 6 h))
      ∧ (n ≤ h → ((List.range n).foldl Tile.swapOne x).handle (BitVec.ofNat 6 (h + 30)) = x.handle (BitVec.ofNat 6 (h + 30))) := by
  induction n with
  | zero => exact ⟨rfl, fun _ => rfl⟩
  | succ n ih =>
    obtain ⟨first, second⟩ := ih (by omega)
    rw [List.range_succ, List.foldl_append, List.foldl_cons, List.foldl_nil]
    refine ⟨?_, fun below => ?_⟩
    · by_cases at_ : h = n
      · subst at_
        rw [Tile.swapOne_same _ hh, second (Nat.le_refl _), if_pos (by omega)]
      · rw [Tile.swapOne_other _ (by omega) (by omega) at_ (by omega), first]
        exact if_congr (by omega) rfl rfl
    · rw [Tile.swapOne_other _ (by omega) (by omega) (by omega) (by omega), second (by omega)]

/-- The sets of handles change places (R206). -/
theorem Tile.swapSets_handle (x : Tile) {h : Nat} (hh : h < 30) :
    x.swapSets.handle (BitVec.ofNat 6 h) = x.handle (BitVec.ofNat 6 (h + 30)) := by
  rw [x.swapSets_eq, (x.swap_handles (Nat.le_refl 30) hh).1, if_pos hh]

/-! ### A resident switch -/

theorem Tile.restartStage_handle (x : Tile) (keep : List Range) (h : BitVec 6) : (x.restartStage keep).handle h = x.handle h := by
  obtain ⟨-, -, -, -, -, handles⟩ := x.restartStage_frame keep
  rw [Tile.handle, Tile.handle, handles]

theorem State.switchStage_other (s : State) (st k : Nat) {t u : Nat} (other : u ≠ t) :
    (s.switchStage st k t).tile u = s.tile u := by
  unfold State.switchStage
  split
  · rfl
  · dsimp only
    rw [State.startStage_other _ st k other, State.configStage_other _ st k other, State.mapStage_other _ st k other,
      State.tile_onTile_other _ other]

/-- A stage of a resident plan starts from its record, with the set of handles that the plan takes (R206). -/
theorem State.switchStage_tile {s : State} {st k t : Nat} {r : StageRec} (rec_ : s.stageRec st k = some r) :
    StartsAt ((s.switchStage st k t).tile t) r.entry
      ∧ ((s.strand st).mustSwap (s.strand st).plan k = true → ∀ h, h < 26 →
          ((s.switchStage st k t).tile t).handle (BitVec.ofNat 6 h) = (s.tile t).handle (BitVec.ofNat 6 (h + 30))) := by
  unfold State.switchStage
  rw [rec_]
  dsimp only
  generalize readied : s.onTile t _ = u
  have swapped : (s.strand st).mustSwap (s.strand st).plan k = true → ∀ h, h < 26 →
      (u.tile t).handle (BitVec.ofNat 6 h) = (s.tile t).handle (BitVec.ofNat 6 (h + 30)) := by
    intro swap h hh
    rw [← readied, State.tile_onTile_same, if_pos swap, Tile.swapSets_handle _ (by omega),
      Tile.handle_of_lasting (Tile.markLines_lasting _ _ _), Tile.restartStage_handle]
  obtain ⟨x, keeps, tile⟩ := State.startStage_tile ((u.mapStage st k t).configStage st k t) st k t r.entry
  rw [tile]
  refine ⟨x.startsAt_startAt _, fun swap h hh => ?_⟩
  have low : (BitVec.ofNat 6 h).toNat < 26 := by rw [BitVec.toNat_ofNat]; omega
  have mapped : ((u.mapStage st k t).tile t).handle (BitVec.ofNat 6 h) = (u.tile t).handle (BitVec.ofNat 6 h) := by
    rw [State.mapStage_same]
    rfl
  rw [Tile.handle_of_lasting (x.startAt_lasting _), keeps.2 _ low, Tile.handle_of_lasting (State.configStage_tile _ st k t t),
    mapped, swapped swap h hh]

/-- One stage of a switch, as the fold over the stages takes it. -/
def State.switchOne (st : Nat) (s : State) (p : Nat × Nat) : State := s.switchStage st p.2 p.1

theorem State.switchOne_unstaged (st : Nat) (s : State) (p : Nat × Nat) : (s.switchOne st p).unstaged = s.unstaged :=
  s.switchStage_unstaged st p.2 p.1

theorem State.switchOne_other (st : Nat) : OwnTile (State.switchOne st) := fun s p _ other => s.switchStage_other st p.2 other

/-- Every stage of the strand is switched. -/
def State.switched (s : State) (st : Nat) : State :=
  (((s.setMembers st).writeMap st).stageSlots st).zipIdx.foldl (State.switchOne st)
    ((s.setMembers st).writeMap st)

theorem State.switched_unstaged (s : State) (st : Nat) : (s.switched st).unstaged = s.unstaged := by
  unfold State.switched
  rw [foldl_unstaged (State.switchOne_unstaged st),
    State.writeMap_unstaged, State.setMembers_unstaged]

theorem State.setMembers_slots (s : State) (st : Nat) : (s.setMembers st).stageSlots st = s.stageSlots st :=
  State.stageSlots_congr (State.layout_of_unstaged (s.setMembers_unstaged st))
    (State.strand_congr (State.strands_of_unstaged (s.setMembers_unstaged st)) st)

theorem State.switched_other (s : State) {st t : Nat} (other : t ∉ s.stageSlots st) : (s.switched st).tile t = s.tile t := by
  have maps : t ∉ (s.setMembers st).stageSlots st := by rwa [s.setMembers_slots]
  have switches : t ∉ ((s.setMembers st).writeMap st).stageSlots st := by rwa [State.writeMap_slots]
  unfold State.switched
  rw [foldl_otherTile (State.switchOne_other st) (stages_other switches), State.writeMap_other _ maps, State.setMembers_tile]

theorem State.switched_tile {s : State} {st k t : Nat} {r : StageRec} (at_ : (s.stageSlots st)[k]? = some t)
    (rec_ : s.stageRec st k = some r) : StartsAt ((s.switched st).tile t) r.entry
      ∧ ((s.strand st).mustSwap (s.strand st).plan k = true → ∀ h, h < 26 →
          ((s.switched st).tile t).handle (BitVec.ofNat 6 h) = (s.tile t).handle (BitVec.ofNat 6 (h + 30))) := by
  have placed : (((s.setMembers st).writeMap st).stageSlots st)[k]? = some t := by
    rwa [State.writeMap_slots, State.setMembers_slots]
  obtain ⟨u, same, still, left⟩ := foldl_ownTile (State.switchOne_other st) State.unstaged (State.switchOne_unstaged st)
    (State.stages_once _ st) (mem_stages placed) ((s.setMembers st).writeMap st)
  dsimp only at still left
  have kept : u.unstaged = s.unstaged := same.trans ((State.writeMap_unstaged _ st).trans (s.setMembers_unstaged st))
  have strand : u.strand st = s.strand st := State.strand_congr (State.strands_of_unstaged kept) st
  have handles : ∀ h, (u.tile t).handle h = (s.tile t).handle h := fun h => by
    rw [still, State.writeMap_tile (s.setMembers st) (by rwa [State.setMembers_slots]), State.mapStage_same,
      s.setMembers_tile]
    rfl
  have switched := State.switchStage_tile (s := u) (t := t) ((State.stageRec_congr (State.layout_of_unstaged kept) strand k).trans rec_)
  rw [strand] at switched
  simp only [handles] at switched
  unfold State.switched
  rw [left]
  exact switched

theorem execResidentSwitch_applies {s : State} {st : StrandId} (ready : s.ready = true) (phase : (s.strand st.val).phase = .priming)
    (primed : (s.strand st.val).primed = 0) (streaming : (s.strand st.val).streaming = none) (again : (s.strand st.val).again = none)
    (resident : s.isResident st.val (s.strand st.val).plan = true) : exec (.residentSwitch st) s
      = .next ((s.switched st.val).onStrand st.val fun w =>
          { w with phase := .running, lastA := decide (w.resA = w.plan), parked := [] }) := by
  have runs : (s.ready && (s.strand st.val).phase = .priming && (s.strand st.val).primed = 0 && (s.strand st.val).streaming.isNone
      && (s.strand st.val).again.isNone && s.isResident st.val (s.strand st.val).plan) = true := by
    simp [ready, phase, primed, streaming, again, resident]
  exact if_pos runs

theorem execResidentSwitch_waits {s : State} {st : StrandId} (h : (s.strand st.val).phase ≠ .priming
    ∨ (s.strand st.val).primed ≠ 0 ∨ s.isResident st.val (s.strand st.val).plan = false) :
    exec (.residentSwitch st) s = .next s := by
  refine if_neg fun runs => ?_
  simp only [Bool.and_eq_true, decide_eq_true_eq] at runs
  obtain ⟨⟨⟨⟨⟨-, phase⟩, primed⟩, -⟩, -⟩, resident⟩ := runs
  rcases h with h | h | h
  · exact h phase
  · exact h primed
  · rw [h] at resident
    cases resident

end Sys2Proof.Machine
end

section
open Sys2Proof Sys2Proof.Claims Sys2Proof.Machine

/-- Settles O8: a stage that streams by what the begin of a priming leaves, a segment by its own stage's start or by the job that
ends, and a resident switch by the fold over distinct slots. -/
theorem priming : Obligations.Priming := by
  intro s st v
  refine ⟨fun k => ⟨fun no => if_neg (by rw [no]; nofun), fun may => ⟨_, execPrimeStage_applies may, ?_⟩⟩,
    fun k flips other => if_pos other, fun k flips r t streams rec_ slot => ?_,
    fun ready phase primed streaming again resident =>
      ⟨_, execResidentSwitch_applies ready phase primed streaming again resident, ?_⟩, execResidentSwitch_waits⟩
  · dsimp only
    rw [State.strand_onStrand, if_pos rfl]
    simp only [State.onStrand_tile]
    refine ⟨trivial, fun w other => ?_, fun t slot => ?_, fun first phase u mem => s.primed_stageMap _ first phase mem,
      fun u => s.primed_away _ _⟩
    · rw [State.strand_onStrand, if_neg other, State.streamed_strand, s.readied_others _ _ _ w other]
    · obtain ⟨map, interval, role, core, units⟩ := s.primed_tile (s.primingPlan st.val).1 slot
      exact ⟨map, interval, role, core, units, fun still u => State.primed_still _ slot still⟩
  · have run := execPrimerSegmentDone_applies flips streams rec_ slot
    refine ⟨fun good => ⟨_, run.trans (if_pos good), ?_⟩, fun bad first => ?_, fun j bad second phase job => ?_,
      fun j bad second phase next job role => ?_⟩
    · obtain ⟨starts, opens⟩ := State.segmentGood_starts (t := t) rec_
      exact ⟨starts, opens, State.segmentGood_strand rec_⟩
    · exact (run.trans (if_neg bad)).trans (congrArg _ (State.segmentBad_first first))
    · have ends := State.segmentBad_second (j := j) second (by rw [if_neg (by rw [phase]; nofun)]; exact job)
      exact ⟨_, (run.trans (if_neg bad)).trans (congrArg _ ends), s.primerFaulted_ends st.val j⟩
    · have ends := State.segmentBad_second (j := j) second (by rw [if_pos phase]; exact next)
      obtain ⟨answered, counted⟩ := s.primerFaulted_ends st.val j
      have same := s.primerFaulted_strand st.val st.val
      have alone := State.endJob_waiting (s := s.primerFaulted st.val) (st := st) (j := j) (a := Answer.of St.primerFault)
      rw [same] at alone
      refine ⟨_, (run.trans (if_neg bad)).trans (congrArg _ ends), answered, counted, ?_⟩
      rw [alone job next phase (by rw [role]; decide)]
      exact ⟨rfl, rfl, phase, rfl, rfl⟩
  · have strands := State.strands_of_unstaged (s.switched_unstaged st.val)
    dsimp only
    rw [State.strand_onStrand, if_pos rfl, State.strand_congr strands]
    refine ⟨rfl, rfl, rfl, fun w other => ?_, fun k t r at_ rec_ => ?_, fun t other => ?_⟩
    · rw [State.strand_onStrand, if_neg other, State.strand_congr strands]
    · rw [State.onStrand_tile]
      exact State.switched_tile at_ rec_
    · rw [State.onStrand_tile]
      exact s.switched_other other
end

section
/-! SUPPORT. Operations by descriptor (R297, R302, R342, R352): when one runs, the keys it pins, the input it opens, the answer
it gives. -/

open Sys2Proof Sys2Proof.Claims Sys2Proof.Machine

namespace Sys2Proof.Machine

/-! ### Descriptors -/

theorem State.openDesc_of_opDesc {s : State} {j : JobId} {ty op : Nat} {d : Desc} (run : s.opDesc j ty op = some d) :
    s.openDesc j = some d := by
  unfold State.opDesc at run
  split at run
  · cases run
  · rename_i e found
    split at run
    · exact found.trans run
    · cases run

/-- A command on the descriptor of a TYPE and OP that may run now; it does nothing where there is none. -/
def State.byOp (s : State) (j : JobId) (ty op : Nat) (run : Desc → Host.Outcome State Fault Refusal) :
    Host.Outcome State Fault Refusal :=
  match s.opDesc j ty op with
  | none => .next s
  | some d => run d

theorem State.byOp_none {s : State} {j : JobId} {ty op : Nat} (none_ : s.opDesc j ty op = none)
    (run : Desc → Host.Outcome State Fault Refusal) : s.byOp j ty op run = .next s := by
  unfold State.byOp
  rw [none_]

theorem State.byOp_some {s : State} {j : JobId} {ty op : Nat} {d : Desc} (some_ : s.opDesc j ty op = some d)
    (run : Desc → Host.Outcome State Fault Refusal) : s.byOp j ty op run = run d := by
  unfold State.byOp
  rw [some_]

/-- A command that leaves each descriptor its answer, and then gives one of them its own. -/
theorem answeredBy_of_answers {s u v : State} {j : JobId} {a : Answer} (before : u.answers = s.answers)
    (after : v.host = (u.answer j a).host) : AnsweredBy s v j a := by
  intro d open_
  obtain ⟨found, unanswered⟩ := State.desc_of_openDesc open_
  have pending : u.answers j = some none := by rw [before, State.answers, found, Option.map_some, unanswered]
  obtain ⟨e, found, unanswered⟩ := Option.map_eq_some_iff.1 pending
  have answered := (State.desc_congr after j).trans ((u.desc_answer j a).trans (congrArg _ found))
  rw [Option.map_some, unanswered] at answered
  exact ⟨_, _, answered, rfl, rfl⟩

theorem answeredBy_endWith (s : State) (j : JobId) (st : Nat) : AnsweredBy s (s.endWith j st) j (Answer.of st) :=
  answeredBy_of_answers rfl rfl

theorem State.answers_congr {s u : State} (h : s.host = u.host) : s.answers = u.answers :=
  funext fun j => congrArg (Option.map Desc.answer) (State.desc_congr h j)

theorem State.answers_setHold (s : State) (j : JobId) (h : JobHold) :
    (s.onDesc j fun e => { e with hold := some h }).answers = s.answers :=
  s.answers_onDesc j (fun _ => rfl) fun _ => rfl

theorem State.desc_setHold {s : State} {j : JobId} {d : Desc} (found : s.desc j = some d) (h : JobHold) :
    (s.onDesc j fun e => { e with hold := some h }).desc j = some { d with hold := some h } :=
  (s.desc_onDesc j (fun e => { e with hold := some h }) fun _ => rfl).trans (congrArg _ found)

theorem State.desc_onHold {s : State} {j : JobId} {d : Desc} (found : s.desc j = some d) (f : JobHold → JobHold) :
    (s.onHold j f).desc j = some { d with hold := d.hold.map f } :=
  (s.desc_onDesc j (fun e => { e with hold := e.hold.map f }) fun _ => rfl).trans (congrArg _ found)

/-! ### Keys pinned -/

theorem State.pinKey_vault {s : State} {id : Nat} {p : State × Nat} (pinned : s.pinKey id = some p) :
    ∃ v, p.1 = { s with vault := v } := by
  unfold State.pinKey at pinned
  split at pinned
  · cases pinned
  · dsimp only at pinned
    split at pinned
    · cases pinned
      exact ⟨_, rfl⟩
    · split at pinned
      · cases pinned
      · cases pinned
        exact ⟨_, rfl⟩

/-- Keys are pinned in the vault alone (R297). -/
theorem State.pinKeys_vault {s : State} {ids : List Nat} {p : State × List Nat} (pinned : s.pinKeys ids = some p) :
    ∃ v, p.1 = { s with vault := v } := by
  induction ids generalizing s p with
  | nil =>
    cases pinned
    exact ⟨s.vault, rfl⟩
  | cons id l ih =>
    unfold State.pinKeys at pinned
    split at pinned
    · cases pinned
    · rename_i first
      obtain ⟨q, more, rfl⟩ := Option.map_eq_some_iff.1 pinned
      obtain ⟨v, one⟩ := State.pinKey_vault first
      obtain ⟨w, rest⟩ := ih more
      dsimp only at one
      exact ⟨w, by rw [rest, one]⟩

theorem State.withKeys_pinned {s s1 : State} {j : JobId} {d : Desc} {ids tags : List Nat}
    (pinned : s.pinKeys ids = some (s1, tags)) (act : State → State) :
    s.withKeys j d ids act = act (s1.onDesc j fun e => { e with hold := some (opHold (descOp d.bytes) tags) }) := by
  unfold State.withKeys
  rw [pinned]

/-! ### The sealed input -/

theorem State.withInput_fails {s : State} {j : JobId} {d : Desc} {inp : Sealed} {st : Nat}
    (fails : s.headerFails d (s.inputOf d inp) = some st) (act : List Byte → State → State) :
    s.withInput j d inp act = s.endWith j st := by
  unfold State.withInput State.withObject
  rw [fails]

end Sys2Proof.Machine

namespace Sys2Proof.Claims

variable {s s2 : State} {j : JobId} {d : Desc} {inp : Sealed} {p : List Byte}

theorem Opened.withInput (opened : Opened s j d inp s2 p) (act : List Byte → State → State) :
    s.withInput j d inp act = act p s2 := by
  obtain ⟨header, read, s1, tags, pinned, rfl⟩ := opened
  unfold State.withInput State.withObject
  rw [header]
  dsimp only
  rw [State.withKeys_pinned pinned, read]

/-- An input that opens leaves all but the vault and the descriptor, which has no answer from it (R297, R302). -/
theorem Opened.frame (opened : Opened s j d inp s2 p) : ∃ v l, s2 = { s with vault := v, host := l } ∧ s2.answers = s.answers := by
  obtain ⟨-, -, s1, tags, pinned, rfl⟩ := opened
  obtain ⟨v, same⟩ := State.pinKeys_vault pinned
  dsimp only at same
  subst same
  exact ⟨v, _, rfl, (State.answers_setHold _ j _).trans (State.answers_congr rfl)⟩

end Sys2Proof.Claims
end

section
/-! SUPPORT. Plans by descriptor (R185, R191 to R193, R342): what the loader answers, and what an unload takes away. -/

open Sys2Proof Sys2Proof.Claims Sys2Proof.Machine

namespace Sys2Proof.Machine

/-! ### Rows -/

theorem exec_planLoad (c : Chan) (i : BitVec 16) (inp : Sealed) (s : State) : exec (.planLoad c i inp) s
    = s.byOp (c.val, i.toNat) 3 0x10 fun d =>
        .next (s.withInput (c.val, i.toNat) d inp fun f s => s.loadAnswer (c.val, i.toNat) f) := rfl

theorem exec_planUnload (c : Chan) (i : BitVec 16) (s : State) : exec (.planUnload c i) s
    = s.byOp (c.val, i.toNat) 3 0x11 fun d =>
        if (s.plan (arg d.bytes 0 2)).isNone then .next (s.endWith (c.val, i.toNat) St.planUnknown)
        else if s.planInUse (arg d.bytes 0 2) then .next (s.endWith (c.val, i.toNat) St.planBusy)
        else .next ((s.unloadPlan (arg d.bytes 0 2)).endWith (c.val, i.toNat) St.ok) := rfl

theorem exec_loadedPlans (c : Chan) (i : BitVec 16) (s : State) : exec (.loadedPlans c i) s
    = s.byOp (c.val, i.toNat) 3 0x14 fun _ => .next (s.answerOut (c.val, i.toNat) (Answer.of St.ok)
        (s.plansInOrder.flatMap fun p => leBytes 2 p.num ++ digestBytes p.file)) := rfl

theorem exec_quote (c : Chan) (i : BitVec 16) (ch : List Byte) (s : State) : exec (.quote c i ch) s
    = s.byOp (c.val, i.toNat) 3 0x13 fun d =>
        match s.askQuote true (c.val * 65536 + i.toNat) ch with
        | none => .next (s.endWith (c.val, i.toNat) St.quoteBusy)
        | some s => .next (s.onDesc (c.val, i.toNat) fun e => { e with hold := some (opHold (descOp d.bytes) []) }) := rfl

/-! ### The loader -/

section
variable {s : State} {f : List Byte}

theorem State.loadPlan_unformatted {e : Nat × Word} (format : checkFormat f = some e) : s.loadPlan f = (s, .inr e) := by
  unfold State.loadPlan
  rw [format]

theorem State.loadPlan_forged (format : checkFormat f = none) (digest : Config.sm3 (digestBody f) ≠ planDigest f) :
    s.loadPlan f = (s, .inr (0x02, 0)) := by
  unfold State.loadPlan
  rw [format]
  exact if_pos digest

theorem State.loadPlan_known {p : Plan} (format : checkFormat f = none) (digest : Config.sm3 (digestBody f) = planDigest f)
    (known : (s.plans.find? fun q => planDigest q.file = planDigest f) = some p) : s.loadPlan f = (s, .inl p.num) := by
  unfold State.loadPlan
  rw [format]
  refine (if_neg (not_not.2 digest)).trans ?_
  rw [known]

theorem State.loadPlan_new (format : checkFormat f = none) (digest : Config.sm3 (digestBody f) = planDigest f)
    (new : ∀ q ∈ s.plans, planDigest q.file ≠ planDigest f) (good : checkPlan f s.licTuning s.smallestRing = none) :
    s.loadPlan f = s.storePlan f := by
  have unknown : (s.plans.find? fun q => planDigest q.file = planDigest f) = none :=
    List.find?_eq_none.2 fun q mem => by simpa using new q mem
  unfold State.loadPlan
  rw [format]
  refine (if_neg (not_not.2 digest)).trans ?_
  rw [unknown]
  dsimp only
  rw [good]

end

/-- A choice among some is one of them; one more free value is drawn. -/
theorem State.pick_mem (s : State) (id : Nat) {l : List Nat} (some_ : l ≠ []) :
    ∃ k ∈ l, s.pick id l = some (k, { s with freeCount := s.freeCount + 1 }) := by
  have inside : Config.choice id s.freeCount % l.length < l.length := Nat.mod_lt _ (List.length_pos_iff.2 some_)
  refine ⟨l[Config.choice id s.freeCount % l.length], List.getElem_mem inside, ?_⟩
  unfold State.pick
  rw [if_neg (by simpa using some_), ← List.getD_eq_getElem l 0 inside]
  rfl

theorem State.mem_freePlans {s : State} {k : Nat} (mem : k ∈ s.freePlans) : 1 ≤ k ∧ k ≤ 1024 ∧ s.plan k = none := by
  obtain ⟨number, free⟩ := List.mem_filter.1 mem
  obtain ⟨n, low, rfl⟩ := List.mem_map.1 number
  have := List.mem_range.1 low
  exact ⟨by omega, by omega, Option.isNone_iff_eq_none.1 free⟩

/-- A plan that passed is stored in near memory while that has room (R177, R191). -/
theorem State.storePlan_near {s : State} {f : List Byte} (free : s.freePlans ≠ [])
    (room : s.libraryUsed false + planBytes f ≤ nearLibrary) : ∃ k ∈ s.freePlans, ∃ gifts, s.storePlan f
      = (State.closeP { s with freeCount := s.freeCount + 1, plans := s.plans ++ [⟨k, f, false, gifts, false⟩] }, .inl k) := by
  obtain ⟨k, mem, picked⟩ := s.pick_mem 13 free
  unfold State.storePlan
  dsimp only
  rw [picked, decide_eq_true room]
  exact ⟨k, mem, _, rfl⟩

theorem State.closeP_dict (s : State) : ∃ d, s.closeP = { s with dict := d } := by
  unfold State.closeP
  dsimp only
  split
  · exact ⟨s.dict, rfl⟩
  · exact ⟨_, rfl⟩

/-! ### The answer of a load -/

section
variable {s u : State} {j : JobId} {f : List Byte}

/-- A load that is rejected is answered, shown and counted (R193). -/
theorem State.loadAnswer_rejected {e : Nat × Word} (load : u.loadPlan f = (u, .inr e)) (answers : u.answers = s.answers)
    (plans : u.plans = s.plans) (dict : u.dict = s.dict) : let v := u.loadAnswer j f
    AnsweredBy s v j { Answer.of St.loadRejected with count0 := e.1, detail := e.2.toNat } ∧ SamePlans s v
      ∧ v.get K.lastLoadStatus = e.1 ∧ v.get K.lastLoadDetail = e.2.toNat ∧ Counted s v K.loadRejectCount 1 := by
  have rejected : u.loadAnswer j f
      = (((u.bump K.loadRejectCount 1).set K.lastLoadStatus e.1).set K.lastLoadDetail e.2.toNat).answer j
        { Answer.of St.loadRejected with count0 := e.1, detail := e.2.toNat } := by
    unfold State.loadAnswer
    rw [load]
  rw [rejected]
  generalize shown : ((u.bump K.loadRejectCount 1).set K.lastLoadStatus e.1).set K.lastLoadDetail e.2.toNat = w
  have get : ∀ k, w.get k = if k = K.lastLoadDetail then e.2.toNat else if k = K.lastLoadStatus then e.1
      else (u.bump K.loadRejectCount 1).get k := fun k => by rw [← shown, State.get_set, State.get_set]
  have host : w.host = u.host := by rw [← shown]; rfl
  refine ⟨answeredBy_of_answers ((State.answers_congr host).trans answers) rfl, ?_, get K.lastLoadStatus, get K.lastLoadDetail,
    counted_bump ((get K.loadRejectCount).trans (State.get_bump_congr (State.get_congr dict _) 1))⟩
  exact (show w.plans = u.plans by rw [← shown]; rfl).trans plans

/-- A load that passes answers the number of its plan (R193). -/
theorem State.loadAnswer_loaded {w : State} {n : Nat} (load : u.loadPlan f = (w, .inl n)) (answers : w.answers = s.answers) :
    let v := u.loadAnswer j f
    AnsweredBy s v j { Answer.of St.ok with count0 := n } ∧ v.plans = w.plans ∧ v.get K.lastLoadStatus = 0
      ∧ v.get K.priorityClassState = w.get K.priorityClassState := by
  have loaded : u.loadAnswer j f
      = ((w.set K.lastLoadStatus 0).set K.lastLoadDetail 0).answer j { Answer.of St.ok with count0 := n } := by
    unfold State.loadAnswer
    rw [load]
  rw [loaded]
  generalize shown : (w.set K.lastLoadStatus 0).set K.lastLoadDetail 0 = x
  have get : ∀ k, x.get k = if k = K.lastLoadDetail then 0 else if k = K.lastLoadStatus then 0 else w.get k := fun k => by
    rw [← shown, State.get_set, State.get_set]
  have host : x.host = w.host := by rw [← shown]; rfl
  refine ⟨answeredBy_of_answers ((State.answers_congr host).trans answers) rfl, ?_, get K.lastLoadStatus,
    get K.priorityClassState⟩
  rw [← shown]
  rfl

end

/-! ### Unloading -/

/-- A plan leaves the resident sets of one strand. -/
def State.dropResidentAt (n : Nat) (s : State) (st : Nat) : State := s.onStrand st fun v => { v with
  resA := if v.resA = n then 0 else v.resA
  resB := if v.resB = n then 0 else v.resB }

/-- A role bound to a plan is bound to none. -/
def State.unbindRole (n : Nat) (s : State) (r : Nat) : State :=
  if s.get (K.rolePlan r) = n then s.set (K.rolePlan r) 0 else s

/-- The state in which no strand of a list keeps a plan resident and no role of a list is bound to it. -/
def State.unused (s : State) (n : Nat) (roles strands : List Nat) : State :=
  roles.foldl (State.unbindRole n) (strands.foldl (State.dropResidentAt n) s)

/-- The library without a plan. -/
def State.withoutPlan (s : State) (n : Nat) : State := { s with
  plans := s.plans.filter fun p => p.num ≠ n
  check := { s.check with planLosses := s.check.planLosses.filter fun p => p.plan ≠ n } }

theorem State.unloadPlan_eq (s : State) (n : Nat) :
    s.unloadPlan n = ((s.unused n allRoles (List.range 48)).withoutPlan n).closeP := by
  unfold State.unloadPlan State.unused State.dropResident
  generalize allRoles = roles
  generalize List.range 48 = strands
  rfl

section
variable (s : State) {n : Nat} (roles strands : List Nat)

theorem State.unused_rest (n : Nat) : { s.unused n roles strands with dict := [], strands := [] }
    = { s with dict := [], strands := [] } := by
  refine (foldl_part (fun s : State => { s with dict := [], strands := [] }) (fun u r => ?_) roles _).trans
    (foldl_part (fun s : State => { s with dict := [], strands := [] }) (fun u st => ?_) strands s)
  · unfold State.unbindRole
    split <;> rfl
  · rfl

theorem State.unused_role {roles : List Nat} {r : Nat} (real : n ≠ 0) (mem : r ∈ roles) :
    (s.unused n roles strands).get (K.rolePlan r) ≠ n := by
  have step : ∀ (u : State) (q : Nat), (u.unbindRole n q).get (K.rolePlan r)
      = if u.get (K.rolePlan q) = n ∧ K.rolePlan r = K.rolePlan q then 0 else u.get (K.rolePlan r) := fun u q => by
    unfold State.unbindRole
    by_cases bound : u.get (K.rolePlan q) = n
    · rw [if_pos bound, State.get_set]
      exact if_congr (by simp [bound]) rfl rfl
    · rw [if_neg bound, if_neg fun h => bound h.1]
  refine foldl_turns (before := fun _ => True) (after := fun u => u.get (K.rolePlan r) ≠ n) (fun _ _ _ h => h)
    (fun u _ => ?_) (fun u q free => ?_) mem trivial
  · rw [step]
    by_cases bound : u.get (K.rolePlan r) = n
    · rw [if_pos ⟨bound, rfl⟩]
      exact real.symm
    · rwa [if_neg fun h => bound h.1]
  · rw [step]
    split
    · exact real.symm
    · exact free

theorem State.unused_strand {strands : List Nat} {st : Nat} (real : n ≠ 0) (mem : st ∈ strands) :
    ((s.unused n roles strands).strand st).resA ≠ n ∧ ((s.unused n roles strands).strand st).resB ≠ n := by
  have cleared : ∀ m : Nat, (if m = n then 0 else m) ≠ n := fun m => by
    split
    · exact real.symm
    · assumption
  have same : (s.unused n roles strands).strands = (strands.foldl (State.dropResidentAt n) s).strands :=
    foldl_part State.strands (fun u r => by unfold State.unbindRole; split <;> rfl) roles _
  rw [State.strand_congr same]
  refine foldl_turns (before := fun _ => True) (after := fun u => (u.strand st).resA ≠ n ∧ (u.strand st).resB ≠ n)
    (fun _ _ _ h => h) (fun u _ => ?_) (fun u w free => ?_) mem trivial
  · rw [State.dropResidentAt, State.strand_onStrand, if_pos rfl]
    exact ⟨cleared _, cleared _⟩
  · rw [State.dropResidentAt, State.strand_onStrand]
    split
    · exact ⟨cleared _, cleared _⟩
    · exact free

/-- What is left of a state in which a plan is unused, once the library is without it. -/
theorem State.unloaded_spec (plain : ∀ r ∈ roles, workKey (K.rolePlan r) = false) (n : Nat) :
    let u := ((s.unused n roles strands).withoutPlan n).closeP
    u.host = s.host ∧ u.plans = s.plans.filter (fun p => p.num ≠ n)
      ∧ (n ≠ 0 → (∀ r ∈ roles, u.get (K.rolePlan r) ≠ n)
        ∧ ∀ st ∈ strands, (u.strand st).resA ≠ n ∧ (u.strand st).resB ≠ n) := by
  have rest := s.unused_rest roles strands n
  have role := fun real r (mem : r ∈ roles) => s.unused_role (n := n) strands real mem
  have strand := fun real st (mem : st ∈ strands) => s.unused_strand (n := n) roles real mem
  generalize s.unused n roles strands = v at rest role strand
  obtain ⟨d, closed⟩ := (v.withoutPlan n).closeP_dict
  refine ⟨?_, ?_, fun real => ⟨fun r mem => ?_, fun st mem => ?_⟩⟩
  · exact (congrArg State.host closed).trans (congrArg State.host rest :)
  · exact (congrArg State.plans closed).trans (congrArg (fun u : State => u.plans.filter fun p => p.num ≠ n) rest :)
  · rw [State.get_of_ground (v.withoutPlan n).closeP_ground (plain r mem)]
    exact role real r mem
  · rw [State.strand_congr (v.withoutPlan n).closeP_strands]
    exact strand real st mem

end

/-- A plan leaves the library, every role and every resident set (R192, R364). -/
theorem State.unloadPlan_spec (s : State) (n : Nat) : (s.unloadPlan n).host = s.host
    ∧ (s.unloadPlan n).plans = s.plans.filter (fun p => p.num ≠ n)
    ∧ (n ≠ 0 → (∀ r ∈ allRoles, (s.unloadPlan n).get (K.rolePlan r) ≠ n)
      ∧ ∀ st, st < 48 → ((s.unloadPlan n).strand st).resA ≠ n ∧ ((s.unloadPlan n).strand st).resB ≠ n) := by
  rw [s.unloadPlan_eq]
  obtain ⟨host, plans, gone⟩ := s.unloaded_spec allRoles (List.range 48) (by decide) n
  refine ⟨host, plans, fun real => ?_⟩
  obtain ⟨roles, strands⟩ := gone real
  exact ⟨roles, fun st low => strands st (List.mem_range.2 low)⟩

/-! ### The list of plans, and quotes -/

/-- Output that fits, and output that does not (R340). -/
theorem State.answerOut_spec (s : State) {j : JobId} {d : Desc} (found : s.desc j = some d) (a : Answer) (out : List Byte) :
    s.answerOut j a out = if descOutCap d.bytes < out.length then
        s.answer j { a with status := St.outTooSmall, out := [], outLen := out.length }
      else s.answer j { a with out := out, outLen := out.length } := by
  unfold State.answerOut
  rw [found]

end Sys2Proof.Machine
end

section
/-! Administrative descriptors, settled case by case. -/

open Sys2Proof Sys2Proof.Claims Sys2Proof.Machine

namespace Sys2Proof.Machine

variable (s : State) (c : Chan) (i : BitVec 16)

theorem execPlanLoad_rules {d : Desc} (inp : Sealed) (run : s.opDesc (c.val, i.toNat) 3 0x10 = some d) :
    let j : JobId := (c.val, i.toNat)
    (∀ st, s.headerFails d (s.inputOf d inp) = some st → Ends (.planLoad c i inp) s fun s' =>
      AnsweredBy s s' j (Answer.of st) ∧ SamePlans s s')
    ∧ (∀ s2 f e, Opened s j d inp s2 f → checkFormat f = some e → Ends (.planLoad c i inp) s fun s' =>
      AnsweredBy s s' j { Answer.of St.loadRejected with count0 := e.1, detail := e.2.toNat } ∧ SamePlans s s'
        ∧ s'.get K.lastLoadStatus = e.1 ∧ s'.get K.lastLoadDetail = e.2.toNat ∧ Counted s s' K.loadRejectCount 1)
    ∧ (∀ s2 f, Opened s j d inp s2 f → checkFormat f = none → Config.sm3 (digestBody f) ≠ planDigest f →
      Ends (.planLoad c i inp) s fun s' =>
        AnsweredBy s s' j { Answer.of St.loadRejected with count0 := 2 } ∧ SamePlans s s' ∧ s'.get K.lastLoadStatus = 2)
    ∧ (∀ s2 f p, Opened s j d inp s2 f → checkFormat f = none → Config.sm3 (digestBody f) = planDigest f →
      (s.plans.find? fun q => planDigest q.file = planDigest f) = some p → Ends (.planLoad c i inp) s fun s' =>
        AnsweredBy s s' j { Answer.of St.ok with count0 := p.num } ∧ SamePlans s s')
    ∧ (∀ s2 f, Opened s j d inp s2 f → checkFormat f = none → Config.sm3 (digestBody f) = planDigest f →
      (∀ q ∈ s.plans, planDigest q.file ≠ planDigest f) → checkPlan f s.licTuning s.smallestRing = none →
      s.freePlans ≠ [] → s.libraryUsed false + planBytes f ≤ nearLibrary → Ends (.planLoad c i inp) s fun s' =>
        ∃ p, s'.plans = s.plans ++ [p] ∧ p.file = f ∧ p.far = false ∧ 1 ≤ p.num ∧ p.num ≤ 1024 ∧ s.plan p.num = none
          ∧ AnsweredBy s s' j { Answer.of St.ok with count0 := p.num } ∧ s'.get K.lastLoadStatus = 0
          ∧ (s.get K.priorityClassState = 0 → s'.get K.priorityClassState = 1)) := by
  have load := (exec_planLoad c i inp s).trans (State.byOp_some run _)
  refine ⟨fun st fails => ?_, fun s2 f e opened format => ?_, fun s2 f opened format digest => ?_,
    fun s2 f p opened format digest known => ?_, fun s2 f opened format digest new good free room => ?_⟩
  · rw [State.withInput_fails fails] at load
    exact ⟨_, load, answeredBy_endWith _ _ _, rfl⟩
  · rw [opened.withInput] at load
    obtain ⟨v, l, rfl, answers⟩ := opened.frame
    exact ⟨_, load, State.loadAnswer_rejected (State.loadPlan_unformatted format) answers rfl rfl⟩
  · rw [opened.withInput] at load
    obtain ⟨v, l, rfl, answers⟩ := opened.frame
    obtain ⟨answered, plans, status, -, -⟩ :=
      State.loadAnswer_rejected (j := (c.val, i.toNat)) (State.loadPlan_forged format digest) answers rfl rfl
    exact ⟨_, load, answered, plans, status⟩
  · rw [opened.withInput] at load
    obtain ⟨v, l, rfl, answers⟩ := opened.frame
    obtain ⟨answered, plans, -, -⟩ := State.loadAnswer_loaded (j := (c.val, i.toNat))
      (State.loadPlan_known (s := { s with vault := v, host := l }) format digest known) answers
    exact ⟨_, load, answered, plans⟩
  · rw [opened.withInput] at load
    obtain ⟨v, l, rfl, answers⟩ := opened.frame
    obtain ⟨k, mem, gifts, stored⟩ := State.storePlan_near (s := { s with vault := v, host := l }) (f := f) free room
    obtain ⟨low, high, unused⟩ := State.mem_freePlans mem
    generalize kept : ({ s with
      vault := v, host := l, freeCount := s.freeCount + 1, plans := s.plans ++ [⟨k, f, false, gifts, false⟩] } : State) = u at stored
    have hosts : u.closeP.answers = s.answers := by
      rw [State.answers_of_ground u.closeP_ground, ← answers]
      exact State.answers_congr (by rw [← kept])
    obtain ⟨answered, plans, status, classes⟩ := State.loadAnswer_loaded (j := (c.val, i.toNat))
      ((State.loadPlan_new (s := { s with vault := v, host := l }) format digest new good).trans stored) hosts
    refine ⟨_, load, ⟨k, f, false, gifts, false⟩, plans.trans ?_, rfl, rfl, low, high, unused, answered, status, fun open_ => ?_⟩
    · obtain ⟨e, closed⟩ := u.closeP_dict
      rw [closed, ← kept]
    · exact classes.trans (State.closeP_class (by rw [← kept]; exact open_))

theorem execPlanUnload_rules {d : Desc} (run : s.opDesc (c.val, i.toNat) 3 0x11 = some d) :
    let j : JobId := (c.val, i.toNat)
    let n := arg d.bytes 0 2
    (s.plan n = none → Ends (.planUnload c i) s fun s' => AnsweredBy s s' j (Answer.of St.planUnknown) ∧ SamePlans s s')
    ∧ (s.plan n ≠ none → s.planInUse n = true → Ends (.planUnload c i) s fun s' =>
        AnsweredBy s s' j (Answer.of St.planBusy) ∧ SamePlans s s')
    ∧ (s.plan n ≠ none → s.planInUse n = false → Ends (.planUnload c i) s fun s' =>
        AnsweredBy s s' j (Answer.of St.ok) ∧ s'.plans = s.plans.filter (fun p => p.num ≠ n)
          ∧ (n ≠ 0 → (∀ r ∈ allRoles, s'.get (K.rolePlan r) ≠ n)
            ∧ ∀ st, st < 48 → (s'.strand st).resA ≠ n ∧ (s'.strand st).resB ≠ n)) := by
  have unload := (exec_planUnload c i s).trans (State.byOp_some run _)
  refine ⟨fun none_ => ?_, fun some_ busy => ?_, fun some_ idle => ?_⟩
  · exact ⟨_, unload.trans (if_pos (Option.isNone_iff_eq_none.2 none_)), answeredBy_endWith _ _ _, rfl⟩
  · exact ⟨_, (unload.trans (if_neg (mt Option.isNone_iff_eq_none.1 some_))).trans (if_pos busy), answeredBy_endWith _ _ _, rfl⟩
  · obtain ⟨host, plans, gone⟩ := s.unloadPlan_spec (arg d.bytes 0 2)
    rw [if_neg (mt Option.isNone_iff_eq_none.1 some_), if_neg (ne_true_of_eq_false idle)] at unload
    generalize s.unloadPlan (arg d.bytes 0 2) = u at unload host plans gone
    exact ⟨_, unload, answeredBy_of_answers (State.answers_congr host) rfl, plans, gone⟩

theorem execLoadedPlans_rules {d : Desc} (run : s.opDesc (c.val, i.toNat) 3 0x14 = some d) :
    let j : JobId := (c.val, i.toNat)
    let l := s.plansInOrder.flatMap fun p => leBytes 2 p.num ++ digestBytes p.file
    (l.length ≤ descOutCap d.bytes → Ends (.loadedPlans c i) s fun s' =>
      AnsweredBy s s' j { Answer.of St.ok with out := l, outLen := l.length })
    ∧ (descOutCap d.bytes < l.length → Ends (.loadedPlans c i) s fun s' =>
      AnsweredBy s s' j { Answer.of St.outTooSmall with outLen := l.length }) := by
  have list := (exec_loadedPlans c i s).trans (State.byOp_some run _)
  rw [s.answerOut_spec (State.desc_of_openDesc (State.openDesc_of_opDesc run)).1] at list
  refine ⟨fun fits => ?_, fun small => ?_⟩
  · rw [if_neg (not_lt.2 fits)] at list
    exact ⟨_, list, answeredBy_of_answers rfl rfl⟩
  · rw [if_pos small] at list
    exact ⟨_, list, answeredBy_of_answers rfl rfl⟩

theorem execQuote_rules {d : Desc} (ch : List Byte) (run : s.opDesc (c.val, i.toNat) 3 0x13 = some d) :
    let j : JobId := (c.val, i.toNat)
    (16 ≤ s.vault.quotes.length → Ends (.quote c i ch) s fun s' =>
      AnsweredBy s s' j (Answer.of St.quoteBusy) ∧ s'.vault.quotes = s.vault.quotes)
    ∧ (s.vault.quotes.length < 16 → Ends (.quote c i ch) s fun s' =>
      s'.vault.quotes = s.vault.quotes ++ [(true, c.val * 65536 + i.toNat, ch)] ∧ SamePlans s s'
        ∧ ∃ d', s'.desc j = some d' ∧ d'.hold.isSome = true ∧ d'.answer = none) := by
  have quote := (exec_quote c i ch s).trans (State.byOp_some run _)
  obtain ⟨found, unanswered⟩ := State.desc_of_openDesc (State.openDesc_of_opDesc run)
  refine ⟨fun full => ?_, fun room => ?_⟩
  · rw [State.askQuote, if_pos full] at quote
    exact ⟨_, quote, answeredBy_endWith _ _ _, rfl⟩
  · rw [State.askQuote, if_neg (not_le.2 room)] at quote
    refine ⟨_, quote, rfl, rfl, _, State.desc_setHold (d := d) ?_ _, rfl, unanswered⟩
    exact (State.desc_congr rfl _).trans found

theorem adminOperations_rules : AdminOperations := by
  intro s c i
  refine ⟨fun x row none_ => ?_, fun d inp run => execPlanLoad_rules s c i inp run, fun d run => execPlanUnload_rules s c i run,
    fun d run => execLoadedPlans_rules s c i run, fun d ch run => execQuote_rules s c i ch run⟩
  rcases row with ⟨inp, rfl⟩ | rfl | rfl | ⟨ch, rfl⟩
  · exact (exec_planLoad c i inp s).trans (State.byOp_none none_ _)
  · exact (exec_planUnload c i s).trans (State.byOp_none none_ _)
  · exact (exec_loadedPlans c i s).trans (State.byOp_none none_ _)
  · exact (exec_quote c i ch s).trans (State.byOp_none none_ _)

end Sys2Proof.Machine
end

section
/-! SUPPORT. Raw operations (R352, R353, R426 to R428, R600): the tile that is loaded, the message that is sent, and how windows
and packets by descriptor end. -/

open Sys2Proof Sys2Proof.Claims Sys2Proof.Machine

namespace Sys2Proof.Machine

/-! ### Rows -/

section
variable (c : Chan) (i : BitVec 16) (inp : Sealed) (s : State)

theorem exec_tileLoad : exec (.tileLoad c i inp) s = s.byOp (c.val, i.toNat) 2 0x20 fun d =>
    match slotOfCode (arg d.bytes 0 2) with
    | none => .next (s.endWith (c.val, i.toNat) St.opNotPermitted)
    | some t =>
      if s.loadable c.val t then .next (s.withInput (c.val, i.toNat) d inp fun p s => s.tileLoad (c.val, i.toNat) t p)
      else .next (s.endWith (c.val, i.toNat) St.opNotPermitted) := rfl

theorem exec_inject : exec (.inject c i inp) s = s.byOp (c.val, i.toNat) 2 0x21 fun d =>
    .next (s.withInput (c.val, i.toNat) d inp fun p s => s.injectNow (c.val, i.toNat) d.bytes p) := rfl

theorem exec_windowOpen : exec (.windowOpen c i) s = s.byOp (c.val, i.toNat) 2 0x22 fun d =>
    .next (s.openRaw (c.val, i.toNat) d.bytes) := rfl

/-- The raw close of an open window, in the name of its descriptor (R353). -/
def State.closeRaw (s : State) (j : JobId) (w : Nat) : State :=
  (State.setWindow (s.onDesc j fun e => { e with hold := some (opHold 0x23 []) }) w
    { s.window w with owner := some j }).beginClose w

theorem exec_windowClose : exec (.windowClose c i) s = s.byOp (c.val, i.toNat) 2 0x23 fun d =>
    if 256 ≤ arg d.bytes 0 2 then .next (s.endWith (c.val, i.toNat) St.windowArgs)
    else if (s.window (arg d.bytes 0 2)).state ≠ 1 then .next (s.endWith (c.val, i.toNat) St.windowUnknown)
    else .next (s.closeRaw (c.val, i.toNat) (arg d.bytes 0 2)) := rfl

theorem exec_windowRead : exec (.windowRead c i) s = s.byOp (c.val, i.toNat) 2 0x24 fun d =>
    .next (s.readRaw (c.val, i.toNat) d) := rfl

theorem exec_windowWrite : exec (.windowWrite c i inp) s = s.byOp (c.val, i.toNat) 2 0x25 fun d =>
    if 256 ≤ arg d.bytes 0 2 then .next (s.endWith (c.val, i.toNat) St.windowArgs)
    else .next (s.withInput (c.val, i.toNat) d inp fun p s => s.writeRaw (c.val, i.toNat) d.bytes p) := rfl

theorem exec_fabricPacket : exec (.fabricPacket c i inp) s = s.byOp (c.val, i.toNat) 2 0x26 fun d =>
    if arg d.bytes 0 2 = 0 ∨ 4096 < arg d.bytes 0 2 then .next (s.endWith (c.val, i.toNat) St.descFormat)
    else if !s.storeRoom (arg d.bytes 0 2) (arg d.bytes 2 2 + fld (arg d.bytes 4 1) 10 2 + fld 2 13 3) 1024 then .next s
    else .next (s.withInput (c.val, i.toNat) d inp fun p s =>
      if 1024 < p.length then s.endWith (c.val, i.toNat) St.descFormat else s.sendRaw (c.val, i.toNat) d.bytes p) := rfl

end

/-! ### Tiles -/

/-- A segment that passed starts its tile, in the name of its descriptor (R600). -/
theorem State.rawLoad_starts (s : State) (j : JobId) (t : Nat) (seg : List Byte) :
    StartsAt ((s.rawLoad j t seg).tile t) ((((recsOf seg).filter fun r => r.typ = 15).getLast?.map (·.target)).getD 0)
      ∧ (t, j) ∈ ((s.rawLoad j t seg).strand (s.strandOf t)).rawLoads := by
  unfold State.rawLoad
  dsimp only
  rw [State.onStrand_tile, State.tile_onTile_same, State.strand_onStrand, if_pos rfl]
  exact ⟨Tile.startsAt_startAt _ _, List.mem_append_right _ (List.mem_singleton_self _)⟩

section
variable {s : State} {j : JobId} {t : Nat} {seg : List Byte}

theorem State.tileLoad_rejected {e : Nat × Word}
    (bad : (s.tile t).checkSegment (s.strandOf t) (s.stageSlots (s.strandOf t)).length seg = some e) :
    s.tileLoad j t seg = s.answer j { Answer.of St.loadRejected with count0 := e.1, detail := e.2.toNat } := by
  unfold State.tileLoad
  dsimp only
  rw [bad]

theorem State.tileLoad_passes
    (good : (s.tile t).checkSegment (s.strandOf t) (s.stageSlots (s.strandOf t)).length seg = none) :
    s.tileLoad j t seg = s.rawLoad j t seg := by
  unfold State.tileLoad
  dsimp only
  rw [good]

end

/-! ### Messages -/

theorem nodeClass_hold (pclass : Nat) (early : Bool) (h : Header) :
    decide (nodeClass pclass early h = .hold) = (h.priReq && decide (pclass = 1)) := by
  unfold nodeClass
  cases h.priReq with
  | false => rfl
  | true =>
    by_cases open_ : pclass = 0
    · rw [if_neg (by decide), if_pos open_, open_]
      rfl
    · rw [if_neg (by decide), if_neg open_]
      by_cases closing : pclass = 1
      · rw [if_pos closing, closing]
        rfl
      · rw [if_neg closing, decide_eq_false closing]
        split <;> rfl

theorem nodeClass_priority {pclass : Nat} {early : Bool} {h : Header} (used : nodeClass pclass early h = .priority) :
    h.priReq = true ∧ (pclass = 0 ∨ pclass = 3) := by
  unfold nodeClass at used
  split at used
  · cases used
  · rename_i asked
    refine ⟨by simpa using asked, ?_⟩
    split at used
    · exact .inl ‹_›
    · split at used
      · cases used
      · split at used
        · rename_i last
          exact .inr (of_decide_eq_true (Bool.and_eq_true_iff.1 last).1)
        · cases used

/-- The host node's message of a raw descriptor waits to leave in its class (R96, R219). -/
theorem State.nodeSend_raw (s : State) (j : JobId) (h : Header) (p : List Byte) :
    ∃ u, (s.nodeSend ⟨h, p, false⟩ (some j) none).net = { s.net with nodeSends := s.net.nodeSends
        ++ [⟨⟨{ h with priUsed := u }, p, false⟩, false, true, some j, none, 0, 0,
          h.priReq && decide (s.get K.priorityClassState = 1)⟩] }
      ∧ (u = true → h.priReq = true ∧ (s.get K.priorityClassState = 0 ∨ s.get K.priorityClassState = 3)) := by
  unfold State.nodeSend Msg.inClass
  dsimp only
  rw [nodeClass_hold]
  exact ⟨_, rfl, fun used => nodeClass_priority (of_decide_eq_true used)⟩

/-! ### Windows that open -/

theorem State.window_congr {s u : State} (h : s.fabric.windows = u.fabric.windows) (w : Nat) : s.window w = u.window w := by
  rw [State.window, State.window, h]

/-- The numbers that a window may open under (R426, R429). -/
theorem State.mem_freeWindows {s : State} {w : Nat} :
    w ∈ ((List.range 256).filter fun w => (s.window w).state = 0 && (s.window w).freedAt.isNone)
      ↔ w < 256 ∧ (s.window w).state = 0 ∧ (s.window w).freedAt = none := by
  rw [List.mem_filter, List.mem_range, Bool.and_eq_true, decide_eq_true_eq, Option.isNone_iff_eq_none]

theorem State.freeWindow_some {s : State} (free : ∃ w, w < 256 ∧ (s.window w).state = 0 ∧ (s.window w).freedAt = none) :
    ∃ w, w < 256 ∧ (s.window w).state = 0 ∧ (s.window w).freedAt = none
      ∧ s.freeWindow = some (w, { s with freeCount := s.freeCount + 1 }) := by
  obtain ⟨w, free⟩ := free
  obtain ⟨n, mem, picked⟩ := s.pick_mem 15 (List.ne_nil_of_mem (State.mem_freeWindows.2 free))
  obtain ⟨low, state, held⟩ := State.mem_freeWindows.1 mem
  exact ⟨n, low, state, held, picked⟩

theorem State.freeWindow_none {s : State} (full : ∀ w, w < 256 → (s.window w).state ≠ 0 ∨ (s.window w).freedAt ≠ none) :
    s.freeWindow = none := by
  refine if_pos (List.isEmpty_iff.2 (List.eq_nil_iff_forall_not_mem.2 fun w mem => ?_))
  obtain ⟨low, state, held⟩ := State.mem_freeWindows.1 mem
  exact (full w low).elim (absurd state) (absurd held)

theorem State.openNumber_full {s : State} (full : s.freeWindow = none) (j : JobId) (v : Window) :
    s.openNumber j v = s.endWith j St.windowLimit := by
  unfold State.openNumber
  rw [full]

/-- A window of a tile shows in its slot. -/
def State.showWindow (s : State) (v : Window) (n : Nat) : State :=
  if v.kind = 1 then s.onTile v.slot fun t =>
    t.setWinSlot v.winslot ⟨v.base / 64, (v.base + v.size - 1) / 64, true, false, n⟩
  else s

/-- A window opens under a number: no other window changes, and no tile but its own (R426). -/
theorem State.openNumber_opens {s : State} {n : Nat} (free : s.freeWindow = some (n, { s with freeCount := s.freeCount + 1 }))
    (j : JobId) (v : Window) : let u := s.openNumber j v
    u.window n = v ∧ (∀ x, x ≠ n → u.window x = s.window x) ∧ AnsweredBy s u j { Answer.of St.ok with count0 := n }
      ∧ u.tiles = (s.showWindow v n).tiles := by
  have opens : s.openNumber j v = ((State.setWindow { s with freeCount := s.freeCount + 1 } n v).showWindow v n).answer j
      { Answer.of St.ok with count0 := n } := by
    unfold State.openNumber
    rw [free]
    rfl
  have rest : ∀ u : State, (u.showWindow v n).host = u.host ∧ (u.showWindow v n).fabric = u.fabric := fun u => by
    unfold State.showWindow
    split <;> exact ⟨rfl, rfl⟩
  dsimp only
  rw [opens]
  obtain ⟨host, fabric⟩ := rest (State.setWindow { s with freeCount := s.freeCount + 1 } n v)
  have windows := fun x => (State.window_congr (congrArg Fabric.windows fabric) x).trans (State.window_setWindow _ n x v)
  refine ⟨(windows n).trans (if_pos rfl), fun x other => (windows x).trans (if_neg other), answeredBy_answer host.symm rfl, ?_⟩
  unfold State.showWindow
  split <;> rfl

section
variable {s : State} {j : JobId} {d : List Byte}

theorem State.openRaw_bad (bad : openArgsOk d = false) : s.openRaw j d = s.endWith j St.windowArgs := by
  unfold State.openRaw
  exact if_pos (by rw [bad]; rfl)

theorem State.openRaw_memory (good : openArgsOk d = true) (memory : arg d 0 1 = 2) : s.openRaw j d
    = if windowRegionOk (arg d 8 4 * 256) (arg d 12 4 * 256) then s.openNumber j (openWindow d 0 0)
      else s.endWith j St.windowRegion := by
  unfold State.openRaw
  exact (if_neg (by rw [good]; decide)).trans (if_neg (by omega))

theorem State.openRaw_tile {t : Nat} (good : openArgsOk d = true) (pad : arg d 0 1 = 1)
    (slot : slotOfCode (arg d 4 2) = some t) : s.openRaw j d
    = match (s.tile t).freeWinSlot with
      | some w =>
        if (s.tile t).windowMeets (arg d 8 4) (arg d 12 4) || !rangeMapped (s.tile t).pad.bankOk (arg d 8 4) (arg d 12 4) then
          s.endWith j St.windowNoSlot
        else s.openNumber j (openWindow d t w)
      | none => s.endWith j St.windowNoSlot := by
  unfold State.openRaw
  refine (if_neg (by rw [good]; decide)).trans ((if_pos pad).trans ?_)
  rw [slot]
  rfl

theorem State.openRaw_noSlot {t : Nat} (good : openArgsOk d = true) (pad : arg d 0 1 = 1)
    (slot : slotOfCode (arg d 4 2) = some t) (none_ : (s.tile t).freeWinSlot = none
      ∨ (s.tile t).windowMeets (arg d 8 4) (arg d 12 4) = true
      ∨ rangeMapped (s.tile t).pad.bankOk (arg d 8 4) (arg d 12 4) = false) :
    s.openRaw j d = s.endWith j St.windowNoSlot := by
  rw [State.openRaw_tile good pad slot]
  split
  · rename_i free
    refine if_pos ?_
    rcases none_ with none_ | meets | unmapped
    · rw [none_] at free
      cases free
    · rw [meets, Bool.true_or]
    · rw [unmapped, Bool.not_false, Bool.or_true]
  · rfl

theorem State.openRaw_slot {t k : Nat} (good : openArgsOk d = true) (pad : arg d 0 1 = 1)
    (slot : slotOfCode (arg d 4 2) = some t) (free : (s.tile t).freeWinSlot = some k)
    (apart : (s.tile t).windowMeets (arg d 8 4) (arg d 12 4) = false)
    (mapped : rangeMapped (s.tile t).pad.bankOk (arg d 8 4) (arg d 12 4) = true) :
    s.openRaw j d = s.openNumber j (openWindow d t k) := by
  rw [State.openRaw_tile good pad slot, free, apart, mapped]
  rfl

end

/-! ### Windows that close -/

/-- A window closes with its tile's slot, and its number waits for its reuse hold; the raw close is answered (R428, R429). -/
theorem State.closeComplete_owned {s : State} {w : Nat} {j : JobId} (owned : (s.window w).owner = some j) :
    (s.closeComplete w).window w = { Window.closed with freedAt := some s.timeBase }
      ∧ (s.closeComplete w).host = (s.endWith j St.ok).host := by
  unfold State.closeComplete
  dsimp only
  rw [owned]
  by_cases pad : (s.window w).kind = 1
  · rw [if_pos pad]
    exact ⟨(windowGone_of (s := s) rfl).1, rfl⟩
  · rw [if_neg pad]
    exact ⟨(windowGone_of (s := s) rfl).1, rfl⟩

/-- A window that closes, and waits for the answers of the endpoints in its scope (R428, steps 1 and 2). -/
def Window.closing (v : Window) (eps : List Nat) : Window := { v with state := 2, waitAck := eps, acked := [] }

/-- The state in which a window has begun to close. -/
def State.closing (s : State) (w : Nat) : State :=
  let v := s.window w
  let u := s.setWindow w (v.closing (s.scopeEndpoints v))
  if v.kind = 1 then u.onTile v.slot fun t =>
    t.setWinSlot v.winslot { look (fun _ => WinSlot.free) t.pad.winslots v.winslot with closing := true } else u

theorem State.beginClose_open {s : State} {w : Nat} (open_ : (s.window w).state = 1) : s.beginClose w
    = if (s.scopeEndpoints (s.window w)).isEmpty then (s.closing w).closeComplete w
      else (s.closing w).sendCloses w ((s.window w).closing (s.scopeEndpoints (s.window w))) :=
  if_neg (not_not.2 open_)

theorem State.closing_spec (s : State) (w : Nat) :
    (s.closing w).window w = (s.window w).closing (s.scopeEndpoints (s.window w)) ∧ (s.closing w).host = s.host
      ∧ (s.closing w).timeBase = s.timeBase ∧ (s.closing w).fabric.epochPhase = s.fabric.epochPhase := by
  unfold State.closing
  dsimp only
  split <;> exact ⟨look_put_same (fun _ => Window.closed) _ _ _, rfl, rfl, rfl⟩

/-! ### Transfers -/

/-- The transfer that a home node takes (R413). -/
def State.newTransfer (s : State) (dst flow : Nat) (p : Packet) (parts : List (List Byte)) (owner : TOwner) (tag : Nat)
    (credit : Option (Nat × Nat × Nat)) (window : Option Nat) : Transfer :=
  ⟨BitVec.ofNat 16 dst, BitVec.ofNat 16 flow, mkPackets { p with
      dst := BitVec.ofNat 16 dst
      src := BitVec.ofNat 16 (s.get K.endpointId)
      flow := BitVec.ofNat 16 flow } (s.seqOf dst flow) parts, owner, tag, credit, window, false⟩

/-- The state in which a transfer is numbered and waits. -/
def State.numbered (s : State) (key next : Nat) (t : Transfer) : State := s.onFabric fun f => { f with
  nextSeq := put (fun _ => 0) f.nextSeq key next
  transfers := f.transfers ++ [t] }

theorem State.takeTransfer_eq (s : State) (dst flow : Nat) (p : Packet) (parts : List (List Byte)) (owner : TOwner) (tag : Nat)
    (credit : Option (Nat × Nat × Nat)) (window : Option Nat) : ∃ key next,
    let t := s.newTransfer dst flow p parts owner tag credit window
    s.takeTransfer dst flow p parts owner tag credit window
      = if (s.numbered key next t).mayLaunch t then (s.numbered key next t).launch t else s.numbered key next t := ⟨_, _, rfl⟩

theorem State.mayLaunch_barrier {s : State} (barrier : s.fabric.epochPhase ≠ .none) (t : Transfer) : s.mayLaunch t = false := by
  unfold State.mayLaunch
  rw [decide_eq_false barrier, Bool.false_and]

/-- While an epoch barrier stands a transfer waits (R412, R413). -/
theorem State.takeTransfer_held {s : State} (barrier : s.fabric.epochPhase ≠ .none) (dst flow : Nat) (p : Packet)
    (parts : List (List Byte)) (owner : TOwner) (tag : Nat) (credit : Option (Nat × Nat × Nat)) (window : Option Nat) :
    ∃ key next, s.takeTransfer dst flow p parts owner tag credit window
      = s.numbered key next (s.newTransfer dst flow p parts owner tag credit window) := by
  obtain ⟨key, next, taken⟩ := s.takeTransfer_eq dst flow p parts owner tag credit window
  exact ⟨key, next, taken.trans (if_neg (ne_true_of_eq_false (State.mayLaunch_barrier (s := s.numbered _ _ _) barrier _)))⟩

theorem State.closeWaits_none {s : State} (closes : s.fabric.closes = []) (t : Transfer) : s.closeWaits t = s := by
  unfold State.closeWaits
  dsimp only
  rw [closes]
  rfl

theorem State.tryReady_none {s : State} (phase : s.fabric.epochPhase = .none) : s.tryReady = s :=
  if_neg fun h => by
    rw [phase] at h
    cases h.1

/-- A raw transfer that ends with NO_ROUTE answers its descriptor (R410, R418). -/
theorem State.endTransfer_raw {s : State} {t : Transfer} {j : JobId} (owner : t.owner = .raw j) (credit : t.credit = none)
    (closes : s.fabric.closes = []) (phase : s.fabric.epochPhase = .none) : s.endTransfer t 0x22
      = (s.onFabric fun f => { f with transfers := f.transfers.filter fun u => u ≠ t }).answer j (rawOutcome 0x22) := by
  unfold State.endTransfer
  dsimp only
  rw [owner, credit]
  dsimp only
  rw [State.closeWaits_none (by exact closes), State.tryReady_none (by exact phase)]
  rfl

/-- A WCLOSE that waits changes no window (R428, step 2). -/
theorem State.sendClose_held {s : State} (barrier : s.fabric.epochPhase ≠ .none) (w e : Nat) :
    (s.sendClose w e).fabric.windows = s.fabric.windows := by
  obtain ⟨key, next, taken⟩ := State.takeTransfer_held (s := s.freeFlow.2) barrier e s.freeFlow.1
    { Packet.blank .wclose with inner := windowInner w 0 } [[]] (.close w) 0 none none
  exact (congrArg (fun u : State => u.fabric.windows) taken :)

/-- An open window in the name of the descriptor that closes it. -/
def State.named (s : State) (j : JobId) (w : Nat) : State :=
  State.setWindow (s.onDesc j fun e => { e with hold := some (opHold 0x23 []) }) w { s.window w with owner := some j }

theorem State.named_window (s : State) (j : JobId) (w : Nat) : (s.named j w).window w = { s.window w with owner := some j } :=
  look_put_same (fun _ => Window.closed) _ _ _

theorem State.closeRaw_eq {s : State} {w : Nat} (open_ : (s.window w).state = 1) (j : JobId) : s.closeRaw j w
    = if (s.scopeEndpoints (s.window w)).isEmpty then ((s.named j w).closing w).closeComplete w
      else ((s.named j w).closing w).sendCloses w
        (Window.closing { s.window w with owner := some j } (s.scopeEndpoints (s.window w))) := by
  have same := s.named_window j w
  have endpoints : (s.named j w).scopeEndpoints { s.window w with owner := some j } = s.scopeEndpoints (s.window w) := rfl
  have begun := State.beginClose_open (s := s.named j w) (w := w) (by rw [same]; exact open_)
  rwa [same, endpoints] at begun

/-- The window of a raw close that has begun. -/
theorem State.closing_named (s : State) (j : JobId) (w : Nat) : ((s.named j w).closing w).window w
    = Window.closing { s.window w with owner := some j } (s.scopeEndpoints (s.window w)) := by
  have closing := ((s.named j w).closing_spec w).1
  rwa [s.named_window] at closing

/-- A raw close of a window that one peer may write waits for that peer while its WCLOSE is held (R353, R428). -/
theorem State.closeRaw_waits {s : State} {w : Nat} (open_ : (s.window w).state = 1) (scope : (s.window w).scope = 1)
    (barrier : s.fabric.epochPhase ≠ .none) (j : JobId) : (s.closeRaw j w).window w
      = Window.closing { s.window w with owner := some j } [(s.window w).peer] := by
  have one : s.scopeEndpoints (s.window w) = [(s.window w).peer] := if_pos scope
  have closing := s.closing_named j w
  have phase : ((s.named j w).closing w).fabric.epochPhase ≠ .none := by
    rw [((s.named j w).closing_spec w).2.2.2]
    exact barrier
  have sends : ∀ u : State, u.sendCloses w (Window.closing { s.window w with owner := some j } [(s.window w).peer])
      = u.sendClose w (s.window w).peer := fun u =>
    if_neg (show ¬ ((s.window w).scope = 2 ∨ (s.window w).scope = 3) by omega)
  rw [State.closeRaw_eq open_, one, if_neg (by simp), sends]
  rw [one] at closing
  exact (State.window_congr (State.sendClose_held phase _ _) w).trans closing

/-- One that no endpoint may write is over at once (R428, R429). -/
theorem State.closeRaw_over {s : State} {w : Nat} (open_ : (s.window w).state = 1)
    (alone : s.scopeEndpoints (s.window w) = []) (j : JobId) :
    (s.closeRaw j w).window w = { Window.closed with freedAt := some s.timeBase }
      ∧ AnsweredBy s (s.closeRaw j w) j (Answer.of St.ok) := by
  obtain ⟨-, host, time, -⟩ := (s.named j w).closing_spec w
  have owned : (((s.named j w).closing w).window w).owner = some j := by rw [s.closing_named]; rfl
  obtain ⟨window, answered⟩ := State.closeComplete_owned owned
  rw [time] at window
  rw [State.closeRaw_eq open_, if_pos (List.isEmpty_iff.2 alone)]
  exact ⟨window, answeredBy_of_answers ((State.answers_congr host).trans (s.answers_setHold j _)) answered⟩

/-- A transfer without a route ends at once, with nothing else that waits (R410, R418). -/
theorem State.takeTransfer_unrouted {s : State} {dst flow : Nat} {p : Packet} {part : List Byte} {j : JobId}
    (phase : s.fabric.epochPhase = .none) (transfers : s.fabric.transfers = []) (closes : s.fabric.closes = [])
    (low : dst < 65536) (route : routeValid (s.route dst) = false) :
    (s.takeTransfer dst flow p [part] (.raw j) 0 none none).host = (s.answer j (rawOutcome 0x22)).host
      ∧ (s.takeTransfer dst flow p [part] (.raw j) 0 none none).fabric.transfers = [] := by
  obtain ⟨key, next, taken⟩ := s.takeTransfer_eq dst flow p [part] (.raw j) 0 none none
  generalize made : s.newTransfer dst flow p [part] (.raw j) 0 none none = t at taken
  have only : (s.numbered key next t).fabric.transfers = [t] := congrArg (· ++ [t]) transfers
  have to_ : t.dst.toNat = dst := by
    rw [← made]
    exact Nat.mod_eq_of_lt low
  have one : t.packets.length = 1 := by rw [← made]; rfl
  have unsent : t.sent = false := by rw [← made]; rfl
  have owner : t.owner = .raw j := by rw [← made]; rfl
  have credit : t.credit = none := by rw [← made]; rfl
  have launches : (s.numbered key next t).mayLaunch t = true := by
    unfold State.mayLaunch State.unackedPackets
    rw [only, one, show (s.numbered key next t).fabric.epochPhase = .none from phase]
    simp [unsent, total]
  have stops : (s.numbered key next t).launch t = (s.numbered key next t).endTransfer t 0x22 := by
    unfold State.launch
    dsimp only
    rw [to_]
    exact if_pos (congrArg Bool.not route)
  rw [taken, if_pos launches, stops, State.endTransfer_raw (s := s.numbered key next t) owner credit closes phase]
  refine ⟨rfl, ?_⟩
  refine (congrArg (List.filter fun u => decide (u ≠ t)) only).trans ?_
  simp

/-! ### Windows that are read and written -/

/-- An uncorrectable line is counted, and leaves descriptors alone (R266, R267). -/
theorem State.uncorrectable_spec (s : State) (line : Nat) : (s.uncorrectable line).host = s.host
    ∧ (s.uncorrectable line).get K.eccUncorrectableCount = (s.bump K.eccUncorrectableCount 1).get K.eccUncorrectableCount := by
  have apart : K.eccUncorrectableCount ≠ K.subchUncorrectable (subChannel line) := by
    unfold K.eccUncorrectableCount K.subchUncorrectable
    omega
  unfold State.uncorrectable
  dsimp only
  obtain ⟨rest, -, -⟩ := State.substance_iff.1 (State.raise_substance
    (((s.setPoison line true).bump K.eccUncorrectableCount 1).bump (K.subchUncorrectable (subChannel line)) 1) 0x12
    (leBytes 8 (line * 64)))
  exact ⟨(congrArg State.host rest :), (State.raise_get _ _ _ (by decide)).trans (State.get_bump_other _ _ _ apart)⟩

theorem State.windowBytes_congr {s u : State} (tiles : u.tiles = s.tiles) (mem : u.mem = s.mem) (v : Window) (off len : Nat) :
    u.windowBytes v off len = s.windowBytes v off len := by
  unfold State.windowBytes State.tile State.memRead State.memByte
  rw [tiles, mem]

section
variable {s : State} {j : JobId} {d : Desc}

theorem State.readRaw_args (bad : 256 ≤ arg d.bytes 0 2 ∨ arg d.bytes 8 4 % 64 ≠ 0 ∨ arg d.bytes 8 4 < 64
    ∨ 268435456 < arg d.bytes 8 4) : s.readRaw j d = s.endWith j St.windowArgs := if_pos bad

section
variable (low : arg d.bytes 0 2 < 256) (lines : arg d.bytes 8 4 % 64 = 0) (some_ : 64 ≤ arg d.bytes 8 4)
  (most : arg d.bytes 8 4 ≤ 268435456)
include low lines some_ most

theorem State.readRaw_closed (closed : (s.window (arg d.bytes 0 2)).state ≠ 1) :
    s.readRaw j d = s.endWith j St.windowUnknown :=
  (if_neg (by omega)).trans (if_pos closed)

theorem State.readRaw_beyond (open_ : (s.window (arg d.bytes 0 2)).state = 1)
    (beyond : (s.window (arg d.bytes 0 2)).bytes < arg d.bytes 4 4 * 64 + arg d.bytes 8 4) :
    s.readRaw j d = s.endWith j St.windowRange :=
  (if_neg (by omega)).trans ((if_neg (not_not.2 open_)).trans (if_pos beyond))

section
variable (open_ : (s.window (arg d.bytes 0 2)).state = 1)
  (within : arg d.bytes 4 4 * 64 + arg d.bytes 8 4 ≤ (s.window (arg d.bytes 0 2)).bytes)
  (key : s.keyFails (entIndexKey d.entry) 2 = none)
include open_ within key

/-- A read within its window that meets poison, under a key of the class INDEX (R352). -/
theorem State.readRaw_poisoned {line : Nat}
    (poisoned : s.windowPoisoned (s.window (arg d.bytes 0 2)) (arg d.bytes 4 4 * 64) (arg d.bytes 8 4) = some line) :
    s.readRaw j d = (s.uncorrectable line).endWith j St.memUncorrectable := by
  unfold State.readRaw
  refine (if_neg (by omega)).trans ((if_neg (not_not.2 open_)).trans ((if_neg (not_lt.2 within)).trans ?_))
  simp only [key, poisoned]

/-- A read within its window that meets no poison, under a key of the class INDEX (R352). -/
theorem State.readRaw_clean
    (clean : s.windowPoisoned (s.window (arg d.bytes 0 2)) (arg d.bytes 4 4 * 64) (arg d.bytes 8 4) = none) :
    s.readRaw j d = s.withKeys j d [entIndexKey d.entry] fun u => u.onHold j fun h =>
      { h with
        toSeal := [⟨0x80, descRef d.bytes,
          u.windowBytes (s.window (arg d.bytes 0 2)) (arg d.bytes 4 4 * 64) (arg d.bytes 8 4)⟩]
        result := some (Answer.of St.ok) } := by
  unfold State.readRaw
  refine (if_neg (by omega)).trans ((if_neg (not_not.2 open_)).trans ((if_neg (not_lt.2 within)).trans ?_))
  simp only [key, clean]

end

end

end

section
variable {s : State} {j : JobId} {d p : List Byte}

theorem State.writeRaw_args (odd : p.length % 64 ≠ 0) : s.writeRaw j d p = s.endWith j St.windowArgs := if_pos odd

theorem State.writeRaw_closed (lines : p.length % 64 = 0) (closed : (s.window (arg d 0 2)).state = 0) :
    s.writeRaw j d p = s.endWith j St.windowClosed := (if_neg (not_not.2 lines)).trans (if_pos closed)

theorem State.writeRaw_beyond (lines : p.length % 64 = 0) (open_ : (s.window (arg d 0 2)).state ≠ 0)
    (beyond : (s.window (arg d 0 2)).bytes < arg d 4 4 * 64 + p.length) : s.writeRaw j d p = s.endWith j St.windowRange :=
  (if_neg (not_not.2 lines)).trans ((if_neg open_).trans (if_pos beyond))

theorem State.writeRaw_lands (lines : p.length % 64 = 0) (open_ : (s.window (arg d 0 2)).state ≠ 0)
    (within : arg d 4 4 * 64 + p.length ≤ (s.window (arg d 0 2)).bytes) :
    s.writeRaw j d p = (s.landWindow (s.window (arg d 0 2)) (arg d 4 4 * 64) p).endWith j St.ok :=
  (if_neg (not_not.2 lines)).trans ((if_neg open_).trans (if_neg (not_lt.2 within)))

end

/-- Whole lines that land in module memory lie there, and nothing else changes (R254, R427). -/
theorem State.landWindow_memory {s : State} {v : Window} {p : List Byte} (memory : v.kind ≠ 1) (lines : p.length % 64 = 0)
    (off : Nat) : let u := s.landWindow v off p
    u.host = s.host ∧ (∀ k, k < p.length → u.memByte (v.base * 256 + off + k) = p.getD k 0)
      ∧ ∀ a, (a < v.base * 256 + off ∨ v.base * 256 + off + p.length ≤ a) → u.memByte a = s.memByte a := by
  dsimp only
  rw [State.landWindow, if_neg memory]
  obtain ⟨inside, outside, rest⟩ := s.writeLines_spec (v.base * 256 + off) p
  exact ⟨(congrArg State.host rest :), inside, fun a out => outside a (out.imp_right fun h => by omega)⟩

/-- Bytes that land in a window of a tile lie in its scratchpad, their lines filled (R135, R427). -/
theorem State.landWindow_tile {s : State} {v : Window} (pad : v.kind = 1) (off : Nat) (p : List Byte) :
    let u := s.landWindow v off p
    u.host = s.host ∧ u.mem = s.mem ∧ u.tile v.slot = (s.tile v.slot).land (v.base + off) p
      ∧ ∀ y, y ≠ v.slot → u.tile y = s.tile y := by
  dsimp only
  rw [State.landWindow, if_pos pad]
  exact ⟨rfl, rfl, s.tile_onTile_same _ _, fun y other => s.tile_onTile_other other _⟩

end Sys2Proof.Machine
end

section
/-! Raw descriptors, settled case by case. -/

open Sys2Proof Sys2Proof.Claims Sys2Proof.Machine

namespace Sys2Proof.Machine

variable (s : State) (c : Chan) (i : BitVec 16) {d : Desc}

theorem execTileLoad_rules (inp : Sealed) (run : s.opDesc (c.val, i.toNat) 2 0x20 = some d) :
    let j : JobId := (c.val, i.toNat)
    ((∀ t, slotOfCode (arg d.bytes 0 2) = some t → s.loadable c.val t = false) → Ends (.tileLoad c i inp) s fun s' =>
      AnsweredBy s s' j (Answer.of St.opNotPermitted) ∧ s'.tiles = s.tiles)
    ∧ (∀ t s2 seg, slotOfCode (arg d.bytes 0 2) = some t → s.loadable c.val t = true → Opened s j d inp s2 seg →
      let st := s.strandOf t
      (∀ e, (s.tile t).checkSegment st (s.stageSlots st).length seg = some e → Ends (.tileLoad c i inp) s fun s' =>
        AnsweredBy s s' j { Answer.of St.loadRejected with count0 := e.1, detail := e.2.toNat } ∧ s'.tiles = s.tiles)
      ∧ ((s.tile t).checkSegment st (s.stageSlots st).length seg = none → Ends (.tileLoad c i inp) s fun s' =>
        StartsAt (s'.tile t) ((((recsOf seg).filter fun r => r.typ = 15).getLast?.map (·.target)).getD 0)
          ∧ (t, j) ∈ (s'.strand st).rawLoads)) := by
  have load := (exec_tileLoad c i inp s).trans (State.byOp_some run _)
  refine ⟨fun refused => ?_, fun t s2 seg slot may opened => ?_⟩
  · refine ⟨_, load.trans ?_, answeredBy_endWith _ _ _, rfl⟩
    cases slot : slotOfCode (arg d.bytes 0 2) with
    | none => rfl
    | some t => exact if_neg (ne_true_of_eq_false (refused t slot))
  · rw [slot] at load
    dsimp only at load
    rw [if_pos may, opened.withInput] at load
    obtain ⟨v, l, rfl, answers⟩ := opened.frame
    refine ⟨fun e bad => ?_, fun good => ?_⟩
    · rw [State.tileLoad_rejected (s := { s with vault := v, host := l }) bad] at load
      exact ⟨_, load, answeredBy_of_answers answers rfl, rfl⟩
    · rw [State.tileLoad_passes (s := { s with vault := v, host := l }) good] at load
      exact ⟨_, load, State.rawLoad_starts _ _ t seg⟩

theorem execInject_rules {inp : Sealed} {s2 : State} {p : List Byte} (run : s.opDesc (c.val, i.toNat) 2 0x21 = some d)
    (opened : Opened s (c.val, i.toNat) d inp s2 p) :
    let j : JobId := (c.val, i.toNat)
    let h := injectHeader d.bytes p.length
    ((if h.cnet then 256 else 4096) < p.length → Ends (.inject c i inp) s fun s' =>
      AnsweredBy s s' j (Answer.of St.descFormat) ∧ s'.net = s.net)
    ∧ (p.length ≤ (if h.cnet then 256 else 4096) → Ends (.inject c i inp) s fun s' =>
      ∃ u, s'.net = { s.net with nodeSends := s.net.nodeSends
        ++ [⟨⟨{ h with priUsed := u }, p, false⟩, false, true, some j, none, 0, 0,
          h.priReq && decide (s.get K.priorityClassState = 1)⟩] }
        ∧ (u = true → h.priReq = true ∧ (s.get K.priorityClassState = 0 ∨ s.get K.priorityClassState = 3))) := by
  have inject := (exec_inject c i inp s).trans (State.byOp_some run _)
  rw [opened.withInput] at inject
  obtain ⟨v, l, rfl, answers⟩ := opened.frame
  refine ⟨fun long => ?_, fun fits => ?_⟩
  · rw [State.injectNow, if_pos long] at inject
    exact ⟨_, inject, answeredBy_of_answers answers rfl, rfl⟩
  · rw [State.injectNow, if_neg (not_lt.2 fits)] at inject
    exact ⟨_, inject, State.nodeSend_raw { s with vault := v, host := l } _ _ p⟩

theorem execWindowOpen_rules (run : s.opDesc (c.val, i.toNat) 2 0x22 = some d) :
    let j : JobId := (c.val, i.toNat)
    (openArgsOk d.bytes = false → Ends (.windowOpen c i) s fun s' =>
      AnsweredBy s s' j (Answer.of St.windowArgs) ∧ s'.fabric = s.fabric)
    ∧ (openArgsOk d.bytes = true → arg d.bytes 0 1 = 2 →
        windowRegionOk (arg d.bytes 8 4 * 256) (arg d.bytes 12 4 * 256) = false → Ends (.windowOpen c i) s fun s' =>
      AnsweredBy s s' j (Answer.of St.windowRegion) ∧ s'.fabric = s.fabric)
    ∧ (openArgsOk d.bytes = true → arg d.bytes 0 1 = 2 →
        windowRegionOk (arg d.bytes 8 4 * 256) (arg d.bytes 12 4 * 256) = true →
        (∃ w, w < 256 ∧ (s.window w).state = 0 ∧ (s.window w).freedAt = none) → Ends (.windowOpen c i) s fun s' =>
      ∃ w, w < 256 ∧ (s.window w).state = 0 ∧ (s.window w).freedAt = none
        ∧ s'.window w = openWindow d.bytes 0 0 ∧ (∀ x, x ≠ w → s'.window x = s.window x)
        ∧ AnsweredBy s s' j { Answer.of St.ok with count0 := w } ∧ s'.tiles = s.tiles)
    ∧ (openArgsOk d.bytes = true → arg d.bytes 0 1 = 2 →
        windowRegionOk (arg d.bytes 8 4 * 256) (arg d.bytes 12 4 * 256) = true →
        (∀ w, w < 256 → (s.window w).state ≠ 0 ∨ (s.window w).freedAt ≠ none) → Ends (.windowOpen c i) s fun s' =>
      AnsweredBy s s' j (Answer.of St.windowLimit) ∧ s'.fabric = s.fabric)
    ∧ ∀ t, openArgsOk d.bytes = true → arg d.bytes 0 1 = 1 → slotOfCode (arg d.bytes 4 2) = some t →
      let x := s.tile t
      let base := arg d.bytes 8 4
      let size := arg d.bytes 12 4
      ((x.freeWinSlot = none ∨ x.windowMeets base size = true ∨ rangeMapped x.pad.bankOk base size = false) →
        Ends (.windowOpen c i) s fun s' => AnsweredBy s s' j (Answer.of St.windowNoSlot) ∧ s'.fabric = s.fabric
          ∧ s'.tiles = s.tiles)
      ∧ (∀ k, x.freeWinSlot = some k → x.windowMeets base size = false → rangeMapped x.pad.bankOk base size = true →
          (∃ w, w < 256 ∧ (s.window w).state = 0 ∧ (s.window w).freedAt = none) → Ends (.windowOpen c i) s fun s' =>
        ∃ w, w < 256 ∧ (s.window w).state = 0 ∧ (s.window w).freedAt = none
          ∧ s'.window w = openWindow d.bytes t k ∧ (∀ y, y ≠ w → s'.window y = s.window y)
          ∧ AnsweredBy s s' j { Answer.of St.ok with count0 := w }
          ∧ s'.tile t = x.setWinSlot k ⟨base / 64, (base + size - 1) / 64, true, false, w⟩
          ∧ ∀ y, y ≠ t → s'.tile y = s.tile y) := by
  have opens := (exec_windowOpen c i s).trans (State.byOp_some run _)
  refine ⟨fun bad => ?_, fun good memory outside => ?_, fun good memory inside free => ?_, fun good memory inside full => ?_,
    fun t good pad slot => ⟨fun none_ => ?_, fun k some_ apart mapped free => ?_⟩⟩
  · rw [State.openRaw_bad bad] at opens
    exact ⟨_, opens, answeredBy_endWith _ _ _, rfl⟩
  · rw [State.openRaw_memory good memory, if_neg (ne_true_of_eq_false outside)] at opens
    exact ⟨_, opens, answeredBy_endWith _ _ _, rfl⟩
  · rw [State.openRaw_memory good memory, if_pos inside] at opens
    obtain ⟨w, low, state, held, number⟩ := State.freeWindow_some free
    obtain ⟨window, others, answered, tiles⟩ :=
      State.openNumber_opens number (c.val, i.toNat) (openWindow d.bytes 0 0)
    have plain : (openWindow d.bytes 0 0).kind ≠ 1 := fun pad => by
      rw [show (openWindow d.bytes 0 0).kind = arg d.bytes 0 1 from rfl, memory] at pad
      cases pad
    exact ⟨_, opens, w, low, state, held, window, others, answered, tiles.trans (congrArg State.tiles (if_neg plain))⟩
  · rw [State.openRaw_memory good memory, if_pos inside, State.openNumber_full (State.freeWindow_none full)] at opens
    exact ⟨_, opens, answeredBy_endWith _ _ _, rfl⟩
  · rw [State.openRaw_noSlot good pad slot none_] at opens
    exact ⟨_, opens, answeredBy_endWith _ _ _, rfl, rfl⟩
  · rw [State.openRaw_slot good pad slot some_ apart mapped] at opens
    obtain ⟨w, low, state, held, number⟩ := State.freeWindow_some free
    obtain ⟨window, others, answered, tiles⟩ := State.openNumber_opens number (c.val, i.toNat) (openWindow d.bytes t k)
    have tile : ∀ y, (s.openNumber (c.val, i.toNat) (openWindow d.bytes t k)).tile y
        = (s.showWindow (openWindow d.bytes t k) w).tile y := fun y => by rw [State.tile, State.tile, tiles]
    rw [State.showWindow, if_pos (show (openWindow d.bytes t k).kind = 1 from pad)] at tile
    exact ⟨_, opens, w, low, state, held, window, others, answered, (tile t).trans (s.tile_onTile_same t _),
      fun y other => (tile y).trans (s.tile_onTile_other other _)⟩

theorem execWindowClose_rules (run : s.opDesc (c.val, i.toNat) 2 0x23 = some d) :
    let j : JobId := (c.val, i.toNat)
    (256 ≤ arg d.bytes 0 2 → Ends (.windowClose c i) s fun s' => AnsweredBy s s' j (Answer.of St.windowArgs))
    ∧ (arg d.bytes 0 2 < 256 → (s.window (arg d.bytes 0 2)).state ≠ 1 → Ends (.windowClose c i) s fun s' =>
      AnsweredBy s s' j (Answer.of St.windowUnknown) ∧ s'.fabric = s.fabric)
    ∧ (arg d.bytes 0 2 < 256 → (s.window (arg d.bytes 0 2)).state = 1 → (s.window (arg d.bytes 0 2)).scope = 1 →
        s.fabric.epochPhase ≠ .none → Ends (.windowClose c i) s fun s' =>
      (s'.window (arg d.bytes 0 2)).state = 2 ∧ (s'.window (arg d.bytes 0 2)).owner = some j
        ∧ (s'.window (arg d.bytes 0 2)).waitAck = [(s.window (arg d.bytes 0 2)).peer])
    ∧ (arg d.bytes 0 2 < 256 → (s.window (arg d.bytes 0 2)).state = 1 →
        s.scopeEndpoints (s.window (arg d.bytes 0 2)) = [] → Ends (.windowClose c i) s fun s' =>
      AnsweredBy s s' j (Answer.of St.ok)
        ∧ s'.window (arg d.bytes 0 2) = { Window.closed with freedAt := some s.timeBase }) := by
  have close := (exec_windowClose c i s).trans (State.byOp_some run _)
  generalize arg d.bytes 0 2 = w at close
  refine ⟨fun high => ?_, fun low closed => ?_, fun low open_ scope barrier => ?_, fun low open_ alone => ?_⟩
  · exact ⟨_, close.trans (if_pos high), answeredBy_endWith _ _ _⟩
  · exact ⟨_, close.trans ((if_neg (not_le.2 low)).trans (if_pos closed)), answeredBy_endWith _ _ _, rfl⟩
  · have run := close.trans ((if_neg (not_le.2 low)).trans (if_neg (not_not.2 open_)))
    have waits := State.closeRaw_waits open_ scope barrier (c.val, i.toNat)
    exact ⟨_, run, congrArg Window.state waits, congrArg Window.owner waits, congrArg Window.waitAck waits⟩
  · have run := close.trans ((if_neg (not_le.2 low)).trans (if_neg (not_not.2 open_)))
    obtain ⟨window, answered⟩ := State.closeRaw_over open_ alone (c.val, i.toNat)
    exact ⟨_, run, answered, window⟩

theorem execWindowRead_rules (run : s.opDesc (c.val, i.toNat) 2 0x24 = some d) :
    let j : JobId := (c.val, i.toNat)
    let v := s.window (arg d.bytes 0 2)
    let len := arg d.bytes 8 4
    ((256 ≤ arg d.bytes 0 2 ∨ len % 64 ≠ 0 ∨ len < 64 ∨ 268435456 < len) → Ends (.windowRead c i) s fun s' =>
      AnsweredBy s s' j (Answer.of St.windowArgs))
    ∧ (arg d.bytes 0 2 < 256 → len % 64 = 0 → 64 ≤ len → len ≤ 268435456 →
      (v.state ≠ 1 → Ends (.windowRead c i) s fun s' => AnsweredBy s s' j (Answer.of St.windowUnknown))
      ∧ (v.state = 1 → v.bytes < arg d.bytes 4 4 * 64 + len → Ends (.windowRead c i) s fun s' =>
        AnsweredBy s s' j (Answer.of St.windowRange))
      ∧ (v.state = 1 → arg d.bytes 4 4 * 64 + len ≤ v.bytes → s.keyFails (entIndexKey d.entry) 2 = none →
        (∀ line, s.windowPoisoned v (arg d.bytes 4 4 * 64) len = some line → Ends (.windowRead c i) s fun s' =>
          AnsweredBy s s' j (Answer.of St.memUncorrectable) ∧ Counted s s' K.eccUncorrectableCount 1))
      ∧ (v.state = 1 → arg d.bytes 4 4 * 64 + len ≤ v.bytes → s.keyFails (entIndexKey d.entry) 2 = none →
        s.windowPoisoned v (arg d.bytes 4 4 * 64) len = none → (s.pinKeys [entIndexKey d.entry]).isSome = true →
        Ends (.windowRead c i) s fun s' => ∃ d' h, s'.desc j = some d' ∧ d'.hold = some h
          ∧ h.toSeal = [⟨0x80, descRef d.bytes, s.windowBytes v (arg d.bytes 4 4 * 64) len⟩]
          ∧ h.result = some (Answer.of St.ok))) := by
  have read := (exec_windowRead c i s).trans (State.byOp_some run _)
  refine ⟨fun bad => ?_, fun low lines some_ most => ⟨fun closed => ?_, fun open_ beyond => ?_,
    fun open_ within key line poisoned => ?_, fun open_ within key clean pins => ?_⟩⟩
  · rw [State.readRaw_args bad] at read
    exact ⟨_, read, answeredBy_endWith _ _ _⟩
  · rw [State.readRaw_closed low lines some_ most closed] at read
    exact ⟨_, read, answeredBy_endWith _ _ _⟩
  · rw [State.readRaw_beyond low lines some_ most open_ beyond] at read
    exact ⟨_, read, answeredBy_endWith _ _ _⟩
  · rw [State.readRaw_poisoned low lines some_ most open_ within key poisoned] at read
    obtain ⟨host, counts⟩ := s.uncorrectable_spec line
    generalize s.uncorrectable line = u at read host counts
    exact ⟨_, read, answeredBy_answer host.symm rfl, counted_bump counts⟩
  · obtain ⟨⟨s1, tags⟩, pinned⟩ := Option.isSome_iff_exists.1 pins
    obtain ⟨v, same⟩ := State.pinKeys_vault pinned
    dsimp only at same
    subst same
    rw [State.readRaw_clean low lines some_ most open_ within key clean, State.withKeys_pinned pinned] at read
    have found := (State.desc_of_openDesc (State.openDesc_of_opDesc run)).1
    have held := State.desc_setHold (s := { s with vault := v }) ((State.desc_congr rfl _).trans found)
      (opHold (descOp d.bytes) tags)
    rw [State.windowBytes_congr (s := s) (u := State.onDesc { s with vault := v } _ _) rfl rfl] at read
    exact ⟨_, read, _, _, State.desc_onHold held _, rfl, rfl, rfl⟩

theorem execWindowWrite_rules {inp : Sealed} {s2 : State} {p : List Byte} (run : s.opDesc (c.val, i.toNat) 2 0x25 = some d)
    (opened : Opened s (c.val, i.toNat) d inp s2 p) (low : arg d.bytes 0 2 < 256) :
    let j : JobId := (c.val, i.toNat)
    let v := s.window (arg d.bytes 0 2)
    let off := arg d.bytes 4 4 * 64
    (p.length % 64 ≠ 0 → Ends (.windowWrite c i inp) s fun s' => AnsweredBy s s' j (Answer.of St.windowArgs) ∧ s'.mem = s.mem)
    ∧ (p.length % 64 = 0 → v.state = 0 → Ends (.windowWrite c i inp) s fun s' =>
      AnsweredBy s s' j (Answer.of St.windowClosed) ∧ s'.mem = s.mem)
    ∧ (p.length % 64 = 0 → v.state ≠ 0 → v.bytes < off + p.length → Ends (.windowWrite c i inp) s fun s' =>
      AnsweredBy s s' j (Answer.of St.windowRange) ∧ s'.mem = s.mem)
    ∧ (p.length % 64 = 0 → v.state ≠ 0 → off + p.length ≤ v.bytes → v.kind ≠ 1 → Ends (.windowWrite c i inp) s fun s' =>
      AnsweredBy s s' j (Answer.of St.ok)
        ∧ (∀ k, k < p.length → s'.memByte (v.base * 256 + off + k) = p.getD k 0)
        ∧ (∀ a, (a < v.base * 256 + off ∨ v.base * 256 + off + p.length ≤ a) → s'.memByte a = s.memByte a))
    ∧ (p.length % 64 = 0 → v.state ≠ 0 → off + p.length ≤ v.bytes → v.kind = 1 → Ends (.windowWrite c i inp) s fun s' =>
      AnsweredBy s s' j (Answer.of St.ok) ∧ s'.mem = s.mem
        ∧ s'.tile v.slot = (s.tile v.slot).land (v.base + off) p ∧ ∀ y, y ≠ v.slot → s'.tile y = s.tile y) := by
  have write := ((exec_windowWrite c i inp s).trans (State.byOp_some run _)).trans (if_neg (not_le.2 low))
  rw [opened.withInput] at write
  obtain ⟨v, l, rfl, answers⟩ := opened.frame
  refine ⟨fun odd => ?_, fun lines closed => ?_, fun lines open_ beyond => ?_, fun lines open_ within memory => ?_,
    fun lines open_ within pad => ?_⟩
  · rw [State.writeRaw_args odd] at write
    exact ⟨_, write, answeredBy_of_answers answers rfl, rfl⟩
  · rw [State.writeRaw_closed (s := { s with vault := v, host := l }) lines closed] at write
    exact ⟨_, write, answeredBy_of_answers answers rfl, rfl⟩
  · rw [State.writeRaw_beyond (s := { s with vault := v, host := l }) lines open_ beyond] at write
    exact ⟨_, write, answeredBy_of_answers answers rfl, rfl⟩
  · rw [State.writeRaw_lands (s := { s with vault := v, host := l }) lines open_ within] at write
    obtain ⟨host, inside, outside⟩ := State.landWindow_memory (s := { s with vault := v, host := l }) memory lines
      (arg d.bytes 4 4 * 64)
    exact ⟨_, write, answeredBy_of_answers ((State.answers_congr host).trans answers) rfl, inside, outside⟩
  · rw [State.writeRaw_lands (s := { s with vault := v, host := l }) lines open_ within] at write
    obtain ⟨host, mem, own, others⟩ := State.landWindow_tile (s := { s with vault := v, host := l }) pad
      (arg d.bytes 4 4 * 64) p
    exact ⟨_, write, answeredBy_of_answers ((State.answers_congr host).trans answers) rfl, mem, own, others⟩

theorem execFabricPacket_rules (inp : Sealed) (run : s.opDesc (c.val, i.toNat) 2 0x26 = some d) :
    let j : JobId := (c.val, i.toNat)
    ((arg d.bytes 0 2 = 0 ∨ 4096 < arg d.bytes 0 2) → Ends (.fabricPacket c i inp) s fun s' =>
      AnsweredBy s s' j (Answer.of St.descFormat) ∧ s'.fabric = s.fabric)
    ∧ (∀ s2 p, 1 ≤ arg d.bytes 0 2 → arg d.bytes 0 2 ≤ 4096 →
        s.storeRoom (arg d.bytes 0 2) (arg d.bytes 2 2 + fld (arg d.bytes 4 1) 10 2 + fld 2 13 3) 1024 = true →
        Opened s j d inp s2 p →
      (1024 < p.length → Ends (.fabricPacket c i inp) s fun s' =>
        AnsweredBy s s' j (Answer.of St.descFormat) ∧ s'.fabric = s.fabric)
      ∧ (p.length ≤ 1024 → s.fabric.epochPhase ≠ .none → Ends (.fabricPacket c i inp) s fun s' =>
        ∃ t, s'.fabric.transfers = s.fabric.transfers ++ [t] ∧ t.dst.toNat = arg d.bytes 0 2 ∧ t.owner = .raw j
          ∧ t.packets.map (·.payload) = [p] ∧ t.sent = false ∧ { s'.fabric with
            transfers := s.fabric.transfers, nextSeq := s.fabric.nextSeq } = s.fabric)
      ∧ (p.length ≤ 1024 → s.fabric.epochPhase = .none → s.fabric.transfers = [] → s.fabric.closes = [] →
        routeValid (s.route (arg d.bytes 0 2)) = false → Ends (.fabricPacket c i inp) s fun s' =>
        AnsweredBy s s' j (rawOutcome 0x22) ∧ s'.fabric.transfers = [])) := by
  have send := (exec_fabricPacket c i inp s).trans (State.byOp_some run _)
  refine ⟨fun bad => ⟨_, send.trans (if_pos bad), answeredBy_endWith _ _ _, rfl⟩, fun s2 p low high room opened => ?_⟩
  rw [if_neg (by omega), if_neg (by rw [room]; decide), opened.withInput] at send
  obtain ⟨v, l, rfl, answers⟩ := opened.frame
  refine ⟨fun long => ?_, fun fits barrier => ?_, fun fits phase transfers closes route => ?_⟩
  · rw [if_pos long] at send
    exact ⟨_, send, answeredBy_of_answers answers rfl, rfl⟩
  · rw [if_neg (not_lt.2 fits)] at send
    obtain ⟨key, next, held⟩ := State.takeTransfer_held (s := { s with vault := v, host := l }) barrier (arg d.bytes 0 2)
      (arg d.bytes 2 2 + fld (arg d.bytes 4 1) 10 2 + fld 2 13 3)
      { Packet.blank .raw with rsp := 2 ≤ arg d.bytes 4 1, inner := zeros 16 } [p] (.raw (c.val, i.toNat)) 0 none none
    have dst : (BitVec.ofNat 16 (arg d.bytes 0 2)).toNat = arg d.bytes 0 2 := Nat.mod_eq_of_lt (by omega)
    exact ⟨_, send.trans (congrArg _ held), _, rfl, dst, rfl, rfl, rfl, rfl⟩
  · rw [if_neg (not_lt.2 fits)] at send
    obtain ⟨host, gone⟩ := State.takeTransfer_unrouted (s := { s with vault := v, host := l }) (j := (c.val, i.toNat))
      (flow := arg d.bytes 2 2 + fld (arg d.bytes 4 1) 10 2 + fld 2 13 3) (part := p)
      (p := { Packet.blank .raw with rsp := 2 ≤ arg d.bytes 4 1, inner := zeros 16 }) phase transfers closes
      (show arg d.bytes 0 2 < 65536 by omega) route
    exact ⟨_, send, answeredBy_of_answers answers host, gone⟩

theorem rawOperations_rules : RawOperations := by
  intro s c i
  refine ⟨fun x row none_ => ?_, fun d inp run => execTileLoad_rules s c i inp run,
    fun d inp s2 p run opened => execInject_rules s c i run opened, fun d run => execWindowOpen_rules s c i run,
    fun d run => execWindowClose_rules s c i run, fun d run => execWindowRead_rules s c i run,
    fun d inp s2 p run opened low => execWindowWrite_rules s c i run opened low,
    fun d inp run => execFabricPacket_rules s c i inp run⟩
  rcases row with ⟨inp, rfl | rfl | rfl | rfl⟩ | rfl | rfl | rfl
  · exact (exec_tileLoad c i inp s).trans (State.byOp_none none_ _)
  · exact (exec_inject c i inp s).trans (State.byOp_none none_ _)
  · exact (exec_windowWrite c i inp s).trans (State.byOp_none none_ _)
  · exact (exec_fabricPacket c i inp s).trans (State.byOp_none none_ _)
  · exact (exec_windowOpen c i s).trans (State.byOp_none none_ _)
  · exact (exec_windowClose c i s).trans (State.byOp_none none_ _)
  · exact (exec_windowRead c i s).trans (State.byOp_none none_ _)

end Sys2Proof.Machine

/-- Settles O53: each operation by the equation of its row, the input by what opening leaves, and its end by what the state's
own operation leaves of plans, tiles, windows and transfers. -/
theorem hostOperations : Obligations.HostOperations :=
  ⟨Sys2Proof.Machine.adminOperations_rules, Sys2Proof.Machine.rawOperations_rules⟩
end

section
/-! SUPPORT. Object buffers of admitted jobs (R257, R261): the place of a buffer among those that other jobs hold. -/

open Sys2Proof Sys2Proof.Claims Sys2Proof.Machine

namespace Sys2Proof.Machine

/-- `n` bytes from `a` on lie between two bounds and meet no range that is held. -/
def Vacant (held : List (Nat × Nat)) (low high n a : Nat) : Prop :=
  low ≤ a ∧ a + n ≤ high ∧ ∀ r ∈ held, r.2 = 0 ∨ a + n ≤ r.1 ∨ r.1 + r.2 ≤ a

/-- Where bytes fit somewhere they fit at the lower bound or at the end of a range: move them down to the last end below. -/
theorem Vacant.at_end {held : List (Nat × Nat)} {low high n a : Nat} (vacant : Vacant held low high n a) :
    ∃ c ∈ low :: held.map fun r => r.1 + r.2, Vacant held low high n c := by
  obtain ⟨above, within, apart⟩ := vacant
  have bound : low ∈ ((low :: held.map fun r => r.1 + r.2).filter (· ≤ a)).toFinset := by simp [above]
  obtain ⟨c, mem, last⟩ := Finset.exists_max_image _ id ⟨low, bound⟩
  obtain ⟨place, below⟩ := List.mem_filter.1 (List.mem_toFinset.1 mem)
  have below : c ≤ a := of_decide_eq_true below
  refine ⟨c, place, last low bound, by omega, fun r held_ => ?_⟩
  rcases apart r held_ with empty | before | after
  · exact .inl empty
  · exact .inr (.inl (by omega))
  · refine .inr (.inr (last _ (List.mem_toFinset.2 (List.mem_filter.2 ⟨?_, decide_eq_true after⟩))))
    exact List.mem_cons_of_mem _ (List.mem_map.2 ⟨r, held_, rfl⟩)

/-- The buffers that jobs hold. -/
def State.heldBuffers (s : State) : List (Nat × Nat) :=
  s.host.channels.flatMap fun p => p.2.fly.filterMap fun d => d.hold.map fun (h : JobHold) => (h.buf, h.reserve)

theorem State.bufferFree_iff {s : State} {n a : Nat} : BufferFree s n a
    ↔ Vacant s.heldBuffers objectBuffers.1 (objectBuffers.1 + objectBuffers.2) n a := by
  refine and_congr_right fun _ => and_congr_right fun _ => ⟨fun free r held => ?_, fun vacant p chan d fly h hold => ?_⟩
  · obtain ⟨p, chan, held⟩ := List.mem_flatMap.1 held
    obtain ⟨d, fly, held⟩ := List.mem_filterMap.1 held
    obtain ⟨h, hold, rfl⟩ := Option.map_eq_some_iff.1 held
    exact free p chan d fly h hold
  · exact vacant (h.buf, h.reserve) (List.mem_flatMap.2 ⟨p, chan, List.mem_filterMap.2 ⟨d, fly, by rw [hold]; rfl⟩⟩)

theorem find?_getD_of_mem {α : Type} {p : α → Bool} {l : List α} {a : α} (mem : a ∈ l) (holds : p a = true) (d : α) :
    p ((l.find? p).getD d) = true := by
  obtain ⟨b, found⟩ := Option.isSome_iff_exists.1 (List.find?_isSome.2 ⟨a, mem, holds⟩)
  rw [found]
  exact List.find?_some found

/-- The test that finds a place for `n` bytes. -/
def State.vacantAt (s : State) (n a : Nat) : Bool :=
  decide (objectBuffers.1 ≤ a) && decide (a + n ≤ objectBuffers.1 + objectBuffers.2) &&
    s.heldBuffers.all fun r => r.2 = 0 || decide (a + n ≤ r.1) || decide (r.1 + r.2 ≤ a)

theorem State.vacantAt_iff {s : State} {n a : Nat} : s.vacantAt n a = true ↔ BufferFree s n a := by
  rw [State.bufferFree_iff]
  simp [State.vacantAt, Vacant, and_assoc, or_assoc]

theorem State.bufferFor_eq (s : State) (n : Nat) : ∃ drawn, s.bufferFor n =
    (((drawn :: objectBuffers.1 :: s.heldBuffers.map fun r => r.1 + r.2).find? (s.vacantAt n)).getD drawn,
      { s with freeCount := s.freeCount + 1 }) := ⟨_, rfl⟩

/-- A buffer's place is drawn; it is free where any place is (R261). -/
theorem State.bufferFor_spec (s : State) (n : Nat) : ∃ a, s.bufferFor n = (a, { s with freeCount := s.freeCount + 1 })
    ∧ ((∃ a, BufferFree s n a) → BufferFree s n a) := by
  obtain ⟨drawn, place⟩ := s.bufferFor_eq n
  refine ⟨_, place, fun ⟨a, free⟩ => State.vacantAt_iff.1 ?_⟩
  obtain ⟨c, mem, vacant⟩ := (State.bufferFree_iff.1 free).at_end
  exact find?_getD_of_mem (List.mem_cons_of_mem _ mem) (State.vacantAt_iff.2 (State.bufferFree_iff.2 vacant)) _

/-! ### The checks of a job -/

section Checks

variable {s : State} {c : Chan} {i : BitVec 16} {inp : Sealed} {st : StrandId} {role : Byte} {shape : List Nat}
  {part pass : BitVec 16} {j : JobId} {d : Desc} {l : List (Nat × Nat)}

theorem execJobAdmit_idle (idle : s.openDesc (c.val, i.toNat) = none ∨ s.ready = false) :
    exec (.jobAdmit c i inp st role shape part pass) s = .next s := by
  change execJobAdmit c i inp st role shape part pass s = _
  unfold execJobAdmit
  dsimp only
  split
  · rfl
  · rename_i d open_
    refine if_pos ?_
    rcases idle with closed | unready
    · rw [closed] at open_
      cases open_
    · simp [unready]

theorem execJobAdmit_checks (at_ : AtAdmission s (c.val, i.toNat) d) :
    exec (.jobAdmit c i inp st role shape part pass) s = .next (s.checkJob (c.val, i.toNat) d inp) := by
  obtain ⟨open_, service, ready, hold, awake, turn⟩ := at_
  change execJobAdmit c i inp st role shape part pass s = _
  unfold execJobAdmit
  simp only [open_, service, ready, hold, awake, turn, Bool.not_true, Bool.or_self, Bool.false_eq_true, if_false]

theorem execJobAdmit_starts {h : JobHold} (open_ : s.openDesc (c.val, i.toNat) = some d) (service : d.service = true)
    (ready : s.ready = true) (hold : d.hold = some h) (first : ∀ r ∈ s.check.readmits, r.job ≠ (c.val, i.toNat)) :
    exec (.jobAdmit c i inp st role shape part pass) s
      = .next (s.startSeq (c.val, i.toNat) h st.val role.toNat shape (part.toNat, pass.toNat)) := by
  have none_ : (s.check.readmits.find? fun r => r.job = (c.val, i.toNat)) = none :=
    List.find?_eq_none.2 fun r mem => by simpa using first r mem
  change execJobAdmit c i inp st role shape part pass s = _
  unfold execJobAdmit
  simp only [open_, service, ready, hold, none_, Bool.not_true, Bool.or_self, Bool.false_eq_true, if_false]

theorem State.checkJob_revoked (revoked : s.revoked = true) : s.checkJob j d inp = s.endWith j St.identityRevoked :=
  if_pos revoked

theorem State.checkJob_args (revoked : s.revoked = false) (args : argsOk (entService d.entry) d.bytes (entPlan d.entry) = false) :
    s.checkJob j d inp = s.endWith j St.argsFormat := by
  unfold State.checkJob
  simp [revoked, args]

section Passed

variable (revoked : s.revoked = false) (args : argsOk (entService d.entry) d.bytes (entPlan d.entry) = true)
include revoked args

theorem State.checkJob_noPlans {e : Nat} (plans : s.jobPlans (entService d.entry) (entPlan d.entry) d.bytes = .inl e) :
    s.checkJob j d inp = s.endWith j e := by
  unfold State.checkJob
  simp [revoked, args, plans]

variable (plans : s.jobPlans (entService d.entry) (entPlan d.entry) d.bytes = .inr l)
include plans

theorem State.checkJob_noCheckQueue (unchecked : ∃ p ∈ l, s.noCheckQueue p.2 = true) :
    s.checkJob j d inp = s.answer j { Answer.of St.planRole with detail := 13 } := by
  have any : (l.any fun p => s.noCheckQueue p.2) = true := List.any_eq_true.2 unchecked
  unfold State.checkJob
  simp [revoked, args, plans, any]

variable (checked : ∀ p ∈ l, s.noCheckQueue p.2 = false)
include checked

theorem State.checkJob_inputs {e : Nat} (fails : (s.inputFails d inp <|> s.shardFails (entService d.entry) d.bytes) = some e) :
    s.checkJob j d inp = s.endWith j e := by
  have any : (l.any fun p => s.noCheckQueue p.2) = false := List.any_eq_false.2 fun p mem => by simp [checked p mem]
  unfold State.checkJob
  simp only [revoked, args, plans, any, fails, Bool.false_eq_true, if_false, Bool.not_true]

theorem State.checkJob_passes (input : s.inputFails d inp = none) (shard : s.shardFails (entService d.entry) d.bytes = none) :
    s.checkJob j d inp = s.admitJob j d inp l := by
  have any : (l.any fun p => s.noCheckQueue p.2) = false := List.any_eq_false.2 fun p mem => by simp [checked p mem]
  have fails : (s.inputFails d inp <|> s.shardFails (entService d.entry) d.bytes) = none := by
    simp [input, shard]
  unfold State.checkJob
  simp only [revoked, args, plans, any, fails, Bool.false_eq_true, if_false, Bool.not_true]

end Passed

/-! ### The job that is admitted -/

/-- What a job holds when it has passed its checks (R362). -/
def admitHold (s : State) (d : Desc) (inp : Sealed) (plans : List (Nat × Nat)) (tags : List Nat) (buf : Nat) : JobHold :=
  { service := entService d.entry
    plans := plans
    keys := tags
    number := s.host.jobs + 1
    buf := buf
    reserve := jobReserve d inp
    strands := []
    ran := []
    seqs := []
    hdr := inp.hdr
    segs := 0
    nsegs := if takesObject (entService d.entry) d.bytes then objSegs inp.hdr else 0
    plain := []
    toSeal := []
    envelopes := []
    result := none
    mstat := 0
    query := none }

/-- A job with room for its buffer and with its keys pinned is admitted (R297, R362). -/
theorem State.admitJob_admits {v : Vault} {tags : List Nat} (room : s.reserved + jobReserve d inp ≤ bufferBytes)
    (pinned : s.pinKeys (jobKeys d inp) = some ({ s with vault := v }, tags)) :
    ∃ buf, ((∃ a, BufferFree s (jobReserve d inp) a) → BufferFree s (jobReserve d inp) buf)
      ∧ s.admitJob j d inp l =
        ((({ s with vault := v, freeCount := s.freeCount + 1, host := { s.host with jobs := s.host.jobs + 1 } } : State).onDesc j
          fun e => { e with hold := some (admitHold s d inp l tags buf) }).joinShards j (searchShards d)) := by
  obtain ⟨buf, drawn, free⟩ := ({ s with vault := v } : State).bufferFor_spec (jobReserve d inp)
  refine ⟨buf, free, ?_⟩
  unfold State.admitJob
  dsimp only
  rw [if_neg (Nat.not_lt.2 room), pinned]
  dsimp only
  rw [drawn]
  rfl

theorem State.admitted_holds {u : State} (found : u.desc j = some d) (unanswered : d.answer = none) (h : JobHold)
    (names : Nat → Bool) : ∃ e, ((u.onDesc j fun e => { e with hold := some h }).joinShards j names).desc j = some e
      ∧ e.answer = none ∧ e.hold = some h :=
  ⟨_, State.desc_setHold found h, unanswered, rfl⟩

end Checks

/-! ### The sequence of an admitted job -/

section Sequence

variable {s : State} {j : JobId} {h : JobHold} {st role n : Nat} {shape : List Nat} {place : Nat × Nat} {p : Nat × Nat}

theorem State.placeSeq_closed (closed : s.admits = false) : s.placeSeq st j n shape 0 place = none :=
  if_pos (by rw [closed]; rfl)

theorem State.splitFor_unfused (unfused : (s.strand (st / 2 * 2)).fused = none) : s.splitFor st n = s := by
  unfold State.splitFor
  simp [unfused]

/-- A strand that is free, fits, is tested and has room takes the sequence of a plan that is not shadowed (R40, R145, R499). -/
theorem State.placeSeq_begins (admits : s.admits = true) (behind : s.mayQueue st n = false)
    (unfused : (s.strand (st / 2 * 2)).fused = none) (free : (s.strand st).free = true) (fits : s.strandFits st n = true)
    (tested : s.storesTested st = true) (room : s.roomFor (planWeight (s.planFile n)) = true) (plain : s.shadows n = false) :
    s.placeSeq st j n shape 0 place = some (s.beginSeq st j n shape 0 place) := by
  unfold State.placeSeq
  simp [admits, behind, State.splitFor_unfused unfused, free, fits, tested, room, plain]

variable (open_ : h.result = none) (service : h.service ≠ 7)
  (plan : (h.plans.find? fun q => q.1 = 0 || q.1 = role) = some p)
include open_ service plan

/-- A sequence over its plan's shape ends the job, and is counted (R194). -/
theorem State.startSeq_over (exceeds : shapeOver (s.planFile p.2) shape = true) :
    s.startSeq j h st role shape place = (s.bump K.shapeOverPlanCount 1).endJob j (Answer.of St.shapeOverPlan) := by
  unfold State.startSeq
  rw [plan]
  simp [open_, service, exceeds]

variable (within : shapeOver (s.planFile p.2) shape = false) (full : shapeZero (s.planFile p.2) shape = false)
include within full

theorem State.startSeq_waits (none_ : s.placeSeq st j p.2 shape 0 place = none) : s.startSeq j h st role shape place = s := by
  unfold State.startSeq
  rw [plan]
  simp [open_, service, within, full, none_]

theorem State.startSeq_takes {u : State} (takes : s.placeSeq st j p.2 shape 0 place = some u) :
    s.startSeq j h st role shape place = u.onHold j fun x => { x with
      strands := x.strands.filter (· ≠ st) ++ [st]
      ran := x.ran.filter (· ≠ p.1) ++ [p.1]
      seqs := x.seqs ++ [(p.1, place.1, place.2, shape8 shape)] } := by
  unfold State.startSeq
  rw [plan]
  simp [open_, service, within, full, takes]

end Sequence

theorem State.shapeOver_ends (s : State) (j : JobId) :
    Answered s ((s.bump K.shapeOverPlanCount 1).endJob j (Answer.of St.shapeOverPlan)) j St.shapeOverPlan
      ∧ Counted s ((s.bump K.shapeOverPlanCount 1).endJob j (Answer.of St.shapeOverPlan)) K.shapeOverPlanCount 1 :=
  ⟨answered_of_endJob (a := Answer.of St.shapeOverPlan) (s.bump_answers _ _) rfl,
    counted_bump (State.endJob_get _ _ _ (by decide))⟩

/-- The strand of a sequence that begins (R147, R235). -/
theorem State.beginSeq_same (s : State) (st : Nat) (j : JobId) (n : Nat) (shape : List Nat) (sec : Nat) (place : Nat × Nat) :
    let w := (s.beginSeq st j n shape sec place).strand st
    w.phase = .priming ∧ w.job = some j ∧ w.plan = n ∧ w.shape = shape ∧ w.place = place ∧ w.primed = 0 ∧ w.epoch = 0 := by
  unfold State.beginSeq
  dsimp only
  rw [State.newEpoch_strand, if_pos rfl, State.strand_onStrand, if_pos rfl]
  exact ⟨rfl, rfl, rfl, rfl, rfl, rfl, rfl⟩

end Sys2Proof.Machine

namespace Sys2Proof.Claims

/-- A job admitted with a buffer that is free where any is. -/
theorem holds_admitted {s : State} {v : Vault} {j : JobId} {d : Desc} {inp : Sealed} {l : List (Nat × Nat)} {tags : List Nat}
    (open_ : s.openDesc j = some d) (room : s.reserved + jobReserve d inp ≤ bufferBytes)
    (pinned : s.pinKeys (jobKeys d inp) = some ({ s with vault := v }, tags)) :
    Holds (s.admitJob j d inp l) j (fun h => h.service = entService d.entry ∧ h.plans = l ∧ h.keys = tags
        ∧ h.number = s.host.jobs + 1 ∧ h.reserve = jobReserve d inp ∧ h.strands = [] ∧ h.result = none
        ∧ ((∃ a, BufferFree s h.reserve a) → BufferFree s h.reserve h.buf))
      ∧ (s.admitJob j d inp l).host.jobs = s.host.jobs + 1 ∧ (s.admitJob j d inp l).vault = v := by
  obtain ⟨found, unanswered⟩ := State.desc_of_openDesc open_
  obtain ⟨buf, free, admitted⟩ := State.admitJob_admits (j := j) (l := l) room pinned
  rw [admitted]
  obtain ⟨e, desc, answer, hold⟩ := State.admitted_holds (j := j) (d := d)
    (u := { s with vault := v, freeCount := s.freeCount + 1, host := { s.host with jobs := s.host.jobs + 1 } }) found unanswered
    (admitHold s d inp l tags buf) (searchShards d)
  exact ⟨⟨e, _, desc, answer, hold, rfl, rfl, rfl, rfl, rfl, rfl, rfl, free⟩, rfl, rfl⟩

/-- A sequence that a free strand takes: its strand alone changes, and the job holds it. -/
theorem begins_priming {s : State} {j : JobId} {d : Desc} {h : JobHold} (open_ : s.openDesc j = some d) (hold : d.hold = some h)
    (st n : Nat) (shape : List Nat) (place : Nat × Nat) (f : JobHold → JobHold) (takes : st ∈ (f h).strands) :
    let s' := (s.beginSeq st j n shape 0 place).onHold j f
    let w := s'.strand st
    w.phase = .priming ∧ w.job = some j ∧ w.plan = n ∧ w.shape = shape ∧ w.place = place ∧ w.primed = 0 ∧ w.epoch = 0
      ∧ OnlyStrand s s' st ∧ Holds s' j fun h' => st ∈ h'.strands := by
  obtain ⟨found, unanswered⟩ := State.desc_of_openDesc open_
  obtain ⟨phase, job, plan, shape_, place_, primed, epoch⟩ := s.beginSeq_same st j n shape 0 place
  have desc := State.desc_onHold (s := s.beginSeq st j n shape 0 place) found f
  rw [hold] at desc
  exact ⟨phase, job, plan, shape_, place_, primed, epoch, fun w other => s.beginSeq_other other j n shape 0 place,
    _, f h, desc, unanswered, rfl, takes⟩

end Sys2Proof.Claims

/-- Settles O13: the checks by the branch each takes; the admitted job by where its buffer lies; a sequence by the strand
that takes it. -/
theorem jobAdmission : Obligations.JobAdmission := by
  intro s c i inp st role shape part pass
  refine ⟨fun idle => execJobAdmit_idle idle, fun d at_ => ?_, fun d h p open_ service ready hold first open_h plain plan => ?_⟩
  · have checks : ∀ {P : State → Prop}, P (s.checkJob (c.val, i.toNat) d inp) →
        Ends (.jobAdmit c i inp st role shape part pass) s P := fun holds => ⟨_, execJobAdmit_checks at_, holds⟩
    refine ⟨fun revoked => checks ?_, fun revoked args => checks ?_, fun revoked args =>
      ⟨fun e plans => checks ?_, fun l plans => ⟨fun unchecked => checks ?_, fun checked =>
        ⟨fun e fails => checks ?_, fun input shard room s1 tags pinned => checks ?_⟩⟩⟩⟩
    · rw [State.checkJob_revoked revoked]
      exact answeredBy_endWith s _ _
    · rw [State.checkJob_args revoked args]
      exact answeredBy_endWith s _ _
    · rw [State.checkJob_noPlans revoked args plans]
      exact answeredBy_endWith s _ _
    · rw [State.checkJob_noCheckQueue revoked args plans unchecked]
      exact answeredBy_answer rfl rfl
    · rw [State.checkJob_inputs revoked args plans checked fails]
      exact answeredBy_endWith s _ _
    · obtain ⟨open_, -⟩ := at_
      obtain ⟨v, same⟩ := State.pinKeys_vault pinned
      dsimp only at same
      subst same
      rw [State.checkJob_passes revoked args plans checked input shard]
      exact holds_admitted open_ room pinned
  · have starts := execJobAdmit_starts (inp := inp) (st := st) (role := role) (shape := shape) (part := part) (pass := pass)
      open_ service ready hold first
    refine ⟨fun exceeds => ⟨_, starts, ?_⟩, fun within full => ⟨fun closed => ?_, fun admits behind unfused free fits tested room
      unshadowed => ⟨_, starts, ?_⟩⟩⟩
    · rw [State.startSeq_over open_h plain plan exceeds]
      exact s.shapeOver_ends _
    · rw [starts, State.startSeq_waits open_h plain plan within full (State.placeSeq_closed closed)]
    · rw [State.startSeq_takes open_h plain plan within full
        (State.placeSeq_begins admits behind unfused free fits tested room unshadowed)]
      exact begins_priming open_ hold _ _ _ _ _ (List.mem_append_right _ (List.mem_singleton.2 rfl))
end
